-- ==== Sys2Proof/Word.lean ====
section
/-! DEFINITION. Word.lean: the machine's word types (R10, R15: objects are 32 bits wide, multi-byte quantities are little-endian; the time counter is 64 bits wide). -/
namespace Sys2Proof

/-- A byte. -/
abbrev Byte := BitVec 8

/-- The value of one object (R15). -/
abbrev Word := BitVec 32

/-- A value of the 64-bit time counter, in ticks of 4 ns (R14, R124). -/
abbrev Tc := BitVec 64

end Sys2Proof
end

