-- ==== Sys2Proof/Syntax.lean ====
section
/-! DEFINITION. Syntax.lean: the commands the block takes, one constructor for each row of the opcode table, and the types of their operands (what reaches the module from outside at that step). -/
namespace Sys2Proof

/-- The two lanes (R336 and the Lanes chapter). -/
inductive Lane where
  | a
  | b
deriving DecidableEq, Repr

/-- The paths of the object access service (R52). -/
inductive Path where
  | can0
  | eth
  | service
deriving DecidableEq, Repr

/-- A transfer from a lane to the control plane or to a staging: the lane that issues it and the placement epoch it carries (R25, R43). -/
structure Origin where
  lane : Lane
  epoch : Word
deriving DecidableEq, Repr

/-- Who writes an object: a request of a path of the object access service, or the firmware or program of a lane (R52). -/
inductive Writer where
  | path (p : Path)
  | lane (o : Origin)
deriving DecidableEq, Repr

/-- What the encoder inputs show at a count edge or at a Z pulse (R111). -/
inductive EncoderEdge where
  | up
  | down
  | z
deriving DecidableEq, Repr

/-- What one end's POLL came back with (R144, R151): it reached the opposite end, returned as an echo, or returned nothing; and its payload. -/
structure PollBack where
  opposite : Bool
  echoed : Bool
  reach : BitVec 32
  alert : BitVec 32
  edge : BitVec 32
  unaddressed : Bool
deriving DecidableEq, Repr

/-- The two direct trip paths (R234, R239). -/
inductive DirectPath where
  | sc
  | oc
deriving DecidableEq, Repr

/-- The two filtered trip paths (R234, R240). -/
inductive FilteredPath where
  | foc
  | didt
deriving DecidableEq, Repr

/-- What the current sensor of a string reads, as a 12-bit comparator code (R238), and the instant. -/
structure SensedAt where
  code : BitVec 12
  tc : Tc
deriving DecidableEq, Repr

/-- The island inputs that channel 2 sees otherwise than channel 1 (R235), and the instant from which it does. -/
structure SkewAt where
  skew : BitVec 64
  tc : Tc
deriving DecidableEq, Repr

/-- The two rails against chassis as the island measures them, in mV: V_p and V_n (R265). -/
structure Rails where
  vp : Nat
  vn : Nat
deriving DecidableEq, Repr

/-- What the island measures in one phase of an insulation cycle (R266): the means of V_p and V_n, the rails where U was least, the drift of V_p/U in units of 0.001 %. -/
structure ImdMeasure where
  mean : Rails
  low : Rails
  drift : Nat
deriving DecidableEq, Repr

/-- The coefficients a direct write can reach, in the order of CTE_Ln_DB0 to CTE_Ln_DA3 (R292). -/
inductive Coeff where
  | b0
  | b1
  | b2
  | b3
  | a1
  | a2
  | a3
deriving DecidableEq, Repr

/-- A task of the sequence program (R366). -/
inductive SeqTask where
  | init
  | cyclic (k : Nat)
  | event (k : Nat)
  | error
deriving DecidableEq, Repr, Inhabited

/-- The object a variable is bound to (R365, R367): its address, whether the variable is an output, the variable reads or writes a WO object or one in the live set by the access type of the object itself. -/
structure SeqBinding where
  addr : Nat
  output : Bool
deriving DecidableEq, Repr, Inhabited

/-- A variable of the program (R366, R367, R369, R375): its address in the variable image, its width in bits, its initial value, its binding, its station output (station and byte offset, bit 0 upward) or input, its safe value (none for HOLD), the event task that its rising edge triggers. -/
structure SeqVar where
  addr : Nat
  width : Nat
  initial : Nat
  binding : Option SeqBinding
  output : Option (Nat × Nat)
  input : Option (Nat × Nat)
  safe : Option Nat
  trigger : Option Nat
deriving DecidableEq, Repr, Inhabited

/-- A remote I/O station (R370, R371): its index, input and output lengths, RESP_TMO in ms, MISS_MAX, and the substitute of its inputs: 0 zero, 1 hold-last, 2 image values, with those values. -/
structure SeqStation where
  index : Nat
  nIn : Nat
  nOut : Nat
  respTmo : Nat
  missMax : Nat
  subst : Nat
  values : List Byte
deriving DecidableEq, Repr, Inhabited

/-- A compiled sequence program, which the manual does not lay out (R79): the items of R365 to R381 that it fixes. -/
structure SeqProgram where
  cycle : Nat
  wdt : Nat
  cv : Word
  codeBytes : Nat
  imageBytes : Nat
  hasInit : Bool
  cyclic : List (Nat × Nat × Nat)
  events : List Nat
  hasError : Bool
  vars : List SeqVar
  rioBase : Nat
  stations : List SeqStation
deriving DecidableEq, Repr, Inhabited

/-- The work of a program cycle as the compiled program does it (R365): a cycle starts at this commit point (phases 1 to 3); the task evaluations made and the variables each has written, with values; the cycle ends (phases 4 and 5), with its length in 10 µs. -/
structure CycleWork where
  start : Bool
  tasks : List (SeqTask × List (Nat × Nat))
  finish : Bool
  time : Nat
deriving DecidableEq, Repr

/-- What the steps of an on-line change find (R378): the check of the standby lane passes and it has loaded the change. -/
structure OlcCheck where
  standby : Bool
  base : Word
deriving DecidableEq, Repr

/-- A frame as a CAN channel receives it (R382, R387): identifier, extended, remote, FD, BRS, ESI, DLC and data bytes. -/
structure CanRx where
  id : BitVec 29
  ide : Bool
  rtr : Bool
  fdf : Bool
  brs : Bool
  esi : Bool
  dlc : BitVec 4
  data : List Byte
deriving DecidableEq, Repr

/-- The errors a channel detects, as CANc_STAT.LEC names them. -/
inductive CanError where
  | stuff
  | form
  | ack
  | bit1
  | bit0
  | crc
deriving DecidableEq, Repr

/-- What a sleeping transceiver sees (R400): a wake-up pattern, a frame, or its frame error counter passing 31. -/
inductive CanWakeEvent where
  | pattern
  | frame (f : CanRx)
  | errors
deriving DecidableEq, Repr


/-- A Sync of the selected master, with its Follow_Up for a two-step Sync, as the local clock takes it (R413): its domain, its log message interval in seconds, its ingress stamp at the MDI in 1/16 tick, its origin time stamp, and the sum of the correction fields in 2^-16 ns. -/
structure PtpSync where
  domain : Byte
  interval : BitVec 8
  stamp : Nat
  seconds : BitVec 48
  nanos : BitVec 32
  correction : BitVec 64
deriving DecidableEq, Repr

/-- A frame as the switch takes it (R402, R403, R408): its bytes from the destination address to the last before the FCS, whether the FCS is right, its ingress stamp at the MAC in 1/16 tick, and for each port the queues that are full and the egress stamp it gets there. -/
structure EthFrame where
  bytes : List Byte
  fcs : Bool
  stamp : Nat
  full : List (BitVec 4)
  egress : List Nat
deriving DecidableEq, Repr


/-- What converter B gives at the end of a conversion: its code after trim, whether it was at a code limit, and what the mains tracker shows then: amplitude in mV peak and lock (R427, R431). -/
structure AfeResult where
  code : BitVec 17
  limit : Bool
  amp : BitVec 16
  lock : Bool
deriving DecidableEq, Repr

/-- How the recorder's memories take what a step writes (R448): how many attempts at a record fail one after the other, how many counter blocks fail their read-back, whether the health word passes its read-back, and whether the staging has shown an uncorrectable error. -/
structure RecMedia where
  flash : Nat
  fram : Nat
  health : Bool
  ecc : Bool
deriving DecidableEq, Repr


/-- When a wake source is recognised (R462, R463): the wake-clock ticks since T_E; for an event before T_E, whether it falls in the window of the four ticks before it. -/
structure WakeAt where
  tick : Nat
  window : Bool
deriving DecidableEq, Repr

/-- What the verification of a completed transfer finds (R477, R487): the transit tag is right; the payload in clear; its signature verifies with the key that its kind names; the stored form reads back against its own tag. -/
structure XferVerdict where
  tag : Bool
  plain : List Byte
  signed : Bool
  readback : Bool
deriving DecidableEq, Repr

/-- What a write can need beside its value: the result of a signature check (R447, R473), the state of the record memories (R448), whether a frame to be cancelled has won its attempt (R393), what the steps of an on-line change find (R378), the flags of an object that hardware sets in the clock cycle of the write (R63). -/
structure WriteAid where
  signed : Bool
  media : RecMedia
  won : Bool
  olc : OlcCheck
  sets : List (Nat × Word)
deriving DecidableEq, Repr

/-- What the cryptographic checks and the flash reads find at one attempt to load an image slot (R87): the GCM tag is right, the signature verifies, no eMMC read error in either pass. -/
structure LoadCheck where
  tag : Bool
  signed : Bool
  read : Bool
deriving DecidableEq, Repr

/-- The Lid's signals LIDA_P, LIDA_N, LIDB_P and LIDB_N at the output gates (R343): island channel 1 drives each _P, channel 2 each _N. -/
structure LidPins where
  ap : Bool
  an : Bool
  bp : Bool
  bn : Bool
deriving DecidableEq, Repr

/-- What the Lid's signals read back, and the instant (R344). -/
structure LidReadAt where
  back : LidPins
  tc : Tc
deriving DecidableEq, Repr

/-- A fault signal of a lane: its class (R346). -/
structure FaultSignal where
  lane : Lane
  cls : Fin 16
deriving DecidableEq, Repr

/-- A write of LAN_HB: the value and where it comes from (R25, R347). -/
structure Heartbeat where
  value : BitVec 16
  origin : Origin
deriving DecidableEq, Repr

/-- Where a write comes from, and its instant. -/
structure OriginAt where
  origin : Origin
  tc : Tc
deriving DecidableEq, Repr

/-- The firmware version and the image serial that a lane has loaded (R339). -/
structure LaneIds where
  version : Word
  serial : Word
deriving DecidableEq, Repr

/-- A port, and the instant of what happens there. -/
structure PortAt where
  port : Fin 8
  tc : Tc
deriving DecidableEq, Repr

/-- What a supply start finds: the values that inputs, trims and memories show, and FRAM's cause word with its complement (R314, R454). -/
structure SupplyFound where
  given : List (Nat × Word)
  cause : Word × Word
deriving DecidableEq, Repr

/-- What the health check of a lane finds (R342): the lockstep self-test passes, an error of the scrub that could not be corrected, the errors it corrected, and the firmware and image check values held in memory. -/
structure LaneCheck where
  selfTest : Bool
  uncorrectable : Bool
  corrected : Nat
  fw : Word
  image : Word
deriving DecidableEq, Repr

/-- What a start's boot finds (R87, R236, R433, R454): the checks of the primary and of the fallback slot; the island's comparators pass; the factory trims of the AFE are intact; the firmware and image check values that the lane reports (R342); the other lane passes its boot on the same island clock (R339). -/
structure BootCheck where
  primary : LoadCheck
  fallback : LoadCheck
  island : Bool
  trims : Bool
  fwCheck : Word
  imageCheck : Word
  both : Bool
deriving DecidableEq, Repr

/-- The commands: one constructor for each row of spec/opcode_table.json, in the table's order. -/
inductive Instr where
  /-- R38: COMMIT_POINT: A COMMIT schedule firing runs the pending takeover management step, applies a checked live set, then applies the staged limit set, all at one phase count. -/
  | commitPoint (k : Fin 64) (m : RecMedia) (tc : Tc)
  /-- R29: SNAPSHOT_PUBLICATION: The Ladle switches the latest-snapshot pointer to the assembled snapshot with the next epoch and hands cell-limit flags to the Twill. -/
  | snapshotPublication (tc : Tc)
  /-- R304: DISPATCH_COMPLETE: A completed dispatch computation stages its limit-set contribution with its snapshot epoch. -/
  | dispatchComplete (tc : Tc)
  /-- R165: SWEEP_DEADLINE: At the sweep deadline assembly closes and positions not delivered are marked stale. -/
  | sweepDeadline (tc : Tc)
  /-- R53: OBJ_REQUEST_ARRIVAL: An object access request is queued, answered BUSY when the queue is full, or dropped while no lane holds the Lid or the service is disabled. -/
  | objRequestArrival (path : Path) (src : BitVec 48) (pdu : List Byte) (tc : Tc)
  /-- R68: READ_RANGE: Reads n consecutive objects, with snapshot objects from one epoch per the selector. -/
  | readRange (tc : Tc)
  /-- R68: READ_LIST: Reads n listed objects, with snapshot objects from one epoch per the selector. -/
  | readList (tc : Tc)
  /-- R70: WRITE_LIST: Carries out n address and value pairs in list order, with RWS writes entering the staging. -/
  | writeList (x : WriteAid) (tc : Tc)
  /-- R68: EPOCH_QUERY: Returns the latest and previous epochs and the latest aperture time-counter value. -/
  | epochQuery (tc : Tc)
  /-- R16: REGISTER_WRITE: A write to an object without a row of its own acts per its access type. -/
  | registerWrite (a : BitVec 32) (v : Word) (w : Writer) (x : WriteAid) (tc : Tc)
  /-- R97: RWS_WRITE: An RWS write enters the open staging as a whole object, replacing an earlier write to the same address. -/
  | rwsWrite (a : BitVec 32) (v : Word) (w : Writer)
  /-- R125: PAIR_LO_READ: A read of the _LO half of a 64-bit pair copies the matching high word into the holding register. -/
  | pairLoRead (a : BitVec 32) (tc : Tc)
  /-- R92: CFG_SELECT_WRITE: A write of CFG_SELECT is stored in flash for the next start or discarded if it names invalid slots. -/
  | cfgSelectWrite (v : Word)
  /-- R93: CFG_RESTART: Writing the restart key opens every breaker, de-energises every contactor and starts the module. -/
  | cfgRestart (v : Word) (tc : Tc)
  /-- R96: CFG_CONFIRM: Writing the safety check value opens the 10 s window for the complement, or fails the confirmation. -/
  | cfgConfirm (v : Word) (tc : Tc)
  /-- R96: CFG_CONFIRM_INV: Writing the complement within the window writes the confirmation record, otherwise sets CONF_FAIL. -/
  | cfgConfirmInv (v : Word) (tc : Tc)
  /-- R96: CONFIRM_WINDOW_EXPIRY: The 10 s confirmation window closes without the complement. -/
  | confirmWindowExpiry (tc : Tc)
  /-- R96: CONFIRMATION_RECORD_WRITTEN: The flash write of the confirmation record completes and CONFIRMED reads 1. -/
  | confirmationRecordWritten
  /-- R100: LS_SUBMIT: SUBMIT moves the open staging into the submitted set and starts its checks, or posts REJ_OVERFLOW, REJ_EMPTY or is ignored. -/
  | lsSubmit
  /-- R99: LS_DISCARD: DISCARD empties the open staging and clears OVF. -/
  | lsDiscard
  /-- R102: LS_CHECKS_DONE: The live-set checks end, moving the set to PASSED or discarding it with its rejection code and failing address. -/
  | lsChecksDone
  /-- R114: REFERENCE_EVENT: A phase source reference event is qualified and drives the phase base state table. -/
  | referenceEvent (tc : Tc)
  /-- R112: REFERENCE_MISSING: No reference event arrives within its timeout, moving LOCKED to FLYWHEEL or clearing the acquisition history. -/
  | referenceMissing (tc : Tc)
  /-- R114: PHASE_WRAP: The phase accumulator wraps, advancing the cycle count and driving REALIGN, LOCK, flywheel count and fallback. -/
  | phaseWrap (tc : Tc)
  /-- R328: TEST_WINDOW: A TEST_WINDOW firing opens a window in which the next switch in the rotation is tested. -/
  | testWindow (k : Fin 64) (tc : Tc)
  /-- R174: BAL_PAUSE: A BAL_PAUSE firing sends a pause marker from every end that reaches a monitor. -/
  | balPause (k : Fin 64) (tc : Tc)
  /-- R120: APERTURE_NOTICE: The phase base gives the sweep sequencer final notice of an APERTURE firing 16 µs ahead. -/
  | apertureNotice (k : Fin 64) (tc : Tc)
  /-- R160: APERTURE_BROADCAST: At the predicted aperture minus the effective lead, every served port end sends the sampling APERTURE frame. -/
  | apertureBroadcast (tc : Tc)
  /-- R429: ADC_TRIGGER: An ADC_TRIGGER firing makes its converter B group pending. -/
  | adcTrigger (k : Fin 64) (tc : Tc)
  /-- R286: CTL_SAMPLE: A CTL_SAMPLE firing latches all sense streams and issues the group's class P slots. -/
  | ctlSample (k : Fin 64) (tc : Tc)
  /-- R291: TRIM_UPDATE: A TRIM_UPDATE firing forms each selected trimmer's command and loads the compares into the shadow register. -/
  | trimUpdate (k : Fin 64) (tc : Tc)
  /-- R124: MARK: A MARK firing latches the time counter and cycle count into PHB_MARKn. -/
  | mark (k : Fin 64) (tc : Tc)
  /-- R126: ANGLE_MESSAGE_SEND: A publishing module sends one angle message per message interval. -/
  | angleMessageSend (tc : Tc)
  /-- R127: ANGLE_MESSAGE_RECEIVE: A received angle message is discarded or taken as a reference event extrapolated to the next wrap. -/
  | angleMessageReceive (payload : List Byte) (tc : Tc)
  /-- R150: PORT_ENABLE: Enabling a port moves it from OFF to NO_RING with idle on both ends. -/
  | portEnable (p : Fin 8)
  /-- R143: PORT_DISABLE: Disabling a port ends its transactions as ABANDONED and moves it to OFF. -/
  | portDisable (p : Fin 8)
  /-- R148: REENUM: A REENUM write abandons every transaction of the port and restarts enumeration at step 1. -/
  | reenum (x : PortAt)
  /-- R150: ENUMERATION_END: Enumeration ends and the port moves to RING, SPLIT or FAULT with ENUM_DONE. -/
  | enumerationEnd (p : Fin 8)
  /-- R140: TRANSACTION_ISSUE: A queued request is issued once its predicted response interval fits on the serving end. -/
  | transactionIssue (p : Fin 8) (endB : Bool) (tc : Tc)
  /-- R141: RESPONSE_RECEIVE: A response frame is checked and ends its transaction, or is discarded as LATE. -/
  | responseReceive (p : Fin 8) (bytes : List Byte) (lineError : Bool) (roundTrip : Nat) (tc : Tc)
  /-- R139: NO_TARGET: A unicast request reaching the opposite port end ends its transaction with NO_TARGET. -/
  | noTarget (p : Fin 8) (tag : Fin 16)
  /-- R141: TRANSACTION_TIMEOUT: A response not checked by its predicted interval plus margin causes a retry or ends the transaction TIMEOUT. -/
  | transactionTimeout (p : Fin 8) (tag : Fin 16) (tc : Tc)
  /-- R150: LOSS_OF_SIGNAL: An end receiver loses signal, moving RING or SPLIT to LOCATE with POLLs from both ends. -/
  | lossOfSignal (x : PortAt) (endB : Bool)
  /-- R150: VALID_SIGNAL_HELD: Valid signal held for 100 ms on an end moves NO_RING to ENUM. -/
  | validSignalHeld (x : PortAt)
  /-- R150: NO_SIGNAL_TIMEOUT: No valid signal on either end for 10 ms moves the port to NO_RING. -/
  | noSignalTimeout (p : Fin 8)
  /-- R151: POLL_DECISION: When both POLLs have returned or 60 µs passed, the bitmaps are combined and the port state decided. -/
  | pollDecision (p : Fin 8) (fromA : PollBack) (fromB : PollBack) (tc : Tc)
  /-- R151: PERIODIC_POLL: Every POLL_MS the port sends a POLL from each end that reaches a monitor. -/
  | periodicPoll (x : PortAt)
  /-- R164: D_REMEASURE: At least every 5 s the port engine measures D again for each monitor and writes it. -/
  | dRemeasure (p : Fin 8) (m : Fin 32) (endB : Bool) (tc : Tc)
  /-- R156: DERTUR_WAKE_EVENT: 50 µs of activity at a port end in sleep is recognised as a Dertur wake event. -/
  | derturWakeEvent (p : Fin 8) (endB : Bool) (t : WakeAt) (tc : Tc)
  /-- R184: BURST_READ_COMPLETE: Once every reachable monitor's burst is read, bursts are handed to estimation and the buffers re-armed. -/
  | burstReadComplete (p : Fin 8)
  /-- R184: BURST_READ_TIMEOUT: A monitor not read within 250 ms of the freeze is left out and BURST_LOST is set. -/
  | burstReadTimeout (x : PortAt)
  /-- R222: CELL_PASS: The estimation engine evaluates one cell of a delivered block through counting, rest, corridor, learning and health. -/
  | cellPass (g : Fin 4096) (tc : Tc)
  /-- R211: BURST_EVALUATION: A handed-over burst is qualified as a load step and yields Z_1ms points or rejection codes. -/
  | burstEvaluation (p : Fin 8)
  /-- R226: CELL_RESTORE: Once UIDs are known, each declared cell is restored from the newest valid FRAM copy. -/
  | cellRestore (g : Fin 4096)
  /-- R228: RELEARN_CELL: EST_RELEARN with scope 0 resets learned capacity and impedance of one cell. -/
  | relearnCell (g : Fin 4096)
  /-- R228: RELEARN_MONITOR: EST_RELEARN with scope 1 resets learning for every cell of the monitor. -/
  | relearnMonitor (g : Fin 4096)
  /-- R228: RELEARN_STRING: EST_RELEARN with scope 2 resets learning for every cell of the string. -/
  | relearnString (g : Fin 4096)
  /-- R231: WB_WRITE: A write of EST_WB_CTRL.WRITE requests a capacity write-back with cause 5. -/
  | wbWrite (tc : Tc)
  /-- R231: WRITE_BACK_TIMER: 10 min after the previous write-back a cause 2 write-back starts. -/
  | writeBackTimer (tc : Tc)
  /-- R231: WRITE_BACK_COMPLETE: A capacity copy write completes, is read back and checked, and a held trigger starts. -/
  | writeBackComplete (good : Bool) (tc : Tc)
  /-- R239: SC_OC_CROSSING: An SC or OC comparator crossing sets its direct latch, opens the string's breaker and latches Y_s through the Twill. -/
  | scOcCrossing (n : Fin 8) (path : DirectPath) (x : SensedAt)
  /-- R239: DIRECT_LATCH_CLEAR: A direct latch clears at the first inactive clock once held for 4 clocks. -/
  | directLatchClear (n : Fin 8) (path : DirectPath) (tc : Tc)
  /-- R240: FILTERED_PATH_EXPIRY: A FOC or DIDT count reaches its filter length and the Twill input becomes active. -/
  | filteredPathExpiry (n : Fin 8) (path : FilteredPath) (x : SensedAt)
  /-- R237: ISLAND_FAULT: A channel difference lasting 100 clocks opens every breaker and sets ISL_FAULT until the next start. -/
  | islandFault (x : SkewAt)
  /-- R237: ISLAND_FAULT_COIL_TIMEOUT: 5 ms after an island fault every contactor is de-energised if not already. -/
  | islandFaultCoilTimeout (tc : Tc)
  /-- R252: BREAKER_STATUS_CHANGE: A filtered BST change ends an opening wait, records BRK_UNCMD or completes the trip record. -/
  | breakerStatusChange (n : Fin 8) (closed : Bool) (tc : Tc)
  /-- R252: BFLT_CHANGE: A filtered BFLT change makes BRK_DRV present or absent. -/
  | bfltChange (n : Fin 8) (active : Bool) (tc : Tc)
  /-- R252: BRK_OPEN_TIMER: T_BRK_OPEN expires after open drive, raising BRK_FAIL_OPEN or de-energising waiting contactors. -/
  | brkOpenTimer (n : Fin 8) (tc : Tc)
  /-- R252: BRK_CLOSE_TIMER: T_BRK_CLOSE expires without BST closed, raising BRK_FAIL_CLOSE and returning the pair to open drive. -/
  | brkCloseTimer (n : Fin 8) (tc : Tc)
  /-- R258: SEQUENCER_TICK: The island's 10 µs tick takes one queued command per string and evaluates the string state table. -/
  | sequencerTick (bus : Option Rails) (tc : Tc)
  /-- R257: CLOSE: A CLOSE command is queued or refused, starting or continuing the closing sequence at its tick. -/
  | close (n : Fin 8) (o : Origin)
  /-- R260: MATCH: A MATCH is voltage-checked by firmware and queued to close MP or the breaker. -/
  | match (n : Fin 8) (o : Origin)
  /-- R257: OPEN: An OPEN is taken at the next tick, refusing waiting commands and moving to OPENING. -/
  | open (n : Fin 8) (o : Origin)
  /-- R263: RESET: A RESET of a TRIPPED string is accepted after its rest time with no cause active, clearing the latches. -/
  | reset (n : Fin 8) (o : Origin)
  /-- R258: PRECHARGE_TIMEOUT: The precharge timer reaches PC_TMAX and the string goes to OPENING with PC_TIMEOUT. -/
  | prechargeTimeout (n : Fin 8) (tc : Tc)
  /-- R258: PRECHARGE_MIN_REACHED: The precharge timer reaches PC_TMIN and PC_MIN is set. -/
  | prechargeMinReached (n : Fin 8) (tc : Tc)
  /-- R255: CONTACTOR_CLOSE_TIMER: T_CLOSE after energising, a driver not verified closed raises CON_FAIL_CLOSE, otherwise the sequence advances. -/
  | contactorCloseTimer (k : Fin 28) (tc : Tc)
  /-- R255: CONTACTOR_OPEN_TIMER: T_OPEN after de-energising, a driver not verified open raises CON_FAIL_OPEN. -/
  | contactorOpenTimer (k : Fin 28) (tc : Tc)
  /-- R258: DROP_TIMER: The longest T_OPEN passes in DROP and the string moves to OPEN. -/
  | dropTimer (n : Fin 8) (tc : Tc)
  /-- R255: COIL_CHECK_TIMER: 20 ms after energising, a coil current below COIL_IMIN raises COIL. -/
  | coilCheckTimer (k : Fin 28) (tc : Tc)
  /-- R254: PULL_IN_TIMER: PULL_MS after energising the coil drive changes to hold PWM. -/
  | pullInTimer (k : Fin 28) (tc : Tc)
  /-- R255: DRIVER_VERIFY_CHANGE: A coil current or mirror change verifies a driver in its commanded state, ending a present fault. -/
  | driverVerifyChange (k : Fin 28) (ma : BitVec 16) (high : Bool) (tc : Tc)
  /-- R256: COIL_SUPPLY_MEASURE: The 1 ms coil supply measurement updates hold duty and sets or clears BRK_COIL.LOW. -/
  | coilSupplyMeasure (v : BitVec 16)
  /-- R244: AUX_TRIP: BRK_AUX_CMD.TRIP from the Lid holder activates X63 for one island clock. -/
  | auxTrip (o : Origin) (tc : Tc)
  /-- R263: AUX_RESET: BRK_AUX_CMD.RESET resets the latch of an auxiliary output under the reset conditions. -/
  | auxReset (a : Fin 4) (o : Origin) (tc : Tc)
  /-- R245: AUX_OFF: BRK_AUX_CMD.OFF de-energises the named auxiliary driver. -/
  | auxOff (a : Fin 4) (o : Origin) (tc : Tc)
  /-- R256: AUX_ON: BRK_AUX_CMD.ON energises the named auxiliary driver unless refused. -/
  | auxOn (a : Fin 4) (o : Origin) (tc : Tc)
  /-- R264: LOCKOUT_RELEASE: A service-port write of PRT_LOCK_REL releases a lockout, clears its count and returns the string to TRIPPED. -/
  | lockoutRelease (strs : BitVec 8) (o : Origin)
  /-- R262: CAPTURE_FREEZE: The capture buffer freezes after sample 127 and sets HELD. -/
  | captureFreeze (n : Fin 8) (samples : List Byte)
  /-- R262: CAPTURE_REARM: Writing 1 to HELD re-arms the capture buffer. -/
  | captureRearm (n : Fin 8)
  /-- R266: IMD_PHASE_END: An insulation phase ends, and at the end of a cycle R_p and R_n are computed or the cycle discarded. -/
  | imdPhaseEnd (x : ImdMeasure) (tc : Tc)
  /-- R267: COLLAPSE_DETECT: A rail ratio below COLLAPSE for 1 s sets COLLAPSE. -/
  | collapseDetect (tc : Tc)
  /-- R269: REMOVAL_LOOP_OPEN: The removal loop opens and every pair goes to open drive with REMOVE set. -/
  | removalLoopOpen (tc : Tc)
  /-- R288: CLASS_S_EVALUATION: A pipeline evaluates a class S slot in leftover clocks, earliest deadline first. -/
  | classSEvaluation (tc : Tc)
  /-- R274: SENSE_FRAME: A trimmer sense-stream frame is received, CRC-checked and kept or discarded. -/
  | senseFrame (n : Fin 8) (sync : BitVec 16) (bytes : List Byte) (tc : Tc)
  /-- R275: STREAM_LOST: A stream not valid for 10 µs is lost, setting STREAM and moving a running trimmer to BYPASS. -/
  | streamLost (n : Fin 8) (tc : Tc)
  /-- R297: CARRIER_PERIOD_START: At a carrier period start the shadow compare values take effect. -/
  | carrierPeriodStart (n : Fin 8)
  /-- R299: TRIM_ENABLE: ENABLE moves a present trimmer from OFF to BYPASS. -/
  | trimEnable (n : Fin 8) (o : Origin)
  /-- R299: TRIM_RUN: RUN moves a ready trimmer from BYPASS to RUN or is refused. -/
  | trimRun (n : Fin 8) (o : Origin) (tc : Tc)
  /-- R299: TRIM_STOP: STOP moves a running trimmer to BYPASS at the next period start. -/
  | trimStop (n : Fin 8) (o : Origin)
  /-- R299: TRIM_DISABLE: DISABLE moves a trimmer from BYPASS to OFF if its string is inactive. -/
  | trimDisable (n : Fin 8) (o : Origin)
  /-- R292: DIRECT_COEFF_WRITE: A direct coefficient write changes the coefficient in effect at once, or is discarded with DWR_REJ. -/
  | directCoeffWrite (l : Fin 32) (c : Coeff) (v : Word) (o : Origin)
  /-- R306: HOST_P_WRITE: A write of DSP_HOST_P sets the host restraint and restarts the host timer. -/
  | hostPWrite (v : Word) (tc : Tc)
  /-- R306: HOST_TIMEOUT: TMO passes without a write, so dispatch uses DSP_HOST_FB and sets HOST_TMO. -/
  | hostTimeout (tc : Tc)
  /-- R309: HOUSEKEEPING_ROUND: Every 100th commit point the thermal strategy reads temperatures, derates, sets coolant and stages its contribution. -/
  | housekeepingRound (m : RecMedia) (tc : Tc)
  /-- R313: JUNCTION_READING: Each 1 ms junction sensor reading is validated and may trigger thermal shutdown. -/
  | junctionReading (t1 : BitVec 16) (t2 : BitVec 16) (tc : Tc)
  /-- R315: THERMAL_STOP_END: Once both sensors read valid below 95.0 °C the module starts by itself with cause 8. -/
  | thermalStopEnd (tc : Tc)
  /-- R316: SD_ACK: The acknowledgment key clears the cause word when the sensors are cool, or sets ACK_REF. -/
  | sdAck (key : Word)
  /-- R316: CAUSE_WORD_CLEARED: The FRAM clear of the cause word completes, SD_PEND reads 0 and X60 goes inactive. -/
  | causeWordCleared (tc : Tc)
  /-- R322: SI_FILTER_CHANGE: 30 consecutive samples at a level change a safety input channel's filtered state. -/
  | siFilterChange (n : Fin 6) (chB : Bool) (demand : Bool) (tc : Tc)
  /-- R321: DARK_PULSE: A pulse source starts a 400 µs dark pulse every 10 ms. -/
  | darkPulse (sp2 : Bool) (high : BitVec 6) (tc : Tc)
  /-- R325: DISCREPANCY_TICK: At each 1 ms tick the discrepancy counter advances or resets and a held fault may clear. -/
  | discrepancyTick (tc : Tc)
  /-- R324: DISC_FAULT: The discrepancy counter reaches DISC_T and the input has a DISC fault. -/
  | discFault (n : Fin 6) (tc : Tc)
  /-- R327: SAF_RESET: A SAF_RESET write releases a manual-restart function from demand when its raw demand is absent. -/
  | safReset (fns : BitVec 16) (o : Origin) (tc : Tc)
  /-- R328: TEST_PULSE_START: 5 µs after a window opens the tested switch is pulsed for PULSE. -/
  | testPulseStart (tc : Tc)
  /-- R328: TEST_PULSE_END: A test pulse ends and its readback result passes or sets TEST_FAIL. -/
  | testPulseEnd (readback : Bool) (ma : BitVec 16) (tc : Tc)
  /-- R329: TEST_OVERDUE: A used switch untested for TEST_MAX sets TEST_OVERDUE and de-energises its drivers. -/
  | testOverdue (k : Fin 28) (low : Bool) (tc : Tc)
  /-- R332: SAFE_DATA_COPY: A received safe-data copy is validated and ANDs demand bits or completes a dual acceptance. -/
  | safeDataCopy (c : Fin 4) (eth : Bool) (bytes : List Byte) (tc : Tc)
  /-- R332: SD_WINDOW_CLOSE: SD_WIN closes without the second copy and gives a single acceptance. -/
  | sdWindowClose (c : Fin 4) (tc : Tc)
  /-- R333: SD_TIMEOUT: No acceptance for SD_TMO moves a RUN connection to WAIT with data word 0. -/
  | sdTimeout (c : Fin 4) (tc : Tc)
  /-- R333: SD_RESET: A SAF_SD_RESET write moves a FAULT connection to WAIT and forgets its sequence. -/
  | sdReset (conns : BitVec 4)
  /-- R334: SD_WORD_WRITE: The Lid holder's write of SAF_SD_RXc renews the island's data word. -/
  | sdWordWrite (c : Fin 4) (v : Word) (o : Origin) (tc : Tc)
  /-- R334: SD_RENEWAL_TIMEOUT: No accepted write for SD_REN sets the word to 0 and SD_STALE. -/
  | sdRenewalTimeout (c : Fin 4) (tc : Tc)
  /-- R334: SD_REWRITE_TIMER: The lane rewrites all four data words at least every SD_REN / 4. -/
  | sdRewriteTimer (tc : Tc)
  /-- R335: SD_TX_SEND: Every TX_PER the TX connection sends its data word on CAN1 and Ethernet. -/
  | sdTxSend
  /-- R341: LANE_BOOT_DONE: A lane passes its boot self-test and becomes ACTIVE with the Lid, or continues to load as standby. -/
  | laneBootDone (l : Lane) (x : BootCheck) (tc : Tc)
  /-- R341: BOOT_TIMEOUT: Boot not complete within 2 s makes the lane FAULTED with class BOOT. -/
  | bootTimeout (l : Lane) (tc : Tc)
  /-- R339: STANDBY_LOAD_DONE: The other lane completes its load and match and goes to STANDBY, or FAULTED on mismatch. -/
  | standbyLoadDone (l : Lane) (ids : LaneIds) (check : Word × Word) (tc : Tc)
  /-- R341: STANDBY_CHECK_START: STBY_CHK after the last check the standby lane powers up for its health check. -/
  | standbyCheckStart (tc : Tc)
  /-- R342: STANDBY_CHECK_DONE: The health check ends, returning the lane to STANDBY or FAULTED. -/
  | standbyCheckDone (x : LaneCheck) (tc : Tc)
  /-- R341: CHECK_TIMEOUT: A health check not complete within 40 ms makes the lane FAULTED. -/
  | checkTimeout (tc : Tc)
  /-- R348: LANE_FAULT: A fault signal reaches the referee, which decides lane state change, takeover or safe stop. -/
  | laneFault (x : FaultSignal) (also : Option FaultSignal) (tc : Tc)
  /-- R344: LID_READBACK_FAULT: A Lid readback disagreeing for 20 clocks is fault class LID. -/
  | lidReadbackFault (x : LidReadAt)
  /-- R353: NEW_HALF_READY: The new control engine half is ready and rewrites both register image copies. -/
  | newHalfReady (tc : Tc)
  /-- R354: REBUILD_COMPLETE: The new lane completes its rebuild from the management frame and resumes safe-data rewrites. -/
  | rebuildComplete (tc : Tc)
  /-- R341: RESTORE_TIMEOUT: A rebuild not complete within 8 ms of the ready instant ends in safe stop. -/
  | restoreTimeout (tc : Tc)
  /-- R341: REQUAL_DONE: Requalification passes and the displaced lane returns to STANDBY. -/
  | requalDone (x : LaneCheck) (tc : Tc)
  /-- R341: REQUAL_TIMEOUT: Requalification not complete within 40 ms makes the lane FAULTED. -/
  | requalTimeout (tc : Tc)
  /-- R347: HEARTBEAT_WRITE: The active lane writes LAN_HB with the commit count of the cycle. -/
  | heartbeatWrite (x : Heartbeat)
  /-- R359: PLANNED_SWITCH: The planned-switch key requests a final management frame and a PLANNED takeover. -/
  | plannedSwitch (tc : Tc)
  /-- R346: YIELD: Firmware writing the YIELD key raises fault class YIELD. -/
  | yield (x : OriginAt)
  /-- R352: MGMT_FRAME_COMPLETE: A management frame completes with its CRC, and a final planned frame triggers the control step. -/
  | mgmtFrameComplete (tc : Tc)
  /-- R350: STOCKPOT_COMMIT: A Stockpot write is committed 2.56 µs after issue unless discarded at Lid withdrawal. -/
  | stockpotCommit (tc : Tc)
  /-- R360: AUTO_RESTART: With AUTO_RST, 2 s after a safe stop the referee starts the module with cause 4. -/
  | autoRestart (sec : Nat) (tc : Tc)
  /-- R462: WAKE_IN_ASSERT: WAKE_IN asserted wakes the module, starts it from Off, or ends a safe stop after 100 ms low. -/
  | wakeInAssert (t : WakeAt) (low : Bool) (tc : Tc)
  /-- R365: PROGRAM_CYCLE: Every CYCLE-th commit point a program cycle runs boundary, input, task, error and output phases. -/
  | programCycle (x : CycleWork) (tc : Tc)
  /-- R368: PROGRAM_WATCHDOG: A cycle not ended WDT × T_C after its start halts the program with safe outputs. -/
  | programWatchdog (tc : Tc)
  /-- R369: SEQ_RESTART: RESTART makes a cold restart at the next due commit point. -/
  | seqRestart
  /-- R366: SEQ_TRIG: A SEQ_TRIG write triggers the named event tasks for the next cycle. -/
  | seqTrig (bits : BitVec 8)
  /-- R370: RIO_IN_FRAME: An IN frame from a station is validated against the latest OUT sequence. -/
  | rioInFrame (n : Fin 16) (bytes : List Byte) (tc : Tc)
  /-- R371: RIO_RESPONSE_MISSED: No valid IN frame within RESP_TMO counts a miss, and MISS_MAX misses make the station LOST. -/
  | rioResponseMissed (n : Fin 16) (tc : Tc)
  /-- R375: FORCE_SET: Force command 1 fixes a variable at a value from the next phase 1, or is refused. -/
  | forceSet
  /-- R375: FORCE_RELEASE: Force command 2 releases the force on one variable, or is refused NOT_FORCED. -/
  | forceRelease
  /-- R375: FORCE_RELEASE_ALL: Force command 3 releases every force. -/
  | forceReleaseAll
  /-- R378: OLC_APPLY: APPLY starts an on-line change through its verification and standby load steps. -/
  | olcApply (x : OlcCheck)
  /-- R387: CAN_FRAME_RECEIVE: A received frame is stored in its matching receive object, setting NEW or LOST, or counted unmatched. -/
  | canFrameReceive (c : Fin 2) (f : CanRx) (delay : Option (BitVec 7)) (tc : Tc)
  /-- R388: RX_HDR_READ: A read of CANc_RXk_HDR copies TS and data into the holding copy. -/
  | rxHdrRead (c : Fin 2) (k : Fin 64)
  /-- R391: CAN_TX_DONE: A frame is transmitted without error, ends DONE and its buffer is refilled from the queue. -/
  | canTxDone (c : Fin 2) (delay : Option (BitVec 7)) (tc : Tc)
  /-- R392: CAN_ARBITRATION_LOST: A frame loses arbitration and competes again at the next bus idle. -/
  | canArbitrationLost (c : Fin 2)
  /-- R392: CAN_TX_ERROR: A failed attempt advances ATTEMPTS and the error counters and may end the frame FAILED. -/
  | canTxError (c : Fin 2) (e : CanError) (excepted : Bool) (more : Nat)
  /-- R393: TX_CANCEL: A cancel request withdraws a buffer's frame or lets it complete per the deciding instant. -/
  | txCancel (c : Fin 2) (bufs : BitVec 3) (won : Bool)
  /-- R394: CAN_RECOVER: RECOVER starts bus-off recovery. -/
  | canRecover (c : Fin 2)
  /-- R394: BUS_OFF_RECOVERY_DONE: After 128 occurrences of 11 recessive bits the channel returns to error active. -/
  | busOffRecoveryDone (c : Fin 2)
  /-- R398: CAN_REFERENCE_DUE: Every DIV-th commit point a time-master reference message is loaded into TX0. -/
  | canReferenceDue (c : Fin 2)
  /-- R400: CAN_WAKE: A wake-up pattern or selective wake-up frame on a sleeping channel is a wake event. -/
  | canWake (c : Fin 2) (e : CanWakeEvent) (t : WakeAt) (tc : Tc)
  /-- R402: ETH_FRAME_RECEIVE: The switch receives a frame, learns, filters, queues and forwards it. -/
  | ethFrameReceive (p : Fin 3) (f : EthFrame) (tc : Tc)
  /-- R407: PDELAY_REQ_TIMER: Each external port sends a Pdelay_Req every second and invalidates the delay after three failures. -/
  | pdelayReqTimer (p : Fin 2) (stamp : Nat)
  /-- R407: PDELAY_REQ_RECEIVE: A received Pdelay_Req is answered within 10 µs with a one-step Pdelay_Resp. -/
  | pdelayReqReceive (p : Fin 2) (seq : BitVec 16) (ingress : Nat) (egress : Nat)
  /-- R402: ADDRESS_AGE_OUT: A learned address entry ages out after 300 s. -/
  | addressAgeOut (mac : BitVec 48) (tc : Tc)
  /-- R414: PTP_SYNC_RECEIVE: An accepted Sync gives an offset that steps or retunes network time and may lock the servo. -/
  | ptpSyncReceive (m : PtpSync) (tc : Tc)
  /-- R414: SYNC_TIMEOUT: No Sync for 4 × T_S moves the servo to HOLDOVER. -/
  | syncTimeout (change : Bool) (tc : Tc)
  /-- R414: HOLDOVER_TIMEOUT: HOLD_TMO in HOLDOVER moves the servo to FREE. -/
  | holdoverTimeout (tc : Tc)
  /-- R411: TIM_INC_WRITE: An accepted TIM_INC write opens a new network-time segment or is rejected. -/
  | timIncWrite (v : Word) (w : Writer) (tc : Tc)
  /-- R411: TIM_STEP: A TIM_STEP write opens a new segment shifted by signed nanoseconds. -/
  | timStep (v : Word) (w : Writer) (tc : Tc)
  /-- R411: TIM_SET: TIM_CTRL.SET opens a new segment whose base time is TIM_SET. -/
  | timSet (w : Writer) (tc : Tc)
  /-- R412: TIM_CONVERT: A write of TIM_CONV_RAW_HI converts the raw value to network time. -/
  | timConvert (v : Word)
  /-- R416: TPO_ARM: ARM latches a pulse output's configuration or is refused BAD_CFG or LATE. -/
  | tpoArm (n : Fin 4) (tc : Tc)
  /-- R417: TPO_DISARM: DISARM completes the pulse in progress and abandons pending edges. -/
  | tpoDisarm (n : Fin 4)
  /-- R415: TPO_EDGE: A pulse output's rising edge falls at its target tick. -/
  | tpoEdge (n : Fin 4) (tc : Tc)
  /-- R415: TPO_PULSE_END: A pulse ends after its width in ticks. -/
  | tpoPulseEnd (n : Fin 4) (tc : Tc)
  /-- R418: TC10_SLEEP_REQUEST: A TC10 sleep request while awake is rejected or acknowledged per ACCEPT_SLEEP. -/
  | tc10SleepRequest (p : Fin 2)
  /-- R418: ETH_WAKE: A TC10 wake-up pulse in sleep wakes the module or is forwarded. -/
  | ethWake (p : Fin 2) (t : WakeAt) (tc : Tc)
  /-- R407: ETH_LINK_CHANGE: An external port's link goes up or down, setting LINK and invalidating its link delay. -/
  | ethLinkChange (p : Fin 2) (up : Bool)
  /-- R420: CURRENT_ROUND_HOLD: Converter A holds all eight string currents on the round grid, the aperture round included. -/
  | currentRoundHold (codes : List (BitVec 16)) (tc : Tc)
  /-- R424: ROUND_CONVERSION_DONE: A round's results are ready, substituted and counted into Q_CUM and INV. -/
  | roundConversionDone (tc : Tc)
  /-- R429: MAINS_SLOT: Every 50 µs a mains conversion is scheduled on converter B. -/
  | mainsSlot
  /-- R429: CONVERSION_B_DONE: A converter B conversion completes and the next work in priority order starts, with group results written at its end. -/
  | conversionBDone (c : AfeResult)
  /-- R433: AFE_HOUSEKEEPING: Every 10 ms the housekeeping sequence converts NTCs, supplies and references and checks REF_FAULT. -/
  | afeHousekeeping
  /-- R429: AFE_SW_TRIG: A write of AFE_SW_TRIG makes the named groups pending. -/
  | afeSwTrig (v : Word)
  /-- R438: HOURS_INCREMENT: At each completed 0.1 h of operation the hours pair is rewritten. -/
  | hoursIncrement (tc : Tc)
  /-- R445: FOLD_DUE: FOLD hours after the last fold a FOLD record and counter block are written. -/
  | foldDue (m : RecMedia)
  /-- R446: RECORD_LOAD: A REC_RD_SEL write starts loading a record or LIVE record into the read window. -/
  | recordLoad (v : Word)
  /-- R446: RECORD_LOAD_DONE: The read window is filled and REC_RD_END is set equal to REC_RD_BEG. -/
  | recordLoadDone (error : Bool)
  /-- R446: HOLD_START: The hold key starts the bulk-export hold. -/
  | holdStart (key : Word) (tc : Tc)
  /-- R446: HOLD_RELEASE: The release key ends the hold and a due fold follows at the next round. -/
  | holdRelease (key : Word)
  /-- R446: HOLD_TIMEOUT: HOLD_MAX minutes end the bulk-export hold. -/
  | holdTimeout (tc : Tc)
  /-- R447: RECORD_CLEAR: The clear key with a valid token clears the scopes through a pre-clear fold and a CLEAR record, or is refused. -/
  | recordClear (key : Word) (signed : Bool) (m : RecMedia)
  /-- R454: SUPPLY_START: Supply held at or above 8.0 V for 10 ms starts the module through its start steps. -/
  | supplyStart (x : SupplyFound) (wakeIn : Bool) (tc : Tc)
  /-- R449: SUPPLY_LOW: Supply below 8.0 V for 1 ms sets PWR_EVT.LOW. -/
  | supplyLow (vin : BitVec 16)
  /-- R470: POWER_FAIL_DETECT: Supply below 7.2 V starts irrevocable power-failure handling with FRAM writes. -/
  | powerFailDetect (vin : BitVec 16) (tc : Tc)
  /-- R470: POWER_FAIL_SHUTDOWN: 4 ms after detect, breakers open, coils de-energise and lanes, engines and ports power down. -/
  | powerFailShutdown (good : Bool) (tc : Tc)
  /-- R457: STANDBY_REQUEST: PWR_CTRL target 1 requests entry into Standby at the next commit point, or is refused. -/
  | standbyRequest (key : BitVec 16)
  /-- R457: DEEP_STANDBY_REQUEST: PWR_CTRL target 2 requests entry into Deep standby, or is refused. -/
  | deepStandbyRequest (key : BitVec 16)
  /-- R457: OFF_REQUEST: PWR_CTRL target 3 requests entry into Off, or is refused. -/
  | offRequest (key : BitVec 16)
  /-- R458: ENTRY_COMPLETE: At T_E the sleep entry completes on a wake-clock tick and the state's domains are switched off. -/
  | entryComplete (wakeIn : Bool) (tc : Tc)
  /-- R462: WAKE_TIMER_EXPIRY: The wake timer expires PWR_WAKE_TIMER seconds after T_E. -/
  | wakeTimerExpiry (t : WakeAt) (tc : Tc)
  /-- R468: SCRUB_COMPLETE: The retention scrub completes, declaring banks lost with their effects. -/
  | scrubComplete (lost : BitVec 12) (corrected : Nat) (tc : Tc)
  /-- R473: SESSION_OPEN: The open key with a valid session token opens a service session, or is refused. -/
  | sessionOpen (src : BitVec 48) (key : Word) (signed : Bool) (tc : Tc)
  /-- R474: SESSION_CLOSE: The close key ends the service session. -/
  | sessionClose (key : Word)
  /-- R474: SESSION_TIMEOUT: A session ends at its validity or after 10 min without a request. -/
  | sessionTimeout (tc : Tc)
  /-- R476: XFER_START: START opens a transfer to the target, erasing it, or is refused. -/
  | xferStart (v : Word) (tc : Tc)
  /-- R479: XFER_ABORT: ABORT ends the transfer ABORTED with its target INVALID. -/
  | xferAbort (v : Word)
  /-- R477: XFER_DATAGRAM: A transfer datagram is accepted, repeated or out of order, and stored re-encrypted. -/
  | xferDatagram (src : BitVec 48) (bytes : List Byte) (tc : Tc)
  /-- R477: XFER_VERIFY_DONE: Verification of a completed transfer makes the target VERIFIED or INVALID. -/
  | xferVerifyDone (x : XferVerdict)
  /-- R479: XFER_TIMEOUT: 30 s without an accepted block aborts the transfer. -/
  | xferTimeout (tc : Tc)
  /-- R481: FW_ACTIVATE: UPD_FW_ACT sets a trial of a verified firmware slot for the next start. -/
  | fwActivate (v : Word)
  /-- R481: FW_CONFIRM: UPD_FW_CONFIRM makes the running trial slot the run slot and raises SV_MIN. -/
  | fwConfirm (v : Word)
  /-- R484: TAMPER_OPEN: The tamper switch found open opens everything, erases the key store and enables the debug port. -/
  | tamperOpen (erased : Bool) (tc : Tc)
  /-- R394: CAN_RX_ERROR: An error detected while the channel receives a frame raises the receive error counter and can set ERR_WARN or ERR_PASSIVE. -/
  | canRxError (c : Fin 2) (e : CanError) (more : Nat)
  /-- R111: ENCODER_COUNT: A quadrature count edge or a Z pulse on the encoder inputs moves the encoder count up or down, or restarts it at 0 with Z_EN = 1. -/
  | encoderCount (e : EncoderEdge)
  /-- R240: FILTERED_PATH_INACTIVE: An inactive clock of a FOC or DIDT raw comparator restarts its count at 0 and makes its Twill input inactive. -/
  | filteredPathInactive (n : Fin 8) (path : FilteredPath) (tc : Tc)
  /-- R255: COIL_FAULT: Coil current falling below COIL_IMIN while energised after 20 ms, or the driver's 8 A current limit acting, raises fault code 7 COIL and activates X61. -/
  | coilFault (k : Fin 28) (ma : BitVec 16) (limit : Bool) (tc : Tc)
  /-- R267: COLLAPSE_CLEAR: Once both rail ratios are again at or above COLLAPSE, or U falls below IMD_VMIN, COLLAPSE is no longer present and X57 can go inactive. -/
  | collapseClear (tc : Tc)
deriving DecidableEq, Repr

end Sys2Proof
end

