-- ==== Sys2Proof/Decode.lean ====
section
/-! DEFINITION. Decode.lean: commands as words. The block takes commands, and no row of the opcode table gives bits: there is no word to read. -/
namespace Sys2Proof

/-- The command that a word spells by the bits of the opcode table: none, because no row has bits. -/
def decodeTableWord (_nbits _w : Nat) : Option Instr := none

end Sys2Proof
end

