-- ==== Sys2Proof/Config.lean ====
section
/-! DEFINITION. Config.lean: what the manual leaves open. Every constant here is opaque: nothing in the model can evaluate it. -/
namespace Sys2Proof.Config

open Sys2Proof

/-- A free value: what the hardware leaves where the manual states an effect and not the value.
Log entry 3. -/
opaque freeValue : Nat → BitVec 64

/-- Where the manual states a rounding and not where a half goes, or a value in units and not how it is rounded: which of the two neighbours is taken. Log entry 5. -/
opaque roundUp : Int → Nat → Bool

/-- The KM16 NTC code of the sleep over-temperature threshold, from the static threshold in Q8.7 °C: the manual says only that it is derived from it (R192). Log entry 7. -/
opaque sleepOtCode : Nat → Nat

/-- The image fields of the CTE objects that a body of section 0x0007 carries, by object address: the manual names them and does not define the bytes of that section (R79). Log entry 60. -/
opaque loopGraph : List Byte → Nat → Word

/-- The program that a body of section 0x0009 holds: the manual does not define its bytes (R79). Log entry 61. -/
opaque seqProgram : List Byte → SeqProgram

/-- The program that a program change holds (R378, R475). Log entry 61. -/
opaque seqChange : List Byte → SeqProgram

/-- The body of a section of a management frame whose bytes the manual does not lay out, by section type and a count that no two frames share (R352). Log entry 185. -/
opaque frameBody : Nat → Nat → List Byte

/-- LAN_CFG.PL_MIN for an image: the lowest level at which the program, dispatch and the networks fit a commit cycle; the manual gives no computation (R362). Log entry 62. -/
opaque plMin : List (Nat × List Byte) → BitVec 2

/-- The time in ns that a CAN FD frame of a payload length takes at a channel's NBT and DBT: the manual limits the total and gives no formula for one frame (R370). Log entry 64. -/
opaque frameTime : Nat → Nat → Nat → Nat

/-- The keys fused in the core device, which nothing erases or reads out (R472): the root hash and the provisioning hash, the private half of the identity key, the firmware storage key. What a check against them finds comes with a command. Log entry 93. -/
opaque fusedKeys : List (List Byte)

end Sys2Proof.Config
end

