-- ==== Sys2Proof/Machine/Regs.lean ====
section
/-! DEFINITION. Regs.lean: every field of every object map of the manual, by name (R15): its object's address, its lowest bit and its width; and every W1C event flag with its event counter (R62). Written from the object maps of spec/02 to spec/20. An index counts modulo the size of its array, so that no field lies outside its map. -/
namespace Sys2Proof.Machine

/-- One field of one object: the object's address, the field's lowest bit, its width (R15, R9). -/
structure Field where
  addr : Nat
  lo : Nat
  w : Nat
deriving DecidableEq, Repr

/-- A W1C flag that records an event, and its 16-bit event counter (R62). -/
structure EventFlag where
  flag : Field
  cnt : Field
deriving DecidableEq, Repr

end Sys2Proof.Machine

namespace Sys2Proof.Machine.F

open Sys2Proof.Machine

/-! Fields of the object maps of spec/02_object_space.md. -/

def INF_DORMANT_BLK : Field := ⟨0x10, 0, 22⟩

def INF_DORMANT_UNIT_CAN1 : Field := ⟨0x14, 9, 1⟩
def INF_DORMANT_UNIT_CAN0 : Field := ⟨0x14, 8, 1⟩
def INF_DORMANT_UNIT_PORT : Field := ⟨0x14, 0, 8⟩

def OBJ_SVC_CNT_REJECT : Field := ⟨0x10000, 16, 16⟩
def OBJ_SVC_CNT_DONE : Field := ⟨0x10000, 0, 16⟩

def OBJ_EPOCH_LATEST : Field := ⟨0x10004, 0, 32⟩

def OBJ_PLACEMENT_EPOCH : Field := ⟨0x10008, 0, 32⟩

/-! Fields of the object maps of spec/03_structure_image.md. -/

def CFG_STAT_LOAD_ERR : Field := ⟨0x20000, 8, 8⟩
def CFG_STAT_CONF_WIN : Field := ⟨0x20000, 5, 1⟩
def CFG_STAT_CONFIRMED : Field := ⟨0x20000, 4, 1⟩
def CFG_STAT_FALLBACK : Field := ⟨0x20000, 3, 1⟩
def CFG_STAT_VALID : Field := ⟨0x20000, 2, 1⟩
def CFG_STAT_SLOT : Field := ⟨0x20000, 0, 2⟩

def CFG_IMAGE_ID_VALUE : Field := ⟨0x20004, 0, 32⟩

def CFG_STRUCT_CV_VALUE : Field := ⟨0x20008, 0, 32⟩

def CFG_SAFETY_CV_VALUE : Field := ⟨0x2000c, 0, 32⟩

def CFG_SELECT_FB_EN : Field := ⟨0x20010, 8, 1⟩
def CFG_SELECT_FALLBACK : Field := ⟨0x20010, 4, 2⟩
def CFG_SELECT_PRIMARY : Field := ⟨0x20010, 0, 2⟩

def CFG_CONFIRM_VALUE : Field := ⟨0x20014, 0, 32⟩

def CFG_CONFIRM_INV_VALUE : Field := ⟨0x20018, 0, 32⟩

def CFG_RESTART_VALUE : Field := ⟨0x2001c, 0, 32⟩

def CFG_SLOT_STAT_ERR (n : Nat) : Field := ⟨0x20020 + 0x4 * (n % 4), 16, 8⟩
def CFG_SLOT_STAT_IN_EFFECT (n : Nat) : Field := ⟨0x20020 + 0x4 * (n % 4), 7, 1⟩
def CFG_SLOT_STAT_CONFIRMED (n : Nat) : Field := ⟨0x20020 + 0x4 * (n % 4), 6, 1⟩
def CFG_SLOT_STAT_FB_MARK (n : Nat) : Field := ⟨0x20020 + 0x4 * (n % 4), 5, 1⟩
def CFG_SLOT_STAT_PRI_MARK (n : Nat) : Field := ⟨0x20020 + 0x4 * (n % 4), 4, 1⟩
def CFG_SLOT_STAT_STATE (n : Nat) : Field := ⟨0x20020 + 0x4 * (n % 4), 0, 3⟩

def CFG_SLOT_ID_SERIAL (n : Nat) : Field := ⟨0x20030 + 0x4 * (n % 4), 0, 32⟩

def CFG_LS_CTRL_DISCARD : Field := ⟨0x20040, 1, 1⟩
def CFG_LS_CTRL_SUBMIT : Field := ⟨0x20040, 0, 1⟩

def CFG_LS_STAT_SEQ : Field := ⟨0x20044, 16, 16⟩
def CFG_LS_STAT_STATE : Field := ⟨0x20044, 14, 2⟩
def CFG_LS_STAT_OVF : Field := ⟨0x20044, 13, 1⟩
def CFG_LS_STAT_OPEN_CNT : Field := ⟨0x20044, 0, 11⟩

def CFG_LS_LOST_LOST_CNT : Field := ⟨0x20048, 0, 11⟩

def CFG_LS_OUT_SEQ : Field := ⟨0x2004c, 16, 16⟩
def CFG_LS_OUT_CODE : Field := ⟨0x2004c, 0, 8⟩

def CFG_LS_FAIL_ADDR_ADDR : Field := ⟨0x20050, 0, 32⟩

def CFG_LS_APPLY_PH_PHASE : Field := ⟨0x20054, 0, 16⟩

def CFG_LS_APPLY_EPOCH_EPOCH : Field := ⟨0x20058, 0, 32⟩

def CFG_LS_CNT_APPLIED : Field := ⟨0x2005c, 16, 16⟩
def CFG_LS_CNT_SUB_IGN : Field := ⟨0x2005c, 0, 16⟩

def CFG_EVT_CONF_FAIL : Field := ⟨0x20060, 1, 1⟩
def CFG_EVT_LS_DONE : Field := ⟨0x20060, 0, 1⟩

def CFG_EVT_CNT_CONF_FAIL : Field := ⟨0x20064, 16, 16⟩
def CFG_EVT_CNT_LS_DONE : Field := ⟨0x20064, 0, 16⟩

/-! Fields of the object maps of spec/04_phase_base.md. -/

def PHB_STAT_FLYCNT : Field := ⟨0x30000, 5, 3⟩
def PHB_STAT_FALLBACK : Field := ⟨0x30000, 4, 1⟩
def PHB_STAT_SCHED_RUN : Field := ⟨0x30000, 3, 1⟩
def PHB_STAT_STATE : Field := ⟨0x30000, 0, 3⟩

def PHB_EVT_LOCK : Field := ⟨0x30004, 2, 1⟩
def PHB_EVT_FALLBACK : Field := ⟨0x30004, 1, 1⟩
def PHB_EVT_LOSS : Field := ⟨0x30004, 0, 1⟩

def PHB_EVT_CNT0_FALLBACK : Field := ⟨0x30008, 16, 16⟩
def PHB_EVT_CNT0_LOSS : Field := ⟨0x30008, 0, 16⟩

def PHB_EVT_CNT1_LOCK : Field := ⟨0x3000c, 0, 16⟩

def PHB_PHASE_COUNT : Field := ⟨0x30010, 0, 16⟩

def PHB_CYCLE_LO_VALUE : Field := ⟨0x30014, 0, 32⟩

def PHB_CYCLE_HI_VALUE : Field := ⟨0x30018, 0, 32⟩

def PHB_FREQ_MHZ : Field := ⟨0x3001c, 0, 32⟩

def PHB_INC_LO_VALUE : Field := ⟨0x30020, 0, 32⟩

def PHB_INC_HI_VALUE : Field := ⟨0x30024, 0, 5⟩

def PHB_WRAP_TC_LO_VALUE : Field := ⟨0x30028, 0, 32⟩

def PHB_WRAP_TC_HI_VALUE : Field := ⟨0x3002c, 0, 32⟩

def PHB_OFFSET_COUNT : Field := ⟨0x30030, 0, 16⟩

def PHB_SRC_BW : Field := ⟨0x30040, 6, 2⟩
def PHB_SRC_PUBLISH : Field := ⟨0x30040, 5, 1⟩
def PHB_SRC_Z_EN : Field := ⟨0x30040, 4, 1⟩
def PHB_SRC_EDGE : Field := ⟨0x30040, 3, 1⟩
def PHB_SRC_SOURCE : Field := ⟨0x30040, 0, 3⟩

def PHB_NOM_MHZ : Field := ⟨0x30044, 0, 32⟩

def PHB_FMIN_MHZ : Field := ⟨0x30048, 0, 32⟩

def PHB_FMAX_MHZ : Field := ⟨0x3004c, 0, 32⟩

def PHB_INT_MHZ : Field := ⟨0x30050, 0, 32⟩

def PHB_ENC_COUNTS : Field := ⟨0x30054, 0, 17⟩

def PHB_MARK_LO_VALUE (n : Nat) : Field := ⟨0x30080 + 0x10 * (n % 4), 0, 32⟩

def PHB_MARK_HI_VALUE (n : Nat) : Field := ⟨0x30084 + 0x10 * (n % 4), 0, 32⟩

def PHB_MARK_CYC_VALUE (n : Nat) : Field := ⟨0x30088 + 0x10 * (n % 4), 0, 32⟩

def PHB_SCHED_A_TARGET (n : Nat) : Field := ⟨0x30400 + 0x10 * (n % 64), 24, 8⟩
def PHB_SCHED_A_ACTION (n : Nat) : Field := ⟨0x30400 + 0x10 * (n % 64), 16, 4⟩
def PHB_SCHED_A_PHASE (n : Nat) : Field := ⟨0x30400 + 0x10 * (n % 64), 0, 16⟩

def PHB_SCHED_B_OFFSET (n : Nat) : Field := ⟨0x30404 + 0x10 * (n % 64), 16, 16⟩
def PHB_SCHED_B_DIV (n : Nat) : Field := ⟨0x30404 + 0x10 * (n % 64), 0, 16⟩

def PHB_SCHED_C_ARG (n : Nat) : Field := ⟨0x30408 + 0x10 * (n % 64), 16, 16⟩
def PHB_SCHED_C_REPEAT (n : Nat) : Field := ⟨0x30408 + 0x10 * (n % 64), 0, 16⟩

/-! Fields of the object maps of spec/05_dertur_link.md. -/

def DLK_ENABLE_EN : Field := ⟨0x40000, 0, 8⟩

def DLK_INFLIGHT_PEAK : Field := ⟨0x40004, 8, 8⟩
def DLK_INFLIGHT_CUR : Field := ⟨0x40004, 0, 8⟩

def DLK_WAKE_END : Field := ⟨0x40008, 0, 16⟩

def DLK_WAKE_CNT_CNT : Field := ⟨0x4000c, 0, 16⟩

def DLK_WAKE_CNTN_B (n : Nat) : Field := ⟨0x40010 + 0x4 * (n % 8), 16, 16⟩
def DLK_WAKE_CNTN_A (n : Nat) : Field := ⟨0x40010 + 0x4 * (n % 8), 0, 16⟩

def DLK_P_STAT_DLY_ERR (n : Nat) : Field := ⟨0x41000 + 0x1000 * (n % 8), 31, 1⟩
def DLK_P_STAT_OUTST (n : Nat) : Field := ⟨0x41000 + 0x1000 * (n % 8), 26, 5⟩
def DLK_P_STAT_OVERCOUNT (n : Nat) : Field := ⟨0x41000 + 0x1000 * (n % 8), 25, 1⟩
def DLK_P_STAT_ORIENT_ERR (n : Nat) : Field := ⟨0x41000 + 0x1000 * (n % 8), 24, 1⟩
def DLK_P_STAT_COUNT_ERR (n : Nat) : Field := ⟨0x41000 + 0x1000 * (n % 8), 23, 1⟩
def DLK_P_STAT_B_CNT (n : Nat) : Field := ⟨0x41000 + 0x1000 * (n % 8), 17, 6⟩
def DLK_P_STAT_A_CNT (n : Nat) : Field := ⟨0x41000 + 0x1000 * (n % 8), 11, 6⟩
def DLK_P_STAT_FOUND (n : Nat) : Field := ⟨0x41000 + 0x1000 * (n % 8), 5, 6⟩
def DLK_P_STAT_STATE (n : Nat) : Field := ⟨0x41000 + 0x1000 * (n % 8), 0, 3⟩

def DLK_P_REACH_MON (n : Nat) : Field := ⟨0x41004 + 0x1000 * (n % 8), 0, 32⟩

def DLK_P_ALERT_MON (n : Nat) : Field := ⟨0x41008 + 0x1000 * (n % 8), 0, 32⟩

def DLK_P_EDGE_MON (n : Nat) : Field := ⟨0x4100c + 0x1000 * (n % 8), 0, 32⟩

def DLK_P_SERVE_B_MON (n : Nat) : Field := ⟨0x41010 + 0x1000 * (n % 8), 0, 32⟩

def DLK_P_CFG_POLL_MS (n : Nat) : Field := ⟨0x41020 + 0x1000 * (n % 8), 16, 8⟩
def DLK_P_CFG_RETRY (n : Nat) : Field := ⟨0x41020 + 0x1000 * (n % 8), 8, 3⟩
def DLK_P_CFG_MARGIN (n : Nat) : Field := ⟨0x41020 + 0x1000 * (n % 8), 0, 8⟩

def DLK_P_CTRL_REENUM (n : Nat) : Field := ⟨0x41024 + 0x1000 * (n % 8), 0, 1⟩

def DLK_P_EVT_TRANSIENT (n : Nat) : Field := ⟨0x41028 + 0x1000 * (n % 8), 5, 1⟩
def DLK_P_EVT_ALERT (n : Nat) : Field := ⟨0x41028 + 0x1000 * (n % 8), 4, 1⟩
def DLK_P_EVT_RING_LOST (n : Nat) : Field := ⟨0x41028 + 0x1000 * (n % 8), 3, 1⟩
def DLK_P_EVT_RECLOSE (n : Nat) : Field := ⟨0x41028 + 0x1000 * (n % 8), 2, 1⟩
def DLK_P_EVT_BREAK (n : Nat) : Field := ⟨0x41028 + 0x1000 * (n % 8), 1, 1⟩
def DLK_P_EVT_ENUM_DONE (n : Nat) : Field := ⟨0x41028 + 0x1000 * (n % 8), 0, 1⟩

def DLK_P_EVT_CNT0_BREAK (n : Nat) : Field := ⟨0x4102c + 0x1000 * (n % 8), 16, 16⟩
def DLK_P_EVT_CNT0_ENUM_DONE (n : Nat) : Field := ⟨0x4102c + 0x1000 * (n % 8), 0, 16⟩

def DLK_P_EVT_CNT1_RING_LOST (n : Nat) : Field := ⟨0x41030 + 0x1000 * (n % 8), 16, 16⟩
def DLK_P_EVT_CNT1_RECLOSE (n : Nat) : Field := ⟨0x41030 + 0x1000 * (n % 8), 0, 16⟩

def DLK_P_EVT_CNT2_TRANSIENT (n : Nat) : Field := ⟨0x41034 + 0x1000 * (n % 8), 16, 16⟩
def DLK_P_EVT_CNT2_ALERT (n : Nat) : Field := ⟨0x41034 + 0x1000 * (n % 8), 0, 16⟩

def DLK_P_CNT_LINE_LINE (n : Nat) : Field := ⟨0x41038 + 0x1000 * (n % 8), 16, 16⟩
def DLK_P_CNT_LINE_CRC (n : Nat) : Field := ⟨0x41038 + 0x1000 * (n % 8), 0, 16⟩

def DLK_P_CNT_TXN_TIMEOUT (n : Nat) : Field := ⟨0x4103c + 0x1000 * (n % 8), 16, 16⟩
def DLK_P_CNT_TXN_RETRY (n : Nat) : Field := ⟨0x4103c + 0x1000 * (n % 8), 0, 16⟩

def DLK_P_CNT_FAIL_LATE (n : Nat) : Field := ⟨0x41040 + 0x1000 * (n % 8), 16, 16⟩
def DLK_P_CNT_FAIL_FAILED (n : Nat) : Field := ⟨0x41040 + 0x1000 * (n % 8), 0, 16⟩

def DLK_P_ABANDON_CNT (n : Nat) : Field := ⟨0x41044 + 0x1000 * (n % 8), 0, 16⟩

def DLK_P_DLY_B (n : Nat) (m : Nat) : Field := ⟨0x41100 + 0x1000 * (n % 8) + 0x4 * (m % 32), 16, 16⟩
def DLK_P_DLY_A (n : Nat) (m : Nat) : Field := ⟨0x41100 + 0x1000 * (n % 8) + 0x4 * (m % 32), 0, 16⟩

def DLK_P_UID_LO_VALUE (n : Nat) (m : Nat) : Field := ⟨0x41200 + 0x1000 * (n % 8) + 0x8 * (m % 32), 0, 32⟩

def DLK_P_UID_HI_VALUE (n : Nat) (m : Nat) : Field := ⟨0x41204 + 0x1000 * (n % 8) + 0x8 * (m % 32), 0, 32⟩

/-! Fields of the object maps of spec/06_bank_sweep.md. -/

def SWP_CTRL_BURST_EN : Field := ⟨0x50000, 2, 1⟩
def SWP_CTRL_DIAG_EN : Field := ⟨0x50000, 1, 1⟩
def SWP_CTRL_EN : Field := ⟨0x50000, 0, 1⟩

def SWP_STAT_STALE_STR : Field := ⟨0x50004, 8, 8⟩
def SWP_STAT_BUSY : Field := ⟨0x50004, 1, 1⟩
def SWP_STAT_RUN : Field := ⟨0x50004, 0, 1⟩

def SWP_CFG_STALE_MAX : Field := ⟨0x50008, 8, 8⟩
def SWP_CFG_LEAD : Field := ⟨0x50008, 0, 8⟩

def SWP_DEADLINE_US : Field := ⟨0x5000c, 0, 20⟩

def SWP_BAL_CFG_WDT : Field := ⟨0x50010, 24, 8⟩
def SWP_BAL_CFG_BAL_OFF : Field := ⟨0x50010, 16, 8⟩
def SWP_BAL_CFG_BAL_ON : Field := ⟨0x50010, 8, 8⟩
def SWP_BAL_CFG_BAL_MAX : Field := ⟨0x50010, 3, 5⟩
def SWP_BAL_CFG_MODE : Field := ⟨0x50010, 0, 2⟩

def SWP_BAL_TIME_SETTLE : Field := ⟨0x50014, 16, 16⟩
def SWP_BAL_TIME_PAUSE : Field := ⟨0x50014, 0, 16⟩

def SWP_OW_CFG_SUM_TOL : Field := ⟨0x50018, 24, 8⟩
def SWP_OW_CFG_SPLIT_MIN : Field := ⟨0x50018, 16, 8⟩
def SWP_OW_CFG_OW_DELTA : Field := ⟨0x50018, 8, 8⟩
def SWP_OW_CFG_OW_TIME : Field := ⟨0x50018, 0, 8⟩

def SWP_DIAG_CFG_DIAG_EVERY : Field := ⟨0x5001c, 16, 8⟩
def SWP_DIAG_CFG_REF_TOL : Field := ⟨0x5001c, 8, 8⟩
def SWP_DIAG_CFG_DIAG_TOL : Field := ⟨0x5001c, 0, 8⟩

def SWP_BURST_CFG_TRIG : Field := ⟨0x50020, 8, 8⟩
def SWP_BURST_CFG_POST : Field := ⟨0x50020, 0, 6⟩

def SWP_LEAD_EFF_LEAD : Field := ⟨0x50024, 0, 12⟩

def SWP_EVT_STALE_LIMIT : Field := ⟨0x50030, 5, 1⟩
def SWP_EVT_BURST_LOST : Field := ⟨0x50030, 4, 1⟩
def SWP_EVT_BURST_DONE : Field := ⟨0x50030, 3, 1⟩
def SWP_EVT_SPLIT_UNEX : Field := ⟨0x50030, 2, 1⟩
def SWP_EVT_OW_CONF : Field := ⟨0x50030, 1, 1⟩
def SWP_EVT_DIAG_FAIL : Field := ⟨0x50030, 0, 1⟩

def SWP_EVT_CNT0_OW_CONF : Field := ⟨0x50034, 16, 16⟩
def SWP_EVT_CNT0_DIAG_FAIL : Field := ⟨0x50034, 0, 16⟩

def SWP_EVT_CNT1_BURST_DONE : Field := ⟨0x50038, 16, 16⟩
def SWP_EVT_CNT1_SPLIT_UNEX : Field := ⟨0x50038, 0, 16⟩

def SWP_EVT_CNT2_STALE_LIMIT : Field := ⟨0x5003c, 16, 16⟩
def SWP_EVT_CNT2_BURST_LOST : Field := ⟨0x5003c, 0, 16⟩

def SWP_ABANDON_CNT : Field := ⟨0x50040, 0, 16⟩

def SWP_DIAG_POS_MON (n : Nat) : Field := ⟨0x50060 + 0x4 * (n % 8), 8, 5⟩
def SWP_DIAG_POS_STEP (n : Nat) : Field := ⟨0x50060 + 0x4 * (n % 8), 0, 2⟩

def SWP_LIMIT_FLAGS (n : Nat) : Field := ⟨0x50100 + 0x4 * (n % 8), 0, 7⟩

def SWP_BAL_ODD (n : Nat) : Field := ⟨0x50800 + 0x4 * (n % 128), 16, 16⟩
def SWP_BAL_EVEN (n : Nat) : Field := ⟨0x50800 + 0x4 * (n % 128), 0, 16⟩

def SWP_OWL_LINES (n : Nat) : Field := ⟨0x51000 + 0x4 * (n % 256), 0, 17⟩

def SWP_STACK_SUM_MISMATCH (n : Nat) : Field := ⟨0x51400 + 0x4 * (n % 256), 21, 1⟩
def SWP_STACK_STALE (n : Nat) : Field := ⟨0x51400 + 0x4 * (n % 256), 20, 1⟩
def SWP_STACK_VOLT (n : Nat) : Field := ⟨0x51400 + 0x4 * (n % 256), 0, 20⟩

def SWP_V_AGE (n : Nat) : Field := ⟨0x54000 + 0x4 * (n % 4096), 26, 6⟩
def SWP_V_ABSENT (n : Nat) : Field := ⟨0x54000 + 0x4 * (n % 4096), 25, 1⟩
def SWP_V_OW_CONF (n : Nat) : Field := ⟨0x54000 + 0x4 * (n % 4096), 24, 1⟩
def SWP_V_OW_SUSPECT (n : Nat) : Field := ⟨0x54000 + 0x4 * (n % 4096), 23, 1⟩
def SWP_V_STALE (n : Nat) : Field := ⟨0x54000 + 0x4 * (n % 4096), 21, 1⟩
def SWP_V_OWT (n : Nat) : Field := ⟨0x54000 + 0x4 * (n % 4096), 20, 1⟩
def SWP_V_BLEED (n : Nat) : Field := ⟨0x54000 + 0x4 * (n % 4096), 19, 1⟩
def SWP_V_SETTLE (n : Nat) : Field := ⟨0x54000 + 0x4 * (n % 4096), 18, 1⟩
def SWP_V_CODE (n : Nat) : Field := ⟨0x54000 + 0x4 * (n % 4096), 0, 18⟩

def SWP_T_AGE (n : Nat) : Field := ⟨0x58000 + 0x4 * (n % 2048), 18, 6⟩
def SWP_T_STALE (n : Nat) : Field := ⟨0x58000 + 0x4 * (n % 2048), 16, 1⟩
def SWP_T_TEMP (n : Nat) : Field := ⟨0x58000 + 0x4 * (n % 2048), 0, 16⟩

/-! Fields of the object maps of spec/07_state_estimation.md. -/

def EST_CTRL_EN : Field := ⟨0x60000, 0, 1⟩

def EST_STAT_CAP_LOST : Field := ⟨0x60004, 5, 1⟩
def EST_STAT_WB_BUSY : Field := ⟨0x60004, 4, 1⟩
def EST_STAT_REST_POINT : Field := ⟨0x60004, 3, 1⟩
def EST_STAT_BANK_REST : Field := ⟨0x60004, 2, 1⟩
def EST_STAT_BUSY : Field := ⟨0x60004, 1, 1⟩
def EST_STAT_RUN : Field := ⟨0x60004, 0, 1⟩

def EST_REST_CFG_SEP : Field := ⟨0x60008, 16, 8⟩
def EST_REST_CFG_T_STAB : Field := ⟨0x60008, 8, 8⟩
def EST_REST_CFG_REST_MIN : Field := ⟨0x60008, 0, 8⟩

def EST_CORR_CFG_CORR_N : Field := ⟨0x6000c, 24, 8⟩
def EST_CORR_CFG_K_Z : Field := ⟨0x6000c, 16, 4⟩
def EST_CORR_CFG_E_V : Field := ⟨0x6000c, 8, 8⟩
def EST_CORR_CFG_W0 : Field := ⟨0x6000c, 0, 8⟩

def EST_LEARN_CFG_STEP_EN : Field := ⟨0x60010, 17, 1⟩
def EST_LEARN_CFG_LEARN_EN : Field := ⟨0x60010, 16, 1⟩
def EST_LEARN_CFG_Z_SHIFT : Field := ⟨0x60010, 8, 4⟩
def EST_LEARN_CFG_WEIGHT : Field := ⟨0x60010, 0, 8⟩

def EST_ABANDON_CNT : Field := ⟨0x60014, 0, 16⟩

def EST_RELEARN_SCOPE : Field := ⟨0x60018, 12, 2⟩
def EST_RELEARN_G : Field := ⟨0x60018, 0, 12⟩

def EST_WB_CTRL_WRITE : Field := ⟨0x6001c, 0, 1⟩

def EST_WB_STAT_LAST_OK : Field := ⟨0x60020, 8, 1⟩
def EST_WB_STAT_CAUSE : Field := ⟨0x60020, 4, 4⟩
def EST_WB_STAT_B_VALID : Field := ⟨0x60020, 3, 1⟩
def EST_WB_STAT_A_VALID : Field := ⟨0x60020, 2, 1⟩
def EST_WB_STAT_LAST : Field := ⟨0x60020, 0, 2⟩

def EST_WB_SEQ_SEQ : Field := ⟨0x60024, 0, 32⟩

def EST_EVT_RET_LOST : Field := ⟨0x60030, 5, 1⟩
def EST_EVT_CAP_LOST : Field := ⟨0x60030, 4, 1⟩
def EST_EVT_WB_FAIL : Field := ⟨0x60030, 3, 1⟩
def EST_EVT_LEARN_REJ : Field := ⟨0x60030, 2, 1⟩
def EST_EVT_LEARNED : Field := ⟨0x60030, 1, 1⟩
def EST_EVT_DRIFT : Field := ⟨0x60030, 0, 1⟩

def EST_EVT_CNT0_LEARNED : Field := ⟨0x60034, 16, 16⟩
def EST_EVT_CNT0_DRIFT : Field := ⟨0x60034, 0, 16⟩

def EST_EVT_CNT1_WB_FAIL : Field := ⟨0x60038, 16, 16⟩
def EST_EVT_CNT1_LEARN_REJ : Field := ⟨0x60038, 0, 16⟩

def EST_EVT_CNT2_RET_LOST : Field := ⟨0x6003c, 16, 16⟩
def EST_EVT_CNT2_CAP_LOST : Field := ⟨0x6003c, 0, 16⟩

def EST_STEP_CNT (n : Nat) : Field := ⟨0x60100 + 0x4 * (n % 8), 16, 16⟩
def EST_STEP_LAST (n : Nat) : Field := ⟨0x60100 + 0x4 * (n % 8), 0, 8⟩

def EST_STR_A_R_BLEED (n : Nat) : Field := ⟨0x60200 + 0x8 * (n % 8), 16, 16⟩
def EST_STR_A_TABLE (n : Nat) : Field := ⟨0x60200 + 0x8 * (n % 8), 0, 2⟩

def EST_STR_Z_Z_REF (n : Nat) : Field := ⟨0x60204 + 0x8 * (n % 8), 0, 32⟩

def EST_CELL_STALE (n : Nat) : Field := ⟨0x64000 + 0x4 * (n % 4096), 24, 1⟩
def EST_CELL_Z_NEW (n : Nat) : Field := ⟨0x64000 + 0x4 * (n % 4096), 23, 1⟩
def EST_CELL_LEARNED (n : Nat) : Field := ⟨0x64000 + 0x4 * (n % 4096), 22, 1⟩
def EST_CELL_SEG (n : Nat) : Field := ⟨0x64000 + 0x4 * (n % 4096), 20, 2⟩
def EST_CELL_CORR_OFF (n : Nat) : Field := ⟨0x64000 + 0x4 * (n % 4096), 19, 1⟩
def EST_CELL_AT_REST (n : Nat) : Field := ⟨0x64000 + 0x4 * (n % 4096), 18, 1⟩
def EST_CELL_SOC_INIT (n : Nat) : Field := ⟨0x64000 + 0x4 * (n % 4096), 17, 1⟩
def EST_CELL_DRIFT (n : Nat) : Field := ⟨0x64000 + 0x4 * (n % 4096), 16, 1⟩
def EST_CELL_SOC (n : Nat) : Field := ⟨0x64000 + 0x4 * (n % 4096), 0, 16⟩

/-! Fields of the object maps of spec/08_protection.md. -/

def PRT_STAT_REMOVE : Field := ⟨0x70000, 24, 1⟩
def PRT_STAT_LOCKOUT : Field := ⟨0x70000, 16, 8⟩
def PRT_STAT_TRIPPED : Field := ⟨0x70000, 8, 8⟩
def PRT_STAT_CLOSE_BLOCK : Field := ⟨0x70000, 2, 1⟩
def PRT_STAT_ISL_FAULT : Field := ⟨0x70000, 1, 1⟩
def PRT_STAT_ARMED : Field := ⟨0x70000, 0, 1⟩

def PRT_EVT_CAP_MISSED : Field := ⟨0x70004, 5, 1⟩
def PRT_EVT_FOREIGN : Field := ⟨0x70004, 4, 1⟩
def PRT_EVT_INS_FAULT : Field := ⟨0x70004, 3, 1⟩
def PRT_EVT_INS_WARN : Field := ⟨0x70004, 2, 1⟩
def PRT_EVT_DISC : Field := ⟨0x70004, 1, 1⟩
def PRT_EVT_TRIP : Field := ⟨0x70004, 0, 1⟩

def PRT_EVT_CNT0_DISC : Field := ⟨0x70008, 16, 16⟩
def PRT_EVT_CNT0_TRIP : Field := ⟨0x70008, 0, 16⟩

def PRT_EVT_CNT1_INS_FAULT : Field := ⟨0x7000c, 16, 16⟩
def PRT_EVT_CNT1_INS_WARN : Field := ⟨0x7000c, 0, 16⟩

def PRT_EVT_CNT2_CAP_MISSED : Field := ⟨0x70010, 16, 16⟩
def PRT_EVT_CNT2_FOREIGN : Field := ⟨0x70010, 0, 16⟩

def PRT_TWILL_IN_LO_X : Field := ⟨0x70014, 0, 32⟩

def PRT_TWILL_IN_HI_X : Field := ⟨0x70018, 0, 32⟩

def PRT_TWILL_OUT_Y : Field := ⟨0x7001c, 0, 20⟩

def PRT_IMD_STAT_CYCLES : Field := ⟨0x70020, 16, 16⟩
def PRT_IMD_STAT_PHASE : Field := ⟨0x70020, 6, 2⟩
def PRT_IMD_STAT_COLLAPSE : Field := ⟨0x70020, 5, 1⟩
def PRT_IMD_STAT_FOREIGN : Field := ⟨0x70020, 4, 1⟩
def PRT_IMD_STAT_RESULT : Field := ⟨0x70020, 2, 2⟩
def PRT_IMD_STAT_ROLE : Field := ⟨0x70020, 0, 2⟩

def PRT_IMD_R_RN : Field := ⟨0x70024, 16, 16⟩
def PRT_IMD_R_RP : Field := ⟨0x70024, 0, 16⟩

def PRT_IMD_U_U : Field := ⟨0x70028, 0, 16⟩

def PRT_LOCK_REL_STR : Field := ⟨0x7002c, 0, 8⟩

def PRT_S_SC_DIS (n : Nat) : Field := ⟨0x70100 + 0x40 * (n % 8), 16, 16⟩
def PRT_S_SC_CHG (n : Nat) : Field := ⟨0x70100 + 0x40 * (n % 8), 0, 16⟩

def PRT_S_OC_DIS (n : Nat) : Field := ⟨0x70104 + 0x40 * (n % 8), 16, 16⟩
def PRT_S_OC_CHG (n : Nat) : Field := ⟨0x70104 + 0x40 * (n % 8), 0, 16⟩

def PRT_S_FOC_DIS (n : Nat) : Field := ⟨0x70108 + 0x40 * (n % 8), 16, 16⟩
def PRT_S_FOC_CHG (n : Nat) : Field := ⟨0x70108 + 0x40 * (n % 8), 0, 16⟩

def PRT_S_FOC_EFF_DIS (n : Nat) : Field := ⟨0x7010c + 0x40 * (n % 8), 16, 16⟩
def PRT_S_FOC_EFF_CHG (n : Nat) : Field := ⟨0x7010c + 0x40 * (n % 8), 0, 16⟩

def PRT_S_DIDT_DIDT_FILT (n : Nat) : Field := ⟨0x70110 + 0x40 * (n % 8), 24, 8⟩
def PRT_S_DIDT_FOC_FILT (n : Nat) : Field := ⟨0x70110 + 0x40 * (n % 8), 16, 8⟩
def PRT_S_DIDT_LEVEL (n : Nat) : Field := ⟨0x70110 + 0x40 * (n % 8), 0, 16⟩

def PRT_S_OV_CODE (n : Nat) : Field := ⟨0x70114 + 0x40 * (n % 8), 0, 18⟩

def PRT_S_UV_CODE (n : Nat) : Field := ⟨0x70118 + 0x40 * (n % 8), 0, 18⟩

def PRT_S_TEMP_OT (n : Nat) : Field := ⟨0x7011c + 0x40 * (n % 8), 16, 16⟩
def PRT_S_TEMP_UT (n : Nat) : Field := ⟨0x7011c + 0x40 * (n % 8), 0, 16⟩

def PRT_S_TRIP_TC_LO_VALUE (n : Nat) : Field := ⟨0x70120 + 0x40 * (n % 8), 0, 32⟩

def PRT_S_TRIP_TC_HI_VALUE (n : Nat) : Field := ⟨0x70124 + 0x40 * (n % 8), 0, 32⟩

def PRT_S_TRIP_CAUSE_LO_VALUE (n : Nat) : Field := ⟨0x70128 + 0x40 * (n % 8), 0, 32⟩

def PRT_S_TRIP_CAUSE_HI_VALUE (n : Nat) : Field := ⟨0x7012c + 0x40 * (n % 8), 0, 32⟩

def PRT_S_TRIP_INFO_BRK_TIME (n : Nat) : Field := ⟨0x70130 + 0x40 * (n % 8), 16, 16⟩
def PRT_S_TRIP_INFO_CNT (n : Nat) : Field := ⟨0x70130 + 0x40 * (n % 8), 0, 16⟩

def PRT_S_CAP_STAT_HELD_CNT (n : Nat) : Field := ⟨0x70134 + 0x40 * (n % 8), 16, 16⟩
def PRT_S_CAP_STAT_LOCK_CNT (n : Nat) : Field := ⟨0x70134 + 0x40 * (n % 8), 1, 4⟩
def PRT_S_CAP_STAT_HELD (n : Nat) : Field := ⟨0x70134 + 0x40 * (n % 8), 0, 1⟩

def PRT_CAP_SAMPLES (n : Nat) (m : Nat) : Field := ⟨0x70800 + 0x80 * (n % 8) + 0x4 * (m % 32), 0, 32⟩

def BRK_COIL_LOW : Field := ⟨0x80000, 16, 1⟩
def BRK_COIL_V : Field := ⟨0x80000, 0, 16⟩

def BRK_REFUSE_CNT : Field := ⟨0x80004, 16, 16⟩
def BRK_REFUSE_TARGET : Field := ⟨0x80004, 8, 4⟩
def BRK_REFUSE_CODE : Field := ⟨0x80004, 0, 8⟩

def BRK_AUX_CMD_TRIP : Field := ⟨0x80008, 12, 1⟩
def BRK_AUX_CMD_RESET : Field := ⟨0x80008, 8, 4⟩
def BRK_AUX_CMD_OFF : Field := ⟨0x80008, 4, 4⟩
def BRK_AUX_CMD_ON : Field := ⟨0x80008, 0, 4⟩

def BRK_MATCH_CFG_AUTO : Field := ⟨0x8000c, 8, 1⟩
def BRK_MATCH_CFG_DV : Field := ⟨0x8000c, 0, 8⟩

def BRK_S_CMD_CODE (n : Nat) : Field := ⟨0x80100 + 0x10 * (n % 8), 0, 3⟩

def BRK_S_STAT_FAULT (n : Nat) : Field := ⟨0x80104 + 0x10 * (n % 8), 12, 4⟩
def BRK_S_STAT_BFLT (n : Nat) : Field := ⟨0x80104 + 0x10 * (n % 8), 11, 1⟩
def BRK_S_STAT_BST (n : Nat) : Field := ⟨0x80104 + 0x10 * (n % 8), 10, 1⟩
def BRK_S_STAT_PAIR (n : Nat) : Field := ⟨0x80104 + 0x10 * (n % 8), 8, 2⟩
def BRK_S_STAT_PC_MIN (n : Nat) : Field := ⟨0x80104 + 0x10 * (n % 8), 4, 1⟩
def BRK_S_STAT_STATE (n : Nat) : Field := ⟨0x80104 + 0x10 * (n % 8), 0, 4⟩

def BRK_CON_IMA (n : Nat) : Field := ⟨0x80200 + 0x4 * (n % 28), 16, 16⟩
def BRK_CON_FAULT (n : Nat) : Field := ⟨0x80200 + 0x4 * (n % 28), 12, 4⟩
def BRK_CON_VERIFIED (n : Nat) : Field := ⟨0x80200 + 0x4 * (n % 28), 4, 1⟩
def BRK_CON_MIRROR (n : Nat) : Field := ⟨0x80200 + 0x4 * (n % 28), 3, 1⟩
def BRK_CON_ECONOMY (n : Nat) : Field := ⟨0x80200 + 0x4 * (n % 28), 2, 1⟩
def BRK_CON_ENERGISED (n : Nat) : Field := ⟨0x80200 + 0x4 * (n % 28), 1, 1⟩
def BRK_CON_USED (n : Nat) : Field := ⟨0x80200 + 0x4 * (n % 28), 0, 1⟩

/-! Fields of the object maps of spec/09_control_engine.md. -/

def CTE_CTRL_EN : Field := ⟨0x90000, 0, 1⟩

def CTE_STAT_HALF : Field := ⟨0x90004, 2, 1⟩
def CTE_STAT_BUSY : Field := ⟨0x90004, 1, 1⟩
def CTE_STAT_RUN : Field := ⟨0x90004, 0, 1⟩

def CTE_LOAD_EVALS : Field := ⟨0x90008, 0, 32⟩

def CTE_SCALE_I_FS : Field := ⟨0x9000c, 0, 16⟩

def CTE_EVT_COLD : Field := ⟨0x90010, 6, 1⟩
def CTE_EVT_DWR_REJ : Field := ⟨0x90010, 5, 1⟩
def CTE_EVT_TRIM_BYP : Field := ⟨0x90010, 4, 1⟩
def CTE_EVT_STREAM : Field := ⟨0x90010, 3, 1⟩
def CTE_EVT_SKIP : Field := ⟨0x90010, 2, 1⟩
def CTE_EVT_MISS : Field := ⟨0x90010, 1, 1⟩
def CTE_EVT_SAT : Field := ⟨0x90010, 0, 1⟩

def CTE_EVT_CNT0_MISS : Field := ⟨0x90014, 16, 16⟩
def CTE_EVT_CNT0_SAT : Field := ⟨0x90014, 0, 16⟩

def CTE_EVT_CNT1_STREAM : Field := ⟨0x90018, 16, 16⟩
def CTE_EVT_CNT1_SKIP : Field := ⟨0x90018, 0, 16⟩

def CTE_EVT_CNT2_DWR_REJ : Field := ⟨0x9001c, 16, 16⟩
def CTE_EVT_CNT2_TRIM_BYP : Field := ⟨0x9001c, 0, 16⟩

def CTE_EVT_CNT3_COLD : Field := ⟨0x90020, 0, 16⟩

def CTE_ABANDON_CNT : Field := ⟨0x90024, 0, 32⟩

def CTE_TRIM_CTRL_CMD (n : Nat) : Field := ⟨0x90200 + 0x40 * (n % 8), 0, 3⟩

def CTE_TRIM_STAT_REFUSE (n : Nat) : Field := ⟨0x90204 + 0x40 * (n % 8), 16, 8⟩
def CTE_TRIM_STAT_STATUS (n : Nat) : Field := ⟨0x90204 + 0x40 * (n % 8), 12, 4⟩
def CTE_TRIM_STAT_STREAM_OK (n : Nat) : Field := ⟨0x90204 + 0x40 * (n % 8), 11, 1⟩
def CTE_TRIM_STAT_TRIP_IN (n : Nat) : Field := ⟨0x90204 + 0x40 * (n % 8), 10, 1⟩
def CTE_TRIM_STAT_PRESENT (n : Nat) : Field := ⟨0x90204 + 0x40 * (n % 8), 9, 1⟩
def CTE_TRIM_STAT_STATE (n : Nat) : Field := ⟨0x90204 + 0x40 * (n % 8), 0, 2⟩

def CTE_TRIM_SEL_SW (n : Nat) : Field := ⟨0x90208 + 0x40 * (n % 8), 31, 1⟩
def CTE_TRIM_SEL_SLOT_A (n : Nat) : Field := ⟨0x90208 + 0x40 * (n % 8), 26, 5⟩
def CTE_TRIM_SEL_SLOT_B (n : Nat) : Field := ⟨0x90208 + 0x40 * (n % 8), 21, 5⟩
def CTE_TRIM_SEL_MODE (n : Nat) : Field := ⟨0x90208 + 0x40 * (n % 8), 19, 2⟩

def CTE_TRIM_PWM_INTERLEAVE (n : Nat) : Field := ⟨0x9020c + 0x40 * (n % 8), 25, 1⟩
def CTE_TRIM_PWM_DT (n : Nat) : Field := ⟨0x9020c + 0x40 * (n % 8), 16, 9⟩
def CTE_TRIM_PWM_PER (n : Nat) : Field := ⟨0x9020c + 0x40 * (n % 8), 0, 16⟩

def CTE_TRIM_MINP_MINP (n : Nat) : Field := ⟨0x90210 + 0x40 * (n % 8), 0, 9⟩

def CTE_TRIM_MEAS_V_TRIM (n : Nat) : Field := ⟨0x90214 + 0x40 * (n % 8), 16, 16⟩
def CTE_TRIM_MEAS_I (n : Nat) : Field := ⟨0x90214 + 0x40 * (n % 8), 0, 16⟩

def CTE_TRIM_BUS_SEQ (n : Nat) : Field := ⟨0x90218 + 0x40 * (n % 8), 20, 4⟩
def CTE_TRIM_BUS_STATUS (n : Nat) : Field := ⟨0x90218 + 0x40 * (n % 8), 16, 4⟩
def CTE_TRIM_BUS_V_BUS (n : Nat) : Field := ⟨0x90218 + 0x40 * (n % 8), 0, 16⟩

def CTE_TRIM_M_M (n : Nat) : Field := ⟨0x9021c + 0x40 * (n % 8), 0, 32⟩

def CTE_TRIM_ERR_CRC (n : Nat) : Field := ⟨0x90220 + 0x40 * (n % 8), 16, 16⟩
def CTE_TRIM_ERR_LOST (n : Nat) : Field := ⟨0x90220 + 0x40 * (n % 8), 0, 16⟩

def CTE_L_CFG_EN (n : Nat) : Field := ⟨0x91000 + 0x100 * (n % 32), 31, 1⟩
def CTE_L_CFG_CLASS (n : Nat) : Field := ⟨0x91000 + 0x100 * (n % 32), 30, 1⟩
def CTE_L_CFG_LAW (n : Nat) : Field := ⟨0x91000 + 0x100 * (n % 32), 29, 1⟩
def CTE_L_CFG_FMT (n : Nat) : Field := ⟨0x91000 + 0x100 * (n % 32), 28, 1⟩
def CTE_L_CFG_AW (n : Nat) : Field := ⟨0x91000 + 0x100 * (n % 32), 27, 1⟩
def CTE_L_CFG_DWR_EN (n : Nat) : Field := ⟨0x91000 + 0x100 * (n % 32), 26, 1⟩
def CTE_L_CFG_PIPE (n : Nat) : Field := ⟨0x91000 + 0x100 * (n % 32), 24, 2⟩
def CTE_L_CFG_GROUP (n : Nat) : Field := ⟨0x91000 + 0x100 * (n % 32), 21, 3⟩
def CTE_L_CFG_DIV (n : Nat) : Field := ⟨0x91000 + 0x100 * (n % 32), 13, 8⟩
def CTE_L_CFG_DOFS (n : Nat) : Field := ⟨0x91000 + 0x100 * (n % 32), 5, 8⟩

def CTE_L_IO_EXISTS (n : Nat) : Field := ⟨0x91004 + 0x100 * (n % 32), 31, 1⟩
def CTE_L_IO_MSRC (n : Nat) : Field := ⟨0x91004 + 0x100 * (n % 32), 28, 3⟩
def CTE_L_IO_MSTR (n : Nat) : Field := ⟨0x91004 + 0x100 * (n % 32), 25, 3⟩
def CTE_L_IO_MSLOT (n : Nat) : Field := ⟨0x91004 + 0x100 * (n % 32), 20, 5⟩
def CTE_L_IO_RSRC (n : Nat) : Field := ⟨0x91004 + 0x100 * (n % 32), 18, 2⟩
def CTE_L_IO_RSLOT (n : Nat) : Field := ⟨0x91004 + 0x100 * (n % 32), 13, 5⟩
def CTE_L_IO_LIM (n : Nat) : Field := ⟨0x91004 + 0x100 * (n % 32), 11, 2⟩
def CTE_L_IO_INV (n : Nat) : Field := ⟨0x91004 + 0x100 * (n % 32), 10, 1⟩
def CTE_L_IO_OTGT (n : Nat) : Field := ⟨0x91004 + 0x100 * (n % 32), 9, 1⟩
def CTE_L_IO_OSTR (n : Nat) : Field := ⟨0x91004 + 0x100 * (n % 32), 6, 3⟩
def CTE_L_IO_TRACK (n : Nat) : Field := ⟨0x91004 + 0x100 * (n % 32), 5, 1⟩

def CTE_L_REF_VALUE (n : Nat) : Field := ⟨0x91008 + 0x100 * (n % 32), 0, 32⟩

def CTE_L_UMIN_VALUE (n : Nat) : Field := ⟨0x9100c + 0x100 * (n % 32), 0, 32⟩

def CTE_L_UMAX_VALUE (n : Nat) : Field := ⟨0x91010 + 0x100 * (n % 32), 0, 32⟩

def CTE_L_SH0_K_B3 (n : Nat) : Field := ⟨0x91014 + 0x100 * (n % 32), 24, 8⟩
def CTE_L_SH0_K_B2 (n : Nat) : Field := ⟨0x91014 + 0x100 * (n % 32), 16, 8⟩
def CTE_L_SH0_K_B1 (n : Nat) : Field := ⟨0x91014 + 0x100 * (n % 32), 8, 8⟩
def CTE_L_SH0_K_B0 (n : Nat) : Field := ⟨0x91014 + 0x100 * (n % 32), 0, 8⟩

def CTE_L_SH1_K_A3 (n : Nat) : Field := ⟨0x91018 + 0x100 * (n % 32), 16, 8⟩
def CTE_L_SH1_K_A2 (n : Nat) : Field := ⟨0x91018 + 0x100 * (n % 32), 8, 8⟩
def CTE_L_SH1_K_A1 (n : Nat) : Field := ⟨0x91018 + 0x100 * (n % 32), 0, 8⟩

def CTE_L_B0_C (n : Nat) : Field := ⟨0x91020 + 0x100 * (n % 32), 0, 32⟩

def CTE_L_B1_C (n : Nat) : Field := ⟨0x91024 + 0x100 * (n % 32), 0, 32⟩

def CTE_L_B2_C (n : Nat) : Field := ⟨0x91028 + 0x100 * (n % 32), 0, 32⟩

def CTE_L_B3_C (n : Nat) : Field := ⟨0x9102c + 0x100 * (n % 32), 0, 32⟩

def CTE_L_A1_C (n : Nat) : Field := ⟨0x91030 + 0x100 * (n % 32), 0, 32⟩

def CTE_L_A2_C (n : Nat) : Field := ⟨0x91034 + 0x100 * (n % 32), 0, 32⟩

def CTE_L_A3_C (n : Nat) : Field := ⟨0x91038 + 0x100 * (n % 32), 0, 32⟩

def CTE_L_DB0_C (n : Nat) : Field := ⟨0x91040 + 0x100 * (n % 32), 0, 32⟩

def CTE_L_DB1_C (n : Nat) : Field := ⟨0x91044 + 0x100 * (n % 32), 0, 32⟩

def CTE_L_DB2_C (n : Nat) : Field := ⟨0x91048 + 0x100 * (n % 32), 0, 32⟩

def CTE_L_DB3_C (n : Nat) : Field := ⟨0x9104c + 0x100 * (n % 32), 0, 32⟩

def CTE_L_DA1_C (n : Nat) : Field := ⟨0x91050 + 0x100 * (n % 32), 0, 32⟩

def CTE_L_DA2_C (n : Nat) : Field := ⟨0x91054 + 0x100 * (n % 32), 0, 32⟩

def CTE_L_DA3_C (n : Nat) : Field := ⟨0x91058 + 0x100 * (n % 32), 0, 32⟩

def CTE_L_OUT_VALUE (n : Nat) : Field := ⟨0x91060 + 0x100 * (n % 32), 0, 32⟩

def CTE_L_MEAS_VALUE (n : Nat) : Field := ⟨0x91064 + 0x100 * (n % 32), 0, 32⟩

def CTE_L_REFE_VALUE (n : Nat) : Field := ⟨0x91068 + 0x100 * (n % 32), 0, 32⟩

def CTE_L_CNT0_SAT (n : Nat) : Field := ⟨0x9106c + 0x100 * (n % 32), 16, 16⟩
def CTE_L_CNT0_MISS (n : Nat) : Field := ⟨0x9106c + 0x100 * (n % 32), 0, 16⟩

def CTE_L_CNT1_SKIP (n : Nat) : Field := ⟨0x91070 + 0x100 * (n % 32), 0, 16⟩

def CTE_L_STAT_DRIVING (n : Nat) : Field := ⟨0x91074 + 0x100 * (n % 32), 3, 1⟩
def CTE_L_STAT_TRACKING (n : Nat) : Field := ⟨0x91074 + 0x100 * (n % 32), 2, 1⟩
def CTE_L_STAT_OVF (n : Nat) : Field := ⟨0x91074 + 0x100 * (n % 32), 1, 1⟩
def CTE_L_STAT_SAT (n : Nat) : Field := ⟨0x91074 + 0x100 * (n % 32), 0, 1⟩

/-! Fields of the object maps of spec/10_dispatch_thermal.md. -/

def DSP_STAT_HOST_TMO : Field := ⟨0xa0000, 3, 1⟩
def DSP_STAT_UNALIGNED : Field := ⟨0xa0000, 2, 1⟩
def DSP_STAT_AGED : Field := ⟨0xa0000, 1, 1⟩
def DSP_STAT_RUN : Field := ⟨0xa0000, 0, 1⟩

def DSP_CFG_AGE_MAX : Field := ⟨0xa0004, 16, 16⟩
def DSP_CFG_DOC_PCT : Field := ⟨0xa0004, 8, 8⟩
def DSP_CFG_WMODE : Field := ⟨0xa0004, 2, 1⟩
def DSP_CFG_ENF : Field := ⟨0xa0004, 0, 2⟩

def DSP_VLIM_V_MAX : Field := ⟨0xa0008, 16, 16⟩
def DSP_VLIM_V_MIN : Field := ⟨0xa0008, 0, 16⟩

def DSP_MARG_AGE_RAMP : Field := ⟨0xa000c, 16, 16⟩
def DSP_MARG_DEGR : Field := ⟨0xa000c, 8, 8⟩
def DSP_MARG_V_MARG : Field := ⟨0xa000c, 0, 8⟩

def DSP_PMAX_CHG : Field := ⟨0xa0010, 16, 16⟩
def DSP_PMAX_DIS : Field := ⟨0xa0010, 0, 16⟩

def DSP_HOST_P_CHG : Field := ⟨0xa0014, 16, 16⟩
def DSP_HOST_P_DIS : Field := ⟨0xa0014, 0, 16⟩

def DSP_HOST_FB_CHG : Field := ⟨0xa001c, 16, 16⟩
def DSP_HOST_FB_DIS : Field := ⟨0xa001c, 0, 16⟩

def DSP_HOST_TMO_TMO : Field := ⟨0xa0018, 0, 16⟩

def DSP_LIM_P_CHG : Field := ⟨0xa0024, 16, 16⟩
def DSP_LIM_P_DIS : Field := ⟨0xa0024, 0, 16⟩

def DSP_LIM_STEP_STEP : Field := ⟨0xa0028, 0, 5⟩

def DSP_LIM_EPOCH_EPOCH : Field := ⟨0xa002c, 0, 32⟩

def DSP_BSOP_CHG (n : Nat) : Field := ⟨0xa0040 + 0x4 * (n % 4), 16, 16⟩
def DSP_BSOP_DIS (n : Nat) : Field := ⟨0xa0040 + 0x4 * (n % 4), 0, 16⟩

def DSP_S_CAP_CHG (n : Nat) : Field := ⟨0xa0100 + 0x20 * (n % 8), 16, 16⟩
def DSP_S_CAP_DIS (n : Nat) : Field := ⟨0xa0100 + 0x20 * (n % 8), 0, 16⟩

def DSP_S_LIM_I_CHG (n : Nat) : Field := ⟨0xa0108 + 0x20 * (n % 8), 16, 16⟩
def DSP_S_LIM_I_DIS (n : Nat) : Field := ⟨0xa0108 + 0x20 * (n % 8), 0, 16⟩

def DSP_S_SOP_CHG (n : Nat) (m : Nat) : Field := ⟨0xa0110 + 0x20 * (n % 8) + 0x4 * (m % 4), 16, 16⟩
def DSP_S_SOP_DIS (n : Nat) (m : Nat) : Field := ⟨0xa0110 + 0x20 * (n % 8) + 0x4 * (m % 4), 0, 16⟩

def DSP_S_W_W (n : Nat) : Field := ⟨0xa0104 + 0x20 * (n % 8), 0, 16⟩

def DSP_S_LIM_X_DOC (n : Nat) : Field := ⟨0xa010c + 0x20 * (n % 8), 16, 16⟩
def DSP_S_LIM_X_W (n : Nat) : Field := ⟨0xa010c + 0x20 * (n % 8), 0, 16⟩

def THM_STAT_PUMP : Field := ⟨0xb0000, 16, 8⟩
def THM_STAT_CHILL : Field := ⟨0xb0000, 15, 1⟩
def THM_STAT_OWNER : Field := ⟨0xb0000, 14, 1⟩
def THM_STAT_SD_PEND : Field := ⟨0xb0000, 13, 1⟩
def THM_STAT_JS_FAULT : Field := ⟨0xb0000, 12, 1⟩
def THM_STAT_STEP : Field := ⟨0xb0000, 0, 5⟩

def THM_TJ_TJ2 : Field := ⟨0xb0004, 16, 16⟩
def THM_TJ_TJ1 : Field := ⟨0xb0004, 0, 16⟩

def THM_TCELL_HOT : Field := ⟨0xb0008, 16, 16⟩
def THM_TCELL_COLD : Field := ⟨0xb0008, 0, 16⟩

def THM_TNTC_BUS : Field := ⟨0xb000c, 16, 16⟩
def THM_TNTC_OUTLET : Field := ⟨0xb000c, 0, 16⟩

def THM_DR_HYS (n : Nat) : Field := ⟨0xb0010 + 0x4 * (n % 4), 24, 8⟩
def THM_DR_STEP (n : Nat) : Field := ⟨0xb0010 + 0x4 * (n % 4), 16, 8⟩
def THM_DR_START (n : Nat) : Field := ⟨0xb0010 + 0x4 * (n % 4), 0, 16⟩

def THM_DR_CFG_DWELL : Field := ⟨0xb0020, 0, 8⟩

def THM_PUMP_HYS : Field := ⟨0xb0024, 24, 8⟩
def THM_PUMP_P_MIN : Field := ⟨0xb0024, 16, 8⟩
def THM_PUMP_T1 : Field := ⟨0xb0024, 8, 8⟩
def THM_PUMP_T0 : Field := ⟨0xb0024, 0, 8⟩

def THM_CHILL_CH_MIN : Field := ⟨0xb0028, 16, 16⟩
def THM_CHILL_ON : Field := ⟨0xb0028, 8, 8⟩
def THM_CHILL_OFF : Field := ⟨0xb0028, 0, 8⟩

def THM_COOL_CMD_CHILL : Field := ⟨0xb002c, 8, 1⟩
def THM_COOL_CMD_PUMP : Field := ⟨0xb002c, 0, 8⟩

def THM_SD_WORD_WORD : Field := ⟨0xb0030, 0, 32⟩

def THM_SD_ACK_KEY : Field := ⟨0xb0034, 0, 32⟩

def THM_EVT_SD_FOUND : Field := ⟨0xb0038, 3, 1⟩
def THM_EVT_ACK_REF : Field := ⟨0xb0038, 2, 1⟩
def THM_EVT_STEP_DOWN : Field := ⟨0xb0038, 1, 1⟩
def THM_EVT_STEP_UP : Field := ⟨0xb0038, 0, 1⟩

def THM_EVT_CNT0_STEP_DOWN : Field := ⟨0xb003c, 16, 16⟩
def THM_EVT_CNT0_STEP_UP : Field := ⟨0xb003c, 0, 16⟩

def THM_EVT_CNT1_SD_FOUND : Field := ⟨0xb0040, 16, 16⟩
def THM_EVT_CNT1_ACK_REF : Field := ⟨0xb0040, 0, 16⟩

/-! Fields of the object maps of spec/11_safety.md. -/

def SAF_STAT_TP_FAULT : Field := ⟨0xc0000, 3, 1⟩
def SAF_STAT_SD_STALE : Field := ⟨0xc0000, 2, 1⟩
def SAF_STAT_G1 : Field := ⟨0xc0000, 1, 1⟩
def SAF_STAT_G0 : Field := ⟨0xc0000, 0, 1⟩

def SAF_FN_USED : Field := ⟨0xc0004, 16, 16⟩
def SAF_FN_DEMAND : Field := ⟨0xc0004, 0, 16⟩

def SAF_RESET_FN : Field := ⟨0xc0008, 0, 16⟩

def SAF_SI_STAT_DCNT (n : Nat) : Field := ⟨0xc0010 + 0x4 * (n % 6), 16, 11⟩
def SAF_SI_STAT_USED (n : Nat) : Field := ⟨0xc0010 + 0x4 * (n % 6), 7, 1⟩
def SAF_SI_STAT_CROSS (n : Nat) : Field := ⟨0xc0010 + 0x4 * (n % 6), 6, 1⟩
def SAF_SI_STAT_DISC (n : Nat) : Field := ⟨0xc0010 + 0x4 * (n % 6), 5, 1⟩
def SAF_SI_STAT_DEMAND (n : Nat) : Field := ⟨0xc0010 + 0x4 * (n % 6), 4, 1⟩
def SAF_SI_STAT_FB (n : Nat) : Field := ⟨0xc0010 + 0x4 * (n % 6), 3, 1⟩
def SAF_SI_STAT_FA (n : Nat) : Field := ⟨0xc0010 + 0x4 * (n % 6), 2, 1⟩
def SAF_SI_STAT_RAW_B (n : Nat) : Field := ⟨0xc0010 + 0x4 * (n % 6), 1, 1⟩
def SAF_SI_STAT_RAW_A (n : Nat) : Field := ⟨0xc0010 + 0x4 * (n % 6), 0, 1⟩

def SAF_EVT_TP_TRUNC : Field := ⟨0xc0030, 6, 1⟩
def SAF_EVT_TP_FAIL : Field := ⟨0xc0030, 5, 1⟩
def SAF_EVT_SD_TMO : Field := ⟨0xc0030, 4, 1⟩
def SAF_EVT_SD_MISMATCH : Field := ⟨0xc0030, 3, 1⟩
def SAF_EVT_CROSS : Field := ⟨0xc0030, 2, 1⟩
def SAF_EVT_DISC : Field := ⟨0xc0030, 1, 1⟩
def SAF_EVT_DEMAND : Field := ⟨0xc0030, 0, 1⟩

def SAF_EVT_CNT0_DISC : Field := ⟨0xc0034, 16, 16⟩
def SAF_EVT_CNT0_DEMAND : Field := ⟨0xc0034, 0, 16⟩

def SAF_EVT_CNT1_SD_MISMATCH : Field := ⟨0xc0038, 16, 16⟩
def SAF_EVT_CNT1_CROSS : Field := ⟨0xc0038, 0, 16⟩

def SAF_EVT_CNT2_TP_FAIL : Field := ⟨0xc003c, 16, 16⟩
def SAF_EVT_CNT2_SD_TMO : Field := ⟨0xc003c, 0, 16⟩

def SAF_EVT_CNT3_TP_TRUNC : Field := ⟨0xc0040, 0, 16⟩

def SAF_SD_RESET_CONN : Field := ⟨0xc0044, 0, 4⟩

def SAF_SD_TX_VALUE : Field := ⟨0xc0048, 0, 32⟩

def SAF_SD_TXSEQ_SEQ : Field := ⟨0xc004c, 0, 16⟩

def SAF_TP_STAT_DRIVER : Field := ⟨0xc0050, 3, 5⟩
def SAF_TP_STAT_SWITCH : Field := ⟨0xc0050, 2, 1⟩
def SAF_TP_STAT_ACTIVE : Field := ⟨0xc0050, 1, 1⟩

def SAF_SD_RX_DATA (n : Nat) : Field := ⟨0xc0100 + 0x10 * (n % 4), 0, 32⟩

def SAF_SD_RX_STAT_SEQ (n : Nat) : Field := ⟨0xc0104 + 0x10 * (n % 4), 16, 16⟩
def SAF_SD_RX_STAT_SINGLE (n : Nat) : Field := ⟨0xc0104 + 0x10 * (n % 4), 4, 4⟩
def SAF_SD_RX_STAT_STATE (n : Nat) : Field := ⟨0xc0104 + 0x10 * (n % 4), 0, 2⟩

def SAF_SD_RX_CNT_SINGLE (n : Nat) : Field := ⟨0xc0108 + 0x10 * (n % 4), 16, 16⟩
def SAF_SD_RX_CNT_DUAL (n : Nat) : Field := ⟨0xc0108 + 0x10 * (n % 4), 0, 16⟩

def SAF_SD_RX_ERR_LATE (n : Nat) : Field := ⟨0xc010c + 0x10 * (n % 4), 16, 16⟩
def SAF_SD_RX_ERR_BAD (n : Nat) : Field := ⟨0xc010c + 0x10 * (n % 4), 0, 16⟩

def SAF_TP_AGE_LS (n : Nat) : Field := ⟨0xc0200 + 0x4 * (n % 28), 16, 16⟩
def SAF_TP_AGE_HS (n : Nat) : Field := ⟨0xc0200 + 0x4 * (n % 28), 0, 16⟩

/-! Fields of the object maps of spec/12_lanes.md. -/

def LAN_STAT_B_STATE : Field := ⟨0xd0000, 20, 4⟩
def LAN_STAT_A_STATE : Field := ⟨0xd0000, 16, 4⟩
def LAN_STAT_PL : Field := ⟨0xd0000, 4, 2⟩
def LAN_STAT_STBY_OK : Field := ⟨0xd0000, 3, 1⟩
def LAN_STAT_ACTIVE : Field := ⟨0xd0000, 1, 1⟩
def LAN_STAT_MGMT_PEND : Field := ⟨0xd0000, 0, 1⟩

def LAN_CFG_STBY_CHK : Field := ⟨0xd0004, 12, 12⟩
def LAN_CFG_PL : Field := ⟨0xd0004, 8, 2⟩
def LAN_CFG_REQUAL_MAX : Field := ⟨0xd0004, 4, 4⟩
def LAN_CFG_PL_MIN : Field := ⟨0xd0004, 2, 2⟩
def LAN_CFG_AUTO_RST : Field := ⟨0xd0004, 0, 1⟩

def LAN_CTRL_KEY : Field := ⟨0xd0008, 0, 32⟩

def LAN_HB_MISS : Field := ⟨0xd000c, 16, 2⟩
def LAN_HB_HB : Field := ⟨0xd000c, 0, 16⟩

def LAN_COMMIT_COUNT : Field := ⟨0xd0010, 0, 32⟩

def LAN_EVT_FRAME_MISS : Field := ⟨0xd0014, 4, 1⟩
def LAN_EVT_STALE : Field := ⟨0xd0014, 3, 1⟩
def LAN_EVT_REQUAL_OK : Field := ⟨0xd0014, 2, 1⟩
def LAN_EVT_STBY_LOST : Field := ⟨0xd0014, 1, 1⟩
def LAN_EVT_TAKEOVER : Field := ⟨0xd0014, 0, 1⟩

def LAN_EVT_CNT0_STBY_LOST : Field := ⟨0xd0018, 16, 16⟩
def LAN_EVT_CNT0_TAKEOVER : Field := ⟨0xd0018, 0, 16⟩

def LAN_EVT_CNT1_STALE : Field := ⟨0xd001c, 16, 16⟩
def LAN_EVT_CNT1_REQUAL_OK : Field := ⟨0xd001c, 0, 16⟩

def LAN_EVT_CNT2_FRAME_MISS : Field := ⟨0xd0020, 0, 16⟩

def LAN_LAST_CLASS : Field := ⟨0xd0024, 24, 8⟩
def LAN_LAST_FROM : Field := ⟨0xd0024, 23, 1⟩
def LAN_LAST_TAKE_T : Field := ⟨0xd0024, 0, 16⟩

def LAN_LAST_TC_LO_VALUE : Field := ⟨0xd0028, 0, 32⟩

def LAN_LAST_TC_HI_VALUE : Field := ⟨0xd002c, 0, 32⟩

def LAN_FAULT_B : Field := ⟨0xd0030, 8, 8⟩
def LAN_FAULT_A : Field := ⟨0xd0030, 0, 8⟩

def LAN_CNT_REQUAL : Field := ⟨0xd0034, 16, 16⟩
def LAN_CNT_TAKE : Field := ⟨0xd0034, 0, 16⟩

def LAN_STALE_CNT_CNT : Field := ⟨0xd0038, 16, 16⟩
def LAN_STALE_CNT_SINK : Field := ⟨0xd0038, 0, 8⟩

def LAN_SP_STAT_LAST : Field := ⟨0xd003c, 16, 16⟩
def LAN_SP_STAT_F1 : Field := ⟨0xd003c, 7, 1⟩
def LAN_SP_STAT_F0 : Field := ⟨0xd003c, 6, 1⟩
def LAN_SP_STAT_IMG1 : Field := ⟨0xd003c, 5, 1⟩
def LAN_SP_STAT_IMG0 : Field := ⟨0xd003c, 4, 1⟩

def LAN_STBY_AGE_S : Field := ⟨0xd0040, 0, 16⟩

def LAN_SS_CAUSE_AUTO : Field := ⟨0xd0044, 16, 8⟩
def LAN_SS_CAUSE_CLASS : Field := ⟨0xd0044, 8, 8⟩
def LAN_SS_CAUSE_CAUSE : Field := ⟨0xd0044, 0, 8⟩

/-! Fields of the object maps of spec/13_sequence_program.md. -/

def SEQ_CTRL_RESTART : Field := ⟨0xe0000, 1, 1⟩
def SEQ_CTRL_EN : Field := ⟨0xe0000, 0, 1⟩

def SEQ_STAT_BUSY : Field := ⟨0xe0004, 5, 1⟩
def SEQ_STAT_SAFE_OUT : Field := ⟨0xe0004, 4, 1⟩
def SEQ_STAT_FORCED : Field := ⟨0xe0004, 3, 1⟩
def SEQ_STAT_STATE : Field := ⟨0xe0004, 0, 3⟩

def SEQ_CFG_WDT : Field := ⟨0xe0008, 8, 3⟩
def SEQ_CFG_CYCLE : Field := ⟨0xe0008, 0, 7⟩

def SEQ_TIME_MAX : Field := ⟨0xe000c, 16, 16⟩
def SEQ_TIME_LAST : Field := ⟨0xe000c, 0, 16⟩

def SEQ_CYCLE_COUNT : Field := ⟨0xe0010, 0, 32⟩

def SEQ_EVT_OLC_DONE : Field := ⟨0xe0014, 5, 1⟩
def SEQ_EVT_FORCE_REL : Field := ⟨0xe0014, 4, 1⟩
def SEQ_EVT_RIO_LOST : Field := ⟨0xe0014, 3, 1⟩
def SEQ_EVT_DORMANT : Field := ⟨0xe0014, 2, 1⟩
def SEQ_EVT_HALT : Field := ⟨0xe0014, 1, 1⟩
def SEQ_EVT_OVERRUN : Field := ⟨0xe0014, 0, 1⟩

def SEQ_EVT_CNT0_HALT : Field := ⟨0xe0018, 16, 16⟩
def SEQ_EVT_CNT0_OVERRUN : Field := ⟨0xe0018, 0, 16⟩

def SEQ_EVT_CNT1_RIO_LOST : Field := ⟨0xe001c, 16, 16⟩
def SEQ_EVT_CNT1_DORMANT : Field := ⟨0xe001c, 0, 16⟩

def SEQ_EVT_CNT2_OLC_DONE : Field := ⟨0xe0020, 16, 16⟩
def SEQ_EVT_CNT2_FORCE_REL : Field := ⟨0xe0020, 0, 16⟩

def SEQ_ABANDON_CNT : Field := ⟨0xe0024, 0, 16⟩

def SEQ_DIAG_ADDR_ADDR : Field := ⟨0xe0028, 0, 32⟩

def SEQ_PROG_CV_CV : Field := ⟨0xe002c, 0, 32⟩

def SEQ_OLC_CTRL_APPLY : Field := ⟨0xe0030, 0, 1⟩

def SEQ_OLC_STAT_CODE : Field := ⟨0xe0034, 0, 8⟩

def SEQ_FORCE_ADDR_VALUE : Field := ⟨0xe0040, 0, 32⟩

def SEQ_FORCE_VAL_VALUE : Field := ⟨0xe0044, 0, 32⟩

def SEQ_FORCE_CMD_CMD : Field := ⟨0xe0048, 0, 2⟩

def SEQ_FORCE_STAT_RELEASED : Field := ⟨0xe004c, 16, 16⟩
def SEQ_FORCE_STAT_REFUSE : Field := ⟨0xe004c, 8, 8⟩
def SEQ_FORCE_STAT_COUNT : Field := ⟨0xe004c, 0, 7⟩

def SEQ_TRIG_BITS : Field := ⟨0xe0050, 0, 8⟩

def SEQ_RIO_RUN_BITS : Field := ⟨0xe0054, 0, 16⟩

def SEQ_STN_STAT_MISS_RUN (n : Nat) : Field := ⟨0xe0100 + 0x8 * (n % 16), 2, 4⟩
def SEQ_STN_STAT_STATE (n : Nat) : Field := ⟨0xe0100 + 0x8 * (n % 16), 0, 2⟩

def SEQ_STN_CNT_BAD (n : Nat) : Field := ⟨0xe0104 + 0x8 * (n % 16), 16, 16⟩
def SEQ_STN_CNT_MISSED (n : Nat) : Field := ⟨0xe0104 + 0x8 * (n % 16), 0, 16⟩

/-! Fields of the object maps of spec/14_can_fd.md. -/

def CAN_CTRL_LISTEN (n : Nat) : Field := ⟨0xf0000 + 0x4000 * (n % 2), 2, 1⟩
def CAN_CTRL_RECOVER (n : Nat) : Field := ⟨0xf0000 + 0x4000 * (n % 2), 1, 1⟩
def CAN_CTRL_EN (n : Nat) : Field := ⟨0xf0000 + 0x4000 * (n % 2), 0, 1⟩

def CAN_STAT_TEC (n : Nat) : Field := ⟨0xf0004 + 0x4000 * (n % 2), 16, 8⟩
def CAN_STAT_REC (n : Nat) : Field := ⟨0xf0004 + 0x4000 * (n % 2), 9, 7⟩
def CAN_STAT_RP (n : Nat) : Field := ⟨0xf0004 + 0x4000 * (n % 2), 8, 1⟩
def CAN_STAT_LEC (n : Nat) : Field := ⟨0xf0004 + 0x4000 * (n % 2), 5, 3⟩
def CAN_STAT_BUSY (n : Nat) : Field := ⟨0xf0004 + 0x4000 * (n % 2), 4, 1⟩
def CAN_STAT_LID_HOLD (n : Nat) : Field := ⟨0xf0004 + 0x4000 * (n % 2), 3, 1⟩
def CAN_STAT_WARN (n : Nat) : Field := ⟨0xf0004 + 0x4000 * (n % 2), 2, 1⟩
def CAN_STAT_STATE (n : Nat) : Field := ⟨0xf0004 + 0x4000 * (n % 2), 0, 2⟩

def CAN_NBT_NSJW (n : Nat) : Field := ⟨0xf0008 + 0x4000 * (n % 2), 23, 7⟩
def CAN_NBT_NTSEG2 (n : Nat) : Field := ⟨0xf0008 + 0x4000 * (n % 2), 16, 7⟩
def CAN_NBT_NTSEG1 (n : Nat) : Field := ⟨0xf0008 + 0x4000 * (n % 2), 8, 8⟩
def CAN_NBT_NBRP (n : Nat) : Field := ⟨0xf0008 + 0x4000 * (n % 2), 0, 8⟩

def CAN_DBT_TDC_EN (n : Nat) : Field := ⟨0xf000c + 0x4000 * (n % 2), 29, 1⟩
def CAN_DBT_BRS (n : Nat) : Field := ⟨0xf000c + 0x4000 * (n % 2), 28, 1⟩
def CAN_DBT_DSJW (n : Nat) : Field := ⟨0xf000c + 0x4000 * (n % 2), 24, 4⟩
def CAN_DBT_DTSEG2 (n : Nat) : Field := ⟨0xf000c + 0x4000 * (n % 2), 16, 4⟩
def CAN_DBT_DTSEG1 (n : Nat) : Field := ⟨0xf000c + 0x4000 * (n % 2), 8, 5⟩
def CAN_DBT_DBRP (n : Nat) : Field := ⟨0xf000c + 0x4000 * (n % 2), 0, 5⟩

def CAN_TDC_TDCV (n : Nat) : Field := ⟨0xf0010 + 0x4000 * (n % 2), 8, 7⟩
def CAN_TDC_TDCO (n : Nat) : Field := ⟨0xf0010 + 0x4000 * (n % 2), 0, 7⟩

def CAN_TXCFG_AUTO_REC (n : Nat) : Field := ⟨0xf0014 + 0x4000 * (n % 2), 6, 1⟩
def CAN_TXCFG_UNLIM (n : Nat) : Field := ⟨0xf0014 + 0x4000 * (n % 2), 5, 1⟩
def CAN_TXCFG_RETRY (n : Nat) : Field := ⟨0xf0014 + 0x4000 * (n % 2), 1, 4⟩
def CAN_TXCFG_ORDER (n : Nat) : Field := ⟨0xf0014 + 0x4000 * (n % 2), 0, 1⟩

def CAN_EVT_REF_MISS (n : Nat) : Field := ⟨0xf0018 + 0x4000 * (n % 2), 6, 1⟩
def CAN_EVT_TXQ_OVF (n : Nat) : Field := ⟨0xf0018 + 0x4000 * (n % 2), 5, 1⟩
def CAN_EVT_TX_FAIL (n : Nat) : Field := ⟨0xf0018 + 0x4000 * (n % 2), 4, 1⟩
def CAN_EVT_RX_LOST (n : Nat) : Field := ⟨0xf0018 + 0x4000 * (n % 2), 3, 1⟩
def CAN_EVT_ERR_WARN (n : Nat) : Field := ⟨0xf0018 + 0x4000 * (n % 2), 2, 1⟩
def CAN_EVT_ERR_PASSIVE (n : Nat) : Field := ⟨0xf0018 + 0x4000 * (n % 2), 1, 1⟩
def CAN_EVT_BUS_OFF (n : Nat) : Field := ⟨0xf0018 + 0x4000 * (n % 2), 0, 1⟩

def CAN_EVT_CNT0_ERR_PASSIVE (n : Nat) : Field := ⟨0xf001c + 0x4000 * (n % 2), 16, 16⟩
def CAN_EVT_CNT0_BUS_OFF (n : Nat) : Field := ⟨0xf001c + 0x4000 * (n % 2), 0, 16⟩

def CAN_EVT_CNT1_RX_LOST (n : Nat) : Field := ⟨0xf0020 + 0x4000 * (n % 2), 16, 16⟩
def CAN_EVT_CNT1_ERR_WARN (n : Nat) : Field := ⟨0xf0020 + 0x4000 * (n % 2), 0, 16⟩

def CAN_EVT_CNT2_TXQ_OVF (n : Nat) : Field := ⟨0xf0024 + 0x4000 * (n % 2), 16, 16⟩
def CAN_EVT_CNT2_TX_FAIL (n : Nat) : Field := ⟨0xf0024 + 0x4000 * (n % 2), 0, 16⟩

def CAN_EVT_CNT3_REF_MISS (n : Nat) : Field := ⟨0xf0028 + 0x4000 * (n % 2), 0, 16⟩

def CAN_ABANDON_CNT (n : Nat) : Field := ⟨0xf002c + 0x4000 * (n % 2), 0, 16⟩

def CAN_RX_MISS_RTR (n : Nat) : Field := ⟨0xf0030 + 0x4000 * (n % 2), 16, 16⟩
def CAN_RX_MISS_NO_MATCH (n : Nat) : Field := ⟨0xf0030 + 0x4000 * (n % 2), 0, 16⟩

def CAN_TX_CNT0_FAILED (n : Nat) : Field := ⟨0xf0034 + 0x4000 * (n % 2), 16, 16⟩
def CAN_TX_CNT0_DONE (n : Nat) : Field := ⟨0xf0034 + 0x4000 * (n % 2), 0, 16⟩

def CAN_TX_CNT1_CANCELLED (n : Nat) : Field := ⟨0xf0038 + 0x4000 * (n % 2), 16, 16⟩
def CAN_TX_CNT1_ARB_LOST (n : Nat) : Field := ⟨0xf0038 + 0x4000 * (n % 2), 0, 16⟩

def CAN_TXQ_PEAK (n : Nat) : Field := ⟨0xf003c + 0x4000 * (n % 2), 8, 6⟩
def CAN_TXQ_CUR (n : Nat) : Field := ⟨0xf003c + 0x4000 * (n % 2), 0, 6⟩

def CAN_TM_CFG_CYC_MAX (n : Nat) : Field := ⟨0xf0040 + 0x4000 * (n % 2), 16, 6⟩
def CAN_TM_CFG_DIV (n : Nat) : Field := ⟨0xf0040 + 0x4000 * (n % 2), 8, 8⟩
def CAN_TM_CFG_DLC (n : Nat) : Field := ⟨0xf0040 + 0x4000 * (n % 2), 4, 4⟩
def CAN_TM_CFG_EN (n : Nat) : Field := ⟨0xf0040 + 0x4000 * (n % 2), 0, 1⟩

def CAN_TM_ID_IDE (n : Nat) : Field := ⟨0xf0044 + 0x4000 * (n % 2), 29, 1⟩
def CAN_TM_ID_ID (n : Nat) : Field := ⟨0xf0044 + 0x4000 * (n % 2), 0, 29⟩

def CAN_TM_STAT_CYC (n : Nat) : Field := ⟨0xf0048 + 0x4000 * (n % 2), 0, 6⟩

def CAN_TM_TS_LO_VALUE (n : Nat) : Field := ⟨0xf004c + 0x4000 * (n % 2), 0, 32⟩

def CAN_TM_TS_HI_VALUE (n : Nat) : Field := ⟨0xf0050 + 0x4000 * (n % 2), 0, 32⟩

def CAN_WAKE_CFG_WUF_DLC (n : Nat) : Field := ⟨0xf0060 + 0x4000 * (n % 2), 2, 4⟩
def CAN_WAKE_CFG_MODE (n : Nat) : Field := ⟨0xf0060 + 0x4000 * (n % 2), 0, 2⟩

def CAN_WUF_ID_IDE (n : Nat) : Field := ⟨0xf0064 + 0x4000 * (n % 2), 29, 1⟩
def CAN_WUF_ID_ID (n : Nat) : Field := ⟨0xf0064 + 0x4000 * (n % 2), 0, 29⟩

def CAN_WUF_MASK_MASK (n : Nat) : Field := ⟨0xf0068 + 0x4000 * (n % 2), 0, 29⟩

def CAN_WUF_DMASK_LO_VALUE (n : Nat) : Field := ⟨0xf006c + 0x4000 * (n % 2), 0, 32⟩

def CAN_WUF_DMASK_HI_VALUE (n : Nat) : Field := ⟨0xf0070 + 0x4000 * (n % 2), 0, 32⟩

def CAN_WAKE_STAT_CAUSE (n : Nat) : Field := ⟨0xf0074 + 0x4000 * (n % 2), 0, 2⟩

def CAN_TX_CANCEL_BUF (n : Nat) : Field := ⟨0xf00fc + 0x4000 * (n % 2), 0, 3⟩

def CAN_TX_STAT_ATTEMPTS (n : Nat) (m : Nat) : Field := ⟨0xf0100 + 0x4000 * (n % 2) + 0x10 * (m % 3), 4, 4⟩
def CAN_TX_STAT_STATE (n : Nat) (m : Nat) : Field := ⟨0xf0100 + 0x4000 * (n % 2) + 0x10 * (m % 3), 0, 3⟩

def CAN_TX_ID_BRS (n : Nat) (m : Nat) : Field := ⟨0xf0104 + 0x4000 * (n % 2) + 0x10 * (m % 3), 31, 1⟩
def CAN_TX_ID_FDF (n : Nat) (m : Nat) : Field := ⟨0xf0104 + 0x4000 * (n % 2) + 0x10 * (m % 3), 30, 1⟩
def CAN_TX_ID_IDE (n : Nat) (m : Nat) : Field := ⟨0xf0104 + 0x4000 * (n % 2) + 0x10 * (m % 3), 29, 1⟩
def CAN_TX_ID_ID (n : Nat) (m : Nat) : Field := ⟨0xf0104 + 0x4000 * (n % 2) + 0x10 * (m % 3), 0, 29⟩

def CAN_TX_TS_VALUE (n : Nat) (m : Nat) : Field := ⟨0xf0108 + 0x4000 * (n % 2) + 0x10 * (m % 3), 0, 32⟩

def CAN_RX_CFG_USED (n : Nat) (m : Nat) : Field := ⟨0xf0400 + 0x4000 * (n % 2) + 0x50 * (m % 64), 30, 1⟩
def CAN_RX_CFG_IDE (n : Nat) (m : Nat) : Field := ⟨0xf0400 + 0x4000 * (n % 2) + 0x50 * (m % 64), 29, 1⟩
def CAN_RX_CFG_ID (n : Nat) (m : Nat) : Field := ⟨0xf0400 + 0x4000 * (n % 2) + 0x50 * (m % 64), 0, 29⟩

def CAN_RX_HDR_USE (n : Nat) (m : Nat) : Field := ⟨0xf0404 + 0x4000 * (n % 2) + 0x50 * (m % 64), 24, 3⟩
def CAN_RX_HDR_LOST (n : Nat) (m : Nat) : Field := ⟨0xf0404 + 0x4000 * (n % 2) + 0x50 * (m % 64), 17, 1⟩
def CAN_RX_HDR_NEW (n : Nat) (m : Nat) : Field := ⟨0xf0404 + 0x4000 * (n % 2) + 0x50 * (m % 64), 16, 1⟩
def CAN_RX_HDR_LEN (n : Nat) (m : Nat) : Field := ⟨0xf0404 + 0x4000 * (n % 2) + 0x50 * (m % 64), 8, 7⟩
def CAN_RX_HDR_ESI (n : Nat) (m : Nat) : Field := ⟨0xf0404 + 0x4000 * (n % 2) + 0x50 * (m % 64), 6, 1⟩
def CAN_RX_HDR_BRS (n : Nat) (m : Nat) : Field := ⟨0xf0404 + 0x4000 * (n % 2) + 0x50 * (m % 64), 5, 1⟩
def CAN_RX_HDR_FDF (n : Nat) (m : Nat) : Field := ⟨0xf0404 + 0x4000 * (n % 2) + 0x50 * (m % 64), 4, 1⟩
def CAN_RX_HDR_DLC (n : Nat) (m : Nat) : Field := ⟨0xf0404 + 0x4000 * (n % 2) + 0x50 * (m % 64), 0, 4⟩

def CAN_RX_TS_VALUE (n : Nat) (m : Nat) : Field := ⟨0xf0408 + 0x4000 * (n % 2) + 0x50 * (m % 64), 0, 32⟩

def CAN_RX_CNT_LOST (n : Nat) (m : Nat) : Field := ⟨0xf040c + 0x4000 * (n % 2) + 0x50 * (m % 64), 16, 16⟩
def CAN_RX_CNT_NEW (n : Nat) (m : Nat) : Field := ⟨0xf040c + 0x4000 * (n % 2) + 0x50 * (m % 64), 0, 16⟩

def CAN_RX_D_VALUE (n : Nat) (m : Nat) (j : Nat) : Field := ⟨0xf0410 + 0x4000 * (n % 2) + 0x50 * (m % 64) + 0x4 * (j % 16), 0, 32⟩

/-! Fields of the object maps of spec/15_ethernet_time.md. -/

def ETH_CFG_ASYM : Field := ⟨0x100000, 16, 16⟩
def ETH_CFG_ACCEPT_SLEEP : Field := ⟨0x100000, 5, 1⟩
def ETH_CFG_DEF_Q : Field := ⟨0x100000, 3, 2⟩
def ETH_CFG_ISOLATE : Field := ⟨0x100000, 2, 1⟩
def ETH_CFG_E1_ROLE : Field := ⟨0x100000, 1, 1⟩
def ETH_CFG_E0_ROLE : Field := ⟨0x100000, 0, 1⟩

def ETH_STAT_LID_HOLD : Field := ⟨0x100004, 6, 1⟩
def ETH_STAT_E1_TC10 : Field := ⟨0x100004, 4, 2⟩
def ETH_STAT_E0_TC10 : Field := ⟨0x100004, 2, 2⟩
def ETH_STAT_E1_LINK : Field := ⟨0x100004, 1, 1⟩
def ETH_STAT_E0_LINK : Field := ⟨0x100004, 0, 1⟩

def ETH_EVT_PDLY_LOST : Field := ⟨0x100008, 3, 1⟩
def ETH_EVT_SLEEP_FAIL : Field := ⟨0x100008, 2, 1⟩
def ETH_EVT_LINK1 : Field := ⟨0x100008, 1, 1⟩
def ETH_EVT_LINK0 : Field := ⟨0x100008, 0, 1⟩

def ETH_EVT_CNT0_LINK1 : Field := ⟨0x10000c, 16, 16⟩
def ETH_EVT_CNT0_LINK0 : Field := ⟨0x10000c, 0, 16⟩

def ETH_EVT_CNT1_PDLY_LOST : Field := ⟨0x100010, 16, 16⟩
def ETH_EVT_CNT1_SLEEP_FAIL : Field := ⟨0x100010, 0, 16⟩

def ETH_MAC_LO_VALUE : Field := ⟨0x100014, 0, 32⟩

def ETH_MAC_HI_VALUE : Field := ⟨0x100018, 0, 16⟩

def ETH_IP_VALUE : Field := ⟨0x10001c, 0, 32⟩

def ETH_WAKE_CFG_WUP_OUT : Field := ⟨0x100020, 3, 1⟩
def ETH_WAKE_CFG_FWD : Field := ⟨0x100020, 2, 1⟩
def ETH_WAKE_CFG_E1 : Field := ⟨0x100020, 1, 1⟩
def ETH_WAKE_CFG_E0 : Field := ⟨0x100020, 0, 1⟩

def ETH_WAKE_STAT_LAST : Field := ⟨0x100024, 0, 2⟩

def ETH_E_RX_VALUE (n : Nat) : Field := ⟨0x100040 + 0x10 * (n % 3), 0, 32⟩

def ETH_E_TX_VALUE (n : Nat) : Field := ⟨0x100044 + 0x10 * (n % 3), 0, 32⟩

def ETH_E_ERR_DISCARD (n : Nat) : Field := ⟨0x100048 + 0x10 * (n % 3), 16, 16⟩
def ETH_E_ERR_DROP (n : Nat) : Field := ⟨0x100048 + 0x10 * (n % 3), 0, 16⟩

def ETH_E_PDLY_VALID (n : Nat) : Field := ⟨0x10004c + 0x10 * (n % 3), 31, 1⟩
def ETH_E_PDLY_DELAY (n : Nat) : Field := ⟨0x10004c + 0x10 * (n % 3), 0, 31⟩

def ETH_LANE_DROP_CNT : Field := ⟨0x100070, 0, 32⟩

def TIM_RAW_LO_VALUE : Field := ⟨0x110000, 0, 32⟩

def TIM_RAW_HI_VALUE : Field := ⟨0x110004, 0, 32⟩

def TIM_NT_LO_VALUE : Field := ⟨0x110008, 0, 32⟩

def TIM_NT_HI_VALUE : Field := ⟨0x11000c, 0, 32⟩

def TIM_NT_FRAC_VALUE : Field := ⟨0x110010, 0, 32⟩

def TIM_INC_VALUE : Field := ⟨0x110014, 0, 32⟩

def TIM_STEP_VALUE : Field := ⟨0x110018, 0, 32⟩

def TIM_SET_LO_VALUE : Field := ⟨0x11001c, 0, 32⟩

def TIM_SET_HI_VALUE : Field := ⟨0x110020, 0, 32⟩

def TIM_CTRL_SET : Field := ⟨0x110024, 0, 1⟩

def TIM_CONV_RAW_LO_VALUE : Field := ⟨0x110028, 0, 32⟩

def TIM_CONV_RAW_HI_VALUE : Field := ⟨0x11002c, 0, 32⟩

def TIM_CONV_NT_LO_VALUE : Field := ⟨0x110030, 0, 32⟩

def TIM_CONV_NT_HI_VALUE : Field := ⟨0x110034, 0, 32⟩

def TIM_STAT_CONV_OOR : Field := ⟨0x110038, 3, 1⟩
def TIM_STAT_CONV_PREV : Field := ⟨0x110038, 2, 1⟩
def TIM_STAT_SERVO : Field := ⟨0x110038, 0, 2⟩

def TIM_OFFS_NS : Field := ⟨0x11003c, 0, 32⟩

def TIM_SERVO_CFG_SERVO_EN : Field := ⟨0x110040, 31, 1⟩
def TIM_SERVO_CFG_DOMAIN : Field := ⟨0x110040, 16, 8⟩
def TIM_SERVO_CFG_STEP_THR : Field := ⟨0x110040, 8, 8⟩
def TIM_SERVO_CFG_HOLD_TMO : Field := ⟨0x110040, 0, 8⟩

def TIM_EVT_TPO_LATE : Field := ⟨0x110044, 5, 1⟩
def TIM_EVT_GM_CHANGE : Field := ⟨0x110044, 4, 1⟩
def TIM_EVT_HOLDOVER : Field := ⟨0x110044, 3, 1⟩
def TIM_EVT_LOCK : Field := ⟨0x110044, 2, 1⟩
def TIM_EVT_INC_REJ : Field := ⟨0x110044, 1, 1⟩
def TIM_EVT_STEP : Field := ⟨0x110044, 0, 1⟩

def TIM_EVT_CNT0_INC_REJ : Field := ⟨0x110048, 16, 16⟩
def TIM_EVT_CNT0_STEP : Field := ⟨0x110048, 0, 16⟩

def TIM_EVT_CNT1_HOLDOVER : Field := ⟨0x11004c, 16, 16⟩
def TIM_EVT_CNT1_LOCK : Field := ⟨0x11004c, 0, 16⟩

def TIM_EVT_CNT2_TPO_LATE : Field := ⟨0x110050, 16, 16⟩
def TIM_EVT_CNT2_GM_CHANGE : Field := ⟨0x110050, 0, 16⟩

def TIM_TPO_CTRL_DISARM (n : Nat) : Field := ⟨0x110100 + 0x20 * (n % 4), 1, 1⟩
def TIM_TPO_CTRL_ARM (n : Nat) : Field := ⟨0x110100 + 0x20 * (n % 4), 0, 1⟩

def TIM_TPO_CFG_BASE (n : Nat) : Field := ⟨0x110104 + 0x20 * (n % 4), 2, 1⟩
def TIM_TPO_CFG_POL (n : Nat) : Field := ⟨0x110104 + 0x20 * (n % 4), 1, 1⟩
def TIM_TPO_CFG_MODE (n : Nat) : Field := ⟨0x110104 + 0x20 * (n % 4), 0, 1⟩

def TIM_TPO_START_LO_VALUE (n : Nat) : Field := ⟨0x110108 + 0x20 * (n % 4), 0, 32⟩

def TIM_TPO_START_HI_VALUE (n : Nat) : Field := ⟨0x11010c + 0x20 * (n % 4), 0, 32⟩

def TIM_TPO_PERIOD_VALUE (n : Nat) : Field := ⟨0x110110 + 0x20 * (n % 4), 0, 32⟩

def TIM_TPO_PERIOD_FRAC_VALUE (n : Nat) : Field := ⟨0x110114 + 0x20 * (n % 4), 0, 32⟩

def TIM_TPO_WIDTH_VALUE (n : Nat) : Field := ⟨0x110118 + 0x20 * (n % 4), 0, 32⟩

def TIM_TPO_STAT_PULSES (n : Nat) : Field := ⟨0x11011c + 0x20 * (n % 4), 16, 16⟩
def TIM_TPO_STAT_REFUSE (n : Nat) : Field := ⟨0x11011c + 0x20 * (n % 4), 4, 4⟩
def TIM_TPO_STAT_STATE (n : Nat) : Field := ⟨0x11011c + 0x20 * (n % 4), 0, 2⟩

/-! Fields of the object maps of spec/16_analog_front_end.md. -/

def AFE_CTRL_LP : Field := ⟨0x120000, 1, 1⟩
def AFE_CTRL_EN : Field := ⟨0x120000, 0, 1⟩

def AFE_STAT_TRIM_BAD : Field := ⟨0x120004, 5, 1⟩
def AFE_STAT_REF_FAULT : Field := ⟨0x120004, 4, 1⟩
def AFE_STAT_LP_ACT : Field := ⟨0x120004, 3, 1⟩
def AFE_STAT_B_BUSY : Field := ⟨0x120004, 2, 1⟩
def AFE_STAT_RUN : Field := ⟨0x120004, 0, 1⟩

def AFE_EVT_REF_FAULT : Field := ⟨0x120008, 3, 1⟩
def AFE_EVT_MERGED : Field := ⟨0x120008, 2, 1⟩
def AFE_EVT_OVR : Field := ⟨0x120008, 1, 1⟩
def AFE_EVT_WIN : Field := ⟨0x120008, 0, 1⟩

def AFE_EVT_CNT0_OVR : Field := ⟨0x12000c, 16, 16⟩
def AFE_EVT_CNT0_WIN : Field := ⟨0x12000c, 0, 16⟩

def AFE_EVT_CNT1_REF_FAULT : Field := ⟨0x120010, 16, 16⟩
def AFE_EVT_CNT1_MERGED : Field := ⟨0x120010, 0, 16⟩

def AFE_ABANDON_CNT : Field := ⟨0x120014, 0, 16⟩

def AFE_SW_TRIG_GRP : Field := ⟨0x120018, 0, 8⟩

def AFE_MAINS_AMP : Field := ⟨0x12001c, 16, 16⟩
def AFE_MAINS_LOCK : Field := ⟨0x12001c, 1, 1⟩
def AFE_MAINS_EN : Field := ⟨0x12001c, 0, 1⟩

def AFE_GRP_MASK (n : Nat) : Field := ⟨0x120020 + 0x4 * (n % 8), 24, 8⟩
def AFE_GRP_AVG_N (n : Nat) : Field := ⟨0x120020 + 0x4 * (n % 8), 8, 8⟩
def AFE_GRP_SHIFT (n : Nat) : Field := ⟨0x120020 + 0x4 * (n % 8), 0, 4⟩

def AFE_CH_RES_REF (n : Nat) : Field := ⟨0x120400 + 0x4 * (n % 8), 31, 1⟩
def AFE_CH_RES_SETTLE (n : Nat) : Field := ⟨0x120400 + 0x4 * (n % 8), 30, 1⟩
def AFE_CH_RES_OVR (n : Nat) : Field := ⟨0x120400 + 0x4 * (n % 8), 29, 1⟩
def AFE_CH_RES_VALUE (n : Nat) : Field := ⟨0x120400 + 0x4 * (n % 8), 0, 24⟩

def AFE_NTC_VALID (n : Nat) : Field := ⟨0x120440 + 0x4 * (n % 8), 31, 1⟩
def AFE_NTC_TEMP (n : Nat) : Field := ⟨0x120440 + 0x4 * (n % 8), 0, 16⟩

def AFE_CH_TRIM_GAIN (n : Nat) : Field := ⟨0x120480 + 0x4 * (n % 8), 16, 16⟩
def AFE_CH_TRIM_OFFSET (n : Nat) : Field := ⟨0x120480 + 0x4 * (n % 8), 0, 16⟩

def AFE_S_CFG_AVG_N (n : Nat) : Field := ⟨0x120100 + 0x40 * (n % 8), 16, 8⟩
def AFE_S_CFG_SHIFT (n : Nat) : Field := ⟨0x120100 + 0x40 * (n % 8), 12, 4⟩
def AFE_S_CFG_GAIN (n : Nat) : Field := ⟨0x120100 + 0x40 * (n % 8), 8, 2⟩
def AFE_S_CFG_TYPE (n : Nat) : Field := ⟨0x120100 + 0x40 * (n % 8), 0, 2⟩

def AFE_S_WIN_A_HI (n : Nat) : Field := ⟨0x120104 + 0x40 * (n % 8), 16, 16⟩
def AFE_S_WIN_A_LO (n : Nat) : Field := ⟨0x120104 + 0x40 * (n % 8), 0, 16⟩

def AFE_S_WIN_B_EN (n : Nat) : Field := ⟨0x120108 + 0x40 * (n % 8), 31, 1⟩
def AFE_S_WIN_B_MODE (n : Nat) : Field := ⟨0x120108 + 0x40 * (n % 8), 30, 1⟩
def AFE_S_WIN_B_GRP_EN (n : Nat) : Field := ⟨0x120108 + 0x40 * (n % 8), 29, 1⟩
def AFE_S_WIN_B_GRP (n : Nat) : Field := ⟨0x120108 + 0x40 * (n % 8), 26, 3⟩
def AFE_S_WIN_B_HOLDOFF (n : Nat) : Field := ⟨0x120108 + 0x40 * (n % 8), 0, 8⟩

def AFE_S_I_VALUE (n : Nat) : Field := ⟨0x12010c + 0x40 * (n % 8), 0, 32⟩

def AFE_S_AVG_VALUE (n : Nat) : Field := ⟨0x120114 + 0x40 * (n % 8), 0, 32⟩

def AFE_S_LIVE_VALUE (n : Nat) : Field := ⟨0x120134 + 0x40 * (n % 8), 0, 32⟩

def AFE_S_I_STAT_SUBST (n : Nat) : Field := ⟨0x120110 + 0x40 * (n % 8), 3, 1⟩
def AFE_S_I_STAT_REF (n : Nat) : Field := ⟨0x120110 + 0x40 * (n % 8), 2, 1⟩
def AFE_S_I_STAT_GAIN (n : Nat) : Field := ⟨0x120110 + 0x40 * (n % 8), 1, 1⟩
def AFE_S_I_STAT_OVR (n : Nat) : Field := ⟨0x120110 + 0x40 * (n % 8), 0, 1⟩

def AFE_S_AVG_STAT_WINDOWS (n : Nat) : Field := ⟨0x120118 + 0x40 * (n % 8), 16, 16⟩
def AFE_S_AVG_STAT_SETTLE (n : Nat) : Field := ⟨0x120118 + 0x40 * (n % 8), 1, 1⟩
def AFE_S_AVG_STAT_INV (n : Nat) : Field := ⟨0x120118 + 0x40 * (n % 8), 0, 1⟩

def AFE_S_QCUM_LO_VALUE (n : Nat) : Field := ⟨0x12011c + 0x40 * (n % 8), 0, 32⟩

def AFE_S_QCUM_HI_VALUE (n : Nat) : Field := ⟨0x120120 + 0x40 * (n % 8), 0, 32⟩

def AFE_S_INV_VALUE (n : Nat) : Field := ⟨0x120124 + 0x40 * (n % 8), 0, 32⟩

def AFE_S_BINV_LO_MASK (n : Nat) : Field := ⟨0x120128 + 0x40 * (n % 8), 0, 32⟩

def AFE_S_BINV_HI_MASK (n : Nat) : Field := ⟨0x12012c + 0x40 * (n % 8), 0, 32⟩

def AFE_S_TRIM_GAIN (n : Nat) : Field := ⟨0x120130 + 0x40 * (n % 8), 16, 16⟩
def AFE_S_TRIM_OFFSET (n : Nat) : Field := ⟨0x120130 + 0x40 * (n % 8), 0, 16⟩

def AFE_B_VALUE (n : Nat) (m : Nat) : Field := ⟨0x121000 + 0x100 * (n % 8) + 0x4 * (m % 64), 0, 32⟩

/-! Fields of the object maps of spec/17_recorder.md. -/

def REC_STAT_HW_LOST : Field := ⟨0x130000, 5, 1⟩
def REC_STAT_FRAM_DEG : Field := ⟨0x130000, 4, 1⟩
def REC_STAT_FLASH_DEG : Field := ⟨0x130000, 3, 1⟩
def REC_STAT_HOLD : Field := ⟨0x130000, 2, 1⟩
def REC_STAT_BUSY : Field := ⟨0x130000, 1, 1⟩
def REC_STAT_RUN : Field := ⟨0x130000, 0, 1⟩

def REC_CFG_HOLD_MAX : Field := ⟨0x130004, 16, 16⟩
def REC_CFG_FOLD : Field := ⟨0x130004, 0, 16⟩

def REC_HOURS_VALUE : Field := ⟨0x130008, 0, 32⟩

def REC_CYCLES_VALUE : Field := ⟨0x13000c, 0, 32⟩

def REC_SEQ_BEGIN_VALUE : Field := ⟨0x130010, 0, 32⟩

def REC_SEQ_END_VALUE : Field := ⟨0x130014, 0, 32⟩

def REC_RD_SEL_VALUE : Field := ⟨0x130018, 0, 32⟩

def REC_RD_BEG_VALUE : Field := ⟨0x13001c, 0, 32⟩

def REC_RD_END_VALUE : Field := ⟨0x130020, 0, 32⟩

def REC_RD_STAT_RESULT : Field := ⟨0x130024, 8, 8⟩
def REC_RD_STAT_STATE : Field := ⟨0x130024, 0, 2⟩

def REC_HOLD_KEY : Field := ⟨0x130028, 0, 32⟩

def REC_CLR_CTRL_KEY : Field := ⟨0x130030, 0, 32⟩

def REC_CLR_NONCE_VALUE : Field := ⟨0x13002c, 0, 32⟩

def REC_CLR_STAT_COUNT : Field := ⟨0x130034, 16, 16⟩
def REC_CLR_STAT_REFUSE : Field := ⟨0x130034, 0, 8⟩

def REC_HEALTH_MARK : Field := ⟨0x130038, 24, 8⟩
def REC_HEALTH_FLASH : Field := ⟨0x130038, 16, 8⟩
def REC_HEALTH_FRAM : Field := ⟨0x130038, 8, 8⟩
def REC_HEALTH_FLASH_DEG : Field := ⟨0x130038, 7, 1⟩
def REC_HEALTH_FRAM_DEG : Field := ⟨0x130038, 6, 1⟩

def REC_HEALTH_RAM_FLASH : Field := ⟨0x13003c, 16, 16⟩
def REC_HEALTH_RAM_FRAM : Field := ⟨0x13003c, 0, 16⟩

def REC_EVT_LOST : Field := ⟨0x130040, 3, 1⟩
def REC_EVT_DEGRADED : Field := ⟨0x130040, 2, 1⟩
def REC_EVT_CLEARED : Field := ⟨0x130040, 1, 1⟩
def REC_EVT_FOLD : Field := ⟨0x130040, 0, 1⟩

def REC_EVT_CNT0_CLEARED : Field := ⟨0x130044, 16, 16⟩
def REC_EVT_CNT0_FOLD : Field := ⟨0x130044, 0, 16⟩

def REC_EVT_CNT1_LOST : Field := ⟨0x130048, 16, 16⟩
def REC_EVT_CNT1_DEGRADED : Field := ⟨0x130048, 0, 16⟩

def REC_CLR_TOKEN_BYTES (n : Nat) : Field := ⟨0x130100 + 0x4 * (n % 32), 0, 32⟩

def REC_RD_W_BYTES (n : Nat) : Field := ⟨0x134000 + 0x4 * (n % 12288), 0, 32⟩

/-! Fields of the object maps of spec/18_power_states.md. -/

def PWR_STAT_START : Field := ⟨0x140000, 12, 4⟩
def PWR_STAT_READY : Field := ⟨0x140000, 7, 1⟩
def PWR_STAT_HOLDUP_OK : Field := ⟨0x140000, 6, 1⟩
def PWR_STAT_PFAIL : Field := ⟨0x140000, 5, 1⟩
def PWR_STAT_ENTRY : Field := ⟨0x140000, 4, 1⟩
def PWR_STAT_TARGET : Field := ⟨0x140000, 2, 2⟩

def PWR_CTRL_KEY : Field := ⟨0x140004, 16, 16⟩
def PWR_CTRL_TARGET : Field := ⟨0x140004, 0, 2⟩

def PWR_REFUSE_CNT : Field := ⟨0x140008, 16, 16⟩
def PWR_REFUSE_CODE : Field := ⟨0x140008, 0, 8⟩

def PWR_WAKE_CFG_KEY_WIRED : Field := ⟨0x14000c, 8, 1⟩
def PWR_WAKE_CFG_EN : Field := ⟨0x14000c, 2, 6⟩
def PWR_WAKE_CFG_WAKE_IN : Field := ⟨0x14000c, 1, 1⟩

def PWR_SLEEP_CFG_CHILL_ON : Field := ⟨0x140010, 1, 1⟩
def PWR_SLEEP_CFG_PUMP_ON : Field := ⟨0x140010, 0, 1⟩

def PWR_WAKE_TIMER_S : Field := ⟨0x140014, 0, 32⟩

def PWR_WAKE_REC_PENDING : Field := ⟨0x140018, 8, 8⟩
def PWR_WAKE_REC_LEFT : Field := ⟨0x140018, 4, 2⟩
def PWR_WAKE_REC_SOURCE : Field := ⟨0x140018, 0, 4⟩

def PWR_WAKE_DUR_S : Field := ⟨0x14001c, 0, 32⟩

def PWR_PAD_RING : Field := ⟨0x140020, 3, 1⟩
def PWR_PAD_TPO : Field := ⟨0x140020, 2, 1⟩
def PWR_PAD_CHILL : Field := ⟨0x140020, 1, 1⟩
def PWR_PAD_PUMP : Field := ⟨0x140020, 0, 1⟩

def PWR_RET_CORR : Field := ⟨0x140024, 16, 16⟩
def PWR_RET_LOST : Field := ⟨0x140024, 0, 12⟩

def PWR_SUPPLY_HOLDUP : Field := ⟨0x140028, 16, 16⟩
def PWR_SUPPLY_VIN : Field := ⟨0x140028, 0, 16⟩

def PWR_EVT_LOW : Field := ⟨0x14002c, 3, 1⟩
def PWR_EVT_RET_LOST : Field := ⟨0x14002c, 2, 1⟩
def PWR_EVT_WAKE : Field := ⟨0x14002c, 1, 1⟩
def PWR_EVT_PFAIL : Field := ⟨0x14002c, 0, 1⟩

def PWR_EVT_CNT0_WAKE : Field := ⟨0x140030, 16, 16⟩
def PWR_EVT_CNT0_PFAIL : Field := ⟨0x140030, 0, 16⟩

def PWR_EVT_CNT1_LOW : Field := ⟨0x140034, 16, 16⟩
def PWR_EVT_CNT1_RET_LOST : Field := ⟨0x140034, 0, 16⟩

/-! Fields of the object maps of spec/19_update_security.md. -/

def UPD_STAT_PROVISIONED : Field := ⟨0x150000, 2, 1⟩
def UPD_STAT_XFER : Field := ⟨0x150000, 1, 1⟩
def UPD_STAT_SESSION : Field := ⟨0x150000, 0, 1⟩

def UPD_SVC_NONCE_VALUE : Field := ⟨0x150004, 0, 32⟩

def UPD_AUTH_CTRL_VALUE : Field := ⟨0x150008, 0, 32⟩

def UPD_AUTH_STAT_MINUTES : Field := ⟨0x15000c, 16, 16⟩
def UPD_AUTH_STAT_REFUSE : Field := ⟨0x15000c, 0, 8⟩

def UPD_XFER_CTRL_SLOT : Field := ⟨0x150010, 8, 2⟩
def UPD_XFER_CTRL_TARGET : Field := ⟨0x150010, 4, 2⟩
def UPD_XFER_CTRL_CMD : Field := ⟨0x150010, 0, 2⟩

def UPD_XFER_LEN_VALUE : Field := ⟨0x150014, 0, 32⟩

def UPD_XFER_DONE_VALUE : Field := ⟨0x150018, 0, 32⟩

def UPD_XFER_STAT_RESULT : Field := ⟨0x15001c, 8, 8⟩
def UPD_XFER_STAT_STATE : Field := ⟨0x15001c, 0, 2⟩

def UPD_FW_STAT_RESULT (n : Nat) : Field := ⟨0x150020 + 0x4 * (n % 2), 16, 8⟩
def UPD_FW_STAT_SECVER (n : Nat) : Field := ⟨0x150020 + 0x4 * (n % 2), 8, 6⟩
def UPD_FW_STAT_TRIAL (n : Nat) : Field := ⟨0x150020 + 0x4 * (n % 2), 5, 1⟩
def UPD_FW_STAT_RUNNING (n : Nat) : Field := ⟨0x150020 + 0x4 * (n % 2), 4, 1⟩
def UPD_FW_STAT_STATE (n : Nat) : Field := ⟨0x150020 + 0x4 * (n % 2), 0, 3⟩

def UPD_FW_VER_VALUE (n : Nat) : Field := ⟨0x150028 + 0x4 * (n % 2), 0, 32⟩

def UPD_FW_ACT_VALUE : Field := ⟨0x150030, 0, 32⟩

def UPD_FW_CONFIRM_VALUE : Field := ⟨0x150034, 0, 32⟩

def UPD_KS_STAT_ERASE_CNT : Field := ⟨0x150038, 16, 8⟩
def UPD_KS_STAT_SV_MIN : Field := ⟨0x150038, 8, 6⟩
def UPD_KS_STAT_KEYS : Field := ⟨0x150038, 0, 5⟩

def UPD_EVT_PROVISIONED : Field := ⟨0x150040, 3, 1⟩
def UPD_EVT_AUTH_FAIL : Field := ⟨0x150040, 2, 1⟩
def UPD_EVT_ROLLBACK : Field := ⟨0x150040, 1, 1⟩
def UPD_EVT_XFER_END : Field := ⟨0x150040, 0, 1⟩

def UPD_EVT_CNT0_ROLLBACK : Field := ⟨0x150044, 16, 16⟩
def UPD_EVT_CNT0_XFER_END : Field := ⟨0x150044, 0, 16⟩

def UPD_EVT_CNT1_PROVISIONED : Field := ⟨0x150048, 16, 16⟩
def UPD_EVT_CNT1_AUTH_FAIL : Field := ⟨0x150048, 0, 16⟩

def UPD_AUTH_BYTES (n : Nat) : Field := ⟨0x150100 + 0x4 * (n % 32), 0, 32⟩

def UPD_ID_BYTES (n : Nat) : Field := ⟨0x150200 + 0x4 * (n % 26), 0, 32⟩

/-! Fields of the object maps of spec/20_electrical_mechanical.md. -/

def INF_PRODUCT_CODE : Field := ⟨0x0, 0, 32⟩

def INF_VARIANT_ISSUE : Field := ⟨0x4, 16, 8⟩
def INF_VARIANT_VARIANT : Field := ⟨0x4, 8, 8⟩
def INF_VARIANT_HOUSING : Field := ⟨0x4, 0, 8⟩

def INF_SERIAL_SERIAL : Field := ⟨0x8, 0, 32⟩

end Sys2Proof.Machine.F

namespace Sys2Proof.Machine.Ev

open Sys2Proof.Machine

def CFG_CONF_FAIL : EventFlag := ⟨F.CFG_EVT_CONF_FAIL, F.CFG_EVT_CNT_CONF_FAIL⟩
def CFG_LS_DONE : EventFlag := ⟨F.CFG_EVT_LS_DONE, F.CFG_EVT_CNT_LS_DONE⟩
def PHB_LOCK : EventFlag := ⟨F.PHB_EVT_LOCK, F.PHB_EVT_CNT1_LOCK⟩
def PHB_FALLBACK : EventFlag := ⟨F.PHB_EVT_FALLBACK, F.PHB_EVT_CNT0_FALLBACK⟩
def PHB_LOSS : EventFlag := ⟨F.PHB_EVT_LOSS, F.PHB_EVT_CNT0_LOSS⟩
def DLK_P_TRANSIENT (n : Nat) : EventFlag := ⟨F.DLK_P_EVT_TRANSIENT n, F.DLK_P_EVT_CNT2_TRANSIENT n⟩
def DLK_P_ALERT (n : Nat) : EventFlag := ⟨F.DLK_P_EVT_ALERT n, F.DLK_P_EVT_CNT2_ALERT n⟩
def DLK_P_RING_LOST (n : Nat) : EventFlag := ⟨F.DLK_P_EVT_RING_LOST n, F.DLK_P_EVT_CNT1_RING_LOST n⟩
def DLK_P_RECLOSE (n : Nat) : EventFlag := ⟨F.DLK_P_EVT_RECLOSE n, F.DLK_P_EVT_CNT1_RECLOSE n⟩
def DLK_P_BREAK (n : Nat) : EventFlag := ⟨F.DLK_P_EVT_BREAK n, F.DLK_P_EVT_CNT0_BREAK n⟩
def DLK_P_ENUM_DONE (n : Nat) : EventFlag := ⟨F.DLK_P_EVT_ENUM_DONE n, F.DLK_P_EVT_CNT0_ENUM_DONE n⟩
def SWP_STALE_LIMIT : EventFlag := ⟨F.SWP_EVT_STALE_LIMIT, F.SWP_EVT_CNT2_STALE_LIMIT⟩
def SWP_BURST_LOST : EventFlag := ⟨F.SWP_EVT_BURST_LOST, F.SWP_EVT_CNT2_BURST_LOST⟩
def SWP_BURST_DONE : EventFlag := ⟨F.SWP_EVT_BURST_DONE, F.SWP_EVT_CNT1_BURST_DONE⟩
def SWP_SPLIT_UNEX : EventFlag := ⟨F.SWP_EVT_SPLIT_UNEX, F.SWP_EVT_CNT1_SPLIT_UNEX⟩
def SWP_OW_CONF : EventFlag := ⟨F.SWP_EVT_OW_CONF, F.SWP_EVT_CNT0_OW_CONF⟩
def SWP_DIAG_FAIL : EventFlag := ⟨F.SWP_EVT_DIAG_FAIL, F.SWP_EVT_CNT0_DIAG_FAIL⟩
def EST_RET_LOST : EventFlag := ⟨F.EST_EVT_RET_LOST, F.EST_EVT_CNT2_RET_LOST⟩
def EST_CAP_LOST : EventFlag := ⟨F.EST_EVT_CAP_LOST, F.EST_EVT_CNT2_CAP_LOST⟩
def EST_WB_FAIL : EventFlag := ⟨F.EST_EVT_WB_FAIL, F.EST_EVT_CNT1_WB_FAIL⟩
def EST_LEARN_REJ : EventFlag := ⟨F.EST_EVT_LEARN_REJ, F.EST_EVT_CNT1_LEARN_REJ⟩
def EST_LEARNED : EventFlag := ⟨F.EST_EVT_LEARNED, F.EST_EVT_CNT0_LEARNED⟩
def EST_DRIFT : EventFlag := ⟨F.EST_EVT_DRIFT, F.EST_EVT_CNT0_DRIFT⟩
def PRT_CAP_MISSED : EventFlag := ⟨F.PRT_EVT_CAP_MISSED, F.PRT_EVT_CNT2_CAP_MISSED⟩
def PRT_FOREIGN : EventFlag := ⟨F.PRT_EVT_FOREIGN, F.PRT_EVT_CNT2_FOREIGN⟩
def PRT_INS_FAULT : EventFlag := ⟨F.PRT_EVT_INS_FAULT, F.PRT_EVT_CNT1_INS_FAULT⟩
def PRT_INS_WARN : EventFlag := ⟨F.PRT_EVT_INS_WARN, F.PRT_EVT_CNT1_INS_WARN⟩
def PRT_DISC : EventFlag := ⟨F.PRT_EVT_DISC, F.PRT_EVT_CNT0_DISC⟩
def PRT_TRIP : EventFlag := ⟨F.PRT_EVT_TRIP, F.PRT_EVT_CNT0_TRIP⟩
def CTE_COLD : EventFlag := ⟨F.CTE_EVT_COLD, F.CTE_EVT_CNT3_COLD⟩
def CTE_DWR_REJ : EventFlag := ⟨F.CTE_EVT_DWR_REJ, F.CTE_EVT_CNT2_DWR_REJ⟩
def CTE_TRIM_BYP : EventFlag := ⟨F.CTE_EVT_TRIM_BYP, F.CTE_EVT_CNT2_TRIM_BYP⟩
def CTE_STREAM : EventFlag := ⟨F.CTE_EVT_STREAM, F.CTE_EVT_CNT1_STREAM⟩
def CTE_SKIP : EventFlag := ⟨F.CTE_EVT_SKIP, F.CTE_EVT_CNT1_SKIP⟩
def CTE_MISS : EventFlag := ⟨F.CTE_EVT_MISS, F.CTE_EVT_CNT0_MISS⟩
def CTE_SAT : EventFlag := ⟨F.CTE_EVT_SAT, F.CTE_EVT_CNT0_SAT⟩
def THM_SD_FOUND : EventFlag := ⟨F.THM_EVT_SD_FOUND, F.THM_EVT_CNT1_SD_FOUND⟩
def THM_ACK_REF : EventFlag := ⟨F.THM_EVT_ACK_REF, F.THM_EVT_CNT1_ACK_REF⟩
def THM_STEP_DOWN : EventFlag := ⟨F.THM_EVT_STEP_DOWN, F.THM_EVT_CNT0_STEP_DOWN⟩
def THM_STEP_UP : EventFlag := ⟨F.THM_EVT_STEP_UP, F.THM_EVT_CNT0_STEP_UP⟩
def SAF_TP_TRUNC : EventFlag := ⟨F.SAF_EVT_TP_TRUNC, F.SAF_EVT_CNT3_TP_TRUNC⟩
def SAF_TP_FAIL : EventFlag := ⟨F.SAF_EVT_TP_FAIL, F.SAF_EVT_CNT2_TP_FAIL⟩
def SAF_SD_TMO : EventFlag := ⟨F.SAF_EVT_SD_TMO, F.SAF_EVT_CNT2_SD_TMO⟩
def SAF_SD_MISMATCH : EventFlag := ⟨F.SAF_EVT_SD_MISMATCH, F.SAF_EVT_CNT1_SD_MISMATCH⟩
def SAF_CROSS : EventFlag := ⟨F.SAF_EVT_CROSS, F.SAF_EVT_CNT1_CROSS⟩
def SAF_DISC : EventFlag := ⟨F.SAF_EVT_DISC, F.SAF_EVT_CNT0_DISC⟩
def SAF_DEMAND : EventFlag := ⟨F.SAF_EVT_DEMAND, F.SAF_EVT_CNT0_DEMAND⟩
def LAN_FRAME_MISS : EventFlag := ⟨F.LAN_EVT_FRAME_MISS, F.LAN_EVT_CNT2_FRAME_MISS⟩
def LAN_STALE : EventFlag := ⟨F.LAN_EVT_STALE, F.LAN_EVT_CNT1_STALE⟩
def LAN_REQUAL_OK : EventFlag := ⟨F.LAN_EVT_REQUAL_OK, F.LAN_EVT_CNT1_REQUAL_OK⟩
def LAN_STBY_LOST : EventFlag := ⟨F.LAN_EVT_STBY_LOST, F.LAN_EVT_CNT0_STBY_LOST⟩
def LAN_TAKEOVER : EventFlag := ⟨F.LAN_EVT_TAKEOVER, F.LAN_EVT_CNT0_TAKEOVER⟩
def SEQ_OLC_DONE : EventFlag := ⟨F.SEQ_EVT_OLC_DONE, F.SEQ_EVT_CNT2_OLC_DONE⟩
def SEQ_FORCE_REL : EventFlag := ⟨F.SEQ_EVT_FORCE_REL, F.SEQ_EVT_CNT2_FORCE_REL⟩
def SEQ_RIO_LOST : EventFlag := ⟨F.SEQ_EVT_RIO_LOST, F.SEQ_EVT_CNT1_RIO_LOST⟩
def SEQ_DORMANT : EventFlag := ⟨F.SEQ_EVT_DORMANT, F.SEQ_EVT_CNT1_DORMANT⟩
def SEQ_HALT : EventFlag := ⟨F.SEQ_EVT_HALT, F.SEQ_EVT_CNT0_HALT⟩
def SEQ_OVERRUN : EventFlag := ⟨F.SEQ_EVT_OVERRUN, F.SEQ_EVT_CNT0_OVERRUN⟩
def CAN_REF_MISS (n : Nat) : EventFlag := ⟨F.CAN_EVT_REF_MISS n, F.CAN_EVT_CNT3_REF_MISS n⟩
def CAN_TXQ_OVF (n : Nat) : EventFlag := ⟨F.CAN_EVT_TXQ_OVF n, F.CAN_EVT_CNT2_TXQ_OVF n⟩
def CAN_TX_FAIL (n : Nat) : EventFlag := ⟨F.CAN_EVT_TX_FAIL n, F.CAN_EVT_CNT2_TX_FAIL n⟩
def CAN_RX_LOST (n : Nat) : EventFlag := ⟨F.CAN_EVT_RX_LOST n, F.CAN_EVT_CNT1_RX_LOST n⟩
def CAN_ERR_WARN (n : Nat) : EventFlag := ⟨F.CAN_EVT_ERR_WARN n, F.CAN_EVT_CNT1_ERR_WARN n⟩
def CAN_ERR_PASSIVE (n : Nat) : EventFlag := ⟨F.CAN_EVT_ERR_PASSIVE n, F.CAN_EVT_CNT0_ERR_PASSIVE n⟩
def CAN_BUS_OFF (n : Nat) : EventFlag := ⟨F.CAN_EVT_BUS_OFF n, F.CAN_EVT_CNT0_BUS_OFF n⟩
def ETH_PDLY_LOST : EventFlag := ⟨F.ETH_EVT_PDLY_LOST, F.ETH_EVT_CNT1_PDLY_LOST⟩
def ETH_SLEEP_FAIL : EventFlag := ⟨F.ETH_EVT_SLEEP_FAIL, F.ETH_EVT_CNT1_SLEEP_FAIL⟩
def ETH_LINK1 : EventFlag := ⟨F.ETH_EVT_LINK1, F.ETH_EVT_CNT0_LINK1⟩
def ETH_LINK0 : EventFlag := ⟨F.ETH_EVT_LINK0, F.ETH_EVT_CNT0_LINK0⟩
def TIM_TPO_LATE : EventFlag := ⟨F.TIM_EVT_TPO_LATE, F.TIM_EVT_CNT2_TPO_LATE⟩
def TIM_GM_CHANGE : EventFlag := ⟨F.TIM_EVT_GM_CHANGE, F.TIM_EVT_CNT2_GM_CHANGE⟩
def TIM_HOLDOVER : EventFlag := ⟨F.TIM_EVT_HOLDOVER, F.TIM_EVT_CNT1_HOLDOVER⟩
def TIM_LOCK : EventFlag := ⟨F.TIM_EVT_LOCK, F.TIM_EVT_CNT1_LOCK⟩
def TIM_INC_REJ : EventFlag := ⟨F.TIM_EVT_INC_REJ, F.TIM_EVT_CNT0_INC_REJ⟩
def TIM_STEP : EventFlag := ⟨F.TIM_EVT_STEP, F.TIM_EVT_CNT0_STEP⟩
def AFE_REF_FAULT : EventFlag := ⟨F.AFE_EVT_REF_FAULT, F.AFE_EVT_CNT1_REF_FAULT⟩
def AFE_MERGED : EventFlag := ⟨F.AFE_EVT_MERGED, F.AFE_EVT_CNT1_MERGED⟩
def AFE_OVR : EventFlag := ⟨F.AFE_EVT_OVR, F.AFE_EVT_CNT0_OVR⟩
def AFE_WIN : EventFlag := ⟨F.AFE_EVT_WIN, F.AFE_EVT_CNT0_WIN⟩
def REC_LOST : EventFlag := ⟨F.REC_EVT_LOST, F.REC_EVT_CNT1_LOST⟩
def REC_DEGRADED : EventFlag := ⟨F.REC_EVT_DEGRADED, F.REC_EVT_CNT1_DEGRADED⟩
def REC_CLEARED : EventFlag := ⟨F.REC_EVT_CLEARED, F.REC_EVT_CNT0_CLEARED⟩
def REC_FOLD : EventFlag := ⟨F.REC_EVT_FOLD, F.REC_EVT_CNT0_FOLD⟩
def PWR_LOW : EventFlag := ⟨F.PWR_EVT_LOW, F.PWR_EVT_CNT1_LOW⟩
def PWR_RET_LOST : EventFlag := ⟨F.PWR_EVT_RET_LOST, F.PWR_EVT_CNT1_RET_LOST⟩
def PWR_WAKE : EventFlag := ⟨F.PWR_EVT_WAKE, F.PWR_EVT_CNT0_WAKE⟩
def PWR_PFAIL : EventFlag := ⟨F.PWR_EVT_PFAIL, F.PWR_EVT_CNT0_PFAIL⟩
def UPD_PROVISIONED : EventFlag := ⟨F.UPD_EVT_PROVISIONED, F.UPD_EVT_CNT1_PROVISIONED⟩
def UPD_AUTH_FAIL : EventFlag := ⟨F.UPD_EVT_AUTH_FAIL, F.UPD_EVT_CNT1_AUTH_FAIL⟩
def UPD_ROLLBACK : EventFlag := ⟨F.UPD_EVT_ROLLBACK, F.UPD_EVT_CNT0_ROLLBACK⟩
def UPD_XFER_END : EventFlag := ⟨F.UPD_EVT_XFER_END, F.UPD_EVT_CNT0_XFER_END⟩

/-- Dertur wake event at end A of port n (R156). -/
def DLK_WAKE_A (n : Nat) : EventFlag := ⟨⟨0x40008, 2 * (n % 8), 1⟩, F.DLK_WAKE_CNTN_A n⟩
/-- Dertur wake event at end B of port n (R156). -/
def DLK_WAKE_B (n : Nat) : EventFlag := ⟨⟨0x40008, 2 * (n % 8) + 1, 1⟩, F.DLK_WAKE_CNTN_B n⟩
/-- Capture buffer of string n frozen (R262). -/
def PRT_HELD (n : Nat) : EventFlag := ⟨F.PRT_S_CAP_STAT_HELD n, F.PRT_S_CAP_STAT_HELD_CNT n⟩
/-- Receive object m of channel n stored a frame (R387). -/
def CAN_RXO_NEW (n m : Nat) : EventFlag := ⟨F.CAN_RX_HDR_NEW n m, F.CAN_RX_CNT_NEW n m⟩
/-- Receive object m of channel n lost a frame (R387). -/
def CAN_RXO_LOST (n m : Nat) : EventFlag := ⟨F.CAN_RX_HDR_LOST n m, F.CAN_RX_CNT_LOST n m⟩

end Sys2Proof.Machine.Ev
end

