-- ==== Sys2Proof/Machine/State.lean ====
section
/-! DEFINITION. State.lean: everything the manual gives the module, as plain data; the faults and refusals a step can end in; and the module right after reset. -/
namespace Sys2Proof.Machine

open Sys2Proof

/-- Storage by address: strictly rising addresses, and no entry equal to 0, which is what an unlisted address reads as. -/
abbrev Cells (w : Nat) := List (Nat × BitVec w)

/-- The reasons for which a step stops with a fault. -/
inductive Fault where
  /-- An address of the object space that the manual calls unmapped (R48, R49), reached by a writer that is not the object access service, for which the manual gives no answer. Raised by REGISTER_WRITE, RWS_WRITE and PAIR_LO_READ. Safe: the machine stops. -/
  | unmappedAddress
deriving DecidableEq, Repr

/-- The reasons for which a command has no meaning. -/
inductive Refusal where
  /-- The command has no meaning in this model yet. Raised by the dispatch alone. Safe. -/
  | notModelled (mnemonic : String)
deriving DecidableEq, Repr

/-- A published or assembled snapshot (R30): its epoch, the aperture's time-counter value and phase count, whether it was phase-aligned (R116), the ring state of each port (R155), and the values of the snapshot objects it carries (R50). -/
structure Snapshot where
  epoch : Word
  tc : Tc
  phase : BitVec 16
  aligned : Bool
  ring : List Word
  objs : Cells 32
deriving DecidableEq, Repr

def Snapshot.empty : Snapshot where
  epoch := 0
  tc := 0
  phase := 0
  aligned := false
  ring := []
  objs := []

/-- A request of the object access service as it arrives: its path, on a network its source as IPv4 address and UDP port, and its bytes (R52, R66, R474). -/
structure Request where
  path : Path
  src : BitVec 48
  pdu : List Byte
deriving DecidableEq, Repr

/-- A response of the object access service (R67). -/
structure Response where
  service : Byte
  tag : Byte
  status : Byte
  index : Byte
  epoch : Word
  values : List Word
deriving DecidableEq, Repr

/-- What the module sends out, in the order sent (the model's own record of its outputs; log entry 4). -/
inductive Output where
  /-- A response on a path (R67). -/
  | response (path : Path) (r : Response)
  /-- The answer to a transfer datagram: its offset and its status byte (R477). -/
  | xferAnswer (offset : Nat) (status : Nat)
  /-- The value a single read delivers to its reader. -/
  | readValue (addr : Nat) (value : Word)
  /-- An angle message: a UDP datagram to an IPv4 address and port (R126). -/
  | angle (addr : Nat) (port : Nat) (bytes : List Byte)
  /-- A frame on one end of a port (R132). -/
  | dertur (port : Nat) (endB : Bool) (bytes : List Byte)
  /-- A safe-data message on Ethernet: a UDP datagram to an IPv4 address and port (R331, R335). -/
  | safeData (addr : Nat) (port : Nat) (bytes : List Byte)
  /-- A frame that leaves a port of the switch (R402). -/
  | eth (port : Nat) (bytes : List Byte)
  /-- A frame that the module itself sends into the switch at E2 (R404). -/
  | lane (bytes : List Byte)
  /-- A Pdelay_Req of an external port, with its domain and number; an answer to one, with its number and the turnaround in 2^-16 ns (R407). -/
  | pdelayReq (port domain seq : Nat)
  | pdelayResp (port seq : Nat) (turnaround : Int)
  /-- A TC10 signal of an external port: a sleep request, its acknowledgment or rejection, a wake-up (R418). -/
  | tc10Sleep (port : Nat)
  | tc10Ack (port : Nat)
  | tc10Reject (port : Nat)
  | tc10Wake (port : Nat)
  /-- A frame that a CAN channel has transmitted: channel, identifier word as CANc_TXb_ID, ESI, data (R390). -/
  | can (ch : Nat) (id : Word) (esi : Bool) (data : List Byte)
deriving DecidableEq, Repr

/-- The object access service and the Ladle's bookkeeping beside the registers (R53, R125). -/
structure Obj where
  /-- The service answers (step 6 of R454; R53). -/
  running : Bool
  /-- The queued requests of all paths, oldest first (R53). -/
  queue : List Request
  /-- The holding registers of the 64-bit pairs, by the address of their _HI object (R125). -/
  holding : Cells 32
deriving DecidableEq, Repr

def Obj.reset : Obj where
  running := false
  queue := []
  holding := []

/-- The state of the structure image and the live set beside its registers (R81 to R105). -/
structure Cfg where
  /-- The bytes of each image slot: image and signature, decrypted (R80, R81). -/
  slots : List (List Byte)
  /-- Each slot record's confirmation (R94). -/
  confirms : List (Option Word)
  /-- The section bodies of the image in effect, by type; empty in the no-image state (R74, R90). -/
  sections : List (Nat × List Byte)
  /-- The bodies have been distributed, load step 10 of R87. -/
  distributed : Bool
  /-- The open staging: object address and value, in ascending address order (R97, R98). -/
  staging : List (Nat × Word)
  /-- The submitted set (R100). -/
  submitted : List (Nat × Word)
  /-- ABANDONED waits to be posted at the management step (R100). -/
  abandonedDue : Bool
  /-- Objects lost at the control step, reported from the management step (R101). -/
  lostDue : Nat
  /-- The instant at which the confirmation window opened (R96). -/
  windowTc : Tc
  /-- The confirmation record is being written to flash (R96). -/
  confirmWriting : Bool
  /-- Closes are accepted from the next commit point (R96). -/
  confirmDue : Bool
deriving DecidableEq, Repr

/-- Right after reset; the flash content is an input (log entry 1: empty slots). -/
def Cfg.reset : Cfg where
  slots := [[], [], [], []]
  confirms := [none, none, none, none]
  sections := []
  distributed := false
  staging := []
  submitted := []
  abandonedDue := false
  lostDue := 0
  windowTc := 0
  confirmWriting := false
  confirmDue := false

/-- The phase base beside its registers (R108 to R127). -/
structure Phb where
  /-- The accumulator as it stood at `accTc` (R108). -/
  acc : BitVec 48
  accTc : Tc
  /-- The frequency term F of the loop (R113). -/
  freqTerm : Int
  /-- The instant of the last reference event, in units of 1/16 ns. -/
  lastRef : Option Nat
  /-- The measured source period, in units of 1/16 ns; 0 for none. -/
  period : Nat
  /-- The acquisition history, newest event first: did it qualify (R114). -/
  history : List Bool
  /-- The flywheel count (R114). -/
  flywheel : Nat
  /-- A change of PHB_OFFSET was applied since the previous wrap (R114). -/
  offsetChanged : Bool
  /-- The encoder's count, the count from which the next event is reached, and whether the count has reached it (R111). -/
  encCount : Int
  encBase : Int
  encDue : Bool
  /-- The increment in effect on the tick that reached `accTc`; carries out of bit 47 by then whose wrap has not been evaluated (R108). -/
  incBefore : Nat
  carries : Nat
  /-- The tick of the last change of the increment or the schedule, the first cycle whose firings take place, and the last firing that has acted: its tick and its place in the order of R119 (R119, R120, R123). -/
  moveTc : Option Tc
  startCycle : Nat
  fired : Option (Tc × Nat)
  /-- The instants of APERTURE firings that have been noticed and not yet taken, each with the effective lead latched at the notice; by entry, the position of the firing last noticed (R120, R160). -/
  noticed : List (Tc × Nat)
  noticedPos : List Nat
  /-- Sequence number of the last accepted angle message, and of the next one sent; the instants at which one was last accepted and sent (R112, R126, R127). -/
  angleSeen : Option Word
  angleNext : Word
  angleTc : Option Tc
  sentTc : Option Tc
deriving DecidableEq, Repr

/-- The phase base right after reset. -/
def Phb.reset : Phb where
  acc := 0
  accTc := 0
  freqTerm := 0
  lastRef := none
  period := 0
  history := []
  flywheel := 0
  offsetChanged := false
  encCount := 0
  encBase := 0
  encDue := false
  incBefore := 0
  carries := 0
  moveTc := none
  startCycle := 0
  fired := none
  noticed := []
  noticedPos := List.replicate 64 0
  angleSeen := none
  angleNext := 0
  angleTc := none
  sentTc := none

/-- What a transaction is for; its result is delivered accordingly (R142). -/
inductive Purpose where
  /-- Enumeration: assign address a, from end B if set (R146 steps 2 and 3). -/
  | enum (a : Nat) (fromB : Bool)
  /-- Enumeration: open Ma. -/
  | openMon (a : Nat) (fromB : Bool)
  /-- Delay measurement of Mm from one end (R146 step 4, R147). -/
  | ping (m : Nat) (fromB : Bool)
  /-- DLY_A and DLY_B of Mm (R146 step 5, R164). -/
  | writeDelay (m : Nat)
  /-- Set-up register write (R146 step 6, R186). -/
  | setup (m : Nat)
  /-- Result block of a sweep (R166). -/
  | result (m : Nat) (epoch : Word)
  /-- Start of a diagnostic step: arming CROSS or starting a sink (R185, R190). -/
  | diagStart (m : Nat)
  /-- The diagnostic read of a step (R185, R188). -/
  | diagRead (m : Nat) (part : Nat)
  /-- The end of a sink test (R189). -/
  | sinkEnd (m : Nat)
  /-- BAL_MASK write (R179). -/
  | balance (m : Nat) (mask : BitVec 16)
  /-- Burst READ i of 52 (R184). -/
  | burst (m : Nat) (i : Nat)
  /-- Re-arming BURST_CFG write (R184). -/
  | burstArm (m : Nat)
  /-- ALERT_CAUSE read (R157). -/
  | alertCause (m : Nat)
  /-- A PING of a delay that is measured again (R164). -/
  | remeasure (m : Nat) (fromB : Bool)
deriving DecidableEq, Repr

/-- Results of a transaction (R142). -/
inductive TxnResult where
  | done | monError | noTarget | timeout | noRing | abandoned
deriving DecidableEq, Repr

/-- A transaction: its request, and while it is outstanding its tag, attempt, retries, serving end and predicted response interval in units of 0.25 ns (R137 to R141); whether its request waits to be sent again (R140), and whether it finishes on its present end (R154). -/
structure Txn where
  purpose : Purpose
  mon : Nat
  typ : Nat
  payload : List Byte
  respPayload : Nat
  tag : Nat
  attempt : Nat
  retries : Nat
  endB : Bool
  issued : Nat
  respStart : Nat
  respEnd : Nat
  waits : Bool
  pinned : Bool
deriving DecidableEq, Repr

/-- One step of the diagnostics of a port, rotating or out of rotation (R185 to R190). -/
structure Diag where
  mon : Nat
  step : Nat
  /-- The sunk lines of an OW step or of a sink test. -/
  lines : BitVec 17
  rotating : Bool
  /-- The start write is done; the instant of the start; the part of the read that comes next; for a sink, the last readings of the 16 cells before it (R190). -/
  armed : Bool
  startTc : Tc
  part : Nat
  before : List Nat
deriving DecidableEq, Repr

/-- The frame that an end of a port is sending, or sent last (R132): its bytes, the tag of the transaction whose request it is, and when its start delimiter leaves and its end delimiter has left, in units of 0.25 ns. -/
structure Wire where
  bytes : List Byte
  tag : Option Nat
  start : Nat
  finish : Nat
deriving DecidableEq, Repr

/-- One port beside its registers. -/
structure Port where
  /-- Both ends transmit idle between frames; they are silent otherwise (R131, R150). What each end sends. -/
  idle : Bool
  wireA : Option Wire
  wireB : Option Wire
  /-- The POLLs whose decision is to come, by the instant of their issue in units of 0.25 ns, and the last periodic POLL (R151). -/
  pollA : Option Nat
  pollB : Option Nat
  pollTc : Option Tc
  /-- Link-management transactions, then the sweep sequencer's, waiting in order (R138). -/
  mgmt : List Txn
  queue : List Txn
  outstanding : List Txn
  consecutive : Nat
  reachA : BitVec 32
  reachB : BitVec 32
  /-- Enumeration (R146): step, next address from end A and from end B, found monitors, orientation error, overcount, ring closed, waiting for the POLL after M31. -/
  enumStep : Nat
  enumA : Nat
  enumB : Nat
  addressed : BitVec 32
  orient : Bool
  overcount : Bool
  closed : Bool
  awaitPoll : Bool
  /-- By 2 m + end: the sum of the round-trip times of the PINGs that have come back, and their number (R147). -/
  pings : List (Nat × Nat)
  /-- Diagnostics: sweeps since the last step started, the step in progress, the steps out of rotation that wait (R185 to R187). -/
  sinceStep : Nat
  diag : Option Diag
  diagQueue : List Diag
  /-- Burst capture: trigger instant, the frozen sweep and the instant of its hold, monitors read, the READs that wait for link time, the bytes read (R183, R184). -/
  burstTrig : Option Tc
  burstEpoch : Option Word
  burstTc : Tc
  burstAligned : Bool
  burstRead : BitVec 32
  bursts : List Txn
  burstData : Cells 8
  /-- By monitor: the READs of its burst that are done. -/
  burstParts : Cells 8
deriving DecidableEq, Repr

def Port.reset : Port where
  idle := false
  wireA := none
  wireB := none
  pollA := none
  pollB := none
  pollTc := none
  mgmt := []
  queue := []
  outstanding := []
  consecutive := 0
  reachA := 0
  reachB := 0
  enumStep := 0
  enumA := 0
  enumB := 0
  addressed := 0
  orient := false
  overcount := false
  closed := false
  awaitPoll := false
  pings := []
  sinceStep := 0
  diag := none
  diagQueue := []
  burstTrig := none
  burstEpoch := none
  burstTc := 0
  burstAligned := false
  burstRead := 0
  bursts := []
  burstData := []
  burstParts := []

/-- One monitor as the sweep sequencer knows it. -/
structure Mon where
  /-- The previous sweep failed to read it (R166). -/
  missed : Bool
  /-- The bleed mask wanted, the one last written, when the wanted one changed, when the last write was made (R176 to R179). -/
  want : BitVec 16
  force : BitVec 16
  changedTc : Tc
  writtenTc : Tc
  /-- The masks in force since before the previous hold, newest first, each with the instant from which it holds (R198), and the status byte of the block last used (R192). -/
  forceLog : List (Tc × BitVec 16)
  status : Byte
  /-- Cells made stale by a CROSS failure, consecutive CROSS failures, confirmed (R186). -/
  diagStale : BitVec 16
  crossFails : Nat
  diagConfirmed : Bool
  /-- Suspect lines, lines being sunk, confirmed lines that have passed one rotation (R190, R191). -/
  suspect : BitVec 17
  sunk : BitVec 17
  passedOnce : BitVec 17
  /-- The last fresh stack reading, 100 µV units (R190); a block has been used since the start; a sum mismatch in the sweep in hand (R187). -/
  stackLast : Nat
  seen : Bool
  sumBad : Bool
  /-- The cause read from ALERT_CAUSE (R157). -/
  alertCause : BitVec 16
deriving DecidableEq, Repr

def Mon.reset : Mon where
  missed := false
  want := 0
  force := 0
  changedTc := 0
  writtenTc := 0
  forceLog := []
  status := 0
  diagStale := 0
  crossFails := 0
  diagConfirmed := false
  suspect := 0
  sunk := 0
  passedOnce := 0
  stackLast := 0
  seen := false
  sumBad := false
  alertCause := 0

/-- A sweep in progress: the epoch its snapshot will carry, the aperture instant, phase and alignment, the monitors of each port whose block is used and those that have been read, the blocks 32 p + m in the order of their delivery (R223), and whether assembly is closed (R159 to R168). -/
structure Sweep where
  epoch : Word
  tc : Tc
  phase : BitVec 16
  aligned : Bool
  used : List (BitVec 32)
  read : List (BitVec 32)
  order : List Nat
  closed : Bool
deriving DecidableEq, Repr

/-- The sweep sequencer beside its registers. -/
structure Swp where
  sweep : Option Sweep
  /-- The port buffers, 512 KB, by byte (R26); what the manual says they hold stands in the ports and in the sweep. -/
  buffer : Cells 8
  /-- The pause markers sent since the hold of the latest snapshot, newest first (R174, R198). -/
  pauses : List Tc
  /-- D_max in 0.25 ns units as last computed (R160). -/
  dMax : Nat
  mons : List Mon
  /-- By cell index g: last fresh code; runs of readings beyond OV ([3:0]) and UV ([7:4]); consecutive stale sweeps. -/
  lastCode : Cells 32
  runs : Cells 8
  staleRun : Cells 8
  /-- By point index h: last temperature code plus 1 (Q8.7), runs beyond OT and UT, age in rotations. -/
  lastTemp : Cells 32
  tempRuns : Cells 8
  tempAge : Cells 8
deriving DecidableEq, Repr

def Swp.reset : Swp where
  sweep := none
  buffer := []
  pauses := []
  dMax := 0
  mons := List.replicate 256 Mon.reset
  lastCode := []
  runs := []
  staleRun := []
  lastTemp := []
  tempRuns := []
  tempAge := []

/-- A burst handed to the estimation engine (R184, R211): its port, the epoch, instant and alignment of the freezing aperture, the monitors read and their bytes. -/
structure Burst where
  port : Nat
  epoch : Word
  tc : Tc
  aligned : Bool
  read : BitVec 32
  data : Cells 8
deriving DecidableEq, Repr

/-- The last qualified step of a string while its points can still complete (R211 to R214): t_s, t_63, I_post, its tolerance times 100, and whether a current has left the band. -/
structure EstStep where
  ts : Tc
  t63 : Tc
  iPost : Int
  tol100 : Nat
  unsteady : Bool
deriving DecidableEq, Repr

/-- A write-back in progress: its cause, its target copy (0 A, 1 B), its bytes (R229 to R231). -/
structure WriteBack where
  cause : Nat
  target : Nat
  bytes : List Byte
deriving DecidableEq, Repr

/-- The estimation engine beside the cell state table and its registers. -/
structure Est where
  /-- The rest start, a number that grows with each rest, and the epoch at which the rest condition was last evaluated (R202); the sweep whose remaining cells a disable has abandoned (R64, R223). -/
  restStart : Option Tc
  restId : Nat
  restEpoch : Word
  skip : Option Word
  /-- By cell index g: the rest whose start the cell has acted on, plus 1, and the minutes it has sampled in it (R203). -/
  cellRest : Cells 32
  cellMinute : Cells 32
  /-- By cell index g: 1 once a pass has loaded the counting base; 1 once the cell is restored (R197, R226). -/
  loaded : Cells 8
  restored : Cells 8
  /-- By cell index g, exact amounts behind rounded fields: bleed in Q39.24 C; segment times in ticks: total, high rate, stale temperature. -/
  bleedSum : Cells 64
  segTicks : Cells 64
  segHigh : Cells 64
  segStale : Cells 64
  /-- Bursts handed over and not yet evaluated; each string's aperture currents since its freeze, newest first; each string's step. -/
  bursts : List Burst
  trails : List (List (Tc × Int))
  steps : List (Option EstStep)
  /-- The two FRAM capacity copies as bytes; the write-back in progress; causes held; when the last one started (R229 to R231). -/
  copyA : List Byte
  copyB : List Byte
  wb : Option WriteBack
  held : List Nat
  lastWb : Tc
deriving DecidableEq, Repr

def Est.reset : Est where
  restStart := none
  restId := 0
  restEpoch := 0
  skip := none
  cellRest := []
  cellMinute := []
  loaded := []
  restored := []
  bleedSum := []
  segTicks := []
  segHigh := []
  segStale := []
  bursts := []
  trails := List.replicate 8 []
  steps := List.replicate 8 none
  copyA := []
  copyB := []
  wb := none
  held := []
  lastWb := 0

/-- One string of the protection island beside its registers (R239 to R264). -/
structure IslandString where
  /-- The direct latches SC and OC with the instants at which they set; the filtered paths FOC and DIDT (R239, R240). -/
  sc : Option Tc
  oc : Option Tc
  foc : Bool
  didt : Bool
  /-- Breaker fault of code 1 is present (R252); a fault has arisen since the last tick; an output that opens the string has been active since the last tick (R258). -/
  failOpen : Bool
  arose : Bool
  seen : Bool
  /-- When the pair took its present drive, the string its present state, BST closed in PRECHARGE (R252, R258). -/
  pairSince : Tc
  stateSince : Tc
  preStart : Option Tc
  /-- A transition was withheld for want of the Lid (R259). -/
  held : Bool
  /-- PC_TIMEOUT is present (R258). -/
  pcTimeout : Bool
  /-- The contactors wait for the breaker after a test fault (R329); since when Y(8+s) is active with its contactors waiting for the breaker (R245). -/
  dropWait : Bool
  dropY : Option Tc
  /-- The trip the Twill has seen and the record has not yet taken: its instant and its masked inputs (R261). -/
  trip : Option (Tc × BitVec 64)
  /-- The breaker opening time runs from here; the time found (R261). -/
  brkFrom : Option Tc
  brkTime : Nat
  /-- The capture buffer freezes at its sample 127; the instant of its sample 96; the changes of the sample bits that the island's state gives, newest first: [0] pair in close drive, [1] BST, [2] BFLT, [3] channel difference (R262). -/
  capDue : Bool
  capTc : Tc
  ring : List (Tc × BitVec 4)
  /-- The last inactive clock of the raw comparators FOC and DIDT, from which their counts run (R240). -/
  focTc : Tc
  didtTc : Tc
  /-- The commands that wait, oldest first, as code and origin; the origin of an OPEN that is taken at the next tick (R257). -/
  queue : List (Nat × Origin)
  openDue : Option Origin
  /-- Instants of the trip records counted towards lockout, newest first; a lockout released and not yet taken (R264). -/
  direct : List Tc
  release : Bool
deriving DecidableEq, Repr

def IslandString.reset : IslandString where
  sc := none
  oc := none
  foc := false
  didt := false
  failOpen := false
  arose := false
  seen := false
  pairSince := 0
  stateSince := 0
  preStart := none
  held := false
  pcTimeout := false
  dropWait := false
  dropY := none
  trip := none
  brkFrom := none
  brkTime := 0
  capDue := false
  capTc := 0
  ring := []
  focTc := 0
  didtTc := 0
  queue := []
  openDue := none
  direct := []
  release := false

/-- One phase of an insulation cycle (R266): the means of V_p and V_n in mV, and whether U fell below IMD_VMIN or V_p/U drifted. -/
structure ImdPhase where
  vp : Nat
  vn : Nat
  low : Bool
  drift : Bool
deriving DecidableEq, Repr

/-- One of the island's two channels (R234): its own latches of Y0 to Y19 and its own outputs (R246), and its enables: of each breaker driver, and of each contactor driver, whose high-side switches channel 1 drives and whose low-side switches channel 2 drives (R253). -/
structure Channel where
  latch : BitVec 20
  out : BitVec 20
  brk : BitVec 8
  coil : BitVec 28
deriving DecidableEq, Repr

def Channel.reset : Channel where
  latch := 0
  out := 0
  brk := 0
  coil := 0

/-- The protection island beside its registers. -/
structure Prt where
  strs : List IslandString
  /-- The two channels; what channel 2 sees of the 64 inputs otherwise than channel 1; since when the channels differ (R234, R235). -/
  ch1 : Channel
  ch2 : Channel
  skew : BitVec 64
  diffTc : Option Tc
  /-- The instant of the latest setting of each latch (R247). -/
  latchTc : List Tc
  /-- The fault of code 5 to 7 present on each driver; 0 for none (R255). -/
  conFaults : List Nat
  /-- Inputs X58, X59 and X60 as given by the safety functions and the thermal shutdown (R244). -/
  given : BitVec 64
  /-- When each driver was last switched (R255), and when Y16 to Y19 last became active (R263). -/
  driverTc : List Tc
  auxTc : List Tc
  /-- The instant of an island fault (R237). -/
  faultTc : Tc
  /-- The phases of the insulation cycle measured so far; consecutive discarded cycles (R266). -/
  imd : List ImdPhase
  discarded : Nat
  /-- The start of the present phase (R266); since when a rail ratio is below COLLAPSE with U at or above IMD_VMIN (R267). -/
  imdTc : Tc
  collapseFrom : Option Tc
deriving DecidableEq, Repr

def Prt.reset : Prt where
  strs := List.replicate 8 IslandString.reset
  ch1 := Channel.reset
  ch2 := Channel.reset
  skew := 0
  diffTc := none
  conFaults := List.replicate 28 0
  latchTc := List.replicate 20 0
  given := 0
  driverTc := List.replicate 28 0
  auxTc := List.replicate 4 0
  faultTc := 0
  imd := []
  discarded := 0
  imdTc := 0
  collapseFrom := none

/-- Undriven: each _P signal is pulled to 0 and each _N signal to 1, which gives no lane the Lid (R343). -/
def LidPins.reset : LidPins where
  ap := false
  an := true
  bp := false
  bn := true

/-- The lanes beside their registers. -/
structure Lan where
  /-- The two signal pairs of the Lid (R343); the active lane's firmware runs (R354). -/
  pins : LidPins
  /-- What the signals read back at the gates, and since when the pair of a displaced lane has read back de-asserted in a control step (R344). -/
  back : LidPins
  clear : Option Tc
  fw : Bool
  /-- The performance level of each lane while it is powered: CHECK and REQUAL at PL1, RESTORE at PL3, ACTIVE at LAN_STAT.PL (R362). -/
  levelA : Option Nat
  levelB : Option Nat
  /-- The firmware and image check values that each lane reported at its boot (R339, R342). -/
  checkA : Word × Word
  checkB : Word × Word
  /-- The active lane has had a management step since the start or the resume (R359). -/
  managed : Bool
  /-- The Lane A and Lane B memories, 4 MB each, by byte (R26). -/
  memA : Cells 8
  memB : Cells 8
  /-- A disagreement of a Lid readback with the commanded level, since this instant (R344). -/
  odd : Option Tc
  /-- A control step in progress: the displaced lane, the fault class and the detection (R353). -/
  control : Option (Lane × Nat × Tc)
  /-- The placement epoch whose management frame the new lane takes (R354); its rebuild has ended (R355). -/
  restoring : Option Word
  rebuilt : Bool
  /-- The ready instant of the new half (R354); the last management step, or READY for a lane active since a start or resume (R359); the end of the standby lane's last passed check, or of its load, and the start of the check in progress (R341, R342); the management step from which a requalification counts (R341). -/
  readyTc : Tc
  mgmtTc : Tc
  passTc : Tc
  checkTc : Tc
  requalTc : Tc
  /-- Heartbeats written since the last commit point, and whether one of them was wrong (R347). -/
  beats : Nat
  wrong : Bool
  /-- A commit point has passed with the firmware of the present Lid holder in charge, so heartbeats are judged at the next one (R347). -/
  watched : Bool
  /-- A planned switch has been accepted; its final frame is being written (R359). -/
  planned : Bool
  final : Bool
  /-- The instant of a safe stop (R360); the seconds on the referee's clock of the automatic starts (R360). -/
  stopTc : Option Tc
  autos : List Nat
deriving DecidableEq, Repr

def Lan.reset : Lan where
  pins := LidPins.reset
  back := LidPins.reset
  clear := none
  fw := false
  levelA := none
  levelB := none
  checkA := (0, 0)
  checkB := (0, 0)
  managed := false
  memA := []
  memB := []
  odd := none
  control := none
  restoring := none
  rebuilt := false
  readyTc := 0
  mgmtTc := 0
  passTc := 0
  checkTc := 0
  requalTc := 0
  beats := 0
  wrong := false
  watched := false
  planned := false
  final := false
  stopTc := none
  autos := []

/-- What the gates of a trimmer's legs are doing (R296, R298, R299). -/
inductive Gate where
  /-- All gates off. -/
  | off
  /-- The zero-voltage state. -/
  | zero
  /-- Driven by the compares. -/
  | pwm
deriving DecidableEq, Repr

/-- The gate pair of a leg over one carrier period (R296): one gate on throughout, or the places in fine steps of the period at which the high and the low side switch on and off. -/
inductive Leg where
  | hold (high : Bool)
  | edges (highOn highOff lowOn lowOff : Nat)
deriving DecidableEq, Repr

/-- One trimmer beside its registers: the end of its latest good frame and its loss (R275), its gates and what they do at the next period start (R299), the shadow command with the on-times of its legs in fine steps, the on-times in effect and the edges they give, and the carrier period in effect (R296, R297). -/
structure Trim where
  good : Option Tc
  lost : Bool
  gate : Gate
  gateNext : Option Gate
  shadow : Option (Int × Nat × Nat)
  onA : Nat
  onB : Nat
  legA : Leg
  legB : Leg
  per : Nat
deriving DecidableEq, Repr

def Trim.reset : Trim where
  good := none
  lost := false
  gate := .off
  gateNext := none
  shadow := none
  onA := 0
  onB := 0
  legA := .hold false
  legB := .hold false
  per := 0

/-- One control slot beside its registers: its divider counter (R272), its error and output histories, newest first (R281), its evaluation counter (R295), and whether a live set has enabled it since its last sample tick (R290). -/
structure Slot where
  div : Nat
  e : List Int
  u : List Int
  count : BitVec 16
  fresh : Bool
deriving DecidableEq, Repr

def Slot.reset : Slot where
  div := 0
  e := [0, 0, 0]
  u := [0, 0, 0]
  count := 0
  fresh := false

/-- A class S evaluation that waits: its slot, its inputs at the latch, its deadline as a position of the schedule (R288). -/
structure ClassS where
  slot : Nat
  r : Int
  y : Int
  deadline : Nat
deriving DecidableEq, Repr

/-- The control engine beside its registers: results on their way to their output registers, as instant, slot and value (R287); the active half is ready, the carriers run (R297, R353). -/
structure Cte where
  slots : List Slot
  outs : List (Tc × Nat × Int)
  waiting : List ClassS
  trims : List Trim
  ready : Bool
  carriers : Bool
deriving DecidableEq, Repr

def Cte.reset : Cte where
  slots := List.replicate 32 Slot.reset
  outs := []
  waiting := []
  trims := List.replicate 8 Trim.reset
  ready := false
  carriers := false

/-- A Stockpot write in the write delay buffer: the lane whose side issued it, its instant, its first byte and its bytes (R350). -/
structure PotWrite where
  lane : Lane
  tc : Tc
  addr : Nat
  bytes : List Byte
deriving DecidableEq, Repr

/-- The Stockpot: its committed bytes and its write delay buffer, oldest first (R349, R350). -/
structure Pot where
  mem : Cells 8
  buffer : List PotWrite
deriving DecidableEq, Repr

def Pot.reset : Pot where
  mem := []
  buffer := []

/-- A contribution to the limit set, whole (R34): per string discharge and charge current limits, share weight and dynamic threshold, bank power limits, derating step and source epoch. Currents are in 1/1600 of 0.1 A and powers in 1/1600 of 1 kW, which holds every contribution exactly. -/
structure Contribution where
  dis : List Nat
  chg : List Nat
  weight : List Nat
  doc : List Nat
  pDis : Nat
  pChg : Nat
  step : Nat
  epoch : Word
deriving DecidableEq, Repr

/-- State-of-power figures that wait for the next commit point (R305): per horizon the bank's powers, discharge and charge; per string and horizon the currents. -/
structure Sop where
  bank : List (Nat × Nat)
  strs : List (List (Nat × Nat))
deriving DecidableEq, Repr

/-- The limit set and dispatch beside their registers. -/
structure Dsp where
  /-- Contributions of dispatch and of the thermal strategy, staged since the last commit point and held (R34); the limit set is in force (R513). -/
  stagedD : Option Contribution
  stagedT : Option Contribution
  heldD : Option Contribution
  heldT : Option Contribution
  inForce : Bool
  /-- The computation that runs: its snapshot and the host restraint read at its start; another one follows (R304, R306). -/
  work : Option (Snapshot × Word)
  again : Bool
  /-- The last computed contribution (R307); its state-of-power figures until a commit point (R305). -/
  last : Option Contribution
  sop : Option Sop
  /-- The last coldest fresh temperature of each string, Q8.7 °C (R302). -/
  coldest : List (Option Int)
  /-- The instant from which the host timer runs (R306). -/
  hostTc : Tc
deriving DecidableEq, Repr

def Dsp.reset : Dsp where
  stagedD := none
  stagedT := none
  heldD := none
  heldT := none
  inForce := false
  work := none
  again := false
  last := none
  sop := none
  coldest := List.replicate 8 none
  hostTc := 0

/-- The thermal strategy and the junction sensors beside their registers (R309 to R316). -/
structure Thm where
  /-- Rounds for which the step has held; rounds for which CHILL has held its state; the pump runs. -/
  held : Nat
  chillHeld : Nat
  pumpOn : Bool
  /-- Commit points since the last one that a round starts at, 1 to 100; that round has not been made (R309). -/
  count : Nat
  due : Bool
  /-- Consecutive readings of sensor 1 and of sensor 2 at or above 135.0 °C, and with both invalid; whether each is valid now (R313). -/
  hot1 : Nat
  hot2 : Nat
  bad : Nat
  ok1 : Bool
  ok2 : Bool
  /-- The FRAM write that clears the cause word is in progress (R316). -/
  clearing : Bool
  /-- The cause word at FRAM byte 0x01_F000 and the complement beside it at 0x01_F004 (R314). -/
  word : Word
  inv : Word
deriving DecidableEq, Repr

def Thm.reset : Thm where
  held := 0
  chillHeld := 0
  pumpOn := false
  count := 0
  due := false
  hot1 := 0
  hot2 := 0
  bad := 0
  ok1 := false
  ok2 := false
  clearing := false
  word := 0
  inv := 0xFFFFFFFF#32

/-- The first copy of a safe-data message whose second copy is awaited: its sequence, its data, its transport (true: Ethernet), its instant (R332). -/
structure SdOpen where
  seq : BitVec 16
  data : Word
  eth : Bool
  tc : Tc
deriving DecidableEq, Repr

/-- A safe-data connection as the active lane keeps it (R331 to R333): its data word, the last accepted sequence, the instant of the last acceptance, the copy in hand. -/
structure SdConn where
  word : Word
  last : Option (BitVec 16)
  acceptTc : Tc
  first : Option SdOpen
deriving DecidableEq, Repr

def SdConn.reset : SdConn where
  word := 0
  last := none
  acceptTc := 0
  first := none

/-- A test window that is open: its drivers, its opening, its length in µs (R328). -/
structure TestWindow where
  drivers : List Nat
  tc : Tc
  len : Nat
deriving DecidableEq, Repr

/-- A test pulse in progress: its driver, its switch (true: low side), its start, and whether it is an off-pulse (R328). -/
structure TestPulse where
  driver : Nat
  low : Bool
  tc : Tc
  off : Bool
deriving DecidableEq, Repr

/-- The safety functions beside their registers. -/
structure Saf where
  /-- Both channels of input k have shown filtered demand together at a tick since its DISC fault, and since its CROSS fault (R325), bit k. -/
  bothDisc : BitVec 6
  bothCross : BitVec 6
  /-- The sample at which the count of each channel began: island power-up, or the last change of its filtered state; channel a of input k at 2k, b at 2k + 1 (R322). -/
  siTc : List Tc
  /-- The start of the latest dark pulse of SP1 and of SP2 (R321). -/
  dark1 : Option Tc
  dark2 : Option Tc
  conns : List SdConn
  /-- The island's side of each connection: its last renewal, and whether its word was set to 0 for want of one (R334). -/
  renewed : List Tc
  staleWords : BitVec 4
  /-- Copies received before the new lane's rebuild ends: connection, Ethernet, bytes, instant, oldest first (R354). -/
  copies : List (Nat × Bool × List Byte × Tc)
  /-- The open test window, the pulse in progress, the switches whose energising waits for it (R328, R330). -/
  window : Option TestWindow
  pulse : Option TestPulse
  energiseDue : List Nat
  /-- The end of the last off-pulse on each driver (R328). -/
  offEnds : List (Option Tc)
  /-- When each switch last passed: high sides of driver k at 2k, low sides at 2k + 1 (R329). -/
  passTc : List Tc
deriving DecidableEq, Repr

def Saf.reset : Saf where
  bothDisc := 0
  bothCross := 0
  siTc := List.replicate 12 0
  dark1 := none
  dark2 := none
  conns := List.replicate 4 SdConn.reset
  renewed := List.replicate 4 0
  staleWords := 0
  copies := []
  window := none
  pulse := none
  energiseDue := []
  offEnds := List.replicate 28 none
  passTc := List.replicate 56 0


/-- A remote I/O station beside its registers (R370 to R373): the sequence of the latest OUT frame, when it was sent, its response is awaited, the inputs of the latest valid IN frame, consecutive valid responses, the last response was missed and it became LOST since the previous phase 4. -/
structure Station where
  seq : Byte
  sentTc : Tc
  waiting : Bool
  inputs : List Byte
  good : Nat
  stale : Bool
  lostDue : Bool
deriving DecidableEq, Repr

def Station.reset : Station where
  seq := 0
  sentTc := 0
  waiting := false
  inputs := []
  good := 0
  stale := false
  lostDue := false

/-- The sequence program beside its registers (R365 to R381). -/
structure Seq where
  /-- The running program; none where SEQ has none. -/
  prog : Option SeqProgram
  /-- The variable image: values by address; as it stood at the end of the last complete cycle (R352); what each bound output was last written with (R367), and the trigger variables at the previous phase 2 (R366). -/
  vals : List (Nat × Nat)
  kept : List (Nat × Nat)
  written : List (Nat × Nat)
  edges : List (Nat × Nat)
  /-- The program has started, and the commit points since (R365); a cold restart is due, TI is due (R366, R369). -/
  started : Bool
  commits : Nat
  coldDue : Bool
  initDue : Bool
  /-- A cycle is in progress, since when; the epoch it bound (R59, R368). -/
  running : Bool
  startTc : Tc
  epoch : Word
  /-- A cycle is due at this commit point; event tasks triggered for the next cycle; the tasks of the running cycle not yet evaluated, in their order (R365, R366). -/
  cycleDue : Bool
  trig : BitVec 8
  todo : List SeqTask
  /-- Phase 4 of the running cycle: not begun, or whether TX is to be evaluated in it (R374). -/
  phase4 : Option Bool
  /-- A disable waits for the task evaluation in progress (R64, R369). -/
  stopping : Bool
  stations : List Station
  /-- Forces in effect by address (R375); commands that wait for phase 1: code, address, value. -/
  forces : List (Nat × Nat)
  commands : List (Nat × Nat × Nat)
  /-- An on-line change that waits for phase 1 (R378). -/
  change : Option SeqProgram
deriving DecidableEq, Repr

def Seq.reset : Seq where
  prog := none
  vals := []
  kept := []
  written := []
  edges := []
  started := false
  commits := 0
  coldDue := false
  initDue := false
  running := false
  startTc := 0
  epoch := 0
  cycleDue := false
  trig := 0
  todo := []
  phase4 := none
  stopping := false
  stations := List.replicate 16 Station.reset
  forces := []
  commands := []
  change := none

/-- A frame to be sent on a channel: its identifier word, laid out as CANc_TXb_ID ([28:0] identifier, [29] IDE, [30] FDF, [31] BRS), its data, and its service: 0 a response, 1 safe data, 2 remote I/O OUT, 3 a reference message (R390). -/
structure CanFrame where
  id : Word
  data : List Byte
  svc : Nat
deriving DecidableEq, Repr

/-- A transmit buffer beside its registers: the frame it holds, its place in the order of filling, its failed attempts, and whether the frame on the bus ends with this attempt, cancelled (R393) or abandoned (R396, R397). -/
structure CanBuf where
  frame : Option CanFrame
  order : Nat
  attempts : Nat
  cancel : Bool
  last : Bool
deriving DecidableEq, Repr

def CanBuf.reset : CanBuf where
  frame := none
  order := 0
  attempts := 0
  cancel := false
  last := false

/-- A CAN channel beside its registers (R382 to R400). -/
structure CanChan where
  queue : List CanFrame
  bufs : List CanBuf
  /-- Fillings so far, and the buffer next in rotation (R390). -/
  fills : Nat
  next : Nat
  /-- The buffer whose frame is on the bus; an arbitration was lost and the bus is not yet idle again (R392). -/
  onBus : Option Nat
  waitIdle : Bool
  /-- Frames not queued, by service (R390). -/
  notSent : List Nat
  /-- The receive error counter (R394), and a bus-off recovery is in progress. -/
  recCount : Nat
  recovering : Bool
  /-- Commit points since the channel was enabled, and the one whose reference message has been loaded (R398). -/
  commits : Nat
  refDone : Nat
  /-- The transceiver is in low-power mode (R400). -/
  asleep : Bool
  /-- The holding copies of the receive objects, by address (R388). -/
  copy : Cells 32
deriving DecidableEq, Repr

def CanChan.reset : CanChan where
  queue := []
  bufs := List.replicate 3 CanBuf.reset
  fills := 0
  next := 0
  onBus := none
  waitIdle := false
  notSent := [0, 0, 0, 0]
  recCount := 0
  recovering := false
  commits := 0
  refDone := 0
  asleep := false
  copy := []


/-- A segment of network time (R410, R411): its base raw value, its base time in 2^-32 ns before the step that opened it, that step, and its increment. -/
structure TimSeg where
  raw : Tc
  base : Int
  step : Int
  inc : Word
deriving DecidableEq, Repr

def TimSeg.reset : TimSeg where
  raw := 0
  base := 0
  step := 0
  inc := 0x80000000

/-- A timed pulse output beside its registers: the configuration latched at ARM with START, period in 2^-32 units and width in ticks, the next edge, whether an edge is pending, and the end of the pulse (R415 to R417). -/
structure Tpo where
  cfg : BitVec 3
  start : Nat
  period : Nat
  width : Nat
  k : Nat
  pending : Bool
  pulseEnd : Tc
deriving DecidableEq, Repr

def Tpo.reset : Tpo where
  cfg := 0
  start := 0
  period := 0
  width := 0
  k := 0
  pending := false
  pulseEnd := 0

/-- Network time and the pulse outputs beside their registers: the current segment and the one before it (R411), the servo's running sum of offsets in 2^-36 ns, its consecutive small offsets, the last accepted Sync with its log interval, and the instant of HOLDOVER (R414). -/
structure Tim where
  cur : TimSeg
  prev : TimSeg
  tpos : List Tpo
  sum : Int
  good : Nat
  lastSync : Tc
  interval : Int
  holdTc : Tc
deriving DecidableEq, Repr

def Tim.reset : Tim where
  cur := TimSeg.reset
  prev := TimSeg.reset
  tpos := List.replicate 4 Tpo.reset
  sum := 0
  good := 0
  lastSync := 0
  interval := 0
  holdTc := 0

/-- Link delay measurement of an external port (R407): the number of the next request, the request in hand with its egress stamp, the requests unanswered in a row, a two-step response in hand (request number, t4, t2 less its corrections), and the last valid measurements of (t4 − t1) − (t3 − t2), newest first, in 2^-16 ns. -/
structure EthPort where
  seq : BitVec 16
  req : Option (BitVec 16 × Nat)
  missed : Nat
  half : Option (BitVec 16 × Nat × Int)
  meas : List Int
deriving DecidableEq, Repr

def EthPort.reset : EthPort where
  seq := 0
  req := none
  missed := 0
  half := none
  meas := []

/-- The switch beside its registers: the external ports and the learned addresses, each with its port and the instant it was last seen (R402). -/
structure Eth where
  ports : List EthPort
  table : List (Nat × Nat × Tc)
deriving DecidableEq, Repr

def Eth.reset : Eth where
  ports := [EthPort.reset, EthPort.reset]
  table := []


/-- One current channel of converter A beside its registers (R420 to R428). -/
structure AfeChan where
  /-- The last round's sample, Q15.16 A after substitution, its hold, and whether it was invalid; none before the first round. -/
  last : Option (Int × Tc × Bool)
  /-- The last valid sample, for the substitute (R423). -/
  lastValid : Int
  /-- Q_CUM in Q39.24 C, and the invalid tick count (R424). -/
  qcum : BitVec 64
  invTicks : Nat
  /-- Rounds that still carry the GAIN tag (R426). -/
  gainTag : Nat
  /-- The averaging window in progress: sum, samples, an invalid one among them; its result carries SETTLE (R426, R427). -/
  avgSum : Int
  avgCount : Nat
  avgInv : Bool
  avgSettle : Bool
  /-- The latest valid samples, newest first, at most 8; rounds the comparator still ignores (R428). -/
  window : List Int
  holdoff : Nat
  /-- The burst buffer, newest sample first, each with its validity; burst samples taken since the freezing hold (R183, R421). -/
  burst : List (Int × Bool)
  burstPost : Option Nat
deriving DecidableEq, Repr

def AfeChan.reset : AfeChan where
  last := none
  lastValid := 0
  qcum := 0
  invTicks := 0
  gainTag := 0
  avgSum := 0
  avgCount := 0
  avgInv := false
  avgSettle := false
  window := []
  holdoff := 0
  burst := []
  burstPost := none

/-- A round held and not yet converted: the eight codes after trim, its hold, whether it is the aperture round and whether it is a burst round, whether the AFE was enabled (R420, R424), which channels carry the GAIN tag, and the settings that held at the hold: CFG, WIN_A and WIN_B of each channel (R425, R426, R515). -/
structure AfeRound where
  codes : List (BitVec 16)
  tc : Tc
  aperture : Bool
  burst : Bool
  enabled : Bool
  tagged : List Bool
  settings : List Word
deriving DecidableEq, Repr

/-- The work of converter B (R429). -/
inductive AfeWork where
  | mains
  | group
  | housekeeping
deriving DecidableEq, Repr

/-- A sequence of converter B: its group, the inputs left (8 to 15 for CH8 to CH15, 16 + n for NTC n), the window in progress, the results so far as input, value and limit mark (R427, R429). -/
structure AfeSeq where
  group : Nat
  inputs : List Nat
  sum : Int
  count : Nat
  limit : Bool
  results : List (Nat × Int × Bool × Bool)
deriving DecidableEq, Repr

/-- The analog front end beside its registers. -/
structure Afe where
  chans : List AfeChan
  round : Option AfeRound
  /-- The predicted instants of the apertures to come, and the instant of the last one, from which the grid counts (R420). -/
  aperture : List Tc
  gridBase : Tc
  /-- Converter B: what waits, what runs, the conversion in progress (work, input, to be discarded), the input of the previous one (R429). -/
  mainsDue : Bool
  groupsDue : BitVec 8
  hkDue : Bool
  groupSeq : Option AfeSeq
  hkSeq : Option AfeSeq
  conv : Option (AfeWork × Nat × Bool)
  lastInput : Nat
  /-- The tick of each group's last trigger: triggers on the same tick are one (R429). -/
  trigTc : List (Option Tc)
  /-- For each group, the channels whose next window carries SETTLE, bit k - 8 (R426). -/
  settle : List (BitVec 8)
  /-- Consecutive housekeeping sequences that found the references bad, and good (R433). -/
  badRefs : Nat
  goodRefs : Nat
deriving DecidableEq, Repr

def Afe.reset : Afe where
  chans := List.replicate 8 AfeChan.reset
  round := none
  aperture := []
  gridBase := 0
  mainsDue := false
  groupsDue := 0
  hkDue := false
  groupSeq := none
  hkSeq := none
  conv := none
  lastInput := 0
  trigTc := List.replicate 8 none
  settle := List.replicate 8 0
  badRefs := 0
  goodRefs := 0

/-- An extreme (R442): value, index, operating hours and power-cycle count at the round that set it. -/
structure Extreme where
  value : Int
  index : Nat
  hours : Nat
  cycles : Nat
deriving DecidableEq, Repr

/-- The usage recorder beside its registers (R437 to R448). -/
structure Rec where
  /-- Staging: bins and throughput since the last fold, and the totals of the newest fold; entry n lies at byte 64 + 8·n of a FOLD record (R444). -/
  acc : Cells 64
  total : Cells 64
  /-- Counters in the order of R441; extremes: six per string, then three of the bank; one of them has changed since the last counter block. -/
  counters : Cells 32
  extremes : List (Option Extreme)
  dirty : Bool
  /-- Q_CUM of each string in the snapshot last used, and its epoch (R440); unrecorded rounds. -/
  qPrev : List (Option (BitVec 64))
  usedEpoch : Word
  unrec : Nat
  /-- Hours at which the staging began and at which the last fold was made; hours lost before the next fold; a fold fell due in a hold (R445, R446). -/
  accFrom : Nat
  lastFold : Nat
  lost : Nat
  foldDue : Bool
  holdTc : Tc
  /-- The record being loaded, 0 for LIVE, and the read window (R446). -/
  loading : Option Nat
  window : List Byte
  /-- The seconds of the present 0.1 h at an instant (R438). -/
  remSec : Nat
  remTc : Tc
  /-- Flash: the records by slot, the retired slots (R444, R448). FRAM: counter blocks A and B, hours with remainder and power-cycle count where their complements match, the health word where its complement matches. -/
  flash : List (Nat × List Byte)
  retired : List Nat
  blockA : List Byte
  blockB : List Byte
  hoursPair : Option (Nat × Nat)
  cyclesPair : Option Nat
  health : Option Word
  /-- The version of the running firmware, as the slot record of its firmware slot gives it. -/
  fwVersion : Nat
  /-- The first write to each memory since the start is yet to come (R448). -/
  tryFlash : Bool
  tryFram : Bool
deriving DecidableEq, Repr

def Rec.reset : Rec where
  acc := []
  total := []
  counters := []
  extremes := List.replicate 51 none
  dirty := false
  qPrev := List.replicate 8 none
  usedEpoch := 0
  unrec := 0
  accFrom := 0
  lastFold := 0
  lost := 0
  foldDue := false
  holdTc := 0
  loading := none
  window := []
  remSec := 0
  remTc := 0
  flash := []
  retired := []
  blockA := []
  blockB := []
  hoursPair := none
  cyclesPair := none
  health := none
  fwVersion := 0
  tryFlash := false
  tryFram := false



/-- What the module's supply and power states make of it (R449 to R471, R360, R484). -/
inductive PowerState where
  /-- No supply, or held in reset after a power failure. -/
  | unpowered
  /-- Started; no lane is active yet. -/
  | starting
  | running
  | standby
  | deep
  | off
  | safeStop
  /-- Held in thermal stop (R315). -/
  | thermalStop
  /-- Debug-open (R484). -/
  | debug
  /-- A wake from Standby has begun; the retention scrub runs (R465). -/
  | waking
deriving DecidableEq, Repr

/-- Supply, sleep and wake beside their registers. -/
structure Pwr where
  state : PowerState
  /-- The start came from a power failure (R452); a start waits for cool junctions with this cause (R315). -/
  failed : Bool
  held : Option Nat
  /-- The target of a request that the next commit point takes (R457). -/
  request : Option Nat
  /-- Sources latched during an entry (R463); the wake-clock tick at which the wake was recognised (R464). -/
  latched : BitVec 8
  wakeTick : Option Nat
  /-- The instant from which each port has been seen in NO_RING at commit points (R455). -/
  noRing : List (Option Tc)
  /-- The instant of power-fail detect (R470). -/
  failTc : Tc
deriving DecidableEq, Repr

def Pwr.reset : Pwr where
  state := .unpowered
  failed := false
  held := none
  request := none
  latched := 0
  wakeTick := none
  noRing := List.replicate 8 none
  failTc := 0


/-- A service session (R474): its owner as IPv4 address and UDP port, its end, and its owner's last request. -/
structure Session where
  owner : BitVec 48
  endTc : Tc
  lastTc : Tc
deriving DecidableEq, Repr

/-- A transfer (R476, R477): its target and slot, the container length, the bytes accepted, the offset of the last accepted block, and when it was accepted. -/
structure Xfer where
  target : Nat
  slot : Nat
  len : Nat
  data : List Byte
  lastOff : Option Nat
  lastTc : Tc
deriving DecidableEq, Repr

/-- The key store (R472): the image-signing, record-clearing and service public keys of 96 bytes, the transport and storage keys of 32; an erased entry is empty. No path reads a key; which entries are held shows in UPD_KS_STAT.KEYS. -/
structure KeyStore where
  image : List Byte
  clear : List Byte
  service : List Byte
  transport : List Byte
  storage : List Byte
deriving DecidableEq, Repr

def KeyStore.blank : KeyStore where
  image := []
  clear := []
  service := []
  transport := []
  storage := []

/-- Update and security beside their registers. -/
structure Upd where
  keys : KeyStore
  session : Option Session
  xfer : Option Xfer
  /-- Firmware slots, the program change area and its state, coded as CFG_SLOTk_STAT.STATE (R482). -/
  fw : List (List Byte)
  area : List Byte
  areaState : Nat
  /-- The boot record and its complement, in FRAM (R480). -/
  boot : Word
  bootInv : Word
  /-- The debug port's pads are enabled (R484). -/
  pads : Bool
deriving DecidableEq, Repr

def Upd.reset : Upd where
  keys := KeyStore.blank
  session := none
  xfer := none
  fw := [[], []]
  area := []
  areaState := 0
  boot := 0
  bootInv := 0
  pads := false


/-- A management frame (R352): header, the live set in effect, and the state of the active lane's firmware. The manual names what each section holds and lays out none of their bodies. -/
structure Frame where
  commits : Word
  placement : Word
  snapshot : Word
  phase : BitVec 16
  live : List (Nat × Word)
  objs : Cells 32
  dsp : Dsp
  thm : Thm
  seq : Seq
  conns : List SdConn
  tim : Tim
  rcd : Rec
  held : List Nat
  wb : Option WriteBack
  /-- Flash operations in progress: an image or firmware transfer, the record of a confirmation (R352 section 0x09). -/
  xfer : Option Xfer
  confirming : Bool
deriving DecidableEq, Repr

/-- The management frames: the one being written with its bytes before the CRC and the instant of its commit point; what the frames in areas 0 and 1 of the Stockpot hold, none for an area whose frame has been overwritten or abandoned (R349, R352). -/
structure Frames where
  due : Option (Frame × List Byte × Tc)
  f0 : Option Frame
  f1 : Option Frame
deriving DecidableEq, Repr

def Frames.reset : Frames where
  due := none
  f0 := none
  f1 := none

/-- The whole module. The pending queue holds the commands that wait, first in, first out. -/
structure State where
  /-- The current values of the objects, by address (R15); snapshot objects live in the snapshots. -/
  objs : Cells 32
  /-- The snapshot being assembled, the latest published and the one before it (R31). -/
  assembling : Snapshot
  latest : Snapshot
  previous : Snapshot
  /-- The cell state table, by window address (R6, R193). -/
  cst : Cells 8
  /-- The object access service. -/
  obj : Obj
  /-- Structure image and live set. -/
  cfg : Cfg
  /-- Phase base. -/
  phb : Phb
  /-- The eight ports of the port engine. -/
  ports : List Port
  /-- The sweep sequencer. -/
  swp : Swp
  /-- The estimation engine. -/
  est : Est
  /-- The analog front end. -/
  afe : Afe
  /-- The protection island. -/
  prt : Prt
  /-- The control engine. -/
  cte : Cte
  /-- The Stockpot. -/
  pot : Pot
  /-- The limit set and dispatch. -/
  dsp : Dsp
  /-- The thermal strategy. -/
  thm : Thm
  /-- The safety functions. -/
  saf : Saf
  /-- The two CAN channels. -/
  can : List CanChan
  /-- Network time and the timed pulse outputs. -/
  tim : Tim
  /-- The Ethernet switch. -/
  eth : Eth
  /-- The usage recorder. -/
  rcd : Rec
  /-- The lanes. -/
  lan : Lan
  /-- The sequence program and the remote I/O. -/
  seq : Seq
  /-- Supply, sleep and wake. -/
  pwr : Pwr
  /-- Update and security. -/
  upd : Upd
  /-- The management frames in the Stockpot. -/
  frames : Frames
  /-- What the module has sent out, newest first (log entry 4). -/
  sent : List Output
  /-- How many free values have been taken (log entry 3): the model's own field, not the manual's. -/
  freeCount : Nat
  /-- The commands that wait, first in, first out. -/
  pending : List Instr
deriving DecidableEq, Repr

/-- The objects whose reset value the object maps give as other than 0 (R18). -/
def resetObjs : List (Nat × Word) :=
  [(0x0, 0x4096#32),
   (0x10, 0xdce70#32),
   (0x14, 0x3ff#32),
   (0x60020, 0x2#32),
   (0xa0014, 0xffffffff#32),
   (0xa0104, 0xffff#32),
   (0xa0124, 0xffff#32),
   (0xa0144, 0xffff#32),
   (0xa0164, 0xffff#32),
   (0xa0184, 0xffff#32),
   (0xa01a4, 0xffff#32),
   (0xa01c4, 0xffff#32),
   (0xa01e4, 0xffff#32),
   (0xd0000, 0x110030#32),
   (0x110014, 0x80000000#32),
   (0x120440, 0x8000#32),
   (0x120444, 0x8000#32),
   (0x120448, 0x8000#32),
   (0x12044c, 0x8000#32),
   (0x120450, 0x8000#32),
   (0x120454, 0x8000#32),
   (0x120458, 0x8000#32),
   (0x12045c, 0x8000#32),
   (0x14000c, 0x2#32),
   (0x140020, 0xf#32)]

/-- The module right after reset (R18): every field at the value its map gives; a value the manual does not give is 0 (log entry 1). -/
def State.reset : State where
  objs := resetObjs
  assembling := Snapshot.empty
  latest := Snapshot.empty
  previous := Snapshot.empty
  cst := []
  obj := Obj.reset
  cfg := Cfg.reset
  phb := Phb.reset
  ports := List.replicate 8 Port.reset
  swp := Swp.reset
  est := Est.reset
  afe := Afe.reset
  prt := Prt.reset
  cte := Cte.reset
  pot := Pot.reset
  dsp := Dsp.reset
  thm := Thm.reset
  saf := Saf.reset
  can := List.replicate 2 CanChan.reset
  tim := Tim.reset
  eth := Eth.reset
  rcd := Rec.reset
  lan := Lan.reset
  seq := Seq.reset
  pwr := Pwr.reset
  upd := Upd.reset
  frames := Frames.reset
  sent := []
  freeCount := 0
  pending := []

end Sys2Proof.Machine
end

