-- ==== Sys2Proof/Machine/Ops.lean ====
section
/-! DEFINITION. Ops.lean: the named operations over storage, objects and fields, free values and rounding; every family is written over them. -/
namespace Sys2Proof.Machine

open Sys2Proof

/-! Storage. -/

/-- What an address holds; 0 where nothing is listed. -/
def Cells.get {w : Nat} : Cells w → Nat → BitVec w
  | [], _ => 0
  | (a, v) :: t, k => if a = k then v else Cells.get t k

/-- Put an entry in its place among rising addresses. -/
def Cells.insert {w : Nat} : Cells w → Nat → BitVec w → Cells w
  | [], k, v => [(k, v)]
  | (a, x) :: t, k, v => if k < a then (k, v) :: (a, x) :: t else (a, x) :: Cells.insert t k v

/-- Take the entries of an address out. -/
def Cells.erase {w : Nat} (c : Cells w) (k : Nat) : Cells w :=
  c.filter (fun e => e.1 != k)

/-- Write an address; writing 0 takes the entry out, so equal storage is equal data. -/
def Cells.set {w : Nat} (c : Cells w) (k : Nat) (v : BitVec w) : Cells w :=
  if v = 0 then Cells.erase c k else Cells.insert (Cells.erase c k) k v

/-- The canonical form: strictly rising addresses and no entry equal to 0. -/
def Cells.wf {w : Nat} : Cells w → Bool
  | [] => true
  | (a, v) :: t => v != 0 && (t.all fun e => decide (a < e.1)) && Cells.wf t

/-- Little-endian value of `n` bytes from an address (R10). -/
def Cells.le (c : Cells 8) (a : Nat) : Nat → Nat
  | 0 => 0
  | n + 1 => (c.get a).toNat + 256 * Cells.le c (a + 1) n

/-- Write `n` bytes, little-endian (R10). -/
def Cells.setLe (c : Cells 8) (a : Nat) : Nat → Nat → Cells 8
  | 0, _ => c
  | n + 1, v => Cells.setLe (c.set a (BitVec.ofNat 8 v)) (a + 1) n (v / 256)

/-! Numbers. -/

/-- The low `w` bits of a number, read as two's complement (R10). -/
def signed (w n : Nat) : Int :=
  let m := n % 2 ^ w
  if m < 2 ^ (w - 1) then (m : Int) else (m : Int) - (2 ^ w : Nat)

/-- The two's complement code of an integer in `w` bits. -/
def code (w : Nat) (i : Int) : Nat := (i % ((2 ^ w : Nat) : Int)).toNat

/-- Keep a value between two bounds. -/
def clampI (lo hi x : Int) : Int := if x < lo then lo else if hi < x then hi else x

/-- Quotient rounded to the nearest integer. The manual does not say where a half goes: that is open (log entry 5). -/
def roundNear (num : Int) (den : Nat) : Int :=
  let q := num / (den : Int)
  let r := num % (den : Int)
  if 2 * r < (den : Int) then q
  else if (den : Int) < 2 * r then q + 1
  else if Config.roundUp num den then q + 1 else q

/-- A quotient whose rounding the manual does not state: one of the two integers beside it, or itself where it is one (log entry 5). -/
def roundOpen (num : Int) (den : Nat) : Int :=
  if num % (den : Int) = 0 then num / (den : Int)
  else if Config.roundUp num den then num / (den : Int) + 1 else num / (den : Int)

/-- Nearest, a half away from zero. -/
def roundAway (num : Int) (den : Nat) : Int :=
  if 0 ≤ num then (2 * num + (den : Int)) / (2 * (den : Int))
  else - ((2 * (- num) + (den : Int)) / (2 * (den : Int)))

/-- A bit as a number. -/
def bitN (b : Bool) : Nat := if b then 1 else 0

/-! Objects and fields. -/

/-- The value of an object. -/
def State.rd (s : State) (a : Nat) : Word := s.objs.get a

/-- Give an object a value. -/
def State.wr (s : State) (a : Nat) (v : Word) : State := { s with objs := s.objs.set a v }

/-- A field of a word. -/
def fieldOf (v : Word) (lo w : Nat) : Nat := (v.extractLsb' lo w).toNat

/-- A word with one field replaced; the value is taken modulo the field's width. -/
def withField (v : Word) (lo w x : Nat) : Word :=
  (v &&& ~~~(BitVec.ofNat 32 (2 ^ w - 1) <<< lo)) ||| (BitVec.ofNat 32 (x % 2 ^ w) <<< lo)

/-- A field of stored objects. -/
def objFld (c : Cells 32) (f : Field) : Nat := fieldOf (c.get f.addr) f.lo f.w

/-- Stored objects with one field replaced; the object's other fields keep their values. -/
def objPut (c : Cells 32) (f : Field) (x : Nat) : Cells 32 :=
  c.set f.addr (withField (c.get f.addr) f.lo f.w x)

/-- Read a field. -/
def State.fld (s : State) (f : Field) : Nat := objFld s.objs f

/-- Write a field; the object's other fields keep their values. -/
def State.put (s : State) (f : Field) (x : Nat) : State := { s with objs := objPut s.objs f x }

/-- Write a field of a snapshot object into the snapshot being assembled (R50). -/
def State.putAsm (s : State) (f : Field) (x : Nat) : State :=
  { s with assembling := { s.assembling with objs := objPut s.assembling.objs f x } }

/-- A field of a snapshot object as it stands in the snapshot being assembled. -/
def State.fldAsm (s : State) (f : Field) : Nat := objFld s.assembling.objs f

/-- A field of a snapshot object in the latest published snapshot (R32). -/
def State.fldSnap (s : State) (f : Field) : Nat := objFld s.latest.objs f

/-- A one-bit field reads 1. -/
def State.flag (s : State) (f : Field) : Bool := s.fld f == 1

/-- Write a one-bit field. -/
def State.putFlag (s : State) (f : Field) (b : Bool) : State := s.put f (if b then 1 else 0)

/-- A field read as two's complement. -/
def State.fldS (s : State) (f : Field) : Int := signed f.w (s.fld f)

/-- Write a field as two's complement. -/
def State.putS (s : State) (f : Field) (x : Int) : State := s.put f (code f.w x)

/-- Advance a counter that wraps at its width. -/
def State.bump (s : State) (f : Field) : State := s.put f (s.fld f + 1)

/-- Advance a counter by n, wrapping at its width. -/
def State.bumpBy (s : State) (f : Field) (n : Nat) : State := s.put f (s.fld f + n)

/-- Advance a counter that saturates at its width. -/
def State.bumpSat (s : State) (f : Field) : State :=
  if s.fld f + 1 < 2 ^ f.w then s.put f (s.fld f + 1) else s

/-- Set or clear one bit of a field. -/
def State.putBit (s : State) (f : Field) (i : Nat) (b : Bool) : State :=
  s.put ⟨f.addr, f.lo + i, 1⟩ (if b then 1 else 0)

/-- One bit of a field. -/
def State.bit (s : State) (f : Field) (i : Nat) : Bool := s.fld ⟨f.addr, f.lo + i, 1⟩ == 1

/-- A 64-bit value split over a _LO object and the _HI object 4 above it (R125). -/
def State.rd64 (s : State) (lo : Nat) : BitVec 64 := s.rd (lo + 4) ++ s.rd lo

/-- Write both halves of a 64-bit value. -/
def State.wr64 (s : State) (lo : Nat) (v : BitVec 64) : State :=
  (s.wr lo (v.extractLsb' 0 32)).wr (lo + 4) (v.extractLsb' 32 32)

/-! Output and free values. -/

/-- Send something out (log entry 4). -/
def State.emit (s : State) (o : Output) : State := { s with sent := o :: s.sent }

/-- The next free value (log entry 3). -/
def State.free (s : State) : BitVec 64 := Config.freeValue s.freeCount

/-- A free value has been taken. -/
def State.took (s : State) : State := { s with freeCount := s.freeCount + 1 }

/-- 8 n bytes of n free values. -/
def State.freeBytes (s : State) (n : Nat) : List Byte :=
  (List.range n).flatMap fun i => (List.range 8).map fun j => ((Config.freeValue (s.freeCount + i)) >>> (8 * j)).setWidth 8

/-- n free values have been taken. -/
def State.tookN (s : State) (n : Nat) : State := { s with freeCount := s.freeCount + n }

/-! Lists. -/

/-- Replace the element at an index; the list is unchanged where there is none. -/
def setAt {α : Type} : List α → Nat → α → List α
  | [], _, _ => []
  | _ :: t, 0, x => x :: t
  | h :: t, n + 1, x => h :: setAt t n x

/-- The lane that holds the Lid: its _P signal reads 1 and its _N signal 0 (R343). -/
def Lan.lid (x : Lan) : Option Lane :=
  if x.pins.ap && !x.pins.an then some .a else if x.pins.bp && !x.pins.bn then some .b else none

/-- The signals of the Lid with one lane's pair asserted, or neither (R343). -/
def lidPins : Option Lane → LidPins
  | some .a => { LidPins.reset with ap := true, an := false }
  | some .b => { LidPins.reset with bp := true, bn := false }
  | none => LidPins.reset

/-- Do something for each index below n, in rising order. -/
def forUpTo (n : Nat) (f : Nat → State → State) (s : State) : State :=
  (List.range n).foldl (fun s i => f i s) s

/-- The low n bytes of a number, little-endian (R10). -/
def bytesLe : Nat → Nat → List Byte
  | 0, _ => []
  | n + 1, v => BitVec.ofNat 8 v :: bytesLe n (v / 256)

/-- A little-endian number from bytes (R10). -/
def natLe : List Byte → Nat
  | [] => 0
  | b :: t => b.toNat + 256 * natLe t

/-- n bytes of a list from an offset, as a little-endian number; bytes beyond the end count 0. -/
def leAt (l : List Byte) (off n : Nat) : Nat := natLe ((l.drop off).take n)

end Sys2Proof.Machine
end

