-- ==== Sys2Proof/Machine/Flags.lean ====
section
/-! DEFINITION. Flags.lean: event flags and their counters (R62, R63), and the W1C clear (R16). -/
namespace Sys2Proof.Machine

open Sys2Proof

/-- A hardware set event: the flag reads 1 and its 16-bit counter advances by 1, wrapping from 0xFFFF to 0, also when the flag is already 1 (R62). -/
def State.event (s : State) (e : EventFlag) : State := (s.put e.flag 1).bump e.cnt

/-- A set event when a condition holds. -/
def State.eventIf (s : State) (c : Bool) (e : EventFlag) : State := if c then s.event e else s

/-- The value an object keeps when a word is written to its W1C bits: each bit written 1 is cleared (R16). -/
def clearW1c (old v : Word) (mask : Nat) : Word := old &&& ~~~(v &&& BitVec.ofNat 32 mask)

end Sys2Proof.Machine
end

