-- ==== Sys2Proof/Machine/Entry.lean ====
section
/-! DEFINITION. Entry.lean: the entries of the schedule table and their firings as positions in the cycle (R117). Positions are counted in 1/2^48 of a cycle from cycle 0. -/
namespace Sys2Proof.Machine

open Sys2Proof

/-- One phase cycle. -/
def cycleLen : Nat := 2 ^ 48

/-- One entry of the schedule table (R117). -/
structure SchedEntry where
  phase : Nat
  action : Nat
  target : Nat
  div : Nat
  offset : Nat
  reps : Nat
  arg : Nat
deriving DecidableEq, Repr

/-- An entry out of its three objects. -/
def schedEntry (get : Nat → Word) (k : Nat) : SchedEntry :=
  let a := get (0x30400 + 16 * k)
  let b := get (0x30404 + 16 * k)
  let c := get (0x30408 + 16 * k)
  { phase := fieldOf a 0 16
    action := fieldOf a 16 4
    target := fieldOf a 24 8
    div := fieldOf b 0 16
    offset := fieldOf b 16 16
    reps := fieldOf c 0 16
    arg := fieldOf c 16 16 }

/-- The complete table. -/
def schedTable (get : Nat → Word) : List SchedEntry := (List.range 64).map (schedEntry get)

/-- Firing j of an entry in the firing cycle `cyc`; a target beyond the wrap falls in the following cycle (R117). -/
def SchedEntry.firing (e : SchedEntry) (cyc j : Nat) : Nat :=
  cyc * cycleLen + e.phase * 2 ^ 32 + j * cycleLen / (e.reps + 1)

/-- All firings of an entry in the firing cycle `cyc`. -/
def SchedEntry.firings (e : SchedEntry) (cyc : Nat) : List Nat :=
  (List.range (e.reps + 1)).map (e.firing cyc)

/-- The least of a list. -/
def leastOf : List Nat → Option Nat
  | [] => none
  | a :: t => match leastOf t with
    | none => some a
    | some b => some (min a b)

/-- The first firing of an entry after a position, cycles before `start` issuing none (R123). -/
def SchedEntry.after (e : SchedEntry) (start now : Nat) : Option Nat :=
  let d := e.div + 1
  let cyc := now / cycleLen
  let c := cyc / d * d + e.offset
  let cs := (if d ≤ c then [c - d] else []) ++ [c, c + d]
  leastOf (((cs.filter (fun c => decide (start ≤ c))).flatMap e.firings).filter (fun p => decide (now < p)))

/-- The last firing of a cycle whose target lies at most x beyond the entry's PHASE: the largest j up to REPEAT with floor(j × 2^48 / (REPEAT + 1)) ≤ x (R117). -/
def SchedEntry.lastBy (e : SchedEntry) (x : Nat) : Nat :=
  min e.reps (((x + 1) * (e.reps + 1) - 1) / cycleLen)

/-- A firing issued in cycle c has its target within the last `step` before or at `pos` (R117). -/
def SchedEntry.dueFrom (e : SchedEntry) (start pos step c : Nat) : Bool :=
  let base := c * cycleLen + e.phase * 2 ^ 32
  decide (start ≤ c) && c % (e.div + 1) == e.offset && decide (base ≤ pos) &&
    decide (pos < e.firing c (e.lastBy (pos - base)) + step)

/-- The base, moving on by `step` to `pos` on one tick, reaches or passes a target of the entry; a target beyond the wrap belongs to the cycle before (R117). -/
def SchedEntry.due (e : SchedEntry) (start pos step : Nat) : Bool :=
  let c := pos / cycleLen
  e.dueFrom start pos step c || (decide (0 < c) && e.dueFrom start pos step (c - 1))

end Sys2Proof.Machine
end

