-- ==== Sys2Proof/Machine/Count.lean ====
section
/-! DEFINITION. Count.lean: the recorder's counters (R441), advanced where their events happen. -/
namespace Sys2Proof.Machine

open Sys2Proof

/-- Places of the counters, in the order of R441. -/
def cntTrip (n : Nat) : Nat := n
def cntClose (n : Nat) : Nat := 8 + n
def cntEnergise (k : Nat) : Nat := 16 + k
def cntControl : Nat := 44
def cntSafeStop : Nat := 45
def cntThermal : Nat := 46
def cntInsulation : Nat := 47
def cntOpenWire : Nat := 48
def cntLearned : Nat := 49
def cntPowerFail : Nat := 50
def cntClear : Nat := 51

/-- A counter rises, saturating, while the recorder runs (R441). -/
def State.recCount (s : State) (i : Nat) : State :=
  if s.flag F.REC_STAT_RUN then
    let c := s.rcd.counters.get i
    { s with rcd := { s.rcd with counters := s.rcd.counters.set i (if c = 0xFFFFFFFF#32 then c else c + 1), dirty := true } }
  else s

/-- A counter rises when a condition holds. -/
def State.recCountIf (s : State) (b : Bool) (i : Nat) : State := if b then s.recCount i else s

end Sys2Proof.Machine
end

