-- ==== Sys2Proof/Machine/Image.lean ====
section
/-! DEFINITION. Image.lean: the sections of the structure image in effect, read as the manual lays them out byte for byte (R74, R82, R436, R508). -/
namespace Sys2Proof.Machine

open Sys2Proof

/-- The body of a section; empty where the image has none. -/
def sectionOf (secs : List (Nat × List Byte)) (t : Nat) : List Byte :=
  ((secs.find? (fun e => e.1 == t)).map (·.2)).getD []

/-- The body of a section of the image in effect. -/
def State.sec (s : State) (t : Nat) : List Byte := sectionOf s.cfg.sections t

/-- The image has the section (R74). -/
def State.hasSec (s : State) (t : Nat) : Bool := s.cfg.sections.any (fun e => e.1 == t)

/-- A little-endian field of a section of the image in effect. -/
def State.img (s : State) (t off n : Nat) : Nat := leAt (s.sec t) off n

/-- The block is dormant (R60). -/
def State.blockDormant (s : State) (b : Nat) : Bool := s.bit F.INF_DORMANT_BLK b

/-! Bank declaration (R82). -/

/-- String s is declared. -/
def bankDeclared (b : List Byte) (n : Nat) : Bool := (leAt b 0 4).testBit n
/-- Monitor count N of a string. -/
def bankCount (b : List Byte) (n : Nat) : Nat := leAt b (4 + 140 * n) 1
/-- Flags of a string: [0] trimmer, [1] precharge contactor. -/
def bankFlags (b : List Byte) (n : Nat) : Nat := leAt b (4 + 140 * n + 1) 1
/-- Nominal capacity, UQ16.16 Ah. -/
def bankCapacity (b : List Byte) (n : Nat) : Nat := leAt b (4 + 140 * n + 4) 4
/-- Cell mask of a monitor. -/
def bankCells (b : List Byte) (n m : Nat) : Nat := leAt b (4 + 140 * n + 12 + 4 * m) 2
/-- NTC mask of a monitor. -/
def bankNtcs (b : List Byte) (n m : Nat) : Nat := leAt b (4 + 140 * n + 14 + 4 * m) 1

def State.declared (s : State) (n : Nat) : Bool := bankDeclared (s.sec 2) n
def State.monCount (s : State) (n : Nat) : Nat := bankCount (s.sec 2) n
def State.hasTrimmer (s : State) (n : Nat) : Bool := (bankFlags (s.sec 2) n).testBit 0
def State.hasPrecharge (s : State) (n : Nat) : Bool := (bankFlags (s.sec 2) n).testBit 1
def State.capacity (s : State) (n : Nat) : Nat := bankCapacity (s.sec 2) n
def State.cellMask (s : State) (n m : Nat) : Nat := if m < s.monCount n then bankCells (s.sec 2) n m else 0
def State.ntcMask (s : State) (n m : Nat) : Nat := if m < s.monCount n then bankNtcs (s.sec 2) n m else 0
/-- Cell c of monitor m of string n is declared (R5, R82). -/
def State.cellDeclared (s : State) (n m c : Nat) : Bool := (s.cellMask n m).testBit c

/-- Global cell index (R3). -/
def cellIndex (n m c : Nat) : Nat := 512 * n + 16 * m + c
/-- Global temperature-point index (R4). -/
def pointIndex (n m t : Nat) : Nat := 256 * n + 8 * m + t

/-! Cell NTC tables (R508). -/

/-- Point i of a cell NTC table: its code and its temperature, Q8.7 °C. -/
def ntcPoint (b : List Byte) (t i : Nat) : Nat × Int :=
  (leAt b (256 + 128 * t + 4 * i) 2, signed 16 (leAt b (256 + 128 * t + 4 * i + 2) 2))

/-- Interpolate a code between the points from i on; `none` outside the table (R508). -/
def ntcScan (b : List Byte) (t c : Nat) : Nat → Nat → Option Int
  | 0, _ => none
  | fuel + 1, i =>
    let p := ntcPoint b t i
    let q := ntcPoint b t (i + 1)
    if p.1 ≤ c ∧ c ≤ q.1 then
      some (p.2 + roundNear ((q.2 - p.2) * ((c : Int) - p.1)) (q.1 - p.1))
    else ntcScan b t c fuel (i + 1)

/-- The temperature of a cell NTC code of string n, Q8.7 °C, rounded to nearest; `none` for a sensor fault (R508). -/
def State.ntcTemp (s : State) (n c : Nat) : Option Int :=
  ntcScan (s.sec 3) (s.img 3 (200 + n) 1) c 31 0

/-- The temperature point assigned to cell g, as point index h (R508). -/
def State.pointOfCell (s : State) (g : Nat) : Nat := 256 * (g / 512) + s.img 3 (768 + g) 1

/-! CRC-32C (R78). -/

/-- One bit of the reflected CRC-32C. -/
def crc32Shift (c : BitVec 32) : BitVec 32 := if c.getLsbD 0 then (c >>> 1) ^^^ 0x82F63B78#32 else c >>> 1

/-- One byte of the CRC-32C. -/
def crc32Byte (c : BitVec 32) (b : Byte) : BitVec 32 :=
  let c := c ^^^ b.setWidth 32
  crc32Shift (crc32Shift (crc32Shift (crc32Shift (crc32Shift (crc32Shift (crc32Shift (crc32Shift c)))))))

/-- CRC-32C: reflected 0x82F63B78, initial value and final exclusive-or 0xFFFFFFFF (R78). -/
def crc32c (l : List Byte) : Word := l.foldl crc32Byte 0xFFFFFFFF#32 ^^^ 0xFFFFFFFF#32

end Sys2Proof.Machine
end

