-- ==== Sys2Proof/Machine/Phb.lean ====
section
/-! DEFINITION. Phb.lean: the phase base (R108 to R125): accumulator, sources, tracking loop, state table, schedule firings. Reference instants are the time-counter values the commands carry (log entry 6). -/
namespace Sys2Proof.Machine

open Sys2Proof

/-- PHB_STAT.STATE codes (R114). -/
def phbInternal : Nat := 0
def phbRealign : Nat := 1
def phbLocked : Nat := 2
def phbFlywheel : Nat := 3

/-- The increment in effect (R109). -/
def State.phbInc (s : State) : Nat := (s.rd64 0x30020).toNat

/-- The accumulator at a time-counter value, without counting wraps (R108). -/
def State.accAt (s : State) (tc : Tc) : BitVec 48 :=
  s.phb.acc + BitVec.ofNat 48 (s.phbInc * (tc - s.phb.accTc).toNat)

/-- The phase count at a time-counter value: accumulator bits [47:32] (R108). -/
def State.phaseAt (s : State) (tc : Tc) : BitVec 16 := (s.accAt tc).extractLsb' 32 16

/-- How far the accumulator has moved on the tick that reaches a time-counter value: the increment in effect on that tick. -/
def State.phbStep (s : State) (tc : Tc) : Nat :=
  if tc = s.phb.accTc then s.phb.incBefore else s.phbInc

/-- The carries out of bit 47 by a time-counter value whose wrap has not been evaluated (R108). -/
def State.carriesAt (s : State) (tc : Tc) : Nat :=
  s.phb.carries + (s.phb.acc.toNat + s.phbInc * (tc - s.phb.accTc).toNat) / cycleLen

/-- The position the phase base has reached at a time-counter value. -/
def State.positionAt (s : State) (tc : Tc) : Nat :=
  ((s.rd64 0x30014).toNat + s.phb.carries) * cycleLen + s.phb.acc.toNat + s.phbInc * (tc - s.phb.accTc).toNat

/-- The phase base runs: the module has its supply and is neither in Standby nor in Deep standby (R114). -/
def State.phbOn (s : State) : Bool :=
  match s.pwr.state with
  | .unpowered | .standby | .deep | .off | .waking => false
  | _ => true

/-- The accumulator carries out of bit 47 on the tick `tc`, and that wrap has not been evaluated yet (R108). -/
def State.wrapsAt (s : State) (tc : Tc) : Bool :=
  s.phbOn && decide (s.phb.accTc ≤ tc) && decide (0 < s.carriesAt tc) && decide ((s.accAt tc).toNat < s.phbStep tc)

/-- Let the accumulator run on to a time-counter value. -/
def State.phbRebase (s : State) (tc : Tc) : State :=
  { s with phb := { s.phb with acc := s.accAt tc, accTc := tc, incBefore := s.phbStep tc, carries := s.carriesAt tc } }

/-- The schedule, or the increment that carries it, changes on this tick (R120). -/
def State.phbMoved (s : State) (tc : Tc) : State := { s with phb := { s.phb with moveTc := some tc } }

/-- The bounds of the increment (R109). -/
def boundInc (i : Int) : Nat := (clampI 1 (2 ^ 37) i).toNat

/-- Change the increment from a time-counter value on; the phase stays continuous (R109). -/
def State.phbSetInc (s : State) (tc : Tc) (inc : Nat) : State :=
  ((s.phbRebase tc).phbMoved tc).wr64 0x30020 (BitVec.ofNat 64 inc)

/-- The increment of a frequency in mHz: f × 2^48 × 4 ns, rounded to nearest (R109). -/
def incOfMhz (f : Nat) : Nat := boundInc (roundNear ((f : Int) * 2 ^ 50) (10 ^ 12))

/-- The increment of a period in units of 1/16 ns (R109). -/
def incOfPeriod (p : Nat) : Nat := boundInc (roundNear (2 ^ 54) p)

/-- The internal increment (R114). -/
def State.internalInc (s : State) : Nat := incOfMhz (s.fld F.PHB_INT_MHZ)

/-- A time-counter value in units of 1/16 ns. -/
def tc16 (tc : Tc) : Nat := 64 * tc.toNat

/-- The frequency a period implies lies within PHB_FMIN to PHB_FMAX (R111). -/
def State.freqOk (s : State) (p : Nat) : Bool :=
  decide (0 < p ∧ s.fld F.PHB_FMIN_MHZ * p ≤ 16 * 10 ^ 12 ∧ 16 * 10 ^ 12 ≤ s.fld F.PHB_FMAX_MHZ * p)

/-- The phase error e of a reference event at which the phase count is `ph` (R111). -/
def State.phaseError (s : State) (ph : BitVec 16) : Int :=
  (BitVec.ofNat 16 (s.fld F.PHB_OFFSET_COUNT) - ph).toInt

/-- Clear the acquisition history; the next event has no interval to judge it by (R114). -/
def State.clearHistory (s : State) : State :=
  { s with phb := { s.phb with history := [], lastRef := none } }

/-- K_P and K_I with 16 fraction bits, by PHB_SRC.BW (R113). -/
def loopGains (bw : Nat) : Nat × Nat :=
  match bw with
  | 0 => (72791, 40426)
  | 1 => (18198, 2527)
  | 2 => (4550, 158)
  | _ => (2275, 39)

/-- LOOP_UPDATE: the tracking loop's update of the frequency term and the increment from the phase error (R113). -/
def State.loopUpdate (s : State) (tc : Tc) (e : Int) : State :=
  let g := loopGains (s.fld F.PHB_SRC_BW)
  let nom : Int := incOfMhz (s.fld F.PHB_NOM_MHZ)
  let f := s.phb.freqTerm + roundNear (g.2 * e * nom) (2 ^ 32)
  let inc : Int := s.phbInc
  let want := f + roundNear (g.1 * e * nom) (2 ^ 32)
  let new := boundInc (clampI (inc - inc / 1024) (inc + inc / 1024) want)
  let s := s.phbSetInc tc new
  { s with phb := { s.phb with freqTerm := f } }

/-- The re-entry increment: the next wrap falls on the first instant, at least half a cycle ahead, at which the source's phase reaches 0 (R115); where the last reference event lies ahead, as an angle message's does (R127), that instant may come before it. Lengths are in 1/65536 of 1/16 ns. -/
def State.reentryInc (s : State) (tc : Tc) : Nat :=
  let inc := s.phbInc
  let acc := (s.accAt tc).toNat
  let p : Int := s.phb.period
  let last : Int := (s.phb.lastRef.getD (tc16 tc) : Nat)
  let base := 65536 * (last - (tc16 tc : Int)) + p * (65536 - (s.fld F.PHB_OFFSET_COUNT : Int))
  let unit := 65536 * p
  let need : Int := (2 ^ 47 * 64 * 65536 + inc - 1) / inc
  let d := base + unit * ((need - base + unit - 1) / unit)
  boundInc (roundNear ((2 ^ 48 - (acc : Int)) * 64 * 65536) d.toNat)

/-- LOCK event (R114, R116): FALLBACK is cleared. -/
def State.lockEvent (s : State) : State := (s.event Ev.PHB_LOCK).put F.PHB_STAT_FALLBACK 0

/-- Fall to INTERNAL at once with the internal increment and a cleared history (R114). -/
def State.toInternal (s : State) (tc : Tc) : State :=
  (((s.phbSetInc tc s.internalInc).put F.PHB_STAT_STATE phbInternal).put F.PHB_STAT_FLYCNT 0).clearHistory

/-- LOCKED to FLYWHEEL: LOSS event, increment held, flywheel count 0 (R114). -/
def State.toFlywheel (s : State) : State :=
  let s := ((s.event Ev.PHB_LOSS).put F.PHB_STAT_STATE phbFlywheel).put F.PHB_STAT_FLYCNT 0
  { s with phb := { s.phb with flywheel := 0 } }

/-- Enter REALIGN with the re-entry increment (R114, R115). -/
def State.toRealign (s : State) (tc : Tc) : State :=
  (s.phbSetInc tc (s.reentryInc tc)).put F.PHB_STAT_STATE phbRealign

/-- A reference event at `t16`, with the phase count `ph` the base has there: qualification (R111) and the state table (R114). `period` is the period a message carries; for the other sources it is the interval from the previous event. -/
def State.refEvent (s : State) (tc : Tc) (t16 : Nat) (ph : BitVec 16) (period : Option Nat) (valid : Bool) : State :=
  let st := s.fld F.PHB_STAT_STATE
  let p := period.getD (match s.phb.lastRef with | some l => t16 - l | none => 0)
  let fOk := s.freqOk p && valid
  let e := s.phaseError ph
  let eOk := decide (-4096 ≤ e ∧ e ≤ 4096)
  let ok := fOk && (eOk || (st != phbLocked && st != phbFlywheel))
  let s := { s with phb := { s.phb with lastRef := some t16, period := if ok then p else s.phb.period } }
  let s := s.put F.PHB_FREQ_MHZ (if ok then (roundOpen (16 * 10 ^ 12) p).toNat else 0)
  match st with
  | 0 => { s with phb := { s.phb with history := ok :: s.phb.history.take 7 } }
  | 1 => if ok then s else s.toInternal tc
  | 2 => if ok then s.loopUpdate tc e else s.toFlywheel
  | _ => if ok then ((s.loopUpdate tc e).put F.PHB_STAT_STATE phbLocked |>.put F.PHB_STAT_FLYCNT 0).lockEvent else s

/-- The reference goes missing (R112, R114). -/
def State.refMissing (s : State) (tc : Tc) : State :=
  let s := s.put F.PHB_FREQ_MHZ 0
  match s.fld F.PHB_STAT_STATE with
  | 0 => s.clearHistory
  | 1 => s.toInternal tc
  | 2 => s.toFlywheel
  | _ => s

/-- The wrap's row of the state table (R114), the accumulator already at the wrap. -/
def State.wrapRow (s : State) (tc : Tc) (changed : Bool) : State :=
  match s.fld F.PHB_STAT_STATE with
  | 0 =>
    if s.fld F.PHB_SRC_SOURCE == 0 then s
    else if s.phb.history.length == 8 && s.phb.history.all id then s.toRealign tc else s
  | 1 =>
    let f := incOfPeriod s.phb.period
    let s := ((s.phbSetInc tc f).put F.PHB_STAT_STATE phbLocked).lockEvent
    { s with phb := { s.phb with freqTerm := f } }
  | 2 => if changed then s.toRealign tc else s
  | _ =>
    if s.phb.flywheel = 19 then
      ((s.toInternal tc).event Ev.PHB_FALLBACK).put F.PHB_STAT_FALLBACK 1
    else
      let n := s.phb.flywheel + 1
      { s.put F.PHB_STAT_FLYCNT (min n 7) with phb := { s.phb with flywheel := n } }

/-- The schedule starts at the first wrap after distribution: the cycle that begins is the first whose firings take place (R123). -/
def State.schedStart (s : State) (tc : Tc) : State :=
  if s.cfg.distributed && !s.flag F.PHB_STAT_SCHED_RUN then
    let s : State := { s with phb := { s.phb with startCycle := (s.rd64 0x30014).toNat } }
    (s.phbMoved tc).put F.PHB_STAT_SCHED_RUN 1
  else s

/-- A wrap: the cycle count advances (R108), the wrap's time-counter value is latched (R124), the schedule starts at the first wrap after distribution (R123), and the state table is evaluated (R114). -/
def State.wrap (s : State) (tc : Tc) : State :=
  let s := s.phbRebase tc
  let s := s.wr64 0x30014 (s.rd64 0x30014 + BitVec.ofNat 64 s.phb.carries)
  let s : State := { s with phb := { s.phb with carries := 0 } }
  let s := (s.wr64 0x30028 tc).schedStart tc
  let changed := s.phb.offsetChanged
  let s := { s with phb := { s.phb with offsetChanged := false } }
  s.wrapRow tc changed

/-- Reset row of R114: phase 0, cycle count 0, internal increment, history cleared. -/
def State.phbReset (s : State) (tc : Tc) : State :=
  let s := { s with phb := { Phb.reset with accTc := tc, moveTc := some tc, angleNext := s.phb.angleNext, angleSeen := s.phb.angleSeen } }
  ((((s.wr64 0x30014 0).wr64 0x30020 (BitVec.ofNat 64 s.internalInc)).put F.PHB_STAT_STATE phbInternal).put F.PHB_STAT_FLYCNT 0).put F.PHB_FREQ_MHZ 0

/-! Firings (R117 to R121). -/

/-- The place of an entry's action among the firings of one tick: by action, and within one action by entry index (R119). -/
def firingKey (k action : Nat) : Nat := 64 * action + k

/-- The place of the aperture of a tick among its firings (R119). -/
def apertureKey : Nat := firingKey 0 4

/-- The firings that fall on a tick, as places in the order of R119. An APERTURE entry acts through its notice (R120); the aperture itself stands in its place. -/
def State.keysAt (s : State) (tc : Tc) : List Nat :=
  let pos := s.positionAt tc
  let step := s.phbStep tc
  (if s.afe.aperture.contains tc then [apertureKey] else []) ++
  (List.range 64).filterMap fun k =>
    let e := schedEntry s.rd k
    if e.action != 0 && e.action != 4 && e.due s.phb.startCycle pos step then some (firingKey k e.action) else none

/-- A place in the order of a tick that no firing of the tick has taken or passed yet. -/
def State.unfired (s : State) (tc : Tc) (key : Nat) : Bool :=
  match s.phb.fired with
  | none => true
  | some (t, n) => if t = tc then decide (n < key) else decide (t < tc)

/-- The firing of a tick whose turn it is (R119). -/
def State.turn (s : State) (tc : Tc) : Option Nat := leastOf ((s.keysAt tc).filter (s.unfired tc))

/-- Schedule entry k fires this action on the tick: the schedule runs, the wrap of the tick has been evaluated, the accumulator reaches a target of the entry, and every firing that R119 puts before it on the tick has acted (R117, R118, R119, R123). -/
def State.fires (s : State) (k : Nat) (action : Nat) (tc : Tc) : Bool :=
  s.phbOn && s.flag F.PHB_STAT_SCHED_RUN && decide (s.phb.accTc ≤ tc) && !s.wrapsAt tc &&
    s.fld (F.PHB_SCHED_A_ACTION k) == action && s.turn tc == some (firingKey k action)

/-- A firing of the tick has acted; it does not act again (R109, R119). -/
def State.acted (s : State) (key : Nat) (tc : Tc) : State :=
  { s with phb := { s.phb with fired := some (tc, key) } }

/-- The next firing of an APERTURE entry of which no notice has been given: one that falls on this tick or later (R120). -/
def State.unnoticed (s : State) (k : Nat) (tc : Tc) : Option Nat :=
  let e := schedEntry s.rd k
  match e.after s.phb.startCycle (s.positionAt tc - s.phbStep tc) with
  | none => none
  | some p => if p = s.phb.noticedPos.getD k 0 then e.after s.phb.startCycle p else some p

/-- The ticks from `tc` to the first at which the accumulator reaches a position, by the increment in effect (R120). -/
def State.ticksTo (s : State) (p : Nat) (tc : Tc) : Nat :=
  (p - s.positionAt tc + s.phbInc - 1) / s.phbInc

/-- The notice of an APERTURE firing falls on this tick: the predicted instant lies 16 µs ahead, or a change on this tick has brought it nearer than that (R120). Answers the firing's position. -/
def State.noticeAt (s : State) (k : Nat) (tc : Tc) : Option Nat :=
  if s.phbOn && s.flag F.PHB_STAT_SCHED_RUN && decide (s.phb.accTc ≤ tc) && s.fld (F.PHB_SCHED_A_ACTION k) == 4 then
    match s.unnoticed k tc with
    | none => none
    | some p =>
      let n := s.ticksTo p tc
      if n = 4000 || (decide (n < 4000) && s.phb.moveTc == some tc) then some p else none
  else none

/-- A firing has been noticed: its aperture is taken 16 µs after the notice (R120). -/
def State.noticed (s : State) (k p lead : Nat) (tc : Tc) : State :=
  { s with phb := { s.phb with
      noticed := s.phb.noticed.filter (fun x => decide (tc < x.1)) ++ [(tc + 4000, lead)]
      noticedPos := setAt s.phb.noticedPos k p } }

/-- The apertures of this instant are phase-aligned (R116). -/
def State.aligned (s : State) : Bool :=
  s.fld F.PHB_STAT_STATE == phbLocked || (s.fld F.PHB_STAT_STATE == phbInternal && s.fld F.PHB_SRC_SOURCE == 0)

/-- REFERENCE_EVENT (R114): the event of the carrier, mains or encoder source. The encoder source has one only where its count has completed PHB_ENC counts (R111). -/
def execReferenceEvent (tc : Tc) (s : State) : Host.Outcome State Fault Refusal :=
  if !s.phbOn then .next s
  else match s.fld F.PHB_SRC_SOURCE with
  | 1 | 2 => .next (s.refEvent tc (tc16 tc) (s.phaseAt tc) none true)
  | 3 =>
    if s.phb.encDue then
      let s := { s with phb := { s.phb with encDue := false } }
      .next (s.refEvent tc (tc16 tc) (s.phaseAt tc) none true)
    else .next s
  | _ => .next s

/-- The reference is missing at an instant: for the Ethernet source 2.5 message intervals have passed since the last valid message, for the others 1.25 / PHB_FMIN since the last event (R112). -/
def State.missingBy (s : State) (tc : Tc) : Bool :=
  match s.fld F.PHB_SRC_SOURCE with
  | 0 => false
  | 4 =>
    match s.phb.lastRef, s.phb.angleTc with
    | some _, some t => decide (5 * s.img 6 24 2 * 250000 ≤ 2 * (tc - t).toNat)
    | _, _ => false
  | _ =>
    match s.phb.lastRef with
    | some l => decide (5 * 16 * 10 ^ 12 ≤ 4 * s.fld F.PHB_FMIN_MHZ * (tc16 tc - l))
    | none => false

/-- REFERENCE_MISSING (R112, R114). -/
def execReferenceMissing (tc : Tc) (s : State) : Host.Outcome State Fault Refusal :=
  if s.phbOn && s.missingBy tc then .next (s.refMissing tc) else .next s

/-- PHASE_WRAP (R108, R114): the accumulator carries out of bit 47 on this tick. -/
def execPhaseWrap (tc : Tc) (s : State) : Host.Outcome State Fault Refusal :=
  .next (if s.wrapsAt tc then s.wrap tc else s)

/-- ENCODER_COUNT (R111): a forward count, a reverse count, or a Z pulse, which restarts the count with Z_EN = 1. -/
def execEncoderCount (e : EncoderEdge) (s : State) : Host.Outcome State Fault Refusal :=
  let p := s.phb
  if !s.phbOn then .next s
  else match e with
  | .up =>
    let n := p.encCount + 1
    if s.fld F.PHB_SRC_SOURCE == 3 && decide ((s.fld F.PHB_ENC_COUNTS : Int) ≤ n - p.encBase) then
      .next { s with phb := { p with encCount := n, encBase := n, encDue := true } }
    else .next { s with phb := { p with encCount := n } }
  | .down => .next { s with phb := { p with encCount := p.encCount - 1 } }
  | .z =>
    if s.flag F.PHB_SRC_Z_EN then .next { s with phb := { p with encCount := 0, encBase := 0 } } else .next s

/-- MARK (R124): the time counter and the low cycle count are latched into the mark register that TARGET names. -/
def execMark (k : Fin 64) (tc : Tc) (s : State) : Host.Outcome State Fault Refusal :=
  if s.fires k 8 tc then
    let s := s.acted (firingKey k 8) tc
    let n := s.fld (F.PHB_SCHED_A_TARGET k) % 4
    .next ((s.wr64 (0x30080 + 16 * n) tc).wr (0x30088 + 16 * n) ((s.rd64 0x30014).extractLsb' 0 32))
  else .next s

end Sys2Proof.Machine
end

