-- ==== Sys2Proof/Machine/Tim.lean ====
section
/-! DEFINITION. Tim.lean: network time and its segments, conversion, the local clock's servo, the timed pulse outputs (R409 to R417). Times are in 2^-32 ns, offsets in 2^-36 ns. -/
namespace Sys2Proof.Machine

open Sys2Proof

/-! Segments (R410 to R412). -/

/-- NT of a raw value by a segment, exact (R410). -/
def ntBy (g : TimSeg) (r : Nat) : Int := g.base + g.step + ((r : Int) - (g.raw.toNat : Int)) * ((g.inc.toNat * 8 : Nat) : Int)

/-- The segment that converts a raw value (R412). -/
def State.segOf (s : State) (r : Nat) : TimSeg := if s.tim.cur.raw.toNat ≤ r then s.tim.cur else s.tim.prev

/-- Network time of a raw value (R412). -/
def State.ntOf (s : State) (r : Nat) : Int := ntBy (s.segOf r) r

/-- The first tick of the current segment whose network time is at least t (R412). -/
def State.rawOf (s : State) (t : Int) : Nat :=
  let g := s.tim.cur
  let d := t - g.base - g.step
  let inc := g.inc.toNat * 8
  if d ≤ 0 then g.raw.toNat else g.raw.toNat + ((d + (inc : Int) - 1) / (inc : Int)).toNat

/-- A write that opens a segment at the tick after it; writes that take effect on the same tick form one segment (R411). -/
def State.openSeg (s : State) (tc : Tc) (f : TimSeg → TimSeg) : State :=
  let c := s.tim.cur
  if c.raw = tc + 1 then { s with tim := { s.tim with cur := f c } }
  else { s with tim := { s.tim with cur := f { raw := tc + 1, base := ntBy c (tc + 1).toNat, step := 0, inc := c.inc }, prev := c } }

/-! Timed pulse outputs (R415 to R417). -/

/-- States of an output (TIM_TPOn_STAT). -/
def tpoIdle : Nat := 0
def tpoArmed : Nat := 1
def tpoPulse : Nat := 2

/-- An output's record. -/
def State.tpo (s : State) (n : Nat) : Tpo := s.tim.tpos.getD n Tpo.reset

/-- Replace an output's record. -/
def State.setTpo (s : State) (n : Nat) (x : Tpo) : State := { s with tim := { s.tim with tpos := setAt s.tim.tpos n x } }

/-- The latched mode is periodic; the latched time base is raw ticks (R415). -/
def Tpo.periodic (x : Tpo) : Bool := x.cfg.getLsbD 0
def Tpo.raw (x : Tpo) : Bool := x.cfg.getLsbD 2

/-- The time of a tick on an output's time base, in 2^-32 units (R415). -/
def State.tpoTime (s : State) (raw : Bool) (tc : Tc) : Int := if raw then (tc.toNat * 2 ^ 32 : Nat) else s.ntOf tc.toNat

/-- The target of the next edge (R415). -/
def Tpo.target (x : Tpo) : Int := ((x.start * 2 ^ 32 + x.k * x.period : Nat) : Int)

/-- The first edge whose target lies after a time (R416, R417). -/
def Tpo.firstAfter (x : Tpo) (t : Int) : Nat :=
  let d := t - ((x.start * 2 ^ 32 : Nat) : Int)
  if d < 0 then 0 else (d / (x.period : Int)).toNat + 1

/-- After a STEP or SET, a periodic output on network time goes on with the first pending edge after the first tick of the new segment (R417). -/
def State.tpoStepped (s : State) (tc : Tc) : State :=
  forUpTo 4 (fun n s =>
    let x := s.tpo n
    if x.pending && x.periodic && !x.raw then s.setTpo n { x with k := max x.k (x.firstAfter (s.ntOf (tc + 1).toNat)) } else s) s

/-- Why ARM is refused: 1 BAD_CFG, 2 LATE (R416). -/
def State.tpoRefusal (s : State) (n : Nat) (x : Tpo) (tc : Tc) : Option Nat :=
  let ns := s.fld (F.TIM_TPO_WIDTH_VALUE n)
  let period := if x.raw then 4 * x.period else x.period
  if ns < 8 then some 1
  else if x.periodic then (if period < (ns + 8) * 2 ^ 32 || period < 100 * 2 ^ 32 then some 1 else none)
  else if x.target ≤ s.tpoTime x.raw tc then some 2 else none

/-- A write of 1 to TIM_TPOn_CTRL.ARM (R416). -/
def State.tpoArm (s : State) (n : Nat) (tc : Tc) : State :=
  let x : Tpo := { Tpo.reset with
    cfg := (s.rd (F.TIM_TPO_CFG_MODE n).addr).extractLsb' 0 3
    start := (s.rd64 (F.TIM_TPO_START_LO_VALUE n).addr).toNat
    period := s.fld (F.TIM_TPO_PERIOD_VALUE n) * 2 ^ 32 + s.fld (F.TIM_TPO_PERIOD_FRAC_VALUE n)
    width := (roundNear (s.fld (F.TIM_TPO_WIDTH_VALUE n)) 4).toNat
    pending := true }
  match s.tpoRefusal n x tc with
  | some c => (s.put (F.TIM_TPO_STAT_REFUSE n) c).eventIf (c == 2) Ev.TIM_TPO_LATE
  | none =>
    let x := { x with
      k := if x.periodic then x.firstAfter (s.tpoTime x.raw tc) else 0
      pulseEnd := (s.tpo n).pulseEnd }
    let s := (s.setTpo n x).put (F.TIM_TPO_STAT_PULSES n) 0
    if s.fld (F.TIM_TPO_STAT_STATE n) = tpoPulse then s else s.put (F.TIM_TPO_STAT_STATE n) tpoArmed

/-- TPO_ARM (R416). -/
def execTpoArm (n : Fin 4) (tc : Tc) (s : State) : Host.Outcome State Fault Refusal := .next (s.tpoArm n tc)

/-- A write of 1 to TIM_TPOn_CTRL.DISARM: the pulse in progress completes and pending edges are abandoned (R417). -/
def State.tpoDisarm (s : State) (n : Nat) : State :=
  let s := s.setTpo n { s.tpo n with pending := false }
  if s.fld (F.TIM_TPO_STAT_STATE n) = tpoArmed then s.put (F.TIM_TPO_STAT_STATE n) tpoIdle else s

/-- TPO_DISARM (R417). -/
def execTpoDisarm (n : Fin 4) (s : State) : Host.Outcome State Fault Refusal := .next (s.tpoDisarm n)

/-- TPO_EDGE (R415): the rising edge at the first tick whose time has reached the target. -/
def execTpoEdge (n : Fin 4) (tc : Tc) (s : State) : Host.Outcome State Fault Refusal :=
  let x := s.tpo n
  if s.fld (F.TIM_TPO_STAT_STATE n) = tpoArmed ∧ x.pending ∧ x.target ≤ s.tpoTime x.raw tc then
    let s := s.setTpo n { x with k := x.k + 1, pending := x.periodic, pulseEnd := tc + BitVec.ofNat 64 x.width }
    .next ((s.bump (F.TIM_TPO_STAT_PULSES n)).put (F.TIM_TPO_STAT_STATE n) tpoPulse)
  else .next s

/-- TPO_PULSE_END (R415): the pulse ends after its width in ticks. -/
def execTpoPulseEnd (n : Fin 4) (tc : Tc) (s : State) : Host.Outcome State Fault Refusal :=
  let x := s.tpo n
  if s.fld (F.TIM_TPO_STAT_STATE n) = tpoPulse ∧ x.pulseEnd.toNat ≤ tc.toNat then
    .next (s.put (F.TIM_TPO_STAT_STATE n) (if x.pending then tpoArmed else tpoIdle))
  else .next s

/-! Writes to network time (R411, R413). -/

/-- TIM_INC, TIM_STEP and TIM_CTRL are denied to every path while the servo is enabled (R413). -/
def State.servoDenies (s : State) : Writer → Bool
  | .path _ => s.flag F.TIM_SERVO_CFG_SERVO_EN
  | .lane _ => false

/-- A write of TIM_INC (R411). -/
def State.timInc (s : State) (v : Word) (tc : Tc) : State :=
  if 0x7FEF9DB2 ≤ v.toNat ∧ v.toNat ≤ 0x8010624E then (s.openSeg tc (fun g => { g with inc := v })).put F.TIM_INC_VALUE v.toNat
  else s.event Ev.TIM_INC_REJ

/-- A step of network time by signed nanoseconds (R411, R417). -/
def State.timStep (s : State) (ns : Int) (tc : Tc) : State :=
  ((s.openSeg tc (fun g => { g with step := g.step + ns * 2 ^ 32 })).event Ev.TIM_STEP).tpoStepped tc

/-- A set of network time to nanoseconds (R411, R417). -/
def State.timSet (s : State) (ns : Nat) (tc : Tc) : State :=
  ((s.openSeg tc (fun g => { g with base := (ns * 2 ^ 32 : Nat) })).event Ev.TIM_STEP).tpoStepped tc

/-- TIM_SET as a number. -/
def State.timSetValue (s : State) : Nat := (s.rd64 F.TIM_SET_LO_VALUE.addr).toNat

/-- TIM_INC_WRITE (R411). -/
def execTimIncWrite (v : Word) (w : Writer) (tc : Tc) (s : State) : Host.Outcome State Fault Refusal :=
  .next (if s.servoDenies w then s else s.timInc v tc)

/-- TIM_STEP (R411). -/
def execTimStep (v : Word) (w : Writer) (tc : Tc) (s : State) : Host.Outcome State Fault Refusal :=
  .next (if s.servoDenies w then s else s.timStep v.toInt tc)

/-- TIM_SET (R411): TIM_CTRL.SET applies TIM_SET. -/
def execTimSet (w : Writer) (tc : Tc) (s : State) : Host.Outcome State Fault Refusal :=
  .next (if s.servoDenies w then s else s.timSet s.timSetValue tc)

/-- A write of TIM_CONV_RAW_HI converts the raw value, integer ns, rounded down (R412). -/
def State.timConvert (s : State) (v : Word) : State :=
  let s := s.put F.TIM_CONV_RAW_HI_VALUE v.toNat
  let r := (s.rd64 F.TIM_CONV_RAW_LO_VALUE.addr).toNat
  let s := s.putFlag F.TIM_STAT_CONV_PREV (r < s.tim.cur.raw.toNat)
  let s := s.putFlag F.TIM_STAT_CONV_OOR (r < s.tim.cur.raw.toNat && r < s.tim.prev.raw.toNat)
  s.wr64 F.TIM_CONV_NT_LO_VALUE.addr (BitVec.ofInt 64 (s.ntOf r / 2 ^ 32))

/-- TIM_CONVERT (R412). -/
def execTimConvert (v : Word) (s : State) : Host.Outcome State Fault Refusal := .next (s.timConvert v)

/-! The servo (R413, R414). -/

/-- States of the servo (TIM_STAT.SERVO). -/
def servoFree : Nat := 0
def servoAcquire : Nat := 1
def servoLocked : Nat := 2
def servoHoldover : Nat := 3

/-- The firmware's servo runs. -/
def State.servoRuns (s : State) : Bool := s.lan.fw && s.flag F.TIM_SERVO_CFG_SERVO_EN

/-- The offset of a Sync in 2^-36 ns (R413). -/
def State.syncOffset (s : State) (m : PtpSync) : Int :=
  let r := m.stamp / 16
  let nt := s.ntOf r * 16 + ((m.stamp % 16 * (s.segOf r).inc.toNat * 8 : Nat) : Int)
  nt - (((m.seconds.toNat * 10 ^ 9 + m.nanos.toNat) * 2 ^ 36 : Nat) : Int) - m.correction.toInt * 2 ^ 20

/-- The increment the servo writes (R414), with T_S in 2^-36 ns. -/
def servoInc (o sum : Int) (ts : Nat) : Int :=
  clampI 0x7FEF9DB2 0x8010624E (roundNear (2 ^ 31 * (64 * (ts : Int) - 16 * o - sum)) (64 * ts))

/-- T_S in 2^-36 ns from a log interval. -/
def syncInterval (log : Int) : Nat := 10 ^ 9 * 2 ^ (36 + log).toNat

/-- The servo's row for an offset beyond STEP_THR: a STEP by −o, or a SET from 2^31 ns (R414). -/
def State.servoStep (s : State) (o : Int) (tc : Tc) : State :=
  let s : State := { s with tim := { s.tim with sum := 0, good := 0 } }
  let s := s.put F.TIM_STAT_SERVO servoAcquire
  if o.natAbs < 2 ^ 67 then s.timStep (clampI (- 2 ^ 31) (2 ^ 31 - 1) (- roundOpen o (2 ^ 36))) tc
  else
    let t := code 64 (roundOpen (ntBy s.tim.cur (tc + 1).toNat * 16 - o) (2 ^ 36))
    (s.wr64 F.TIM_SET_LO_VALUE.addr (BitVec.ofNat 64 t)).timSet t tc

/-- The servo's evaluation at an accepted Sync (R414). -/
def State.servoSync (s : State) (o : Int) (log : Int) (tc : Tc) : State :=
  let st := s.fld F.TIM_STAT_SERVO
  let s := s.putS F.TIM_OFFS_NS (clampI (- 2 ^ 31) (2 ^ 31 - 1) (roundOpen o (2 ^ 36)))
  let s : State := { s with tim := { s.tim with lastSync := tc, interval := log } }
  if st = servoFree ∨ st = servoHoldover then
    ({ s with tim := { s.tim with sum := 0, good := 0 } } : State).put F.TIM_STAT_SERVO servoAcquire
  else if s.fld F.TIM_SERVO_CFG_STEP_THR * 1000 * 2 ^ 36 < o.natAbs then s.servoStep o tc
  else
    let good := if o.natAbs ≤ 100 * 2 ^ 36 then s.tim.good + 1 else 0
    let s : State := { s with tim := { s.tim with sum := s.tim.sum + o, good } }
    if st = servoAcquire ∧ 8 ≤ good then (s.put F.TIM_STAT_SERVO servoLocked).event Ev.TIM_LOCK
    else s.timInc (BitVec.ofInt 32 (servoInc o s.tim.sum (syncInterval log))) tc

/-- PTP_SYNC_RECEIVE (R413, R414): a Sync of the image's domain with an interval from 2^-7 s to 2 s is accepted. -/
def execPtpSyncReceive (m : PtpSync) (tc : Tc) (s : State) : Host.Outcome State Fault Refusal :=
  let log := m.interval.toInt
  if s.servoRuns && m.domain.toNat == s.fld F.TIM_SERVO_CFG_DOMAIN && decide (-7 ≤ log) && decide (log ≤ 1) then
    .next (s.servoSync (s.syncOffset m) log tc)
  else .next s

/-- The servo goes to HOLDOVER (R414). -/
def State.servoHold (s : State) (tc : Tc) : State :=
  (({ s with tim := { s.tim with holdTc := tc } } : State).put F.TIM_STAT_SERVO servoHoldover).event Ev.TIM_HOLDOVER

/-- No Sync has been accepted for 4 × T_S (R414). -/
def State.syncLate (s : State) (tc : Tc) : Bool :=
  decide (4 * syncInterval s.tim.interval ≤ (tc - s.tim.lastSync).toNat * 4 * 2 ^ 36)

/-- SYNC_TIMEOUT (R414): no Sync for 4 × T_S, or a master change seen at the expiry of the interval timer. -/
def execSyncTimeout (change : Bool) (tc : Tc) (s : State) : Host.Outcome State Fault Refusal :=
  let st := s.fld F.TIM_STAT_SERVO
  if s.servoRuns && (st == servoAcquire || st == servoLocked) && (change || s.syncLate tc) then
    .next ((s.servoHold tc).eventIf change Ev.TIM_GM_CHANGE)
  else .next s

/-- HOLDOVER_TIMEOUT (R414). -/
def execHoldoverTimeout (tc : Tc) (s : State) : Host.Outcome State Fault Refusal :=
  if s.servoRuns && s.fld F.TIM_STAT_SERVO == servoHoldover &&
      decide (s.fld F.TIM_SERVO_CFG_HOLD_TMO * 250000000 ≤ (tc - s.tim.holdTc).toNat) then
    .next (s.put F.TIM_STAT_SERVO servoFree)
  else .next s

/-- Network time at a start or wake (R409, R410, R414): one segment from raw 0 at 4 ns a tick; the servo is FREE. -/
def State.timStart (s : State) : State :=
  let s : State := { s with tim := Tim.reset }
  (s.put F.TIM_INC_VALUE 0x80000000).put F.TIM_STAT_SERVO servoFree

end Sys2Proof.Machine
end

