-- ==== Sys2Proof/Machine/Angle.lean ====
section
/-! DEFINITION. Angle.lean: angle messages between phase bases (R126, R127). -/
namespace Sys2Proof.Machine

open Sys2Proof

/-- An angle message (R126): flags, sequence, cycle count, phase-zero time in ns, cycle period in 1/16 ns, publisher. -/
def angleBytes (flags seq cycle ns period publisher : Nat) : List Byte :=
  bytesLe 2 0x5041 ++ bytesLe 1 1 ++ bytesLe 1 flags ++ bytesLe 4 seq ++ bytesLe 8 cycle ++
  bytesLe 6 (ns / 10 ^ 9) ++ bytesLe 4 (ns % 10 ^ 9) ++ bytesLe 4 period ++ bytesLe 2 publisher

/-- A message interval has passed since the last message was sent; before the first one nothing is waited for (R126). -/
def State.angleDue (s : State) (tc : Tc) : Bool :=
  match s.phb.sentTc with
  | none => true
  | some t => decide (s.img 6 24 2 * 250000 ≤ (tc - t).toNat)

/-- ANGLE_MESSAGE_SEND (R126): a publishing module names the last wrap in network time, once per message interval, in a datagram to the multicast address and port of the image. Messages begin once the schedule runs, so once a wrap has occurred since the distribution, and are sent while firmware runs on the active lane: the model's choice (log entry 165). -/
def execAngleMessageSend (tc : Tc) (s : State) : Host.Outcome State Fault Refusal :=
  if s.phbOn && s.lan.fw && s.flag F.PHB_SRC_PUBLISH && s.flag F.PHB_STAT_SCHED_RUN && s.angleDue tc && decide ((s.rd64 0x30028).toNat ≤ tc.toNat) then
    let valid := if s.fld F.PHB_STAT_STATE = phbLocked then 1 else 0
    let mains := if s.fld F.PHB_SRC_SOURCE = 2 then 2 else 0
    let ns := (s.ntOf (s.rd64 0x30028).toNat / 2 ^ 32).toNat
    let m := angleBytes (valid + mains) s.phb.angleNext.toNat (s.rd64 0x30014).toNat ns (roundOpen (2 ^ 54) s.phbInc).toNat (s.img 6 26 2)
    .next (({ s with phb := { s.phb with angleNext := s.phb.angleNext + 1, sentTc := some tc } } : State).emit
      (.angle (s.img 6 32 4) (s.img 6 28 2) m))
  else .next s

/-- A sequence number is newer than the last accepted one (R127): it lies 1 to 2^31 - 1 ahead of it, and any first one is newer; the manual does not say how a wrapping number is compared (log entry 82). -/
def angleNewer (last : Option Word) (q : Word) : Bool :=
  match last with
  | none => true
  | some l => decide (1 ≤ (q - l).toNat) && decide ((q - l).toNat < 2 ^ 31)

/-- The message is taken (R127). -/
def State.angleOk (s : State) (m : List Byte) : Bool :=
  m.length == 32 && leAt m 0 2 == 0x5041 && leAt m 2 1 == 1 && leAt m 30 2 == s.img 6 26 2 &&
  decide (leAt m 22 4 ≤ 999999999) && angleNewer s.phb.angleSeen (BitVec.ofNat 32 (leAt m 4 4))

/-- The tick of the publisher's next wrap: the phase-zero time moved on by whole periods until it lies after now (R127). Times are in 2^-32 ns. -/
def State.angleWrap (s : State) (zero : Int) (period : Nat) (tc : Tc) : Nat :=
  let p : Int := ((period * 2 ^ 28 : Nat) : Int)
  let now := s.ntOf tc.toNat
  s.rawOf (if now < zero then zero else zero + p * ((now - zero) / p + 1))

/-- ANGLE_MESSAGE_RECEIVE (R127): a valid message is a reference event at the publisher's next wrap. -/
def execAngleMessageReceive (payload : List Byte) (tc : Tc) (s : State) : Host.Outcome State Fault Refusal :=
  if s.phbOn ∧ s.fld F.PHB_SRC_SOURCE = 4 ∧ s.angleOk payload then
    let s : State := { s with phb := { s.phb with angleSeen := some (BitVec.ofNat 32 (leAt payload 4 4)), angleTc := some tc } }
    let zero : Int := (((leAt payload 16 6 * 10 ^ 9 + leAt payload 22 4) * 2 ^ 32 : Nat) : Int)
    let period := leAt payload 26 4
    let r := BitVec.ofNat 64 (s.angleWrap zero period tc)
    .next (s.refEvent tc (tc16 r) (s.phaseAt r) (some period) ((payload.getD 3 0).getLsbD 0))
  else .next s

end Sys2Proof.Machine
end

