-- ==== Sys2Proof/Machine/Lid.lean ====
section
/-! DEFINITION. Lid.lean: the Lid, the placement epoch, and what becomes of a transfer of an earlier placement (R43, R345, R356). -/
namespace Sys2Proof.Machine

open Sys2Proof

/-- The lane holds the Lid. -/
def State.holdsLid (s : State) (l : Lane) : Bool := s.lan.lid == some l

/-- Some lane holds the Lid. -/
def State.lidHeld (s : State) : Bool := s.lan.lid.isSome

/-- The placement epoch (R43, OBJ_PLACEMENT). -/
def State.placement (s : State) : Word := s.rd 0x10008

/-- A transfer carries the present placement epoch (R43). -/
def State.currentEpoch (s : State) (o : Origin) : Bool := o.epoch == s.placement

/-- The origin of what the active lane itself sends; the lane that held the Lid last where none holds it. -/
def State.ownOrigin (s : State) : Origin :=
  { lane := s.lan.lid.getD (if s.flag F.LAN_STAT_ACTIVE then .b else .a), epoch := s.placement }

/-- A transfer of an earlier placement is discarded: it is counted and its sink recorded (R356). -/
def State.staleTransfer (s : State) (sink : Nat) : State :=
  ((s.bump F.LAN_STALE_CNT_CNT).put F.LAN_STALE_CNT_SINK sink).event Ev.LAN_STALE

/-- The island command port refuses for want of the Lid, or for an old placement epoch: codes 1 and 2 of R257. -/
def State.portRefusal (s : State) (o : Origin) : Option Nat :=
  if !s.holdsLid o.lane then some 1 else if !s.currentEpoch o then some 2 else none

/-- What a transfer of an earlier placement leaves behind at a sink, one that the control step has caught in flight among them: in a control step every transfer is one of the displaced placement (R356). -/
def State.noteStale (s : State) (o : Origin) (sink : Nat) : State :=
  if s.currentEpoch o && s.lan.control.isNone then s else s.staleTransfer sink

end Sys2Proof.Machine
end

