-- ==== Sys2Proof/Machine/Pot.lean ====
section
/-! DEFINITION. Pot.lean: the Stockpot (R349 to R351): its write delay buffer, its bytes, and the register image. -/
namespace Sys2Proof.Machine

open Sys2Proof

/-- A write of the lane that holds the Lid enters the write delay buffer; without the Lid the write port is closed (R345, R350). -/
def State.potWrite (s : State) (addr : Nat) (bytes : List Byte) (tc : Tc) : State :=
  match s.lan.lid with
  | some l => { s with pot := { s.pot with buffer := s.pot.buffer ++ [{ lane := l, tc, addr, bytes }] } }
  | none => s

/-- Bytes go to their places. -/
def storeBytes (c : Cells 8) (a : Nat) : List Byte → Cells 8
  | [] => c
  | b :: t => storeBytes (c.set a b) (a + 1) t

/-- n bytes from an address. -/
def loadBytes (c : Cells 8) (a n : Nat) : List Byte := (List.range n).map (fun i => c.get (a + i))

/-- A block of bytes whose last four are the CRC-32C of the others (R78). -/
def crcGood (l : List Byte) : Bool := crc32c (l.take (l.length - 4)) == BitVec.ofNat 32 (leAt l (l.length - 4) 4)

/-- A block with its CRC-32C appended. -/
def withCrc (l : List Byte) : List Byte := l ++ bytesLe 4 (crc32c l).toNat

/-- One register image copy (R351). -/
def State.imageCopy (s : State) (i : Nat) : List Byte := loadBytes s.pot.mem (0x1000 + 0x800 * i) 2048

/-- A copy is usable for an epoch (R351). -/
def imageUsable (l : List Byte) (epoch : Word) : Bool := crcGood l && leAt l 4 4 == epoch.toNat

/-- IMG0 and IMG1 show which copies are usable. -/
def State.showImages (s : State) : State :=
  let s := s.putFlag F.LAN_SP_STAT_IMG0 (imageUsable (s.imageCopy 0) s.placement)
  s.putFlag F.LAN_SP_STAT_IMG1 (imageUsable (s.imageCopy 1) s.placement)

/-! Management frames in the Stockpot (R349, R352). -/

/-- Where frame area i begins. -/
def areaBase (i : Nat) : Nat := 0x10000 + 0x40000 * i

/-- An area holds a valid frame: magic, a length within the area, the CRC-32C over the rest (R352). -/
def State.areaValid (s : State) (i : Nat) : Bool :=
  let at_ := fun (off n : Nat) => loadBytes s.pot.mem (areaBase i + off) n
  let len := natLe (at_ 4 4)
  at_ 0 4 == [0x53#8, 0x4B#8, 0x50#8, 0x46#8] && decide (68 ≤ len) && decide (len ≤ 262144) && crcGood (at_ 0 len)

/-- The valid frame of an area. -/
def State.validFrame (s : State) (i : Nat) : Option Frame :=
  match if i = 0 then s.frames.f0 else s.frames.f1 with
  | some f => if s.areaValid i then some f else none
  | none => none

/-- The commit count of frame a is higher than that of b; a frame of a later placement epoch is the newer one. -/
def frameNewer (a b : Frame) : Bool :=
  decide (b.placement.toNat < a.placement.toNat) || (a.placement == b.placement && decide (b.commits.toNat < a.commits.toNat))

/-- The newest valid frame, and its area. -/
def State.newestFrame (s : State) : Option (Nat × Frame) :=
  match s.validFrame 0, s.validFrame 1 with
  | some a, some b => if frameNewer b a then some (1, b) else some (0, a)
  | some a, none => some (0, a)
  | none, some b => some (1, b)
  | none, none => none

/-- The area that does not hold the newest valid frame. -/
def State.frameTarget (s : State) : Nat := match s.newestFrame with
  | some (0, _) => 1
  | _ => 0

/-- F0, F1 and LAST show the valid frames. -/
def State.showFrames (s : State) : State :=
  let n := s.newestFrame
  let s := (s.putFlag F.LAN_SP_STAT_F0 (s.validFrame 0).isSome).putFlag F.LAN_SP_STAT_F1 (s.validFrame 1).isSome
  match n with
  | some (_, f) => s.put F.LAN_SP_STAT_LAST f.commits.toNat
  | none => s.put F.LAN_SP_STAT_LAST 0

/-- What an area holds, or nothing that counts. -/
def State.setArea (s : State) (i : Nat) (f : Option Frame) : State :=
  (if i = 0 then ({ s with frames := { s.frames with f0 := f } } : State) else { s with frames := { s.frames with f1 := f } }).showFrames

/-- One section of a frame: type, length, body padded to a multiple of 8 bytes (R352). -/
def frameSection (type : Nat) (body : List Byte) : List Byte :=
  bytesLe 2 type ++ bytesLe 2 0 ++ bytesLe 4 body.length ++ body ++ List.replicate ((8 - body.length % 8) % 8) 0#8

/-- The body of section 0x01: address and value of every RWS object. -/
def Frame.liveBody (f : Frame) : List Byte := f.live.flatMap fun e => bytesLe 4 e.1 ++ bytesLe 4 e.2.toNat

/-- The other bodies are free (log entry 185), that of section 0x04 within its bound. -/
def freeBody (type count : Nat) : List Byte := (Config.frameBody type count).take (if type = 4 then 196608 else 4096)

/-- The bytes of a frame before its CRC (R352). -/
def Frame.bytes (f : Frame) (count : Nat) : List Byte :=
  let secs := ((List.range 9).map fun i => frameSection (i + 1) (if i = 0 then f.liveBody else freeBody (i + 1) count)).flatten
  [0x53#8, 0x4B#8, 0x50#8, 0x46#8] ++ bytesLe 4 (64 + secs.length + 4) ++ bytesLe 4 f.commits.toNat ++ bytesLe 4 f.placement.toNat ++
    bytesLe 4 f.snapshot.toNat ++ bytesLe 2 f.phase.toNat ++ List.replicate 42 0#8 ++ secs

/-- Entries issued at least 2.56 µs before, which is 640 ticks, are committed in the order issued (R350). -/
def State.potCommit (s : State) (tc : Tc) : State :=
  let due := s.pot.buffer.filter (fun w => decide (640 ≤ (tc - w.tc).toNat))
  let rest := s.pot.buffer.filter (fun w => !decide (640 ≤ (tc - w.tc).toNat))
  let mem := due.foldl (fun c w => storeBytes c w.addr w.bytes) s.pot.mem
  ({ s with pot := { mem, buffer := rest } } : State).showImages.showFrames

/-- The uncommitted entries of a lane are discarded at the withdrawal of its Lid; each is a discarded transfer of sink 1 (R350, R356). -/
def State.potDiscard (s : State) (l : Lane) : State :=
  let lost := s.pot.buffer.filter (fun w => w.lane == l)
  let s : State := { s with pot := { s.pot with buffer := s.pot.buffer.filter (fun w => w.lane != l) } }
  lost.foldl (fun s _ => s.staleTransfer 1) s

/-- Word i of slot n in a register image: CFG, REF, UMIN, UMAX, SH0, SH1, then the seven coefficients (R351). -/
def slotImageAddr (n i : Nat) : Nat :=
  let k := i % 13
  0x91000 + 0x100 * (n % 32) + (if k = 0 then 0 else if k < 6 then 4 + 4 * k else 8 + 4 * k)

/-- The register image of the control engine with its commit count and epoch (R351). -/
def State.imageBytes (s : State) : List Byte :=
  let head := bytesLe 4 (s.rd 0xd0010).toNat ++ bytesLe 4 s.placement.toNat ++ bytesLe 8 0
  let slots := (List.range 32).flatMap fun n => (List.range 13).flatMap fun i => bytesLe 4 (s.rd (slotImageAddr n i)).toNat
  let trims := (List.range 8).flatMap fun n =>
    let w := fun off => bytesLe 4 (s.rd (0x90200 + 0x40 * n + off)).toNat
    w 0x08 ++ w 0x0c ++ w 0x10 ++ bytesLe 4 0
  withCrc (head ++ slots ++ trims ++ bytesLe 236 0)

/-- Write one register image copy. -/
def State.writeImage (s : State) (i : Nat) (tc : Tc) : State := s.potWrite (0x1000 + 0x800 * i) s.imageBytes tc

/-- STOCKPOT_COMMIT (R350). -/
def execStockpotCommit (tc : Tc) (s : State) : Host.Outcome State Fault Refusal := .next (s.potCommit tc)

end Sys2Proof.Machine
end

