-- ==== Sys2Proof/Machine/Dlk.lean ====
section
/-! DEFINITION. Dlk.lean: the port engine (R128 to R158): frames and their CRC, transactions, serving ends, port states. The meanings of its commands stand in DlkCommands.lean, after the sweep sequencer to which results are delivered. -/
namespace Sys2Proof.Machine

open Sys2Proof

/-! Port states (R150). -/
def portOff : Nat := 0
def portNoRing : Nat := 1
def portEnum : Nat := 2
def portRing : Nat := 3
def portLocate : Nat := 4
def portSplit : Nat := 5
def portFault : Nat := 6

/-- The port's record. -/
def State.port (s : State) (p : Nat) : Port := s.ports.getD p Port.reset

/-- Replace the port's record. -/
def State.setPort (s : State) (p : Nat) (x : Port) : State := { s with ports := setAt s.ports p x }

/-- The port's state (R150). -/
def State.portState (s : State) (p : Nat) : Nat := s.fld (F.DLK_P_STAT_STATE p)

/-! Frames. -/

/-- CRC-16 over one bit, most significant first (R133). -/
def crc16Bit (c : BitVec 16) (b : Bool) : BitVec 16 :=
  let top := c.getLsbD 15 ^^ b
  let c := c <<< 1
  if top then c ^^^ 0x8BB7#16 else c

/-- CRC-16 over one byte (R133). -/
def crc16Byte (c : BitVec 16) (b : Byte) : BitVec 16 :=
  [7, 6, 5, 4, 3, 2, 1, 0].foldl (fun c i => crc16Bit c (b.getLsbD i)) c

/-- CRC-16: generator 0x8BB7, not reflected, initial value 0, no final exclusive-or (R133). -/
def crc16 (l : List Byte) : BitVec 16 := l.foldl crc16Byte 0

/-- A frame's bytes 0 to 3, payload and CRC, most significant byte first (R132). -/
def frameBytes (byte0 byte1 byte2 : Nat) (payload : List Byte) : List Byte :=
  let body := [BitVec.ofNat 8 byte0, BitVec.ofNat 8 byte1, BitVec.ofNat 8 byte2, BitVec.ofNat 8 payload.length] ++ payload
  let c := crc16 body
  body ++ [c.extractLsb' 8 8, c.extractLsb' 0 8]

/-! What an end sends (R131, R132, R136, R138, R162). -/

/-- What an end sends, or sent last. -/
def Port.wire (x : Port) (endB : Bool) : Option Wire := if endB then x.wireB else x.wireA

/-- An end sends a frame. -/
def Port.setWire (x : Port) (endB : Bool) (w : Option Wire) : Port :=
  if endB then { x with wireB := w } else { x with wireA := w }

/-- The first instant, no earlier than one given, at which an end can send a frame: 2 byte-times of idle after the frame before (R132). -/
def Port.freeAt (x : Port) (endB : Bool) (at4 : Nat) : Nat :=
  match x.wire endB with
  | some w => max at4 (w.finish + 2560)
  | none => at4

/-- A frame of given bytes that starts at an instant; it takes two byte-times more than its bytes (R132). -/
def wireOf (bytes : List Byte) (tag : Option Nat) (start : Nat) : Wire :=
  { bytes, tag, start, finish := start + (bytes.length + 2) * 1280 }

/-- A frame leaves one end of a port, as soon as the end is free; a silent end sends nothing (R131, R132, R156). -/
def State.sendFrame (s : State) (p : Nat) (endB : Bool) (byte0 byte1 byte2 : Nat) (payload : List Byte) (tag : Option Nat) (at4 : Nat) : State :=
  let x := s.port p
  if !x.idle then s
  else
    let bytes := frameBytes (byte0 + (if endB then 64 else 0)) byte1 byte2 payload
    (s.setPort p (x.setWire endB (some (wireOf bytes tag (x.freeAt endB at4))))).emit (.dertur p endB bytes)

/-- A broadcast leaves one end (R132: byte 0 bit [5], hop count 0, byte 2 is 0). -/
def State.sendBroadcast (s : State) (p : Nat) (endB : Bool) (typ : Nat) (payload : List Byte) (at4 : Nat) : State :=
  s.sendFrame p endB (typ + 32) 0 0 payload none at4

/-- The POLL of an end is issued at an instant; its decision is to come (R151). -/
def Port.setPoll (x : Port) (endB : Bool) (at4 : Nat) : Port :=
  if endB then { x with pollB := some at4 } else { x with pollA := some at4 }

/-- A POLL leaves one end, all bitmaps 0 (R135). -/
def State.sendPoll (s : State) (p : Nat) (endB : Bool) (at4 : Nat) : State :=
  let x := s.port p
  (s.setPort p (x.setPoll endB (x.freeAt endB at4))).sendBroadcast p endB 7 (List.replicate 16 0) at4

/-- POLL from both ends (R150). -/
def State.pollBoth (s : State) (p at4 : Nat) : State := (s.sendPoll p false at4).sendPoll p true at4

/-- A unicast request leaves its end (R132). -/
def State.sendRequest (s : State) (p : Nat) (t : Txn) (at4 : Nat) : State :=
  s.sendFrame p t.endB t.typ t.mon (t.tag + 16 * (t.attempt % 4)) t.payload (some t.tag) at4

/-! Requests (R135). -/

/-- A transaction that has not been issued. -/
def newTxn (purpose : Purpose) (m typ : Nat) (payload : List Byte) (respPayload : Nat) : Txn :=
  { purpose, mon := m, typ, payload, respPayload, tag := 0, attempt := 0, retries := 0, endB := false,
    issued := 0, respStart := 0, respEnd := 0, waits := false, pinned := false }

/-- READ of c bytes from a KM16 address. -/
def readTxn (purpose : Purpose) (m addr c : Nat) : Txn :=
  newTxn purpose m 1 (bytesLe 2 addr ++ bytesLe 1 c) (4 + c)

/-- WRITE of bytes to a KM16 address. -/
def writeTxn (purpose : Purpose) (m addr : Nat) (data : List Byte) : Txn :=
  newTxn purpose m 2 (bytesLe 2 addr ++ data) 4

/-- Queue a transaction of the link management, which goes before the others (R138). -/
def State.queueMgmt (s : State) (p : Nat) (t : Txn) : State :=
  let x := s.port p
  s.setPort p { x with mgmt := x.mgmt ++ [t] }

/-- Queue a transaction of the sweep sequencer (R138). -/
def State.queueTxn (s : State) (p : Nat) (t : Txn) : State :=
  let x := s.port p
  s.setPort p { x with queue := x.queue ++ [t] }

/-! Serving ends (R138). -/

/-- The end that a link-management transaction names itself. -/
def Purpose.fixedEnd : Purpose → Option Bool
  | .enum _ b => some b
  | .openMon _ b => some b
  | .ping _ b => some b
  | .remeasure _ b => some b
  | _ => none

/-- Transactions of the link management, which go before the sweep sequencer's (R138). -/
def Purpose.isMgmt : Purpose → Bool
  | .enum _ _ => true
  | .openMon _ _ => true
  | .ping _ _ => true
  | .remeasure _ _ => true
  | .writeDelay _ => true
  | _ => false

/-- The port serves no monitor: OFF, NO_RING or FAULT (R142, R149). -/
def State.unserved (s : State) (p : Nat) : Bool :=
  s.portState p == portOff || s.portState p == portNoRing || s.portState p == portFault

/-- The end that serves Mm (R138): in RING, end A for the lower half; in SPLIT the end that reaches it; none where no end does, and none in OFF, NO_RING or FAULT (R149). DESIGN CHOICE (log entry 167): the rule names RING and SPLIT only; in LOCATE and ENUM the end that reached the monitor at the last POLL or in the enumeration serves it, and a monitor that both ends reach is served from end A, also in SPLIT. -/
def State.servingEnd (s : State) (p m : Nat) : Option Bool :=
  let x := s.port p
  if s.unserved p then none
  else if s.portState p == portRing then some (decide ((s.monCount p + 1) / 2 ≤ m))
  else if x.reachA.getLsbD m then some false
  else if x.reachB.getLsbD m then some true
  else none

/-- The end at which a transaction is issued or tried again; one outstanding at a RECLOSE finishes on its end (R154). -/
def State.txnEnd (s : State) (p : Nat) (t : Txn) : Option Bool :=
  match t.purpose.fixedEnd with
  | some b => some b
  | none => if t.pinned then some t.endB else s.servingEnd p t.mon

/-- The serving ends as DLK_Pn_SERVE_B shows them. -/
def State.showServe (s : State) (p : Nat) : State :=
  s.put (F.DLK_P_SERVE_B_MON p)
    (((List.range 32).map fun m => if s.servingEnd p m == some true && decide (m < s.monCount p) then 2 ^ m else 0).foldl (· + ·) 0)

/-- D of Mm from one end, units of 0.25 ns (R147). -/
def State.delayOf (s : State) (p m : Nat) (endB : Bool) : Nat :=
  if endB then s.fld (F.DLK_P_DLY_B p m) else s.fld (F.DLK_P_DLY_A p m)

/-! Outstanding transactions. -/

/-- Transactions outstanding across the module (DLK_INFLIGHT). -/
def State.inflight (s : State) : Nat := (s.ports.map fun x => x.outstanding.length).foldl (· + ·) 0

/-- OUTST of the port, CUR and PEAK of the module follow the outstanding transactions. -/
def State.showOutstanding (s : State) (p : Nat) : State :=
  let s := s.put (F.DLK_P_STAT_OUTST p) (s.port p).outstanding.length
  let n := s.inflight
  let s := s.put F.DLK_INFLIGHT_CUR n
  if s.fld F.DLK_INFLIGHT_PEAK < n then s.put F.DLK_INFLIGHT_PEAK n else s

/-- Take an outstanding transaction out; its tag is free again (R137). -/
def State.dropTxn (s : State) (p tag : Nat) : State :=
  let x := s.port p
  (s.setPort p { x with outstanding := x.outstanding.filter (fun t => t.tag != tag) }).showOutstanding p

/-- The outstanding transaction that holds a tag. -/
def State.txnOf (s : State) (p tag : Nat) : Option Txn := (s.port p).outstanding.find? (fun t => t.tag == tag)

/-- The lowest free tag (R137). -/
def freeTag (x : Port) : Option Nat :=
  (List.range 16).find? (fun g => x.outstanding.all (fun t => t.tag != g))

/-- Hops from an end to Mm (R130). -/
def State.hops (s : State) (p m : Nat) (endB : Bool) : Nat := if endB then s.monCount p - m else m + 1

/-- The D that the prediction of a response takes (R140). DEDUCED (log entry 168): while DLK_Pn_DLYm holds 0, which is no delay, it is 320 ns a hop (R130), or no response of the enumeration that measures D could come in time. -/
def State.predictedD (s : State) (p m : Nat) (endB : Bool) : Nat :=
  if s.delayOf p m endB = 0 then 1280 * s.hops p m endB else s.delayOf p m endB

/-- The transaction as issued at an instant (units of 0.25 ns), with its predicted response interval (R140). -/
def State.timed (s : State) (p : Nat) (t : Txn) (at4 : Nat) : Txn :=
  let start := at4 + (t.payload.length + 8) * 1280 + 2560 + 2 * s.predictedD p t.mon t.endB
  { t with issued := at4, respStart := start, respEnd := start + (t.respPayload + 8) * 1280, waits := false }

/-- The predicted interval keeps 2 byte-times from every interval reserved for another transaction on the same end (R140). -/
def fits (x : Port) (t : Txn) : Bool :=
  x.outstanding.all fun o => o.tag == t.tag || o.waits || o.endB != t.endB || decide (t.respEnd + 2560 ≤ o.respStart) || decide (o.respEnd + 2560 ≤ t.respStart)

/-- A time-counter value in units of 0.25 ns. -/
def tcQuarter (tc : Tc) : Nat := 16 * tc.toNat

/-- Replace an outstanding transaction. -/
def State.replaceTxn (s : State) (p : Nat) (t : Txn) : State :=
  let x := s.port p
  s.setPort p { x with outstanding := x.outstanding.map (fun o => if o.tag == t.tag then t else o) }

/-- The request of an outstanding transaction goes again, at once where its end is free and its response fits; otherwise it waits for that (R132, R140). -/
def State.sendAgain (s : State) (p : Nat) (t : Txn) (at4 : Nat) : State :=
  let x := s.port p
  let u := s.timed p t at4
  if x.freeAt t.endB at4 == at4 && fits x u then (s.replaceTxn p u).sendRequest p u at4
  else s.replaceTxn p { t with waits := true }

/-- An APERTURE leaves one end on the tick (R136, R138). A frame being sent is stopped and sent again from its start after it, 2 byte-times of idle later; a stopped request keeps its tag and attempt, and its response is predicted again (R132, R162). -/
def State.sendAperture (s : State) (p : Nat) (endB : Bool) (payload : List Byte) (at4 : Nat) : State :=
  let x := s.port p
  if !x.idle then s
  else
    let bytes := frameBytes (40 + (if endB then 64 else 0)) 0 0 payload
    let a := wireOf bytes none at4
    let s := (s.setPort p (x.setWire endB (some a))).emit (.dertur p endB bytes)
    match x.wire endB with
    | none => s
    | some w =>
      if at4 < w.finish then
        let r := wireOf w.bytes w.tag (a.finish + 2560)
        let y := (s.port p).setWire endB (some r)
        let y := if leAt w.bytes 0 1 % 16 == 7 then y.setPoll endB r.start else y
        let s := (s.setPort p y).emit (.dertur p endB w.bytes)
        match w.tag.bind (fun g => s.txnOf p g) with
        | some t => s.replaceTxn p (s.timed p t r.start)
        | none => s
      else s

/-- Every outstanding and waiting transaction of the port. -/
def allTxns (x : Port) : List Txn := x.outstanding ++ x.mgmt ++ x.queue ++ x.bursts

/-- The transactions whose request has not been sent, or waits to be sent again (R65, R143). -/
def unsentTxns (x : Port) : List Txn := x.outstanding.filter (fun t => t.waits) ++ x.mgmt ++ x.queue ++ x.bursts

/-- Drop them all. -/
def State.clearTxns (s : State) (p : Nat) : State :=
  let x := s.port p
  (s.setPort p { x with outstanding := [], mgmt := [], queue := [], bursts := [] }).showOutstanding p

/-- Drop those that have not been sent. -/
def State.clearUnsent (s : State) (p : Nat) : State :=
  let x := s.port p
  (s.setPort p { x with outstanding := x.outstanding.filter (fun t => !t.waits), mgmt := [], queue := [], bursts := [] }).showOutstanding p

/-! Delays (R147). -/

/-- Store the D that 16 round trips, summed in 0.25 ns, give for one end of Mm; outside its band DLY_ERR is set and the value is still stored (R147). -/
def State.storeDelay (s : State) (p m : Nat) (endB : Bool) (sum : Nat) : State :=
  let n : Int := (sum : Int) - 16 * 12800
  let d := (roundOpen n 32).toNat
  let h : Int := s.hops p m endB
  let s := if endB then s.put (F.DLK_P_DLY_B p m) d else s.put (F.DLK_P_DLY_A p m) d
  if n < h * 312 * 4 * 32 ∨ h * 328 * 4 * 32 < n then s.put (F.DLK_P_STAT_DLY_ERR p) 1 else s

/-- The WRITE of DLY_A and DLY_B to Mm (R146 step 5, R158). -/
def State.writeDelayTxn (s : State) (p m : Nat) : Txn :=
  writeTxn (.writeDelay m) m 0x10 (bytesLe 2 (s.delayOf p m false) ++ bytesLe 2 (s.delayOf p m true))

/-! Enumeration (R146). -/

/-- Restart enumeration at step 1: RESET_ADDR from both ends, then ENUM with address 0 from end A. No end reaches a monitor, and no delay is known (R147: 0 if the end does not reach Mm). -/
def State.startEnum (s : State) (p at4 : Nat) : State :=
  let s := s.put (F.DLK_P_STAT_STATE p) portEnum
  let s := (s.sendBroadcast p false 6 [] at4).sendBroadcast p true 6 [] at4
  let x := s.port p
  let s := s.setPort p { x with
    mgmt := [newTxn (.enum 0 false) 0 4 [] 9], enumStep := 2, enumA := 0, enumB := s.monCount p, addressed := 0,
    reachA := 0, reachB := 0, orient := false, overcount := false, closed := false, awaitPoll := false,
    pings := List.replicate 64 (0, 0), consecutive := 0, pollA := none, pollB := none }
  let s := (((s.put (F.DLK_P_STAT_FOUND p) 0).put (F.DLK_P_STAT_A_CNT p) 0).put (F.DLK_P_STAT_B_CNT p) 0).put (F.DLK_P_STAT_DLY_ERR p) 0
  let s := ((s.put (F.DLK_P_STAT_ORIENT_ERR p) 0).put (F.DLK_P_STAT_OVERCOUNT p) 0).put (F.DLK_P_STAT_COUNT_ERR p) 0
  forUpTo 32 (fun m s => ((s.wr (F.DLK_P_UID_LO_VALUE p m).addr 0).wr (F.DLK_P_UID_HI_VALUE p m).addr 0).wr (F.DLK_P_DLY_A p m).addr 0) s

/-- The PINGs of step 4: 16 for every monitor from every end that reaches it (R146). -/
def pingScript (x : Port) : List Txn :=
  (List.range 32).flatMap fun m =>
    (if x.reachA.getLsbD m then List.replicate 16 (newTxn (.ping m false) m 3 [] 2) else []) ++
    (if x.reachB.getLsbD m then List.replicate 16 (newTxn (.ping m true) m 3 [] 2) else [])

/-- Step 5: every addressed monitor's delays are written (R146). -/
def State.enumStep5 (s : State) (p : Nat) : State :=
  let x := s.port p
  let ms := (List.range 32).filter (fun m => x.addressed.getLsbD m)
  s.setPort p { x with enumStep := 5, mgmt := x.mgmt ++ ms.map (fun m => s.writeDelayTxn p m) }

/-- Step 4 begins: in a closed ring both ends reach every monitor; with no monitor there is nothing to measure. -/
def State.enumStep4 (s : State) (p : Nat) : State :=
  let x := s.port p
  let x := if x.closed then { x with reachA := x.addressed, reachB := x.addressed } else x
  let x := { x with enumStep := 4, pings := List.replicate 64 (0, 0) }
  let s := s.setPort p { x with mgmt := x.mgmt ++ pingScript x }
  if (pingScript x).isEmpty then s.enumStep5 p else s

/-- Step 3: the next ENUM from end B, or step 4 where no address is left for it (R146). -/
def State.enumNextB (s : State) (p : Nat) : State :=
  let x := s.port p
  if x.enumB = 0 ∨ x.enumB - 1 < x.enumA then s.enumStep4 p
  else
    let a := x.enumB - 1
    s.setPort p { x with enumStep := 3, enumB := a, mgmt := x.mgmt ++ [newTxn (.enum a true) a 4 [] 9] }

/-- What BURST_CFG is written with (R183, R184, R192): POST, and the enable bit as BURST_EN says. -/
def State.burstCfg (s : State) : Nat := s.fld F.SWP_BURST_CFG_POST + (if s.flag F.SWP_CTRL_BURST_EN then 64 else 0)

/-- The set-up writes of step 6 to one monitor (R146, R178, R192): BAL_MASK 0, BAL_WDT, SETTLE, OW_TIME, BURST_CFG, the sleep thresholds, and ALERT_CAUSE cleared. -/
def State.setupTxns (s : State) (p m : Nat) : List Txn :=
  let wdt := 10 * s.fld F.SWP_BAL_CFG_WDT
  let burst := s.burstCfg
  let ot := s.fld (F.PRT_S_TEMP_OT p)
  [writeTxn (.balance m 0) m 0x180 (bytesLe 2 0),
   writeTxn (.setup m) m 0x182 (bytesLe 2 wdt),
   writeTxn (.setup m) m 0x184 (bytesLe 2 (s.fld F.SWP_BAL_TIME_SETTLE)),
   writeTxn (.setup m) m 0x18B (bytesLe 1 (s.fld F.SWP_OW_CFG_OW_TIME)),
   writeTxn (.setup m) m 0x18C (bytesLe 2 burst),
   writeTxn (.setup m) m 0x1D0 (bytesLe 3 (s.fld (F.PRT_S_OV_CODE p)) ++ bytesLe 3 (s.fld (F.PRT_S_UV_CODE p)) ++ bytesLe 2 (Config.sleepOtCode ot)),
   writeTxn (.setup m) m 0x20 (bytesLe 2 0xFFFF)]

/-- A step that cannot finish ends enumeration: nothing more is sent for it (R146). -/
def State.enumStop (s : State) (p : Nat) : State :=
  let x := s.port p
  s.setPort p { x with mgmt := [], enumStep := 6 }

/-- A monitor has taken an address (R146): its UID is stored and it is opened. -/
def State.enumTaken (s : State) (p a : Nat) (fromB : Bool) (data : List Byte) : State :=
  if (leAt data 8 1).testBit 0 then
    let s := s.put (F.DLK_P_STAT_ORIENT_ERR p) 1
    let x := s.port p
    (s.setPort p { x with orient := true }).enumStop p
  else
    let s := (s.wr (F.DLK_P_UID_LO_VALUE p a).addr (BitVec.ofNat 32 (leAt data 0 4))).wr (F.DLK_P_UID_HI_VALUE p a).addr (BitVec.ofNat 32 (leAt data 4 4))
    let s := s.bump (F.DLK_P_STAT_FOUND p)
    let s := if fromB then s.bump (F.DLK_P_STAT_B_CNT p) else s.bump (F.DLK_P_STAT_A_CNT p)
    let x := s.port p
    let one : BitVec 32 := BitVec.ofNat 32 (2 ^ a)
    let x := { x with addressed := x.addressed ||| one,
                      reachA := if fromB then x.reachA else x.reachA ||| one,
                      reachB := if fromB then x.reachB ||| one else x.reachB }
    s.setPort p { x with mgmt := x.mgmt ++ [newTxn (.openMon a fromB) a 5 [] 1] }

/-- A monitor has been opened: the next ENUM, or after M31 a POLL from end A (R146 step 2). -/
def State.enumOpened (s : State) (p a : Nat) (fromB : Bool) (at4 : Nat) : State :=
  if fromB then s.enumNextB p
  else
    let x := s.port p
    if a + 1 < 32 then
      s.setPort p { x with enumA := a + 1, mgmt := x.mgmt ++ [newTxn (.enum (a + 1) false) (a + 1) 4 [] 9] }
    else (s.setPort p { x with enumA := 32, awaitPoll := true }).sendPoll p false at4

/-- An ENUM that no monitor took: from end A it reached end B and closes the ring, from end B it ends step 3 (R146). -/
def State.enumThrough (s : State) (p : Nat) (fromB : Bool) : State :=
  if fromB then s.enumStep4 p
  else
    let x := s.port p
    let s := s.put (F.DLK_P_STAT_B_CNT p) x.enumA
    (s.setPort p { x with closed := true }).enumStep4 p

/-- An ENUM that timed out: the ring is open; end B goes on, or step 3 ends (R146). -/
def State.enumTimedOut (s : State) (p : Nat) (fromB : Bool) : State :=
  if fromB then s.enumStep4 p else s.enumNextB p

/-- The POLL after M31 has come back (R146 step 2, R149). -/
def State.enumPollBack (s : State) (p : Nat) (r : PollBack) : State :=
  let x := { s.port p with awaitPoll := false }
  if r.opposite then
    ((s.put (F.DLK_P_STAT_B_CNT p) 32).setPort p { x with closed := true }).enumStep4 p
  else if r.echoed && r.unaddressed then
    ((s.put (F.DLK_P_STAT_OVERCOUNT p) 1).setPort p { x with overcount := true }).enumStop p
  else (s.setPort p x).enumNextB p

/-- No PING of step 4 waits or is outstanding. -/
def pingsDone (x : Port) : Bool :=
  (x.mgmt ++ x.outstanding).all fun t => match t.purpose with
    | .ping _ _ => false
    | _ => true

/-- One PING of step 4 has come back; the 16th of its monitor and end gives D, and the last PING of all leads to step 5 (R146, R147). -/
def State.pinged (s : State) (p m : Nat) (fromB : Bool) (roundTrip : Nat) : State :=
  let x := s.port p
  let i := 2 * m + bitN fromB
  let was := x.pings.getD i (0, 0)
  let s := s.setPort p { x with pings := setAt x.pings i (was.1 + roundTrip, was.2 + 1) }
  let s := if was.2 + 1 = 16 then s.storeDelay p m fromB (was.1 + roundTrip) else s
  if pingsDone (s.port p) && (s.port p).enumStep == 4 then s.enumStep5 p else s

/-- A PING of a repeated measurement has come back; the 16th gives D, which is stored and written to the monitor (R147, R164). -/
def State.remeasured (s : State) (p m : Nat) (fromB : Bool) (roundTrip : Nat) : State :=
  let x := s.port p
  let i := 2 * m + bitN fromB
  let was := x.pings.getD i (0, 0)
  let s := s.setPort p { x with pings := setAt x.pings i (was.1 + roundTrip, was.2 + 1) }
  if was.2 + 1 = 16 then
    let s := s.storeDelay p m fromB (was.1 + roundTrip)
    s.queueMgmt p (s.writeDelayTxn p m)
  else s

/-! D_max (R160). -/

/-- The D that counts for Mm: that of the end whose APERTURE reaches it. -/
def State.apertureDelay (s : State) (p m : Nat) : Nat :=
  if s.portState p == portRing then s.delayOf p m false
  else if (s.port p).reachA.getLsbD m then s.delayOf p m false else s.delayOf p m true

/-- D_max over every monitor of every declared port, recomputed (R160). -/
def State.recomputeLead (s : State) : State :=
  let ds := (List.range 8).flatMap fun p =>
    if s.declared p then (List.range (s.monCount p)).map (fun m => s.apertureDelay p m) else []
  { s with swp := { s.swp with dMax := ds.foldl max 0 } }

end Sys2Proof.Machine
end

