-- ==== Sys2Proof/Machine/Swp.lean ====
section
/-! DEFINITION. Swp.lean: the sweep sequencer (R159 to R192): sweeps, result blocks, marks, limit flags, balancing, diagnostics, open-wire tests, bursts; and the delivery of transaction results to their originators (R142). -/
namespace Sys2Proof.Machine

open Sys2Proof

/-- Monitor m of string p as the sequencer knows it. -/
def State.mon (s : State) (p m : Nat) : Mon := s.swp.mons.getD (32 * p + m) Mon.reset

/-- Replace a monitor's record. -/
def State.setMon (s : State) (p m : Nat) (x : Mon) : State :=
  { s with swp := { s.swp with mons := setAt s.swp.mons (32 * p + m) x } }

/-- Cell code, 25 µV units, and tags of cell c in a block of 3-byte cell results (R192). -/
def cellResult (data : List Byte) (c : Nat) : Nat := leAt data (3 * c) 3

/-- The absolute value of an integer, as a natural number. -/
def absI (i : Int) : Nat := i.natAbs

/-! Marks. -/

/-- A line next to cell c is in the mask: W_c or W_(c+1) (R190). -/
def nextToLine (mask : BitVec 17) (c : Nat) : Bool := mask.getLsbD c || mask.getLsbD (c + 1)

/-- The confirmed open lines of a monitor (SWP_OWLk). -/
def State.openLines (s : State) (p m : Nat) : BitVec 17 := BitVec.ofNat 17 (s.fld (F.SWP_OWL_LINES (32 * p + m)))

/-- The cell is excluded from limit checks: marked OW_CONF, or next to a line being sunk (R171). -/
def State.limitExcluded (s : State) (p m c : Nat) : Bool :=
  nextToLine (s.openLines p m) c || nextToLine (s.mon p m).sunk c

/-- String p has a confirmed open line (R172). -/
def State.senseLost (s : State) (p : Nat) : Bool := (List.range 32).any (fun m => s.openLines p m != 0)

/-- String p has a confirmed diagnostic fault (R186). -/
def State.diagFault (s : State) (p : Nat) : Bool := (List.range 32).any (fun m => (s.mon p m).diagConfirmed)

/-! Result blocks (R168). -/

/-- The sweep deadline: the aperture instant plus SWP_DEADLINE (R165). -/
def State.deadline (s : State) (w : Sweep) : Nat := w.tc.toNat + 250 * s.fld F.SWP_DEADLINE_US

/-- A block delivered now is delivered before the deadline (R165, R168). -/
def State.sweepOpen (s : State) (w : Sweep) (tc : Tc) : Bool := !w.closed && decide (tc.toNat < s.deadline w)

/-- The read of a monitor has ended DONE before the deadline of its sweep (R166). -/
def State.markRead (s : State) (p m : Nat) (epoch : Word) (tc : Tc) : State :=
  match s.swp.sweep with
  | none => s
  | some w =>
    if w.epoch == epoch && s.sweepOpen w tc then
      { s with swp := { s.swp with sweep := some { w with
        read := setAt w.read p (w.read.getD p 0 ||| BitVec.ofNat 32 (2 ^ m))
        order := w.order ++ [32 * p + m] } } }
    else s

/-- RESULT_BLOCK_ACCEPT: the block read for the sweep's epoch is used, and its cells, stack, bleed tags and temperature code enter the assembly (R168, R169, R173). -/
def State.acceptBlock (s : State) (p m : Nat) (epoch : Word) (data : List Byte) (tc : Tc) : State :=
  match s.swp.sweep with
  | none => s
  | some w =>
    let status := leAt data 0x34 1
    let good := w.epoch == epoch && s.sweepOpen w tc && status.testBit 0 && !status.testBit 1 &&
      leAt data 0x33 1 == w.epoch.toNat % 256
    if good then
      let s := s.setMon p m { s.mon p m with status := BitVec.ofNat 8 status }
      let used := w.used.getD p 0 ||| BitVec.ofNat 32 (2 ^ m)
      let s := { s with swp := { s.swp with sweep := some { w with used := setAt w.used p used } } }
      let s := forUpTo 16 (fun c s =>
        if s.cellDeclared p m c then
          let g := cellIndex p m c
          let v := cellResult data c
          (((s.putAsm (F.SWP_V_CODE g) (v % 2 ^ 18)).putAsm (F.SWP_V_SETTLE g) (v / 2 ^ 18)).putAsm (F.SWP_V_BLEED g) (v / 2 ^ 19)).putAsm (F.SWP_V_OWT g) (v / 2 ^ 20)
        else s) s
      let s := s.putAsm (F.SWP_STACK_VOLT (32 * p + m)) (leAt data 0x30 3)
      let n := leAt data 0x35 1
      let t := n % 8
      if n.testBit 3 && (s.ntcMask p m).testBit t then
        match s.ntcTemp p (leAt data 0x36 2) with
        | some x =>
          let h := pointIndex p m t
          { s with swp := { s.swp with lastTemp := s.swp.lastTemp.set h (BitVec.ofNat 32 (code 16 x + 1)),
                                       tempAge := s.swp.tempAge.set h 0x80#8 } }
        | none => s
      else s
    else s

/-! Balancing (R174 to R181). -/

/-- The cells that bleed: the first `n` of the candidates, highest voltage first, among equals the lower c (R177). -/
def chooseBleed : Nat → List (Nat × Nat) → BitVec 16 → BitVec 16
  | 0, _, acc => acc
  | n + 1, l, acc =>
    match l.foldl (fun (b : Option (Nat × Nat)) x => match b with
        | none => some x
        | some y => if y.2 < x.2 then some x else some y) none with
    | none => acc
    | some x => chooseBleed n (l.filter (fun y => y.1 != x.1)) (acc ||| BitVec.ofNat 16 (2 ^ x.1))

/-- The fresh, unmarked cell readings of a monitor in the assembly: cell and code (R177). -/
def State.balReadings (s : State) (p m : Nat) : List (Nat × Nat) :=
  (List.range 16).filterMap fun c =>
    let g := cellIndex p m c
    if s.cellDeclared p m c && s.fldAsm (F.SWP_V_STALE g) == 0 && s.fldAsm (F.SWP_V_OW_CONF g) == 0 && s.fldAsm (F.SWP_V_OW_SUSPECT g) == 0
    then some (c, s.fldAsm (F.SWP_V_CODE g)) else none

/-- AUTO_BALANCE_MASK of one string: each monitor's mask recomputed from the candidate cells (R177); 1 mV is 40 codes. -/
def State.autoMask (s : State) (p : Nat) (m : Nat) : BitVec 16 :=
  if s.fldAsm (F.SWP_LIMIT_FLAGS p) / 16 != 0 then 0
  else
    let all := (List.range 32).flatMap (fun m => s.balReadings p m)
    match all with
    | [] => 0
    | r :: rs =>
      let vmin := rs.foldl (fun a x => min a x.2) r.2
      let force := (s.mon p m).force
      let cand := (s.balReadings p m).filter fun x =>
        let d := x.2 - vmin
        if force.getLsbD x.1 then decide (40 * s.fld F.SWP_BAL_CFG_BAL_OFF < d) else decide (40 * s.fld F.SWP_BAL_CFG_BAL_ON ≤ d)
      chooseBleed (s.fld F.SWP_BAL_CFG_BAL_MAX) cand 0

/-- The mask that SWP_BAL_CFG.MODE gives a monitor (R176). -/
def State.modeMask (s : State) (p m : Nat) : BitVec 16 :=
  match s.fld F.SWP_BAL_CFG_MODE with
  | 0 => 0
  | 1 => (s.rd (0x50800 + 4 * (16 * p + m / 2))).extractLsb' (16 * (m % 2)) 16
  | _ => s.autoMask p m

/-- A monitor's wanted mask; a change begins to wait (R179). -/
def State.wantMask (s : State) (p m : Nat) (mask : BitVec 16) (tc : Tc) : State :=
  let x := s.mon p m
  if x.want == mask then s else s.setMon p m { x with want := mask, changedTc := tc }

/-- A BAL_MASK write to the monitor, of a given mask or of any, waits or is outstanding. -/
def balancePending (x : Port) (m : Nat) (mask : Option (BitVec 16)) : Bool :=
  (allTxns x).any fun t => match t.purpose with
    | .balance n v => n == m && mask.getD v == v
    | _ => false

/-- The two BAL_MASK writes that one end gets in a sweep: changed masks first, the longest wait among them first, then the masks written longest ago (R179). DESIGN CHOICE (log entry 169): every sweep uses both, so that a mask is written again before WDT / 4 has passed, not at the first sweep after it. A write that is still on its way is not queued a second time. -/
def State.balanceFor (s : State) (p : Nat) (endB : Bool) : List Nat :=
  let ms := (List.range (s.monCount p)).filter (fun m => (s.port p).addressed.getLsbD m && s.servingEnd p m == some endB)
  let changed := ms.filter (fun m => (s.mon p m).want != (s.mon p m).force && !balancePending (s.port p) m (some (s.mon p m).want))
  let due := ms.filter (fun m => (s.mon p m).want == (s.mon p m).force && !balancePending (s.port p) m none)
  let byWait := fun (l : List Nat) (f : Nat → Nat) => l.mergeSort (fun a b => decide (f a ≤ f b))
  (byWait changed (fun m => (s.mon p m).changedTc.toNat) ++ byWait due (fun m => (s.mon p m).writtenTc.toNat)).take 2

/-! Reads of a sweep (R166). -/

/-- The result reads of one end: the monitors the previous sweep failed to read first, each group in rising hop count (R166). -/
def State.sweepReads (s : State) (p : Nat) (endB : Bool) (epoch : Word) : List Txn :=
  let ms := (List.range (s.monCount p)).filter (fun m => (s.port p).addressed.getLsbD m && s.servingEnd p m == some endB)
  let ms := if endB then ms.reverse else ms
  let ms := ms.filter (fun m => (s.mon p m).missed) ++ ms.filter (fun m => !(s.mon p m).missed)
  ms.map (fun m => readTxn (.result m epoch) m 0x100 60)

/-! Diagnostics (R185 to R189). -/

/-- The lines a step sinks (R185). -/
def stepLines (step : Nat) : BitVec 17 := if step == 1 then 0x15555#17 else 0x0AAAA#17

/-- The write that starts a step: DIAG_ARM for CROSS, the lines and OW_START for a sink; none for STATUS (R185, R190, R192). -/
def diagStartTxn (d : Diag) : List Txn :=
  match d.step with
  | 0 => [writeTxn (.diagStart d.mon) d.mon 0x186 [1#8]]
  | 3 => []
  | _ => [writeTxn (.diagStart d.mon) d.mon 0x186 ([2#8, 0#8] ++ bytesLe 3 d.lines.toNat)]

/-- The diagnostic read of a step, part by part (R185): DIAG_CELL, REF_CHK and DIAG_SEQ; OW_RESULT and OW_STAT; LINK, ALERT_CAUSE, BAL_MASK to BURST_CFG, the sleep thresholds (R192). -/
def diagReadTxn (d : Diag) : Txn :=
  match d.step with
  | 0 => readTxn (.diagRead d.mon 0) d.mon 0x140 56
  | 3 =>
    match d.part with
    | 0 => readTxn (.diagRead d.mon 0) d.mon 0x08 2
    | 1 => readTxn (.diagRead d.mon 1) d.mon 0x20 2
    | 2 => readTxn (.diagRead d.mon 2) d.mon 0x180 14
    | _ => readTxn (.diagRead d.mon 3) d.mon 0x1D0 8
  | _ => readTxn (.diagRead d.mon 0) d.mon 0x190 49

/-- The rotation's next position, absent monitors skipped; the step taken last counts on from `fuel` tries. -/
def State.nextPos (s : State) (p : Nat) (m step : Nat) : Nat × Nat :=
  if step < 3 then (m, step + 1) else (if m + 1 < s.monCount p then m + 1 else 0, 0)

/-- Skip the steps of absent monitors (R185). -/
def State.skipAbsent (s : State) (p : Nat) : Nat → Nat × Nat → Nat × Nat
  | 0, pos => pos
  | fuel + 1, pos =>
    if (s.port p).addressed.getLsbD pos.1 then pos
    else State.skipAbsent s p fuel (if pos.1 + 1 < s.monCount p then pos.1 + 1 else 0, 0)

/-- A step starts on the port: its start write is queued; a sink marks its lines (R185, R190). -/
def State.startDiag (s : State) (p : Nat) (d : Diag) (tc : Tc) : State :=
  let x := s.port p
  let s := s.setPort p { x with diag := some { d with startTc := tc, armed := d.step == 3 }, sinceStep := 0,
                                queue := x.queue ++ diagStartTxn d }
  if d.step == 1 ∨ d.step == 2 then s.setMon p d.mon { s.mon p d.mon with sunk := d.lines } else s

/-- DIAG_STEP_START at a notice: a step out of rotation first, otherwise the rotating step once DIAG_EVERY sweeps have passed since the previous one started and it has ended (R185 to R188). -/
def State.diagAtNotice (s : State) (p : Nat) (tc : Tc) : State :=
  let st := s.portState p
  if !(st == portRing || st == portSplit) then s
  else
    let x := { s.port p with sinceStep := (s.port p).sinceStep + 1 }
    let s := s.setPort p x
    match x.diag with
    | some _ => s
    | none =>
      match x.diagQueue with
      | d :: rest => (s.setPort p { x with diagQueue := rest }).startDiag p d tc
      | [] =>
        if s.flag F.SWP_CTRL_DIAG_EN && x.addressed != 0 && decide (s.fld F.SWP_DIAG_CFG_DIAG_EVERY ≤ x.sinceStep) then
          let pos := s.skipAbsent p 32 (s.fld (F.SWP_DIAG_POS_MON p), s.fld (F.SWP_DIAG_POS_STEP p))
          let s := (s.put (F.SWP_DIAG_POS_MON p) pos.1).put (F.SWP_DIAG_POS_STEP p) pos.2
          s.startDiag p { mon := pos.1, step := pos.2, lines := if pos.2 == 1 ∨ pos.2 == 2 then stepLines pos.2 else 0,
                          rotating := true, armed := false, startTc := tc, part := 0, before := [] } tc
        else s

/-- A step has ended: the rotation moves on if it was a rotating step; nothing stays sunk. -/
def State.endDiag (s : State) (p : Nat) (d : Diag) : State :=
  let x := s.port p
  let s := s.setPort p { x with diag := none }
  let s := s.setMon p d.mon { s.mon p d.mon with sunk := 0 }
  if d.rotating then
    let pos := s.nextPos p d.mon d.step
    (s.put (F.SWP_DIAG_POS_MON p) pos.1).put (F.SWP_DIAG_POS_STEP p) pos.2
  else s

/-- A CROSS step on a monitor, out of rotation (R186, R187). -/
def crossNow (m : Nat) : Diag :=
  { mon := m, step := 0, lines := 0, rotating := false, armed := false, startTc := 0, part := 0, before := [] }

/-- Put a step out of rotation first in line. -/
def State.diagFirst (s : State) (p : Nat) (d : Diag) : State :=
  let x := s.port p
  s.setPort p { x with diagQueue := d :: x.diagQueue }

/-- The primary reading of a cell at the sweep in hand, else the last fresh one. -/
def State.primaryCode (s : State) (p m c : Nat) : Nat :=
  let g := cellIndex p m c
  let used := match s.swp.sweep with | some w => (w.used.getD p 0).getLsbD m | none => false
  if used then s.fldAsm (F.SWP_V_CODE g) else (s.swp.lastCode.get g).toNat

/-- A CROSS step on the monitor is under way or waits out of rotation. -/
def crossPending (x : Port) (m : Nat) : Bool :=
  (x.diag.toList ++ x.diagQueue).any fun d => d.mon == m && d.step == 0

/-- Put a step out of rotation last in line. -/
def State.diagLast (s : State) (p : Nat) (d : Diag) : State :=
  let x := s.port p
  s.setPort p { x with diagQueue := x.diagQueue ++ [d] }

/-- A sink test on one line, out of rotation (R190). -/
def sinkNow (m k : Nat) : Diag :=
  { mon := m, step := 1, lines := BitVec.ofNat 17 (2 ^ k), rotating := false, armed := false, startTc := 0, part := 0, before := [] }

/-- Four times the corrected change of a cell's reading from its last fresh one, in codes: 4 ΔV_c - ΔV_stack (R190). -/
def State.corrected (s : State) (p m c : Nat) : Int :=
  let g := cellIndex p m c
  4 * ((s.fldAsm (F.SWP_V_CODE g) : Int) - ((s.swp.lastCode.get g).toNat : Int)) -
    ((s.fldAsm (F.SWP_STACK_VOLT (32 * p + m)) : Int) - ((s.mon p m).stackLast : Int))

/-- The sum of a monitor's cells differs from its stack voltage by more than SUM_TOL (R187); 1 mV is 40 codes. -/
def State.sumDiffers (s : State) (p m : Nat) : Bool :=
  let sum := (List.range 16).foldl (fun a c => if s.cellDeclared p m c then a + s.fldAsm (F.SWP_V_CODE (cellIndex p m c)) else a) 0
  decide (40 * s.fld F.SWP_OW_CFG_SUM_TOL < absI ((sum : Int) - 4 * (s.fldAsm (F.SWP_STACK_VOLT (32 * p + m)) : Int)))

/-- Line k, 1 to 15, is suspect: the readings beside it split (R190). -/
def State.splitAt (s : State) (p m k : Nat) : Bool :=
  let a := s.corrected p m (k - 1)
  let b := s.corrected p m k
  s.cellDeclared p m (k - 1) && s.cellDeclared p m k &&
  decide (160 * s.fld F.SWP_OW_CFG_SPLIT_MIN ≤ absI a) && decide (a * b < 0) &&
  decide (absI (a + b) ≤ 160 * s.fld F.SWP_OW_CFG_SUM_TOL)

/-- The lines that the readings of a used block make suspect, and whether a sum mismatch remains (R187, R190). -/
def State.suspects (s : State) (p m : Nat) : BitVec 17 × Bool :=
  let set := fun (v : BitVec 17) (k : Nat) => v ||| BitVec.ofNat 17 (2 ^ k)
  let inner := ((List.range 16).drop 1).foldl (fun (v : BitVec 17) k => if s.splitAt p m k then set v k else v) 0
  let bad := s.sumDiffers p m && inner == 0
  let outer := fun (c : Nat) => bad && s.cellDeclared p m c && decide (160 * s.fld F.SWP_OW_CFG_SPLIT_MIN ≤ absI (s.corrected p m c))
  let v := if outer 0 then set inner 0 else inner
  (if outer 15 then set v 16 else v, bad)

/-- The split and sum checks of a block just used: new suspect lines get a sink test each (R190), a sum mismatch a CROSS step ahead of every step that waits, unless one on that monitor is on its way (R187). DESIGN CHOICE (log entry 170): a line that is suspect already, as after an unexplained split (R191), gets no further sink test out of rotation when it splits again. -/
def State.splitCheck (s : State) (p m : Nat) : State :=
  let used := match s.swp.sweep with
    | some w => !w.closed && (w.used.getD p 0).getLsbD m
    | none => false
  let x := s.mon p m
  if !used then s
  else
    let r := if x.seen then s.suspects p m else (0, s.sumDiffers p m)
    let fresh := r.1 &&& ~~~x.suspect &&& ~~~(s.openLines p m)
    let s := s.setMon p m { x with suspect := x.suspect ||| fresh, sumBad := r.2 }
    let s := forUpTo 17 (fun k s => if fresh.getLsbD k then s.diagLast p (sinkNow m k) else s) s
    if r.2 && !crossPending (s.port p) m then s.diagFirst p (crossNow m) else s

/-- Which hold DIAG_SEQ names (R192): the sweep in hand (true) or the one of the latest snapshot. -/
def State.armedHold (s : State) (seq : Nat) : Option Bool :=
  let inHand := match s.swp.sweep with
    | some w => w.epoch.toNat % 256 == seq
    | none => false
  if inHand then some true else if s.latest.epoch.toNat % 256 == seq then some false else none

/-- V_p of a cell at the armed hold (R185). -/
def State.armedCode (s : State) (inHand : Bool) (p m c : Nat) : Nat :=
  if inHand then s.primaryCode p m c else s.fldSnap (F.SWP_V_CODE (cellIndex p m c))

/-- The cells that fail a CROSS step: |V_p − V_d| above DIAG_TOL (R185); 1 mV is 40 codes. -/
def State.crossFailed (s : State) (inHand : Bool) (p m : Nat) (data : List Byte) : BitVec 16 :=
  (List.range 16).foldl (fun (acc : BitVec 16) c =>
    let d := absI ((s.armedCode inHand p m c : Int) - (cellResult data c % 2 ^ 18 : Nat))
    if s.cellDeclared p m c && decide (40 * s.fld F.SWP_DIAG_CFG_DIAG_TOL < d) then acc ||| BitVec.ofNat 16 (2 ^ c) else acc) 0

/-- Both reference readings lie within REF_TOL of 2.5000 V, which is 100,000 codes (R185). -/
def State.refsGood (s : State) (data : List Byte) : Bool :=
  [0x30, 0x33].all fun o => decide (absI ((leAt data o 3 % 2 ^ 18 : Nat) - (100000 : Int)) ≤ 10 * s.fld F.SWP_DIAG_CFG_REF_TOL)

/-- DIAG_RESULT of a CROSS step at its armed hold: a failure makes cells stale and repeats the step at once, a second consecutive one confirms the fault, a pass ends the staleness (R186). -/
def State.crossVerdict (s : State) (inHand : Bool) (p : Nat) (d : Diag) (data : List Byte) : State :=
  let x := s.mon p d.mon
  let failed := s.crossFailed inHand p d.mon data
  let refs := s.refsGood data
  if failed == 0 && refs then
    s.setMon p d.mon { x with diagStale := 0, crossFails := 0, diagConfirmed := false }
  else
    let stale := if refs then x.diagStale ||| failed else 0xFFFF#16
    if x.crossFails = 0 then
      (s.setMon p d.mon { x with diagStale := stale, crossFails := 1 }).diagFirst p (crossNow d.mon)
    else
      (s.setMon p d.mon { x with diagStale := stale, crossFails := x.crossFails + 1, diagConfirmed := true }).eventIf (!x.diagConfirmed) Ev.SWP_DIAG_FAIL

/-- The CROSS read has come back. A DIAG_SEQ of neither the sweep in hand nor the latest snapshot leaves no V_p to compare with, and the step ends without a result (log entry 171). -/
def State.crossResult (s : State) (p : Nat) (d : Diag) (data : List Byte) : State :=
  let s := s.endDiag p d
  match s.armedHold (leAt data 0x36 1) with
  | some inHand => s.crossVerdict inHand p d data
  | none => s

/-- Line k collapses: the reading of its neighbouring cell has moved by OW_DELTA (10 mV units, 400 codes each) from the last reading before the sink (R190). -/
def State.collapses (s : State) (d : Diag) (data : List Byte) (k : Nat) : Bool :=
  let c := k - 1
  decide (400 * s.fld F.SWP_OW_CFG_OW_DELTA ≤ absI ((cellResult data c % 2 ^ 18 : Nat) - (d.before.getD c 0 : Int)))

/-- OPEN_WIRE_VERDICT on one line (R191); a line that is confirmed already and collapses again stays confirmed, without a new event. -/
def State.lineVerdict (s : State) (p : Nat) (d : Diag) (data : List Byte) (k : Nat) : State :=
  if !d.lines.getLsbD k then s
  else
    let m := d.mon
    let x := s.mon p m
    let one : BitVec 17 := BitVec.ofNat 17 (2 ^ k)
    let i := 32 * p + m
    if s.collapses d data k then
      let was := (s.openLines p m).getLsbD k
      let s := s.putBit (F.SWP_OWL_LINES i) k true
      let s := s.setMon p m { x with suspect := x.suspect &&& ~~~one, passedOnce := x.passedOnce &&& ~~~one }
      (s.eventIf (!was) Ev.SWP_OW_CONF).recCountIf (!was) cntOpenWire
    else if d.rotating then
      if (s.openLines p m).getLsbD k then
        if x.passedOnce.getLsbD k then
          (s.putBit (F.SWP_OWL_LINES i) k false).setMon p m { x with passedOnce := x.passedOnce &&& ~~~one }
        else s.setMon p m { x with passedOnce := x.passedOnce ||| one }
      else s.setMon p m { x with suspect := x.suspect &&& ~~~one }
    else s.event Ev.SWP_SPLIT_UNEX

/-- The set-up registers BAL_MASK to BURST_CFG of Mm hold the values written (R185 step 3). -/
def State.setupHolds (s : State) (p m : Nat) (data : List Byte) : Bool :=
  leAt data 0 2 == (s.mon p m).force.toNat &&
  leAt data 2 2 == 10 * s.fld F.SWP_BAL_CFG_WDT &&
  leAt data 4 2 == s.fld F.SWP_BAL_TIME_SETTLE &&
  leAt data 11 1 == s.fld F.SWP_OW_CFG_OW_TIME &&
  leAt data 12 2 == s.burstCfg

/-- The sleep thresholds hold the values written (R185 step 3, R192). -/
def State.sleepHolds (s : State) (p : Nat) (data : List Byte) : Bool :=
  leAt data 0 3 == s.fld (F.PRT_S_OV_CODE p) && leAt data 3 3 == s.fld (F.PRT_S_UV_CODE p) &&
  leAt data 6 2 == Config.sleepOtCode (s.fld (F.PRT_S_TEMP_OT p)) % 65536

/-- The read of a diagnostic step has come back (R185, R186, R191). OW_STAT (R192): a sink not done yet is read again; one that ended early gives no verdict (log entry 171). -/
def State.diagResult (s : State) (p : Nat) (d : Diag) (part : Nat) (data : List Byte) : State :=
  match d.step with
  | 0 => s.crossResult p d data
  | 3 =>
    if part < 2 || part == 2 && s.setupHolds p d.mon data then
      let x := s.port p
      s.setPort p { x with diag := some { d with part := part + 1 } }
    else
      let s := s.endDiag p d
      if part == 3 && s.sleepHolds p data then s
      else (s.setupTxns p d.mon).foldl (fun s t => s.queueTxn p t) s
  | _ =>
    if !(leAt data 0x30 1).testBit 0 then s
    else if (leAt data 0x30 1).testBit 1 then s.endDiag p d
    else (forUpTo 17 (fun k s => s.lineVerdict p d data k) s).endDiag p d

/-! Bursts (R183, R184). -/

/-- The burst reads of every reachable monitor: 52 READs each (R184). They are kept apart from the queue and go once the sweep reads are done on their end, so none of them precedes the reads of a later sweep. -/
def burstReads (x : Port) (n : Nat) : List Txn :=
  (List.range n).flatMap fun m =>
    if x.addressed.getLsbD m && (x.reachA.getLsbD m || x.reachB.getLsbD m) then
      (List.range 52).map fun i => readTxn (.burst m i) m (0x400 + 60 * i) (if i < 51 then 60 else 12)
    else []

/-- No sweep read waits or is outstanding on the end (R164, R184). -/
def State.sweepReadsDone (s : State) (p : Nat) (endB : Bool) : Bool :=
  let x := s.port p
  let isRead := fun (t : Txn) => match t.purpose with
    | .result _ _ => true
    | _ => false
  x.outstanding.all (fun t => !isRead t || t.endB != endB) && x.queue.all (fun t => !isRead t || s.txnEnd p t != some endB)

/-- Bytes of one burst READ are kept; the 52nd that is done completes the monitor's burst (R184). -/
def State.storeBurst (s : State) (p m i : Nat) (data : List Byte) : State :=
  let x := s.port p
  if x.burstEpoch.isNone then s else
  let base := 3072 * m + 60 * i
  let bytes := (List.range data.length).foldl (fun (c : Cells 8) j => c.set (base + j) (data.getD j 0)) x.burstData
  let n := x.burstParts.get m + 1
  s.setPort p { x with burstData := bytes, burstParts := x.burstParts.set m n,
                       burstRead := if n = 52 then x.burstRead ||| BitVec.ofNat 32 (2 ^ m) else x.burstRead }

/-! Delivery of results (R142). -/

/-- Deliver the result of a transaction of the enumeration (R146). -/
def State.deliverEnum (s : State) (p : Nat) (t : Txn) (r : TxnResult) (data : List Byte) (roundTrip : Nat) (tc : Tc) : State :=
  match t.purpose, r with
  | .enum a b, .done => s.enumTaken p a b data
  | .enum _ b, .noTarget => s.enumThrough p b
  | .enum _ b, .timeout => s.enumTimedOut p b
  | .openMon a b, .done => s.enumOpened p a b (tcQuarter tc)
  | .ping m b, .done => s.pinged p m b roundTrip
  | .writeDelay _, .done => s
  | _, .abandoned => s
  | _, _ => s.enumStop p

/-- Deliver the result of a transaction to its originator: the link management, or the sweep sequencer (R142). A start write or a read of a diagnostic step that does not end DONE ends the step without a result, and the rotation goes on. DESIGN CHOICE (log entry 172): the spec does not say what follows. -/
def State.deliver (s : State) (p : Nat) (t : Txn) (r : TxnResult) (data : List Byte) (roundTrip : Nat) (tc : Tc) : State :=
  match t.purpose, r with
  | .enum _ _, _ | .openMon _ _, _ | .ping _ _, _ | .writeDelay _, _ =>
    if s.portState p == portEnum then s.deliverEnum p t r data roundTrip tc else s
  | .remeasure m b, .done => s.remeasured p m b roundTrip
  | .result m e, .done => ((s.markRead p m e tc).acceptBlock p m e (data.drop 4) tc).splitCheck p m
  | .diagStart _, .done =>
    match (s.port p).diag with
    | some d => s.setPort p { s.port p with diag := some { d with
        armed := true, startTc := tc, before := (List.range 16).map fun c => (s.swp.lastCode.get (cellIndex p d.mon c)).toNat } }
    | none => s
  | .diagStart _, _ =>
    match (s.port p).diag with
    | some d => s.endDiag p d
    | none => s
  | .diagRead _ part, .done =>
    match (s.port p).diag with
    | some d => s.diagResult p d part (data.drop 4)
    | none => s
  | .diagRead _ _, _ =>
    match (s.port p).diag with
    | some d => s.endDiag p d
    | none => s
  | .balance m mask, .done => s.setMon p m { s.mon p m with force := mask, writtenTc := tc, forceLog := (tc, mask) :: (s.mon p m).forceLog }
  | .burst m i, .done => s.storeBurst p m i (data.drop 4)
  | .alertCause m, .done => s.setMon p m { s.mon p m with alertCause := BitVec.ofNat 16 (leAt data 4 2) }
  | _, _ => s

/-- A transaction ends: its tag is free, failures are counted, and the result is delivered (R137, R142). -/
def State.endTxn (s : State) (p : Nat) (t : Txn) (r : TxnResult) (data : List Byte) (roundTrip : Nat) (tc : Tc) : State :=
  let s := s.dropTxn p t.tag
  let s := if r == .timeout || r == .noTarget then s.bump (F.DLK_P_CNT_FAIL_FAILED p) else s
  s.deliver p t r data roundTrip tc

/-- Every outstanding and waiting transaction of a port ends with one result (R143, R148, R150). -/
def State.endAll (s : State) (p : Nat) (r : TxnResult) : State :=
  let ts := allTxns (s.port p)
  let s := s.clearTxns p
  ts.foldl (fun s t => s.deliver p t r [] 0 0) s

/-! The notice and the broadcast. -/

/-- The sequencer takes sweeps: enabled, with an image that declares ports. -/
def State.sweepsOn (s : State) : Bool := s.flag F.SWP_CTRL_EN

/-- The effective lead in 4 ns units: the larger of LEAD and D_max + 1 µs, rounded up to 4 ns, at most 15 µs (R160). -/
def State.effectiveLead (s : State) : Nat :=
  min 3750 (max (250 * s.fld F.SWP_CFG_LEAD) ((s.swp.dMax + 4000 + 15) / 16))

/-- The port is served: in RING or SPLIT. -/
def State.served (s : State) (p : Nat) : Bool := s.portState p == portRing || s.portState p == portSplit

/-- The epoch after one: after 0xFFFF_FFFF comes 1 (R30). -/
def nextEpoch (e : Word) : Word := if e = 0xFFFFFFFF#32 then 1 else e + 1

/-- A port's BURST option: a trigger at least 1 µs before the issue freezes the buffers at this hold (R183). -/
def State.burstOption (s : State) (p : Nat) (tc : Tc) : Bool :=
  s.flag F.SWP_CTRL_BURST_EN && (s.port p).burstEpoch.isNone &&
  match (s.port p).burstTrig with
  | some t => decide (250 ≤ (tc - t).toNat)
  | none => false

/-- The APERTURE leaves the ends of one port: end A alone in RING, both ends in SPLIT (R159). -/
def State.apertureOn (s : State) (p : Nat) (tc : Tc) (lead seq : Nat) (hold burst : Bool) : State :=
  let payload := bytesLe 2 lead ++ bytesLe 1 seq ++ bytesLe 1 ((if hold then 1 else 0) + (if burst then 2 else 0))
  let send := fun (s : State) (b : Bool) => s.sendAperture p b payload (tcQuarter tc)
  if s.portState p == portRing then send s false else send (send s false) true

/-- The diagnostic read of the step under way waits or is outstanding. -/
def diagReading (x : Port) : Bool :=
  (allTxns x).any fun t => match t.purpose with
    | .diagRead _ _ => true
    | _ => false

/-- What the sequencer queues on a port for a sweep: the result reads of both ends, the diagnostic read, the balancing writes (R166). -/
def State.queueSweep (s : State) (p : Nat) (epoch : Word) (tc : Tc) : State :=
  let x := s.port p
  let reads := s.sweepReads p false epoch ++ s.sweepReads p true epoch
  let diag := match x.diag with
    | some d =>
      if d.armed && !diagReading x && (d.step == 0 || d.step == 3 || decide (25000 * s.fld F.SWP_OW_CFG_OW_TIME ≤ (tc - d.startTc).toNat)) then [diagReadTxn d] else []
    | none => []
  let bal := (s.balanceFor p false ++ s.balanceFor p true).map fun m =>
    writeTxn (.balance m (s.mon p m).want) m 0x180 (bytesLe 2 (s.mon p m).want.toNat)
  s.setPort p { x with queue := x.queue ++ reads ++ diag ++ bal }

/-- One served port at the broadcast: its frames, its burst freeze, its transactions. -/
def State.broadcastPort (s : State) (p : Nat) (tc hold : Tc) (lead : Nat) (epoch : Word) : State :=
  if !s.served p then s
  else
    let burst := s.burstOption p tc
    let s := s.apertureOn p tc lead (epoch.toNat % 256) true burst
    let s := if burst then
        s.setPort p { s.port p with burstTrig := none, burstEpoch := some epoch, burstTc := hold, burstAligned := s.aligned, burstRead := 0, bursts := burstReads (s.port p) (s.monCount p), burstData := [], burstParts := [] }
      else s
    s.queueSweep p epoch tc

/-! The meanings of the sequencer's commands. -/

/-- APERTURE_NOTICE (R120, R185): the firing is taken 16 µs after the notice; the lead in use is latched; diagnostic steps start. -/
def execApertureNotice (k : Fin 64) (tc : Tc) (s : State) : Host.Outcome State Fault Refusal :=
  match s.noticeAt k tc with
  | none => .next s
  | some p =>
    let lead := if s.sweepsOn then s.effectiveLead else s.fld F.SWP_LEAD_EFF_LEAD
    let s := s.noticed k p lead tc
    let s : State := if s.blockDormant 0x12 then s
      else { s with afe := { s.afe with aperture := s.afe.aperture.filter (fun t => decide (tc < t)) ++ [tc + 4000] } }
    if s.sweepsOn then
      let s := s.put F.SWP_LEAD_EFF_LEAD lead
      .next (forUpTo 8 (fun p s => s.diagAtNotice p tc) s)
    else .next s

/-- APERTURE_BROADCAST (R160): at the predicted aperture minus the effective lead every served port end sends the sampling APERTURE; the sweep begins. -/
def execApertureBroadcast (tc : Tc) (s : State) : Host.Outcome State Fault Refusal :=
  match s.phb.noticed.find? (fun x => x.1 == tc + BitVec.ofNat 64 x.2) with
  | none => .next s
  | some (hold, lead) =>
    if !s.phbOn then .next s else
    let s := { s with phb := { s.phb with noticed := s.phb.noticed.filter (fun x => x.1 != hold) } }
    if s.sweepsOn then
      let epoch := nextEpoch (s.rd 0x10004)
      let sweep : Sweep := { epoch, tc := hold, phase := s.phaseAt hold, aligned := s.aligned, used := List.replicate 8 0, read := List.replicate 8 0, order := [], closed := false }
      let s := { s with swp := { s.swp with sweep := some sweep }, assembling := { Snapshot.empty with epoch := epoch, tc := hold } }
      let s := (s.put F.SWP_STAT_BUSY 1).put F.SWP_STAT_RUN 1
      .next (forUpTo 8 (fun p s => s.broadcastPort p tc hold lead epoch) s)
    else .next s

/-- The pause marker: an APERTURE with HOLD 0 and lead 0, from every end that reaches a monitor (R174). -/
def State.balPause (s : State) (tc : Tc) : State :=
  let s : State := { s with swp := { s.swp with pauses := tc :: s.swp.pauses.filter (fun t => decide (s.latest.tc < t)) } }
  forUpTo 8 (fun p s =>
    if s.served p then
      let marker := bytesLe 2 0 ++ bytesLe 1 ((nextEpoch (s.rd 0x10004)).toNat % 256) ++ bytesLe 1 0
      let s := if (s.port p).reachA != 0 then s.sendAperture p false marker (tcQuarter tc) else s
      if (s.port p).reachB != 0 then s.sendAperture p true marker (tcQuarter tc) else s
    else s) s

/-- BAL_PAUSE (R118, R174). -/
def execBalPause (k : Fin 64) (tc : Tc) (s : State) : Host.Outcome State Fault Refusal :=
  if s.fires k 3 tc then
    let s := s.acted (firingKey k 3) tc
    .next (if s.sweepsOn then s.balPause tc else s)
  else .next s

/-- The order of the next sweep: each monitor whose read the sweep has not seen done by now (R166). -/
def State.noteMissed (s : State) (w : Sweep) (p : Nat) : State :=
  forUpTo (s.monCount p) (fun m s => s.setMon p m { s.mon p m with missed := !(w.read.getD p 0).getLsbD m }) s

/-- The sweep reads of a port that have not been issued are withdrawn; those outstanding complete (R165). -/
def State.dropReads (s : State) (p : Nat) : State :=
  let x := s.port p
  s.setPort p { x with queue := x.queue.filter (fun t => match t.purpose with
    | .result _ _ => false
    | _ => true) }

/-- SWEEP_DEADLINE (R165): at the aperture instant plus SWP_DEADLINE assembly closes; a position not delivered is stale; the reads not issued are withdrawn, and each monitor not read is kept for the next sweep's order (R166). -/
def execSweepDeadline (tc : Tc) (s : State) : Host.Outcome State Fault Refusal :=
  match s.swp.sweep with
  | none => .next s
  | some w =>
    if decide (tc.toNat < s.deadline w) then .next s
    else
      let s := { s with swp := { s.swp with sweep := some { w with closed := true } } }
      .next (forUpTo 8 (fun p s => (s.dropReads p).noteMissed w p) s)

/-- The bursts of a port are finished: the READs not issued are withdrawn, and BURST_CFG is written again, which re-arms the buffers (R184). -/
def State.rearmBurst (s : State) (p : Nat) : State :=
  let x := s.port p
  let ms := (List.range (s.monCount p)).filter (fun m => x.addressed.getLsbD m)
  s.setPort p { x with
    burstEpoch := none
    bursts := []
    queue := x.queue ++ ms.map (fun m => writeTxn (.burstArm m) m 0x18C (bytesLe 2 s.burstCfg)) }

end Sys2Proof.Machine
end

