-- ==== Sys2Proof/Machine/Afe.lean ====
section
/-! DEFINITION. Afe.lean: the module analog front end (R419 to R436, R515): current rounds, charge counting, burst buffers, window comparators, converter B and its housekeeping. -/
namespace Sys2Proof.Machine

open Sys2Proof

/-- The AFE is enabled and not dormant. -/
def State.afeOn (s : State) : Bool := s.flag F.AFE_CTRL_EN && !s.blockDormant 0x12

/-- Channel n of converter A beside its registers. -/
def State.chan (s : State) (n : Nat) : AfeChan := s.afe.chans.getD n AfeChan.reset

/-- Replace a channel's record. -/
def State.setChan (s : State) (n : Nat) (c : AfeChan) : State :=
  { s with afe := { s.afe with chans := setAt s.afe.chans n c } }

/-! Sensor map (R436). -/

/-- TYPE of the sensor of string n. -/
def State.senseType (s : State) (n : Nat) : Nat := s.img 3 (16 * n) 1
/-- The substitute is the last valid sample. -/
def State.senseHold (s : State) (n : Nat) : Bool := s.img 3 (16 * n + 1) 1 == 1
/-- SCALE, Q15.16 A/V. -/
def State.senseScale (s : State) (n : Nat) : Int := signed 32 (s.img 3 (16 * n + 4) 4)
/-- OFFSET, Q15.16 A. -/
def State.senseOffset (s : State) (n : Nat) : Int := signed 32 (s.img 3 (16 * n + 8) 4)

/-- The bounds of Q15.16. -/
def clamp32 (i : Int) : Int := clampI (-(2 ^ 31)) (2 ^ 31 - 1) i

/-- A code as a current, Q15.16 A: code × LSB × SCALE + OFFSET, rounded to nearest and saturated; the range is 10 V, or 5 V / G (R419, R422). -/
def currentOf (typ gain : Nat) (scale offset c : Int) : Int :=
  let volts : Int := if typ = 1 then 10 else 5
  let den : Nat := if typ = 1 then 32768 else 32768 * 2 ^ gain
  clamp32 (roundNear (c * volts * scale + offset * (den : Int)) den)

/-- The current of string n for a code at a gain. -/
def State.currentOf (s : State) (n gain : Nat) (c : Int) : Int :=
  Machine.currentOf (s.senseType n) gain (s.senseScale n) (s.senseOffset n) c

/-- The settings of the eight current channels: CFG, WIN_A and WIN_B of each (R425). -/
def State.afeSettings (s : State) : List Word := (List.range 24).map fun j => s.rd (0x120100 + 0x40 * (j / 3) + 4 * (j % 3))

/-- A setting of channel n as it was at a round's hold. -/
def AfeRound.fld (r : AfeRound) (n : Nat) (f : Field) : Nat := fieldOf (r.settings.getD (3 * n + f.addr % 0x40 / 4) 0) f.lo f.w

/-- What Q_CUM gains between two rounds D ticks apart: to nearest, ties away from zero (R424). -/
def chargeStep (a b : Int) (d : Nat) : Int := roundAway ((a + b) * (d : Int) * 256) 500000000

/-! Converter B (R429). -/

/-- The inputs that a group's MASK names: CH11 stands for the eight NTC inputs (R430). -/
def groupInputs (mask : Nat) : List Nat :=
  (List.range 8).flatMap fun i =>
    if mask.testBit i then (if i == 3 then (List.range 8).map (16 + ·) else [8 + i]) else []

/-- The inputs of the housekeeping sequence (R429). -/
def hkInputs : List Nat := (List.range 8).map (16 + ·) ++ [12, 13, 14, 15]

/-- A sequence before its first conversion. -/
def AfeSeq.start (g : Nat) (inputs : List Nat) : AfeSeq :=
  { group := g, inputs, sum := 0, count := 0, limit := false, results := [] }

/-- The lowest set bit of a group set. -/
def lowestGroup (v : BitVec 8) : Option Nat := (List.range 8).find? (fun g => v.getLsbD g)

/-- Begin the next conversion by priority: mains, groups in ascending order, housekeeping; after a move to another input the first conversion is discarded (R426, R429). -/
def State.startConversion (s : State) : State :=
  let a := s.afe
  let go := fun (a : Afe) (w : AfeWork) (i : Nat) =>
    ({ s with afe := { a with conv := some (w, i, a.lastInput != i), lastInput := i } } : State).put F.AFE_STAT_B_BUSY 1
  match a.conv with
  | some _ => s
  | none =>
    if !s.afeOn then s.put F.AFE_STAT_B_BUSY 0
    else if a.mainsDue then go a .mains 10
    else
      let a := match a.groupSeq, lowestGroup a.groupsDue with
        | none, some g => { a with groupSeq := some (AfeSeq.start g (groupInputs (s.fld (F.AFE_GRP_MASK g)))),
                                   groupsDue := a.groupsDue &&& ~~~(BitVec.ofNat 8 (2 ^ g)) }
        | _, _ => a
      match a.groupSeq with
      | some q => match q.inputs with
        | i :: _ => go a .group i
        | [] => { s with afe := { a with groupSeq := none } }
      | none =>
        let a := if a.hkDue && a.hkSeq.isNone then { a with hkDue := false, hkSeq := some (AfeSeq.start 0 hkInputs) } else a
        match a.hkSeq with
        | some q => match q.inputs with
          | i :: _ => go a .housekeeping i
          | [] => { s with afe := { a with hkSeq := none } }
        | none => s.put F.AFE_STAT_B_BUSY 0

/-- Trigger a group: a group already pending merges the trigger, and triggers on the same tick are one trigger (R429). The tick of a software trigger that is a command of its own is not among its operands (log entry 163). -/
def State.triggerGroup (s : State) (g : Nat) (t : Option Tc) : State :=
  if !s.afeOn || (t.isSome && s.afe.trigTc.getD g none == t) then s
  else
    let s : State := { s with afe := { s.afe with trigTc := setAt s.afe.trigTc g t } }
    if s.afe.groupsDue.getLsbD g then s.event Ev.AFE_MERGED
    else ({ s with afe := { s.afe with groupsDue := s.afe.groupsDue ||| BitVec.ofNat 8 (2 ^ g) } } : State).startConversion

/-! Current rounds. -/

/-- The mean window of REL mode is known: 8 preceding valid samples (R428). -/
def relInside (win : Nat) (prev : List Int) (x : Int) : Bool :=
  decide (10 * absI (8 * x - prev.foldl (· + ·) 0) ≤ 8 * win * 65536)

/-- A sample lies inside the window of string n as it was set at the round's hold (R428, R515). -/
def AfeRound.insideWindow (r : AfeRound) (n : Nat) (prev : List Int) (x : Int) : Bool :=
  if r.fld n (F.AFE_S_WIN_B_MODE n) == 1 then relInside (r.fld n (F.AFE_S_WIN_A_LO n)) prev x
  else decide (65536 * signed 16 (r.fld n (F.AFE_S_WIN_A_LO n)) ≤ x) && decide (x ≤ 65536 * signed 16 (r.fld n (F.AFE_S_WIN_A_HI n)))

/-- The burst trigger of a port: ignored while one is waiting or its burst is frozen or being read (R183, R184). -/
def State.burstTrigger (s : State) (n : Nat) (tc : Tc) : State :=
  let x := s.port n
  if s.bit F.SWP_BURST_CFG_TRIG n && s.flag F.SWP_CTRL_BURST_EN && x.burstEpoch.isNone && x.burstTrig.isNone then
    s.setPort n { x with burstTrig := some tc }
  else s

/-- A crossing: AFE_EVT.WIN, the burst trigger, the trigger group (R428). -/
def State.crossing (s : State) (r : AfeRound) (n : Nat) (tc : Tc) : State :=
  let s := (s.event Ev.AFE_WIN).burstTrigger n tc
  if r.fld n (F.AFE_S_WIN_B_GRP_EN n) == 1 then s.triggerGroup (r.fld n (F.AFE_S_WIN_B_GRP n)) (some tc) else s

/-- The window comparator tests one valid sample, unless it still ignores rounds (R428). -/
def State.compare (s : State) (r : AfeRound) (n : Nat) (x : Int) (hold : Nat) (tc : Tc) : State :=
  let c := s.chan n
  let s := s.setChan n { c with window := (x :: c.window).take 8 }
  let known := r.fld n (F.AFE_S_WIN_B_MODE n) == 0 || c.window.length == 8
  match c.window with
  | prev :: _ =>
    if r.fld n (F.AFE_S_WIN_B_EN n) == 1 && !s.flag F.AFE_STAT_LP_ACT && hold == 0 && known &&
        r.insideWindow n c.window prev && !r.insideWindow n c.window x then
      (s.setChan n { s.chan n with holdoff := r.fld n (F.AFE_S_WIN_B_HOLDOFF n) }).crossing r n tc
    else s
  | [] => s

/-- The averaging window of a current channel takes one sample; a full one gives its result (R427). A sample held before a change of the window belongs to the window that the change has dropped (R426). -/
def State.average (s : State) (r : AfeRound) (n : Nat) (x : Int) (invalid : Bool) : State :=
  let c := s.chan n
  let sum := c.avgSum + x
  let inv := c.avgInv || invalid
  if r.fld n (F.AFE_S_CFG_AVG_N n) ≠ s.fld (F.AFE_S_CFG_AVG_N n) ∨ r.fld n (F.AFE_S_CFG_SHIFT n) ≠ s.fld (F.AFE_S_CFG_SHIFT n) then s
  else if c.avgCount = s.fld (F.AFE_S_CFG_AVG_N n) then
    let s := s.setChan n { c with avgSum := 0, avgCount := 0, avgInv := false, avgSettle := false }
    let r := clamp32 (sum / (2 ^ s.fld (F.AFE_S_CFG_SHIFT n) : Nat))
    (((s.putS (F.AFE_S_AVG_VALUE n) r).bump (F.AFE_S_AVG_STAT_WINDOWS n)).putFlag (F.AFE_S_AVG_STAT_SETTLE n) c.avgSettle).putFlag (F.AFE_S_AVG_STAT_INV n) inv
  else s.setChan n { c with avgSum := sum, avgCount := c.avgCount + 1, avgInv := inv }

/-- The burst buffer is frozen: its 64 samples and their validity become the burst objects, oldest first (R183, R421). -/
def State.freezeBurst (s : State) (n : Nat) : State :=
  let l := (s.chan n).burst.reverse
  let s := forUpTo 64 (fun j s => s.putS (F.AFE_B_VALUE n j) (l.getD j (0, true)).1) s
  let mask := fun (base : Nat) => (List.range 32).foldl (fun a j => if (l.getD (base + j) (0, true)).2 then a else a + 2 ^ j) 0
  (s.put (F.AFE_S_BINV_LO_MASK n) (mask 0)).put (F.AFE_S_BINV_HI_MASK n) (mask 32)

/-- A burst round's sample enters the buffer; the buffer freezes POST samples after the freezing hold (R183, R421). -/
def State.burstSample (s : State) (n : Nat) (x : Int) (valid : Bool) (tc : Tc) : State :=
  if !s.flag F.SWP_CTRL_BURST_EN then s
  else
    let c := s.chan n
    let frozenPort := (s.port n).burstEpoch.isSome
    let post := if !frozenPort then none
      else if tc == (s.port n).burstTc then some 0
      else c.burstPost.map (· + 1)
    let want := s.fld F.SWP_BURST_CFG_POST
    match post with
    | none => s.setChan n { c with burst := ((x, valid) :: c.burst).take 64, burstPost := none }
    | some k =>
      if want < k then s.setChan n { c with burstPost := post }
      else
        let s := s.setChan n { c with burst := ((x, valid) :: c.burst).take 64, burstPost := post }
        if k = want then s.freezeBurst n else s

/-- The aperture round's sample enters the snapshot being assembled (R30, R420, R424). -/
def State.latchAperture (s : State) (n : Nat) (x : Int) (subst ref gain ovr : Bool) : State :=
  let c := s.chan n
  let b := fun (v : Bool) => if v then 1 else 0
  let s := s.putAsm (F.AFE_S_I_VALUE n) (code 32 x)
  let s := (((s.putAsm (F.AFE_S_I_STAT_SUBST n) (b subst)).putAsm (F.AFE_S_I_STAT_REF n) (b ref)).putAsm (F.AFE_S_I_STAT_GAIN n) (b gain)).putAsm (F.AFE_S_I_STAT_OVR n) (b ovr)
  ((s.putAsm (F.AFE_S_QCUM_LO_VALUE n) c.qcum.toNat).putAsm (F.AFE_S_QCUM_HI_VALUE n) (c.qcum.toNat / 2 ^ 32)).putAsm (F.AFE_S_INV_VALUE n) (c.invTicks / 250)

/-- Q_CUM and INV take the interval from the previous round (R424). -/
def countCharge (c : AfeChan) (x : Int) (invalid : Bool) (tc : Tc) : AfeChan :=
  match c.last with
  | none => { c with last := some (x, tc, invalid) }
  | some (a, t, bad) =>
    let d := (tc - t).toNat
    { c with
      last := some (x, tc, invalid)
      qcum := c.qcum + BitVec.ofInt 64 (chargeStep a x d)
      invTicks := if bad || invalid then c.invTicks + d else c.invTicks }

/-- One channel of a converted round (R422 to R428). -/
def State.roundSample (s : State) (r : AfeRound) (tc : Tc) (n : Nat) : State :=
  let c := s.chan n
  let cd := (r.codes.getD n 0).toInt
  let ref := s.flag F.AFE_STAT_REF_FAULT || s.flag F.AFE_STAT_TRIM_BAD
  let ovr := r.enabled && (cd == -32768 || cd == 32767)
  let gain := r.tagged.getD n false
  let invalid := !r.enabled || ovr || gain || ref || s.senseType n == 0
  let x := if invalid then (if s.senseHold n then c.lastValid else 0) else s.currentOf n (r.fld n (F.AFE_S_CFG_GAIN n)) cd
  let hold := c.holdoff
  let c := countCharge { c with holdoff := hold - 1, lastValid := if invalid then c.lastValid else x } x invalid r.tc
  let s := (s.setChan n c).eventIf ovr Ev.AFE_OVR
  let s := s.putS (F.AFE_S_LIVE_VALUE n) x
  let s := s.average r n x invalid
  let s := if r.burst then s.burstSample n x (!invalid) r.tc else s
  let s := if r.aperture then s.latchAperture n x invalid ref gain ovr else s
  if invalid then s else s.compare r n x hold tc

/-- CURRENT_ROUND_HOLD (R420, R421, R434): the eight current channels are held; the aperture round stands in its place among the firings of the tick (R119), restarts the grid and takes the LP setting up; a round less than 8.5 µs before the aperture is not taken. -/
def execCurrentRoundHold (codes : List (BitVec 16)) (tc : Tc) (s : State) : Host.Outcome State Fault Refusal :=
  let ap := s.afe.aperture.contains tc
  if s.blockDormant 0x12 || (ap && s.turn tc != some apertureKey) then .next s
  else
    let early := !ap && s.afe.aperture.any fun t => decide ((t - tc).toNat < 2125)
    let s := if ap then
        let s := s.acted apertureKey tc
        let s : State := { s with afe := { s.afe with aperture := s.afe.aperture.filter (fun t => t != tc), gridBase := tc } }
        let s := s.put F.AFE_STAT_LP_ACT (s.fld F.AFE_CTRL_LP)
        { s with swp := { s.swp with sweep := s.swp.sweep.map fun w =>
            if w.tc == tc then { w with phase := s.phaseAt tc, aligned := s.aligned } else w } }
      else s
    let burst := !s.flag F.AFE_STAT_LP_ACT && (tc - s.afe.gridBase).toNat % 15625 == 0
    if early then
      .next (if burst then forUpTo 8 (fun n s => s.burstSample n 0 false tc) s else s)
    else
      .next { s with afe := { s.afe with
        round := some { codes, tc, aperture := ap, burst, enabled := s.flag F.AFE_CTRL_EN,
                        tagged := s.afe.chans.map (fun c => decide (0 < c.gainTag)), settings := s.afeSettings }
        chans := s.afe.chans.map (fun c => { c with gainTag := c.gainTag - 1 }) } }

/-- ROUND_CONVERSION_DONE (R422 to R424): the held round's results are ready. -/
def execRoundConversionDone (tc : Tc) (s : State) : Host.Outcome State Fault Refusal :=
  match s.afe.round with
  | none => .next s
  | some r =>
    let s : State := { s with afe := { s.afe with round := none } }
    .next (forUpTo 8 (fun n s => s.roundSample r tc n) s)

/-! Commands of converter B. -/

/-- ADC_TRIGGER (R118, R429): the firing makes the group of its TARGET pending. -/
def execAdcTrigger (k : Fin 64) (tc : Tc) (s : State) : Host.Outcome State Fault Refusal :=
  .next (if s.fires k 5 tc then (s.acted (firingKey k 5) tc).triggerGroup (s.fld (F.PHB_SCHED_A_TARGET k)) (some tc) else s)

/-- A write of AFE_SW_TRIG triggers each group whose bit is 1 (R429). -/
def State.afeSwTrig (s : State) (v : Word) (t : Option Tc) : State :=
  if s.blockDormant 0x12 then s
  else forUpTo 8 (fun g s => if v.getLsbD g then s.triggerGroup g t else s) s

/-- AFE_SW_TRIG (R429). -/
def execAfeSwTrig (v : Word) (s : State) : Host.Outcome State Fault Refusal := .next (s.afeSwTrig v none)

/-- MAINS_SLOT (R429): a mains conversion is due while AFE_MAINS.EN is 1. -/
def execMainsSlot (s : State) : Host.Outcome State Fault Refusal :=
  .next (if s.flag F.AFE_MAINS_EN && s.afeOn then ({ s with afe := { s.afe with mainsDue := true } } : State).startConversion else s)

/-- AFE_HOUSEKEEPING (R429): the housekeeping sequence is due. -/
def execAfeHousekeeping (s : State) : Host.Outcome State Fault Refusal :=
  .next (if s.afeOn then ({ s with afe := { s.afe with hkDue := true } } : State).startConversion else s)

/-! Module NTC temperatures (R432), with ln in fixed point at 2^64. -/

/-- ln of y = num / den for 1 ≤ y < 2, scaled by 2^64: twice the series of artanh ((y - 1) / (y + 1)). -/
def lnSeries (z z2 : Int) : Nat → Nat → Int → Int
  | 0, _, acc => acc
  | fuel + 1, k, acc => lnSeries (z * z2 / 2 ^ 64) z2 fuel (k + 2) (acc + z / (k : Int))

/-- How often a quotient of at least 1 halves before it is below 2. -/
def log2Of (num den : Nat) : Nat → Nat
  | 0 => 0
  | fuel + 1 => if 2 * den ≤ num then log2Of num (2 * den) fuel + 1 else 0

/-- ln (num / den) scaled by 2^64, for num ≥ den > 0. -/
def lnAbove (num den : Nat) : Int :=
  let k := log2Of num den 40
  let d := den * 2 ^ k
  let z : Int := ((num - d : Nat) : Int) * 2 ^ 64 / ((num + d : Nat) : Int)
  2 * lnSeries z (z * z / 2 ^ 64) 30 1 0 + (k : Int) * 12786308645202655660

/-- ln (num / den) scaled by 2^64. -/
def lnQ (num den : Nat) : Int := if den ≤ num then lnAbove num den else - lnAbove den num

/-- The temperature of a module NTC, Q8.7 °C, from its housekeeping code, R_25 in 10 Ω units and B in K; saturated at ±32,767 (R432). Its rounding is open (log entry 5). -/
def ntcModuleTemp (c r25 b : Nat) : Int :=
  let l := lnQ (1000 * c) ((65536 - c) * r25)
  let den : Int := 100 * (b : Int) * 2 ^ 64 + 29815 * l
  if den ≤ 0 then 32767
  else
    let num : Int := (b : Int) * 29815 * 2 ^ 64
    clampI (-32767) 32767 (roundOpen (1280 * num - 349632 * den) (10 * den).toNat)

/-- The role of NTC input k (R308). -/
def State.ntcRole (s : State) (k : Nat) : Nat := s.img 0x000C (92 + k) 1

/-- A housekeeping result of NTC input k becomes its temperature (R432). -/
def State.ntcResult (s : State) (k : Nat) (v : Int) : State :=
  let r25 := s.img 3 (128 + 8 * k) 2
  let b := s.img 3 (128 + 8 * k + 2) 2
  if s.ntcRole k == 0 || decide (200 * v < 65536) || decide (199 * 65536 < 200 * v) then
    (s.put (F.AFE_NTC_VALID k) 0).put (F.AFE_NTC_TEMP k) 0x8000
  else (s.put (F.AFE_NTC_VALID k) 1).putS (F.AFE_NTC_TEMP k) (ntcModuleTemp v.toNat r25 b)

/-- The references are bad: CH14 outside 2.5 V ±0.2 %, or CH15 beyond ±8 codes (R433); 2.5 V is 65,536 codes. -/
def refsBad (l : List (Nat × Int × Bool × Bool)) : Bool :=
  l.any fun (i, v, _, _) => (i == 14 && decide (131072 < 1000 * absI (v - 65536))) || (i == 15 && decide (8 < absI v))

/-- REF_FAULT after a housekeeping sequence (R433). -/
def State.checkRefs (s : State) (bad : Bool) : State :=
  let b := if bad then s.afe.badRefs + 1 else 0
  let g := if bad then 0 else s.afe.goodRefs + 1
  let s : State := { s with afe := { s.afe with badRefs := b, goodRefs := g } }
  if decide (2 ≤ b) && !s.flag F.AFE_STAT_REF_FAULT then (s.put F.AFE_STAT_REF_FAULT 1).event Ev.AFE_REF_FAULT
  else if 2 ≤ g then s.put F.AFE_STAT_REF_FAULT 0 else s

/-- One result of a sequence goes to its channel's object; for CH11 that is the result of NTC7 (R427, R429). -/
def State.putResult (s : State) (r : Nat × Int × Bool × Bool) : State :=
  if r.1 < 16 ∨ r.1 = 23 then
    let n := if r.1 < 16 then r.1 - 8 else 3
    let ref := s.flag F.AFE_STAT_REF_FAULT || s.flag F.AFE_STAT_TRIM_BAD
    (((s.putS (F.AFE_CH_RES_VALUE n) r.2.1).putFlag (F.AFE_CH_RES_OVR n) r.2.2.1).putFlag (F.AFE_CH_RES_REF n) ref).putFlag (F.AFE_CH_RES_SETTLE n) r.2.2.2
  else s

/-- A sequence is complete: a group's results are written together; housekeeping gives the NTC temperatures and checks the references (R429, R432, R433). -/
def State.endSeq (s : State) (w : AfeWork) (q : AfeSeq) : State :=
  let s := if w == .housekeeping then
      let s : State := { s with afe := { s.afe with hkSeq := none } }
      let s := q.results.foldl (fun s r => if 16 ≤ r.1 then s.ntcResult (r.1 - 16) r.2.1 else s) s
      s.checkRefs (refsBad q.results)
    else ({ s with afe := { s.afe with groupSeq := none } } : State)
  q.results.foldl (fun s r => s.putResult r) s

/-- The first full window of an input after a change of its group's window carries SETTLE; for CH11 that of NTC7 is the channel's (R426). -/
def State.settleBit (s : State) (w : AfeWork) (g i : Nat) : Bool := w == .group && (s.afe.settle.getD g 0).getLsbD (if i < 16 then i - 8 else 3)

/-- The marked window is complete. -/
def State.settled (s : State) (w : AfeWork) (g i : Nat) : State :=
  if w == .group && (decide (i < 16) || i == 23) then
    { s with afe := { s.afe with settle := setAt s.afe.settle g (s.afe.settle.getD g 0 &&& ~~~(BitVec.ofNat 8 (2 ^ (if i < 16 then i - 8 else 3)))) } }
  else s

/-- A kept conversion enters its sequence's window; a full window gives the result and the sequence goes on (R427). -/
def State.seqSample (s : State) (w : AfeWork) (q : AfeSeq) (r : AfeResult) : State :=
  let avg := if w == .housekeeping then 15 else s.fld (F.AFE_GRP_AVG_N q.group)
  let shift := if w == .housekeeping then 4 else s.fld (F.AFE_GRP_SHIFT q.group)
  let sum := q.sum + r.code.toInt
  let lim := q.limit || r.limit
  let keep := fun (s : State) (q : AfeSeq) => if w == .housekeeping then ({ s with afe := { s.afe with hkSeq := some q } } : State)
    else { s with afe := { s.afe with groupSeq := some q } }
  if q.count < avg then keep s { q with sum := sum, count := q.count + 1, limit := lim }
  else
    let v := clampI (-(2 ^ 23)) (2 ^ 23 - 1) (sum / (2 ^ shift : Nat))
    let i := q.inputs.headD 0
    let mark := s.settleBit w q.group i
    let s := s.settled w q.group i
    let q := { q with
      inputs := q.inputs.tail
      sum := 0
      count := 0
      limit := false
      results := q.results ++ [(i, v, lim, mark)] }
    if q.inputs.isEmpty then s.endSeq w q else keep s q

/-- The mains slot's conversion: what the mains tracker shows after it; no lock below 1 V peak (R431). -/
def State.mainsSample (s : State) (r : AfeResult) : State :=
  let s : State := { s with afe := { s.afe with mainsDue := false } }
  (s.put F.AFE_MAINS_AMP r.amp.toNat).putFlag F.AFE_MAINS_LOCK (r.lock && decide (1000 ≤ r.amp.toNat))

/-- CONVERSION_B_DONE (R426, R427, R429): the conversion in progress ends; a discarded one is made again; then the next work starts. -/
def execConversionBDone (c : AfeResult) (s : State) : Host.Outcome State Fault Refusal :=
  match s.afe.conv with
  | none => .next s
  | some (w, i, discard) =>
    let s : State := { s with afe := { s.afe with conv := none } }
    if discard then .next ({ s with afe := { s.afe with lastInput := i } } : State).startConversion
    else
      let s := match w, s.afe.groupSeq, s.afe.hkSeq with
        | .mains, _, _ => s.mainsSample c
        | .group, some q, _ => s.seqSample w q c
        | .housekeeping, _, some q => s.seqSample w q c
        | _, _, _ => s
      let s : State := if s.afeOn then s else { s with afe := { s.afe with groupSeq := none, hkSeq := none } }
      .next s.startConversion

/-! Disable and changes of settings. -/

/-- AFE disable (R64, R435): queued conversions are abandoned; the one in progress completes and delivers its result, which can be the last of its sequence. -/
def State.afeDisable (s : State) : State :=
  let a := s.afe
  let n := ((List.range 8).filter (fun g => a.groupsDue.getLsbD g)).length + (if a.groupSeq.isSome then 1 else 0)
  let s := s.put F.AFE_ABANDON_CNT n
  let runs := fun (w : AfeWork) => match a.conv with
    | some (x, _, discard) => x == w && !discard
    | none => false
  let s : State := { s with afe := { s.afe with
    groupsDue := 0
    groupSeq := if runs .group then a.groupSeq else none
    hkSeq := if runs .housekeeping then a.hkSeq else none
    hkDue := false
    mainsDue := false } }
  s.put F.AFE_STAT_RUN 0

/-- AFE enable: rounds are taken. -/
def State.afeEnable (s : State) : State := s.put F.AFE_STAT_RUN 1

/-- The two words differ in a field. -/
def changed (old new : State) (f : Field) : Bool := old.fld f != new.fld f

/-- Settings applied at a commit point: a new gain tags two rounds, a new window length or shift drops the partial window and marks the next result (R425, R426). -/
def State.afeApplied (old s : State) : State :=
  let s := forUpTo 8 (fun n s =>
    let c := s.chan n
    let c := if changed old s (F.AFE_S_CFG_GAIN n) then { c with gainTag := 2 } else c
    let c := if changed old s (F.AFE_S_CFG_AVG_N n) || changed old s (F.AFE_S_CFG_SHIFT n) then
        { c with avgSum := 0, avgCount := 0, avgInv := false, avgSettle := true } else c
    s.setChan n c) s
  forUpTo 8 (fun g s =>
    if changed old s (F.AFE_GRP_AVG_N g) || changed old s (F.AFE_GRP_SHIFT g) then
      let q := s.afe.groupSeq.map fun q => if q.group == g then { q with sum := 0, count := 0, limit := false } else q
      { s with afe := { s.afe with settle := setAt s.afe.settle g (BitVec.ofNat 8 (s.fld (F.AFE_GRP_MASK g))), groupSeq := q } }
    else s) s

/-- The AFE at a start or a wake: Q_CUM and INV start at 0 (R424). -/
def State.afeStart (s : State) : State :=
  { s with afe := { Afe.reset with gridBase := s.afe.gridBase } }

end Sys2Proof.Machine
end

