-- ==== Sys2Proof/Machine/Est.lean ====
section
/-! DEFINITION. Est.lean: the cell state estimation (R193 to R233): the entries of the cell state table, one pass, load steps, learning, restore, and the FRAM copies. -/
namespace Sys2Proof.Machine

open Sys2Proof

/-- A field of a cell state table entry: offset and length in bytes (R193). -/
structure CellField where
  off : Nat
  n : Nat
deriving DecidableEq, Repr

namespace C
def STAT : CellField := ⟨0x000, 4⟩
def EPOCH : CellField := ⟨0x004, 4⟩
def SOC_ACC : CellField := ⟨0x008, 8⟩
/-- SOC, which is SOC_ACC[47:32] (R193). -/
def SOC : CellField := ⟨0x010, 2⟩
def SOC_V : CellField := ⟨0x012, 2⟩
def CORR_W : CellField := ⟨0x014, 2⟩
def CORR_RUN : CellField := ⟨0x016, 1⟩
def ANCHOR_OCV : CellField := ⟨0x017, 1⟩
def DRIFT_CNT : CellField := ⟨0x018, 2⟩
def CLAMP_SUM : CellField := ⟨0x01C, 4⟩
def Q_SEG : CellField := ⟨0x020, 8⟩
def Q_CUM_LAST : CellField := ⟨0x028, 8⟩
def TC_LAST : CellField := ⟨0x030, 8⟩
def INV_LAST : CellField := ⟨0x038, 4⟩
def BLEED_TOT : CellField := ⟨0x03C, 4⟩
def SEG_TIME : CellField := ⟨0x040, 4⟩
def SEG_HIRATE : CellField := ⟨0x044, 4⟩
def SEG_TSTALE : CellField := ⟨0x048, 4⟩
def GAP_RUN : CellField := ⟨0x04C, 4⟩
def SEG_TMIN : CellField := ⟨0x050, 2⟩
def SEG_TMAX : CellField := ⟨0x052, 2⟩
def T_CELL : CellField := ⟨0x054, 2⟩
def V_N : CellField := ⟨0x056, 1⟩
def T_RING_N : CellField := ⟨0x057, 1⟩
def V_ACC : CellField := ⟨0x058, 4⟩
def V_MEAN : CellField := ⟨0x05C, 4⟩
def T_RING (i : Nat) : CellField := ⟨0x060 + 2 * i, 2⟩
def ANCHOR_SOC : CellField := ⟨0x074, 2⟩
def LAST_REST_SOC : CellField := ⟨0x076, 2⟩
def ANCHOR_EPOCH : CellField := ⟨0x078, 4⟩
def LAST_REST_EPOCH : CellField := ⟨0x07C, 4⟩
/-- Fields of point record i: 0 for Z_1ms, 1 for Z_100ms, 2 for Z_1s (R193, R216). -/
def Z_RAW (i : Nat) : CellField := ⟨0x080 + 20 * i, 4⟩
def Z_FILT (i : Nat) : CellField := ⟨0x084 + 20 * i, 4⟩
def Z_EPOCH (i : Nat) : CellField := ⟨0x088 + 20 * i, 4⟩
def Z_T (i : Nat) : CellField := ⟨0x08C + 20 * i, 2⟩
def Z_SOC (i : Nat) : CellField := ⟨0x08E + 20 * i, 2⟩
def Z_COUNT (i : Nat) : CellField := ⟨0x090 + 20 * i, 2⟩
def Z_FLAGS (i : Nat) : CellField := ⟨0x092 + 20 * i, 2⟩
def STEP_DI : CellField := ⟨0x0BC, 4⟩
def STEP_EPOCH : CellField := ⟨0x0C0, 4⟩
def STEP_TC : CellField := ⟨0x0C4, 8⟩
def STEP_REJ : CellField := ⟨0x0CC, 1⟩
def V_PRE : CellField := ⟨0x0D0, 4⟩
def I_PRE : CellField := ⟨0x0D4, 4⟩
def I_POST : CellField := ⟨0x0D8, 4⟩
def Q_LEARN : CellField := ⟨0x100, 4⟩
def Q_MEAS : CellField := ⟨0x104, 4⟩
def LEARN_CNT : CellField := ⟨0x108, 2⟩
def SEG_STATE : CellField := ⟨0x10A, 1⟩
def OUTCOME : CellField := ⟨0x10B, 1⟩
def LEARN_EPOCH : CellField := ⟨0x10C, 4⟩
def CAP_HEALTH : CellField := ⟨0x110, 2⟩
def IMP_HEALTH : CellField := ⟨0x112, 2⟩
end C

/-- The window address of a field of entry g (R6, R193). -/
def cellAddr (g : Nat) (f : CellField) : Nat := 0x1000000 + 512 * g + f.off

/-- A field of entry g. -/
def State.cell (s : State) (g : Nat) (f : CellField) : Nat := s.cst.le (cellAddr g f) f.n

/-- A field of entry g read as two's complement. -/
def State.cellS (s : State) (g : Nat) (f : CellField) : Int := signed (8 * f.n) (s.cell g f)

/-- Write a field of entry g. -/
def State.putCell (s : State) (g : Nat) (f : CellField) (v : Nat) : State :=
  { s with cst := s.cst.setLe (cellAddr g f) f.n v }

/-- Write a field of entry g as two's complement. -/
def State.putCellS (s : State) (g : Nat) (f : CellField) (v : Int) : State := s.putCell g f (code (8 * f.n) v)

/-- A field that saturates at its width. -/
def satN (f : CellField) (v : Nat) : Nat := min v (2 ^ (8 * f.n) - 1)

/-- A bit of STAT (R194). -/
def State.stat (s : State) (g i : Nat) : Bool := (s.cell g C.STAT).testBit i

/-- Set or clear a bit of STAT. -/
def State.putStat (s : State) (g i : Nat) (b : Bool) : State :=
  s.putCell g C.STAT (withField (BitVec.ofNat 32 (s.cell g C.STAT)) i 1 (if b then 1 else 0)).toNat

/-! Bits of STAT (R194). -/
def stDeclared : Nat := 0
def stSocInit : Nat := 1
def stDrift : Nat := 4
def stOcvLow : Nat := 5
def stOcvHigh : Nat := 6
def stAtRest : Nat := 7
def stCorrOff : Nat := 8
def stCapLearned : Nat := 9
def stCapDefault : Nat := 10
def stRetLost : Nat := 11
def stFreshV : Nat := 12
def stFreshT : Nat := 13

/-- SOC_SRC: 0 carried, 1 FRAM, 2 OCV, 3 pending (R194). -/
def State.socSrc (s : State) (g : Nat) : Nat := fieldOf (BitVec.ofNat 32 (s.cell g C.STAT)) 2 2
def State.putSocSrc (s : State) (g v : Nat) : State :=
  s.putCell g C.STAT (withField (BitVec.ofNat 32 (s.cell g C.STAT)) 2 2 v).toNat

/-- Write SOC_ACC, and with it SOC (R193). -/
def State.putSoc (s : State) (g acc : Nat) : State := (s.putCell g C.SOC_ACC acc).putCell g C.SOC (acc / 2 ^ 32)

/-- DRIFT is set; EST_EVT.DRIFT when it goes from 0 to 1 (R209). -/
def State.setDrift (s : State) (g : Nat) : State :=
  if s.stat g stDrift then s else (s.putStat g stDrift true).event Ev.EST_DRIFT

/-- CLAMP_SUM gains a magnitude, saturating (R193). -/
def State.addClamp (s : State) (g n : Nat) : State := s.putCell g C.CLAMP_SUM (satN C.CLAMP_SUM (s.cell g C.CLAMP_SUM + n))

/-- One free value is taken if it was needed. -/
def State.tookIf (s : State) (b : Bool) : State := if b then s.took else s

/-! Positions of the sweep in hand. -/

/-- The string, monitor and cell of a global index (R3). -/
def strOf (g : Nat) : Nat := g / 512
def monOf (g : Nat) : Nat := g / 16 % 32
def celOf (g : Nat) : Nat := g % 16

/-- The block of the monitor is used in the sweep. -/
def Sweep.usedBlock (w : Sweep) (p m : Nat) : Bool := (w.used.getD p 0).getLsbD m

/-- A cell's reading of this sweep is fresh: its block is used and no diagnostic failure makes it stale (R169, R186). -/
def State.freshV (s : State) (w : Sweep) (g : Nat) : Bool :=
  w.usedBlock (strOf g) (monOf g) && !(s.mon (strOf g) (monOf g)).diagStale.getLsbD (celOf g)

/-- A cell's reading carries one of the marks of R203: SETTLE, BLEED, OWT, OW_SUSPECT, OW_CONF. -/
def State.markedV (s : State) (g : Nat) : Bool :=
  s.fldAsm (F.SWP_V_SETTLE g) == 1 || s.fldAsm (F.SWP_V_BLEED g) == 1 || s.fldAsm (F.SWP_V_OWT g) == 1 ||
  nextToLine (s.mon (strOf g) (monOf g)).suspect (celOf g) || nextToLine (s.openLines (strOf g) (monOf g)) (celOf g)

/-- A reading that estimation uses: fresh and without the marks (R203, R207). -/
def State.usableV (s : State) (w : Sweep) (g : Nat) : Bool := s.freshV w g && !s.markedV g

/-- The NTC input whose result a sweep's blocks report: the previous sweep's sequence modulo 8 (R173). -/
def dueNtc (e : Word) : Nat := ((if e = 1 then 0xFFFFFFFF#32 else e - 1).toNat) % 8

/-- The block of a monitor is decided in the sweep: delivered, or too late for it. -/
def Sweep.decided (w : Sweep) (p m : Nat) : Bool := w.closed || w.usedBlock p m || (w.read.getD p 0).getLsbD m

/-- A temperature point is stale: never read, or its age counts, or it was due in this sweep and the block of its monitor was not used or brought no valid code (R173, R508); until that block is decided it is as it was. The top bit of its age marks an update in this sweep. -/
def State.pointStale (s : State) (w : Sweep) (h : Nat) : Bool :=
  let age := s.swp.tempAge.get h
  if age.getLsbD 7 then false
  else s.swp.lastTemp.get h == 0 || age != 0 || (h % 8 == dueNtc w.epoch && w.decided (h / 256) (h / 8 % 32))

/-- A temperature point's value, Q8.7 °C. -/
def State.pointTemp (s : State) (h : Nat) : Int := signed 16 ((s.swp.lastTemp.get h).toNat - 1)

/-- The aperture current of a string in the sweep in hand, Q15.16 A (R196). -/
def State.apCurrent (s : State) (p : Nat) : Int := signed 32 (s.fldAsm (F.AFE_S_I_VALUE p))

/-! Rest (R202). -/

/-- One minute in ticks of 4 ns. -/
def minuteTicks : Nat := 15000000000

/-- Every declared string's aperture current is below C/100 (R13, R202). -/
def State.restCurrents (s : State) : Bool :=
  (List.range 8).all fun p => !s.declared p || decide (100 * absI (s.apCurrent p) < s.capacity p)

/-- The rest point is reached at an instant (R202). -/
def State.restPoint (s : State) (tc : Tc) : Bool :=
  match s.est.restStart with
  | some t => decide (s.fld F.EST_REST_CFG_REST_MIN * minuteTicks ≤ (tc - t).toNat)
  | none => false

/-- The aperture currents of a string whose burst is frozen or whose step is open are kept; a current outside the band of the step drops its points (R213). -/
def State.trailStep (s : State) (w : Sweep) (p : Nat) : State :=
  let i := s.apCurrent p
  let frozen := (s.port p).burstEpoch.isSome || s.est.bursts.any (fun b => b.port == p)
  let trail := if frozen then ((w.tc, i) :: s.est.trails.getD p []) else []
  let step := (s.est.steps.getD p none).map fun t =>
    if decide (t.t63.toNat < w.tc.toNat) && decide (t.tol100 < 100 * absI (i - t.iPost)) then { t with unsteady := true } else t
  { s with est := { s.est with trails := setAt s.est.trails p trail, steps := setAt s.est.steps p step } }

/-- The rest condition is evaluated once per aperture, before the first cell of the pass; where an aperture has no pass, before its snapshot is published (R202, R213). -/
def State.evalRest (s : State) (w : Sweep) : State :=
  if s.est.restEpoch == w.epoch then s
  else
    let rest := s.restCurrents
    let s : State :=
      if !rest then { s with est := { s.est with restStart := none, restEpoch := w.epoch } }
      else match s.est.restStart with
        | some _ => { s with est := { s.est with restEpoch := w.epoch } }
        | none => { s with est := { s.est with restStart := some w.tc, restId := s.est.restId + 1, restEpoch := w.epoch } }
    let s := s.putAsm F.EST_STAT_BANK_REST (if rest then 1 else 0)
    let s := s.putAsm F.EST_STAT_REST_POINT (if s.restPoint w.tc then 1 else 0)
    forUpTo 8 (fun p s => s.trailStep w p) s

/-! Step 1: counting (R196 to R200). -/

/-- Ticks from t0 to t1 during which a logged mask held a bit; the log is newest first (R198). -/
def maskTicks (c t0 : Nat) : List (Tc × BitVec 16) → Nat → Nat
  | [], _ => 0
  | (t, mask) :: rest, t1 =>
    let lo := max t.toNat t0
    (if mask.getLsbD c && decide (lo < t1) then t1 - lo else 0) + (if t.toNat ≤ t0 then 0 else maskTicks c t0 rest (min t.toNat t1))

/-- R_BLEED of a string, 0.01 Ω units (R205). -/
def State.rBleed (s : State) (p : Nat) : Nat := s.img 8 (4 + 16 * p + 2) 2

/-- The latest fresh reading of a cell at the sweep in hand (R198): this sweep's unless a diagnostic failure makes it stale (R186). -/
def State.latestCode (s : State) (w : Sweep) (g : Nat) : Nat :=
  if s.freshV w g then s.fldAsm (F.SWP_V_CODE g) else (s.swp.lastCode.get g).toNat

/-- The first pause marker between two holds, which stops the bleed until the later one (R174, R198); the later hold where there is none. -/
def firstPause (l : List Tc) (prev hold : Nat) : Nat :=
  (l.filter (fun t => decide (prev < t.toNat))).foldl (fun a t => min a t.toNat) hold

/-- The bleed credit of a cell, Q39.24 C: latest fresh reading over R_BLEED, times the bleed time (R198). Its rounding is open (log entry 5). -/
def State.bleedCredit (s : State) (w : Sweep) (g prev : Nat) : Int :=
  let p := strOf g
  let m := monOf g
  let x := s.mon p m
  if w.usedBlock p m && x.status.getLsbD 4 then 0
  else
    let stop := if w.usedBlock p m && x.status.getLsbD 2 then w.tc.toNat else firstPause s.swp.pauses prev w.tc.toNat
    let ticks := maskTicks (celOf g) (prev + 12500) x.forceLog stop
    roundOpen ((s.latestCode w g : Int) * (ticks : Int) * 2 ^ 24) (s.rBleed p * 10 ^ 11)

/-- SOC_ACC gains a charge, saturating; a saturating update sets DRIFT and counts what it discards (R199). -/
def State.countSoc (s : State) (g : Nat) (dq : Int) : State :=
  let exact : Int := (s.cell g C.SOC_ACC : Int) + roundNear (dq * 2 ^ 40) (3600 * s.cell g C.Q_LEARN)
  let kept := clampI 0 (2 ^ 48 - 1) exact
  let s := s.putSoc g kept.toNat
  if exact = kept then s
  else (s.setDrift g).addClamp g (roundOpen (absI (exact - kept) : Int) (2 ^ 32)).toNat

/-- Step 1 of a pass: charge counted, bleed credited, gaps (R197 to R200). On the first pass only the base is loaded. Answers Δt in ticks. -/
def State.countPass (s : State) (w : Sweep) (g : Nat) : State × Nat :=
  let p := strOf g
  let q := s.fldAsm (F.AFE_S_QCUM_LO_VALUE p) + 2 ^ 32 * s.fldAsm (F.AFE_S_QCUM_HI_VALUE p)
  let inv := s.fldAsm (F.AFE_S_INV_VALUE p)
  let prev := s.cell g C.TC_LAST
  let load := fun (s : State) => ((s.putCell g C.Q_CUM_LAST q).putCell g C.TC_LAST w.tc.toNat).putCell g C.INV_LAST inv
  if s.est.loaded.get g == 0 then
    (load { s with est := { s.est with loaded := s.est.loaded.set g 1 } }, 0)
  else
    let dqs := signed 64 (q + 2 ^ 64 - s.cell g C.Q_CUM_LAST)
    let dt := (w.tc - BitVec.ofNat 64 prev).toNat
    let dinv := (inv + 2 ^ 32 - s.cell g C.INV_LAST) % 2 ^ 32
    let credited := s.latest.epoch != 0 && s.latest.tc.toNat == prev
    let b := if credited then s.bleedCredit w g prev else 0
    let dq := dqs - b
    let s := (load s).countSoc g dq
    let s := s.putCellS g C.Q_SEG (s.cellS g C.Q_SEG + dq)
    let total := (s.est.bleedSum.get g).toNat + b.toNat
    let s : State := { s with est := { s.est with bleedSum := s.est.bleedSum.set g (BitVec.ofNat 64 total) } }
    let s := s.putCell g C.BLEED_TOT (satN C.BLEED_TOT (roundOpen total 65536).toNat)
    let gap := dinv + (if credited then 0 else (roundOpen dt 250).toNat)
    let s := s.putCell g C.GAP_RUN (if dinv = 0 && credited then 0 else satN C.GAP_RUN (s.cell g C.GAP_RUN + gap))
    (s, dt)

/-! Step 2: temperature and segment (R201, R218, R224). -/

/-- OUTCOME codes (R224). -/
def ocLearned : Nat := 1
def ocNear : Nat := 2
def ocTempSpan : Nat := 3
def ocTempSwing : Nat := 4
def ocHighRate : Nat := 5
def ocGap : Nat := 6
def ocPowerCycle : Nat := 7
def ocTempData : Nat := 8
def ocSign : Nat := 9
def ocImplausible : Nat := 10
def ocDisabled : Nat := 11
def ocOcvRange : Nat := 12

/-- An amount in ticks grows, and its field shows it in ms (log entry 5). -/
def addTicks (c : Cells 64) (g dt : Nat) : Cells 64 := c.set g (c.get g + BitVec.ofNat 64 dt)

/-- Ticks as milliseconds (log entry 5). -/
def ticksMs (v : BitVec 64) : Nat := (roundOpen v.toNat 250000).toNat

/-- The segment becomes DISQ (R220). -/
def State.disqualify (s : State) (g oc : Nat) : State :=
  ((s.putCell g C.SEG_STATE 2).putCell g C.OUTCOME oc).event Ev.EST_LEARN_REJ

/-- Segment bookkeeping of an OPEN segment (R218). -/
def State.segPass (s : State) (g dt : Nat) : State :=
  if s.cell g C.SEG_STATE != 1 then s
  else
    let p := strOf g
    let fresh := s.stat g stFreshT
    let t := s.cellS g C.T_CELL
    let high := decide (3 * s.capacity p < 2 * absI (s.apCurrent p))
    let e := s.est
    let s : State := { s with est := { e with
      segTicks := addTicks e.segTicks g dt
      segHigh := if high then addTicks e.segHigh g dt else e.segHigh
      segStale := if fresh then e.segStale else addTicks e.segStale g dt } }
    let s := ((s.putCell g C.SEG_TIME (ticksMs (s.est.segTicks.get g))).putCell g C.SEG_HIRATE (ticksMs (s.est.segHigh.get g))).putCell g C.SEG_TSTALE (ticksMs (s.est.segStale.get g))
    let s := if fresh then
        (s.putCellS g C.SEG_TMIN (min (s.cellS g C.SEG_TMIN) t)).putCellS g C.SEG_TMAX (max (s.cellS g C.SEG_TMAX) t)
      else s
    if fresh && (decide (t < 1280) || decide (5120 < t)) then s.disqualify g ocTempSpan
    else if 1920 < s.cellS g C.SEG_TMAX - s.cellS g C.SEG_TMIN then s.disqualify g ocTempSwing
    else if 100000 < s.cell g C.GAP_RUN then s.disqualify g ocGap
    else s

/-- T_CELL and FRESH_T (R201). -/
def State.tempPass (s : State) (w : Sweep) (g : Nat) : State :=
  let h := s.pointOfCell g
  (s.putCellS g C.T_CELL (if s.swp.lastTemp.get h == 0 then 0 else s.pointTemp h)).putStat g stFreshT (!s.pointStale w h)

/-! Step 3: rest accumulation (R203). -/

/-- T_CELL enters the ring. -/
def State.ringSample (s : State) (g : Nat) : State :=
  let r := s.cell g C.T_RING_N
  let slot := r / 16 % 16
  let n := r % 16
  let s := s.putCell g (C.T_RING slot) (s.cell g C.T_CELL)
  s.putCell g C.T_RING_N (min 10 (n + 1) + 16 * ((slot + 1) % 10))

/-- A reading code enters the rest mean; answers whether a new mean completes (R203). -/
def State.restReading (s : State) (w : Sweep) (g : Nat) : State × Bool :=
  if !s.usableV w g then (s, false)
  else
    let acc := s.cell g C.V_ACC + s.fldAsm (F.SWP_V_CODE g)
    if s.cell g C.V_N = 15 then
      let mean := (roundNear acc 16).toNat
      (((s.putCell g C.V_MEAN (mean + 2 ^ 31)).putCell g C.V_ACC 0).putCell g C.V_N 0, true)
    else ((s.putCell g C.V_ACC acc).putCell g C.V_N (s.cell g C.V_N + 1), false)

/-- T_CELL enters the ring n times; beyond the ring's 10 places only the next slot moves (R203). -/
def State.ringSamples (s : State) (g n : Nat) : State :=
  let r := s.cell g C.T_RING_N
  let s := s.putCell g C.T_RING_N (r % 16 + 16 * ((r / 16 % 16 + (n - 10)) % 10))
  forUpTo (min 10 n) (fun _ s => s.ringSample g) s

/-- Step 3 of a pass; answers whether a new V_MEAN completes. -/
def State.restPass (s : State) (w : Sweep) (g : Nat) : State × Bool :=
  match s.est.restStart with
  | none => (s.putStat g stAtRest false, false)
  | some t =>
    let id := BitVec.ofNat 32 (s.est.restId + 1)
    let s := if s.est.cellRest.get g == id then s
      else
        let s : State := { s with est := { s.est with cellRest := s.est.cellRest.set g id, cellMinute := s.est.cellMinute.set g 0 } }
        let s := ((s.putStat g stAtRest false).putCell g C.V_ACC 0).putCell g C.V_N 0
        (s.putCell g C.T_RING_N 0).putCell g C.V_MEAN (s.cell g C.V_MEAN % 2 ^ 31)
    let (s, mean) := s.restReading w g
    let k := (w.tc - t).toNat / minuteTicks
    let done := (s.est.cellMinute.get g).toNat
    let s := s.ringSamples g (k - done)
    ({ s with est := { s.est with cellMinute := s.est.cellMinute.set g (BitVec.ofNat 32 k) } }, mean)

/-! OCV lookup (R205, R206). -/

/-- A column axis value of OCV table t. -/
def ocvAxis (b : List Byte) (t j : Nat) : Int := signed 16 (leAt b (176 + 560 * t + 4 + 2 * j) 2)
/-- OCV(k, j) of table t, 100 µV. -/
def ocvAt (b : List Byte) (t k j : Nat) : Nat := leAt b (176 + 560 * t + 20 + 2 * (33 * j + k)) 2

/-- The lower of the two columns that bracket a temperature. -/
def ocvColumn (b : List Byte) (t : Nat) (x : Int) : Nat → Nat → Nat
  | 0, j => j
  | fuel + 1, j => if x < ocvAxis b t (j + 1) then j else ocvColumn b t x fuel (j + 1)

/-- The result of a lookup: SoC, the marks, and the slope as 32 × num / den in 100 µV per full SoC. -/
structure Lookup where
  soc : Nat
  low : Bool
  high : Bool
  slopeNum : Nat
  slopeDen : Nat
deriving DecidableEq, Repr

/-- The segment that holds a voltage: the last k with O(k) ≤ V, counting up. -/
def ocvSegment (o : Nat → Int) (v : Int) : Nat → Nat → Nat
  | 0, k => k
  | fuel + 1, k => if v < o (k + 1) then k else ocvSegment o v fuel (k + 1)

/-- The inverse lookup of a voltage vn / vd in 100 µV units at temperature T (R206). -/
def ocvLookup (b : List Byte) (t : Nat) (temp vn : Int) (vd : Nat) : Lookup :=
  let n := leAt b (176 + 560 * t) 1
  let x := clampI (ocvAxis b t 0) (ocvAxis b t (n - 1)) temp
  let j := ocvColumn b t x (n - 2) 0
  let den := (ocvAxis b t (j + 1) - ocvAxis b t j).toNat
  let num := x - ocvAxis b t j
  let o := fun k => (((ocvAt b t k j : Nat) : Int) * (den : Int) + num * (((ocvAt b t k (j + 1) : Nat) : Int) - ((ocvAt b t k j : Nat) : Int))) * (vd : Int)
  let v := vn * (den : Int)
  let slope := fun k => (o (k + 1) - o k).toNat
  if v < o 0 then { soc := 0, low := true, high := false, slopeNum := slope 0, slopeDen := den * vd }
  else if o 32 ≤ v then { soc := 65535, low := false, high := true, slopeNum := slope 31, slopeDen := den * vd }
  else
    let k := ocvSegment o v 31 0
    let soc := roundNear (2048 * ((k : Int) * (slope k : Int) + (v - o k))) (slope k)
    { soc := min 65535 soc.toNat, low := false, high := false, slopeNum := slope k, slopeDen := den * vd }

/-- The lookup of a cell, which leaves its marks in STAT. -/
def State.lookup (s : State) (g : Nat) (vn : Int) (vd : Nat) : Lookup :=
  ocvLookup (s.sec 8) (s.img 8 (4 + 16 * strOf g) 1) (s.cellS g C.T_CELL) vn vd

/-- OCV_LOW and OCV_HIGH reflect the latest lookup (R206). -/
def State.putOcv (s : State) (g : Nat) (l : Lookup) : State := (s.putStat g stOcvLow l.low).putStat g stOcvHigh l.high

/-! Temperature factor (R217). -/

/-- F at a temperature as num / den, in units of 1/4096, scanning the 8 points (R217). -/
def factorScan (b : List Byte) (x : Int) : Nat → Nat → Int × Nat
  | 0, i => ((leAt b (148 + 2 * i) 2 : Nat), 1)
  | fuel + 1, i =>
    let t0 := signed 16 (leAt b (132 + 2 * i) 2)
    let t1 := signed 16 (leAt b (134 + 2 * i) 2)
    let f0 : Int := (leAt b (148 + 2 * i) 2 : Nat)
    let f1 : Int := (leAt b (150 + 2 * i) 2 : Nat)
    if x ≤ t0 then (f0, 1)
    else if x < t1 then (f0 * (t1 - t0) + (f1 - f0) * (x - t0), (t1 - t0).toNat)
    else factorScan b x fuel (i + 1)

/-- F(T), in units of 1/4096. -/
def State.factor (s : State) (x : Int) : Int × Nat := factorScan (s.sec 8) x 7 0

/-! Steps 4 and 5: the corridor (R207 to R210). -/

/-- Z_T in ohms as num / den: Z_FILT of Z_1s over F(T_CELL); 0 without a valid Z_1s point (R208). The manual states none where F is 0: that is a free value (log entry 3). -/
def State.zT (s : State) (g : Nat) : Int × Nat :=
  if (s.cell g (C.Z_FLAGS 2)).testBit 0 then
    let f := s.factor (s.cellS g C.T_CELL)
    if f.1 ≤ 0 then (s.free.toInt, 2 ^ 24)
    else (s.cellS g (C.Z_FILT 2) * 4096 * (f.2 : Int), 2 ^ 24 * f.1.toNat)
  else (0, 1)

/-- Clamp SOC on an edge (R209). -/
def State.clampSoc (s : State) (g edge : Nat) : State :=
  let soc := s.cell g C.SOC
  let s := (s.putSoc g (edge * 2 ^ 32)).setDrift g
  let s := (s.putCell g C.DRIFT_CNT (s.cell g C.DRIFT_CNT + 1)).addClamp g (max soc edge - min soc edge)
  (s.putCell g C.CORR_RUN 0).putStat g stSocInit false

/-- The corridor around a lookup: half-width from the uncertainty un / ud in 100 µV units, edges, run and clamp (R208, R209). A rest point clamps at once (R210). -/
def State.corridor (s : State) (g : Nat) (l : Lookup) (un : Int) (ud : Nat) (atOnce : Bool) : State :=
  let d := 32 * l.slopeNum
  let w0 := s.fld F.EST_CORR_CFG_W0
  let w := clampI 0 65535 (roundNear (65536 * ((w0 : Int) * (ud : Int) * (d : Int) + 1000 * un * (l.slopeDen : Int))) (1000 * ud * d))
  let s := ((s.putOcv g l).putCell g C.SOC_V l.soc).putCell g C.CORR_W w.toNat
  if w = 65535 then (s.putStat g stCorrOff true).putCell g C.CORR_RUN 0
  else
    let s := s.putStat g stCorrOff false
    let lo := l.soc - w.toNat
    let hi := min 65535 (l.soc + w.toNat)
    let soc := s.cell g C.SOC
    if lo ≤ soc ∧ soc ≤ hi then s.putCell g C.CORR_RUN 0
    else
      let run := min 255 (s.cell g C.CORR_RUN + 1)
      let s := s.putCell g C.CORR_RUN run
      if atOnce || decide (s.fld F.EST_CORR_CFG_CORR_N ≤ run) then s.clampSoc g (if soc < lo then lo else hi) else s

/-- The corridor of a pass without a rest point (R207, R208). -/
def State.corridorPass (s : State) (w : Sweep) (g : Nat) : State :=
  let p := strOf g
  let i := s.apCurrent p
  let low := decide (100 * absI i < s.capacity p)
  if s.usableV w g && s.stat g stFreshT && (low || (s.cell g (C.Z_FLAGS 2)).testBit 0) then
    let z := s.zT g
    let s := s.tookIf ((s.cell g (C.Z_FLAGS 2)).testBit 0 && decide ((s.factor (s.cellS g C.T_CELL)).1 ≤ 0))
    let v : Int := s.fldAsm (F.SWP_V_CODE g)
    let l := s.lookup g (v * 2 ^ 16 * (z.2 : Int) - 40000 * i * z.1) (2 ^ 18 * z.2)
    let ud : Nat := 2 ^ 19 * z.2
    let un : Int := 10 * (s.fld F.EST_CORR_CFG_E_V : Int) * (ud : Int) + (s.fld F.EST_CORR_CFG_K_Z : Int) * (absI i : Int) * z.1 * 10000
    s.corridor g l un ud false
  else s.putStat g stCorrOff true

/-- A pending SoC is taken from the first usable reading (R226). -/
def State.pendingSoc (s : State) (w : Sweep) (g : Nat) : State :=
  if s.socSrc g = 3 && s.usableV w g then
    let l := s.lookup g (s.fldAsm (F.SWP_V_CODE g) : Nat) 4
    ((s.putOcv g l).putSoc g (l.soc * 2 ^ 32)).putSocSrc g 2
  else s

/-! Learning (R219, R220). -/

/-- Re-anchor at the rest point just taken (R220). -/
def State.reanchor (s : State) (g : Nat) (epoch : Word) : State :=
  let s := (s.putCell g C.ANCHOR_SOC (s.cell g C.LAST_REST_SOC)).putCell g C.ANCHOR_EPOCH epoch.toNat
  let s := s.putCell g C.ANCHOR_OCV ((if s.stat g stOcvLow then 1 else 0) + (if s.stat g stOcvHigh then 2 else 0))
  let s := ((s.putCell g C.Q_SEG 0).putCell g C.SEG_TIME 0).putCell g C.SEG_HIRATE 0
  let s := ((s.putCell g C.SEG_TSTALE 0).putCell g C.SEG_TMIN (s.cell g C.T_CELL)).putCell g C.SEG_TMAX (s.cell g C.T_CELL)
  let e := s.est
  ({ s with est := { e with segTicks := e.segTicks.set g 0, segHigh := e.segHigh.set g 0, segStale := e.segStale.set g 0 } } : State).putCell g C.SEG_STATE 1

/-- The first check of R219 that fails; LEARNED if none does. -/
def State.learnOutcome (s : State) (g : Nat) : Nat :=
  let d : Int := (s.cell g C.LAST_REST_SOC : Int) - (s.cell g C.ANCHOR_SOC : Int)
  let q := s.cellS g C.Q_SEG
  let cap := s.capacity (strOf g)
  if s.fld F.EST_LEARN_CFG_LEARN_EN = 0 then ocDisabled
  else if s.cell g C.ANCHOR_OCV ≠ 0 ∨ s.stat g stOcvLow ∨ s.stat g stOcvHigh then ocOcvRange
  else if s.cell g C.SEG_TIME < 20 * s.cell g C.SEG_HIRATE then ocHighRate
  else if s.cell g C.SEG_TIME < 10 * s.cell g C.SEG_TSTALE then ocTempData
  else if q = 0 ∨ (0 < q) ≠ (0 < d) then ocSign
  else if 512 * absI q < cap * 3600 * absI d ∨ 12 * cap * 3600 * absI d < 2560 * absI q then ocImplausible
  else ocLearned

/-- Q_MEAS, UQ16.16 Ah (R219); its rounding is open. -/
def State.qMeas (s : State) (g : Nat) : Nat :=
  let d := absI ((s.cell g C.LAST_REST_SOC : Int) - (s.cell g C.ANCHOR_SOC : Int))
  satN C.Q_MEAS (roundOpen (256 * absI (s.cellS g C.Q_SEG) : Nat) (3600 * d)).toNat

/-- Q_LEARN moves towards the measurement by WEIGHT (R219). -/
def State.learn (s : State) (g : Nat) (epoch : Word) : State :=
  let d := absI ((s.cell g C.LAST_REST_SOC : Int) - (s.cell g C.ANCHOR_SOC : Int))
  let n : Int := (256 * absI (s.cellS g C.Q_SEG) : Nat)
  let den := 3600 * d
  let ql : Int := s.cell g C.Q_LEARN
  let wt : Int := s.fld F.EST_LEARN_CFG_WEIGHT
  let v := roundNear (100 * (den : Int) * ql + wt * (n - (den : Int) * ql)) (100 * den)
  let s := (s.putCell g C.Q_LEARN v.toNat).putCell g C.LEARN_CNT (satN C.LEARN_CNT (s.cell g C.LEARN_CNT + 1))
  ((s.putCell g C.LEARN_EPOCH epoch.toNat).putStat g stCapLearned true).putStat g stCapDefault false

/-- Learning at a rest point; answers whether a measurement was accepted (R219, R220). -/
def State.learnPass (s : State) (g : Nat) (epoch : Word) : State × Bool :=
  if s.cell g C.SEG_STATE != 1 then (s.reanchor g epoch, false)
  else
    let d := absI ((s.cell g C.LAST_REST_SOC : Int) - (s.cell g C.ANCHOR_SOC : Int))
    if 100 * d < s.fld F.EST_REST_CFG_SEP * 65536 then (s.putCell g C.OUTCOME ocNear, false)
    else
      let oc := s.learnOutcome g
      let s := if oc == ocLearned || oc == ocImplausible then s.putCell g C.Q_MEAS (s.qMeas g) else s
      if oc == ocLearned then (((((s.learn g epoch).putCell g C.OUTCOME oc).event Ev.EST_LEARNED).recCount cntLearned).reanchor g epoch, true)
      else (((s.putCell g C.OUTCOME oc).event Ev.EST_LEARN_REJ).reanchor g epoch, false)

/-- The ring's 10 samples lie within T_STAB, 0.1 K units (R204). -/
def State.ringStable (s : State) (g : Nat) : Bool :=
  let l := (List.range 10).map (fun i => s.cellS g (C.T_RING i))
  let hi := l.foldl max (s.cellS g (C.T_RING 0))
  let lo := l.foldl min (s.cellS g (C.T_RING 0))
  s.cell g C.T_RING_N % 16 == 10 && decide (10 * (hi - lo) ≤ 128 * s.fld F.EST_REST_CFG_T_STAB)

/-- The cell takes the rest point at this pass (R204). -/
def State.takesRest (s : State) (w : Sweep) (g : Nat) (mean : Bool) : Bool :=
  mean && s.restPoint w.tc && s.ringStable g && s.stat g stFreshT && !s.stat g stAtRest

/-- Step 4: the corridor at a rest point, then learning, unless this pass has disqualified the segment, which is its one transition (R20, R204, R210, R220). -/
def State.restPointPass (s : State) (w : Sweep) (g : Nat) (disq : Bool) : State × Bool :=
  let l := s.lookup g (s.cell g C.V_MEAN % 2 ^ 18 : Nat) 4
  let s := s.corridor g l (10 * s.fld F.EST_CORR_CFG_E_V : Nat) 1 true
  let s := ((s.putCell g C.LAST_REST_SOC l.soc).putCell g C.LAST_REST_EPOCH w.epoch.toNat).putStat g stSocInit false
  let soc := s.cell g C.SOC
  let s := if 2 * (max soc l.soc - min soc l.soc) ≤ s.cell g C.CORR_W then s.putStat g stDrift false else s
  if disq then (s.putStat g stAtRest true, false) else (s.putStat g stAtRest true).learnPass g w.epoch

/-! Impedance points (R212 to R217). -/

/-- A point record is completed with Z = 25 µV × dv / (di / 2^16) (R216, R217). Where di is 0 or Z leaves Q7.24 the value is free (log entry 3). -/
def State.completePoint (s : State) (g i : Nat) (dv di : Int) (dvDen : Nat) (epoch : Word) : State :=
  let num := dv * 25 * 2 ^ 40 * (if di < 0 then -1 else 1)
  let den := 10 ^ 6 * absI di * dvDen
  let z := roundOpen num den
  let stated := di != 0 && decide (-(2 ^ 31) ≤ z) && decide (z < 2 ^ 31)
  let z := if stated then z else signed 32 s.free.toNat
  let s := s.tookIf (!stated)
  let f := s.factor (s.cellS g C.T_CELL)
  let zn := roundOpen (z * f.1) (4096 * f.2)
  let old := s.cellS g (C.Z_FILT i)
  let flags := s.cell g (C.Z_FLAGS i)
  let filt := if flags.testBit 0 then old + (zn - old) / (2 ^ s.fld F.EST_LEARN_CFG_Z_SHIFT : Nat) else zn
  let s := (s.putCellS g (C.Z_RAW i) z).putCellS g (C.Z_FILT i) filt
  let s := ((s.putCell g (C.Z_EPOCH i) epoch.toNat).putCell g (C.Z_T i) (s.cell g C.T_CELL)).putCell g (C.Z_SOC i) (s.cell g C.SOC)
  (s.putCell g (C.Z_COUNT i) (satN (C.Z_COUNT i) (s.cell g (C.Z_COUNT i) + 1))).putCell g (C.Z_FLAGS i) 1

/-- A pending point is dropped with a code (R213, R215). -/
def State.dropPoint (s : State) (g i rej : Nat) : State :=
  (s.putCell g (C.Z_FLAGS i) (s.cell g (C.Z_FLAGS i) % 2)).putCell g C.STEP_REJ rej

/-- The distance of two instants. -/
def tcDist (a b : Nat) : Nat := max a b - min a b

/-- Step 6 for one point: target and half-window in ticks after t_s (R213). The aperture nearest to the target is foretold from the period just passed. Answers whether the point completed. -/
def State.laterPoint (s : State) (w : Sweep) (g i target window : Nat) : State × Bool :=
  if (s.cell g (C.Z_FLAGS i)).testBit 1 then
    let unsteady := match s.est.steps.getD (strOf g) none with
      | some t => t.unsteady
      | none => true
    let at_ := s.cell g C.STEP_TC + target
    let now := w.tc.toNat
    let next := now + (now - s.latest.tc.toNat)
    if unsteady then (s.dropPoint g i 8, false)
    else if at_ + window < now then (s.dropPoint g i 9, false)
    else if now + window < at_ then (s, false)
    else if now < at_ ∧ tcDist next at_ < tcDist now at_ then (s, false)
    else if !s.usableV w g then (s.dropPoint g i 9, false)
    else
      let dv : Int := (s.fldAsm (F.SWP_V_CODE g) : Int) - (s.cell g C.V_PRE % 2 ^ 18 : Nat)
      let di := s.apCurrent (strOf g) - s.cellS g C.I_PRE
      (s.completePoint g i dv di 1 w.epoch, true)
  else (s, false)

/-! Step 7: health figures (R221). -/

/-- CAP_HEALTH and IMP_HEALTH; a figure whose value the manual does not state is free (log entry 3). -/
def State.healthPass (s : State) (g : Nat) : State :=
  let p := strOf g
  let s := s.putCell g C.CAP_HEALTH (satN C.CAP_HEALTH (roundOpen (s.cell g C.Q_LEARN * 2 ^ 15 : Nat) (s.capacity p)).toNat)
  let zref := signed 32 (s.img 8 (4 + 16 * p + 4) 4)
  let zf := s.cellS g (C.Z_FILT 2)
  if !(s.cell g (C.Z_FLAGS 2)).testBit 0 || zref == 0 then s.putCell g C.IMP_HEALTH 0
  else if zf = 0 ∨ zref * zf < 0 then (s.putCell g C.IMP_HEALTH s.free.toNat).took
  else s.putCell g C.IMP_HEALTH (satN C.IMP_HEALTH (roundOpen (absI zref * 2 ^ 15 : Nat) (absI zf)).toNat)

/-! Write-back (R229 to R232). -/

/-- The bytes of a capacity copy (R229). -/
def State.copyBytes (s : State) (cause seq : Nat) : List Byte :=
  let uids := (List.range 256).flatMap fun i => bytesLe 4 (s.fld (F.DLK_P_UID_LO_VALUE (i / 32) (i % 32)))
  let cells := (List.range 4096).flatMap fun g =>
    bytesLe 4 (s.cell g C.Q_LEARN) ++ bytesLe 2 (s.cell g C.SOC) ++ bytesLe 1 (min 255 (s.cell g C.LEARN_CNT)) ++
    bytesLe 1 ((if s.stat g stCapLearned then 1 else 0) + (if s.socSrc g != 3 then 2 else 0))
  let body := bytesLe 4 0x50414351 ++ bytesLe 2 1 ++ bytesLe 2 32 ++ bytesLe 4 seq ++ bytesLe 4 cause ++
    bytesLe 4 (s.rd 0x10004).toNat ++ bytesLe 4 (s.fld F.REC_HOURS_VALUE) ++ bytesLe 4 (s.fld F.REC_CYCLES_VALUE) ++
    bytesLe 4 0 ++ uids ++ cells
  body ++ bytesLe 4 (crc32c body).toNat

/-- A copy is valid (R230). -/
def copyValid (b : List Byte) : Bool :=
  leAt b 0 4 == 0x50414351 && leAt b 4 2 == 1 && b.length == 33828 && (crc32c (b.take 33824)).toNat == leAt b 33824 4

/-- A copy's sequence number. -/
def copySeq (b : List Byte) : Nat := leAt b 8 4

/-- Sequence a is newer than b (R230). -/
def seqNewer (a b : Nat) : Bool :=
  let d := (a + 2 ^ 32 - b) % 2 ^ 32
  decide (1 ≤ d) && decide (d ≤ 2 ^ 31)

/-- The newest valid copy: 0 for A, 1 for B (R230), by the valid marks of EST_WB_STAT. -/
def State.newestCopy (s : State) : Option Nat :=
  match s.flag F.EST_WB_STAT_A_VALID, s.flag F.EST_WB_STAT_B_VALID with
  | true, true => if seqNewer (copySeq s.est.copyA) (copySeq s.est.copyB) then some 0 else some 1
  | true, false => some 0
  | false, true => some 1
  | false, false => none

/-- The bytes of a copy. -/
def State.copyOf (s : State) (i : Nat) : List Byte := if i = 0 then s.est.copyA else s.est.copyB

/-- The newest valid sequence; 0 if no copy is valid. -/
def State.newestSeq (s : State) : Nat := match s.newestCopy with
  | some i => copySeq (s.copyOf i)
  | none => 0

/-- A write-back starts: it goes to the copy that is not the newest valid one, and that copy is invalid until it is written: a write cut off leaves it so (R230 to R232). DESIGN CHOICE (log entry 178): where neither copy is valid it goes to A; the rule names no first one. -/
def State.startWb (s : State) (cause : Nat) (tc : Tc) : State :=
  let target := match s.newestCopy with
    | some 0 => 1
    | _ => 0
  let seq := (s.newestSeq + 1) % 2 ^ 32
  let bytes := s.copyBytes cause seq
  let s : State := { s with est := { s.est with
    wb := some { cause, target, bytes }
    lastWb := tc
    copyA := if target = 0 then [] else s.est.copyA
    copyB := if target = 0 then s.est.copyB else [] } }
  let s := s.putFlag F.EST_STAT_WB_BUSY true
  let s := s.put F.EST_WB_STAT_CAUSE cause
  if target = 0 then s.put F.EST_WB_STAT_A_VALID 0 else s.put F.EST_WB_STAT_B_VALID 0

/-- A write-back trigger: it starts one, or is held while one is in progress, like triggers merged; power fail goes first (R231, R232). While no lane holds the Lid only the power-fail path writes FRAM: other triggers are held for the new lane's management step (R345, R358). -/
def State.triggerWb (s : State) (cause : Nat) (tc : Tc) : State :=
  if s.est.wb.isNone && (s.lidHeld || cause = 4) then s.startWb cause tc
  else
    let held := if s.est.held.contains cause then s.est.held else if cause = 4 then cause :: s.est.held else s.est.held ++ [cause]
    { s with est := { s.est with held := held } }

/-- The copy in hand is written; unless the cause is 4 it is read back. A failed check, and a power-fail write that the hold-up cuts off, leave the copy invalid: no bytes of it count (R231, R232). -/
def State.finishWb (s : State) (w : WriteBack) (good : Bool) : State :=
  let checked := w.cause != 4
  let s : State := { s with est := { s.est with
    wb := none
    copyA := if w.target = 0 then (if good then w.bytes else []) else s.est.copyA
    copyB := if w.target = 0 then s.est.copyB else if good then w.bytes else [] } }
  let s := s.put F.EST_WB_STAT_LAST w.target
  let s := if w.target = 0 then s.putFlag F.EST_WB_STAT_A_VALID good else s.putFlag F.EST_WB_STAT_B_VALID good
  let s := if checked then s.putFlag F.EST_WB_STAT_LAST_OK good else s
  let s := s.eventIf (checked && !good) Ev.EST_WB_FAIL
  (s.put F.EST_WB_SEQ_SEQ s.newestSeq).putFlag F.EST_STAT_WB_BUSY false

/-- WB_WRITE (R231): a write-back with cause 5. -/
def execWbWrite (tc : Tc) (s : State) : Host.Outcome State Fault Refusal :=
  .next (if s.blockDormant 6 then s else s.triggerWb 5 tc)

/-- WRITE_BACK_TIMER (R231): 10 min after the previous write-back started, cause 2. -/
def execWriteBackTimer (tc : Tc) (s : State) : Host.Outcome State Fault Refusal :=
  .next (if decide (10 * minuteTicks ≤ (tc - s.est.lastWb).toNat) && !s.blockDormant 6 then s.triggerWb 2 tc else s)

/-- WRITE_BACK_COMPLETE (R231): the write ends and a held trigger starts. -/
def execWriteBackComplete (good : Bool) (tc : Tc) (s : State) : Host.Outcome State Fault Refusal :=
  match s.est.wb with
  | none => .next s
  | some w =>
    let s := s.finishWb w good
    match s.est.held with
    | [] => .next s
    | c :: rest => .next (({ s with est := { s.est with held := rest } } : State).triggerWb c tc)

/-! One pass (R222). -/

/-- The snapshot word of a cell (EST_CELLg). -/
def State.putEstCell (s : State) (g : Nat) (stale znew learned : Bool) : State :=
  let b := fun (v : Bool) => if v then 1 else 0
  let s := ((s.putAsm (F.EST_CELL_STALE g) (b stale)).putAsm (F.EST_CELL_Z_NEW g) (b znew)).putAsm (F.EST_CELL_LEARNED g) (b learned)
  let s := ((s.putAsm (F.EST_CELL_SEG g) (s.cell g C.SEG_STATE)).putAsm (F.EST_CELL_CORR_OFF g) (b (s.stat g stCorrOff))).putAsm (F.EST_CELL_AT_REST g) (b (s.stat g stAtRest))
  ((s.putAsm (F.EST_CELL_SOC_INIT g) (b (s.stat g stSocInit))).putAsm (F.EST_CELL_DRIFT g) (b (s.stat g stDrift))).putAsm (F.EST_CELL_SOC g) (s.cell g C.SOC)

/-- The steps of a pass in order (R222); cause 1 of R231 follows an accepted measurement. -/
def State.onePass (s : State) (w : Sweep) (g : Nat) (tc : Tc) : State :=
  let s := s.evalRest w
  let (s, dt) := s.countPass w g
  let s := s.putStat g stFreshV (s.freshV w g)
  let wasOpen := s.cell g C.SEG_STATE == 1
  let s := (s.tempPass w g).segPass g dt
  let disq := wasOpen && s.cell g C.SEG_STATE == 2
  let (s, mean) := s.restPass w g
  let s := s.pendingSoc w g
  let (s, learned) := if s.takesRest w g mean then s.restPointPass w g disq else (s.corridorPass w g, false)
  let (s, z1) := s.laterPoint w g 1 25000000 1250000
  let (s, z2) := s.laterPoint w g 2 250000000 12500000
  let s := s.healthPass g
  let s := s.putCell g C.EPOCH w.epoch.toNat
  let s := s.putEstCell g false (z1 || z2) learned
  if learned && decide (minuteTicks ≤ (tc - s.est.lastWb).toNat) then s.triggerWb 1 tc else s

/-- The engine runs: enabled, and not disabled at power-fail detect (R64, R232). -/
def State.estRuns (s : State) : Bool := s.flag F.EST_CTRL_EN && s.flag F.EST_STAT_RUN && !s.blockDormant 6

/-- A pass of cell g is due in the sweep: the engine runs and has not abandoned the cell, the entry is declared and not yet written for this epoch, and its block is delivered or, at the deadline, stale (R222, R223). -/
def State.passDue (s : State) (w : Sweep) (g : Nat) : Bool :=
  s.estRuns && s.est.skip != some w.epoch && s.stat g stDeclared && s.est.restored.get g != 0 && s.cell g C.EPOCH != w.epoch.toNat &&
  w.decided (strOf g) (monOf g)

/-- The cell whose pass comes next: blocks in the order of their delivery, ascending c within a block (R223); at the deadline the blocks not delivered follow, in rising index (log entry 177). -/
def State.nextPass (s : State) (w : Sweep) : Option Nat :=
  let late := if w.closed then (List.range 256).filter (fun k => !w.order.contains k) else []
  ((w.order ++ late).flatMap fun k => (List.range 16).map (fun c => 16 * k + c)).find? (fun g => s.passDue w g)

/-- CELL_PASS (R222, R223): the pass of the cell that comes next. -/
def execCellPass (g : Fin 4096) (tc : Tc) (s : State) : Host.Outcome State Fault Refusal :=
  match s.swp.sweep with
  | none => .next s
  | some w => .next (if s.nextPass w == some g.val then s.onePass w g tc else s)

/-- EST disable (R64, R223): the cells of the sweep in hand left undone are abandoned and counted. -/
def State.estDisable (s : State) : State :=
  let n := match s.swp.sweep with
    | some w => ((List.range 4096).filter (fun g => s.stat g stDeclared && s.cell g C.EPOCH != w.epoch.toNat)).length
    | none => 0
  let s : State := { s with est := { s.est with skip := s.swp.sweep.map fun w => w.epoch } }
  (s.put F.EST_ABANDON_CNT n).put F.EST_STAT_RUN 0

/-- EST enable. -/
def State.estEnable (s : State) : State := s.put F.EST_STAT_RUN 1

/-! Load steps (R211, R212). -/

/-- The AFE burst sample I_j of a string. -/
def State.burstI (s : State) (p j : Nat) : Int := s.fldS (F.AFE_B_VALUE p j)

/-- The sum of n samples from j. -/
def sumFrom (f : Nat → Int) (j n : Nat) : Int := (List.range n).foldl (fun a i => a + f (j + i)) 0

/-- A step's place and currents: j0, j1, sums of the pre-samples (8) and of the post-samples (64 - j1). -/
structure StepFound where
  j0 : Nat
  j1 : Nat
  preSum : Int
  postSum : Int
deriving DecidableEq, Repr

/-- Qualify the step of a string on its AFE burst; the failure code otherwise (R211). -/
def qualify (f : Nat → Int) (c : Nat) : Nat ⊕ StepFound :=
  let s8 := sumFrom f 0 8
  match (List.range 64).find? (fun j => decide (8 ≤ j) && decide (c ≤ 4 * absI (8 * f j - s8))) with
  | none => .inl 4
  | some j0 =>
    if 46 < j0 then .inl 4
    else if (List.range j0).any (fun j => decide (c < 4 * absI (8 * f j - s8))) then .inl 1
    else
      let pre := sumFrom f (j0 - 8) 8
      match (List.range 64).find? (fun j => decide (j0 ≤ j) && decide (2 * c ≤ absI (8 * f j - pre))) with
      | none => .inl 2
      | some j1 =>
        if 32 < j1 - j0 then .inl 2
        else if 63 - j1 < 7 then .inl 4
        else
          let n := 64 - j1
          let post := sumFrom f j1 n
          let tol := max (5 * absI post) (n * c)
          if (List.range n).any (fun i => decide (tol < 100 * absI ((n : Int) * f (j1 + i) - post))) then .inl 3
          else .inr { j0, j1, preSum := pre, postSum := post }

/-- Sample j of a cell in a burst: code and tags (R192). -/
def Burst.sample (b : Burst) (m c j : Nat) : Nat := b.data.le (3072 * m + 48 * j + 3 * c) 3

/-- The declared cells of a string. -/
def State.cellsOf (s : State) (p : Nat) : List Nat :=
  (List.range 512).filterMap fun i => if s.stat (512 * p + i) stDeclared then some (512 * p + i) else none

/-- Every declared cell of a string records a code (R215). -/
def State.recordAll (s : State) (p : Nat) (b : Burst) (rej : Nat) : State :=
  (s.cellsOf p).foldl (fun s g => (s.putCell g C.STEP_REJ rej).putCell g C.STEP_EPOCH b.epoch.toNat) s

/-- One cell of a qualified step (R212). -/
def State.cellStep (s : State) (b : Burst) (t : StepFound) (ts : Tc) (iPre iPost : Int) (g : Nat) : State :=
  let m := monOf g
  let c := celOf g
  let s := ((s.putCellS g C.STEP_DI (iPost - iPre)).putCell g C.STEP_EPOCH b.epoch.toNat).putCell g C.STEP_TC ts.toNat
  let s := (s.putCellS g C.I_PRE iPre).putCellS g C.I_POST iPost
  if !b.read.getLsbD m then s.putCell g C.STEP_REJ 7
  else if (List.range (64 - (t.j0 - 8))).any (fun i => (b.sample m c (t.j0 - 8 + i)).testBit 19) then s.putCell g C.STEP_REJ 6
  else
    let v := fun j => ((b.sample m c j % 2 ^ 18 : Nat) : Int)
    let vPre := sumFrom v (t.j0 - 8) 8
    let s := (s.putCell g C.V_PRE (roundNear vPre 8).toNat).putCell g C.STEP_REJ 0
    let s := (s.putCell g (C.Z_FLAGS 1) (s.cell g (C.Z_FLAGS 1) % 2 + 2)).putCell g (C.Z_FLAGS 2) (s.cell g (C.Z_FLAGS 2) % 2 + 2)
    if t.j1 ≤ t.j0 + 16 then
      let dv := 8 * sumFrom v (t.j0 + 15) 3 - 3 * vPre
      let di := 8 * sumFrom (s.burstI b.port) (t.j0 + 15) 3 - 3 * t.preSum
      s.completePoint g 0 dv di 1 b.epoch
    else s

/-- Every pending point of a string is dropped with UNSTEADY (R214). -/
def State.dropPending (s : State) (p : Nat) : State :=
  (s.cellsOf p).foldl (fun s g => [1, 2].foldl (fun s i =>
    if (s.cell g (C.Z_FLAGS i)).testBit 1 then s.dropPoint g i 8 else s) s) s

/-- A qualified step of a string (R211 to R214). -/
def State.takeStep (s : State) (b : Burst) (t : StepFound) : State :=
  let p := b.port
  let post := s.fld F.SWP_BURST_CFG_POST
  let at_ := fun (j : Nat) => b.tc + BitVec.ofInt 64 (((j : Int) - 63 + post) * 15625)
  let n := 64 - t.j1
  let iPre := roundNear t.preSum 8
  let iPost := roundNear t.postSum n
  let s := s.dropPending p
  let tol := max (5 * absI iPost) (s.capacity p)
  let left := (s.est.trails.getD p []).any fun (tc, i) =>
    decide ((at_ 63).toNat < tc.toNat) && decide (tol < 100 * absI (i - iPost))
  let step : EstStep := { ts := at_ t.j0, t63 := at_ 63, iPost, tol100 := tol, unsteady := left }
  let s : State := { s with est := { s.est with steps := setAt s.est.steps p (some step) } }
  (s.cellsOf p).foldl (fun s g => s.cellStep b t (at_ t.j0) iPre iPost g) s

/-- The evaluation of one burst (R211). -/
def State.evalBurst (s : State) (b : Burst) : State :=
  let p := b.port
  if !s.flag F.EST_LEARN_CFG_STEP_EN then s
  else if !b.aligned then (s.recordAll p b 5).put (F.EST_STEP_LAST p) 5
  else match qualify (s.burstI p) (s.capacity p) with
    | .inl rej => (s.recordAll p b rej).put (F.EST_STEP_LAST p) rej
    | .inr t => ((s.put (F.EST_STEP_LAST p) 0).bump (F.EST_STEP_CNT p)).takeStep b t

/-- BURST_EVALUATION (R211, R214): the oldest burst of the port that was handed over is evaluated. -/
def execBurstEvaluation (p : Fin 8) (s : State) : Host.Outcome State Fault Refusal :=
  match s.est.bursts.find? (fun b => b.port == p.val) with
  | none => .next s
  | some b =>
    let s : State := { s with est := { s.est with bursts := s.est.bursts.erase b } }
    .next (if s.estRuns then s.evalBurst b else s)

/-- The bursts of a port are handed to the engine, and the buffers re-armed (R184). -/
def State.handOver (s : State) (p : Nat) : State :=
  let x := s.port p
  match x.burstEpoch with
  | none => s
  | some e =>
    let b : Burst := { port := p, epoch := e, tc := x.burstTc, aligned := x.burstAligned, read := x.burstRead, data := x.burstData }
    (({ s with est := { s.est with bursts := s.est.bursts ++ [b] } } : State).rearmBurst p).event Ev.SWP_BURST_DONE

/-- BURST_READ_COMPLETE (R184): every reachable monitor's burst has been read. -/
def execBurstReadComplete (p : Fin 8) (s : State) : Host.Outcome State Fault Refusal :=
  let x := s.port p
  let reach := x.addressed &&& (x.reachA ||| x.reachB)
  .next (if x.burstEpoch.isSome && x.burstRead &&& reach == reach then s.handOver p else s)

/-- BURST_READ_TIMEOUT (R184): the monitors not read within 250 ms of the freeze are left out. -/
def execBurstReadTimeout (x : PortAt) (s : State) : Host.Outcome State Fault Refusal :=
  let p := s.port x.port
  .next (if p.burstEpoch.isSome && decide (p.burstTc.toNat + 62500000 ≤ x.tc.toNat) then (s.event Ev.SWP_BURST_LOST).handOver x.port else s)

/-! Start, wake, loss of retention, relearn (R225 to R228). -/

/-- Every byte of entry g is cleared. -/
def State.clearEntry (s : State) (g : Nat) : State :=
  { s with cst := s.cst.filter (fun e => decide (e.1 < 0x1000000 + 512 * g) || decide (0x1000000 + 512 * g + 512 ≤ e.1)),
           est := { s.est with loaded := s.est.loaded.set g 0, restored := s.est.restored.set g 0,
                               bleedSum := s.est.bleedSum.set g 0, segTicks := s.est.segTicks.set g 0,
                               segHigh := s.est.segHigh.set g 0, segStale := s.est.segStale.set g 0,
                               cellRest := s.est.cellRest.set g 0, cellMinute := s.est.cellMinute.set g 0 } }

/-- Cell g is restored from the newest valid copy whose UID matches; SOC only where it may be (R226, R227). -/
def State.restoreCell (s : State) (g : Nat) (lost : Bool) : State :=
  let p := strOf g
  let cap := s.capacity p
  let uid := s.fld (F.DLK_P_UID_LO_VALUE p (monOf g))
  let s := ((s.clearEntry g).putStat g stDeclared true).putStat g stSocInit true
  let s : State := { s with est := { s.est with restored := s.est.restored.set g 1 } }
  let copy := match s.newestCopy with
    | some i => s.copyOf i
    | none => []
  let found := !copy.isEmpty && leAt copy (32 + 4 * (32 * p + monOf g)) 4 == uid
  let at_ := 1056 + 8 * g
  let flags := leAt copy (at_ + 7) 1
  let q := leAt copy at_ 4
  let s := if found && flags.testBit 0 && decide (cap ≤ 2 * q) && decide (10 * q ≤ 12 * cap) then
      ((s.putCell g C.Q_LEARN q).putCell g C.LEARN_CNT (leAt copy (at_ + 6) 1)).putStat g stCapLearned true
    else ((s.putCell g C.Q_LEARN cap).putCell g C.LEARN_CNT 0).putStat g stCapDefault true
  let s := if found && flags.testBit 1 && !lost then (s.putSoc g (leAt copy (at_ + 4) 2 * 2 ^ 32)).putSocSrc g 1
    else s.putSocSrc g 3
  s.putStat g stRetLost lost

/-- CELL_RESTORE (R226): once the UIDs of its string are known, and before its first pass, the declared cell is restored. -/
def execCellRestore (g : Fin 4096) (s : State) : Host.Outcome State Fault Refusal :=
  let st := s.portState (strOf g)
  .next (if s.cellDeclared (strOf g) (monOf g) (celOf g) && s.est.restored.get g == 0 &&
      (st == portRing || st == portSplit || st == portFault) then s.restoreCell g (s.stat g stRetLost) else s)

/-- Learning of one cell starts over (R228). -/
def State.relearn (s : State) (g : Nat) : State :=
  if s.stat g stDeclared then
    let s := (s.putCell g C.Q_LEARN (s.capacity (strOf g))).putCell g C.LEARN_CNT 0
    let s := ((s.putCell g C.SEG_STATE 0).putStat g stCapLearned false).putStat g stCapDefault true
    { s with cst := s.cst.filter (fun e => decide (e.1 < 0x1000000 + 512 * g + 0x80) || decide (0x1000000 + 512 * g + 0xBC ≤ e.1)) }
  else s

/-- A write of EST_RELEARN: a cell, its monitor, or its string (R228). -/
def State.relearnScope (s : State) (scope g : Nat) : State :=
  if s.blockDormant 6 then s
  else match scope with
    | 0 => s.relearn g
    | 1 => (List.range 16).foldl (fun s c => s.relearn (g / 16 * 16 + c)) s
    | 2 => (List.range 512).foldl (fun s i => s.relearn (g / 512 * 512 + i)) s
    | _ => s

/-- RELEARN_CELL (R228). -/
def execRelearnCell (g : Fin 4096) (s : State) : Host.Outcome State Fault Refusal := .next (s.relearnScope 0 g)
/-- RELEARN_MONITOR (R228). -/
def execRelearnMonitor (g : Fin 4096) (s : State) : Host.Outcome State Fault Refusal := .next (s.relearnScope 1 g)
/-- RELEARN_STRING (R228). -/
def execRelearnString (g : Fin 4096) (s : State) : Host.Outcome State Fault Refusal := .next (s.relearnScope 2 g)

/-- The entries at a start, or at a wake from Deep standby or Off: every entry cleared, DECLARED set; the FRAM copies are judged (R226, R232). -/
def State.estStart (s : State) : State :=
  let e := s.est
  let s : State := { s with cst := [], est := { Est.reset with copyA := e.copyA, copyB := e.copyB, lastWb := e.lastWb } }
  let s := forUpTo 4096 (fun g s => if s.cellDeclared (strOf g) (monOf g) (celOf g) then s.putStat g stDeclared true else s) s
  let va := copyValid e.copyA
  let vb := copyValid e.copyB
  let s := (s.putFlag F.EST_WB_STAT_A_VALID va).putFlag F.EST_WB_STAT_B_VALID vb
  let s := s.put F.EST_WB_SEQ_SEQ s.newestSeq
  (s.putFlag F.EST_STAT_CAP_LOST (!va && !vb)).eventIf (!va && !vb) Ev.EST_CAP_LOST

/-- The entries at a wake from Standby: an OPEN segment is disqualified, pending points drop, SOC is carried (R225). DESIGN CHOICE (log entry 179): this disqualification sets EST_EVT.LEARN_REJ like every other; R225 does not say so. -/
def State.estWake (s : State) : State :=
  forUpTo 4096 (fun g s =>
    if s.stat g stDeclared then
      let s := if s.cell g C.SEG_STATE = 1 then s.disqualify g ocPowerCycle else s
      let s := [1, 2].foldl (fun s i => s.putCell g (C.Z_FLAGS i) (s.cell g (C.Z_FLAGS i) % 2)) s
      let s : State := { s with est := { s.est with loaded := s.est.loaded.set g 0 } }
      (s.putStat g stSocInit true).putSocSrc g 0
    else s) { s with est := { s.est with steps := List.replicate 8 none, bursts := [], restStart := none } }

end Sys2Proof.Machine
end

