-- ==== Sys2Proof/Machine/Trim.lean ====
section
/-! DEFINITION. Trim.lean: the trimmers' states and their trip input (R298, R299), which the island's events move. -/
namespace Sys2Proof.Machine

open Sys2Proof

/-- The record of trimmer n. -/
def State.trim (s : State) (n : Nat) : Trim := s.cte.trims.getD n Trim.reset

/-- Replace the record of a trimmer. -/
def State.setTrim (s : State) (n : Nat) (x : Trim) : State :=
  { s with cte := { s.cte with trims := setAt s.cte.trims n x } }

/-! States of CTE_TRIMs_STAT.STATE (R299). -/
def trimOff : Nat := 0
def trimBypass : Nat := 1
def trimRun : Nat := 2

/-- The state of trimmer n. -/
def State.trimState (s : State) (n : Nat) : Nat := s.fld (F.CTE_TRIM_STAT_STATE n)

/-- CTE is dormant (R271). -/
def State.cteDormant (s : State) : Bool := s.blockDormant 9

/-- The trip input of trimmer n (R298); 6 is CLOSED. -/
def State.tripInput (s : State) (n : Nat) : Bool :=
  s.fld (F.BRK_S_STAT_STATE n) != 6 || s.bit F.PRT_TWILL_OUT_Y n || s.bit F.PRT_TWILL_OUT_Y (8 + n) ||
  s.flag F.PRT_STAT_ISL_FAULT || s.flag F.PRT_STAT_REMOVE

/-- The trimmer enters BYPASS: the applied m reads 0 (R299). -/
def State.toBypass (s : State) (n : Nat) : State :=
  let s := s.setTrim n { s.trim n with shadow := none }
  (s.put (F.CTE_TRIM_STAT_STATE n) trimBypass).put (F.CTE_TRIM_M_M n) 0

/-- The zero-voltage state at once (R298). -/
def State.zeroNow (s : State) (n : Nat) : State := s.setTrim n { s.trim n with gate := .zero, gateNext := none }

/-- A running trimmer leaves RUN for a trip, a stream loss or FAULT (R299). -/
def State.tripBypass (s : State) (n : Nat) : State := ((s.toBypass n).zeroNow n).event Ev.CTE_TRIM_BYP

/-- The trip input of one trimmer is formed again; its activity bypasses a running trimmer, and brings the zero-voltage state to one that still drives its legs after a STOP (R298, R299). -/
def State.trimTrip (s : State) (n : Nat) : State :=
  let b := s.tripInput n
  let s := s.putFlag (F.CTE_TRIM_STAT_TRIP_IN n) b
  if b && s.trimState n == trimRun then s.tripBypass n
  else if b && (s.trim n).gate == .pwm then s.zeroNow n
  else s

/-- The trip inputs after an event of the island. -/
def State.trimTrips (s : State) : State := if s.cteDormant then s else forUpTo 8 (fun n s => s.trimTrip n) s

end Sys2Proof.Machine
end

