-- ==== Sys2Proof/Machine/Prt.lean ====
section
/-! DEFINITION. Prt.lean: the protection island's trip side (R234 to R253, R261, R262, R269): the Twill, the breaker pairs, the contactor drivers, the trip record and the capture buffer. -/
namespace Sys2Proof.Machine

open Sys2Proof

/-- The island's record of string n. -/
def State.isl (s : State) (n : Nat) : IslandString := s.prt.strs.getD n IslandString.reset

/-- Replace the island's record of a string. -/
def State.setIsl (s : State) (n : Nat) (x : IslandString) : State :=
  { s with prt := { s.prt with strs := setAt s.prt.strs n x } }

/-- The island is armed (R236). -/
def State.armed (s : State) : Bool := s.flag F.PRT_STAT_ARMED

/-! Section 0x0004 (R249). -/

/-- A field of string record n. -/
def State.prtStr (s : State) (n off len : Nat) : Nat := s.img 4 (64 * n + off) len
/-- A field of driver record k. -/
def State.prtDrv (s : State) (k off len : Nat) : Nat := s.img 4 (512 + 8 * k + off) len
/-- A field of the bank record. -/
def State.prtBank (s : State) (off len : Nat) : Nat := s.img 4 (960 + off) len
/-- The input mask of output j. -/
def State.outMask (s : State) (j : Nat) : BitVec 64 := BitVec.ofNat 64 (s.img 4 (800 + 8 * j) 8)
/-- The latch-class inputs. -/
def State.latchClass (s : State) : BitVec 64 :=
  (List.range 64).foldl (fun (m : BitVec 64) i => if (s.img 4 (736 + i) 1).testBit 0 then m ||| BitVec.ofNat 64 (2 ^ i) else m) 0

/-- T_BRK_OPEN in ticks. -/
def State.tBrkOpen (s : State) (n : Nat) : Nat := 250 * s.prtStr n 34 2
/-- T_BRK_CLOSE in ticks. -/
def State.tBrkClose (s : State) (n : Nat) : Nat := 25000 * s.prtStr n 36 2
/-- T_CLOSE and T_OPEN of a driver in ticks. -/
def State.tClose (s : State) (k : Nat) : Nat := 2500000 * s.prtDrv k 6 1
def State.tOpen (s : State) (k : Nat) : Nat := 2500000 * s.prtDrv k 7 1

/-- At least so many ticks have passed since an instant. -/
def passed (now since : Tc) (ticks : Nat) : Bool := decide (ticks ≤ (now - since).toNat)

/-! String states (R258). -/
def ssOpen : Nat := 0
def ssCloseMn : Nat := 1
def ssClosePc : Nat := 2
def ssPrecharge : Nat := 3
def ssCloseMp : Nat := 4
def ssReleasePc : Nat := 5
def ssClosed : Nat := 6
def ssHold : Nat := 7
def ssOpening : Nat := 8
def ssDrop : Nat := 9
def ssTripped : Nat := 10
def ssLockout : Nat := 11

/-- The state of string n. -/
def State.strState (s : State) (n : Nat) : Nat := s.fld (F.BRK_S_STAT_STATE n)

/-! Breaker pairs (R251). -/
def pairUndriven : Nat := 0
def pairOpen : Nat := 1
def pairClose : Nat := 2

/-- What either channel's latches hold (R246). -/
def Prt.latch (p : Prt) : BitVec 20 := p.ch1.latch ||| p.ch2.latch

/-- The two channels differ: in what they see, in their latches or in their outputs (R235). -/
def Prt.differ (p : Prt) : Bool := p.skew != 0 || p.ch1.latch != p.ch2.latch || p.ch1.out != p.ch2.out

/-- The sample bits that the island's state gives for string n: pair in close drive, BST, BFLT, channel difference (R262). -/
def State.sampleBits (s : State) (n : Nat) : BitVec 4 :=
  BitVec.ofNat 4 (bitN (s.fld (F.BRK_S_STAT_PAIR n) == pairClose) + 2 * bitN (s.flag (F.BRK_S_STAT_BST n)) +
    4 * bitN (s.flag (F.BRK_S_STAT_BFLT n)) + 8 * bitN s.prt.differ)

/-- The capture buffer's record of those bits follows a change (R262). -/
def State.noteBits (s : State) (n : Nat) (tc : Tc) : State :=
  let x := s.isl n
  let b := s.sampleBits n
  if x.ring.head?.map (·.2) == some b then s else s.setIsl n { x with ring := ((tc, b) :: x.ring).take 64 }

/-- A bit of a vector takes a value. -/
def putBitV {w : Nat} (v : BitVec w) (i : Nat) (b : Bool) : BitVec w :=
  if b then v ||| BitVec.ofNat w (2 ^ i) else v &&& ~~~(BitVec.ofNat w (2 ^ i))

/-- Both channels enable, or both disable, the breaker driver of string n (R234). -/
def State.enableBrk (s : State) (n : Nat) (b : Bool) : State :=
  { s with prt := { s.prt with
      ch1 := { s.prt.ch1 with brk := putBitV s.prt.ch1.brk n b }
      ch2 := { s.prt.ch2 with brk := putBitV s.prt.ch2.brk n b } } }

/-- Both channels switch a contactor driver on, or both off (R234, R253). -/
def State.enableCoil (s : State) (k : Nat) (b : Bool) : State :=
  { s with prt := { s.prt with
      ch1 := { s.prt.ch1 with coil := putBitV s.prt.ch1.coil k b }
      ch2 := { s.prt.ch2 with coil := putBitV s.prt.ch2.coil k b } } }

/-- The pair of string n shows a drive. -/
def State.showPair (s : State) (n d : Nat) (tc : Tc) : State :=
  if s.fld (F.BRK_S_STAT_PAIR n) == d then s
  else ((s.put (F.BRK_S_STAT_PAIR n) d).setIsl n { s.isl n with pairSince := tc, failOpen := false }).noteBits n tc

/-- The pair of string n goes to a drive, in close drive only with both channels' enables (R234); a pair of an island that is not armed stays undriven. -/
def State.setPair (s : State) (n d : Nat) (tc : Tc) : State :=
  if !s.armed then s else (s.enableBrk n (d == pairClose)).showPair n d tc

/-- A direct latch removes its own channel's enable of the breaker driver: SC that of channel 1, OC that of channel 2; either alone opens the breaker (R234, R239). -/
def State.cutPair (s : State) (n : Nat) (path : DirectPath) (tc : Tc) : State :=
  if !s.armed then s
  else
    let s : State := match path with
      | .sc => { s with prt := { s.prt with ch1 := { s.prt.ch1 with brk := putBitV s.prt.ch1.brk n false } } }
      | .oc => { s with prt := { s.prt with ch2 := { s.prt.ch2 with brk := putBitV s.prt.ch2.brk n false } } }
    s.showPair n pairOpen tc

/-- The pair goes to open drive. -/
def State.openPair (s : State) (n : Nat) (tc : Tc) : State := s.setPair n pairOpen tc

/-- The pair goes to close drive, unless an output, an island fault or the removal loop holds it open (R234, R245). -/
def State.closePair (s : State) (n : Nat) (tc : Tc) : State :=
  if s.bit F.PRT_TWILL_OUT_Y n || s.bit F.PRT_TWILL_OUT_Y (8 + n) || s.flag F.PRT_STAT_ISL_FAULT || s.flag F.PRT_STAT_REMOVE then s
  else s.setPair n pairClose tc

/-! Contactor drivers (R253 to R255). -/

/-- The driver is verified in a state: closed or open (R255). -/
def State.verified (s : State) (k : Nat) (closed : Bool) : Bool :=
  let mirror := (s.prtDrv k 0 1).testBit 1
  if closed then decide (s.prtBank 14 2 ≤ s.fld (F.BRK_CON_IMA k)) && (!mirror || s.flag (F.BRK_CON_MIRROR k))
  else decide (s.fld (F.BRK_CON_IMA k) < 10) && (!mirror || !s.flag (F.BRK_CON_MIRROR k))

/-- VERIFIED shows the driver verified in its commanded state. -/
def State.updateVerified (s : State) (k : Nat) : State :=
  s.putFlag (F.BRK_CON_VERIFIED k) (s.verified k (s.flag (F.BRK_CON_ENERGISED k)))

/-- A fault of code 5 to 7 ends once the driver is verified in the state commanded (R255). -/
def State.endFault (s : State) (k : Nat) : State :=
  if s.flag (F.BRK_CON_VERIFIED k) && s.prt.conFaults.getD k 0 != 0 then
    let s : State := { s with prt := { s.prt with conFaults := setAt s.prt.conFaults k 0 } }
    if s.fld (F.BRK_CON_FAULT k) < 9 then s.put (F.BRK_CON_FAULT k) 0 else s
  else s

/-- An output keeps the driver de-energised (R245). -/
def State.driverHeld (s : State) (k : Nat) : Bool :=
  if k < 24 then s.bit F.PRT_TWILL_OUT_Y (8 + k / 3) else s.bit F.PRT_TWILL_OUT_Y (16 + (k - 24))

/-- A driver of the same string, or the auxiliary driver itself, holds TEST_FAIL or TEST_OVERDUE (R329). -/
def State.testHeld (s : State) (k : Nat) : Bool :=
  let ks := if k < 24 then [k / 3 * 3, k / 3 * 3 + 1, k / 3 * 3 + 2] else [k]
  ks.any fun k => decide (9 ≤ s.fld (F.BRK_CON_FAULT k))

/-- A test pulse is over: the coil-current check of its driver is suspended until 1 ms after an off-pulse (R328). -/
def State.pulseOver (s : State) (p : TestPulse) (tc : Tc) : State :=
  { s with saf := { s.saf with pulse := none, offEnds := if p.off then setAt s.saf.offEnds p.driver (some tc) else s.saf.offEnds } }

/-- Nothing waits for the end of a pulse. -/
def State.dropDue (s : State) : State := { s with saf := { s.saf with energiseDue := [] } }

/-- A demand truncates a test pulse on one of some drivers: the result is discarded, the rotation does not advance (R330). -/
def State.truncatePulse (s : State) (on : Nat → Bool) (tc : Tc) : State :=
  match s.saf.pulse with
  | some p =>
    if on p.driver then ((s.pulseOver p tc).dropDue.put F.SAF_TP_STAT_ACTIVE 0).event Ev.SAF_TP_TRUNC
    else s
  | none => s

/-- An on-pulse runs on the driver. -/
def State.onPulse (s : State) (k : Nat) : Bool :=
  match s.saf.pulse with
  | some p => p.driver == k && !p.off
  | none => false

/-- The driver is switched; energising needs an armed island, no output that forbids it and no test fault, and waits for an on-pulse to end; de-energising truncates a pulse (R245, R329, R330). -/
def State.energise (s : State) (k : Nat) (on : Bool) (tc : Tc) : State :=
  let s := if on then s else s.truncatePulse (· == k) tc
  if !s.flag (F.BRK_CON_USED k) || s.flag (F.BRK_CON_ENERGISED k) == on || (on && (s.driverHeld k || !s.armed || s.testHeld k)) then s
  else if on && s.onPulse k then { s with saf := { s.saf with energiseDue := k :: s.saf.energiseDue } }
  else
    let s := (((s.enableCoil k on).putFlag (F.BRK_CON_ENERGISED k) on).put (F.BRK_CON_ECONOMY k) 0).recCountIf on (cntEnergise k)
    (({ s with prt := { s.prt with driverTc := setAt s.prt.driverTc k tc } } : State).updateVerified k).endFault k

/-- MN, MP and PC of string n are de-energised. -/
def State.dropContactors (s : State) (n : Nat) (tc : Tc) : State :=
  [3 * n, 3 * n + 1, 3 * n + 2].foldl (fun s k => s.energise k false tc) s

/-- Every coil is de-energised. -/
def State.dropAll (s : State) (tc : Tc) : State := forUpTo 28 (fun k s => s.energise k false tc) s

/-! Trip record (R261, R264). -/

/-- The inputs masked into the outputs of string n. -/
def State.stringMask (s : State) (n : Nat) : BitVec 64 := s.outMask n ||| s.outMask (8 + n)

/-- A span in units of 10 ns, saturating at 0xFFFF. -/
def span10ns (ticks : Nat) : Nat := min 65535 (roundOpen (4 * ticks : Nat) 10).toNat

/-- The direct inputs of string n appear in a cause. -/
def directIn (n : Nat) (cause : BitVec 64) : Bool := cause.getLsbD n || cause.getLsbD (8 + n)

/-- The trip records counted towards lockout within LOCK_WIN (R264). -/
def State.pruneLock (s : State) (n : Nat) (tc : Tc) : State :=
  let x := s.isl n
  let keep := x.direct.filter (fun t => decide ((tc - t).toNat < s.prtBank 19 1 * minuteTicks))
  (s.setIsl n { x with direct := keep }).put (F.PRT_S_CAP_STAT_LOCK_CNT n) (min 15 keep.length)

/-- The trip record is written; a record with a direct cause counts towards lockout (R261, R264). -/
def State.tripRecord (s : State) (n : Nat) (at_ : Tc) (cause : BitVec 64) : State :=
  let x := s.isl n
  let s := (s.wr64 (F.PRT_S_TRIP_TC_LO_VALUE n).addr at_).wr64 (F.PRT_S_TRIP_CAUSE_LO_VALUE n).addr cause
  let s := (s.put (F.PRT_S_TRIP_INFO_BRK_TIME n) (if x.brkFrom.isSome then 0 else x.brkTime)).bump (F.PRT_S_TRIP_INFO_CNT n)
  let s := s.setIsl n { x with trip := none, direct := if directIn n cause then at_ :: x.direct else x.direct }
  s.pruneLock n at_

/-- The Twill first sees a trip: its instant and inputs are kept, the breaker time starts, the capture buffer runs to its end or is missed (R261, R262). -/
def State.seeTrip (s : State) (n : Nat) (tc : Tc) (cause : BitVec 64) : State :=
  let x := s.isl n
  let closed := s.flag (F.BRK_S_STAT_BST n)
  let heldBuf := s.flag (F.PRT_S_CAP_STAT_HELD n)
  let s := s.setIsl n { x with
    trip := some (tc, cause)
    brkFrom := if closed then some tc else none
    brkTime := 0
    capDue := x.capDue || !heldBuf
    capTc := if x.capDue then x.capTc else tc }
  s.eventIf heldBuf Ev.PRT_CAP_MISSED

/-! The Twill (R244 to R247). -/

/-- A breaker fault is present on string n, apart from the one-clock codes (R252). -/
def State.brkPresent (s : State) (n : Nat) : Bool := (s.isl n).failOpen || s.flag (F.BRK_S_STAT_BFLT n)

/-- A contactor fault of code 5 to 7 is present on a driver (R244, R255). -/
def State.conPresent (s : State) : Bool := s.prt.conFaults.any (· != 0)

/-- One input of the Twill from the state of the island (R244). -/
def State.twillInput (s : State) (i : Nat) : Bool :=
  let n := i % 8
  if !(decide (56 ≤ i) || s.declared n) then false
  else match i / 8 with
    | 0 => (s.isl n).sc.isSome
    | 1 => (s.isl n).oc.isSome
    | 2 => (s.isl n).foc
    | 3 => (s.isl n).didt
    | 4 => s.fldSnap (F.SWP_LIMIT_FLAGS n) &&& s.prtStr n 32 1 &&& 0x7F != 0
    | 5 => s.fldSnap (F.SWP_LIMIT_FLAGS n) &&& s.prtStr n 33 1 &&& 0x7F != 0
    | 6 => s.brkPresent n
    | _ =>
      match n with
      | 0 => s.fld F.PRT_IMD_STAT_ROLE != 0 && s.fld F.PRT_IMD_STAT_RESULT == 3
      | 1 => s.fld F.PRT_IMD_STAT_ROLE != 0 && (s.flag F.PRT_IMD_STAT_COLLAPSE || s.flag F.PRT_IMD_STAT_FOREIGN)
      | 5 => s.conPresent
      | 6 => (List.range 8).any fun n => (s.isl n).pcTimeout
      | _ => s.prt.given.getLsbD i

/-- The 64 inputs. -/
def State.twillInputs (s : State) : BitVec 64 :=
  (List.range 64).foldl (fun (x : BitVec 64) i => if s.twillInput i then x ||| BitVec.ofNat 64 (2 ^ i) else x) 0

/-- The outputs whose masked inputs of a class are active. -/
def State.outputsOf (s : State) (x : BitVec 64) : BitVec 20 :=
  (List.range 20).foldl (fun (y : BitVec 20) j => if x &&& s.outMask j != 0 then y ||| BitVec.ofNat 20 (2 ^ j) else y) 0

/-- An output Y(8+s) that is no longer active keeps no contactors waiting (R245). -/
def State.endDrop (s : State) (n : Nat) (now : BitVec 20) : State :=
  if !now.getLsbD (8 + n) && (s.isl n).dropY.isSome then s.setIsl n { s.isl n with dropY := none } else s

/-- One string under the outputs: the pair opens, the contactors wait for the breaker, a trip is seen (R245, R261). -/
def State.twillString (s : State) (n : Nat) (before now : BitVec 20) (x : BitVec 64) (tc : Tc) : State :=
  let act := now.getLsbD n || now.getLsbD (8 + n)
  if !act || !s.declared n then s
  else
    let was := before.getLsbD n || before.getLsbD (8 + n)
    let st := s.strState n
    let s := s.setIsl n { s.isl n with seen := true }
    let s := if !was && (s.isl n).trip.isNone && st != ssTripped && st != ssLockout then s.seeTrip n tc (x &&& s.stringMask n) else s
    let s := s.openPair n tc
    let s := if now.getLsbD (8 + n) && !before.getLsbD (8 + n) then s.truncatePulse (fun k => k < 24 && k / 3 == n) tc else s
    if now.getLsbD (8 + n) && !before.getLsbD (8 + n) then
      if s.flag (F.BRK_S_STAT_BST n) then s.setIsl n { s.isl n with dropY := some tc } else s.dropContactors n tc
    else s

/-- A channel's latches after a clock on which it sees the inputs x (R246). -/
def State.latchOf (s : State) (c : Channel) (x : BitVec 64) : BitVec 20 := c.latch ||| s.outputsOf (x &&& s.latchClass)

/-- A channel's outputs with its latches and the inputs x (R246). -/
def State.outOf (s : State) (latch : BitVec 20) (x : BitVec 64) : BitVec 20 := latch ||| s.outputsOf (x &&& ~~~s.latchClass)

/-- Every declared breaker reads open (R237). -/
def State.allOpen (s : State) : Bool := (List.range 8).all fun n => !s.declared n || !s.flag (F.BRK_S_STAT_BST n)

/-- The contactors of an island fault are de-energised once every breaker reads open (R237). -/
def State.faultCoils (s : State) (tc : Tc) : State :=
  if s.flag F.PRT_STAT_ISL_FAULT && s.allOpen then s.dropAll tc else s

/-- An island fault: every pair is driven open, ISL_FAULT is set, the contactors follow the breakers (R237). -/
def State.islandFault (s : State) (tc : Tc) : State :=
  let s := forUpTo 8 (fun n s => s.openPair n tc) s
  let s := s.put F.PRT_STAT_ISL_FAULT 1
  (({ s with prt := { s.prt with faultTc := tc } } : State).faultCoils tc).trimTrips

/-- The channels agree again; a difference that was short sets DISC (R235). -/
def State.channelsAgree (s : State) (short : Bool) (tc : Tc) : State :=
  forUpTo 8 (fun n s => s.noteBits n tc) (({ s with prt := { s.prt with diffTc := none } } : State).eventIf short Ev.PRT_DISC)

/-- The channels are compared (R235): a difference begins, or ends; one that has lasted 100 clocks is an island fault, a shorter one sets DISC as it ends. -/
def State.compareChannels (s : State) (tc : Tc) : State :=
  let long := fun (t : Tc) => passed tc t 250
  match s.prt.diffTc with
  | none =>
    if s.prt.differ then
      forUpTo 8 (fun n s => s.noteBits n tc) { s with prt := { s.prt with diffTc := some tc } }
    else s
  | some t =>
    let s := if long t && !s.flag F.PRT_STAT_ISL_FAULT then s.islandFault tc else s
    if s.prt.differ then s else s.channelsAgree (!long t) tc

/-- The Twill on one island clock: both channels' inputs, latches and outputs, and what the outputs do, of which either channel's acts; `pulse` holds inputs active for this clock alone (R234, R244 to R247). -/
def State.twill (s : State) (pulse : BitVec 64) (tc : Tc) : State :=
  if !s.armed then s
  else
    let steady := s.twillInputs
    let x1 := steady ||| pulse
    let x2 := x1 ^^^ s.prt.skew
    let l1 := s.latchOf s.prt.ch1 x1
    let l2 := s.latchOf s.prt.ch2 x2
    let sets := s.outputsOf (x1 &&& s.latchClass) ||| s.outputsOf (x2 &&& s.latchClass)
    let before := BitVec.ofNat 20 (s.fld F.PRT_TWILL_OUT_Y)
    let now := s.outOf l1 x1 ||| s.outOf l2 x2
    let y1 := s.outOf l1 steady
    let y2 := s.outOf l2 (steady ^^^ s.prt.skew)
    let s : State := { s with prt := { s.prt with
      ch1 := { s.prt.ch1 with latch := l1, out := y1 }
      ch2 := { s.prt.ch2 with latch := l2, out := y2 }
      latchTc := (List.range 20).foldl (fun l j => if sets.getLsbD j then setAt l j tc else l) s.prt.latchTc
      auxTc := (List.range 4).foldl (fun l a => if now.getLsbD (16 + a) && !before.getLsbD (16 + a) then setAt l a tc else l) s.prt.auxTc } }
    let s := (s.put F.PRT_TWILL_IN_LO_X steady.toNat).put F.PRT_TWILL_IN_HI_X (steady.toNat / 2 ^ 32)
    let s := s.put F.PRT_TWILL_OUT_Y now.toNat
    let s := forUpTo 8 (fun n s => s.twillString n before now (x1 ||| x2) tc) s
    let s := forUpTo 4 (fun a s => if now.getLsbD (16 + a) && (!before.getLsbD (16 + a) || s.flag (F.BRK_CON_ENERGISED (24 + a))) then s.energise (24 + a) false tc else s) s
    let s := (s.trimTrips).put F.PRT_TWILL_OUT_Y (y1 ||| y2).toNat
    let s := forUpTo 8 (fun n s => s.endDrop n (y1 ||| y2)) s
    s.trimTrips.compareChannels tc

/-- An input given from outside the island changes (X58, X59, X60). -/
def State.giveInput (s : State) (i : Nat) (b : Bool) (tc : Tc) : State :=
  let m := BitVec.ofNat 64 (2 ^ i)
  ({ s with prt := { s.prt with given := if b then s.prt.given ||| m else s.prt.given &&& ~~~m } } : State).twill 0 tc

/-- Clear latches in both channels and evaluate the outputs again (R263). -/
def State.clearLatches (s : State) (js : List Nat) (tc : Tc) : State :=
  let m := js.foldl (fun (m : BitVec 20) j => m ||| BitVec.ofNat 20 (2 ^ j)) 0
  ({ s with prt := { s.prt with
      ch1 := { s.prt.ch1 with latch := s.prt.ch1.latch &&& ~~~m }
      ch2 := { s.prt.ch2 with latch := s.prt.ch2.latch &&& ~~~m } } } : State).twill 0 tc

/-- A masked latch-class input of an output is active (R257 code 8, R263). -/
def State.causeActive (s : State) (j : Nat) : Bool := s.twillInputs &&& s.latchClass &&& s.outMask j != 0

/-! Breaker faults (R252). -/

/-- A breaker fault is detected: FAULT shows its code; code 1 drops the contactors, code 2 returns the pair to open drive; codes 2 and 3 are present for one island clock (R248, R252). -/
def State.brkFault (s : State) (n c : Nat) (tc : Tc) : State :=
  let s := s.put (F.BRK_S_STAT_FAULT n) c
  let s := s.setIsl n { s.isl n with arose := true, failOpen := c == 1 || (s.isl n).failOpen }
  let s := if c = 1 then s.dropContactors n tc else if c = 2 then s.openPair n tc else s
  s.twill (if c == 2 || c == 3 then BitVec.ofNat 64 (2 ^ (48 + n)) else 0) tc

/-- Every breaker opened and every contactor de-energised: safe stop and restart (R46, R93). -/
def State.allSafe (s : State) (tc : Tc) : State :=
  (forUpTo 8 (fun n s => s.openPair n tc) s).dropAll tc

/-! Meanings of the trip side. -/

/-- The sensor full scale of string n in A times 2^16 and times 2^GAIN: range in V × |SCALE| (R238, R422). -/
def State.fullScale (s : State) (n : Nat) : Nat :=
  (if s.senseType n = 1 then 10 else 5) * (s.senseScale n).natAbs

/-- A level in 0.1 A as a number of reference code steps, rounded toward zero: one step is 1/2,048 of the full scale (R238). -/
def State.levelCode (s : State) (n level : Nat) : Nat :=
  let g := if s.senseType n = 1 then 1 else 2 ^ s.fld (F.AFE_S_CFG_GAIN n)
  level * 2048 * 65536 * g / (10 * s.fullScale n)

/-- A path with these levels is active at an input, both in code steps (R238): I ≥ charge level or I ≤ −discharge level, codes limited to +2,047 and −2,048; at a code of 0 every input but 0 counts (R241). -/
def State.pathActive (s : State) (n chg dis : Nat) (i : BitVec 12) : Bool :=
  let c := min 2047 (s.levelCode n chg)
  let d := min 2048 (s.levelCode n dis)
  let x := i.toInt
  x != 0 && (decide ((c : Int) ≤ x) || decide (x ≤ -(d : Int)))

/-- A direct path is active at an input of its comparator (R238, R239). -/
def State.directActive (s : State) (n : Nat) (path : DirectPath) (i : BitVec 12) : Bool :=
  match path with
  | .sc => s.pathActive n (s.fld (F.PRT_S_SC_CHG n)) (s.fld (F.PRT_S_SC_DIS n)) i
  | .oc => s.pathActive n (s.fld (F.PRT_S_OC_CHG n)) (s.fld (F.PRT_S_OC_DIS n)) i

/-- A filtered path's raw comparator is active at its input, FOC at the level in effect, DIDT at its one level for both signs (R238, R240, R241). -/
def State.filteredActive (s : State) (n : Nat) (path : FilteredPath) (i : BitVec 12) : Bool :=
  match path with
  | .foc => s.pathActive n (s.fld (F.PRT_S_FOC_EFF_CHG n)) (s.fld (F.PRT_S_FOC_EFF_DIS n)) i
  | .didt => s.pathActive n (s.fld (F.PRT_S_DIDT_LEVEL n)) (s.fld (F.PRT_S_DIDT_LEVEL n)) i

/-- At an input beyond the path's level the direct latch sets and opens the breaker of its string through its own channel; the Twill sees it; a string already TRIPPED gets a new record (R239, R258, R261). -/
def State.directTrip (s : State) (n : Nat) (path : DirectPath) (i : BitVec 12) (tc : Tc) : State :=
  if !s.armed || !s.declared n || !s.directActive n path i then s
  else
    let x := s.isl n
    let was := match path with
      | .sc => x.sc.isSome
      | .oc => x.oc.isSome
    let s := s.setIsl n (match path with
      | .sc => { x with sc := some tc }
      | .oc => { x with oc := some tc })
    let s := (s.cutPair n path tc).twill 0 tc
    if s.strState n = ssTripped ∧ !was then
      let cause := s.twillInputs &&& s.stringMask n
      (s.seeTrip n tc cause).tripRecord n tc cause
    else s

/-- SC_OC_CROSSING (R239). -/
def execScOcCrossing (n : Fin 8) (path : DirectPath) (x : SensedAt) (s : State) : Host.Outcome State Fault Refusal := .next (s.directTrip n path x.code x.tc)

/-- DIRECT_LATCH_CLEAR (R239): at the first inactive clock, not before 4 clocks, which are 40 ns. -/
def execDirectLatchClear (n : Fin 8) (path : DirectPath) (tc : Tc) (s : State) : Host.Outcome State Fault Refusal :=
  let x := s.isl n
  let old := fun (o : Option Tc) => match o with
    | some t => passed tc t 10
    | none => false
  match path with
  | .sc => .next (if old x.sc then (s.setIsl n { x with sc := none }).twill 0 tc else s)
  | .oc => .next (if old x.oc then (s.setIsl n { x with oc := none }).twill 0 tc else s)

/-- A filtered path's Twill input changes (R240). -/
def State.setFiltered (s : State) (n : Nat) (path : FilteredPath) (b : Bool) (tc : Tc) : State :=
  if !s.armed || !s.declared n then s
  else match path with
    | .foc => (s.setIsl n { s.isl n with foc := b }).twill 0 tc
    | .didt => (s.setIsl n { s.isl n with didt := b }).twill 0 tc

/-- The active clocks of a filtered path by an instant: those since its last inactive one; 5 ticks are 2 clocks (R240). -/
def State.filterCount (s : State) (n : Nat) (path : FilteredPath) (tc : Tc) : Nat :=
  match path with
  | .foc => 2 * (tc - (s.isl n).focTc).toNat / 5
  | .didt => 2 * (tc - (s.isl n).didtTc).toNat / 5

/-- The filter length of a path in clocks (R240). -/
def State.filterLen (s : State) (n : Nat) (path : FilteredPath) : Nat :=
  match path with
  | .foc => s.fld (F.PRT_S_DIDT_FOC_FILT n)
  | .didt => s.fld (F.PRT_S_DIDT_DIDT_FILT n)

/-- FILTERED_PATH_EXPIRY (R240): the raw comparator is active and its count has reached the filter length. -/
def execFilteredPathExpiry (n : Fin 8) (path : FilteredPath) (x : SensedAt) (s : State) : Host.Outcome State Fault Refusal :=
  .next (if s.filteredActive n path x.code && decide (s.filterLen n path ≤ s.filterCount n path x.tc) then s.setFiltered n path true x.tc else s)

/-- The count of a filtered path restarts (R240). -/
def State.restartCount (s : State) (n : Nat) (path : FilteredPath) (tc : Tc) : State :=
  match path with
  | .foc => s.setIsl n { s.isl n with focTc := tc }
  | .didt => s.setIsl n { s.isl n with didtTc := tc }

/-- FILTERED_PATH_INACTIVE (R240): an inactive clock restarts the count and ends the Twill input. -/
def execFilteredPathInactive (n : Fin 8) (path : FilteredPath) (tc : Tc) (s : State) : Host.Outcome State Fault Refusal :=
  .next ((s.restartCount n path tc).setFiltered n path false tc)

/-- ISLAND_FAULT (R235, R237): from this clock channel 2 sees the inputs of `skew` otherwise than channel 1; the channels are compared. -/
def execIslandFault (x : SkewAt) (s : State) : Host.Outcome State Fault Refusal :=
  let s : State := { s with prt := { s.prt with skew := x.skew } }
  .next (if s.armed then s.twill 0 x.tc else s.compareChannels x.tc)

/-- ISLAND_FAULT_COIL_TIMEOUT (R237): 5 ms after the fault every contactor is de-energised. -/
def execIslandFaultCoilTimeout (tc : Tc) (s : State) : Host.Outcome State Fault Refusal :=
  .next (if s.flag F.PRT_STAT_ISL_FAULT && passed tc s.prt.faultTc 1250000 then s.dropAll tc else s)

/-- BST changes inside the interval of code 1 or 2 after the pair's last change (R252). -/
def State.bstExpected (s : State) (n : Nat) (tc : Tc) : Bool :=
  let w := if s.fld (F.BRK_S_STAT_PAIR n) == pairClose then s.tBrkClose n else s.tBrkOpen n
  decide ((tc - (s.isl n).pairSince).toNat ≤ w)

/-- The breaker of string n reads open: the opening time of its trip ends, waiting contactors drop (R245, R261). -/
def State.brkOpened (s : State) (n : Nat) (tc : Tc) : State :=
  let x := s.isl n
  let s := match x.brkFrom with
    | some t =>
      let d := span10ns (tc - t).toNat
      let s := s.setIsl n { x with brkFrom := none, brkTime := d }
      if x.trip.isNone then s.put (F.PRT_S_TRIP_INFO_BRK_TIME n) d else s
    | none => s
  let s := s.setIsl n { s.isl n with failOpen := false }
  let s := if (s.isl n).dropWait || (s.isl n).dropY.isSome then (s.setIsl n { s.isl n with dropWait := false, dropY := none }).dropContactors n tc else s
  s.faultCoils tc

/-- BREAKER_STATUS_CHANGE (R252): the filtered BST changes. -/
def execBreakerStatusChange (n : Fin 8) (closed : Bool) (tc : Tc) (s : State) : Host.Outcome State Fault Refusal :=
  if s.flag (F.BRK_S_STAT_BST n) == closed || !s.declared n then .next s
  else
    let expected := s.bstExpected n tc
    let s := (s.putFlag (F.BRK_S_STAT_BST n) closed).noteBits n tc
    let s := if closed then
        (if s.strState n == ssPrecharge && (s.isl n).preStart.isNone then s.setIsl n { s.isl n with preStart := some tc } else s)
      else s.brkOpened n tc
    .next (if expected then s.twill 0 tc else s.brkFault n 3 tc)

/-- BFLT_CHANGE (R252): BRK_DRV is present while the filtered BFLT is active. -/
def execBfltChange (n : Fin 8) (active : Bool) (tc : Tc) (s : State) : Host.Outcome State Fault Refusal :=
  if !s.declared n then .next s
  else
    let was := s.flag (F.BRK_S_STAT_BFLT n)
    let s := (s.putFlag (F.BRK_S_STAT_BFLT n) active).noteBits n tc
    .next (if active && !was then s.brkFault n 4 tc else s.twill 0 tc)

/-- T_BRK_OPEN has passed since Y(8+s) became active: its contactors drop (R245). -/
def State.dropAfter (s : State) (n : Nat) (tc : Tc) : State :=
  match (s.isl n).dropY with
  | some t => if passed tc t (s.tBrkOpen n) then (s.setIsl n { s.isl n with dropY := none }).dropContactors n tc else s
  | none => s

/-- BRK_OPEN_TIMER (R245, R252): T_BRK_OPEN after the pair went to open drive, or after Y(8+s) became active. -/
def execBrkOpenTimer (n : Fin 8) (tc : Tc) (s : State) : Host.Outcome State Fault Refusal :=
  let s := s.dropAfter n tc
  let x := s.isl n
  if s.fld (F.BRK_S_STAT_PAIR n) == pairOpen && passed tc x.pairSince (s.tBrkOpen n) then
    let s := if x.dropWait then (s.setIsl n { x with dropWait := false }).dropContactors n tc else s
    .next (if s.flag (F.BRK_S_STAT_BST n) then s.brkFault n 1 tc else s)
  else .next s

/-- BRK_CLOSE_TIMER (R252): T_BRK_CLOSE after the pair went to close drive. -/
def execBrkCloseTimer (n : Fin 8) (tc : Tc) (s : State) : Host.Outcome State Fault Refusal :=
  .next (if s.fld (F.BRK_S_STAT_PAIR n) == pairClose && passed tc (s.isl n).pairSince (s.tBrkClose n) && !s.flag (F.BRK_S_STAT_BST n)
    then s.brkFault n 2 tc else s)

/-- The sample bits of the island's state at a sample of the capture buffer: those of the last change at or before its clock, 5 half-ticks a clock (R262). -/
def ringAt (ring : List (Tc × BitVec 4)) (cap : Tc) (i : Nat) : Nat :=
  match ring.find? (fun e => decide (2 * e.1.toNat + 480 ≤ 2 * cap.toNat + 5 * i)) with
  | some e => e.2.toNat
  | none => 0

/-- A sample byte: [3:0] the raw comparators as given, [7:4] the island's own state (R262). -/
def sampleByte (ring : List (Tc × BitVec 4)) (cap : Tc) (raw : List Byte) (i : Nat) : Byte :=
  BitVec.ofNat 8 ((raw.getD i 0).toNat % 16 + 16 * ringAt ring cap i)

/-- CAPTURE_FREEZE (R262): the buffer freezes after sample 127; the raw comparators of its 128 samples come with the command. -/
def execCaptureFreeze (n : Fin 8) (samples : List Byte) (s : State) : Host.Outcome State Fault Refusal :=
  if (s.isl n).capDue && !s.flag (F.PRT_S_CAP_STAT_HELD n) then
    let x := s.isl n
    let samples := (List.range 128).map (sampleByte x.ring x.capTc samples)
    let s := s.setIsl n { x with capDue := false }
    let s := forUpTo 32 (fun w s => s.put (F.PRT_CAP_SAMPLES n w) (leAt samples (4 * w) 4)) s
    .next (s.event (Ev.PRT_HELD n))
  else .next s

/-- A write of 1 to HELD re-arms the buffer (R262). -/
def State.rearmCapture (s : State) (n : Nat) : State := s.put (F.PRT_S_CAP_STAT_HELD n) 0

/-- CAPTURE_REARM (R262). -/
def execCaptureRearm (n : Fin 8) (s : State) : Host.Outcome State Fault Refusal := .next (s.rearmCapture n)

/-- REMOVAL_LOOP_OPEN (R269). -/
def execRemovalLoopOpen (tc : Tc) (s : State) : Host.Outcome State Fault Refusal :=
  .next ((forUpTo 8 (fun n s => s.openPair n tc) s).put F.PRT_STAT_REMOVE 1).trimTrips

/-! Start of the island (R88, R236, R241). -/

/-- The levels, thresholds and used marks of section 0x0004 become the island's objects. -/
def State.prtLoad (s : State) : State :=
  let s := forUpTo 8 (fun n s =>
    let s := ((s.put ⟨(F.PRT_S_SC_CHG n).addr, 0, 32⟩ (s.prtStr n 0 4)).put ⟨(F.PRT_S_OC_CHG n).addr, 0, 32⟩ (s.prtStr n 4 4)).put ⟨(F.PRT_S_FOC_CHG n).addr, 0, 32⟩ (s.prtStr n 8 4)
    let s := s.put ⟨(F.PRT_S_FOC_EFF_CHG n).addr, 0, 32⟩ (s.prtStr n 8 4)
    let s := ((s.put (F.PRT_S_DIDT_LEVEL n) (s.prtStr n 14 2)).put (F.PRT_S_DIDT_FOC_FILT n) (s.prtStr n 12 2)).put (F.PRT_S_DIDT_DIDT_FILT n) (s.prtStr n 16 2)
    let s := (s.put (F.PRT_S_OV_CODE n) (s.prtStr n 20 4)).put (F.PRT_S_UV_CODE n) (s.prtStr n 24 4)
    (s.put (F.PRT_S_TEMP_OT n) (s.prtStr n 28 2)).put (F.PRT_S_TEMP_UT n) (s.prtStr n 30 2)) s
  let s := forUpTo 28 (fun k s => s.put (F.BRK_CON_USED k) (s.prtDrv k 0 1)) s
  s.put F.PRT_IMD_STAT_ROLE (s.prtBank 0 1)

/-- The island is armed if its comparators pass (R236): the pairs go to open drive; else an island fault. -/
def State.prtArm (s : State) (pass : Bool) (tc : Tc) : State :=
  if pass then
    let s := s.put F.PRT_STAT_ARMED 1
    forUpTo 8 (fun n s => (s.setIsl n { s.isl n with focTc := tc, didtTc := tc }).openPair n tc) s
  else s.islandFault tc

/-- The dynamic overcurrent threshold of the limit set lowers each FOC level (R36, R241), 0.1 A. -/
def State.focDynamic (s : State) (n dyn : Nat) : State :=
  (s.put (F.PRT_S_FOC_EFF_CHG n) (min (s.fld (F.PRT_S_FOC_CHG n)) dyn)).put (F.PRT_S_FOC_EFF_DIS n) (min (s.fld (F.PRT_S_FOC_DIS n)) dyn)

end Sys2Proof.Machine
end

