-- ==== Sys2Proof/Machine/Brk.lean ====
section
/-! DEFINITION. Brk.lean: string switching (R254 to R260, R263, R264): the command queue, the string state table, the contactor drivers, the auxiliary drivers, and insulation monitoring (R265 to R267). -/
namespace Sys2Proof.Machine

open Sys2Proof

/-! Refusal codes of R257. -/
def rfNoLid : Nat := 1
def rfStaleEpoch : Nat := 2
def rfUnconfirmed : Nat := 3
def rfLatched : Nat := 4
def rfLockout : Nat := 5
def rfWrongState : Nat := 6
def rfCoilLow : Nat := 7
def rfCauseActive : Nat := 8
def rfRestTime : Nat := 9
def rfSameClock : Nat := 10
def rfVoltage : Nat := 11
def rfIslFault : Nat := 12
def rfQueueFull : Nat := 13

/-! Command codes of BRK_Sn_CMD (R257). -/
def cmdClose : Nat := 1
def cmdMatch : Nat := 2
def cmdOpen : Nat := 3
def cmdReset : Nat := 4

/-- A refusal is recorded in BRK_REFUSE; target 8 stands for BRK_AUX_CMD (R257). -/
def State.refuseCmd (s : State) (target c : Nat) : State :=
  ((s.bump F.BRK_REFUSE_CNT).put F.BRK_REFUSE_TARGET target).put F.BRK_REFUSE_CODE c

/-- ISL_FAULT of R257: an island fault is present, or REMOVE is set. -/
def State.islBlocked (s : State) : Bool := s.flag F.PRT_STAT_ISL_FAULT || s.flag F.PRT_STAT_REMOVE || s.pwr.state == .debug

/-- The codes tested as a write arrives at the island command port: 12, 1, 2 (R257). -/
def State.arrivalRefusal (s : State) (o : Origin) : Option Nat :=
  if s.islBlocked then some rfIslFault else s.portRefusal o

/-- An output that opens the breaker of string n is active. -/
def State.strLatched (s : State) (n : Nat) : Bool := s.bit F.PRT_TWILL_OUT_Y n || s.bit F.PRT_TWILL_OUT_Y (8 + n)

/-- The precharge timer has reached PC_TMIN (R258). -/
def State.pcMin (s : State) (n : Nat) (tc : Tc) : Bool :=
  match (s.isl n).preStart with
  | some t => passed tc t (250000 * s.prtStr n 38 2)
  | none => false

/-- The state admits the command (R258, R259). -/
def State.cmdFits (s : State) (n c : Nat) (o : Origin) (tc : Tc) : Bool :=
  let st := s.strState n
  match c with
  | 1 => st == ssOpen || ((s.isl n).held && (st == ssCloseMn || st == ssClosePc) && s.currentEpoch o)
  | 2 => st == ssHold || (st == ssPrecharge && s.pcMin n tc)
  | _ => st == ssTripped

/-- The rest time of a RESET in ticks (R263). -/
def State.restTicks (s : State) (n : Nat) : Nat :=
  let cause := s.rd64 (F.PRT_S_TRIP_CAUSE_LO_VALUE n).addr
  25000000 * (if directIn n cause then s.prtBank 17 1 else s.prtBank 16 1)

/-- The codes tested at the command's tick, in the order of R257; none for a command that is accepted. A command whose lane has lost the Lid, or whose placement is over, by then never acts (R25, R45, R356); an output active at any clock since the last tick refuses a closing command, also one active for one clock (R247). -/
def State.tickRefusal (s : State) (n c : Nat) (o : Origin) (tc : Tc) : Option Nat :=
  let st := s.strState n
  let closing := c == cmdClose || c == cmdMatch
  if s.islBlocked then some rfIslFault
  else if (s.portRefusal o).isSome then s.portRefusal o
  else if c == cmdOpen then none
  else if closing && s.flag F.PRT_STAT_CLOSE_BLOCK then some rfUnconfirmed
  else if st == ssLockout then some rfLockout
  else if closing && (s.strLatched n || (s.isl n).seen) then some rfLatched
  else if !s.declared n || !s.cmdFits n c o tc || (closing && (s.flag F.PWR_STAT_ENTRY || s.flag F.PWR_STAT_PFAIL)) then some rfWrongState
  else if (c == cmdClose || (c == cmdMatch && st == ssPrecharge)) && s.flag F.BRK_COIL_LOW then some rfCoilLow
  else if c == cmdReset && (s.causeActive n || s.causeActive (8 + n)) then some rfCauseActive
  else if c == cmdReset && !passed tc (s.isl n).stateSince (s.restTicks n) then some rfRestTime
  else if c == cmdReset && (s.prt.latchTc.getD n 0 == tc || s.prt.latchTc.getD (8 + n) 0 == tc) && s.strLatched n then some rfSameClock
  else none

/-! The string state table (R258). -/

/-- The string enters a state. -/
def State.enter (s : State) (n st : Nat) (tc : Tc) : State :=
  let s := (s.put (F.BRK_S_STAT_STATE n) st).put (F.BRK_S_STAT_PC_MIN n) 0
  let s := s.setIsl n { s.isl n with stateSince := tc, preStart := none, held := false }
  let s := (s.recCountIf (st == ssTripped) (cntTrip n)).recCountIf (st == ssClosed) (cntClose n)
  ((s.putBit F.PRT_STAT_TRIPPED n (st == ssTripped)).putBit F.PRT_STAT_LOCKOUT n (st == ssLockout)).trimTrips

/-- FAULT is cleared at an accepted CLOSE or RESET (R252, R258). -/
def State.clearFault (s : State) (n : Nat) (tc : Tc) : State :=
  ((s.put (F.BRK_S_STAT_FAULT n) 0).setIsl n { s.isl n with pcTimeout := false }).twill 0 tc

/-- A driver of the string is used. -/
def State.conUsed (s : State) (k : Nat) : Bool := s.flag (F.BRK_CON_USED k)

/-- A transition that energises a coil or closes the pair: withheld while no lane holds the Lid, and in CLOSE_MN and CLOSE_PC until a CLOSE continues it (R259). -/
def State.withLid (s : State) (n : Nat) (go : State → State) : State :=
  let st := s.strState n
  if !s.lidHeld then s.setIsl n { s.isl n with held := true }
  else if (s.isl n).held && (st == ssCloseMn || st == ssClosePc) then s
  else go s

/-- The string trips: the pair is open, the record is written (R258, R261). -/
def State.tripString (s : State) (n : Nat) (tc : Tc) : State :=
  let t := (s.isl n).trip.getD (tc, s.twillInputs &&& s.stringMask n)
  ((((s.openPair n tc).enter n ssTripped tc).tripRecord n t.1 t.2).event Ev.PRT_TRIP)

/-- A RESET acts: the latches clear, PC is de-energised, the string returns to OPEN or HOLD (R258, R263). -/
def State.resetString (s : State) (n : Nat) (tc : Tc) : State :=
  let s := (s.clearFault n tc).clearLatches [n, 8 + n] tc
  if [3 * n, 3 * n + 1, 3 * n + 2].any (fun k => s.flag (F.BRK_CON_ENERGISED k)) then (s.energise (3 * n + 2) false tc).enter n ssHold tc
  else s.enter n ssOpen tc

/-- The closing states of the fault row of R258. -/
def closingState (st : Nat) : Bool := decide (1 ≤ st) && decide (st ≤ 5)

/-- The longest T_OPEN of the used drivers of string n. -/
def State.longestOpen (s : State) (n : Nat) : Nat :=
  [3 * n, 3 * n + 1, 3 * n + 2].foldl (fun a k => if s.conUsed k then max a (s.tOpen k) else a) 0

/-- The pair goes to close drive for precharge; the timer starts if the breaker already reads closed (R258). -/
def State.enterPrecharge (s : State) (n : Nat) (tc : Tc) : State :=
  let s := (s.enter n ssPrecharge tc).closePair n tc
  if s.flag (F.BRK_S_STAT_BST n) then s.setIsl n { s.isl n with preStart := some tc } else s

/-- The rows of R258 after the trip, lockout and fault rows: the closing and opening sequence, with the command accepted at this tick. -/
def State.sequenceRow (s : State) (n : Nat) (cmd : Option Nat) (tc : Tc) : State :=
  let st := s.strState n
  let x := s.isl n
  let mn := 3 * n
  let mp := 3 * n + 1
  let pc := 3 * n + 2
  let waited := fun (t : Nat) => passed tc x.stateSince t
  if cmd == some cmdOpen && (closingState st || st == ssClosed || st == ssHold) then (s.enter n ssOpening tc).openPair n tc
  else match st with
    | 0 => if cmd == some cmdClose then s.withLid n fun s => ((s.clearFault n tc).enter n ssCloseMn tc).energise mn true tc else s
    | 1 =>
      if waited (s.tClose mn) && s.verified mn true then
        s.withLid n fun s => if s.conUsed pc then (s.enter n ssClosePc tc).energise pc true tc else (s.enter n ssCloseMp tc).energise mp true tc
      else s
    | 2 => if waited (s.tClose pc) && s.verified pc true then s.withLid n fun s => s.enterPrecharge n tc else s
    | 3 => if cmd == some cmdMatch && s.pcMin n tc then s.withLid n fun s => (s.enter n ssCloseMp tc).energise mp true tc else s
    | 4 =>
      if waited (s.tClose mp) && s.verified mp true then
        if s.conUsed pc then (s.enter n ssReleasePc tc).energise pc false tc else s.enter n ssHold tc
      else s
    | 5 => if waited (s.tOpen pc) && s.verified pc false then s.enter n ssClosed tc else s
    | 7 => if cmd == some cmdMatch then s.withLid n fun s => (s.enter n ssClosed tc).closePair n tc else s
    | 8 => if !s.flag (F.BRK_S_STAT_BST n) || waited (s.tBrkOpen n) then (s.enter n ssDrop tc).dropContactors n tc else s
    | 9 => if waited (s.longestOpen n) then s.enter n ssOpen tc else s
    | _ => s

/-- One evaluation of the string state table; a CLOSE that continues a held sequence energises the contactor of its state where a test pulse had delayed that beyond the loss of the Lid (R259, R330); with the command accepted at this tick; at most one transition (R20, R258). -/
def State.evalString (s : State) (n : Nat) (cmd : Option Nat) (tc : Tc) : State :=
  let x := s.isl n
  let s := (s.setIsl n { x with arose := false, seen := false }).pruneLock n tc
  let st := s.strState n
  let lockN := s.prtBank 18 1
  if st == ssLockout then
    (if x.release then (s.setIsl n { s.isl n with release := false }).enter n ssTripped tc else s)
  else if st != ssTripped && (x.seen || s.strLatched n) then s.tripString n tc
  else if st == ssTripped then
    if lockN != 0 && decide (lockN ≤ (s.isl n).direct.length) then (s.enter n ssLockout tc).dropContactors n tc
    else if cmd == some cmdReset then s.resetString n tc
    else s
  else
    let cont := cmd == some cmdClose && (st == ssCloseMn || st == ssClosePc)
    let s := if cont then (s.setIsl n { s.isl n with held := false }).energise (if st == ssCloseMn then 3 * n else 3 * n + 2) true tc else s
    let late := match x.preStart with
      | some t => passed tc t (250000 * s.prtStr n 40 2)
      | none => false
    if closingState st && x.arose then (s.enter n ssOpening tc).openPair n tc
    else if st == ssPrecharge && late then
      let s := (s.enter n ssOpening tc).openPair n tc
      let s := (s.put (F.BRK_S_STAT_FAULT n) 8).setIsl n { s.isl n with pcTimeout := true }
      s.twill 0 tc
    else s.sequenceRow n cmd tc

/-- The command taken at a tick: an OPEN first, every waiting command then refused; else the oldest in the queue (R257). -/
def State.takeCmd (s : State) (n : Nat) : State × Option (Nat × Origin) :=
  let x := s.isl n
  match x.openDue with
  | some o =>
    let s := x.queue.foldl (fun s _ => s.refuseCmd n rfWrongState) s
    (s.setIsl n { x with openDue := none, queue := [] }, some (cmdOpen, o))
  | none =>
    match x.queue with
    | [] => (s, none)
    | c :: rest => (s.setIsl n { x with queue := rest }, some c)

/-- One string at a sequencer tick: a command is taken and judged, the table is evaluated (R257, R258). A string that has moved at this very tick waits for the next. -/
def State.tickString (s : State) (n : Nat) (tc : Tc) : State :=
  if !s.declared n && (s.isl n).queue.isEmpty && (s.isl n).openDue.isNone then s
  else if (s.isl n).stateSince == tc && tc != 0 then s
  else
    let (s, c) := s.takeCmd n
    match c with
    | none => if s.declared n then s.evalString n none tc else s
    | some (c, o) =>
      match s.tickRefusal n c o tc with
      | some r => let s := (s.noteStale o 4).refuseCmd n r; if s.declared n then s.evalString n none tc else s
      | none => if s.declared n then s.evalString n (some c) tc else s

/-- U = V_p + V_n (R265). -/
def railsU (r : Rails) : Nat := r.vp + r.vn

/-- A rail ratio is below COLLAPSE with U at or above IMD_VMIN (R267). -/
def State.railLow (s : State) (r : Rails) : Bool :=
  decide (1000 * s.prtBank 8 2 ≤ railsU r) && decide (100 * min r.vp r.vn < s.prtBank 11 1 * railsU r)

/-- The 10 ms measurement: PRT_IMD_U in V, whose rounding is open (log entry 5), and since when a rail ratio is low (R265, R267). -/
def State.takeRails (s : State) (r : Rails) (tc : Tc) : State :=
  let s : State := { s with prt := { s.prt with collapseFrom := if s.railLow r then some (s.prt.collapseFrom.getD tc) else none } }
  s.put F.PRT_IMD_U_U (min 65535 (roundOpen (railsU r : Nat) 1000).toNat)

/-- SEQUENCER_TICK (R258): every string in turn, on an island that is not armed those that are not declared, which only refuse; the Twill is evaluated after the moves (R246). The 10 ms measurement of the rails where it falls due comes with the command. -/
def execSequencerTick (bus : Option Rails) (tc : Tc) (s : State) : Host.Outcome State Fault Refusal :=
  let s := match bus with
    | some r => s.takeRails r tc
    | none => s
  .next ((forUpTo 8 (fun n s => if s.armed || s.islBlocked || !s.declared n then s.tickString n tc else s) s).twill 0 tc)

/-- A timer of a string falls due: its table is evaluated, unless the string has moved at this tick. -/
def State.timerString (s : State) (n : Nat) (tc : Tc) : State :=
  if s.declared n && s.armed && !((s.isl n).stateSince == tc && tc != 0) then s.evalString n none tc else s

/-! Commands to a string (R257). -/

/-- A write of BRK_Sn_CMD arrives at the island (R257). -/
def State.queueCmd (s : State) (n c : Nat) (o : Origin) : State :=
  match s.arrivalRefusal o with
  | some r => (s.noteStale o 4).refuseCmd n r
  | none =>
    let x := s.isl n
    if c == cmdOpen then s.setIsl n { x with openDue := some o }
    else if 4 ≤ x.queue.length then s.refuseCmd n rfQueueFull
    else s.setIsl n { x with queue := x.queue ++ [(c, o)] }

/-- V_str lies within DV of U: the stack voltages of the latest snapshot, none stale, against the bus voltage (R260). -/
def State.matchGood (s : State) (n : Nat) : Bool :=
  let ms := List.range (s.monCount n)
  let sum := ms.foldl (fun a m => a + s.fldSnap (F.SWP_STACK_VOLT (32 * n + m))) 0
  s.latest.epoch != 0 && ms.all (fun m => s.fldSnap (F.SWP_STACK_STALE (32 * n + m)) == 0) &&
  decide (absI ((sum : Int) - 10000 * (s.fld F.PRT_IMD_U_U : Int)) ≤ 10000 * s.fld F.BRK_MATCH_CFG_DV)

/-- Firmware checks the voltage of this MATCH (R260). -/
def State.matchChecked (s : State) (n : Nat) : Bool :=
  let st := s.strState n
  (st == ssHold || (st == ssPrecharge && s.flag (F.BRK_S_STAT_PC_MIN n) && !s.flag F.BRK_COIL_LOW)) &&
  !s.islBlocked && !s.flag F.PRT_STAT_CLOSE_BLOCK && !s.bit F.PRT_STAT_LOCKOUT n && !s.bit F.PRT_STAT_TRIPPED n

/-- A command written to BRK_Sn_CMD: MATCH passes the firmware's check; a value that is no code is discarded (R257, R260). -/
def State.brkCommand (s : State) (n c : Nat) (o : Origin) : State :=
  if c == cmdMatch && s.matchChecked n && !s.matchGood n then s.refuseCmd n rfVoltage
  else if decide (1 ≤ c) && decide (c ≤ 4) then s.queueCmd n c o
  else s

/-- CLOSE (R257). -/
def execClose (n : Fin 8) (o : Origin) (s : State) : Host.Outcome State Fault Refusal := .next (s.brkCommand n cmdClose o)
/-- MATCH (R257, R260). -/
def execMatch (n : Fin 8) (o : Origin) (s : State) : Host.Outcome State Fault Refusal := .next (s.brkCommand n cmdMatch o)
/-- OPEN (R257). -/
def execOpen (n : Fin 8) (o : Origin) (s : State) : Host.Outcome State Fault Refusal := .next (s.brkCommand n cmdOpen o)
/-- RESET (R257, R263). -/
def execReset (n : Fin 8) (o : Origin) (s : State) : Host.Outcome State Fault Refusal := .next (s.brkCommand n cmdReset o)

/-- With BRK_MATCH_CFG.AUTO, firmware issues MATCH itself at a commit cycle (R260). -/
def State.autoMatch (s : State) : State :=
  if s.flag F.BRK_MATCH_CFG_AUTO && s.lidHeld then
    forUpTo 8 (fun n s =>
      let st := s.strState n
      if s.declared n && (st == ssHold || (st == ssPrecharge && s.flag (F.BRK_S_STAT_PC_MIN n))) && s.matchGood n
      then s.queueCmd n cmdMatch s.ownOrigin else s) s
  else s

/-! Timers of the strings. -/

/-- PRECHARGE_TIMEOUT (R258): the precharge timer reaches PC_TMAX. -/
def execPrechargeTimeout (n : Fin 8) (tc : Tc) (s : State) : Host.Outcome State Fault Refusal := .next (s.timerString n tc)

/-- PRECHARGE_MIN_REACHED (R258): the precharge timer reaches PC_TMIN. -/
def execPrechargeMinReached (n : Fin 8) (tc : Tc) (s : State) : Host.Outcome State Fault Refusal :=
  .next (if s.strState n == ssPrecharge && s.pcMin n tc then s.put (F.BRK_S_STAT_PC_MIN n) 1 else s)

/-- DROP_TIMER (R258): the longest T_OPEN has passed in DROP. -/
def execDropTimer (n : Fin 8) (tc : Tc) (s : State) : Host.Outcome State Fault Refusal := .next (s.timerString n tc)

/-! Contactor drivers (R254, R255). -/

/-- A driver fault of code 5 to 7 is detected and present from here; codes 9 and 10 of R329 hold in FAULT beside it (R255). -/
def State.conFault (s : State) (k c : Nat) (tc : Tc) : State :=
  let s : State := { s with prt := { s.prt with conFaults := setAt s.prt.conFaults k c } }
  let s := if s.fld (F.BRK_CON_FAULT k) < 9 then s.put (F.BRK_CON_FAULT k) c else s
  let s := if k < 24 then s.setIsl (k / 3) { s.isl (k / 3) with arose := true } else s
  s.twill 0 tc

/-- When the driver was last switched. -/
def State.driverSince (s : State) (k : Nat) : Tc := s.prt.driverTc.getD k 0

/-- CONTACTOR_CLOSE_TIMER (R255): T_CLOSE after energising. -/
def execContactorCloseTimer (k : Fin 28) (tc : Tc) (s : State) : Host.Outcome State Fault Refusal :=
  if s.flag (F.BRK_CON_ENERGISED k) && passed tc (s.driverSince k) (s.tClose k) then
    let s := if s.verified k true then s else s.conFault k 5 tc
    .next (if k.val < 24 then s.timerString (k / 3) tc else s)
  else .next s

/-- CONTACTOR_OPEN_TIMER (R255): T_OPEN after de-energising. -/
def execContactorOpenTimer (k : Fin 28) (tc : Tc) (s : State) : Host.Outcome State Fault Refusal :=
  if s.conUsed k && !s.flag (F.BRK_CON_ENERGISED k) && passed tc (s.driverSince k) (s.tOpen k) then
    let s := if s.verified k false then s else s.conFault k 6 tc
    .next (if k.val < 24 then s.timerString (k / 3) tc else s)
  else .next s

/-- The coil-current check of a driver is suspended: an off-pulse runs on it, or ended less than 1 ms ago (R328). -/
def State.coilSuspended (s : State) (k : Nat) (tc : Tc) : Bool :=
  (match s.saf.pulse with
    | some p => p.driver == k && p.off
    | none => false) ||
  (match s.saf.offEnds.getD k none with
    | some t => !passed tc t 250000
    | none => false)

/-- COIL_CHECK_TIMER (R255): 20 ms after energising. -/
def execCoilCheckTimer (k : Fin 28) (tc : Tc) (s : State) : Host.Outcome State Fault Refusal :=
  .next (if s.flag (F.BRK_CON_ENERGISED k) && passed tc (s.driverSince k) 5000000 && !s.coilSuspended k tc && decide (s.fld (F.BRK_CON_IMA k) < s.prtBank 14 2)
    then s.conFault k 7 tc else s)

/-- COIL_FAULT (R255): the coil current falls below COIL_IMIN after 20 ms, or the current limit acts. -/
def execCoilFault (k : Fin 28) (ma : BitVec 16) (limit : Bool) (tc : Tc) (s : State) : Host.Outcome State Fault Refusal :=
  if s.conUsed k then
    let s := (s.put (F.BRK_CON_IMA k) ma.toNat).updateVerified k
    let low := s.flag (F.BRK_CON_ENERGISED k) && passed tc (s.driverSince k) 5000000 && !s.coilSuspended k tc && decide (ma.toNat < s.prtBank 14 2)
    .next (if limit || low then s.conFault k 7 tc else s)
  else .next s

/-- PULL_IN_TIMER (R254): after PULL_MS the coil runs on its hold duty. -/
def execPullInTimer (k : Fin 28) (tc : Tc) (s : State) : Host.Outcome State Fault Refusal :=
  .next (if s.flag (F.BRK_CON_ENERGISED k) && passed tc (s.driverSince k) (250000 * s.prtDrv k 2 2) then s.put (F.BRK_CON_ECONOMY k) 1 else s)

/-- A test pulse runs on the driver (R328). -/
def State.pulsed (s : State) (k : Nat) : Bool :=
  match s.saf.pulse with
  | some p => p.driver == k
  | none => false

/-- The duty of a driver in parts of 65,536: 0 off, full during pull-in, then HOLD_V / V_coil clamped to full (R254); its rounding is open. It yields to a test pulse, in which one of the two switches is off and drives no coil (R328). -/
def State.coilDuty (s : State) (k : Nat) : Nat :=
  if !s.flag (F.BRK_CON_ENERGISED k) || s.pulsed k then 0
  else if !s.flag (F.BRK_CON_ECONOMY k) then 65536
  else if s.fld F.BRK_COIL_V ≤ s.prtDrv k 4 2 then 65536
  else (roundOpen (65536 * s.prtDrv k 4 2 : Nat) (s.fld F.BRK_COIL_V)).toNat

/-- DRIVER_VERIFY_CHANGE (R255): coil current or mirror input changes; a fault of code 5 to 7 ends once the driver is verified in its commanded state. -/
def execDriverVerifyChange (k : Fin 28) (ma : BitVec 16) (high : Bool) (tc : Tc) (s : State) : Host.Outcome State Fault Refusal :=
  if s.conUsed k then
    let s := (s.put (F.BRK_CON_IMA k) ma.toNat).putFlag (F.BRK_CON_MIRROR k) (high == (s.prtDrv k 0 1).testBit 2)
    .next (((s.updateVerified k).endFault k).twill 0 tc)
  else .next s

/-- COIL_SUPPLY_MEASURE (R254, R256): V_coil in 0.1 V. -/
def execCoilSupplyMeasure (v : BitVec 16) (s : State) : Host.Outcome State Fault Refusal :=
  .next ((s.put F.BRK_COIL_V v.toNat).putFlag F.BRK_COIL_LOW (decide (v.toNat < s.prtBank 12 2)))

/-! Auxiliary drivers (R244, R245, R256, R263). -/

/-- TRIP of BRK_AUX_CMD activates X63 for one island clock (R244). -/
def State.auxTrip (s : State) (tc : Tc) : State := s.twill (BitVec.ofNat 64 (2 ^ 63)) tc

/-- RESET of Y(16+a) under the conditions of R263 with rest time REST; without effect on a driver that is not used. -/
def State.auxReset (s : State) (a : Nat) (tc : Tc) : State :=
  let j := 16 + a
  if !s.conUsed (24 + a) then s
  else if s.causeActive j then s.refuseCmd 8 rfCauseActive
  else if !passed tc (s.prt.auxTc.getD a 0) (25000000 * s.prtBank 16 1) then s.refuseCmd 8 rfRestTime
  else if s.prt.latchTc.getD j 0 == tc && s.prt.latch.getLsbD j then s.refuseCmd 8 rfSameClock
  else s.clearLatches [j] tc

/-- OFF de-energises AUXa. -/
def State.auxOff (s : State) (a : Nat) (tc : Tc) : State := s.energise (24 + a) false tc

/-- ON energises AUXa unless refused (R256, R257). -/
def State.auxOn (s : State) (a : Nat) (tc : Tc) : State :=
  if s.bit F.PRT_TWILL_OUT_Y (16 + a) then s.refuseCmd 8 rfLatched
  else if !s.conUsed (24 + a) then s.refuseCmd 8 rfWrongState
  else if s.flag F.BRK_COIL_LOW then s.refuseCmd 8 rfCoilLow
  else s.energise (24 + a) true tc

/-- A command of BRK_AUX_CMD at the island command port (R257). -/
def State.auxCommand (s : State) (o : Origin) (act : State → State) : State :=
  match s.arrivalRefusal o with
  | some r => (s.noteStale o 4).refuseCmd 8 r
  | none => act s

/-- A write of BRK_AUX_CMD: trip, then for each driver reset, off, on. -/
def State.auxWrite (s : State) (v : Word) (o : Origin) (tc : Tc) : State :=
  s.auxCommand o fun s =>
    let s := if v.getLsbD 12 then s.auxTrip tc else s
    forUpTo 4 (fun a s =>
      let s := if v.getLsbD (8 + a) then s.auxReset a tc else s
      let s := if v.getLsbD (4 + a) then s.auxOff a tc else s
      if v.getLsbD a then s.auxOn a tc else s) s

/-- AUX_TRIP (R244). -/
def execAuxTrip (o : Origin) (tc : Tc) (s : State) : Host.Outcome State Fault Refusal := .next (s.auxCommand o (·.auxTrip tc))
/-- AUX_RESET (R263). -/
def execAuxReset (a : Fin 4) (o : Origin) (tc : Tc) (s : State) : Host.Outcome State Fault Refusal := .next (s.auxCommand o (·.auxReset a tc))
/-- AUX_ON (R256). -/
def execAuxOn (a : Fin 4) (o : Origin) (tc : Tc) (s : State) : Host.Outcome State Fault Refusal := .next (s.auxCommand o (·.auxOn a tc))
/-- AUX_OFF (R245). -/
def execAuxOff (a : Fin 4) (o : Origin) (tc : Tc) (s : State) : Host.Outcome State Fault Refusal := .next (s.auxCommand o (·.auxOff a tc))

/-- A write of PRT_LOCK_REL: the count is cleared, a lockout is released (R264). -/
def State.lockRelease (s : State) (strs : Nat) (o : Origin) : State :=
  match s.portRefusal o with
  | some _ => s.noteStale o 4
  | none =>
    forUpTo 8 (fun n s =>
      if strs.testBit n && s.declared n then
        (s.setIsl n { s.isl n with direct := [], release := s.strState n == ssLockout }).put (F.PRT_S_CAP_STAT_LOCK_CNT n) 0
      else s) s

/-- LOCKOUT_RELEASE (R264). -/
def execLockoutRelease (strs : BitVec 8) (o : Origin) (s : State) : Host.Outcome State Fault Refusal := .next (s.lockRelease strs.toNat o)

/-! Insulation monitoring (R265 to R267). -/

/-- Roles (R249). -/
def roleInjector : Nat := 1
def roleListener : Nat := 2

/-- The reciprocal of a conductance in kΩ, saturating at 65,535. The injector's 2,500 nS times num / den, less 125 nS for each divider (R266). -/
def insulationR (num den peers : Nat) : Nat :=
  let g : Int := 2500 * (num : Int) - 125 * (1 + (peers : Int)) * (den : Int)
  if g ≤ 0 then 65535 else min 65535 (roundOpen (1000000 * (den : Int)) g.toNat).toNat

/-- The result of a cycle becomes RESULT; an event where it became WARN or FAULT (R266). -/
def State.putResultImd (s : State) (r : Nat) : State :=
  let was := s.fld F.PRT_IMD_STAT_RESULT
  let s := s.put F.PRT_IMD_STAT_RESULT r
  ((s.eventIf (r == 2 && was != 2) Ev.PRT_INS_WARN).eventIf (r == 3 && was != 3) Ev.PRT_INS_FAULT).recCountIf (r == 3 && was != 3) cntInsulation

/-- The end of an insulation cycle: discarded, or R_p and R_n computed (R266). Where D is not positive the manual states no value: both are free (log entry 3). -/
def State.imdCycle (s : State) (p n o : ImdPhase) : State :=
  let s := s.bump F.PRT_IMD_STAT_CYCLES
  if p.low || n.low || o.low || p.drift || n.drift then
    let d := s.prt.discarded + 1
    let s : State := { s with prt := { s.prt with discarded := d } }
    if 3 ≤ d then s.putResultImd 0 else s
  else
    let s : State := { s with prt := { s.prt with discarded := 0 } }
    let d : Int := (p.vn * n.vp : Nat) - (p.vp * n.vn : Nat)
    let peers := s.prtBank 1 1
    let stated := decide (0 < d)
    let rp := if stated then insulationR (n.vn * (p.vp + p.vn)) d.toNat peers else s.free.toNat % 65536
    let rn := if stated then insulationR (p.vp * (n.vp + n.vn)) d.toNat peers else s.free.toNat / 65536 % 65536
    let s := s.tookIf (!stated)
    let s := (s.put F.PRT_IMD_R_RP rp).put F.PRT_IMD_R_RN rn
    let r := min rp rn
    s.putResultImd (if r < s.prtBank 6 2 then 3 else if r < s.prtBank 4 2 then 2 else 1)

/-- A phase of an injector ends (R266, R267): P, N, O in turn; drift in O is a foreign source. -/
def State.imdPhase (s : State) (x : ImdMeasure) : State :=
  let drift := decide (100 * s.prtBank 10 1 < x.drift)
  let ph : ImdPhase := { vp := x.mean.vp, vn := x.mean.vn, low := decide (railsU x.low < 1000 * s.prtBank 8 2), drift }
  let phase := s.fld F.PRT_IMD_STAT_PHASE
  if phase < 2 then
    let s : State := { s with prt := { s.prt with imd := s.prt.imd ++ [ph] } }
    s.put F.PRT_IMD_STAT_PHASE (phase + 1)
  else
    let ps := s.prt.imd
    let s := ({ s with prt := { s.prt with imd := [] } } : State).put F.PRT_IMD_STAT_PHASE 0
    if drift then
      let s := (s.putFlag F.PRT_IMD_STAT_FOREIGN true).event Ev.PRT_FOREIGN
      ((s.put F.PRT_IMD_STAT_ROLE roleListener).put F.PRT_IMD_STAT_PHASE 3).put F.PRT_IMD_STAT_RESULT 0
    else match ps with
      | [p, n] => s.imdCycle p n ph
      | _ => s

/-- IMD_PHASE_END (R266): IMD_PHASE after the phase began. -/
def execImdPhaseEnd (x : ImdMeasure) (tc : Tc) (s : State) : Host.Outcome State Fault Refusal :=
  if s.fld F.PRT_IMD_STAT_ROLE == roleInjector && passed tc s.prt.imdTc (250000 * s.prtBank 2 2) then
    let s := s.imdPhase x
    .next (({ s with prt := { s.prt with imdTc := tc } } : State).twill 0 tc)
  else .next s

/-- A rail ratio has stayed below COLLAPSE for 1 s with U at or above IMD_VMIN (R267). -/
def State.collapsed (s : State) (tc : Tc) : Bool :=
  match s.prt.collapseFrom with
  | some t => passed tc t 250000000
  | none => false

/-- COLLAPSE_DETECT (R267). -/
def execCollapseDetect (tc : Tc) (s : State) : Host.Outcome State Fault Refusal :=
  .next (if s.fld F.PRT_IMD_STAT_ROLE != 0 && s.collapsed tc then (s.putFlag F.PRT_IMD_STAT_COLLAPSE true).twill 0 tc else s)

/-- COLLAPSE_CLEAR (R267): the latest measurement of the rails finds no ratio below COLLAPSE at U of IMD_VMIN or above. -/
def execCollapseClear (tc : Tc) (s : State) : Host.Outcome State Fault Refusal :=
  .next (if s.prt.collapseFrom.isNone then (s.putFlag F.PRT_IMD_STAT_COLLAPSE false).twill 0 tc else s)

/-- The insulation monitor at a start: an injector begins with phase P (R266). -/
def State.imdStart (s : State) (tc : Tc) : State :=
  ({ s with prt := { s.prt with imdTc := tc, imd := [], collapseFrom := none } } : State).put F.PRT_IMD_STAT_PHASE (if s.fld F.PRT_IMD_STAT_ROLE == roleInjector then 0 else 3)

end Sys2Proof.Machine
end

