-- ==== Sys2Proof/Machine/Publish.lean ====
section
/-! DEFINITION. Publish.lean: the snapshot (R29 to R31, R169 to R173, R176, R187): marks, ages, limit flags, masks, and the switch of the latest-snapshot pointer. -/
namespace Sys2Proof.Machine

open Sys2Proof

/-- A counter in a byte of storage advances, saturating. -/
def bumpByte (c : Cells 8) (k top : Nat) : Cells 8 := c.set k (BitVec.ofNat 8 (min top ((c.get k).toNat + 1)))

/-- A stale cell: its last fresh code, STALE, AGE, ABSENT; the event at STALE_MAX (R169, R170). -/
def State.publishStale (s : State) (p m g : Nat) : State :=
  let age := min 255 ((s.swp.staleRun.get g).toNat + 1)
  let s : State := { s with swp := { s.swp with staleRun := bumpByte s.swp.staleRun g 255 } }
  let s := (s.putAsm (F.SWP_V_CODE g) (s.swp.lastCode.get g).toNat).putAsm (F.SWP_V_STALE g) 1
  let s := ((s.putAsm (F.SWP_V_SETTLE g) 0).putAsm (F.SWP_V_BLEED g) 0).putAsm (F.SWP_V_OWT g) 0
  let s := (s.putAsm (F.SWP_V_AGE g) (min 63 age)).putAsm (F.SWP_V_ABSENT g) (bitN (!(s.port p).addressed.getLsbD m))
  s.eventIf (age == s.fld F.SWP_CFG_STALE_MAX) Ev.SWP_STALE_LIMIT

/-- A fresh cell: its reading is kept, and its run beyond the static thresholds counts, except where it is excluded (R170, R171). DESIGN CHOICE (log entry 176): the run of a cell marked OW_CONF stays as it is, as R171 says for a sink test; the spec does not say what becomes of it. -/
def State.publishFresh (s : State) (p m c g : Nat) : State :=
  let v := s.fldAsm (F.SWP_V_CODE g)
  let s : State := { s with swp := { s.swp with staleRun := s.swp.staleRun.set g 0, lastCode := s.swp.lastCode.set g (BitVec.ofNat 32 v) } }
  let s := s.putAsm (F.SWP_V_AGE g) 0
  if s.limitExcluded p m c then s
  else
    let r := (s.swp.runs.get g).toNat
    let ov := if s.fld (F.PRT_S_OV_CODE p) < v then min 15 (r % 16 + 1) else 0
    let uv := if v < s.fld (F.PRT_S_UV_CODE p) then min 15 (r / 16 + 1) else 0
    { s with swp := { s.swp with runs := s.swp.runs.set g (BitVec.ofNat 8 (ov + 16 * uv)) } }

/-- One declared cell at publication. -/
def State.publishCell (s : State) (w : Sweep) (p m c : Nat) : State :=
  let g := cellIndex p m c
  let s := if s.freshV w g then s.publishFresh p m c g else s.publishStale p m g
  let s := s.putAsm (F.SWP_V_OW_CONF g) (bitN (nextToLine (s.openLines p m) c))
  s.putAsm (F.SWP_V_OW_SUSPECT g) (bitN (nextToLine (s.mon p m).suspect c))

/-- One monitor at publication: its stack word, its last readings, the next sweep's order (R166, R187). -/
def State.publishMon (s : State) (w : Sweep) (p m : Nat) : State :=
  let k := 32 * p + m
  let used := w.usedBlock p m
  let x := s.mon p m
  let s := forUpTo 16 (fun c s => if s.cellDeclared p m c then s.publishCell w p m c else s) s
  let s := s.putAsm (F.SWP_STACK_STALE k) (bitN (!used))
  let s := s.putAsm (F.SWP_STACK_SUM_MISMATCH k) (bitN (used && x.sumBad))
  let s := if used then s else s.putAsm (F.SWP_STACK_VOLT k) x.stackLast
  let log := x.forceLog.takeWhile (fun e => decide (w.tc.toNat < e.1.toNat))
  let old := (x.forceLog.drop log.length).take 1
  s.setMon p m { s.mon p m with
    missed := !(w.read.getD p 0).getLsbD m
    seen := x.seen || used
    sumBad := false
    stackLast := if used then s.fldAsm (F.SWP_STACK_VOLT k) else x.stackLast
    forceLog := log ++ old }

/-- One declared temperature point at publication: value, age in rotations, STALE, and its runs beyond the thresholds (R171, R173). -/
def State.publishPoint (s : State) (w : Sweep) (p h : Nat) : State :=
  let updated := (s.swp.tempAge.get h).getLsbD 7
  let stale := s.pointStale { w with closed := true } h
  let age := (s.swp.tempAge.get h).toNat % 128
  let age := if updated then 0 else if h % 8 == dueNtc w.epoch then min 63 (age + 1) else age
  let s : State := { s with swp := { s.swp with tempAge := s.swp.tempAge.set h (BitVec.ofNat 8 age) } }
  let t := if s.swp.lastTemp.get h == 0 then 0 else s.pointTemp h
  let s := ((s.putAsm (F.SWP_T_TEMP h) (code 16 t)).putAsm (F.SWP_T_STALE h) (bitN stale)).putAsm (F.SWP_T_AGE h) age
  if updated then
    let r := (s.swp.tempRuns.get h).toNat
    let ot := if s.fldS (F.PRT_S_TEMP_OT p) < t then min 15 (r % 16 + 1) else 0
    let ut := if t < s.fldS (F.PRT_S_TEMP_UT p) then min 15 (r / 16 + 1) else 0
    { s with swp := { s.swp with tempRuns := s.swp.tempRuns.set h (BitVec.ofNat 8 (ot + 16 * ut)) } }
  else s

/-- The declared cells of a string, as monitor and cell. -/
def State.declaredCells (s : State) (p : Nat) : List (Nat × Nat) :=
  (List.range (s.monCount p)).flatMap fun m => (List.range 16).filterMap fun c => if s.cellDeclared p m c then some (m, c) else none

/-- The declared temperature points of a string. -/
def State.declaredPoints (s : State) (p : Nat) : List Nat :=
  (List.range (s.monCount p)).flatMap fun m => (List.range 8).filterMap fun t => if (s.ntcMask p m).testBit t then some (pointIndex p m t) else none

/-- The limit flags of a string: OV, UV, OT, UT, STALE, SENSE_LOST, DIAG (R171, R172). -/
def State.limitFlags (s : State) (p : Nat) : Nat :=
  let cells := s.declaredCells p
  let points := s.declaredPoints p
  let run := fun (c : Cells 8) (k sh : Nat) => decide (2 ≤ (c.get k).toNat / sh % 16)
  let ov := cells.any fun x => run s.swp.runs (cellIndex p x.1 x.2) 1
  let uv := cells.any fun x => run s.swp.runs (cellIndex p x.1 x.2) 16
  let ot := points.any fun h => run s.swp.tempRuns h 1
  let ut := points.any fun h => run s.swp.tempRuns h 16
  let stale := cells.any fun x => decide (s.fld F.SWP_CFG_STALE_MAX ≤ (s.swp.staleRun.get (cellIndex p x.1 x.2)).toNat)
  bitN ov + 2 * bitN uv + 4 * bitN ot + 8 * bitN ut + 16 * bitN stale + 32 * bitN (s.senseLost p) + 64 * bitN (s.diagFault p)

/-- One declared string at publication: monitors, points, flags, and the bleed masks that the mode gives (R176, R181). -/
def State.publishString (s : State) (w : Sweep) (p : Nat) (tc : Tc) : State :=
  if !s.declared p then s
  else
    let s := forUpTo (s.monCount p) (fun m s => s.publishMon w p m) s
    let s := (s.declaredPoints p).foldl (fun s h => s.publishPoint w p h) s
    let s := s.putAsm (F.SWP_LIMIT_FLAGS p) (s.limitFlags p)
    let stale := (s.declaredCells p).any fun x => s.fldAsm (F.SWP_V_STALE (cellIndex p x.1 x.2)) == 1
    let s := s.putAsm ⟨F.SWP_STAT_STALE_STR.addr, F.SWP_STAT_STALE_STR.lo + p, 1⟩ (bitN stale)
    let masks := (List.range (s.monCount p)).map (fun m => s.modeMask p m)
    forUpTo (s.monCount p) (fun m s => s.wantMask p m (masks.getD m 0) tc) s

/-- A cell whose pass was not made in this sweep (R223). -/
def State.publishEst (s : State) (w : Sweep) : State :=
  let s := s.evalRest w
  let s := s.putAsm F.EST_STAT_BANK_REST (bitN s.est.restStart.isSome)
  let s := s.putAsm F.EST_STAT_REST_POINT (bitN (s.restPoint w.tc))
  forUpTo 4096 (fun g s => if s.stat g stDeclared && s.cell g C.EPOCH != w.epoch.toNat then s.putEstCell g true false false else s) s

/-- The read-back and the passes of the sweep are complete (R29). -/
def State.sweepComplete (s : State) (w : Sweep) : Bool :=
  (List.range 8).all fun p => !s.declared p || ((List.range (s.monCount p)).all fun m =>
    ((w.read.getD p 0).getLsbD m || !(s.port p).addressed.getLsbD m) && ((List.range 16).all fun c =>
      let g := cellIndex p m c
      !s.passDue { w with closed := true } g))

/-- The latest-snapshot pointer switches: the snapshot takes its epoch, instant, phase and ring states; the limit flags reach the Twill (R31, R32, R155). -/
def State.switchSnapshot (s : State) (w : Sweep) (tc : Tc) : State :=
  let snap := { s.assembling with
    epoch := w.epoch
    tc := w.tc
    phase := w.phase
    aligned := w.aligned
    ring := (List.range 8).map fun p => s.rd (F.DLK_P_STAT_STATE p).addr }
  let s : State := { s with
    previous := s.latest
    latest := snap
    assembling := Snapshot.empty
    swp := { s.swp with sweep := none } }
  let s := (s.put F.OBJ_EPOCH_LATEST w.epoch.toNat).put F.SWP_STAT_BUSY 0
  let s := forUpTo 8 (fun p s => if (s.port p).burstEpoch == some w.epoch then s.setPort p { s.port p with burstAligned := w.aligned } else s) s
  s.twill 0 tc

/-- A started CROSS or STATUS step whose read the sweep in hand does not carry is pending (R189). -/
def pendingStep (x : Port) : Bool :=
  match x.diag with
  | some d => (d.step == 0 || d.step == 3) && !diagReading x
  | none => false

/-- A disable gives up the pending steps of one port: those out of rotation, a started step not yet read, and a sink test in progress, which a write ends (R189). -/
def State.dropSteps (s : State) (p : Nat) : State :=
  let x := s.port p
  let y := { x with diagQueue := [] }
  if pendingStep x then s.setPort p { y with diag := none, queue := x.queue.filter (fun t => match t.purpose with
    | .diagStart _ => false
    | _ => true) }
  else match x.diag.filter (fun d => d.step == 1 || d.step == 2) with
  | some d => (s.setPort p { y with diag := none, queue := x.queue ++ [writeTxn (.sinkEnd d.mon) d.mon 0x186 [0#8]] }).setMon p d.mon { s.mon p d.mon with sunk := 0 }
  | none => s.setPort p y

/-- Sweep sequencer disable (R64, R189): the pending diagnostic steps are abandoned and counted; the sweep in hand goes on to its publication. -/
def State.swpDisable (s : State) : State :=
  let n := (List.range 8).foldl (fun a p => a + (s.port p).diagQueue.length + bitN (pendingStep (s.port p))) 0
  let s := (s.put F.SWP_ABANDON_CNT (min 65535 n)).put F.SWP_STAT_RUN 0
  forUpTo 8 (fun p s => s.dropSteps p) s

end Sys2Proof.Machine
end

