-- ==== Sys2Proof/Machine/Schedule.lean ====
section
/-! DEFINITION. Schedule.lean: the next firing of a sample group, and the conditions a complete table must meet (R122). -/
namespace Sys2Proof.Machine

open Sys2Proof

/-- The next CTL_SAMPLE firing of a group after a position, which is the deadline of its class S evaluations (R288); 0 where no entry has the group. -/
def State.nextSample (s : State) (group now : Nat) : Nat :=
  let es := (schedTable s.rd).filter (fun e => e.action == 6 && e.target == group)
  (leastOf (es.filterMap (fun e => e.after s.phb.startCycle now))).getD 0

/-! The conditions of R122. -/

/-- The number of cycles after which a table's pattern repeats. -/
def hyper (es : List SchedEntry) : Nat := es.foldl (fun a e => Nat.lcm a (e.div + 1)) 1

/-- Insert into a rising list. -/
def insertNat (x : Nat) : List Nat → List Nat
  | [] => [x]
  | a :: t => if x ≤ a then x :: a :: t else a :: insertNat x t

/-- A rising list of the same numbers. -/
def sortNat (l : List Nat) : List Nat := l.foldr insertNat []

/-- The firings of an entry in one pattern of h cycles, folded into the pattern. -/
def SchedEntry.inPattern (e : SchedEntry) (h : Nat) : List Nat :=
  ((List.range (h / (e.div + 1))).flatMap fun i => e.firings (i * (e.div + 1) + e.offset)).map (· % (h * cycleLen))

/-- The firings of some entries in one pattern, rising. -/
def patternOf (es : List SchedEntry) (h : Nat) : List Nat := sortNat (es.flatMap (fun e => e.inPattern h))

/-- The intervals between consecutive firings, the last one running into the next pattern. -/
def gaps (ps : List Nat) (h : Nat) : List Nat :=
  match ps with
  | [] => []
  | a :: t => (List.zip (a :: t) (t ++ [a + h * cycleLen])).map (fun p => p.2 - p.1)

/-- An interval at f mHz is at least n ns: d / 2^48 cycles of 10^12 / f ns each. -/
def gapAtLeast (d f n : Nat) : Bool := decide (n * f * cycleLen ≤ d * 10 ^ 12)

/-- An interval at f mHz is at most n ns. -/
def gapAtMost (d f n : Nat) : Bool := decide (d * 10 ^ 12 ≤ n * f * cycleLen)

/-- The frequencies the checks use, in mHz: nominal, the two ends of the lock range, internal. -/
structure SchedFreqs where
  nom : Nat
  lo : Nat
  hi : Nat
  int : Nat
deriving DecidableEq, Repr

/-- The frequencies as the phase section gives them; with the internal source nominal is the internal frequency. -/
def schedFreqs (get : Nat → Word) : SchedFreqs :=
  let int := (get 0x30050).toNat
  { nom := if fieldOf (get 0x30040) 0 3 == 0 then int else (get 0x30044).toNat
    lo := (get 0x30048).toNat
    hi := (get 0x3004c).toNat
    int := int }

/-- At every frequency of the range, which the two ends and the internal frequency bound (R122). -/
def SchedFreqs.everywhere (f : SchedFreqs) (p : Nat → Bool) : Bool := p f.lo && p f.hi && p f.int

/-- The entries of one action. -/
def ofAction (es : List SchedEntry) (a : Nat) : List SchedEntry := es.filter (fun e => e.action == a)

/-- At least one COMMIT firing, and its intervals (R122). -/
def commitOk (es : List SchedEntry) (f : SchedFreqs) : Bool :=
  let h := hyper es
  let g := gaps (patternOf (ofAction es 1) h) h
  !g.isEmpty && g.all fun d =>
    gapAtLeast d f.nom 900000 && gapAtMost d f.nom 1100000 &&
    f.everywhere fun x => gapAtLeast d x 500000 && gapAtMost d x 2000000

/-- At least one APERTURE firing, and its intervals (R122). -/
def apertureOk (es : List SchedEntry) (f : SchedFreqs) : Bool :=
  let h := hyper es
  let g := gaps (patternOf (ofAction es 4) h) h
  !g.isEmpty &&
  (g.all fun a => g.all fun b => gapAtMost (a - b) f.nom 1000) &&
  (g.all fun d => f.everywhere fun x => gapAtLeast d x 500000 && gapAtMost d x 1000000000)

/-- Between two consecutive apertures exactly one BAL_PAUSE firing falls, at the pause of the sweep sequencer before the second (R122). -/
def pauseOk (es : List SchedEntry) (f : SchedFreqs) (pauseUs : Nat) : Bool :=
  let h := hyper es
  let ap := patternOf (ofAction es 4) h
  let bp := patternOf (ofAction es 3) h
  let span := h * cycleLen
  match ap with
  | [] => false
  | a :: t =>
    (List.zip (a :: t) (t ++ [a + span])).all fun p =>
      let inside := (bp ++ bp.map (· + span)).filter fun b => decide (p.1 ≤ b ∧ b < p.2)
      match inside with
      | [b] =>
        let d := p.2 - b
        decide (b ≠ p.1) && gapAtLeast d f.nom (1000 * (pauseUs - 5)) && gapAtMost d f.nom (1000 * (pauseUs + 5))
      | _ => false

/-- No test window is open at an APERTURE firing, at nominal (R122). An aperture at the very end of a window counts as within it (log entry 166). -/
def windowsOk (es : List SchedEntry) (f : SchedFreqs) : Bool :=
  let h := hyper es
  let ap := patternOf (ofAction es 4) h
  let span := h * cycleLen
  (ofAction es 2).all fun e => (e.inPattern h).all fun w => ap.all fun a =>
    let d := (a + span - w) % span
    !(gapAtMost d f.nom (1000 * e.arg))

/-- Firings of any one entry at least 1 µs apart at PHB_FMAX (R122). -/
def spacingOk (es : List SchedEntry) (f : SchedFreqs) : Bool :=
  (es.filter (fun e => e.action != 0)).all fun e =>
    let h := e.div + 1
    (gaps (sortNat (e.inPattern h)) h).all fun d => gapAtLeast d f.hi 1000

/-- At most 16 million firings per second at PHB_FMAX (R122): the firings of one pattern against its length. -/
def rateOk (es : List SchedEntry) (f : SchedFreqs) : Bool :=
  let es := es.filter (fun e => e.action != 0)
  let h := hyper es
  let n := es.foldl (fun a e => a + h / (e.div + 1) * (e.reps + 1)) 0
  decide (n * f.hi ≤ 16000000 * 1000 * h)

/-- The least distance between firings of two groups, going round the pattern. -/
def closest (a b : List Nat) (span : Nat) : Option Nat :=
  leastOf (a.flatMap fun x => b.map fun y => min ((x + span - y) % span) ((y + span - x) % span))

end Sys2Proof.Machine
end

