-- ==== Sys2Proof/Machine/Cte.lean ====
section
/-! DEFINITION. Cte.lean: the control engine and string trimming (R270 to R299): sense streams, slots and their arithmetic, the selectors, the PWM generator, the trimmer commands. -/
namespace Sys2Proof.Machine

open Sys2Proof

/-! Slots. -/

/-- The record of slot n. -/
def State.slot (s : State) (n : Nat) : Slot := s.cte.slots.getD n Slot.reset

/-- Replace the record of a slot. -/
def State.setSlot (s : State) (n : Nat) (x : Slot) : State :=
  { s with cte := { s.cte with slots := setAt s.cte.slots n x } }

/-- Slots are evaluated: CTE is instantiated and enabled, and the half of the Lid holder is ready (R270, R290, R353). -/
def State.cteRuns (s : State) : Bool := !s.cteDormant && s.flag F.CTE_CTRL_EN && s.cte.ready

/-- The slot exists and is enabled (R271). -/
def State.slotOn (s : State) (n : Nat) : Bool := s.flag (F.CTE_L_IO_EXISTS n) && s.flag (F.CTE_L_CFG_EN n)

/-- RUN, BUSY and HALF of CTE_STAT: an issued class S evaluation keeps BUSY at 1, and the half of the active lane is the active one (R270). -/
def State.showCte (s : State) : State :=
  ((s.putFlag F.CTE_STAT_RUN s.cteRuns).putFlag F.CTE_STAT_BUSY (!s.cte.waiting.isEmpty)).putFlag F.CTE_STAT_HALF (s.flag F.LAN_STAT_ACTIVE)

/-- The results whose instant lies before a bound enter their output registers (R287). -/
def State.writeDue (s : State) (bound : Nat) : State :=
  let due := s.cte.outs.filter fun o => decide (o.1.toNat < bound)
  let s := due.foldl (fun s o => s.putS (F.CTE_L_OUT_VALUE o.2.1) o.2.2) s
  { s with cte := { s.cte with outs := s.cte.outs.filter fun o => decide (bound ≤ o.1.toNat) } }

/-! Arithmetic (R277 to R281). -/

/-- Saturation to 32 bits. -/
def satQ31 (x : Int) : Int := clampI (-(2 ^ 31)) (2 ^ 31 - 1) x

/-- A product or sum shifted right with the rounding of R278. -/
def shiftRound (x : Int) (k : Nat) : Int := if k = 0 then x else (x + 2 ^ (k - 1)) / 2 ^ k

/-- A 32-bit object as a signed number. -/
def State.rdS (s : State) (a : Nat) : Int := (s.rd a).toInt

/-- The object of coefficient i of slot n: b0 to b3, then a1 to a3. -/
def coeffAddr (n i : Nat) : Nat := 0x91020 + 0x100 * (n % 32) + 4 * (i % 7)

/-- Coefficient i in effect. -/
def State.coeff (s : State) (n i : Nat) : Int := s.rdS (coeffAddr n i)

/-- The shift of coefficient i. -/
def State.coeffShift (s : State) (n i : Nat) : Nat :=
  if i < 4 then fieldOf (s.rd (0x91014 + 0x100 * n)) (8 * i) 8 else fieldOf (s.rd (0x91018 + 0x100 * n)) (8 * (i - 4)) 8

/-- The signals the coefficients act on: e[n] to e[n-3], u[n-1] to u[n-3]. -/
def Slot.signals (x : Slot) (e : Int) : List Int := (e :: x.e.take 3) ++ x.u.take 3

/-- Coefficient i takes part in the law: 2P2Z leaves b3 and a3 out (R277). -/
def State.coeffUsed (s : State) (n i : Nat) : Bool := s.flag (F.CTE_L_CFG_LAW n) || (i != 3 && i != 6)

/-- The exact products of some coefficients. -/
def State.products (s : State) (n : Nat) (xs : List Int) (is : List Nat) : List (Nat × Int) :=
  (is.filter (s.coeffUsed n)).map fun i => (i, s.coeff n i * xs.getD i 0)

/-- The accumulator v (R278, R279). -/
def State.lawValue (s : State) (n : Nat) (e : Int) : Int :=
  let xs := (s.slot n).signals e
  if s.flag (F.CTE_L_CFG_FMT n) then
    let stage := fun (is : List Nat) (sh : Nat) =>
      let sum := (s.products n xs is).foldl (fun a p => a + p.2) (0 : Int)
      shiftRound sum (23 - signed 8 (fieldOf (s.rd sh) 0 8)).toNat
    stage [0, 1, 2, 3] (0x91014 + 0x100 * n) + stage [4, 5, 6] (0x91018 + 0x100 * n)
  else (s.products n xs [0, 1, 2, 3, 4, 5, 6]).foldl (fun a p => a + shiftRound p.2 (s.coeffShift n p.1)) 0

/-- The applied command of a trimmer, Q0.31. -/
def State.appliedM (s : State) (n : Nat) : Int := s.fldS (F.CTE_TRIM_M_M n)

/-- The slot tracks the applied command of its trimmer: TRACK = 1 and it does not drive (R281). -/
def State.tracks (s : State) (n : Nat) : Bool := s.flag (F.CTE_L_IO_TRACK n) && !s.flag (F.CTE_L_STAT_DRIVING n)

/-- The slot record of R295. -/
def State.slotRecord (s : State) (n : Nat) : List Byte :=
  let x := s.slot n
  let flags := 1 + 2 * s.fld (F.CTE_L_CFG_LAW n) + 4 * s.fld (F.CTE_L_CFG_FMT n) + 8 * s.fld (F.CTE_L_STAT_TRACKING n)
  let word := fun (i : Int) => bytesLe 4 (code 32 i)
  withCrc (bytesLe 2 x.count.toNat ++ bytesLe 2 flags ++ (x.e.take 3).flatMap word ++ (x.u.take 3).flatMap word ++
    (List.range 7).flatMap (fun i => word (s.coeff n i)) ++ bytesLe 4 s.placement.toNat)

/-- The record goes to the copy that is next in turn: X for an even counter, Y for an odd one (R295). -/
def State.writeRecord (s : State) (n : Nat) (tc : Tc) : State :=
  s.potWrite (64 * n + (if (s.slot n).count.getLsbD 0 then 2048 else 0)) (s.slotRecord n) tc

/-- One evaluation of a slot on its set-point and measurement, whose result enters the output register at an instant (R277 to R281, R287, R295). -/
def State.evalSlot (s : State) (n : Nat) (r y : Int) (tc out : Tc) : State :=
  let x := s.slot n
  let e := satQ31 (if s.flag (F.CTE_L_IO_INV n) then y - r else r - y)
  let v := s.lawValue n e
  let lo := s.fldS (F.CTE_L_UMIN_VALUE n)
  let hi := s.fldS (F.CTE_L_UMAX_VALUE n)
  let u := clampI lo hi v
  let sat := u != v
  let push := s.coeff n 0 * e
  let frozen := s.flag (F.CTE_L_CFG_AW n) && (decide (hi < v ∧ 0 < push) || decide (v < lo ∧ push < 0))
  let track := s.tracks n
  let m := s.appliedM (s.fld (F.CTE_L_IO_OSTR n))
  let s := s.setSlot n { x with
    e := (if frozen then 0 else e) :: x.e.take 2
    u := if track then [m, m, m] else u :: x.u.take 2
    count := x.count + 1 }
  let s : State := { s with cte := { s.cte with outs := s.cte.outs ++ [(out, n, u)] } }
  let s := (s.putS (F.CTE_L_MEAS_VALUE n) y).putS (F.CTE_L_REFE_VALUE n) r
  let s := (s.putFlag (F.CTE_L_STAT_SAT n) sat).putFlag (F.CTE_L_STAT_OVF n) (satQ31 v != v)
  let s := s.putFlag (F.CTE_L_STAT_TRACKING n) track
  let s := if sat then (s.bump (F.CTE_L_CNT0_SAT n)).event Ev.CTE_SAT else s
  s.writeRecord n tc

/-! Inputs (R282 to R285). -/

/-- The stream of trimmer n is valid at an instant: its latest good frame ended within 800 ns before, which is 200 ticks (R275). -/
def State.streamValid (s : State) (n : Nat) (tc : Tc) : Bool :=
  s.flag (F.CTE_TRIM_STAT_PRESENT n) && (match (s.trim n).good with
    | some t => decide ((tc - t).toNat ≤ 200)
    | none => false)

/-- K: the strings with a trimmer in RUN, in CLOSED, with a valid stream (R283). -/
def State.sharing (s : State) (tc : Tc) : List Nat :=
  (List.range 8).filter fun n =>
    s.flag (F.CTE_TRIM_STAT_PRESENT n) && s.strState n == ssClosed && s.trimState n == trimRun && s.streamValid n tc

/-- I of a string as Q0.31 raw. -/
def State.trimI (s : State) (n : Nat) : Int := 65536 * s.fldS (F.CTE_TRIM_MEAS_I n)

/-- The sum of I over K. -/
def State.sumI (s : State) (ks : List Nat) : Int := ks.foldl (fun a k => a + s.trimI k) 0

/-- The share of string n (R283). -/
def State.share (s : State) (n : Nat) (ks : List Nat) : Int :=
  let w := ks.foldl (fun a k => a + s.fld (F.DSP_S_LIM_X_W k)) 0
  if w = 0 then 0 else satQ31 (roundAway ((s.fld (F.DSP_S_LIM_X_W n) : Int) * s.sumI ks) w)

/-- The measurement of a slot; none where it depends on a stream that is not valid (R282, R285). -/
def State.slotMeas (s : State) (n : Nat) (ks : List Nat) (tc : Tc) : Option Int :=
  let p := s.fld (F.CTE_L_IO_MSTR n)
  match s.fld (F.CTE_L_IO_MSRC n) with
  | 0 => if s.streamValid p tc then some (s.trimI p) else none
  | 1 => if s.streamValid p tc then some (65536 * s.fldS (F.CTE_TRIM_MEAS_V_TRIM p)) else none
  | 2 => if s.streamValid p tc then some (32768 * (s.fld (F.CTE_TRIM_BUS_V_BUS p) : Int)) else none
  | 3 => some (s.sumI ks / 8)
  | _ => some (s.fldS (F.CTE_L_OUT_VALUE (s.fld (F.CTE_L_IO_MSLOT n))))

/-- The bound that a current limit in 0.1 A sets, as Q0.31 raw of I_FS (R284). -/
def State.currentBound (s : State) (tenths : Nat) : Int :=
  roundOpen ((tenths : Int) * 2 ^ 31) (10 * s.fld F.CTE_SCALE_I_FS)

/-- The bound that a power limit in kW sets at the V_BUS of a string, as Q0.31 raw of 8 × I_FS; V_BUS is taken as 20.48 V where it is lower (R284). -/
def State.powerBound (s : State) (p kw : Nat) : Int :=
  let v := max (100 * s.fld (F.CTE_TRIM_BUS_V_BUS p)) 65536
  roundOpen ((kw : Int) * 1000 * 2 ^ 31 * 6553600) (8 * s.fld F.CTE_SCALE_I_FS * 2048 * v)

/-- The set-point before its limit; none where it cannot be formed (R282, R285). -/
def State.slotRef (s : State) (n : Nat) (ks : List Nat) : Option Int :=
  match s.fld (F.CTE_L_IO_RSRC n) with
  | 0 => some (s.fldS (F.CTE_L_REF_VALUE n))
  | 1 => some (s.fldS (F.CTE_L_OUT_VALUE (s.fld (F.CTE_L_IO_RSLOT n))))
  | _ => let p := s.fld (F.CTE_L_IO_MSTR n); if ks.contains p then some (s.share p ks) else none

/-- The set-point after the clamp of R284. -/
def State.slotClamp (s : State) (n : Nat) (r : Int) (tc : Tc) : Option Int :=
  let p := s.fld (F.CTE_L_IO_MSTR n)
  match s.fld (F.CTE_L_IO_LIM n) with
  | 1 => some (satQ31 (clampI (- s.currentBound (s.fld (F.DSP_S_LIM_I_DIS p))) (s.currentBound (s.fld (F.DSP_S_LIM_I_CHG p))) r))
  | 2 =>
    if s.streamValid p tc then
      some (satQ31 (clampI (- s.powerBound p (s.fld F.DSP_LIM_P_DIS)) (s.powerBound p (s.fld F.DSP_LIM_P_CHG)) r))
    else none
  | _ => some r

/-- The inputs of a slot at the latch: set-point and measurement; none where the slot is skipped (R285). -/
def State.slotInputs (s : State) (n : Nat) (ks : List Nat) (tc : Tc) : Option (Int × Int) :=
  match s.slotRef n ks, s.slotMeas n ks tc with
  | some r, some y => (s.slotClamp n r tc).map fun r => (r, y)
  | _, _ => none

/-! The sample tick (R272, R286 to R288). -/

/-- The divider counter is tested: the slot evaluates at 0 (R272). -/
def State.divTick (s : State) (n : Nat) : State :=
  let x := s.slot n
  s.setSlot n { x with div := if x.div = 0 then s.fld (F.CTE_L_CFG_DIV n) else x.div - 1 }

/-- A class S evaluation that has not been made by its deadline is discarded (R288). -/
def State.missSlot (s : State) (n : Nat) : State := (s.bump (F.CTE_L_CNT0_MISS n)).event Ev.CTE_MISS

/-- A slot is skipped (R285). -/
def State.skipSlot (s : State) (n : Nat) : State := (s.bump (F.CTE_L_CNT1_SKIP n)).event Ev.CTE_SKIP

/-- The slots of a group that are due at this firing. -/
def State.dueSlots (s : State) (group : Nat) : List Nat :=
  (List.range 32).filter fun n => s.slotOn n && s.fld (F.CTE_L_CFG_GROUP n) == group && (s.slot n).div == 0

/-- One due slot with its latched inputs: skipped, evaluated (class P) with its output 240 ns after the latch, which is 60 ticks (R287), or put in line (class S). -/
def State.issueSlot (s : State) (n : Nat) (inp : Option (Int × Int)) (deadline : Nat) (tc : Tc) : State :=
  match inp with
  | none => s.skipSlot n
  | some (r, y) =>
    if s.flag (F.CTE_L_CFG_CLASS n) then
      { s with cte := { s.cte with waiting := s.cte.waiting ++ [{ slot := n, r, y, deadline }] } }
    else s.evalSlot n r y tc (tc + 60)

/-- The deadline of a group: its evaluations that still wait are not made (R288). -/
def State.missGroup (s : State) (group : Nat) : State :=
  let late := s.cte.waiting.filter fun w => s.fld (F.CTE_L_CFG_GROUP w.slot) == group
  let s : State := { s with cte := { s.cte with waiting := s.cte.waiting.filter fun w => s.fld (F.CTE_L_CFG_GROUP w.slot) != group } }
  (late.foldl (fun s w => s.missSlot w.slot) s).showCte

/-- A slot that a live set has enabled starts at its first sample tick: zero history, or with TRACK = 1 the applied m in its u history (R290). -/
def State.freshSlot (s : State) (n : Nat) : State :=
  let m := if s.flag (F.CTE_L_IO_TRACK n) then s.appliedM (s.fld (F.CTE_L_IO_OSTR n)) else 0
  s.setSlot n { s.slot n with e := [0, 0, 0], u := [m, m, m], fresh := false }

/-- A CTL_SAMPLE firing of a group: results due before the latch are in their registers; evaluations of the group that still wait miss their deadline; all inputs are taken at the latch; class P slots are evaluated (R282 to R288). -/
def State.sampleGroup (s : State) (group : Nat) (tc : Tc) : State :=
  let s := (s.writeDue tc.toNat).missGroup group
  let s := forUpTo 32 (fun n s => if s.slotOn n && s.fld (F.CTE_L_CFG_GROUP n) == group && (s.slot n).fresh then s.freshSlot n else s) s
  let s := forUpTo 8 (fun n s => s.putFlag (F.CTE_TRIM_STAT_STREAM_OK n) (s.streamValid n tc)) s
  let due := s.dueSlots group
  let ks := s.sharing tc
  let inputs := due.map fun n => (n, s.slotInputs n ks tc)
  let deadline := s.nextSample group (s.positionAt tc)
  let s := forUpTo 32 (fun n s => if s.slotOn n && s.fld (F.CTE_L_CFG_GROUP n) == group then s.divTick n else s) s
  (inputs.foldl (fun s p => s.issueSlot p.1 p.2 deadline tc) s).showCte

/-- CTL_SAMPLE (R286): a firing within an interruption is not evaluated and not counted (R295); with EN at 0 it is still the deadline of what was issued (R288, R290). -/
def execCtlSample (k : Fin 64) (tc : Tc) (s : State) : Host.Outcome State Fault Refusal :=
  if s.fires k 6 tc then
    let s := s.acted (firingKey k 6) tc
    let g := s.fld (F.PHB_SCHED_A_TARGET k)
    .next (if s.cteRuns then s.sampleGroup g tc else if !s.cteDormant && s.cte.ready then s.missGroup g else s)
  else .next s

/-- The first in line: the earliest deadline, then the lower slot (R288). -/
def firstS : List ClassS → Option ClassS
  | [] => none
  | w :: t => match firstS t with
    | none => some w
    | some v => if v.deadline < w.deadline || (v.deadline == w.deadline && decide (v.slot < w.slot)) then some v else some w

/-- CLASS_S_EVALUATION (R288): on the inputs of the latch that issued it; one that comes at its deadline or later is discarded. -/
def execClassSEvaluation (tc : Tc) (s : State) : Host.Outcome State Fault Refusal :=
  match firstS s.cte.waiting with
  | none => .next s
  | some w =>
    if s.cteDormant || !s.cte.ready then .next s
    else
      let s : State := { s with cte := { s.cte with waiting := s.cte.waiting.filter fun v => v.slot != w.slot } }
      .next ((if w.deadline ≤ s.positionAt tc then s.missSlot w.slot else s.evalSlot w.slot w.r w.y tc tc).showCte)

/-! Sense streams (R273 to R275). -/

/-- One bit of the CRC-8 with generator 0x2F. -/
def crc8Shift (c : BitVec 8) : BitVec 8 := if c.getLsbD 7 then (c <<< 1) ^^^ 0x2F#8 else c <<< 1

/-- One byte of the CRC-8. -/
def crc8Byte (c b : BitVec 8) : BitVec 8 :=
  crc8Shift (crc8Shift (crc8Shift (crc8Shift (crc8Shift (crc8Shift (crc8Shift (crc8Shift (c ^^^ b))))))))

/-- CRC-8 of R274: initial value 0xFF, final exclusive-or 0xFF. -/
def crc8 (l : List Byte) : Byte := l.foldl crc8Byte 0xFF#8 ^^^ 0xFF#8

/-- Streams and status move a running trimmer, except in a takeover interruption, in which only a trip input does (R46, R299). -/
def State.streamBypass (s : State) (n : Nat) : State :=
  if s.cte.ready && s.trimState n == trimRun then s.tripBypass n else s

/-- The new half finds what the streams have become in the interruption (R46, R299). -/
def State.streamRecheck (s : State) : State :=
  forUpTo 8 (fun n s => if (s.trim n).lost || (s.fld (F.CTE_TRIM_STAT_STATUS n)).testBit 1 then s.streamBypass n else s) s

/-- SENSE_FRAME (R273, R274, R299): a good frame is kept, a bad one counted; FAULT bypasses a running trimmer. -/
def execSenseFrame (n : Fin 8) (sync : BitVec 16) (bytes : List Byte) (tc : Tc) (s : State) : Host.Outcome State Fault Refusal :=
  if s.cteDormant || !s.flag (F.CTE_TRIM_STAT_PRESENT n) then .next s
  else if sync != 0xF0C3#16 || crc8 (bytes.take 7) != bytes.getD 7 0 then .next (s.bump (F.CTE_TRIM_ERR_CRC n))
  else
    let b := (bytes.getD 6 0).toNat
    let s := (s.put (F.CTE_TRIM_MEAS_I n) (leAt bytes 0 2)).put (F.CTE_TRIM_MEAS_V_TRIM n) (leAt bytes 2 2)
    let s := ((s.put (F.CTE_TRIM_BUS_V_BUS n) (leAt bytes 4 2)).put (F.CTE_TRIM_BUS_STATUS n) b).put (F.CTE_TRIM_BUS_SEQ n) (b / 16)
    let s := (s.put (F.CTE_TRIM_STAT_STATUS n) b).put (F.CTE_TRIM_STAT_STREAM_OK n) 1
    let s := s.setTrim n { s.trim n with good := some tc, lost := false }
    .next (if b.testBit 1 then s.streamBypass n else s)

/-- STREAM_LOST (R275): not valid for 10 µs, so 10.8 µs after its latest good frame, which is 2,700 ticks. -/
def execStreamLost (n : Fin 8) (tc : Tc) (s : State) : Host.Outcome State Fault Refusal :=
  let x := s.trim n
  let due := match x.good with
    | some t => decide (2700 ≤ (tc - t).toNat)
    | none => true
  if s.cteDormant || !s.flag (F.CTE_TRIM_STAT_PRESENT n) || x.lost || !due then .next s
  else
    let s := (s.setTrim n { x with lost := true }).put (F.CTE_TRIM_STAT_STREAM_OK n) 0
    let s := (s.bump (F.CTE_TRIM_ERR_LOST n)).event Ev.CTE_STREAM
    .next (s.streamBypass n)

/-! Selector and PWM generator (R291, R296, R297). -/

/-- The carrier period in effect, coarse steps: PER as the last period start took it; before the carriers start, PER itself (R297). -/
def State.periodOf (s : State) (n : Nat) : Nat := if s.cte.carriers then (s.trim n).per else s.fld (F.CTE_TRIM_PWM_PER n)

/-- The on-time of a leg in fine steps, from 2^31 times its duty doubled, with the pulse limits; and whether a limit acted (R296). -/
def State.legTime (s : State) (n : Nat) (d : Int) : Nat × Bool :=
  let per := s.periodOf n
  let minp := s.fld (F.CTE_TRIM_MINP_MINP n)
  let on := (roundNear (d * (16 * per : Nat)) (2 ^ 32)).toNat
  if on < 16 * minp then (0, on != 0)
  else if 16 * (per - minp) < on then (16 * per, on != 16 * per)
  else (on, false)

/-- The compares of a command m: the applied m after the limits, and the on-times of leg A and leg B (R296). -/
def State.compares (s : State) (n : Nat) (m : Int) : Int × Nat × Nat :=
  let a := s.legTime n (2 ^ 31 + m)
  let b := s.legTime n (2 ^ 31 - m)
  let per := s.periodOf n
  let applied := if a.2 || b.2 then satQ31 (roundOpen (((a.1 : Int) - (b.1 : Int)) * 2 ^ 31) (16 * per)) else m
  (applied, a.1, b.1)

/-- The edges of a leg with a given on-time (R296): the on-time is centred at `centre` in a period of `len` fine steps, and each gate switches on `dead` fine steps after the other has switched off. -/
def legOf (len dead centre on : Nat) : Leg :=
  if on = 0 then .hold false
  else if len ≤ on then .hold true
  else
    let rise := (centre + len - on / 2) % len
    let fall := (rise + on) % len
    .edges ((rise + dead) % len) fall ((fall + dead) % len) rise

/-- Both legs of a trimmer for the period that begins: leg B's centre lies half a period after leg A's with INTERLEAVE = 1 (R296). -/
def State.showLegs (s : State) (n : Nat) : State :=
  let x := s.trim n
  let len := 16 * x.per
  let dead := 16 * s.fld (F.CTE_TRIM_PWM_DT n)
  let shift := if s.flag (F.CTE_TRIM_PWM_INTERLEAVE n) then len / 2 else 0
  s.setTrim n { x with legA := legOf len dead (len / 2) x.onA, legB := legOf len dead (len / 2 + shift) x.onB }

/-- The slot whose output the selector of a trimmer takes (R291); slot A drives where both are equal. -/
def State.selected (s : State) (n : Nat) : Nat :=
  let a := s.fld (F.CTE_TRIM_SEL_SLOT_A n)
  let b := s.fld (F.CTE_TRIM_SEL_SLOT_B n)
  let ua := s.fldS (F.CTE_L_OUT_VALUE a)
  let ub := s.fldS (F.CTE_L_OUT_VALUE b)
  match s.fld (F.CTE_TRIM_SEL_MODE n) with
  | 0 => a
  | 1 => if ub < ua then b else a
  | 2 => if ua < ub then b else a
  | _ => if s.flag (F.CTE_TRIM_SEL_SW n) then b else a

/-- DRIVING of the slots of a trimmer: the slot its selector takes while the trimmer is in RUN. -/
def State.showDriving (s : State) (n : Nat) : State :=
  let k := s.selected n
  let run := s.trimState n == trimRun
  forUpTo 32 (fun i s =>
    if s.flag (F.CTE_L_IO_OTGT i) && s.fld (F.CTE_L_IO_OSTR i) == n then s.putFlag (F.CTE_L_STAT_DRIVING i) (run && i == k) else s) s

/-- A TRIM_UPDATE firing at one trimmer: the compares of a trimmer in RUN enter its shadow register (R291, R297). -/
def State.updateTrim (s : State) (n : Nat) : State :=
  let s := s.showDriving n
  if s.trimState n == trimRun then
    s.setTrim n { s.trim n with shadow := some (s.compares n (s.fldS (F.CTE_L_OUT_VALUE (s.selected n)))) }
  else s

/-- The carriers start and then run at PER (R297). -/
def State.startCarriers (s : State) : State :=
  if s.cte.carriers then s
  else
    let s := forUpTo 8 (fun n s => s.setTrim n { s.trim n with per := s.fld (F.CTE_TRIM_PWM_PER n) }) s
    { s with cte := { s.cte with carriers := true } }

/-- TRIM_UPDATE (R291): the first one after the engine is enabled starts the carriers; one within an interruption loads nothing (R295). -/
def execTrimUpdate (k : Fin 64) (tc : Tc) (s : State) : Host.Outcome State Fault Refusal :=
  if s.fires k 7 tc then
    let s := s.acted (firingKey k 7) tc
    if s.cteRuns then
      let target := s.fld (F.PHB_SCHED_A_TARGET k)
      let s := (s.writeDue (tc.toNat + 1)).startCarriers
      .next (forUpTo 8 (fun n s => if target.testBit n && s.flag (F.CTE_TRIM_STAT_PRESENT n) then s.updateTrim n else s) s)
    else .next s
  else .next s

/-- CARRIER_PERIOD_START (R297, R299): the shadow, PER and a change of the gates take effect; within an interruption every leg holds its last duty (R46). -/
def execCarrierPeriodStart (n : Fin 8) (s : State) : Host.Outcome State Fault Refusal :=
  let x := s.trim n
  if !s.cte.carriers || !s.cte.ready then .next s
  else
    let s := s.setTrim n { x with gate := x.gateNext.getD x.gate, gateNext := none, shadow := none, per := s.fld (F.CTE_TRIM_PWM_PER n) }
    match x.shadow with
    | none => .next (s.showLegs n)
    | some (m, a, b) =>
      .next (((s.setTrim n { s.trim n with onA := a, onB := b }).showLegs n).putS (F.CTE_TRIM_M_M n) m)

/-! Trimmer commands (R299). -/

/-- Refusal codes of R299. -/
def trNotPresent : Nat := 3
def trWrongState : Nat := 4
def trTrip : Nat := 5
def trNoStream : Nat := 6
def trStringActive : Nat := 7

/-- A refusal is recorded in STAT.REFUSE. -/
def State.refuseTrim (s : State) (n c : Nat) : State := s.put (F.CTE_TRIM_STAT_REFUSE n) c

/-- A trimmer command passes the Lid gate and the placement epoch first (R25, R299); a stale one is a discarded transfer of sink 5 (R356); every command to a string without a trimmer is refused with NOT_PRESENT. -/
def State.trimCommand (s : State) (n : Nat) (o : Origin) (act : State → State) : State :=
  if s.cteDormant then s
  else match s.portRefusal o with
    | some r => (s.noteStale o 5).refuseTrim n r
    | none => if s.flag (F.CTE_TRIM_STAT_PRESENT n) then act s else s.refuseTrim n trNotPresent

/-- ENABLE. -/
def State.trimEnable (s : State) (n : Nat) : State :=
  if s.trimState n != trimOff then s.refuseTrim n trWrongState
  else ((s.put (F.CTE_TRIM_STAT_STATE n) trimBypass).zeroNow n).trimTrip n

/-- RUN: shadow m is 0, PWM from the next period start. -/
def State.trimRunCmd (s : State) (n : Nat) (tc : Tc) : State :=
  if s.trimState n != trimBypass then s.refuseTrim n trWrongState
  else if s.tripInput n then s.refuseTrim n trTrip
  else
    let st := s.fld (F.CTE_TRIM_STAT_STATUS n)
    if s.streamValid n tc && st.testBit 0 && !st.testBit 1 then
      (s.put (F.CTE_TRIM_STAT_STATE n) trimRun).setTrim n { s.trim n with shadow := some (s.compares n 0), gateNext := some .pwm }
    else s.refuseTrim n trNoStream

/-- STOP: the zero-voltage state at the next period start. -/
def State.trimStop (s : State) (n : Nat) : State :=
  if s.trimState n != trimRun then s.refuseTrim n trWrongState
  else let s := s.toBypass n; s.setTrim n { s.trim n with gateNext := some .zero }

/-- DISABLE: the string in OPEN, TRIPPED or LOCKOUT. -/
def State.trimDisable (s : State) (n : Nat) : State :=
  let st := s.strState n
  if s.trimState n != trimBypass then s.refuseTrim n trWrongState
  else if st == ssOpen || st == ssTripped || st == ssLockout then
    (s.put (F.CTE_TRIM_STAT_STATE n) trimOff).setTrim n { s.trim n with gate := .off, gateNext := none }
  else s.refuseTrim n trStringActive

/-- TRIM_ENABLE (R299). -/
def execTrimEnable (n : Fin 8) (o : Origin) (s : State) : Host.Outcome State Fault Refusal := .next (s.trimCommand n o (·.trimEnable n))
/-- TRIM_RUN (R299). -/
def execTrimRun (n : Fin 8) (o : Origin) (tc : Tc) (s : State) : Host.Outcome State Fault Refusal := .next (s.trimCommand n o (·.trimRunCmd n tc))
/-- TRIM_STOP (R299). -/
def execTrimStop (n : Fin 8) (o : Origin) (s : State) : Host.Outcome State Fault Refusal := .next (s.trimCommand n o (·.trimStop n))
/-- TRIM_DISABLE (R299). -/
def execTrimDisable (n : Fin 8) (o : Origin) (s : State) : Host.Outcome State Fault Refusal := .next (s.trimCommand n o (·.trimDisable n))

/-- A write of CTE_TRIMs_CTRL: values that are no command are discarded. -/
def State.trimWrite (s : State) (n c : Nat) (o : Origin) (tc : Tc) : State :=
  match c with
  | 1 => s.trimCommand n o (·.trimEnable n)
  | 2 => s.trimCommand n o (·.trimRunCmd n tc)
  | 3 => s.trimCommand n o (·.trimStop n)
  | 4 => s.trimCommand n o (·.trimDisable n)
  | _ => s

/-! Direct coefficient writes (R292, R293). -/

/-- The place of a coefficient among b0 to a3. -/
def coeffIndex : Coeff → Nat
  | .b0 => 0
  | .b1 => 1
  | .b2 => 2
  | .b3 => 3
  | .a1 => 4
  | .a2 => 5
  | .a3 => 6

/-- A mantissa of the block-floating format lies within 24 bits. -/
def mantissaOk (v : Word) : Bool := decide (-(2 ^ 23) ≤ v.toInt) && decide (v.toInt ≤ 2 ^ 23 - 1)

/-- A direct write of coefficient i: in effect at once, or discarded with DWR_REJ; a write without the Lid or of an earlier placement never acts (R25, R292). -/
def State.directWrite (s : State) (n i : Nat) (v : Word) (o : Origin) : State :=
  if s.cteDormant then s
  else match s.portRefusal o with
    | some _ => s.noteStale o 5
    | none =>
      if s.flag (F.CTE_L_CFG_DWR_EN n) && (!s.flag (F.CTE_L_CFG_FMT n) || mantissaOk v) then s.wr (coeffAddr n i) v
      else s.event Ev.CTE_DWR_REJ

/-- DIRECT_COEFF_WRITE (R292). -/
def execDirectCoeffWrite (l : Fin 32) (c : Coeff) (v : Word) (o : Origin) (s : State) : Host.Outcome State Fault Refusal :=
  .next (s.directWrite l (coeffIndex c) v o)

/-! Enable, live set, start, takeover (R270, R272, R289, R290, R295). -/

/-- CTE_CTRL.EN goes to 0: every trimmer in RUN moves to BYPASS (R290). The carriers run on, so that a STOP takes effect (R297, R299). -/
def State.cteDisable (s : State) : State :=
  let s := s.put F.CTE_CTRL_EN 0
  (forUpTo 8 (fun n s => if s.trimState n == trimRun then (s.toBypass n).zeroNow n else s) s).showCte

/-- CTE_CTRL.EN goes to 1. -/
def State.cteEnable (s : State) : State := (s.put F.CTE_CTRL_EN 1).showCte

/-- Evaluations per second of the enabled slots of some objects at PHB_FMAX (R289). -/
def cteLoad (get : Nat → Word) : Nat :=
  let es := schedTable get
  let f := (schedFreqs get).hi
  (List.range 32).foldl (fun a n =>
    let cfg := get (0x91000 + 0x100 * n)
    if cfg.getLsbD 31 then
      let of := es.filter fun e => e.action == 6 && e.target == fieldOf cfg 21 3
      let h := hyper of
      let k := of.foldl (fun b e => b + h / (e.div + 1) * (e.reps + 1)) 0
      a + (roundOpen (k * f : Nat) (1000 * h * (fieldOf cfg 13 8 + 1))).toNat
    else a) 0

/-- Load a slot's divider counter with DOFS (R272). -/
def State.loadDiv (s : State) (n : Nat) : State := s.setSlot n { s.slot n with div := s.fld (F.CTE_L_CFG_DOFS n) }

/-- What an applied live set does to the slots: `old` is the configuration word of each slot before it (R272, R290). -/
def State.cteApplied (s : State) (old : Nat → Word) : State :=
  let s := forUpTo 32 (fun n s =>
    let was := (old n).getLsbD 31
    let on := s.flag (F.CTE_L_CFG_EN n)
    let s := if fieldOf (old n) 5 16 != fieldOf (s.rd (0x91000 + 0x100 * n)) 5 16 then s.loadDiv n else s
    if was && !on then
      let s := (s.setSlot n { s.slot n with e := [0, 0, 0], u := [0, 0, 0] }).put (F.CTE_L_OUT_VALUE n) 0
      { s with cte := { s.cte with
        waiting := s.cte.waiting.filter fun w => w.slot != n
        outs := s.cte.outs.filter fun o => o.2.1 != n } }
    else if !was && on then let s := s.loadDiv n; s.setSlot n { s.slot n with fresh := true }
    else s) s
  (s.put F.CTE_LOAD_EVALS (cteLoad s.rd)).showCte

/-- The control engine at a start: every divider loaded, every history zero, trimmers as declared, both register image copies written (R272, R299, R349). -/
def State.cteStart (s : State) (tc : Tc) : State :=
  let s : State := { s with cte := { Cte.reset with ready := true } }
  let s := forUpTo 8 (fun n s => (s.put (F.CTE_TRIM_STAT_STATE n) trimOff).putFlag (F.CTE_TRIM_STAT_PRESENT n) (s.declared n && s.hasTrimmer n)) s
  let s := forUpTo 32 (fun n s => s.loadDiv n) s
  let s := s.put F.CTE_LOAD_EVALS (cteLoad s.rd)
  ((s.trimTrips.writeImage 0 tc).writeImage 1 tc).showCte

/-- The Lid is withdrawn: the half stops, evaluations in progress are lost without a MISS (R353, R357). -/
def State.cteHalt (s : State) : State :=
  ({ s with cte := { s.cte with ready := false, waiting := [], outs := [] } } : State).showCte

/-- The newer of two evaluation counters. -/
def newerCount (a b : Nat) : Bool := decide ((a + 65536 - b) % 65536 < 32768)

/-- The record of a slot that a takeover takes: valid, intact, of the present epoch, the newer of X and Y (R295). -/
def State.bestRecord (s : State) (n : Nat) : Option (List Byte) :=
  let copy := fun (a : Nat) => loadBytes s.pot.mem a 64
  let good := fun (l : List Byte) => crcGood l && (l.getD 2 0).getLsbD 0 && leAt l 56 4 == s.placement.toNat
  let x := copy (64 * n)
  let y := copy (2048 + 64 * n)
  if good x && (!good y || newerCount (leAt x 0 2) (leAt y 0 2)) then some x else if good y then some y else none

/-- A slot of the new half: its record's histories, coefficients and counter; without a record zero history and COLD (R295). -/
def State.restoreSlot (s : State) (n : Nat) : State :=
  match s.bestRecord n with
  | some l =>
    let w := fun (off : Nat) => signed 32 (leAt l off 4)
    let s := s.setSlot n { s.slot n with e := [w 4, w 8, w 12], u := [w 16, w 20, w 24], count := BitVec.ofNat 16 (leAt l 0 2) }
    let s := forUpTo 7 (fun i s => s.wr (coeffAddr n i) (BitVec.ofNat 32 (leAt l (28 + 4 * i) 4))) s
    s.putS (F.CTE_L_OUT_VALUE n) (w 16)
  | none =>
    let s := s.setSlot n { s.slot n with e := [0, 0, 0], u := [0, 0, 0] }
    (s.put (F.CTE_L_OUT_VALUE n) 0).event Ev.CTE_COLD

/-- The usable register image with the higher commit count (R351). -/
def State.bestImage (s : State) : Option (List Byte) :=
  let a := s.imageCopy 0
  let b := s.imageCopy 1
  let ua := imageUsable a s.placement
  let ub := imageUsable b s.placement
  if ua && (!ub || decide (leAt b 0 4 ≤ leAt a 0 4)) then some a else if ub then some b else none

/-- The new half loads its registers from the register image, then its slot states (R295, R353). -/
def State.cteRestore (s : State) (l : List Byte) : State :=
  let s := forUpTo 32 (fun n s =>
    forUpTo 13 (fun i s => s.wr (slotImageAddr n i) (BitVec.ofNat 32 (leAt l (16 + 52 * n + 4 * i) 4))) s) s
  let s := forUpTo 8 (fun n s => forUpTo 3 (fun i s =>
    s.wr ((F.CTE_TRIM_SEL_SW n).addr + 4 * (i % 3)) (BitVec.ofNat 32 (leAt l (1680 + 16 * n + 4 * i) 4))) s) s
  forUpTo 32 (fun n s => if s.slotOn n then s.restoreSlot n else s) s

end Sys2Proof.Machine
end

