-- ==== Sys2Proof/Machine/Dsp.lean ====
section
/-! DEFINITION. Dsp.lean: state of power, dispatch and the limit set (R34 to R37, R300 to R307, R513). Figures are exact fractions until they are stored. -/
namespace Sys2Proof.Machine

open Sys2Proof

/-- Dispatch computes: the section is there and the active lane's firmware is the writer of the limit set (R42, R60). -/
def State.dspRuns (s : State) : Bool := !s.blockDormant 10 && s.lidHeld && !s.flag F.LAN_STAT_MGMT_PEND

/-! Section 0x000C (R308). -/

/-- Horizon h in seconds: 2, 10, 30, h_cont. -/
def State.horizon (s : State) (h : Nat) : Nat :=
  match h with
  | 0 => 2
  | 1 => 10
  | 2 => 30
  | _ => s.img 12 8 2

/-- Growth factor of horizon h. -/
def State.growth (s : State) (h : Nat) : Rat := (s.img 12 (2 * h) 2 : Rat) / 4096

/-- Low-temperature point i: temperature, f_chg, f_dis. -/
def lowPoint (b : List Byte) (i : Nat) : Rat × Rat × Rat :=
  ((signed 16 (leAt b (44 + 6 * i) 2) : Rat), (leAt b (46 + 6 * i) 2 : Rat) / 32768, (leAt b (48 + 6 * i) 2 : Rat) / 32768)

/-- The factors f_chg and f_dis at a temperature: linear between the points, constant beyond the ends (R302). -/
def lowScan (b : List Byte) (x : Rat) : Nat → Nat → Rat × Rat
  | 0, i => (lowPoint b i).2
  | fuel + 1, i =>
    let p := lowPoint b i
    let q := lowPoint b (i + 1)
    if x ≤ p.1 then p.2
    else if x < q.1 then
      let t := (x - p.1) / (q.1 - p.1)
      (p.2.1 + t * (q.2.1 - p.2.1), p.2.2 + t * (q.2.2 - p.2.2))
    else lowScan b x fuel (i + 1)

/-! State of power (R300 to R303). -/

/-- The forward lookup: V_o in V and the slope S in V per full SoC (R206, R300). -/
def ocvForward (b : List Byte) (t : Nat) (temp : Int) (soc : Nat) : Rat × Rat :=
  let n := leAt b (176 + 560 * t) 1
  let x := clampI (ocvAxis b t 0) (ocvAxis b t (n - 1)) temp
  let j := ocvColumn b t x (n - 2) 0
  let f : Rat := ((x - ocvAxis b t j : Int) : Rat) / ((ocvAxis b t (j + 1) - ocvAxis b t j : Int) : Rat)
  let o := fun (k : Nat) => ((ocvAt b t k j : Nat) : Rat) + f * (((ocvAt b t k (j + 1) : Nat) : Rat) - ((ocvAt b t k j : Nat) : Rat))
  let k := min 31 (32 * soc / 65536)
  let frac : Rat := ((32 * soc : Nat) : Rat) / 65536 - (k : Rat)
  ((o k + frac * (o (k + 1) - o k)) / 10000, 32 * (o (k + 1) - o k) / 10000)

/-- Z_T of a cell at a temperature, in Ω; none where the formula divides by an F of 0 (R300). -/
def State.dispatchZ (s : State) (g : Nat) (temp : Int) : Option Rat :=
  let p := strOf g
  let f := s.factor temp
  let byFactor := fun (z : Rat) => if f.1 = 0 then none else some (z / ((f.1 : Rat) / (4096 * (f.2 : Rat))))
  let ref := s.img 8 (4 + 16 * p + 4) 4
  if (s.cell g (C.Z_FLAGS 2)).testBit 0 then byFactor ((s.cellS g (C.Z_FILT 2) : Rat) / 2 ^ 24)
  else if ref != 0 then byFactor ((signed 32 ref : Rat) / 2 ^ 24)
  else some ((signed 32 (s.img 12 (12 + 4 * p) 4) : Rat) / 2 ^ 24)

/-- A cell's figures: V_o, and R_h of the four horizons, of either sign; none where the formula divides by 0. -/
structure CellFigure where
  vo : Rat
  r : List (Option Rat)

/-- The figures of a cell (R300). -/
def State.cellFigure (s : State) (snap : Snapshot) (g : Nat) : CellFigure :=
  let temp := signed 16 (objFld snap.objs (F.SWP_T_TEMP (s.pointOfCell g)))
  let l := ocvForward (s.sec 8) (s.img 8 (4 + 16 * strOf g) 1) temp (objFld snap.objs (F.EST_CELL_SOC g))
  let z := s.dispatchZ g temp
  let q : Rat := (s.cell g C.Q_LEARN : Rat) / 65536
  { vo := l.1
    r := (List.range 4).map fun h => match z with
      | some z => if q = 0 then none else some (s.growth h * z + (s.horizon h : Rat) * l.2 / (3600 * q))
      | none => none }

/-- The largest number of 0.1 A or kW below a fraction that a 16-bit field holds; rounded toward zero (R301, R303). -/
def trunc16 (x : Rat) : Nat := min 65535 x.floor.toNat

/-- V_M, doubled for an unaligned aperture of an external source (R300), in V. -/
def State.vMargin (s : State) (unaligned : Bool) : Rat :=
  (s.fld F.DSP_MARG_V_MARG : Rat) / 1000 * (if unaligned then 2 else 1)

/-- The current a cell allows at horizon h, in A: discharge (false) or charge (true); where R_h is not stated, or is 0, the value is free (log entry 3). -/
def State.cellCurrent (s : State) (c : CellFigure) (g h : Nat) (chg : Bool) (vm : Rat) : Rat :=
  match (c.r.getD h none).filter (· != 0) with
  | some r =>
    let v := if chg then (s.fld F.DSP_VLIM_V_MAX : Rat) / 1000 - vm - c.vo else c.vo - (s.fld F.DSP_VLIM_V_MIN : Rat) / 1000 - vm
    max 0 (v / r)
  | none => ((Config.freeValue (s.freeCount + 8 * g + 2 * h + bitN chg)).toNat : Rat)

/-- The least of some fractions; the given one for none. -/
def leastRat (top : Rat) : List Rat → Rat
  | [] => top
  | a :: t => let b := leastRat top t; if a ≤ b then a else b

/-- The coldest fresh temperature of a string in a snapshot (R302). -/
def State.coldestFresh (s : State) (snap : Snapshot) (p : Nat) : Option Int :=
  let fresh := (s.declaredPoints p).filter fun h => objFld snap.objs (F.SWP_T_STALE h) == 0
  fresh.foldl (fun a h =>
    let t := signed 16 (objFld snap.objs (F.SWP_T_TEMP h))
    match a with
    | none => some t
    | some b => some (min b t)) none

/-- The figures of a string: per horizon the currents in 0.1 A, discharge and charge; the sums of R_h; the sum of V_o (R301, R303). -/
structure StringFigure where
  cur : List (Nat × Nat)
  r : List (Option Rat)
  vo : Rat

/-- The sum of R_h over the cells; none where one of them is not stated. -/
def sumR (cs : List CellFigure) (h : Nat) : Option Rat :=
  cs.foldl (fun a c => match a, c.r.getD h none with
    | some x, some y => some (x + y)
    | _, _ => none) (some 0)

/-- The figures of string p (R301, R302). A string that never had a fresh point has no coldest value: it is free (log entry 3). -/
def State.stringFigure (s : State) (snap : Snapshot) (p : Nat) (cold : Option Int) (vm : Rat) : StringFigure :=
  let cells := (s.declaredCells p).map fun x => cellIndex p x.1 x.2
  let figs := cells.map fun g => (g, s.cellFigure snap g)
  let x : Int := cold.getD (signed 16 (Config.freeValue (s.freeCount + 32768 + p)).toNat)
  let f := lowScan (s.sec 12) x 7 0
  let degr : Rat := if objFld snap.objs (F.SWP_LIMIT_FLAGS p) &&& 0x70 != 0 then (s.fld F.DSP_MARG_DEGR : Rat) / 100 else 1
  let one := fun (h : Nat) (chg : Bool) =>
    let cap := if chg then (s.fld (F.DSP_S_CAP_CHG p) : Rat) * f.1 else (s.fld (F.DSP_S_CAP_DIS p) : Rat) * f.2
    trunc16 (leastRat cap (figs.map fun c => 10 * s.cellCurrent c.2 c.1 h chg vm) * degr)
  { cur := (List.range 4).map fun h => (one h false, one h true)
    r := (List.range 4).map fun h => sumR (figs.map (·.2)) h
    vo := figs.foldl (fun a c => a + c.2.vo) 0 }

/-- Σg, the sum of the conductances of some strings; none where one of them is not stated (R303). -/
def sumG (closed : List Nat) (r : Nat → Option Rat) : Option Rat :=
  closed.foldl (fun a p => match a, r p with
    | some x, some y => some (x + 1 / y)
    | _, _ => none) (some 0)

/-- The shares of the strings in CLOSED (R303): by applied weights while every one has a trimmer in RUN, else by conductance; none where the formula states none. -/
def State.expectedShares (s : State) (closed : List Nat) (r : Nat → Option Rat) : Nat → Option Rat :=
  if closed.all fun p => s.flag (F.CTE_TRIM_STAT_PRESENT p) && s.trimState p == trimRun then
    let sum := closed.foldl (fun a p => a + s.fld (F.DSP_S_LIM_X_W p)) 0
    fun p => if sum = 0 then none else some ((s.fld (F.DSP_S_LIM_X_W p) : Rat) / (sum : Rat))
  else
    fun p => match sumG closed r, r p with
      | some x, some y => if x = 0 then none else some (1 / y / x)
      | _, _ => none

/-- The bank power of one direction at horizon h in kW (R303). A string that is expected to carry nothing bounds nothing. Where the formula states no value it is free (log entry 3). -/
def State.bankPower (s : State) (figs : List StringFigure) (closed : List Nat) (h : Nat) (chg : Bool) : Nat :=
  let fig := fun (p : Nat) => figs.getD p { cur := [], r := [], vo := 0 }
  let r := fun (p : Nat) => ((fig p).r.getD h none).filter (· != 0)
  let share := s.expectedShares closed r
  let g := (sumG closed r).getD 0
  let stated := closed.all (fun p => (share p).isSome && (r p).isSome) && g != 0 && closed.any (fun p => (share p).getD 0 != 0)
  if closed.isEmpty then 0
  else if !stated then (Config.freeValue (s.freeCount + 33000 + 2 * h + bitN chg)).toNat % 65536
  else
    let cur := fun (p : Nat) => let c := (fig p).cur.getD h (0, 0); if chg then c.2 else c.1
    let bounds := (closed.filter fun p => (share p).getD 0 != 0).map fun p => (cur p : Rat) / 10 / (share p).getD 1
    let ib := match bounds with
      | [] => 0
      | a :: t => leastRat a t
    let uo := closed.foldl (fun a p => a + (share p).getD 0 * (fig p).vo) (0 : Rat)
    let rb := 1 / g
    trunc16 (ib * (if chg then uo + ib * rb else uo - ib * rb) / 1000)

/-! The contribution (R304). -/

/-- The bank current of a snapshot, Q15.16 A. -/
def State.bankCurrent (s : State) (snap : Snapshot) : Int :=
  (List.range 8).foldl (fun a p => if s.declared p then a + signed 32 (objFld snap.objs (F.AFE_S_I_VALUE p)) else a) 0

/-- The share weights: the host's, or in proportion to the figures in the present direction of bank current, its rounding open (R304). Without a current the direction, and without a figure the weight, is free (log entry 3). -/
def State.shareWeight (s : State) (cur : Nat → Nat × Nat) (i : Int) (p : Nat) : Nat :=
  if s.fld F.DSP_CFG_WMODE == 0 then s.fld (F.DSP_S_W_W p)
  else
    let chg := if i = 0 then (Config.freeValue (s.freeCount + 33010)).getLsbD 0 else decide (0 < i)
    let one := fun (p : Nat) => if chg then (cur p).2 else (cur p).1
    let top := (List.range 8).foldl (fun a p => if s.declared p then max a (one p) else a) 0
    if top = 0 then (Config.freeValue (s.freeCount + 33011 + p)).toNat % 65536
    else min 65535 (roundOpen (65536 * one p : Nat) top).toNat

/-- A host restraint: 0xFFFF restrains nothing (R306). -/
def restrain (p host : Nat) : Nat := if host = 0xFFFF then p else min p host

/-- The contribution of dispatch out of its figures (R304). -/
def State.dispatchContribution (s : State) (snap : Snapshot) (host : Word) (sop : Sop) : Contribution :=
  let enf := s.fld F.DSP_CFG_ENF
  let cur := fun (p : Nat) => (sop.strs.getD p []).getD enf (0, 0)
  let bank := sop.bank.getD enf (0, 0)
  let strs := List.range 8
  { dis := strs.map fun p => 1600 * (cur p).1
    chg := strs.map fun p => 1600 * (cur p).2
    weight := strs.map fun p => if s.declared p then s.shareWeight cur (s.bankCurrent snap) p else 0
    doc := strs.map fun p => 16 * (100 + s.fld F.DSP_CFG_DOC_PCT) * max (cur p).1 (cur p).2
    pDis := 1600 * restrain bank.1 (fieldOf host 0 16)
    pChg := 1600 * restrain bank.2 (fieldOf host 16 16)
    step := 0
    epoch := snap.epoch }

/-- Milliseconds in ticks. -/
def msTicks (n : Nat) : Nat := 250000 * n

/-- TMO is not 0 and has passed since the last write of DSP_HOST_P (R306). -/
def State.hostLate (s : State) (tc : Tc) : Bool :=
  let t := s.fld F.DSP_HOST_TMO_TMO
  t != 0 && passed tc s.dsp.hostTc (msTicks t)

/-- A computation starts on a snapshot; the host restraint is read now: DSP_HOST_FB where TMO has passed, which HOST_TMO shows (R304, R306). -/
def State.dspStart (s : State) (tc : Tc) : State :=
  if s.dspRuns && s.latest.epoch != 0 then
    let late := s.hostLate tc
    let host := if late then s.rd 0xa001c else s.rd 0xa0014
    let s := if late then s.put F.DSP_STAT_HOST_TMO 1 else s
    { s with dsp := { s.dsp with work := some (s.latest, host), again := false } }
  else s

/-- A publication starts a computation, or one that follows the one that runs (R304). -/
def State.dspPublished (s : State) (tc : Tc) : State :=
  if !s.dspRuns then s
  else if s.dsp.work.isSome then { s with dsp := { s.dsp with again := true } }
  else s.dspStart tc

/-- SNAPSHOT_PUBLICATION (R29, R165, R304): once the sweep is complete or its deadline has passed; dispatch starts on the snapshot. -/
def execSnapshotPublication (tc : Tc) (s : State) : Host.Outcome State Fault Refusal :=
  match s.swp.sweep with
  | none => .next s
  | some w =>
    if w.closed || s.sweepComplete w then
      let s := forUpTo 8 (fun p s => s.publishString w p tc) s
      .next (((s.publishEst w).switchSnapshot w tc).dspPublished tc)
    else .next s

/-- A snapshot is fresh at an instant: its age does not exceed AGE_MAX (R307). -/
def State.freshSnap (s : State) (snap : Snapshot) (tc : Tc) : Bool :=
  decide ((tc - snap.tc).toNat ≤ msTicks (s.fld F.DSP_CFG_AGE_MAX))

/-- DISPATCH_COMPLETE (R304): the figures and the contribution of the computation; the contribution is staged. -/
def execDispatchComplete (tc : Tc) (s : State) : Host.Outcome State Fault Refusal :=
  match s.dsp.work with
  | none => .next s
  | some (snap, host) =>
    let unaligned := !snap.aligned && s.fld F.PHB_SRC_SOURCE != 0
    let vm := s.vMargin unaligned
    let colds := (List.range 8).map fun p => match s.coldestFresh snap p with
      | some t => some t
      | none => s.dsp.coldest.getD p none
    let figs := (List.range 8).map fun p => s.stringFigure snap p (colds.getD p none) vm
    let closed := (List.range 8).filter fun p => s.declared p && s.strState p == ssClosed
    let sop : Sop :=
      { bank := (List.range 4).map fun h => (s.bankPower figs closed h false, s.bankPower figs closed h true)
        strs := (List.range 8).map fun p => if s.declared p then (figs.getD p { cur := [], r := [], vo := 0 }).cur else [] }
    let c := s.dispatchContribution snap host sop
    let s := (s.putFlag F.DSP_STAT_UNALIGNED unaligned)
    let s := if s.freshSnap snap tc then s.put F.DSP_STAT_AGED 0 else s
    let again := s.dsp.again
    let s : State := { s with
      freeCount := s.freeCount + 33020
      dsp := { s.dsp with work := none, again := false, stagedD := some c, last := some c, sop := some sop, coldest := colds } }
    .next (if again then s.dspStart tc else s)

/-! Host set-points (R306). -/

/-- A write of DSP_HOST_P. -/
def State.hostWrite (s : State) (v : Word) (tc : Tc) : State :=
  if s.blockDormant 10 then s
  else (({ s with dsp := { s.dsp with hostTc := tc } } : State).wr 0xa0014 v).put F.DSP_STAT_HOST_TMO 0

/-- HOST_P_WRITE (R306). -/
def execHostPWrite (v : Word) (tc : Tc) (s : State) : Host.Outcome State Fault Refusal := .next (s.hostWrite v tc)

/-- HOST_TIMEOUT (R306): TMO has passed since the last write. -/
def execHostTimeout (tc : Tc) (s : State) : Host.Outcome State Fault Refusal :=
  .next (if !s.blockDormant 10 && s.hostLate tc then s.put F.DSP_STAT_HOST_TMO 1 else s)

/-! Commit point: aged snapshots and step 3 of R38. -/

/-- A limit scaled by the age beyond AGE_MAX (R307). -/
def scaleAge (late ramp x : Nat) : Nat := if ramp ≤ late then 0 else x * (ramp - late) / ramp

/-- The age of the latest snapshot at a commit point; while it exceeds AGE_MAX the last contribution is staged scaled (R307). -/
def State.agedCheck (s : State) (tc : Tc) : State :=
  if !s.dspRuns || s.latest.epoch == 0 || s.freshSnap s.latest tc then s
  else
    let s := s.put F.DSP_STAT_AGED 1
    match s.dsp.last with
    | none => s
    | some c =>
      let late := (tc - s.latest.tc).toNat - msTicks (s.fld F.DSP_CFG_AGE_MAX)
      let k := scaleAge late (msTicks (s.fld F.DSP_MARG_AGE_RAMP))
      let c := { c with dis := c.dis.map k, chg := c.chg.map k, pDis := k c.pDis, pChg := k c.pChg }
      { s with dsp := { s.dsp with stagedD := some c } }

/-- Units of a contribution as a field of 0.1 A or kW, rounded toward zero. -/
def fromUnits (x : Nat) : Nat := min 65535 (x / 1600)

/-- The tighter of two contributions becomes the applied limit set, clamped to the caps in effect; the island takes the dynamic thresholds (R34, R36, R305). -/
def State.applyContributions (s : State) (d t : Contribution) : State :=
  let tight := fun (a b : List Nat) (p : Nat) => min (a.getD p 0) (b.getD p 0)
  let s := forUpTo 8 (fun p s =>
    if s.declared p then
      let s := s.put (F.DSP_S_LIM_I_DIS p) (min (s.fld (F.DSP_S_CAP_DIS p)) (fromUnits (tight d.dis t.dis p)))
      let s := s.put (F.DSP_S_LIM_I_CHG p) (min (s.fld (F.DSP_S_CAP_CHG p)) (fromUnits (tight d.chg t.chg p)))
      let doc := fromUnits (tight d.doc t.doc p)
      ((s.put (F.DSP_S_LIM_X_W p) (tight d.weight t.weight p)).put (F.DSP_S_LIM_X_DOC p) doc).focDynamic p doc
    else s) s
  let s := s.put F.DSP_LIM_P_DIS (min (s.fld F.DSP_PMAX_DIS) (fromUnits (min d.pDis t.pDis)))
  let s := s.put F.DSP_LIM_P_CHG (min (s.fld F.DSP_PMAX_CHG) (fromUnits (min d.pChg t.pChg)))
  (s.put F.DSP_LIM_STEP_STEP (max d.step t.step)).put F.DSP_LIM_EPOCH_EPOCH d.epoch.toNat

/-- The state-of-power objects change (R305). -/
def State.showSop (s : State) : State :=
  match s.dsp.sop with
  | none => s
  | some x =>
    let s := forUpTo 4 (fun h s =>
      let b := x.bank.getD h (0, 0)
      let s := (s.put (F.DSP_BSOP_DIS h) b.1).put (F.DSP_BSOP_CHG h) b.2
      forUpTo 8 (fun p s =>
        if s.declared p then
          let c := (x.strs.getD p []).getD h (0, 0)
          (s.put (F.DSP_S_SOP_DIS p h) c.1).put (F.DSP_S_SOP_CHG p h) c.2
        else s) s) s
    { s with dsp := { s.dsp with sop := none } }

/-- Step 3 of R38: what is staged replaces what is held; the limit set comes into force once both functions have a contribution (R34, R513). -/
def State.applyLimits (s : State) : State :=
  let pick := fun (a b : Option Contribution) => match a with
    | some c => some c
    | none => b
  let d := pick s.dsp.stagedD s.dsp.heldD
  let t := pick s.dsp.stagedT s.dsp.heldT
  let s : State := { s with dsp := { s.dsp with stagedD := none, stagedT := none, heldD := d, heldT := t } }
  let s := s.showSop
  match d, t with
  | some d, some t => ({ s with dsp := { s.dsp with inForce := true } } : State).applyContributions d t
  | _, _ => s

/-- The limit set and dispatch at a start or resume: not in force, nothing held (R513); the host timer runs from here. The last coldest points outlast a resume with the lane's memory (R302, R453). -/
def State.dspBegin (s : State) (tc : Tc) : State :=
  let s : State := { s with dsp := { Dsp.reset with hostTc := tc, coldest := s.dsp.coldest } }
  let s := forUpTo 8 (fun p s => (s.wr (0xa0108 + 0x20 * p) 0).wr (0xa010c + 0x20 * p) 0) s
  let s := ((s.wr 0xa0024 0).wr 0xa0028 0).wr 0xa002c 0
  s.putFlag F.DSP_STAT_RUN (!s.blockDormant 10)

/-- Staged contributions of the former active lane are lost at a control step, each as a discarded transfer of sink 2, and so is its computation (R43, R356). -/
def State.dropStaged (s : State) : State :=
  let n := bitN s.dsp.stagedD.isSome + bitN s.dsp.stagedT.isSome
  let s := forUpTo n (fun _ s => s.staleTransfer 2) s
  ({ s with dsp := { s.dsp with stagedD := none, stagedT := none, work := none, again := false, sop := none } } : State).put F.DSP_STAT_RUN 0

end Sys2Proof.Machine
end

