-- ==== Sys2Proof/Machine/ObjMap.lean ====
section
/-! DEFINITION. ObjMap.lean: the object space (R48, R49): every object of the object maps with its address, its fields, their access types (R16) and the ranges of its RWS fields (R102). Written from the object maps of spec/02 to spec/20. -/
namespace Sys2Proof.Machine

open Sys2Proof

/-- The access types (R16). -/
inductive Access where
  | ro | rw | w1c | wo | rws
deriving DecidableEq, Repr

/-- Whether an object is read from a snapshot (R50, R507). -/
inductive ObjKind where
  | plain | snapshot | mixed
deriving DecidableEq, Repr

/-- One field of a map: lowest bit, width, access, and the least and greatest value its map allows. -/
structure FieldRow where
  lo : Nat
  w : Nat
  acc : Access
  least : Nat
  greatest : Nat
deriving DecidableEq, Repr

/-- One object family: first address, dimensions (count, stride) outermost first, kind, fields. -/
structure ObjRow where
  base : Nat
  dims : List (Nat × Nat)
  kind : ObjKind
  fields : List FieldRow
deriving DecidableEq, Repr

/-- A field whose map states no range narrower than its width. -/
def fr (lo w : Nat) (acc : Access) : FieldRow := ⟨lo, w, acc, 0, 2 ^ w - 1⟩

/-- The offset falls on an element of these dimensions. -/
def dimsHit : List (Nat × Nat) → Nat → Bool
  | [], off => off == 0
  | (count, stride) :: ds, off => decide (off / stride < count) && dimsHit ds (off % stride)

/-- The address is one of this family's objects. -/
def ObjRow.hit (r : ObjRow) (a : Nat) : Bool :=
  decide (r.base ≤ a) && dimsHit r.dims (a - r.base)

/-- The objects of block 0x00. -/
def objBlock00 : List ObjRow :=
  [⟨0x0, [], .plain, [fr 0 32 .ro]⟩,
   ⟨0x4, [], .plain, [fr 0 8 .ro, fr 8 8 .ro, fr 16 8 .ro]⟩,
   ⟨0x8, [], .plain, [fr 0 32 .ro]⟩,
   ⟨0x10, [], .plain, [fr 0 22 .ro]⟩,
   ⟨0x14, [], .plain, [fr 0 8 .ro, fr 8 1 .ro, fr 9 1 .ro]⟩]

/-- The objects of block 0x01. -/
def objBlock01 : List ObjRow :=
  [⟨0x10000, [], .plain, [fr 0 16 .ro, fr 16 16 .ro]⟩,
   ⟨0x10004, [], .plain, [fr 0 32 .ro]⟩,
   ⟨0x10008, [], .plain, [fr 0 32 .ro]⟩]

/-- The objects of block 0x02. -/
def objBlock02 : List ObjRow :=
  [⟨0x20000, [], .plain, [fr 0 2 .ro, fr 2 1 .ro, fr 3 1 .ro, fr 4 1 .ro, fr 5 1 .ro, fr 8 8 .ro]⟩,
   ⟨0x20004, [], .plain, [fr 0 32 .ro]⟩,
   ⟨0x20008, [], .plain, [fr 0 32 .ro]⟩,
   ⟨0x2000c, [], .plain, [fr 0 32 .ro]⟩,
   ⟨0x20010, [], .plain, [fr 0 2 .rw, fr 4 2 .rw, fr 8 1 .rw]⟩,
   ⟨0x20014, [], .plain, [fr 0 32 .wo]⟩,
   ⟨0x20018, [], .plain, [fr 0 32 .wo]⟩,
   ⟨0x2001c, [], .plain, [fr 0 32 .wo]⟩,
   ⟨0x20020, [(4, 0x4)], .plain, [fr 0 3 .ro, fr 4 1 .ro, fr 5 1 .ro, fr 6 1 .ro, fr 7 1 .ro, fr 16 8 .ro]⟩,
   ⟨0x20030, [(4, 0x4)], .plain, [fr 0 32 .ro]⟩,
   ⟨0x20040, [], .plain, [fr 0 1 .wo, fr 1 1 .wo]⟩,
   ⟨0x20044, [], .plain, [fr 0 11 .ro, fr 13 1 .ro, fr 14 2 .ro, fr 16 16 .ro]⟩,
   ⟨0x20048, [], .plain, [fr 0 11 .ro]⟩,
   ⟨0x2004c, [], .plain, [fr 0 8 .ro, fr 16 16 .ro]⟩,
   ⟨0x20050, [], .plain, [fr 0 32 .ro]⟩,
   ⟨0x20054, [], .plain, [fr 0 16 .ro]⟩,
   ⟨0x20058, [], .plain, [fr 0 32 .ro]⟩,
   ⟨0x2005c, [], .plain, [fr 0 16 .ro, fr 16 16 .ro]⟩,
   ⟨0x20060, [], .plain, [fr 0 1 .w1c, fr 1 1 .w1c]⟩,
   ⟨0x20064, [], .plain, [fr 0 16 .ro, fr 16 16 .ro]⟩]

/-- The objects of block 0x03. -/
def objBlock03 : List ObjRow :=
  [⟨0x30000, [], .plain, [fr 0 3 .ro, fr 3 1 .ro, fr 4 1 .ro, fr 5 3 .ro]⟩,
   ⟨0x30004, [], .plain, [fr 0 1 .w1c, fr 1 1 .w1c, fr 2 1 .w1c]⟩,
   ⟨0x30008, [], .plain, [fr 0 16 .ro, fr 16 16 .ro]⟩,
   ⟨0x3000c, [], .plain, [fr 0 16 .ro]⟩,
   ⟨0x30010, [], .plain, [fr 0 16 .ro]⟩,
   ⟨0x30014, [], .plain, [fr 0 32 .ro]⟩,
   ⟨0x30018, [], .plain, [fr 0 32 .ro]⟩,
   ⟨0x3001c, [], .plain, [fr 0 32 .ro]⟩,
   ⟨0x30020, [], .plain, [fr 0 32 .ro]⟩,
   ⟨0x30024, [], .plain, [fr 0 5 .ro]⟩,
   ⟨0x30028, [], .plain, [fr 0 32 .ro]⟩,
   ⟨0x3002c, [], .plain, [fr 0 32 .ro]⟩,
   ⟨0x30030, [], .plain, [fr 0 16 .rws]⟩,
   ⟨0x30040, [], .plain, [fr 0 3 .ro, fr 3 1 .ro, fr 4 1 .ro, fr 5 1 .ro, fr 6 2 .ro]⟩,
   ⟨0x30044, [], .plain, [fr 0 32 .ro]⟩,
   ⟨0x30048, [], .plain, [fr 0 32 .ro]⟩,
   ⟨0x3004c, [], .plain, [fr 0 32 .ro]⟩,
   ⟨0x30050, [], .plain, [fr 0 32 .ro]⟩,
   ⟨0x30054, [], .plain, [fr 0 17 .ro]⟩,
   ⟨0x30080, [(4, 0x10)], .plain, [fr 0 32 .ro]⟩] ++
  [⟨0x30084, [(4, 0x10)], .plain, [fr 0 32 .ro]⟩,
   ⟨0x30088, [(4, 0x10)], .plain, [fr 0 32 .ro]⟩,
   ⟨0x30400, [(64, 0x10)], .plain, [fr 0 16 .rws, ⟨16, 4, .rws, 0, 8⟩, fr 24 8 .rws]⟩,
   ⟨0x30404, [(64, 0x10)], .plain, [fr 0 16 .rws, fr 16 16 .rws]⟩,
   ⟨0x30408, [(64, 0x10)], .plain, [fr 0 16 .rws, fr 16 16 .rws]⟩]

/-- The objects of block 0x04. -/
def objBlock04 : List ObjRow :=
  [⟨0x40000, [], .plain, [fr 0 8 .rw]⟩,
   ⟨0x40004, [], .plain, [fr 0 8 .ro, fr 8 8 .ro]⟩,
   ⟨0x40008, [], .plain, [fr 0 16 .w1c]⟩,
   ⟨0x4000c, [], .plain, [fr 0 16 .ro]⟩,
   ⟨0x40010, [(8, 0x4)], .plain, [fr 0 16 .ro, fr 16 16 .ro]⟩,
   ⟨0x41000, [(8, 0x1000)], .plain, [fr 0 3 .ro, fr 5 6 .ro, fr 11 6 .ro, fr 17 6 .ro, fr 23 1 .ro, fr 24 1 .ro, fr 25 1 .ro, fr 26 5 .ro, fr 31 1 .ro]⟩,
   ⟨0x41004, [(8, 0x1000)], .plain, [fr 0 32 .ro]⟩,
   ⟨0x41008, [(8, 0x1000)], .plain, [fr 0 32 .ro]⟩,
   ⟨0x4100c, [(8, 0x1000)], .plain, [fr 0 32 .ro]⟩,
   ⟨0x41010, [(8, 0x1000)], .plain, [fr 0 32 .ro]⟩,
   ⟨0x41020, [(8, 0x1000)], .plain, [⟨0, 8, .rws, 2, 100⟩, fr 8 3 .rws, ⟨16, 8, .rws, 1, 100⟩]⟩,
   ⟨0x41024, [(8, 0x1000)], .plain, [fr 0 1 .wo]⟩,
   ⟨0x41028, [(8, 0x1000)], .plain, [fr 0 1 .w1c, fr 1 1 .w1c, fr 2 1 .w1c, fr 3 1 .w1c, fr 4 1 .w1c, fr 5 1 .w1c]⟩,
   ⟨0x4102c, [(8, 0x1000)], .plain, [fr 0 16 .ro, fr 16 16 .ro]⟩,
   ⟨0x41030, [(8, 0x1000)], .plain, [fr 0 16 .ro, fr 16 16 .ro]⟩,
   ⟨0x41034, [(8, 0x1000)], .plain, [fr 0 16 .ro, fr 16 16 .ro]⟩,
   ⟨0x41038, [(8, 0x1000)], .plain, [fr 0 16 .ro, fr 16 16 .ro]⟩,
   ⟨0x4103c, [(8, 0x1000)], .plain, [fr 0 16 .ro, fr 16 16 .ro]⟩,
   ⟨0x41040, [(8, 0x1000)], .plain, [fr 0 16 .ro, fr 16 16 .ro]⟩,
   ⟨0x41044, [(8, 0x1000)], .plain, [fr 0 16 .ro]⟩] ++
  [⟨0x41100, [(8, 0x1000), (32, 0x4)], .plain, [fr 0 16 .ro, fr 16 16 .ro]⟩,
   ⟨0x41200, [(8, 0x1000), (32, 0x8)], .plain, [fr 0 32 .ro]⟩,
   ⟨0x41204, [(8, 0x1000), (32, 0x8)], .plain, [fr 0 32 .ro]⟩]

/-- The objects of block 0x05. -/
def objBlock05 : List ObjRow :=
  [⟨0x50000, [], .plain, [fr 0 1 .rw, fr 1 1 .rw, fr 2 1 .rw]⟩,
   ⟨0x50004, [], .mixed, [fr 0 1 .ro, fr 1 1 .ro, fr 8 8 .ro]⟩,
   ⟨0x50008, [], .plain, [⟨0, 8, .rws, 4, 15⟩, ⟨8, 8, .rws, 2, 64⟩]⟩,
   ⟨0x5000c, [], .plain, [fr 0 20 .rws]⟩,
   ⟨0x50010, [], .plain, [⟨0, 2, .rws, 0, 2⟩, ⟨3, 5, .rws, 1, 16⟩, ⟨8, 8, .rws, 2, 100⟩, fr 16 8 .rws, ⟨24, 8, .rws, 5, 100⟩]⟩,
   ⟨0x50014, [], .plain, [⟨0, 16, .rws, 200, 2000⟩, ⟨16, 16, .rws, 100, 2000⟩]⟩,
   ⟨0x50018, [], .plain, [⟨0, 8, .rws, 5, 100⟩, ⟨8, 8, .rws, 10, 100⟩, ⟨16, 8, .rws, 10, 250⟩, ⟨24, 8, .rws, 2, 100⟩]⟩,
   ⟨0x5001c, [], .plain, [⟨0, 8, .rws, 1, 20⟩, ⟨8, 8, .rws, 1, 50⟩, ⟨16, 8, .rws, 1, 16⟩]⟩,
   ⟨0x50020, [], .plain, [⟨0, 6, .rws, 0, 48⟩, fr 8 8 .rws]⟩,
   ⟨0x50024, [], .plain, [fr 0 12 .ro]⟩,
   ⟨0x50030, [], .plain, [fr 0 1 .w1c, fr 1 1 .w1c, fr 2 1 .w1c, fr 3 1 .w1c, fr 4 1 .w1c, fr 5 1 .w1c]⟩,
   ⟨0x50034, [], .plain, [fr 0 16 .ro, fr 16 16 .ro]⟩,
   ⟨0x50038, [], .plain, [fr 0 16 .ro, fr 16 16 .ro]⟩,
   ⟨0x5003c, [], .plain, [fr 0 16 .ro, fr 16 16 .ro]⟩,
   ⟨0x50040, [], .plain, [fr 0 16 .ro]⟩,
   ⟨0x50060, [(8, 0x4)], .plain, [fr 0 2 .ro, fr 8 5 .ro]⟩,
   ⟨0x50100, [(8, 0x4)], .snapshot, [fr 0 7 .ro]⟩,
   ⟨0x50800, [(128, 0x4)], .plain, [fr 0 16 .rw, fr 16 16 .rw]⟩,
   ⟨0x51000, [(256, 0x4)], .plain, [fr 0 17 .ro]⟩,
   ⟨0x51400, [(256, 0x4)], .snapshot, [fr 0 20 .ro, fr 20 1 .ro, fr 21 1 .ro]⟩] ++
  [⟨0x54000, [(4096, 0x4)], .snapshot, [fr 0 18 .ro, fr 18 1 .ro, fr 19 1 .ro, fr 20 1 .ro, fr 21 1 .ro, fr 23 1 .ro, fr 24 1 .ro, fr 25 1 .ro, fr 26 6 .ro]⟩,
   ⟨0x58000, [(2048, 0x4)], .snapshot, [fr 0 16 .ro, fr 16 1 .ro, fr 18 6 .ro]⟩]

/-- The objects of block 0x06. -/
def objBlock06 : List ObjRow :=
  [⟨0x60000, [], .plain, [fr 0 1 .rw]⟩,
   ⟨0x60004, [], .mixed, [fr 0 1 .ro, fr 1 1 .ro, fr 2 1 .ro, fr 3 1 .ro, fr 4 1 .ro, fr 5 1 .ro]⟩,
   ⟨0x60008, [], .plain, [⟨0, 8, .rws, 10, 240⟩, ⟨8, 8, .rws, 2, 50⟩, ⟨16, 8, .rws, 30, 80⟩]⟩,
   ⟨0x6000c, [], .plain, [⟨0, 8, .rws, 0, 100⟩, ⟨8, 8, .rws, 1, 100⟩, fr 16 4 .rws, ⟨24, 8, .rws, 1, 255⟩]⟩,
   ⟨0x60010, [], .plain, [⟨0, 8, .rws, 5, 50⟩, ⟨8, 4, .rws, 0, 8⟩, fr 16 1 .rws, fr 17 1 .rws]⟩,
   ⟨0x60014, [], .plain, [fr 0 16 .ro]⟩,
   ⟨0x60018, [], .plain, [fr 0 12 .wo, fr 12 2 .wo]⟩,
   ⟨0x6001c, [], .plain, [fr 0 1 .wo]⟩,
   ⟨0x60020, [], .plain, [fr 0 2 .ro, fr 2 1 .ro, fr 3 1 .ro, fr 4 4 .ro, fr 8 1 .ro]⟩,
   ⟨0x60024, [], .plain, [fr 0 32 .ro]⟩,
   ⟨0x60030, [], .plain, [fr 0 1 .w1c, fr 1 1 .w1c, fr 2 1 .w1c, fr 3 1 .w1c, fr 4 1 .w1c, fr 5 1 .w1c]⟩,
   ⟨0x60034, [], .plain, [fr 0 16 .ro, fr 16 16 .ro]⟩,
   ⟨0x60038, [], .plain, [fr 0 16 .ro, fr 16 16 .ro]⟩,
   ⟨0x6003c, [], .plain, [fr 0 16 .ro, fr 16 16 .ro]⟩,
   ⟨0x60100, [(8, 0x4)], .plain, [fr 0 8 .ro, fr 16 16 .ro]⟩,
   ⟨0x60200, [(8, 0x8)], .plain, [fr 0 2 .ro, fr 16 16 .ro]⟩,
   ⟨0x60204, [(8, 0x8)], .plain, [fr 0 32 .ro]⟩,
   ⟨0x64000, [(4096, 0x4)], .snapshot, [fr 0 16 .ro, fr 16 1 .ro, fr 17 1 .ro, fr 18 1 .ro, fr 19 1 .ro, fr 20 2 .ro, fr 22 1 .ro, fr 23 1 .ro, fr 24 1 .ro]⟩]

/-- The objects of block 0x07. -/
def objBlock07 : List ObjRow :=
  [⟨0x70000, [], .plain, [fr 0 1 .ro, fr 1 1 .ro, fr 2 1 .ro, fr 8 8 .ro, fr 16 8 .ro, fr 24 1 .ro]⟩,
   ⟨0x70004, [], .plain, [fr 0 1 .w1c, fr 1 1 .w1c, fr 2 1 .w1c, fr 3 1 .w1c, fr 4 1 .w1c, fr 5 1 .w1c]⟩,
   ⟨0x70008, [], .plain, [fr 0 16 .ro, fr 16 16 .ro]⟩,
   ⟨0x7000c, [], .plain, [fr 0 16 .ro, fr 16 16 .ro]⟩,
   ⟨0x70010, [], .plain, [fr 0 16 .ro, fr 16 16 .ro]⟩,
   ⟨0x70014, [], .plain, [fr 0 32 .ro]⟩,
   ⟨0x70018, [], .plain, [fr 0 32 .ro]⟩,
   ⟨0x7001c, [], .plain, [fr 0 20 .ro]⟩,
   ⟨0x70020, [], .plain, [fr 0 2 .ro, fr 2 2 .ro, fr 4 1 .ro, fr 5 1 .ro, fr 6 2 .ro, fr 16 16 .ro]⟩,
   ⟨0x70024, [], .plain, [fr 0 16 .ro, fr 16 16 .ro]⟩,
   ⟨0x70028, [], .plain, [fr 0 16 .ro]⟩,
   ⟨0x7002c, [], .plain, [fr 0 8 .wo]⟩,
   ⟨0x70100, [(8, 0x40)], .plain, [fr 0 16 .ro, fr 16 16 .ro]⟩,
   ⟨0x70104, [(8, 0x40)], .plain, [fr 0 16 .ro, fr 16 16 .ro]⟩,
   ⟨0x70108, [(8, 0x40)], .plain, [fr 0 16 .ro, fr 16 16 .ro]⟩,
   ⟨0x7010c, [(8, 0x40)], .plain, [fr 0 16 .ro, fr 16 16 .ro]⟩,
   ⟨0x70110, [(8, 0x40)], .plain, [fr 0 16 .ro, fr 16 8 .ro, fr 24 8 .ro]⟩,
   ⟨0x70114, [(8, 0x40)], .plain, [fr 0 18 .ro]⟩,
   ⟨0x70118, [(8, 0x40)], .plain, [fr 0 18 .ro]⟩,
   ⟨0x7011c, [(8, 0x40)], .plain, [fr 0 16 .ro, fr 16 16 .ro]⟩] ++
  [⟨0x70120, [(8, 0x40)], .plain, [fr 0 32 .ro]⟩,
   ⟨0x70124, [(8, 0x40)], .plain, [fr 0 32 .ro]⟩,
   ⟨0x70128, [(8, 0x40)], .plain, [fr 0 32 .ro]⟩,
   ⟨0x7012c, [(8, 0x40)], .plain, [fr 0 32 .ro]⟩,
   ⟨0x70130, [(8, 0x40)], .plain, [fr 0 16 .ro, fr 16 16 .ro]⟩,
   ⟨0x70134, [(8, 0x40)], .plain, [fr 0 1 .w1c, fr 1 4 .ro, fr 16 16 .ro]⟩,
   ⟨0x70800, [(8, 0x80), (32, 0x4)], .plain, [fr 0 32 .ro]⟩]

/-- The objects of block 0x08. -/
def objBlock08 : List ObjRow :=
  [⟨0x80000, [], .plain, [fr 0 16 .ro, fr 16 1 .ro]⟩,
   ⟨0x80004, [], .plain, [fr 0 8 .ro, fr 8 4 .ro, fr 16 16 .ro]⟩,
   ⟨0x80008, [], .plain, [fr 0 4 .wo, fr 4 4 .wo, fr 8 4 .wo, fr 12 1 .wo]⟩,
   ⟨0x8000c, [], .plain, [⟨0, 8, .rws, 1, 100⟩, fr 8 1 .rws]⟩,
   ⟨0x80100, [(8, 0x10)], .plain, [fr 0 3 .wo]⟩,
   ⟨0x80104, [(8, 0x10)], .plain, [fr 0 4 .ro, fr 4 1 .ro, fr 8 2 .ro, fr 10 1 .ro, fr 11 1 .ro, fr 12 4 .ro]⟩,
   ⟨0x80200, [(28, 0x4)], .plain, [fr 0 1 .ro, fr 1 1 .ro, fr 2 1 .ro, fr 3 1 .ro, fr 4 1 .ro, fr 12 4 .ro, fr 16 16 .ro]⟩]

/-- The objects of block 0x09. -/
def objBlock09 : List ObjRow :=
  [⟨0x90000, [], .plain, [fr 0 1 .rw]⟩,
   ⟨0x90004, [], .plain, [fr 0 1 .ro, fr 1 1 .ro, fr 2 1 .ro]⟩,
   ⟨0x90008, [], .plain, [fr 0 32 .ro]⟩,
   ⟨0x9000c, [], .plain, [fr 0 16 .ro]⟩,
   ⟨0x90010, [], .plain, [fr 0 1 .w1c, fr 1 1 .w1c, fr 2 1 .w1c, fr 3 1 .w1c, fr 4 1 .w1c, fr 5 1 .w1c, fr 6 1 .w1c]⟩,
   ⟨0x90014, [], .plain, [fr 0 16 .ro, fr 16 16 .ro]⟩,
   ⟨0x90018, [], .plain, [fr 0 16 .ro, fr 16 16 .ro]⟩,
   ⟨0x9001c, [], .plain, [fr 0 16 .ro, fr 16 16 .ro]⟩,
   ⟨0x90020, [], .plain, [fr 0 16 .ro]⟩,
   ⟨0x90024, [], .plain, [fr 0 32 .ro]⟩,
   ⟨0x90200, [(8, 0x40)], .plain, [fr 0 3 .wo]⟩,
   ⟨0x90204, [(8, 0x40)], .plain, [fr 0 2 .ro, fr 9 1 .ro, fr 10 1 .ro, fr 11 1 .ro, fr 12 4 .ro, fr 16 8 .ro]⟩,
   ⟨0x90208, [(8, 0x40)], .plain, [fr 19 2 .ro, fr 21 5 .ro, fr 26 5 .ro, fr 31 1 .rws]⟩,
   ⟨0x9020c, [(8, 0x40)], .plain, [⟨0, 16, .rws, 400, 40000⟩, ⟨16, 9, .rws, 0, 400⟩, fr 25 1 .rws]⟩,
   ⟨0x90210, [(8, 0x40)], .plain, [⟨0, 9, .rws, 0, 400⟩]⟩,
   ⟨0x90214, [(8, 0x40)], .plain, [fr 0 16 .ro, fr 16 16 .ro]⟩,
   ⟨0x90218, [(8, 0x40)], .plain, [fr 0 16 .ro, fr 16 4 .ro, fr 20 4 .ro]⟩,
   ⟨0x9021c, [(8, 0x40)], .plain, [fr 0 32 .ro]⟩,
   ⟨0x90220, [(8, 0x40)], .plain, [fr 0 16 .ro, fr 16 16 .ro]⟩,
   ⟨0x91000, [(32, 0x100)], .plain, [fr 5 8 .rws, fr 13 8 .rws, fr 21 3 .rws, fr 24 2 .rws, fr 26 1 .rws, fr 27 1 .rws, fr 28 1 .rws, fr 29 1 .rws, fr 30 1 .rws, fr 31 1 .rws]⟩] ++
  [⟨0x91004, [(32, 0x100)], .plain, [fr 5 1 .ro, fr 6 3 .ro, fr 9 1 .ro, fr 10 1 .ro, fr 11 2 .ro, fr 13 5 .ro, fr 18 2 .ro, fr 20 5 .ro, fr 25 3 .ro, fr 28 3 .ro, fr 31 1 .ro]⟩,
   ⟨0x91008, [(32, 0x100)], .plain, [fr 0 32 .rws]⟩,
   ⟨0x9100c, [(32, 0x100)], .plain, [fr 0 32 .rws]⟩,
   ⟨0x91010, [(32, 0x100)], .plain, [fr 0 32 .rws]⟩,
   ⟨0x91014, [(32, 0x100)], .plain, [fr 0 8 .rws, fr 8 8 .rws, fr 16 8 .rws, fr 24 8 .rws]⟩,
   ⟨0x91018, [(32, 0x100)], .plain, [fr 0 8 .rws, fr 8 8 .rws, fr 16 8 .rws]⟩,
   ⟨0x91020, [(32, 0x100)], .plain, [fr 0 32 .rws]⟩,
   ⟨0x91024, [(32, 0x100)], .plain, [fr 0 32 .rws]⟩,
   ⟨0x91028, [(32, 0x100)], .plain, [fr 0 32 .rws]⟩,
   ⟨0x9102c, [(32, 0x100)], .plain, [fr 0 32 .rws]⟩,
   ⟨0x91030, [(32, 0x100)], .plain, [fr 0 32 .rws]⟩,
   ⟨0x91034, [(32, 0x100)], .plain, [fr 0 32 .rws]⟩,
   ⟨0x91038, [(32, 0x100)], .plain, [fr 0 32 .rws]⟩,
   ⟨0x91040, [(32, 0x100)], .plain, [fr 0 32 .rw]⟩,
   ⟨0x91044, [(32, 0x100)], .plain, [fr 0 32 .rw]⟩,
   ⟨0x91048, [(32, 0x100)], .plain, [fr 0 32 .rw]⟩,
   ⟨0x9104c, [(32, 0x100)], .plain, [fr 0 32 .rw]⟩,
   ⟨0x91050, [(32, 0x100)], .plain, [fr 0 32 .rw]⟩,
   ⟨0x91054, [(32, 0x100)], .plain, [fr 0 32 .rw]⟩,
   ⟨0x91058, [(32, 0x100)], .plain, [fr 0 32 .rw]⟩] ++
  [⟨0x91060, [(32, 0x100)], .plain, [fr 0 32 .ro]⟩,
   ⟨0x91064, [(32, 0x100)], .plain, [fr 0 32 .ro]⟩,
   ⟨0x91068, [(32, 0x100)], .plain, [fr 0 32 .ro]⟩,
   ⟨0x9106c, [(32, 0x100)], .plain, [fr 0 16 .ro, fr 16 16 .ro]⟩,
   ⟨0x91070, [(32, 0x100)], .plain, [fr 0 16 .ro]⟩,
   ⟨0x91074, [(32, 0x100)], .plain, [fr 0 1 .ro, fr 1 1 .ro, fr 2 1 .ro, fr 3 1 .ro]⟩]

/-- The objects of block 0x0a. -/
def objBlock0a : List ObjRow :=
  [⟨0xa0000, [], .plain, [fr 0 1 .ro, fr 1 1 .ro, fr 2 1 .ro, fr 3 1 .ro]⟩,
   ⟨0xa0004, [], .plain, [fr 0 2 .rws, fr 2 1 .rws, ⟨8, 8, .rws, 0, 100⟩, ⟨16, 16, .rws, 5, 5000⟩]⟩,
   ⟨0xa0008, [], .plain, [⟨0, 16, .rws, 1500, 4000⟩, ⟨16, 16, .rws, 2000, 5000⟩]⟩,
   ⟨0xa000c, [], .plain, [⟨0, 8, .rws, 0, 200⟩, ⟨8, 8, .rws, 0, 100⟩, ⟨16, 16, .rws, 0, 10000⟩]⟩,
   ⟨0xa0010, [], .plain, [fr 0 16 .rws, fr 16 16 .rws]⟩,
   ⟨0xa0014, [], .plain, [fr 0 16 .rw, fr 16 16 .rw]⟩,
   ⟨0xa0018, [], .plain, [⟨0, 16, .rws, 0, 10000⟩]⟩,
   ⟨0xa001c, [], .plain, [fr 0 16 .rws, fr 16 16 .rws]⟩,
   ⟨0xa0024, [], .plain, [fr 0 16 .ro, fr 16 16 .ro]⟩,
   ⟨0xa0028, [], .plain, [fr 0 5 .ro]⟩,
   ⟨0xa002c, [], .plain, [fr 0 32 .ro]⟩,
   ⟨0xa0040, [(4, 0x4)], .plain, [fr 0 16 .ro, fr 16 16 .ro]⟩,
   ⟨0xa0100, [(8, 0x20)], .plain, [fr 0 16 .rws, fr 16 16 .rws]⟩,
   ⟨0xa0104, [(8, 0x20)], .plain, [fr 0 16 .rw]⟩,
   ⟨0xa0108, [(8, 0x20)], .plain, [fr 0 16 .ro, fr 16 16 .ro]⟩,
   ⟨0xa010c, [(8, 0x20)], .plain, [fr 0 16 .ro, fr 16 16 .ro]⟩,
   ⟨0xa0110, [(8, 0x20), (4, 0x4)], .plain, [fr 0 16 .ro, fr 16 16 .ro]⟩]

/-- The objects of block 0x0b. -/
def objBlock0b : List ObjRow :=
  [⟨0xb0000, [], .plain, [fr 0 5 .ro, fr 12 1 .ro, fr 13 1 .ro, fr 14 1 .ro, fr 15 1 .ro, fr 16 8 .ro]⟩,
   ⟨0xb0004, [], .plain, [fr 0 16 .ro, fr 16 16 .ro]⟩,
   ⟨0xb0008, [], .plain, [fr 0 16 .ro, fr 16 16 .ro]⟩,
   ⟨0xb000c, [], .plain, [fr 0 16 .ro, fr 16 16 .ro]⟩,
   ⟨0xb0010, [(4, 0x4)], .plain, [fr 0 16 .rws, ⟨16, 8, .rws, 5, 255⟩, fr 24 8 .rws]⟩,
   ⟨0xb0020, [], .plain, [⟨0, 8, .rws, 1, 100⟩]⟩,
   ⟨0xb0024, [], .plain, [fr 0 8 .rws, fr 8 8 .rws, ⟨16, 8, .rws, 0, 100⟩, ⟨24, 8, .rws, 1, 20⟩]⟩,
   ⟨0xb0028, [], .plain, [fr 0 8 .rws, fr 8 8 .rws, ⟨16, 16, .rws, 0, 600⟩]⟩,
   ⟨0xb002c, [], .plain, [fr 0 8 .rw, fr 8 1 .rw]⟩,
   ⟨0xb0030, [], .plain, [fr 0 32 .ro]⟩,
   ⟨0xb0034, [], .plain, [fr 0 32 .wo]⟩,
   ⟨0xb0038, [], .plain, [fr 0 1 .w1c, fr 1 1 .w1c, fr 2 1 .w1c, fr 3 1 .w1c]⟩,
   ⟨0xb003c, [], .plain, [fr 0 16 .ro, fr 16 16 .ro]⟩,
   ⟨0xb0040, [], .plain, [fr 0 16 .ro, fr 16 16 .ro]⟩]

/-- The objects of block 0x0c. -/
def objBlock0c : List ObjRow :=
  [⟨0xc0000, [], .plain, [fr 0 1 .ro, fr 1 1 .ro, fr 2 1 .ro, fr 3 1 .ro]⟩,
   ⟨0xc0004, [], .plain, [fr 0 16 .ro, fr 16 16 .ro]⟩,
   ⟨0xc0008, [], .plain, [fr 0 16 .wo]⟩,
   ⟨0xc0010, [(6, 0x4)], .plain, [fr 0 1 .ro, fr 1 1 .ro, fr 2 1 .ro, fr 3 1 .ro, fr 4 1 .ro, fr 5 1 .ro, fr 6 1 .ro, fr 7 1 .ro, fr 16 11 .ro]⟩,
   ⟨0xc0030, [], .plain, [fr 0 1 .w1c, fr 1 1 .w1c, fr 2 1 .w1c, fr 3 1 .w1c, fr 4 1 .w1c, fr 5 1 .w1c, fr 6 1 .w1c]⟩,
   ⟨0xc0034, [], .plain, [fr 0 16 .ro, fr 16 16 .ro]⟩,
   ⟨0xc0038, [], .plain, [fr 0 16 .ro, fr 16 16 .ro]⟩,
   ⟨0xc003c, [], .plain, [fr 0 16 .ro, fr 16 16 .ro]⟩,
   ⟨0xc0040, [], .plain, [fr 0 16 .ro]⟩,
   ⟨0xc0044, [], .plain, [fr 0 4 .wo]⟩,
   ⟨0xc0048, [], .plain, [fr 0 32 .ro]⟩,
   ⟨0xc004c, [], .plain, [fr 0 16 .ro]⟩,
   ⟨0xc0050, [], .plain, [fr 1 1 .ro, fr 2 1 .ro, fr 3 5 .ro]⟩,
   ⟨0xc0100, [(4, 0x10)], .plain, [fr 0 32 .ro]⟩,
   ⟨0xc0104, [(4, 0x10)], .plain, [fr 0 2 .ro, fr 4 4 .ro, fr 16 16 .ro]⟩,
   ⟨0xc0108, [(4, 0x10)], .plain, [fr 0 16 .ro, fr 16 16 .ro]⟩,
   ⟨0xc010c, [(4, 0x10)], .plain, [fr 0 16 .ro, fr 16 16 .ro]⟩,
   ⟨0xc0200, [(28, 0x4)], .plain, [fr 0 16 .ro, fr 16 16 .ro]⟩]

/-- The objects of block 0x0d. -/
def objBlock0d : List ObjRow :=
  [⟨0xd0000, [], .plain, [fr 0 1 .ro, fr 1 1 .ro, fr 3 1 .ro, fr 4 2 .ro, fr 16 4 .ro, fr 20 4 .ro]⟩,
   ⟨0xd0004, [], .plain, [fr 0 1 .ro, fr 2 2 .ro, fr 4 4 .ro, fr 8 2 .rws, ⟨12, 12, .rws, 10, 3600⟩]⟩,
   ⟨0xd0008, [], .plain, [fr 0 32 .wo]⟩,
   ⟨0xd000c, [], .plain, [fr 0 16 .wo, fr 16 2 .ro]⟩,
   ⟨0xd0010, [], .plain, [fr 0 32 .ro]⟩,
   ⟨0xd0014, [], .plain, [fr 0 1 .w1c, fr 1 1 .w1c, fr 2 1 .w1c, fr 3 1 .w1c, fr 4 1 .w1c]⟩,
   ⟨0xd0018, [], .plain, [fr 0 16 .ro, fr 16 16 .ro]⟩,
   ⟨0xd001c, [], .plain, [fr 0 16 .ro, fr 16 16 .ro]⟩,
   ⟨0xd0020, [], .plain, [fr 0 16 .ro]⟩,
   ⟨0xd0024, [], .plain, [fr 0 16 .ro, fr 23 1 .ro, fr 24 8 .ro]⟩,
   ⟨0xd0028, [], .plain, [fr 0 32 .ro]⟩,
   ⟨0xd002c, [], .plain, [fr 0 32 .ro]⟩,
   ⟨0xd0030, [], .plain, [fr 0 8 .ro, fr 8 8 .ro]⟩,
   ⟨0xd0034, [], .plain, [fr 0 16 .ro, fr 16 16 .ro]⟩,
   ⟨0xd0038, [], .plain, [fr 0 8 .ro, fr 16 16 .ro]⟩,
   ⟨0xd003c, [], .plain, [fr 4 1 .ro, fr 5 1 .ro, fr 6 1 .ro, fr 7 1 .ro, fr 16 16 .ro]⟩,
   ⟨0xd0040, [], .plain, [fr 0 16 .ro]⟩,
   ⟨0xd0044, [], .plain, [fr 0 8 .ro, fr 8 8 .ro, fr 16 8 .ro]⟩]

/-- The objects of block 0x0e. -/
def objBlock0e : List ObjRow :=
  [⟨0xe0000, [], .plain, [fr 0 1 .rw, fr 1 1 .wo]⟩,
   ⟨0xe0004, [], .plain, [fr 0 3 .ro, fr 3 1 .ro, fr 4 1 .ro, fr 5 1 .ro]⟩,
   ⟨0xe0008, [], .plain, [fr 0 7 .ro, fr 8 3 .ro]⟩,
   ⟨0xe000c, [], .plain, [fr 0 16 .ro, fr 16 16 .ro]⟩,
   ⟨0xe0010, [], .plain, [fr 0 32 .ro]⟩,
   ⟨0xe0014, [], .plain, [fr 0 1 .w1c, fr 1 1 .w1c, fr 2 1 .w1c, fr 3 1 .w1c, fr 4 1 .w1c, fr 5 1 .w1c]⟩,
   ⟨0xe0018, [], .plain, [fr 0 16 .ro, fr 16 16 .ro]⟩,
   ⟨0xe001c, [], .plain, [fr 0 16 .ro, fr 16 16 .ro]⟩,
   ⟨0xe0020, [], .plain, [fr 0 16 .ro, fr 16 16 .ro]⟩,
   ⟨0xe0024, [], .plain, [fr 0 16 .ro]⟩,
   ⟨0xe0028, [], .plain, [fr 0 32 .ro]⟩,
   ⟨0xe002c, [], .plain, [fr 0 32 .ro]⟩,
   ⟨0xe0030, [], .plain, [fr 0 1 .wo]⟩,
   ⟨0xe0034, [], .plain, [fr 0 8 .ro]⟩,
   ⟨0xe0040, [], .plain, [fr 0 32 .rw]⟩,
   ⟨0xe0044, [], .plain, [fr 0 32 .rw]⟩,
   ⟨0xe0048, [], .plain, [fr 0 2 .wo]⟩,
   ⟨0xe004c, [], .plain, [fr 0 7 .ro, fr 8 8 .ro, fr 16 16 .ro]⟩,
   ⟨0xe0050, [], .plain, [fr 0 8 .wo]⟩,
   ⟨0xe0054, [], .plain, [fr 0 16 .ro]⟩] ++
  [⟨0xe0100, [(16, 0x8)], .plain, [fr 0 2 .ro, fr 2 4 .ro]⟩,
   ⟨0xe0104, [(16, 0x8)], .plain, [fr 0 16 .ro, fr 16 16 .ro]⟩]

/-- The objects of block 0x0f. -/
def objBlock0f : List ObjRow :=
  [⟨0xf0000, [(2, 0x4000)], .plain, [fr 0 1 .rw, fr 1 1 .wo, fr 2 1 .rw]⟩,
   ⟨0xf0004, [(2, 0x4000)], .plain, [fr 0 2 .ro, fr 2 1 .ro, fr 3 1 .ro, fr 4 1 .ro, fr 5 3 .ro, fr 8 1 .ro, fr 9 7 .ro, fr 16 8 .ro]⟩,
   ⟨0xf0008, [(2, 0x4000)], .plain, [fr 0 8 .ro, fr 8 8 .ro, fr 16 7 .ro, fr 23 7 .ro]⟩,
   ⟨0xf000c, [(2, 0x4000)], .plain, [fr 0 5 .ro, fr 8 5 .ro, fr 16 4 .ro, fr 24 4 .ro, fr 28 1 .ro, fr 29 1 .ro]⟩,
   ⟨0xf0010, [(2, 0x4000)], .plain, [fr 0 7 .ro, fr 8 7 .ro]⟩,
   ⟨0xf0014, [(2, 0x4000)], .plain, [fr 0 1 .ro, fr 1 4 .ro, fr 5 1 .ro, fr 6 1 .ro]⟩,
   ⟨0xf0018, [(2, 0x4000)], .plain, [fr 0 1 .w1c, fr 1 1 .w1c, fr 2 1 .w1c, fr 3 1 .w1c, fr 4 1 .w1c, fr 5 1 .w1c, fr 6 1 .w1c]⟩,
   ⟨0xf001c, [(2, 0x4000)], .plain, [fr 0 16 .ro, fr 16 16 .ro]⟩,
   ⟨0xf0020, [(2, 0x4000)], .plain, [fr 0 16 .ro, fr 16 16 .ro]⟩,
   ⟨0xf0024, [(2, 0x4000)], .plain, [fr 0 16 .ro, fr 16 16 .ro]⟩,
   ⟨0xf0028, [(2, 0x4000)], .plain, [fr 0 16 .ro]⟩,
   ⟨0xf002c, [(2, 0x4000)], .plain, [fr 0 16 .ro]⟩,
   ⟨0xf0030, [(2, 0x4000)], .plain, [fr 0 16 .ro, fr 16 16 .ro]⟩,
   ⟨0xf0034, [(2, 0x4000)], .plain, [fr 0 16 .ro, fr 16 16 .ro]⟩,
   ⟨0xf0038, [(2, 0x4000)], .plain, [fr 0 16 .ro, fr 16 16 .ro]⟩,
   ⟨0xf003c, [(2, 0x4000)], .plain, [fr 0 6 .ro, fr 8 6 .ro]⟩,
   ⟨0xf0040, [(2, 0x4000)], .plain, [fr 0 1 .ro, fr 4 4 .ro, fr 8 8 .ro, fr 16 6 .ro]⟩,
   ⟨0xf0044, [(2, 0x4000)], .plain, [fr 0 29 .ro, fr 29 1 .ro]⟩,
   ⟨0xf0048, [(2, 0x4000)], .plain, [fr 0 6 .ro]⟩,
   ⟨0xf004c, [(2, 0x4000)], .plain, [fr 0 32 .ro]⟩] ++
  [⟨0xf0050, [(2, 0x4000)], .plain, [fr 0 32 .ro]⟩,
   ⟨0xf0060, [(2, 0x4000)], .plain, [⟨0, 2, .ro, 0, 2⟩, fr 2 4 .ro]⟩,
   ⟨0xf0064, [(2, 0x4000)], .plain, [fr 0 29 .ro, fr 29 1 .ro]⟩,
   ⟨0xf0068, [(2, 0x4000)], .plain, [fr 0 29 .ro]⟩,
   ⟨0xf006c, [(2, 0x4000)], .plain, [fr 0 32 .ro]⟩,
   ⟨0xf0070, [(2, 0x4000)], .plain, [fr 0 32 .ro]⟩,
   ⟨0xf0074, [(2, 0x4000)], .plain, [fr 0 2 .ro]⟩,
   ⟨0xf00fc, [(2, 0x4000)], .plain, [fr 0 3 .wo]⟩,
   ⟨0xf0100, [(2, 0x4000), (3, 0x10)], .plain, [fr 0 3 .ro, fr 4 4 .ro]⟩,
   ⟨0xf0104, [(2, 0x4000), (3, 0x10)], .plain, [fr 0 29 .ro, fr 29 1 .ro, fr 30 1 .ro, fr 31 1 .ro]⟩,
   ⟨0xf0108, [(2, 0x4000), (3, 0x10)], .plain, [fr 0 32 .ro]⟩,
   ⟨0xf0400, [(2, 0x4000), (64, 0x50)], .plain, [fr 0 29 .ro, fr 29 1 .ro, fr 30 1 .ro]⟩,
   ⟨0xf0404, [(2, 0x4000), (64, 0x50)], .plain, [fr 0 4 .ro, fr 4 1 .ro, fr 5 1 .ro, fr 6 1 .ro, fr 8 7 .ro, fr 16 1 .w1c, fr 17 1 .w1c, fr 24 3 .ro]⟩,
   ⟨0xf0408, [(2, 0x4000), (64, 0x50)], .plain, [fr 0 32 .ro]⟩,
   ⟨0xf040c, [(2, 0x4000), (64, 0x50)], .plain, [fr 0 16 .ro, fr 16 16 .ro]⟩,
   ⟨0xf0410, [(2, 0x4000), (64, 0x50), (16, 0x4)], .plain, [fr 0 32 .ro]⟩]

/-- The objects of block 0x10. -/
def objBlock10 : List ObjRow :=
  [⟨0x100000, [], .plain, [fr 0 1 .ro, fr 1 1 .ro, fr 2 1 .ro, fr 3 2 .ro, fr 5 1 .ro, fr 16 16 .ro]⟩,
   ⟨0x100004, [], .plain, [fr 0 1 .ro, fr 1 1 .ro, fr 2 2 .ro, fr 4 2 .ro, fr 6 1 .ro]⟩,
   ⟨0x100008, [], .plain, [fr 0 1 .w1c, fr 1 1 .w1c, fr 2 1 .w1c, fr 3 1 .w1c]⟩,
   ⟨0x10000c, [], .plain, [fr 0 16 .ro, fr 16 16 .ro]⟩,
   ⟨0x100010, [], .plain, [fr 0 16 .ro, fr 16 16 .ro]⟩,
   ⟨0x100014, [], .plain, [fr 0 32 .ro]⟩,
   ⟨0x100018, [], .plain, [fr 0 16 .ro]⟩,
   ⟨0x10001c, [], .plain, [fr 0 32 .ro]⟩,
   ⟨0x100020, [], .plain, [fr 0 1 .ro, fr 1 1 .ro, fr 2 1 .ro, fr 3 1 .ro]⟩,
   ⟨0x100024, [], .plain, [fr 0 2 .ro]⟩,
   ⟨0x100040, [(3, 0x10)], .plain, [fr 0 32 .ro]⟩,
   ⟨0x100044, [(3, 0x10)], .plain, [fr 0 32 .ro]⟩,
   ⟨0x100048, [(3, 0x10)], .plain, [fr 0 16 .ro, fr 16 16 .ro]⟩,
   ⟨0x10004c, [(3, 0x10)], .plain, [fr 0 31 .ro, fr 31 1 .ro]⟩,
   ⟨0x100070, [], .plain, [fr 0 32 .ro]⟩]

/-- The objects of block 0x11. -/
def objBlock11 : List ObjRow :=
  [⟨0x110000, [], .plain, [fr 0 32 .ro]⟩,
   ⟨0x110004, [], .plain, [fr 0 32 .ro]⟩,
   ⟨0x110008, [], .plain, [fr 0 32 .ro]⟩,
   ⟨0x11000c, [], .plain, [fr 0 32 .ro]⟩,
   ⟨0x110010, [], .plain, [fr 0 32 .ro]⟩,
   ⟨0x110014, [], .plain, [fr 0 32 .rw]⟩,
   ⟨0x110018, [], .plain, [fr 0 32 .wo]⟩,
   ⟨0x11001c, [], .plain, [fr 0 32 .rw]⟩,
   ⟨0x110020, [], .plain, [fr 0 32 .rw]⟩,
   ⟨0x110024, [], .plain, [fr 0 1 .wo]⟩,
   ⟨0x110028, [], .plain, [fr 0 32 .rw]⟩,
   ⟨0x11002c, [], .plain, [fr 0 32 .rw]⟩,
   ⟨0x110030, [], .plain, [fr 0 32 .ro]⟩,
   ⟨0x110034, [], .plain, [fr 0 32 .ro]⟩,
   ⟨0x110038, [], .plain, [fr 0 2 .ro, fr 2 1 .ro, fr 3 1 .ro]⟩,
   ⟨0x11003c, [], .plain, [fr 0 32 .ro]⟩,
   ⟨0x110040, [], .plain, [⟨0, 8, .rws, 1, 255⟩, ⟨8, 8, .rws, 1, 255⟩, fr 16 8 .ro, fr 31 1 .ro]⟩,
   ⟨0x110044, [], .plain, [fr 0 1 .w1c, fr 1 1 .w1c, fr 2 1 .w1c, fr 3 1 .w1c, fr 4 1 .w1c, fr 5 1 .w1c]⟩,
   ⟨0x110048, [], .plain, [fr 0 16 .ro, fr 16 16 .ro]⟩,
   ⟨0x11004c, [], .plain, [fr 0 16 .ro, fr 16 16 .ro]⟩] ++
  [⟨0x110050, [], .plain, [fr 0 16 .ro, fr 16 16 .ro]⟩,
   ⟨0x110100, [(4, 0x20)], .plain, [fr 0 1 .wo, fr 1 1 .wo]⟩,
   ⟨0x110104, [(4, 0x20)], .plain, [fr 0 1 .rw, fr 1 1 .rw, fr 2 1 .rw]⟩,
   ⟨0x110108, [(4, 0x20)], .plain, [fr 0 32 .rw]⟩,
   ⟨0x11010c, [(4, 0x20)], .plain, [fr 0 32 .rw]⟩,
   ⟨0x110110, [(4, 0x20)], .plain, [fr 0 32 .rw]⟩,
   ⟨0x110114, [(4, 0x20)], .plain, [fr 0 32 .rw]⟩,
   ⟨0x110118, [(4, 0x20)], .plain, [fr 0 32 .rw]⟩,
   ⟨0x11011c, [(4, 0x20)], .plain, [fr 0 2 .ro, fr 4 4 .ro, fr 16 16 .ro]⟩]

/-- The objects of block 0x12. -/
def objBlock12 : List ObjRow :=
  [⟨0x120000, [], .plain, [fr 0 1 .rw, fr 1 1 .rw]⟩,
   ⟨0x120004, [], .plain, [fr 0 1 .ro, fr 2 1 .ro, fr 3 1 .ro, fr 4 1 .ro, fr 5 1 .ro]⟩,
   ⟨0x120008, [], .plain, [fr 0 1 .w1c, fr 1 1 .w1c, fr 2 1 .w1c, fr 3 1 .w1c]⟩,
   ⟨0x12000c, [], .plain, [fr 0 16 .ro, fr 16 16 .ro]⟩,
   ⟨0x120010, [], .plain, [fr 0 16 .ro, fr 16 16 .ro]⟩,
   ⟨0x120014, [], .plain, [fr 0 16 .ro]⟩,
   ⟨0x120018, [], .plain, [fr 0 8 .wo]⟩,
   ⟨0x12001c, [], .plain, [fr 0 1 .ro, fr 1 1 .ro, fr 16 16 .ro]⟩,
   ⟨0x120020, [(8, 0x4)], .plain, [⟨0, 4, .rws, 0, 8⟩, ⟨8, 8, .rws, 1, 255⟩, fr 24 8 .rws]⟩,
   ⟨0x120100, [(8, 0x40)], .plain, [fr 0 2 .ro, fr 8 2 .rws, ⟨12, 4, .rws, 0, 8⟩, ⟨16, 8, .rws, 1, 255⟩]⟩,
   ⟨0x120104, [(8, 0x40)], .plain, [fr 0 16 .rws, fr 16 16 .rws]⟩,
   ⟨0x120108, [(8, 0x40)], .plain, [fr 0 8 .rws, fr 26 3 .rws, fr 29 1 .rws, fr 30 1 .rws, fr 31 1 .rws]⟩,
   ⟨0x12010c, [(8, 0x40)], .snapshot, [fr 0 32 .ro]⟩,
   ⟨0x120110, [(8, 0x40)], .snapshot, [fr 0 1 .ro, fr 1 1 .ro, fr 2 1 .ro, fr 3 1 .ro]⟩,
   ⟨0x120114, [(8, 0x40)], .plain, [fr 0 32 .ro]⟩,
   ⟨0x120118, [(8, 0x40)], .plain, [fr 0 1 .ro, fr 1 1 .ro, fr 16 16 .ro]⟩,
   ⟨0x12011c, [(8, 0x40)], .snapshot, [fr 0 32 .ro]⟩,
   ⟨0x120120, [(8, 0x40)], .snapshot, [fr 0 32 .ro]⟩,
   ⟨0x120124, [(8, 0x40)], .snapshot, [fr 0 32 .ro]⟩,
   ⟨0x120128, [(8, 0x40)], .plain, [fr 0 32 .ro]⟩] ++
  [⟨0x12012c, [(8, 0x40)], .plain, [fr 0 32 .ro]⟩,
   ⟨0x120130, [(8, 0x40)], .plain, [fr 0 16 .ro, fr 16 16 .ro]⟩,
   ⟨0x120134, [(8, 0x40)], .plain, [fr 0 32 .ro]⟩,
   ⟨0x120400, [(8, 0x4)], .plain, [fr 0 24 .ro, fr 29 1 .ro, fr 30 1 .ro, fr 31 1 .ro]⟩,
   ⟨0x120440, [(8, 0x4)], .plain, [fr 0 16 .ro, fr 31 1 .ro]⟩,
   ⟨0x120480, [(8, 0x4)], .plain, [fr 0 16 .ro, fr 16 16 .ro]⟩,
   ⟨0x121000, [(8, 0x100), (64, 0x4)], .plain, [fr 0 32 .ro]⟩]

/-- The objects of block 0x13. -/
def objBlock13 : List ObjRow :=
  [⟨0x130000, [], .plain, [fr 0 1 .ro, fr 1 1 .ro, fr 2 1 .ro, fr 3 1 .ro, fr 4 1 .ro, fr 5 1 .ro]⟩,
   ⟨0x130004, [], .plain, [⟨0, 16, .rws, 1, 240⟩, ⟨16, 16, .rws, 1, 240⟩]⟩,
   ⟨0x130008, [], .plain, [fr 0 32 .ro]⟩,
   ⟨0x13000c, [], .plain, [fr 0 32 .ro]⟩,
   ⟨0x130010, [], .plain, [fr 0 32 .ro]⟩,
   ⟨0x130014, [], .plain, [fr 0 32 .ro]⟩,
   ⟨0x130018, [], .plain, [fr 0 32 .rw]⟩,
   ⟨0x13001c, [], .plain, [fr 0 32 .ro]⟩,
   ⟨0x130020, [], .plain, [fr 0 32 .ro]⟩,
   ⟨0x130024, [], .plain, [fr 0 2 .ro, fr 8 8 .ro]⟩,
   ⟨0x130028, [], .plain, [fr 0 32 .wo]⟩,
   ⟨0x13002c, [], .plain, [fr 0 32 .ro]⟩,
   ⟨0x130030, [], .plain, [fr 0 32 .wo]⟩,
   ⟨0x130034, [], .plain, [fr 0 8 .ro, fr 16 16 .ro]⟩,
   ⟨0x130038, [], .plain, [fr 6 1 .ro, fr 7 1 .ro, fr 8 8 .ro, fr 16 8 .ro, fr 24 8 .ro]⟩,
   ⟨0x13003c, [], .plain, [fr 0 16 .ro, fr 16 16 .ro]⟩,
   ⟨0x130040, [], .plain, [fr 0 1 .w1c, fr 1 1 .w1c, fr 2 1 .w1c, fr 3 1 .w1c]⟩,
   ⟨0x130044, [], .plain, [fr 0 16 .ro, fr 16 16 .ro]⟩,
   ⟨0x130048, [], .plain, [fr 0 16 .ro, fr 16 16 .ro]⟩,
   ⟨0x130100, [(32, 0x4)], .plain, [fr 0 32 .wo]⟩] ++
  [⟨0x134000, [(12288, 0x4)], .plain, [fr 0 32 .ro]⟩]

/-- The objects of block 0x14. -/
def objBlock14 : List ObjRow :=
  [⟨0x140000, [], .plain, [fr 2 2 .ro, fr 4 1 .ro, fr 5 1 .ro, fr 6 1 .ro, fr 7 1 .ro, fr 12 4 .ro]⟩,
   ⟨0x140004, [], .plain, [fr 0 2 .wo, fr 16 16 .wo]⟩,
   ⟨0x140008, [], .plain, [fr 0 8 .ro, fr 16 16 .ro]⟩,
   ⟨0x14000c, [], .plain, [fr 1 1 .ro, fr 2 6 .rws, fr 8 1 .ro]⟩,
   ⟨0x140010, [], .plain, [fr 0 1 .rws, fr 1 1 .rws]⟩,
   ⟨0x140014, [], .plain, [fr 0 32 .rw]⟩,
   ⟨0x140018, [], .plain, [fr 0 4 .ro, fr 4 2 .ro, fr 8 8 .ro]⟩,
   ⟨0x14001c, [], .plain, [fr 0 32 .ro]⟩,
   ⟨0x140020, [], .plain, [fr 0 1 .ro, fr 1 1 .ro, fr 2 1 .ro, fr 3 1 .ro]⟩,
   ⟨0x140024, [], .plain, [fr 0 12 .ro, fr 16 16 .ro]⟩,
   ⟨0x140028, [], .plain, [fr 0 16 .ro, fr 16 16 .ro]⟩,
   ⟨0x14002c, [], .plain, [fr 0 1 .w1c, fr 1 1 .w1c, fr 2 1 .w1c, fr 3 1 .w1c]⟩,
   ⟨0x140030, [], .plain, [fr 0 16 .ro, fr 16 16 .ro]⟩,
   ⟨0x140034, [], .plain, [fr 0 16 .ro, fr 16 16 .ro]⟩]

/-- The objects of block 0x15. -/
def objBlock15 : List ObjRow :=
  [⟨0x150000, [], .plain, [fr 0 1 .ro, fr 1 1 .ro, fr 2 1 .ro]⟩,
   ⟨0x150004, [], .plain, [fr 0 32 .ro]⟩,
   ⟨0x150008, [], .plain, [fr 0 32 .wo]⟩,
   ⟨0x15000c, [], .plain, [fr 0 8 .ro, fr 16 16 .ro]⟩,
   ⟨0x150010, [], .plain, [fr 0 2 .wo, fr 4 2 .wo, fr 8 2 .wo]⟩,
   ⟨0x150014, [], .plain, [fr 0 32 .rw]⟩,
   ⟨0x150018, [], .plain, [fr 0 32 .ro]⟩,
   ⟨0x15001c, [], .plain, [fr 0 2 .ro, fr 8 8 .ro]⟩,
   ⟨0x150020, [(2, 0x4)], .plain, [fr 0 3 .ro, fr 4 1 .ro, fr 5 1 .ro, fr 8 6 .ro, fr 16 8 .ro]⟩,
   ⟨0x150028, [(2, 0x4)], .plain, [fr 0 32 .ro]⟩,
   ⟨0x150030, [], .plain, [fr 0 32 .wo]⟩,
   ⟨0x150034, [], .plain, [fr 0 32 .wo]⟩,
   ⟨0x150038, [], .plain, [fr 0 5 .ro, fr 8 6 .ro, fr 16 8 .ro]⟩,
   ⟨0x150040, [], .plain, [fr 0 1 .w1c, fr 1 1 .w1c, fr 2 1 .w1c, fr 3 1 .w1c]⟩,
   ⟨0x150044, [], .plain, [fr 0 16 .ro, fr 16 16 .ro]⟩,
   ⟨0x150048, [], .plain, [fr 0 16 .ro, fr 16 16 .ro]⟩,
   ⟨0x150100, [(32, 0x4)], .plain, [fr 0 32 .wo]⟩,
   ⟨0x150200, [(26, 0x4)], .plain, [fr 0 32 .ro]⟩]

/-- The objects of a block, by block number (R48). -/
def objBlock (b : Nat) : List ObjRow :=
  match b with
  | 0x0 => objBlock00
  | 0x1 => objBlock01
  | 0x2 => objBlock02
  | 0x3 => objBlock03
  | 0x4 => objBlock04
  | 0x5 => objBlock05
  | 0x6 => objBlock06
  | 0x7 => objBlock07
  | 0x8 => objBlock08
  | 0x9 => objBlock09
  | 0xa => objBlock0a
  | 0xb => objBlock0b
  | 0xc => objBlock0c
  | 0xd => objBlock0d
  | 0xe => objBlock0e
  | 0xf => objBlock0f
  | 0x10 => objBlock10
  | 0x11 => objBlock11
  | 0x12 => objBlock12
  | 0x13 => objBlock13
  | 0x14 => objBlock14
  | 0x15 => objBlock15
  | _ => []

/-- The object at an address of a block, if a map defines one (R49). -/
def objRowAt (a : Nat) : Option ObjRow :=
  (objBlock (a / 0x10000)).find? (fun r => r.hit a)

/-- The address lies in the cell state table window (R6, R48). -/
def inWindow (a : Nat) : Bool :=
  decide (0x1000000 ≤ a ∧ a < 0x1200000)

/-- The address is mapped (R48, R49). -/
def mapped (a : Nat) : Bool :=
  (inWindow a && a % 4 == 0) || (objRowAt a).isSome

/-- The bits of one field. -/
def FieldRow.mask (f : FieldRow) : Nat := (2 ^ f.w - 1) * 2 ^ f.lo

/-- The bits of an object with an access type. -/
def ObjRow.maskOf (r : ObjRow) (acc : Access) : Nat :=
  ((r.fields.filter (fun f => f.acc == acc)).map FieldRow.mask).foldl (· ||| ·) 0

/-- The bits of an object's fields; the others are reserved (R17). -/
def ObjRow.fieldMask (r : ObjRow) : Nat := (r.fields.map FieldRow.mask).foldl (· ||| ·) 0

/-- The bits that a read can show: fields other than WO; reserved bits read 0 (R16, R17). -/
def ObjRow.readMask (r : ObjRow) : Nat := ((r.fields.filter (fun f => f.acc != .wo)).map FieldRow.mask).foldl (· ||| ·) 0

/-- The object has a field with this access type. -/
def ObjRow.has (r : ObjRow) (acc : Access) : Bool :=
  r.fields.any (fun f => f.acc == acc)

/-- An object all of whose fields are RO (R16, READ_ONLY of R71). -/
def ObjRow.readOnly (r : ObjRow) : Bool :=
  r.fields.all (fun f => f.acc == .ro)

end Sys2Proof.Machine
end

