-- ==== Sys2Proof/Machine/Can.lean ====
section
/-! DEFINITION. Can.lean: the two CAN FD channels (R382 to R400): receive objects, transmit queue and buffers, errors and bus-off, disable, the Lid and the time master. -/
namespace Sys2Proof.Machine

open Sys2Proof

/-- A channel's record. -/
def State.canCh (s : State) (c : Nat) : CanChan := s.can.getD c CanChan.reset

/-- Replace a channel's record. -/
def State.setCanCh (s : State) (c : Nat) (x : CanChan) : State := { s with can := setAt s.can c x }

/-- States of a channel (CANc_STAT.STATE). -/
def canOff : Nat := 0
def canActive : Nat := 1
def canPassive : Nat := 2
def canBusOff : Nat := 3

/-- States and results of a buffer (R391). -/
def txPending : Nat := 1
def txActive : Nat := 2
def txDone : Nat := 3
def txCancelled : Nat := 4
def txFailed : Nat := 5
def txAbandoned : Nat := 6

/-- The state of a channel. -/
def State.canState (s : State) (c : Nat) : Nat := s.fld (F.CAN_STAT_STATE c)

/-- The channel takes part in the traffic of its bus. -/
def State.canOn (s : State) (c : Nat) : Bool := s.canState c == canActive || s.canState c == canPassive

/-- The time master is enabled (R398). -/
def State.timeMaster (s : State) (c : Nat) : Bool := s.flag (F.CAN_TM_CFG_EN c)

/-! Buffers. -/

/-- A buffer's record. -/
def State.txBuf (s : State) (c b : Nat) : CanBuf := (s.canCh c).bufs.getD b CanBuf.reset

/-- Replace a buffer's record. -/
def State.setBuf (s : State) (c b : Nat) (x : CanBuf) : State :=
  let h := s.canCh c
  s.setCanCh c { h with bufs := setAt h.bufs b x }

/-- The buffer holds a frame. -/
def State.bufHeld (s : State) (c b : Nat) : Bool := (s.txBuf c b).frame.isSome

/-- The order in which identifiers win arbitration: the eleven bits of the base identifier, a base frame before an extended one, the eighteen further bits. -/
def arbKey (id : Word) : Nat :=
  if id.getLsbD 29 then fieldOf id 18 11 * 2 ^ 19 + 2 ^ 18 + fieldOf id 0 18 else fieldOf id 0 11 * 2 ^ 19

/-- Put a frame into a queue kept in arbitration priority, behind those of its own priority. -/
def canInsert (f : CanFrame) : List CanFrame → List CanFrame
  | [] => [f]
  | h :: t => if arbKey f.id < arbKey h.id then f :: h :: t else h :: canInsert f t

/-- Show the fill of the queue, and that a frame is on the bus. -/
def State.showCan (s : State) (c : Nat) : State :=
  let h := s.canCh c
  let n := h.queue.length
  ((s.put (F.CAN_TXQ_CUR c) n).put (F.CAN_TXQ_PEAK c) (max n (s.fld (F.CAN_TXQ_PEAK c)))).putFlag (F.CAN_STAT_BUSY c) h.onBus.isSome

/-- A frame goes into a buffer (R390, R391). -/
def State.canFill (s : State) (c b : Nat) (f : CanFrame) : State :=
  let h := s.canCh c
  let s := s.setCanCh c { h with fills := h.fills + 1, next := (b + 1) % 3 }
  let s := s.setBuf c b { CanBuf.reset with frame := some f, order := h.fills }
  ((s.put (F.CAN_TX_STAT_STATE c b) txPending).put (F.CAN_TX_STAT_ATTEMPTS c b) 0).wr (F.CAN_TX_ID_ID c b).addr f.id

/-- The free buffer that takes the next frame of the queue: TX0 is kept for reference messages while the time master is enabled (R390). -/
def State.freeBuf (s : State) (c : Nat) : Option Nat :=
  let all := if s.flag (F.CAN_TXCFG_ORDER c) then (List.range 3).map (fun i => ((s.canCh c).next + i) % 3) else List.range 3
  all.find? (fun b => !s.bufHeld c b && !(b == 0 && s.timeMaster c))

/-- The queue feeds a free buffer (R390). -/
def State.canFeedOne (s : State) (c : Nat) : State :=
  match (s.canCh c).queue, s.freeBuf c with
  | f :: t, some b =>
    let h := s.canCh c
    (s.setCanCh c { h with queue := t }).canFill c b f
  | _, _ => s

/-- Of two pending buffers the one that competes: by identifier with ties to the lower number, or the one filled earliest (R390). -/
def State.competes (s : State) (c : Nat) (best : Option Nat) (b : Nat) : Option Nat :=
  match best with
  | none => some b
  | some a =>
    let x := s.txBuf c a
    let y := s.txBuf c b
    let better := if s.flag (F.CAN_TXCFG_ORDER c) then decide (y.order < x.order)
      else match x.frame, y.frame with
        | some f, some g => decide (arbKey g.id < arbKey f.id)
        | _, _ => false
    if better then some b else some a

/-- The buffer that competes next. -/
def State.nextBuf (s : State) (c : Nat) : Option Nat :=
  if s.timeMaster c && s.bufHeld c 0 then some 0
  else ((List.range 3).filter (fun b => s.bufHeld c b)).foldl (fun best b => s.competes c best b) none

/-- The frame that competes next is on the bus from the moment the bus is free for it (log entry 52). -/
def State.canPick (s : State) (c : Nat) : State :=
  let h := s.canCh c
  if h.onBus.isNone && !h.waitIdle && s.canOn c && s.flag (F.CAN_CTRL_EN c) && !s.flag (F.CAN_CTRL_LISTEN c) && s.lidHeld then
    match s.nextBuf c with
    | some b => (s.setCanCh c { h with onBus := some b }).put (F.CAN_TX_STAT_STATE c b) txActive
    | none => s
  else s

/-- The queue feeds the buffers, and the next frame competes. -/
def State.canGo (s : State) (c : Nat) : State :=
  ((forUpTo 3 (fun _ s => s.canFeedOne c) s).canPick c).showCan c

/-- Firmware queues a frame (R390). A channel that is off takes none (log entry 53). -/
def State.canSend (s : State) (c : Nat) (f : CanFrame) : State :=
  let h := s.canCh c
  if s.canState c = canOff then s
  else if 32 ≤ h.queue.length then
    (s.setCanCh c { h with notSent := setAt h.notSent f.svc (h.notSent.getD f.svc 0 + 1) }).event (Ev.CAN_TXQ_OVF c)
  else (s.setCanCh c { h with queue := if s.flag (F.CAN_TXCFG_ORDER c) then h.queue ++ [f] else canInsert f h.queue }).canGo c

/-- The identifier word of an FD frame, with BRS as configured. -/
def State.fdId (s : State) (c : Nat) (id : Nat) : Word :=
  BitVec.ofNat 32 (id % 2 ^ 30 + 2 ^ 30 + 2 ^ 31 * s.fld (F.CAN_DBT_BRS c))

/-- A buffer's frame ends with a result, which stays in its STAT until it is filled again (R391). -/
def State.bufEnd (s : State) (c b result : Nat) : State :=
  let h := s.canCh c
  let s := s.setCanCh c { h with onBus := if h.onBus = some b then none else h.onBus }
  let s := s.setBuf c b { s.txBuf c b with frame := none, cancel := false, last := false }
  let s := s.put (F.CAN_TX_STAT_STATE c b) result
  if result = txDone then s.bump (F.CAN_TX_CNT0_DONE c)
  else if result = txCancelled then s.bump (F.CAN_TX_CNT1_CANCELLED c)
  else if result = txFailed then (s.bump (F.CAN_TX_CNT0_FAILED c)).event (Ev.CAN_TX_FAIL c)
  else s

/-! Errors (R394). -/

/-- The error counters take new values, with the events and the state that follow. -/
def State.canErrors (s : State) (c tec recv : Nat) : State :=
  let h := s.canCh c
  let oldT := s.fld (F.CAN_STAT_TEC c)
  let rise := (decide (oldT < 96) && decide (96 ≤ tec)) || (decide (h.recCount < 96) && decide (96 ≤ recv))
  let s := (s.setCanCh c { h with recCount := recv }).eventIf rise (Ev.CAN_ERR_WARN c)
  let s := ((s.put (F.CAN_STAT_TEC c) (min tec 255)).put (F.CAN_STAT_REC c) (min recv 127)).putFlag (F.CAN_STAT_RP c) (128 ≤ recv)
  let s := s.putFlag (F.CAN_STAT_WARN c) (96 ≤ tec || 96 ≤ recv)
  if 256 ≤ tec then
    let h := s.canCh c
    let s := match h.onBus with
      | some b => s.put (F.CAN_TX_STAT_STATE c b) txPending
      | none => s
    let s := s.setCanCh c { h with onBus := none, recovering := s.flag (F.CAN_TXCFG_AUTO_REC c) }
    (s.put (F.CAN_STAT_STATE c) canBusOff).event (Ev.CAN_BUS_OFF c)
  else if 128 ≤ tec || 128 ≤ recv then (s.eventIf (s.canState c == canActive) (Ev.CAN_ERR_PASSIVE c)).put (F.CAN_STAT_STATE c) canPassive
  else s.put (F.CAN_STAT_STATE c) canActive

/-- The code of an error in CANc_STAT.LEC. -/
def canErrorCode : CanError → Nat
  | .stuff => 1
  | .form => 2
  | .ack => 3
  | .bit1 => 4
  | .bit0 => 5
  | .crc => 6

/-- The channel leaves the bus (R396). -/
def State.canLeave (s : State) (c : Nat) : State :=
  let h := s.canCh c
  (s.setCanCh c { h with onBus := none, waitIdle := false, recovering := false }).put (F.CAN_STAT_STATE c) canOff

/-- What follows the end of an attempt: a channel being disabled leaves the bus, any other goes on. -/
def State.canNext (s : State) (c : Nat) : State :=
  if s.flag (F.CAN_CTRL_EN c) then s.canGo c else (s.canLeave c).showCan c

/-- The delay measured at an FDF-to-res edge (R385). -/
def State.canDelay (s : State) (c : Nat) (delay : Option (BitVec 7)) : State :=
  match delay with
  | some d => if s.flag (F.CAN_DBT_TDC_EN c) then s.put (F.CAN_TDC_TDCV c) d.toNat else s
  | none => s

/-- The state in which an attempt on the bus ends: where none was on the bus after a lost arbitration, the bus has been idle and the next frame competes. -/
def State.canReady (s : State) (c : Nat) : State :=
  let h := s.canCh c
  if h.onBus.isNone then (s.setCanCh c { h with waitIdle := false }).canPick c else s

/-- The frame on the bus ends without error (R391, R394, R398, R399). -/
def State.canDone (s : State) (c b : Nat) (f : CanFrame) (delay : Option (BitVec 7)) (sof : Tc) : State :=
  let s := s.emit (.can c f.id (s.canState c == canPassive && f.id.getLsbD 30) f.data)
  let s := (s.canDelay c delay).put (F.CAN_TX_TS_VALUE c b) sof.toNat
  let s := if f.svc = 3 then s.wr64 (F.CAN_TM_TS_LO_VALUE c).addr sof else s
  let s := s.bufEnd c b txDone
  (s.canErrors c (s.fld (F.CAN_STAT_TEC c) - 1) (s.canCh c).recCount).canNext c

/-- CAN_TX_DONE (R391). -/
def execCanTxDone (c : Fin 2) (delay : Option (BitVec 7)) (tc : Tc) (s : State) : Host.Outcome State Fault Refusal :=
  let t := s.canReady c
  match (t.canCh c).onBus with
  | some b =>
    match (t.txBuf c b).frame with
    | some f => .next (t.canDone c b f delay tc)
    | none => .next s
  | none => .next s

/-- The frame goes back to wait, or ends for a cancellation or with the placement or enable it was queued under (R392, R393, R396, R397). -/
def State.canAgain (s : State) (c b : Nat) : State :=
  let x := s.txBuf c b
  if x.cancel then s.bufEnd c b txCancelled
  else if x.last then (s.bufEnd c b txAbandoned).bumpSat (F.CAN_ABANDON_CNT c)
  else
    let h := s.canCh c
    (s.setCanCh c { h with onBus := none }).put (F.CAN_TX_STAT_STATE c b) txPending

/-- CAN_ARBITRATION_LOST (R392). -/
def execCanArbitrationLost (c : Fin 2) (s : State) : Host.Outcome State Fault Refusal :=
  let t := s.canReady c
  match (t.canCh c).onBus with
  | some b =>
    let t := (t.bump (F.CAN_TX_CNT1_ARB_LOST c)).canAgain c b
    let h := t.canCh c
    .next ((t.setCanCh c { h with waitIdle := true }).canNext c)
  | none => .next s

/-- The attempt on the bus has failed (R392, R394, R395): the counter rises by 8, but not for an ACK error of a passive channel without a dominant bit in its flag, nor for the stuff error that ISO 11898-1 excepts; `more` further rises of 8 come from its error flag. -/
def State.canFail (s : State) (c b : Nat) (e : CanError) (excepted : Bool) (more : Nat) : State :=
  let spared := excepted && ((e == .ack && s.canState c == canPassive) || e == .stuff)
  let s := s.put (F.CAN_STAT_LEC c) (canErrorCode e)
  let x := s.txBuf c b
  let n := x.attempts + 1
  let s := s.setBuf c b { x with attempts := n }
  let s := s.put (F.CAN_TX_STAT_ATTEMPTS c b) (min n 15)
  let isRef := match x.frame with
    | some f => f.svc == 3
    | none => false
  let spent := !s.flag (F.CAN_TXCFG_UNLIM c) && !isRef && decide (s.fld (F.CAN_TXCFG_RETRY c) < n)
  let s := if x.cancel then s.canAgain c b else if spent then s.bufEnd c b txFailed else s.canAgain c b
  (s.canErrors c (s.fld (F.CAN_STAT_TEC c) + (if spared then 0 else 8) + 8 * more) (s.canCh c).recCount).canNext c

/-- CAN_TX_ERROR (R392). -/
def execCanTxError (c : Fin 2) (e : CanError) (excepted : Bool) (more : Nat) (s : State) : Host.Outcome State Fault Refusal :=
  let t := s.canReady c
  match (t.canCh c).onBus with
  | some b => .next (t.canFail c b e excepted more)
  | none => .next s

/-- The bus is idle after a frame of another node. -/
def State.canIdle (s : State) (c : Nat) : State :=
  let h := s.canCh c
  (s.setCanCh c { h with waitIdle := false }).canGo c

/-- CAN_RX_ERROR (R394): the receive error counter rises by 1, and by 8 for each further rule of ISO 11898-1 that its error flag meets. -/
def execCanRxError (c : Fin 2) (e : CanError) (more : Nat) (s : State) : Host.Outcome State Fault Refusal :=
  if s.canOn c then
    let s := s.put (F.CAN_STAT_LEC c) (canErrorCode e)
    .next ((s.canErrors c (s.fld (F.CAN_STAT_TEC c)) ((s.canCh c).recCount + 1 + 8 * more)).canIdle c)
  else .next s

/-- A cancellation of one buffer: the frame on the bus that has won arbitration completes, any other is withdrawn (R393). -/
def State.canCancel (s : State) (c b : Nat) (won : Bool) : State :=
  if !s.bufHeld c b then s
  else if (s.canCh c).onBus = some b ∧ won then s.setBuf c b { s.txBuf c b with cancel := true }
  else s.bufEnd c b txCancelled

/-- A write of CANc_TX_CANCEL (R393). -/
def State.txCancel (s : State) (c : Nat) (bufs : Nat) (won : Bool) : State :=
  if s.canState c = canOff then s
  else (forUpTo 3 (fun b s => if bufs.testBit b then s.canCancel c b won else s) s).canNext c

/-- TX_CANCEL (R393): `won` says that the request falls at the deciding instant or later and the frame on the bus has won arbitration. -/
def execTxCancel (c : Fin 2) (bufs : BitVec 3) (won : Bool) (s : State) : Host.Outcome State Fault Refusal :=
  .next (s.txCancel c bufs.toNat won)

/-- A write of 1 to CANc_CTRL.RECOVER (R394). -/
def State.canRecover (s : State) (c : Nat) : State :=
  let h := s.canCh c
  if s.canState c = canBusOff then s.setCanCh c { h with recovering := true } else s

/-- CAN_RECOVER (R394). -/
def execCanRecover (c : Fin 2) (s : State) : Host.Outcome State Fault Refusal := .next (s.canRecover c)

/-- BUS_OFF_RECOVERY_DONE (R394): error active with both counters 0, and pending frames compete again with their attempts kept. -/
def execBusOffRecoveryDone (c : Fin 2) (s : State) : Host.Outcome State Fault Refusal :=
  let h := s.canCh c
  if s.canState c = canBusOff ∧ h.recovering then
    let s := (s.setCanCh c { h with recovering := false }).put (F.CAN_STAT_STATE c) canActive
    .next ((s.canErrors c 0 0).canNext c)
  else .next s

/-! Receive objects (R386 to R388). -/

/-- The data length of a DLC: beyond 8 a classical frame carries 8 bytes, an FD frame up to 64. -/
def canLength (fdf : Bool) (dlc : Nat) : Nat :=
  if dlc ≤ 8 then dlc else if fdf then [12, 16, 20, 24, 32, 48, 64].getD (dlc - 9) 64 else 8

/-- The receive object that an identifier matches (R386). -/
def State.rxMatch (s : State) (c : Nat) (id : Nat) (ide : Bool) : Option Nat :=
  (List.range 64).find? (fun k => s.flag (F.CAN_RX_CFG_USED c k) && s.fld (F.CAN_RX_CFG_ID c k) == id && s.flag (F.CAN_RX_CFG_IDE c k) == ide)

/-- A frame is stored (R387, R399): HDR, TS and data at once, bytes beyond its length 0; NEW, and LOST where NEW stood. -/
def State.canStore (s : State) (c k : Nat) (f : CanRx) (sof : Tc) : State :=
  let n := canLength f.fdf f.dlc.toNat
  let s := s.eventIf (s.flag (F.CAN_RX_HDR_NEW c k)) (Ev.CAN_RXO_LOST c k)
  let s := s.eventIf (s.flag (F.CAN_RX_HDR_NEW c k)) (Ev.CAN_RX_LOST c)
  let s := (((s.put (F.CAN_RX_HDR_LEN c k) n).putFlag (F.CAN_RX_HDR_ESI c k) f.esi).putFlag (F.CAN_RX_HDR_BRS c k) f.brs).putFlag (F.CAN_RX_HDR_FDF c k) f.fdf
  let s := (s.put (F.CAN_RX_HDR_DLC c k) f.dlc.toNat).put (F.CAN_RX_TS_VALUE c k) sof.toNat
  let s := forUpTo 16 (fun j s => s.put (F.CAN_RX_D_VALUE c k j) (leAt (f.data.take n) (4 * j) 4)) s
  s.event (Ev.CAN_RXO_NEW c k)

/-- The receive error counter after a correct frame: one less; from the passive level a value from 119 to 127 that ISO 11898-1 leaves open (free value). -/
def State.canGood (s : State) (c : Nat) : State :=
  let n := (s.canCh c).recCount
  if 128 ≤ n then s.took.canErrors c (s.fld (F.CAN_STAT_TEC c)) (119 + s.free.toNat % 9)
  else s.canErrors c (s.fld (F.CAN_STAT_TEC c)) (n - 1)

/-- CAN_FRAME_RECEIVE (R382, R385 to R387, R394). -/
def execCanFrameReceive (c : Fin 2) (f : CanRx) (delay : Option (BitVec 7)) (tc : Tc) (s : State) : Host.Outcome State Fault Refusal :=
  if s.canOn c then
    let s := (s.canDelay c delay).canGood c
    let s := if f.rtr then s.bump (F.CAN_RX_MISS_RTR c)
      else match s.rxMatch c f.id.toNat f.ide with
        | some k => s.canStore c k f tc
        | none => s.bump (F.CAN_RX_MISS_NO_MATCH c)
    .next (s.canIdle c)
  else .next s

/-- Firmware takes the frame of the object with this identifier word and clears NEW (R388). -/
def State.canTake (s : State) (c : Nat) (id : Nat) : State :=
  match s.rxMatch c (id % 2 ^ 29) (id.testBit 29) with
  | some k => s.put (F.CAN_RX_HDR_NEW c k) 0
  | none => s

/-- Firmware takes the request frame from its receive object and clears NEW (R386, R388). -/
def State.takeRequestFrame (s : State) : State :=
  match (List.range 64).find? fun k => s.flag (F.CAN_RX_CFG_USED 0 k) && s.fld (F.CAN_RX_HDR_USE 0 k) == 1 with
  | some k => s.put (F.CAN_RX_HDR_NEW 0 k) 0
  | none => s

/-- The object access service runs: a CAN0 request frame that its receive object has stored while the service was off is discarded (R53). -/
def State.serviceOn (s : State) : State :=
  let s := s.takeRequestFrame
  { s with obj := { s.obj with running := true } }

/-- A read of CANc_RXk_HDR copies TS and the data words of the object into the holding copy (R388). -/
def State.rxHold (s : State) (c k : Nat) : State :=
  let h := s.canCh c
  let a := (F.CAN_RX_TS_VALUE c k).addr
  let d := fun (j : Nat) => (F.CAN_RX_D_VALUE c k j).addr
  let copy := (List.range 16).foldl (fun m j => m.set (d j) (s.rd (d j))) (h.copy.set a (s.rd a))
  s.setCanCh c { h with copy }

/-- RX_HDR_READ (R388). -/
def execRxHdrRead (c : Fin 2) (k : Fin 64) (s : State) : Host.Outcome State Fault Refusal :=
  let a := (F.CAN_RX_HDR_NEW c k).addr
  .next ((s.rxHold c k).emit (.readValue a (s.rd a)))

/-! Enable, disable, the Lid (R396, R397). -/

/-- Enabling clears the error counters (R396); commit points count from here (R398). -/
def State.canEnable (s : State) (c : Nat) : State :=
  let h := s.canCh c
  let s := (s.setCanCh c { h with commits := 0, refDone := 0, waitIdle := false }).put (F.CAN_CTRL_EN c) 1
  ((s.put (F.CAN_STAT_STATE c) canActive).canErrors c 0 0).canGo c

/-- Every pending buffer and queued frame ends ABANDONED; the frame on the bus ends with its attempt (R396, R397). The number is kept in CANc_ABANDON. -/
def State.canAbandon (s : State) (c : Nat) : State :=
  let h := s.canCh c
  let waiting := (List.range 3).filter (fun b => s.bufHeld c b && h.onBus != some b)
  let n := waiting.length + h.queue.length
  let s := s.setCanCh c { h with queue := [] }
  let s := waiting.foldl (fun s b => s.bufEnd c b txAbandoned) s
  let s := match h.onBus with
    | some b => s.setBuf c b { s.txBuf c b with last := true }
    | none => s
  (s.put (F.CAN_ABANDON_CNT c) (min n 0xFFFF)).showCan c

/-- Disabling (R396). -/
def State.canDisable (s : State) (c : Nat) : State :=
  let s := (s.put (F.CAN_CTRL_EN c) 0).canAbandon c
  if (s.canCh c).onBus.isNone then (s.canLeave c).showCan c else s

/-- A write of CANc_CTRL (R394, R396). -/
def State.canCtrl (s : State) (c : Nat) (v : Word) : State :=
  let en := v.getLsbD 0
  let s := s.putFlag (F.CAN_CTRL_LISTEN c) (v.getLsbD 2)
  let s := if v.getLsbD 1 then s.canRecover c else s
  if en && !s.flag (F.CAN_CTRL_EN c) then s.canEnable c
  else if !en && s.flag (F.CAN_CTRL_EN c) then s.canDisable c
  else if s.canState c = canOff then s else s.canNext c

/-- The control step of a takeover: frames queued under the old epoch end ABANDONED, each a discarded transfer of sink 6 (R356, R397). -/
def State.canWithdraw (s : State) : State :=
  forUpTo 2 (fun c s =>
    if s.canState c = canOff then s
    else
      let s := (s.canAbandon c).put (F.CAN_STAT_LID_HOLD c) 1
      (List.range (s.fld (F.CAN_ABANDON_CNT c))).foldl (fun s _ => s.staleTransfer 6) s) s

/-- A lane holds the Lid again (R397). -/
def State.canResume (s : State) : State :=
  forUpTo 2 (fun c s => if s.canState c = canOff then s else (s.put (F.CAN_STAT_LID_HOLD c) 0).canGo c) s

/-! The time master (R398). -/

/-- A commit point is counted for the time master of each enabled channel. -/
def State.canCommit (s : State) : State :=
  forUpTo 2 (fun c s =>
    let h := s.canCh c
    if s.flag (F.CAN_CTRL_EN c) && s.canState c != canOff then s.setCanCh c { h with commits := h.commits + 1 } else s) s

/-- CAN_REFERENCE_DUE (R398): at every DIV-th commit point TX0 takes the next reference message in place of an unsent one. -/
def execCanReferenceDue (c : Fin 2) (s : State) : Host.Outcome State Fault Refusal :=
  let h := s.canCh c
  if s.timeMaster c && s.flag (F.CAN_CTRL_EN c) && s.canState c != canOff &&
      h.commits != h.refDone && h.commits % s.fld (F.CAN_TM_CFG_DIV c) == 0 then
    let n := if s.fld (F.CAN_TM_STAT_CYC c) < s.fld (F.CAN_TM_CFG_CYC_MAX c) then s.fld (F.CAN_TM_STAT_CYC c) + 1 else 0
    let s := s.eventIf (s.bufHeld c 0) (Ev.CAN_REF_MISS c)
    let s := s.setCanCh c { h with refDone := h.commits, onBus := if h.onBus = some 0 then none else h.onBus }
    let s := s.put (F.CAN_TM_STAT_CYC c) n
    let data := BitVec.ofNat 8 n :: List.replicate (s.fld (F.CAN_TM_CFG_DLC c) - 1) 0#8
    .next ((s.canFill c 0 { id := s.rd (F.CAN_TM_ID_ID c).addr, data, svc := 3 }).canGo c)
  else .next s

/-! Start, sleep (R400, R510). -/

/-- The channel is instantiated by the image (R510). -/
def State.canUsed (s : State) (c : Nat) : Bool := s.hasSec 10 && (s.img 10 (128 * c + 10) 1).testBit 0

/-- A channel's registers and receive objects take the values of section 0x000A (R510), and the channel is enabled where it says so. -/
def State.canLoad (s : State) (c : Nat) : State :=
  if !s.canUsed c then s
  else
    let g := fun (o n : Nat) => s.img 10 (128 * c + o) n
    let s := (s.setCanCh c CanChan.reset).wr (F.CAN_NBT_NBRP c).addr (BitVec.ofNat 32 (g 0 4))
    let s := (s.wr (F.CAN_DBT_DBRP c).addr (BitVec.ofNat 32 (g 4 4))).put (F.CAN_TDC_TDCO c) (g 8 1)
    let s := (s.wr (F.CAN_TXCFG_ORDER c).addr (BitVec.ofNat 32 (g 9 1))).putFlag (F.CAN_CTRL_LISTEN c) ((g 10 1).testBit 2)
    let s := (s.wr (F.CAN_TM_CFG_EN c).addr (BitVec.ofNat 32 (g 12 4))).wr (F.CAN_TM_ID_ID c).addr (BitVec.ofNat 32 (g 16 4))
    let s := (s.wr (F.CAN_WAKE_CFG_MODE c).addr (BitVec.ofNat 32 (g 20 4))).wr (F.CAN_WUF_ID_ID c).addr (BitVec.ofNat 32 (g 24 4))
    let s := (s.wr (F.CAN_WUF_MASK_MASK c).addr (BitVec.ofNat 32 (g 28 4))).wr (F.CAN_WUF_DMASK_LO_VALUE c).addr (BitVec.ofNat 32 (g 32 4))
    let s := s.wr (F.CAN_WUF_DMASK_HI_VALUE c).addr (BitVec.ofNat 32 (g 36 4))
    let s := forUpTo 64 (fun k s =>
      let o := 256 + 512 * c + 8 * k
      (s.wr (F.CAN_RX_CFG_ID c k).addr (BitVec.ofNat 32 (s.img 10 o 4))).put (F.CAN_RX_HDR_USE c k) (s.img 10 (o + 4) 1)) s
    if (g 10 1).testBit 1 then s.canEnable c else s

/-- Entry to a sleep state: each channel completes its frame, abandons the rest, leaves the bus and lowers its transceiver's power (R400). -/
def State.canSleep (s : State) : State :=
  forUpTo 2 (fun c s =>
    if s.canState c = canOff then s
    else
      let s := s.canDisable c
      let h := s.canCh c
      s.setCanCh c { h with asleep := true }) s

end Sys2Proof.Machine
end

