-- ==== Sys2Proof/Machine/Saf.lean ====
section
/-! DEFINITION. Saf.lean: the safety functions (R321 to R336): dual-channel inputs, functions and groups, test pulses on contactor drivers, safe data. -/
namespace Sys2Proof.Machine

open Sys2Proof

/-! Section 0x0005 (R336). -/

/-- Flags of input k: [0] used, [1] antivalent, [2] pulsed. -/
def State.siFlags (s : State) (k : Nat) : Nat := s.img 5 (8 * k) 1
/-- DISC_T of input k, ms. -/
def State.siDiscT (s : State) (k : Nat) : Nat := s.img 5 (8 * k + 2) 2
/-- Flags of function f: [0] used, [1] group 0, [2] group 1, [3] manual restart. -/
def State.fnFlags (s : State) (f : Nat) : Nat := s.img 5 (48 + 8 * f) 1
/-- Source code i of function f. -/
def State.fnSource (s : State) (f i : Nat) : Nat := s.img 5 (48 + 8 * f + 1 + i) 1
/-- A field of connection c. -/
def State.rxField (s : State) (c off n : Nat) : Nat := s.img 5 (176 + 16 * c + off) n
/-- A field of the TX connection. -/
def State.txField (s : State) (off n : Nat) : Nat := s.img 5 (240 + off) n
/-- SD_REN in ms, TEST_MAX in s, PULSE in µs. -/
def State.sdRen (s : State) : Nat := s.img 5 256 2
def State.testMax (s : State) : Nat := s.img 5 258 2
def State.testPulse (s : State) : Nat := s.img 5 260 2

/-- Milliseconds in ticks. -/
def msT (n : Nat) : Nat := 250000 * n

/-! Functions and groups (R323, R326, R327). -/

/-- Input k is in demand: either channel's filtered state, or a fault held (R323). -/
def State.inputDemand (s : State) (k : Nat) : Bool :=
  s.flag (F.SAF_SI_STAT_FA k) || s.flag (F.SAF_SI_STAT_FB k) || s.flag (F.SAF_SI_STAT_DISC k) || s.flag (F.SAF_SI_STAT_CROSS k)

/-- A source is in demand (R326, R336). -/
def State.sourceDemand (s : State) (code : Nat) : Bool :=
  if 0x80 ≤ code then !s.bit (F.SAF_SD_RX_DATA ((code - 0x80) / 32)) ((code - 0x80) % 32)
  else if 0x10 ≤ code then s.flag (F.SAF_SI_STAT_DEMAND (code - 0x10))
  else false

/-- The raw demand of function f (R326). -/
def State.rawDemand (s : State) (f : Nat) : Bool :=
  (s.fnFlags f).testBit 0 && (List.range 4).any fun i => s.sourceDemand (s.fnSource f i)

/-- Group g is in demand (R326). -/
def State.groupDemand (s : State) (g : Nat) : Bool :=
  (List.range 16).any fun f => (s.fnFlags f).testBit (1 + g) && s.bit F.SAF_FN_DEMAND f

/-- Function f is evaluated: its demand follows its raw demand, or keeps it with manual restart (R327). -/
def State.evalFunction (s : State) (f : Nat) : State :=
  let was := s.bit F.SAF_FN_DEMAND f
  let raw := s.rawDemand f
  let now := raw || (was && (s.fnFlags f).testBit 3)
  (s.putBit F.SAF_FN_DEMAND f now).eventIf (now && !was) Ev.SAF_DEMAND

/-- X58 and X59 follow the groups (R326). -/
def State.driveGroups (s : State) (tc : Tc) : State :=
  let g0 := s.groupDemand 0
  let g1 := s.groupDemand 1
  let s := (s.putFlag F.SAF_STAT_G0 g0).putFlag F.SAF_STAT_G1 g1
  (s.giveInput 58 g0 tc).giveInput 59 g1 tc

/-- Inputs, functions and groups are evaluated (R323, R326, R327). -/
def State.safEval (s : State) (tc : Tc) : State :=
  let s := forUpTo 6 (fun k s => s.putFlag (F.SAF_SI_STAT_DEMAND k) ((s.siFlags k).testBit 0 && s.inputDemand k)) s
  (forUpTo 16 (fun f s => s.evalFunction f) s).driveGroups tc

/-- 30 samples on the 100 µs grid, 3.0 ms in ticks (R322). -/
def siFilter : Nat := 750000

/-- SI_FILTER_CHANGE (R322): the filtered state of a channel changes, 30 samples after its count began at the earliest; its raw level is the one that was sampled. -/
def execSiFilterChange (i : Fin 6) (chB demand : Bool) (tc : Tc) (s : State) : Host.Outcome State Fault Refusal :=
  let c := 2 * i.val + bitN chB
  if (if chB then s.flag (F.SAF_SI_STAT_FB i) else s.flag (F.SAF_SI_STAT_FA i)) == demand || !passed tc (s.saf.siTc.getD c 0) siFilter then .next s
  else
  let s : State := { s with saf := { s.saf with siTc := setAt s.saf.siTc c tc } }
  let anti := (s.siFlags i).testBit 1
  let s := if chB then (s.putFlag (F.SAF_SI_STAT_FB i) demand).putFlag (F.SAF_SI_STAT_RAW_B i) (demand == anti)
    else (s.putFlag (F.SAF_SI_STAT_FA i) demand).putFlag (F.SAF_SI_STAT_RAW_A i) (!demand)
  .next (s.safEval tc)

/-- The output level of a pulse source at tc: 24 V but for 400 µs from the start of its latest dark pulse (R321). -/
def State.sourceHigh (s : State) (sp2 : Bool) (tc : Tc) : Bool :=
  match if sp2 then s.saf.dark2 else s.saf.dark1 with
  | some t => passed tc t 100000
  | none => true

/-- A dark pulse of a source may start: SP1's every 10 ms, SP2's 5 ms after SP1's (R321). Before arming both sources stay at 24 V. -/
def State.darkDue (s : State) (sp2 : Bool) (tc : Tc) : Bool :=
  let since := fun (t : Option Tc) (n : Nat) => match t with
    | some t => passed tc t n
    | none => true
  s.armed && (if sp2 then s.saf.dark1.isSome && since s.saf.dark1 1250000 && since s.saf.dark2 2500000 else since s.saf.dark1 2500000)

/-- An input has a CROSS fault (R322, R325). -/
def State.crossFault (s : State) (k : Nat) : State :=
  (({ s with saf := { s.saf with bothCross := putBitV s.saf.bothCross k false } } : State).put (F.SAF_SI_STAT_CROSS k) 1).event Ev.SAF_CROSS

/-- DARK_PULSE (R321, R322): a source's dark pulse; a pulsed input whose channel on this source, a on SP1 and b on SP2, reads high 300 µs into it has a CROSS fault. -/
def execDarkPulse (sp2 : Bool) (high : BitVec 6) (tc : Tc) (s : State) : Host.Outcome State Fault Refusal :=
  if !s.darkDue sp2 tc then .next s
  else
    let s : State := if sp2 then { s with saf := { s.saf with dark2 := some tc } } else { s with saf := { s.saf with dark1 := some tc } }
    .next ((forUpTo 6 (fun k s =>
      let f := s.siFlags k
      if f.testBit 0 && f.testBit 2 && high.getLsbD k && !s.flag (F.SAF_SI_STAT_CROSS k) then s.crossFault k else s) s).safEval tc)

/-- The two filtered states of an input disagree. -/
def State.disagrees (s : State) (k : Nat) : Bool := s.flag (F.SAF_SI_STAT_FA k) != s.flag (F.SAF_SI_STAT_FB k)

/-- The counter has reached DISC_T: the input has a DISC fault (R324). -/
def State.discFault (s : State) (k : Nat) : State :=
  if (s.siFlags k).testBit 0 && s.disagrees k && s.fld (F.SAF_SI_STAT_DCNT k) == s.siDiscT k && !s.flag (F.SAF_SI_STAT_DISC k) then
    (({ s with saf := { s.saf with bothDisc := putBitV s.saf.bothDisc k false } } : State).put (F.SAF_SI_STAT_DISC k) 1).event Ev.SAF_DISC
  else s

/-- The counter of an input at a tick (R324). -/
def State.discCount (s : State) (k : Nat) : State :=
  if s.disagrees k then (s.bumpSat (F.SAF_SI_STAT_DCNT k)).discFault k else s.put (F.SAF_SI_STAT_DCNT k) 0

/-- A held fault, DISC and CROSS each by itself, clears at a tick that finds both channels healthy, after one that found both in demand (R325). -/
def State.discRelease (s : State) (k : Nat) : State :=
  let fa := s.flag (F.SAF_SI_STAT_FA k)
  let fb := s.flag (F.SAF_SI_STAT_FB k)
  let disc := s.flag (F.SAF_SI_STAT_DISC k)
  let cross := s.flag (F.SAF_SI_STAT_CROSS k)
  if fa && fb then
    { s with saf := { s.saf with
        bothDisc := if disc then putBitV s.saf.bothDisc k true else s.saf.bothDisc
        bothCross := if cross then putBitV s.saf.bothCross k true else s.saf.bothCross } }
  else if !fa && !fb then
    (s.putFlag (F.SAF_SI_STAT_DISC k) (disc && !s.saf.bothDisc.getLsbD k)).putFlag (F.SAF_SI_STAT_CROSS k) (cross && !s.saf.bothCross.getLsbD k)
  else s

/-- DISCREPANCY_TICK (R324, R325). -/
def execDiscrepancyTick (tc : Tc) (s : State) : Host.Outcome State Fault Refusal :=
  .next ((forUpTo 6 (fun k s => if (s.siFlags k).testBit 0 then (s.discRelease k).discCount k else s) s).safEval tc)

/-- DISC_FAULT (R324). -/
def execDiscFault (i : Fin 6) (tc : Tc) (s : State) : Host.Outcome State Fault Refusal := .next ((s.discFault i).safEval tc)

/-- A write of SAF_RESET (R327): only from the Lid holder with the current placement epoch. -/
def State.safReset (s : State) (fns : Nat) (o : Origin) (tc : Tc) : State :=
  match s.portRefusal o with
  | some _ => s.noteStale o 4
  | none =>
    (forUpTo 16 (fun f s =>
      if fns.testBit f && (s.fnFlags f).testBit 3 && !s.rawDemand f then s.putBit F.SAF_FN_DEMAND f false else s) s).driveGroups tc

/-- SAF_RESET (R327). -/
def execSafReset (fns : BitVec 16) (o : Origin) (tc : Tc) (s : State) : Host.Outcome State Fault Refusal := .next (s.safReset fns.toNat o tc)

/-! Test pulses (R328 to R330). -/

/-- The drivers a TEST_WINDOW entry covers: the used ones of its strings; bit 7 covers the auxiliary drivers too (R118). -/
def State.coveredDrivers (s : State) (target : Nat) : List Nat :=
  (List.range 28).filter fun k => s.conUsed k && (if k < 24 then target.testBit (k / 3) else target.testBit 7)

/-- TEST_WINDOW (R328): the window opens. -/
def execTestWindow (k : Fin 64) (tc : Tc) (s : State) : Host.Outcome State Fault Refusal :=
  if s.fires k 2 tc then
    let s := s.acted (firingKey k 2) tc
    .next (if s.armed then
      { s with saf := { s.saf with window := some { drivers := s.coveredDrivers (s.fld (F.PHB_SCHED_A_TARGET k)), tc, len := s.fld (F.PHB_SCHED_C_ARG k) } } }
      else s)
  else .next s

/-- The place of a switch in the rotation: driver k, high side before low side. -/
def switchPlace (k : Nat) (low : Bool) : Nat := 2 * k + (if low then 1 else 0)

/-- The rotation's next place. -/
def State.rotation (s : State) : Nat := 2 * s.fld F.SAF_TP_STAT_DRIVER + s.fld F.SAF_TP_STAT_SWITCH

/-- The rotation moves to a place. -/
def State.putRotation (s : State) (p : Nat) : State := (s.put F.SAF_TP_STAT_DRIVER (p / 2)).put F.SAF_TP_STAT_SWITCH (p % 2)

/-- The next switch of the rotation among some drivers, going round (R328). -/
def State.nextSwitch (s : State) (ks : List Nat) : Option Nat :=
  let places := ks.flatMap fun k => [switchPlace k false, switchPlace k true]
  match places.find? (fun p => decide (s.rotation ≤ p)) with
  | some p => some p
  | none => places.head?

/-- TEST_PULSE_START (R328): 5 µs after the window opens, unless PULSE + 10 µs exceeds its length; the whole pulse lies within the window. -/
def execTestPulseStart (tc : Tc) (s : State) : Host.Outcome State Fault Refusal :=
  match s.saf.window with
  | none => .next s
  | some w =>
    if !passed tc w.tc 1250 || s.saf.pulse.isSome || decide (w.len < s.testPulse + 10) || decide (250 * w.len < (tc - w.tc).toNat + 250 * s.testPulse) then .next s
    else match s.nextSwitch w.drivers with
      | none => .next s
      | some p =>
        let off := s.flag (F.BRK_CON_ENERGISED (p / 2))
        .next ((({ s with saf := { s.saf with window := none, pulse := some { driver := p / 2, low := p % 2 == 1, tc, off } } } : State).putRotation p).put F.SAF_TP_STAT_ACTIVE 1)

/-- A driver holds TEST_FAIL (9) or TEST_OVERDUE (10): its string's breaker opens and the contactors follow, or the auxiliary driver drops (R329). -/
def State.testFault (s : State) (k c : Nat) (tc : Tc) : State :=
  let s := (s.put (F.BRK_CON_FAULT k) c).put F.SAF_STAT_TP_FAULT 1
  if k < 24 then
    let n := k / 3
    let s := (s.setIsl n { s.isl n with arose := true }).openPair n tc
    if s.flag (F.BRK_S_STAT_BST n) then s.setIsl n { s.isl n with dropWait := true } else s.dropContactors n tc
  else s.energise k false tc

/-- The switches that waited for a pulse are energised (R330), while a lane holds the Lid and no output that opens their string is active (R45). -/
def State.energiseWaiting (s : State) (tc : Tc) : State :=
  let ks := s.saf.energiseDue
  ks.foldl (fun s k => if s.lidHeld && !(k < 24 && s.strLatched (k / 3)) then s.energise k true tc else s) s.dropDue

/-- TEST_PULSE_END (R328, R329): the readback of the pulse and, for an on-pulse, the coil current decide. -/
def execTestPulseEnd (readback : Bool) (ma : BitVec 16) (tc : Tc) (s : State) : Host.Outcome State Fault Refusal :=
  match s.saf.pulse with
  | none => .next s
  | some p =>
    if !passed tc p.tc (250 * s.testPulse) then .next s
    else
      let place := switchPlace p.driver p.low
      let s := ((s.pulseOver p tc).put F.SAF_TP_STAT_ACTIVE 0).putRotation ((place + 1) % 56)
      let s := if readback && (p.off || decide (ma.toNat < 10)) then
          let s : State := { s with saf := { s.saf with passTc := setAt s.saf.passTc place tc } }
          s.put (if p.low then F.SAF_TP_AGE_LS p.driver else F.SAF_TP_AGE_HS p.driver) 0
        else (s.testFault p.driver 9 tc).event Ev.SAF_TP_FAIL
      .next (s.energiseWaiting tc)

/-- TEST_OVERDUE (R329): a used switch has not passed for TEST_MAX seconds. -/
def execTestOverdue (k : Fin 28) (low : Bool) (tc : Tc) (s : State) : Host.Outcome State Fault Refusal :=
  .next (if s.armed && s.conUsed k && decide (s.fld (F.BRK_CON_FAULT k) < 9) && passed tc (s.saf.passTc.getD (switchPlace k low) 0) (msT (1000 * s.testMax))
    then s.testFault k 10 tc else s)

/-- The ages of the switches as of a commit point, in seconds (SAF_TP_AGEk). -/
def State.showTestAges (s : State) (tc : Tc) : State :=
  forUpTo 28 (fun k s =>
    let age := fun (p : Nat) => min 0xFFFF ((tc - s.saf.passTc.getD p 0).toNat / 250000000)
    if s.conUsed k then (s.put (F.SAF_TP_AGE_HS k) (age (2 * k))).put (F.SAF_TP_AGE_LS k) (age (2 * k + 1)) else s) s

/-! Safe data (R331 to R335). -/

/-- States of a connection (R333). -/
def sdWait : Nat := 0
def sdRun : Nat := 1
def sdFault : Nat := 2

/-- The lane's record of connection c. -/
def State.conn (s : State) (c : Nat) : SdConn := s.saf.conns.getD c SdConn.reset

/-- Replace the lane's record of a connection. -/
def State.setConn (s : State) (c : Nat) (x : SdConn) : State := { s with saf := { s.saf with conns := setAt s.saf.conns c x } }

/-- The state of connection c. -/
def State.sdState (s : State) (c : Nat) : Nat := s.fld (F.SAF_SD_RX_STAT_STATE c)

/-- The connection is used (R336). -/
def State.sdUsed (s : State) (c : Nat) : Bool := (s.rxField c 4 4).testBit 30

/-- A sequence is newer than another (R331). -/
def seqNewer16 (q last : BitVec 16) : Bool := let d := (q - last).toNat; decide (1 ≤ d) && decide (d ≤ 32767)

/-- A copy is valid: version, complement, and the CRC over the connection identifier and bytes 0 to 11 (R331). -/
def sdCopyValid (id : Nat) (l : List Byte) : Bool :=
  l.length == 16 && l.getD 0 0 == 1#8 && leAt l 4 4 + leAt l 8 4 == 0xFFFFFFFF &&
  crc32c (bytesLe 4 id ++ l.take 12) == BitVec.ofNat 32 (leAt l 12 4)

/-- An acceptance: the sequence is the last accepted one, and the timeout starts again. -/
def State.sdAccepted (s : State) (c : Nat) (q : BitVec 16) (tc : Tc) : State :=
  (s.setConn c { s.conn c with last := some q, acceptTc := tc, first := none }).put (F.SAF_SD_RX_STAT_SEQ c) q.toNat

/-- The connection goes to FAULT with data word 0. -/
def State.sdToFault (s : State) (c : Nat) : State :=
  (s.setConn c { s.conn c with word := 0 }).put (F.SAF_SD_RX_STAT_STATE c) sdFault

/-- A single acceptance (R332, R333). -/
def State.sdSingle (s : State) (c : Nat) (q : BitVec 16) (tc : Tc) : State :=
  let s := (s.sdAccepted c q tc).bump (F.SAF_SD_RX_CNT_SINGLE c)
  if s.sdState c = sdRun then
    if s.fld (F.SAF_SD_RX_STAT_SINGLE c) == s.rxField c 11 1 then s.sdToFault c else s.bump (F.SAF_SD_RX_STAT_SINGLE c)
  else s

/-- A dual acceptance (R332, R333). -/
def State.sdDual (s : State) (c : Nat) (q : BitVec 16) (d : Word) (tc : Tc) : State :=
  let s := (s.sdAccepted c q tc).bump (F.SAF_SD_RX_CNT_DUAL c)
  if s.sdState c = sdFault then s
  else ((s.setConn c { s.conn c with word := d }).put (F.SAF_SD_RX_STAT_STATE c) sdRun).put (F.SAF_SD_RX_STAT_SINGLE c) 0

/-- A mismatch (R332, R333). -/
def State.sdMismatch (s : State) (c : Nat) : State :=
  let s := s.setConn c { s.conn c with first := none }
  if s.sdState c = sdFault then s else (s.sdToFault c).event Ev.SAF_SD_MISMATCH

/-- The first valid copy of a newer sequence: its demand bits act at once (R332). -/
def State.sdFirst (s : State) (c : Nat) (x : SdOpen) : State :=
  s.setConn c { s.conn c with word := (s.conn c).word &&& x.data, first := some x }

/-- A discarded copy of an old sequence. -/
def State.sdLate (s : State) (c : Nat) : State := s.bump (F.SAF_SD_RX_ERR_LATE c)

/-- A valid copy with no other in hand (R332). -/
def State.sdFresh (s : State) (c : Nat) (x : SdOpen) : State :=
  if match (s.conn c).last with
    | some l => seqNewer16 x.seq l
    | none => true
  then s.sdFirst c x else s.sdLate c

/-- SD_WIN of a connection in ticks. -/
def State.sdWin (s : State) (c : Nat) : Nat := msT (s.rxField c 10 1)

/-- A valid copy (R332). -/
def State.sdCopy (s : State) (c : Nat) (x : SdOpen) : State :=
  match (s.conn c).first with
  | none => s.sdFresh c x
  | some w =>
    let inWindow := decide ((x.tc - w.tc).toNat ≤ s.sdWin c)
    if x.seq == w.seq then
      if x.eth == w.eth then s.sdLate c
      else if inWindow then (if x.data == w.data then s.sdDual c x.seq x.data x.tc else s.sdMismatch c)
      else (s.sdSingle c w.seq x.tc).sdLate c
    else if seqNewer16 x.seq w.seq then (s.sdSingle c w.seq x.tc).sdFirst c x
    else s.sdLate c

/-- A received copy is checked by the active lane (R331, R332). -/
def State.sdReceive (s : State) (c : Nat) (eth : Bool) (l : List Byte) (tc : Tc) : State :=
  if !s.sdUsed c then s
  else if sdCopyValid (s.rxField c 0 4) l then
    s.sdCopy c { seq := BitVec.ofNat 16 (leAt l 2 2), data := BitVec.ofNat 32 (leAt l 4 4), eth, tc }
  else s.bump (F.SAF_SD_RX_ERR_BAD c)

/-- SAFE_DATA_COPY (R332): checked at once, or kept until the new lane's rebuild ends (R354). -/
def execSafeDataCopy (c : Fin 4) (eth : Bool) (bytes : List Byte) (tc : Tc) (s : State) : Host.Outcome State Fault Refusal :=
  if s.lan.fw then .next ((if eth then s else s.canTake 1 (s.rxField c 4 4)).sdReceive c eth bytes tc)
  else if s.lidHeld then .next { s with saf := { s.saf with copies := s.saf.copies ++ [(c.val, eth, bytes, tc)] } }
  else .next s

/-- SD_WINDOW_CLOSE (R332): SD_WIN has closed without the second copy. -/
def execSdWindowClose (c : Fin 4) (tc : Tc) (s : State) : Host.Outcome State Fault Refusal :=
  match (s.conn c).first with
  | some w => .next (if s.lan.fw && decide (s.sdWin c < (tc - w.tc).toNat) then s.sdSingle c w.seq tc else s)
  | none => .next s

/-- The connection times out (R333). -/
def State.sdTimeout (s : State) (c : Nat) (tc : Tc) : State :=
  if s.sdState c == sdRun && passed tc (s.conn c).acceptTc (msT (s.rxField c 8 2)) then
    ((s.setConn c { s.conn c with word := 0 }).put (F.SAF_SD_RX_STAT_STATE c) sdWait).event Ev.SAF_SD_TMO
  else s

/-- SD_TIMEOUT (R333): no acceptance for SD_TMO. -/
def execSdTimeout (c : Fin 4) (tc : Tc) (s : State) : Host.Outcome State Fault Refusal :=
  .next (if s.lan.fw then s.sdTimeout c tc else s)

/-- A write of SAF_SD_RESET: each connection in FAULT whose bit is written goes to WAIT and forgets its sequence (R333). -/
def State.sdReset (s : State) (conns : Nat) : State :=
  forUpTo 4 (fun c s =>
    if conns.testBit c && s.sdState c == sdFault then
      ((s.setConn c { s.conn c with last := none, word := 0, first := none }).put (F.SAF_SD_RX_STAT_STATE c) sdWait).put (F.SAF_SD_RX_STAT_SINGLE c) 0
    else s) s

/-- SD_RESET (R333). -/
def execSdReset (conns : BitVec 4) (s : State) : Host.Outcome State Fault Refusal := .next (if s.lan.fw then s.sdReset conns.toNat else s)

/-- A write of SAF_SD_RXc at the island (R334): accepted only from the Lid holder with the current placement epoch; a stale one is a discarded transfer of sink 9 (R356). -/
def State.sdWordWrite (s : State) (c : Nat) (v : Word) (o : Origin) (tc : Tc) : State :=
  match s.portRefusal o with
  | some _ => s.noteStale o 9
  | none =>
    let s : State := { s with saf := { s.saf with
      renewed := setAt s.saf.renewed c tc
      staleWords := s.saf.staleWords &&& ~~~(BitVec.ofNat 4 (2 ^ c)) } }
    ((s.put (F.SAF_SD_RX_DATA c) v.toNat).putFlag F.SAF_STAT_SD_STALE (s.saf.staleWords != 0)).safEval tc

/-- SD_WORD_WRITE (R334). -/
def execSdWordWrite (c : Fin 4) (v : Word) (o : Origin) (tc : Tc) (s : State) : Host.Outcome State Fault Refusal :=
  .next (s.sdWordWrite c v o tc)

/-- SD_RENEWAL_TIMEOUT (R334): no accepted write for SD_REN; the island sets the word to 0. -/
def execSdRenewalTimeout (c : Fin 4) (tc : Tc) (s : State) : Host.Outcome State Fault Refusal :=
  if s.hasSec 5 && passed tc (s.saf.renewed.getD c 0) (msT s.sdRen) then
    let s : State := { s with saf := { s.saf with staleWords := s.saf.staleWords ||| BitVec.ofNat 4 (2 ^ c.val) } }
    .next (((s.put (F.SAF_SD_RX_DATA c) 0).put F.SAF_STAT_SD_STALE 1).safEval tc)
  else .next s

/-- The lane rewrites all four data words (R334). -/
def State.sdRewrite (s : State) (tc : Tc) : State :=
  forUpTo 4 (fun c s => s.sdWordWrite c (s.conn c).word s.ownOrigin tc) s

/-- SD_REWRITE_TIMER (R334). -/
def execSdRewriteTimer (tc : Tc) (s : State) : Host.Outcome State Fault Refusal := .next (if s.lan.fw then s.sdRewrite tc else s)

/-- The data word that TX sends (R335). -/
def State.txWord (s : State) : Word :=
  let b := fun (i : Nat) (x : Bool) => if x then 2 ^ i else 0
  let strs := (List.range 8).foldl (fun a n => a + b (4 + n) (s.fld (F.BRK_S_STAT_PAIR n) == pairClose || s.flag (F.BRK_S_STAT_BST n))) 0
  let fns := (List.range 16).foldl (fun a f => a + b (12 + f) (!((s.fnFlags f).testBit 0 && s.bit F.SAF_FN_DEMAND f))) 0
  BitVec.ofNat 32 (b 0 (!s.flag F.SAF_STAT_G0) + b 1 (!s.flag F.SAF_STAT_G1) + b 2 (!s.flag F.PRT_STAT_ISL_FAULT) +
    b 3 (!s.prt.given.getLsbD 60) + strs + fns)

/-- A safe-data message (R331). -/
def sdMessage (id seq : Nat) (d : Word) : List Byte :=
  let body := [1#8, 0#8] ++ bytesLe 2 seq ++ bytesLe 4 d.toNat ++ bytesLe 4 (~~~d).toNat
  body ++ bytesLe 4 (crc32c (bytesLe 4 id ++ body)).toNat

/-- SD_TX_SEND (R335): the message goes out on both transports. -/
def execSdTxSend (s : State) : Host.Outcome State Fault Refusal :=
  if s.lan.fw && (s.txField 4 4).testBit 30 then
    let d := s.txWord
    let s := (s.put F.SAF_SD_TX_VALUE d.toNat).bump F.SAF_SD_TXSEQ_SEQ
    let m := sdMessage (s.txField 0 4) (s.fld F.SAF_SD_TXSEQ_SEQ) d
    .next ((s.canSend 1 { id := s.fdId 1 (s.txField 4 4), data := m, svc := 1 }).emit (.safeData (s.txField 12 4) (s.txField 10 2) m))
  else .next s

/-- Island power-up: every channel's filtered state is demand and its count starts at 0 (R322). -/
def State.safPowerUp (s : State) (tc : Tc) : State :=
  let s : State := { s with saf := { s.saf with siTc := List.replicate 12 tc } }
  forUpTo 6 (fun k s => (s.put (F.SAF_SI_STAT_FA k) 1).put (F.SAF_SI_STAT_FB k) 1) s

/-- The safety functions at distribution: every connection in WAIT (R333), used marks from section 0x0005; the filtered states run on from island power-up (R322). -/
def State.safStart (s : State) (tc : Tc) : State :=
  let s : State := { s with saf := { Saf.reset with siTc := s.saf.siTc, renewed := List.replicate 4 tc, passTc := List.replicate 56 tc } }
  let s := forUpTo 6 (fun k s => s.putFlag (F.SAF_SI_STAT_USED k) ((s.siFlags k).testBit 0)) s
  let used := (List.range 16).foldl (fun a f => if (s.fnFlags f).testBit 0 then a + 2 ^ f else a) 0
  (s.put F.SAF_FN_USED used).safEval tc

end Sys2Proof.Machine
end

