-- ==== Sys2Proof/Machine/Check.lean ====
section
/-! DEFINITION. Check.lean: the live-set section (R84), and the six checks of a set of RWS values (R102) with the relations and capacities of the owning chapters. Every check is written over the values that would be in effect. -/
namespace Sys2Proof.Machine

open Sys2Proof

/-! RWS objects. -/

/-- The addresses of a family of objects. -/
def ObjRow.addrs (r : ObjRow) : List Nat :=
  r.dims.foldl (fun as d => as.flatMap fun a => (List.range d.1).map fun i => a + d.2 * i) [r.base]

/-- The RWS bits of an object. -/
def rwsMask (a : Nat) : Nat := ((objRowAt a).map fun r => r.maskOf .rws).getD 0

/-- Every RWS object, by block in ascending order of blocks. -/
def rwsAddrs : List Nat :=
  (List.range 22).flatMap fun b => ((objBlock b).filter fun r => r.has .rws).flatMap ObjRow.addrs

/-- An object with its RWS bits replaced (R97). -/
def mergeRws (a : Nat) (old new : Word) : Word :=
  let m := BitVec.ofNat 32 (rwsMask a)
  (old &&& ~~~m) ||| (new &&& m)

/-- The values in effect with a set applied over them (R102). -/
def overlay (set : List (Nat × Word)) (get : Nat → Word) (a : Nat) : Word :=
  match set.find? (fun e => e.1 == a) with
  | some e => mergeRws a (get a) e.2
  | none => get a

/-- The object belongs to a block, sub-unit, slot, trimmer or string that the image in effect declares; the objects of any other read 0 (R60, R102, R271). -/
def State.declaredObj (s : State) (a : Nat) : Bool :=
  let b := a / 0x10000
  !s.blockDormant b &&
  (if b == 4 && 0x41000 ≤ a then !s.bit F.INF_DORMANT_UNIT_PORT ((a - 0x41000) / 0x1000)
   else if b == 9 && 0x91000 ≤ a then s.flag (F.CTE_L_IO_EXISTS ((a - 0x91000) / 0x100))
   else if b == 9 && 0x90200 ≤ a && a < 0x90400 then s.declared ((a - 0x90200) / 0x40) && s.hasTrimmer ((a - 0x90200) / 0x40)
   else if b == 7 && 0x70100 ≤ a && a < 0x70300 then s.declared ((a - 0x70100) / 0x40)
   else if b == 7 && 0x70800 ≤ a && a < 0x70c00 then s.declared ((a - 0x70800) / 0x80)
   else if b == 8 && 0x80100 ≤ a && a < 0x80180 then s.declared ((a - 0x80100) / 0x10)
   else if b == 10 && 0xa0100 ≤ a && a < 0xa0200 then s.declared ((a - 0xa0100) / 0x20)
   else if b == 15 then !(if a < 0xf4000 then s.flag F.INF_DORMANT_UNIT_CAN0 else s.flag F.INF_DORMANT_UNIT_CAN1)
   else if b == 18 && 0x120100 ≤ a && a < 0x120300 then s.declared ((a - 0x120100) / 0x40)
   else true)

/-! The live-set section (R84). -/

/-- An entry of section 0x000B. -/
structure LiveEntry where
  addr : Nat
  locked : Bool
  signedBounds : Bool
  init : Word
  mask : Word
  lower : Word
  upper : Word
deriving DecidableEq, Repr

/-- The entries of the section; an entry without an address is padding. -/
def liveEntries (b : List Byte) : List LiveEntry :=
  (List.range (b.length / 20)).filterMap fun i =>
    let w := fun (o : Nat) => leAt b (20 * i + o) 4
    if w 0 = 0 then none
    else some {
      addr := w 0 / 4 * 4
      locked := (w 0).testBit 0
      signedBounds := (w 0).testBit 1
      init := BitVec.ofNat 32 (w 4)
      mask := BitVec.ofNat 32 (w 8)
      lower := BitVec.ofNat 32 (w 12)
      upper := BitVec.ofNat 32 (w 16) }

/-- The position of the lowest set bit of a mask. -/
def maskLow (m : Word) : Nat := ((List.range 32).find? fun i => m.getLsbD i).getD 0

/-- The width of a mask: its set bits. -/
def maskWidth (m : Word) : Nat := ((List.range 32).filter fun i => m.getLsbD i).length

/-- The field value of an object under an entry lies within the entry's bounds (R84). -/
def LiveEntry.within (e : LiveEntry) (v : Word) : Bool :=
  let x := ((v &&& e.mask) >>> maskLow e.mask).toNat
  if e.signedBounds then
    let i := signed (maskWidth e.mask) x
    decide (e.lower.toInt ≤ i) && decide (i ≤ e.upper.toInt)
  else decide (e.lower.toNat ≤ x) && decide (x ≤ e.upper.toNat)

/-! Ranges (R102 order 3). -/

/-- The fields of an object lie within the ranges of its map. -/
def fieldsInRange (a : Nat) (v : Word) : Bool :=
  match objRowAt a with
  | some r => r.fields.all fun f => f.acc != .rws || (decide (f.least ≤ fieldOf v f.lo f.w) && decide (fieldOf v f.lo f.w ≤ f.greatest))
  | none => true

/-- The objects of schedule entry k whose fields R118 or the map of PHB_SCHEDk_B refuses. -/
def schedBad (get : Nat → Word) (k : Nat) : List Nat :=
  let e := schedEntry get k
  let a := 0x30400 + 16 * k
  let target := match e.action with
    | 0 => true
    | 2 => true
    | 5 => decide (e.target < 8)
    | 6 => decide (e.target < 8)
    | 7 => true
    | 8 => decide (e.target < 4)
    | _ => e.target == 0
  let arg := if e.action == 0 then true else if e.action == 2 then decide (10 ≤ e.arg) && decide (e.arg ≤ 1000) else e.arg == 0
  (if decide (8 < e.action) || !target then [a] else []) ++ (if e.div < e.offset then [a + 4] else []) ++ (if arg then [] else [a + 8])

/-- The objects of slot n out of range: divider offset, shifts, and with FMT = 1 exponents and mantissas. -/
def slotBad (get : Nat → Word) (n : Nat) : List Nat :=
  let b := 0x91000 + 0x100 * n
  let cfg := get b
  let shift := fun (v : Word) (i : Nat) => decide (fieldOf v (8 * i) 8 ≤ 62)
  let exponent := fun (v : Word) =>
    let x := signed 8 (fieldOf v 0 8)
    decide (-40 ≤ x) && decide (x ≤ 8) && fieldOf v 8 24 == 0
  let fmt := cfg.getLsbD 28
  let sh0 := get (b + 0x14)
  let sh1 := get (b + 0x18)
  let ok0 := if fmt then exponent sh0 else (List.range 4).all (shift sh0)
  let ok1 := if fmt then exponent sh1 else (List.range 3).all (shift sh1)
  (if fieldOf cfg 13 8 < fieldOf cfg 5 8 then [b] else []) ++ (if ok0 then [] else [b + 0x14]) ++ (if ok1 then [] else [b + 0x18]) ++
  (if fmt then ([0x20, 0x24, 0x28, 0x2c, 0x30, 0x34, 0x38] : List Nat).filterMap fun o => if mantissaOk (get (b + o)) then none else some (b + o) else [])

/-- The objects that fail the range check on account of a staged object: its own fields, and the entry or slot it belongs to. -/
def rangeBad (get : Nat → Word) (a : Nat) : List Nat :=
  let v := get a
  (if fieldsInRange a v then [] else [a]) ++
  (if 0x30400 ≤ a && a < 0x30800 then schedBad get ((a - 0x30400) / 16)
   else if 0x91000 ≤ a && a < 0x93000 then slotBad get ((a - 0x91000) / 0x100)
   else if 0x120020 ≤ a && a < 0x120040 then (if v.getLsbD 26 then [a] else [])
   else if a == 0x50010 then (if fieldOf v 16 8 < fieldOf v 8 8 then [] else [a])
   else [])

/-! Relations (R102 order 5). -/

/-- A check: the objects that take part, and whether it passes. -/
abbrev Part := List Nat × Bool

/-- The address a failure among the checks reports: of each, the lowest staged object that takes part, or else the lowest; of these the least (R102). -/
def firstFailure (staged : List Nat) (checks : List Part) : Option Nat :=
  leastOf ((checks.filter fun c => !c.2).map fun c =>
    match leastOf (c.1.filter fun a => staged.contains a) with
    | some a => a
    | none => (leastOf c.1).getD 0)

/-- The three objects of a schedule entry. -/
def schedObjs (k : Nat) : List Nat := [0x30400 + 16 * k, 0x30404 + 16 * k, 0x30408 + 16 * k]

/-- Every PHB_SCHEDk object. -/
def allSched : List Nat := (List.range 64).flatMap schedObjs

/-- The entries that fire. -/
def firing (get : Nat → Word) : List SchedEntry := (schedTable get).filter fun e => e.action != 0

/-- The schedule objects of the entries with an action and, where it counts, a target. -/
def objsOf (get : Nat → Word) (p : SchedEntry → Bool) : List Nat :=
  (List.range 64).flatMap fun k => if p (schedEntry get k) then schedObjs k else []

/-- The intervals between apertures. -/
def apertureGaps (es : List SchedEntry) : List Nat :=
  let h := hyper es
  gaps (patternOf (ofAction es 4) h) h

/-- SWP_DEADLINE is at least the readback of half the largest string plus 5 µs (R165, R167); `n` is the largest monitor count. -/
def deadlineLong (us n : Nat) : Bool :=
  let k := (n + 1) / 2
  decide (29280 + 2 * k * 328 + (k + 2) * 23680 + 5000 ≤ 1000 * us)

/-- SWP_DEADLINE is at most 0.95 of the shortest aperture interval over the range (R165). -/
def deadlineShort (us : Nat) (g : List Nat) (f : SchedFreqs) : Bool :=
  g.all fun d => f.everywhere fun x => decide (20 * us * 1000 * x * cycleLen ≤ 19 * d * 10 ^ 12)

/-- AGE_MAX is at least twice the longest aperture interval over the range (R307). -/
def ageLong (ms : Nat) (g : List Nat) (f : SchedFreqs) : Bool :=
  g.all fun d => f.everywhere fun x => decide (2 * d * 10 ^ 12 ≤ ms * 10 ^ 6 * x * cycleLen)

/-- The largest declared monitor count. -/
def State.largestN (s : State) : Nat := (List.range 8).foldl (fun a n => if s.declared n then max a (s.monCount n) else a) 0

/-- The schedule relations (R118, R122, R165, R307, R328). -/
def State.schedRelations (s : State) (get : Nat → Word) : List Part :=
  let es := firing get
  let f := schedFreqs get
  let g := apertureGaps es
  let dl := fieldOf (get 0x5000c) 0 20
  [ (allSched, commitOk es f),
    (allSched, apertureOk es f),
    (0x50014 :: allSched, pauseOk es f (fieldOf (get 0x50014) 0 16)),
    (allSched, windowsOk es f),
    ([0x5000c], deadlineLong dl s.largestN),
    (0x5000c :: allSched, deadlineShort dl g f),
    (0xa0004 :: allSched, ageLong (fieldOf (get 0xa0004) 16 16) g f) ] ++
  (List.range 64).filterMap fun k =>
    let e := schedEntry get k
    if e.action == 2 then some (schedObjs k, decide (s.testPulse + 10 ≤ e.arg)) else none

/-- A slot's control-engine relations: UMIN below UMAX, the sources of R284, a CTL_SAMPLE entry for its group (R280, R284, R289). -/
def slotRelations (get : Nat → Word) (n : Nat) : List Part :=
  let b := 0x91000 + 0x100 * n
  let io := get (b + 4)
  if io.getLsbD 31 then
    let cfg := get b
    let lim := fieldOf io 11 2
    let msrc := fieldOf io 28 3
    let grp := fieldOf cfg 21 3
    [ ([b + 0xc, b + 0x10], decide ((get (b + 0xc)).toInt < (get (b + 0x10)).toInt)),
      ([b], (lim != 1 || msrc == 0) && (lim != 2 || msrc == 3) && (fieldOf io 18 2 != 2 || msrc == 0)),
      ([b], !cfg.getLsbD 31 || (schedTable get).any fun e => e.action == 6 && e.target == grp) ]
  else []

/-- Each TRIM_UPDATE firing of a trimmer falls at least 240 ns after a CTL_SAMPLE firing of the group and before the next one, at nominal (R289). -/
def trimOk (get : Nat → Word) (n grp : Nat) : Bool :=
  let es := firing get
  let h := hyper es
  let span := h * cycleLen
  let samples := patternOf (es.filter fun e => e.action == 6 && e.target == grp) h
  let updates := patternOf (es.filter fun e => e.action == 7 && e.target.testBit n) h
  updates.all fun u =>
    match leastOf (samples.map fun c => (u + span - c) % span) with
    | some d => gapAtLeast d (schedFreqs get).nom 240
    | none => false

/-- A trimmer's relations: MINP below a quarter of the period, and the timing of its updates for every selected class P slot (R289). -/
def State.trimRelations (s : State) (get : Nat → Word) (n : Nat) : List Part :=
  let b := 0x90200 + 0x40 * n
  if s.declared n && s.hasTrimmer n then
    let sel := get (b + 8)
    let slots := if fieldOf sel 19 2 == 0 then [fieldOf sel 26 5] else [fieldOf sel 26 5, fieldOf sel 21 5]
    ([b + 0xc, b + 0x10], decide (4 * fieldOf (get (b + 0x10)) 0 9 < fieldOf (get (b + 0xc)) 0 16)) ::
    slots.filterMap fun l =>
      let cfg := get (0x91000 + 0x100 * l)
      let grp := fieldOf cfg 21 3
      if cfg.getLsbD 31 && !cfg.getLsbD 30 then
        some ((0x91000 + 0x100 * l) :: objsOf get (fun e => (e.action == 6 && e.target == grp) || (e.action == 7 && e.target.testBit n)), trimOk get n grp)
      else none
  else []

/-- Every relation (R102 order 5). -/
def State.relations (s : State) (get : Nat → Word) : List Part :=
  let b8 := fun (v : Word) (lo : Nat) => signed 8 (fieldOf v lo 8)
  let cte := if s.blockDormant 9 then [] else
    (List.range 32).flatMap (slotRelations get) ++ (List.range 8).flatMap (s.trimRelations get)
  s.schedRelations get ++ cte ++
  [ ([0x50014], decide (fieldOf (get 0x50014) 16 16 + 20 ≤ fieldOf (get 0x50014) 0 16)),
    ([0xa0008], decide (fieldOf (get 0xa0008) 0 16 < fieldOf (get 0xa0008) 16 16)),
    ([0xb0024], decide (b8 (get 0xb0024) 0 < b8 (get 0xb0024) 8)),
    ([0xb0028], decide (b8 (get 0xb0028) 0 < b8 (get 0xb0028) 8)) ]

/-! Capacities (R102 order 6). -/

/-- The issue cost of a slot in clocks (R286). -/
def issueCost (cfg : Word) : Nat :=
  if cfg.getLsbD 29 then (if cfg.getLsbD 28 then 9 else 7) else if cfg.getLsbD 28 then 7 else 5

/-- Some firings of two groups can fall less than 240 ns apart (R289). -/
def groupsClose (es : List SchedEntry) (f : SchedFreqs) (a b : Nat) : Bool :=
  let h := hyper es
  let pat := fun (g : Nat) => patternOf (es.filter fun e => e.action == 6 && e.target == g) h
  match closest (pat a) (pat b) (h * cycleLen) with
  | some d => !(f.everywhere fun x => gapAtLeast d x 240)
  | none => false

/-- One step of joining groups: every group close to one already joined. -/
def joinClose (close : Nat → Nat → Bool) (gs : List Nat) : List Nat :=
  (List.range 8).filter fun g => gs.contains g || gs.any fun x => close x g

/-- The groups that count as one with a group (R289). -/
def joined (close : Nat → Nat → Bool) : Nat → List Nat → List Nat
  | 0, gs => gs
  | n + 1, gs => joined close n (joinClose close gs)

/-- Firings per second of a group at PHB_FMAX, as a numerator over 1000 times the pattern's length (R289). -/
def groupRate (get : Nat → Word) (action target : Nat) : Nat × Nat :=
  let es := (schedTable get).filter fun e => e.action == action && e.target == target
  let h := hyper es
  (es.foldl (fun a e => a + h / (e.div + 1) * (e.reps + 1)) 0 * (schedFreqs get).hi, 1000 * h)

/-- The enabled slots. -/
def enabledSlots (get : Nat → Word) : List Nat := (List.range 32).filter fun n => (get (0x91000 + 0x100 * n)).getLsbD 31

/-- The objects that take part in a check over some slots: their CTE_Ln_CFG objects and the schedule objects of their groups (R102). -/
def slotParts (get : Nat → Word) (ns : List Nat) : List Nat :=
  ns.map (fun n => 0x91000 + 0x100 * n) ++
  objsOf get fun e => e.action == 6 && ns.any fun n => fieldOf (get (0x91000 + 0x100 * n)) 21 3 == e.target

/-- The control engine's capacities (R289). -/
def cteCapacities (get : Nat → Word) : List Part :=
  let es := firing get
  let f := schedFreqs get
  let cfg := fun (n : Nat) => get (0x91000 + 0x100 * n)
  let on := enabledSlots get
  let close := groupsClose es f
  let pipes := (List.range 8).flatMap fun g => (List.range 4).map fun p =>
    let gs := joined close 7 [g]
    let ns := on.filter fun n => !(cfg n).getLsbD 30 && fieldOf (cfg n) 24 2 == p && gs.contains (fieldOf (cfg n) 21 3)
    (slotParts get ns, decide (ns.foldl (fun a n => a + issueCost (cfg n)) 0 ≤ 56))
  let rates := on.map fun n =>
    let r := groupRate get 6 (fieldOf (cfg n) 21 3)
    (slotParts get [n], decide (r.1 ≤ 500000 * r.2 * (fieldOf (cfg n) 13 8 + 1)))
  let total : Rat := on.foldl (fun a n =>
    let r := groupRate get 6 (fieldOf (cfg n) 21 3)
    a + (r.1 : Rat) / ((r.2 * (fieldOf (cfg n) 13 8 + 1) : Nat) : Rat)) 0
  (slotParts get on, decide (total ≤ 8000000)) :: pipes ++ rates

/-- Converter B's load at PHB_FMAX is at most 900,000 conversions per second (R430). -/
def afeLoadOk (get : Nat → Word) : Bool :=
  let load : Rat := (List.range 8).foldl (fun a g =>
    let r := groupRate get 5 g
    let v := get (0x120020 + 4 * g)
    a + ((r.1 * (fieldOf v 8 8 + 2) * (groupInputs (fieldOf v 24 8)).length : Nat) : Rat) / (r.2 : Rat)) 0
  decide (load + 60400 ≤ 900000)

/-- Every capacity (R102 order 6). -/
def State.capacities (s : State) (get : Nat → Word) : List Part :=
  let es := firing get
  let f := schedFreqs get
  let lan := get 0xd0004
  (if s.blockDormant 9 then [] else cteCapacities get) ++
  [ (allSched, spacingOk es f),
    (allSched, rateOk es f),
    ((List.range 8).map (fun g => 0x120020 + 4 * g) ++ objsOf get (fun e => e.action == 5), afeLoadOk get),
    ([0xd0004], decide (fieldOf lan 2 2 ≤ fieldOf lan 8 2)) ]

/-! The whole check (R102). -/

/-- The other RWS objects of the slot, entry or comparator of an enable, and the bits of the enable; none for an object that holds no enable. -/
def enableOf (a : Nat) : Option (Word × List Nat) :=
  if 0x91000 ≤ a && a < 0x93000 && a % 0x100 == 0 then
    some (0x80000000#32, ([0x08, 0x0c, 0x10, 0x14, 0x18, 0x20, 0x24, 0x28, 0x2c, 0x30, 0x34, 0x38] : List Nat).map (a + ·))
  else if 0x30400 ≤ a && a < 0x30800 && a % 16 == 0 then some (0x000F0000#32, [a + 4, a + 8])
  else if 0x120100 ≤ a && a < 0x120300 && a % 0x40 == 8 then some (0x80000000#32, [a - 4])
  else none

/-- The objects of a set that are undeclared, or that belong to a function the set removes and also configures (R102). -/
def State.structureBad (s : State) (set : List (Nat × Word)) : List Nat :=
  set.flatMap fun e =>
    let now := s.rd e.1
    let new := mergeRws e.1 now e.2
    (if s.declaredObj e.1 then [] else [e.1]) ++
    match enableOf e.1 with
    | none => []
    | some (m, others) =>
      if new &&& m == 0 && now &&& m != 0 then
        (if new &&& ~~~m == now &&& ~~~m then [] else [e.1]) ++
        (set.filter fun o => others.contains o.1 && mergeRws o.1 (s.rd o.1) o.2 != s.rd o.1).map (·.1)
      else []

/-- The rejection code and the failing address of a set; none where it passes (R102). -/
def State.checkSet (s : State) (set : List (Nat × Word)) : Option (Nat × Nat) :=
  let staged := set.map (·.1)
  let get := overlay set s.rd
  let entries := liveEntries (s.sec 11)
  let of := fun (a : Nat) => entries.filter fun e => e.addr == a
  match leastOf (s.structureBad set) with
  | some a => some (0x12, a)
  | none =>
    match leastOf (staged.filter fun a => (of a).any (·.locked)) with
    | some a => some (0x13, a)
    | none =>
      match leastOf (staged.flatMap (rangeBad get)) with
      | some a => some (0x14, a)
      | none =>
        match leastOf (staged.filter fun a => (of a).any fun e => !e.within (get a)) with
        | some a => some (0x15, a)
        | none =>
          match firstFailure staged (s.relations get) with
          | some a => some (0x16, a)
          | none => (firstFailure staged (s.capacities get)).map fun a => (0x17, a)

end Sys2Proof.Machine
end

