-- ==== Sys2Proof/Machine/LiveSet.lean ====
section
/-! DEFINITION. LiveSet.lean: the open staging and the submitted set (R97 to R105). -/
namespace Sys2Proof.Machine

open Sys2Proof

/-- States of the submitted set (CFG_LS_STAT.STATE). -/
def lsIdle : Nat := 0
def lsChecking : Nat := 1
def lsPassed : Nat := 2

/-- The staging port is open: a lane holds the Lid and no management step is awaited (R72, R101, R345). -/
def State.stagingOpen (s : State) : Bool := s.lidHeld && !s.flag F.LAN_STAT_MGMT_PEND

/-- The open staging becomes a list of objects; OPEN_CNT follows. -/
def State.setStaging (s : State) (l : List (Nat × Word)) : State :=
  ({ s with cfg := { s.cfg with staging := l } } : State).put F.CFG_LS_STAT_OPEN_CNT l.length

/-- An object in its place among rising addresses; an earlier value of the address is replaced. -/
def stageInsert (a : Nat) (v : Word) : List (Nat × Word) → List (Nat × Word)
  | [] => [(a, v)]
  | e :: t => if a < e.1 then (a, v) :: e :: t else if a = e.1 then (a, v) :: t else e :: stageInsert a v t

/-- An RWS write enters the open staging as a whole object (R97); a 1,025th object is not stored and sets OVF (R98). -/
def State.stage (s : State) (a : Nat) (v : Word) : State :=
  if s.cfg.staging.any (fun e => e.1 == a) || s.cfg.staging.length < 1024 then s.setStaging (stageInsert a v s.cfg.staging)
  else s.put F.CFG_LS_STAT_OVF 1

/-- Post an outcome (R100, R104). -/
def State.postOutcome (s : State) (c addr : Nat) : State :=
  let s := (s.put F.CFG_LS_OUT_SEQ (s.fld F.CFG_LS_STAT_SEQ)).put F.CFG_LS_OUT_CODE c
  (s.put F.CFG_LS_FAIL_ADDR_ADDR addr).event Ev.CFG_LS_DONE

/-- Empty the open staging and clear OVF (R99). -/
def State.lsDiscard (s : State) : State := (s.setStaging []).put F.CFG_LS_STAT_OVF 0

/-- SUBMIT (R100). -/
def State.lsSubmit (s : State) : State :=
  if s.fld F.CFG_LS_STAT_STATE = lsIdle then
    let s := (s.bump F.CFG_LS_STAT_SEQ).put F.CFG_LS_LOST_LOST_CNT 0
    if s.flag F.CFG_LS_STAT_OVF then s.lsDiscard.postOutcome 0x11 0
    else if s.cfg.staging.isEmpty then s.postOutcome 0x10 0
    else
      let s : State := { s with cfg := { s.cfg with submitted := s.cfg.staging } }
      (s.setStaging []).put F.CFG_LS_STAT_STATE lsChecking
  else s.bump F.CFG_LS_CNT_SUB_IGN

/-- A write of CFG_LS_CTRL: DISCARD acts first (R99). -/
def State.lsCtrl (s : State) (v : Word) : State :=
  let s := if v.getLsbD 1 then s.lsDiscard else s
  if v.getLsbD 0 then s.lsSubmit else s

/-- LS_SUBMIT (R100). -/
def execLsSubmit (s : State) : Host.Outcome State Fault Refusal := .next (if s.stagingOpen then s.lsSubmit else s)

/-- LS_DISCARD (R99). -/
def execLsDiscard (s : State) : Host.Outcome State Fault Refusal := .next (if s.stagingOpen then s.lsDiscard else s)

/-- The submitted set is gone; the state is IDLE. -/
def State.dropSubmitted (s : State) : State :=
  ({ s with cfg := { s.cfg with submitted := [] } } : State).put F.CFG_LS_STAT_STATE lsIdle

/-- The checks end (R100, R102). -/
def State.lsChecked (s : State) : State :=
  match s.checkSet s.cfg.submitted with
  | some (c, a) => s.dropSubmitted.postOutcome c a
  | none => s.put F.CFG_LS_STAT_STATE lsPassed

/-- LS_CHECKS_DONE (R102): only a set in CHECKING has checks that end. -/
def execLsChecksDone (s : State) : Host.Outcome State Fault Refusal :=
  .next (if s.fld F.CFG_LS_STAT_STATE = lsChecking then s.lsChecked else s)

/-- The values of a set are in effect. -/
def State.putSet (s : State) (set : List (Nat × Word)) : State :=
  set.foldl (fun s e => s.wr e.1 (mergeRws e.1 (s.rd e.1) e.2)) s

/-- The copy of the register image that holds the older commit count (R349: the copies alternate). -/
def State.olderImage (s : State) : Nat :=
  let a := leAt (s.imageCopy 0) 0 4
  let b := leAt (s.imageCopy 1) 0 4
  if (a + 2 ^ 32 - b) % 2 ^ 32 < 2 ^ 31 && a != b then 1 else 0

/-- An object of the schedule table (R117). -/
def isSchedule (a : Nat) : Bool := decide (0x30400 ≤ a) && decide (a < 0x30800)

/-- An object of the control engine. -/
def isCte (a : Nat) : Bool := a / 0x10000 == 9

/-- What the blocks do with values that have just come into effect; `old` is the state before (R105, R114, R272, R290, R349, R425). -/
def State.applied (s old : State) (set : List (Nat × Word)) (tc : Tc) : State :=
  let s := State.afeApplied old s
  let s : State := if s.rd F.PHB_OFFSET_COUNT.addr != old.rd F.PHB_OFFSET_COUNT.addr then { s with phb := { s.phb with offsetChanged := true } } else s
  let s := s.cteApplied (fun n => old.rd (0x91000 + 0x100 * n))
  let s := if set.any (fun e => isSchedule e.1) then s.phbMoved tc else s
  if set.any (fun e => isCte e.1 && s.rd e.1 != old.rd e.1) then s.writeImage s.olderImage tc else s

/-- Step 2 of a commit point (R38, R100): a set in PASSED is applied as a whole. -/
def State.lsApply (s : State) (tc : Tc) : State :=
  if s.fld F.CFG_LS_STAT_STATE = lsPassed then
    let set := s.cfg.submitted
    let s := ((s.putSet set).applied s set tc).dropSubmitted
    let s := (s.put F.CFG_LS_APPLY_PH_PHASE (s.phaseAt tc).toNat).put F.CFG_LS_APPLY_EPOCH_EPOCH (s.fld F.OBJ_EPOCH_LATEST)
    (s.bump F.CFG_LS_CNT_APPLIED).postOutcome 0x01 0
  else s

/-- The control step of a takeover: the submitted set is discarded, ABANDONED to be posted at the management step; the open staging is emptied and its number kept for LOST_CNT (R100, R101). -/
def State.lsWithdraw (s : State) : State :=
  let due := s.fld F.CFG_LS_STAT_STATE != lsIdle || s.cfg.abandonedDue
  let n := s.cfg.staging.length
  let s := if s.fld F.CFG_LS_STAT_STATE != lsIdle then s.dropSubmitted else s
  let s : State := { s with cfg := { s.cfg with abandonedDue := due, lostDue := n } }
  s.lsDiscard

/-- The management step: ABANDONED is posted and LOST_CNT shows (R100, R101, R355). -/
def State.lsReport (s : State) : State :=
  let s := if s.cfg.abandonedDue then s.postOutcome 0x02 0 else s
  let s := s.put F.CFG_LS_LOST_LOST_CNT s.cfg.lostDue
  { s with cfg := { s.cfg with abandonedDue := false, lostDue := 0 } }

end Sys2Proof.Machine
end

