-- ==== Sys2Proof/Machine/Eth.lean ====
section
/-! DEFINITION. Eth.lean: the Ethernet switch, its transparent clock, link delays, the lane side and TC10 (R401 to R408, R418). Stamps are in 1/16 tick, 0.25 ns; correction fields in 2^-16 ns. Frame layouts are those of IEEE 802.3, IPv4, UDP and IEEE 1588 (log entry 58). -/
namespace Sys2Proof.Machine

open Sys2Proof

/-! Bytes of frames. -/

/-- A big-endian number from bytes. -/
def natBe (l : List Byte) : Nat := l.foldl (fun a b => a * 256 + b.toNat) 0

/-- n bytes of a list from an offset, as a big-endian number. -/
def beAt (l : List Byte) (off n : Nat) : Nat := natBe ((l.drop off).take n)

/-- The n bytes of a number, big-endian. -/
def bytesBe (n v : Nat) : List Byte := (bytesLe n v).reverse

/-- Replace bytes from an offset. -/
def spliceAt (l : List Byte) (off : Nat) (x : List Byte) : List Byte := l.take off ++ x ++ l.drop (off + x.length)

/-- The frame carries an IEEE 802.1Q tag. -/
def ethTagged (l : List Byte) : Bool := beAt l 12 2 == 0x8100

/-- Offset of the payload behind the Ethertype, and the Ethertype. -/
def ethBody (l : List Byte) : Nat := if ethTagged l then 18 else 14
def ethType (l : List Byte) : Nat := beAt l (ethBody l - 2) 2

/-- Length of the IPv4 header, protocol, fragment mark. -/
def ipLen (l : List Byte) : Nat := beAt l (ethBody l) 1 % 16 * 4
def ipProto (l : List Byte) : Nat := beAt l (ethBody l + 9) 1
def ipFragment (l : List Byte) : Bool := beAt l (ethBody l + 6) 2 % 0x4000 != 0

/-- The frame carries a whole UDP datagram over IPv4; its destination port; where its payload starts. -/
def isUdp (l : List Byte) : Bool := ethType l == 0x0800 && ipProto l == 17 && !ipFragment l
def udpPort (l : List Byte) : Nat := beAt l (ethBody l + ipLen l + 2) 2
def udpBody (l : List Byte) : Nat := ethBody l + ipLen l + 8

/-- Where a PTP message starts, over Ethernet or over UDP/IPv4 (R405). -/
def ptpAt (l : List Byte) : Option Nat :=
  if ethType l = 0x88F7 then some (ethBody l)
  else if isUdp l && (udpPort l == 319 || udpPort l == 320) then some (udpBody l)
  else none

/-- The type of a PTP message; 16 for a frame that carries none. -/
def ptpType (l : List Byte) : Nat :=
  match ptpAt l with
  | some o => beAt l o 1 % 16
  | none => 16

/-- The correction field of a PTP message at an offset. -/
def ptpCorr (l : List Byte) (o : Nat) : Int := signed 64 (beAt l (o + 8) 8)

/-! Ports. -/

/-- An external port's record. -/
def State.ethPort (s : State) (p : Nat) : EthPort := s.eth.ports.getD p EthPort.reset

/-- Replace an external port's record. -/
def State.setEthPort (s : State) (p : Nat) (x : EthPort) : State := { s with eth := { s.eth with ports := setAt s.eth.ports p x } }

/-- Fields and event of an external port. -/
def ethLink (p : Nat) : Field := if p = 0 then F.ETH_STAT_E0_LINK else F.ETH_STAT_E1_LINK
def ethTc10 (p : Nat) : Field := if p = 0 then F.ETH_STAT_E0_TC10 else F.ETH_STAT_E1_TC10
def ethLinkEv (p : Nat) : EventFlag := if p = 0 then Ev.ETH_LINK0 else Ev.ETH_LINK1

/-- TC10 states. -/
def tc10Active : Nat := 0
def tc10Wait : Nat := 1
def tc10Asleep : Nat := 2

/-- The port passes frames; E2 always does. -/
def State.ethUp (s : State) (p : Nat) : Bool := p == 2 || s.flag (ethLink p)

/-- A port's role is MASTER. -/
def State.ethMaster (s : State) (p : Nat) : Bool := s.flag (if p = 0 then F.ETH_CFG_E0_ROLE else F.ETH_CFG_E1_ROLE)

/-- ETH_CFG.ASYM of a port (R408). -/
def State.ethAsym (s : State) (p : Nat) : Int := signed 8 (s.fld F.ETH_CFG_ASYM / 256 ^ p)

/-- The ingress stamp at the MDI (R408). -/
def State.inStamp (s : State) (p : Nat) (mac : Nat) : Int :=
  if p = 2 then mac else (mac : Int) - (if s.ethMaster p then 2418 else 2385) + s.ethAsym p

/-- The egress stamp at the MDI (R408). -/
def outStamp (p : Nat) (mac : Nat) : Int := if p = 2 then mac else (mac : Int) + 944

/-! Link delay (R407). -/

/-- The link delay of a port as a Sync gains it, in 0.25 ns. -/
def State.linkDelay (s : State) (p : Nat) : Nat :=
  if p < 2 && s.flag (F.ETH_E_PDLY_VALID p) then s.fld (F.ETH_E_PDLY_DELAY p) else 0

/-- The link delay becomes invalid (R407). -/
def State.pdlyLost (s : State) (p : Nat) : State :=
  ((s.setEthPort p { s.ethPort p with meas := [], req := none, half := none }).put (F.ETH_E_PDLY_VALID p) 0).event Ev.ETH_PDLY_LOST

/-- A valid measurement of (t4 − t1) − (t3 − t2): the mean of the last 8 halves is the link delay (R407). -/
def State.pdlyMeasured (s : State) (p : Nat) (m : Int) : State :=
  let x := s.ethPort p
  let meas := m :: x.meas.take 7
  let d := roundOpen (meas.foldl (· + ·) 0) (2 * meas.length * 2 ^ 14)
  let s := s.setEthPort p { x with req := none, missed := 0, half := none, meas }
  (s.put (F.ETH_E_PDLY_DELAY p) (clampI 0 (2 ^ 31 - 1) d).toNat).put (F.ETH_E_PDLY_VALID p) 1

/-- A time stamp of a PTP message body, ns. -/
def ptpTime (l : List Byte) (o : Nat) : Int := ((beAt l o 6 * 10 ^ 9 + beAt l (o + 6) 4 : Nat) : Int)

/-- A Pdelay_Resp (type 3) or Pdelay_Resp_Follow_Up (type 10) ends at the port (R405, R407). -/
def State.pdelayAnswer (s : State) (p : Nat) (l : List Byte) (o : Nat) (t4 : Int) : State :=
  let q := BitVec.ofNat 16 (beAt l (o + 30) 2)
  let x := s.ethPort p
  match x.req with
  | none => s
  | some (r, t1) =>
    if q != r then s
    else if ptpType l = 3 then
      if (l.getD (o + 6) 0).getLsbD 1 then
        s.setEthPort p { x with half := some (q, t4.toNat, ptpTime l (o + 34) * 2 ^ 16 - ptpCorr l o) }
      else s.pdlyMeasured p ((t4 - t1) * 2 ^ 14 - ptpCorr l o)
    else
      match x.half with
      | some (h, t4, t2) => if h = q then s.pdlyMeasured p (((t4 : Int) - t1) * 2 ^ 14 - (ptpTime l (o + 34) * 2 ^ 16 - t2) - ptpCorr l o) else s
      | none => s

/-- PDELAY_REQ_TIMER (R407): the third unanswered request in a row invalidates the delay; the next request goes out. -/
def execPdelayReqTimer (p : Fin 2) (stamp : Nat) (s : State) : Host.Outcome State Fault Refusal :=
  if s.ethUp p then
    let x := s.ethPort p
    let missed := if x.req.isSome then x.missed + 1 else 0
    let s := s.setEthPort p { x with missed }
    let s := if missed = 3 then s.pdlyLost p else s
    let x := s.ethPort p
    let q := x.seq + 1
    let s := s.setEthPort p { x with seq := q, req := some (q, (outStamp p stamp).toNat), half := none }
    .next ((s.bump (F.ETH_E_TX_VALUE p)).emit (.pdelayReq p (s.fld F.TIM_SERVO_CFG_DOMAIN) q.toNat))
  else .next s

/-- PDELAY_REQ_RECEIVE (R407): answered with a one-step Pdelay_Resp whose correction field carries the turnaround. -/
def execPdelayReqReceive (p : Fin 2) (seq : BitVec 16) (ingress egress : Nat) (s : State) : Host.Outcome State Fault Refusal :=
  if s.ethUp p then
    .next ((s.bump (F.ETH_E_TX_VALUE p)).emit (.pdelayResp p seq.toNat ((outStamp p egress - s.inStamp p ingress) * 2 ^ 14)))
  else .next s

/-! Addresses (R402). -/

/-- The module's MAC address and IPv4 address. -/
def State.macOwn (s : State) : Nat := s.fld F.ETH_MAC_HI_VALUE * 2 ^ 32 + s.fld F.ETH_MAC_LO_VALUE
def State.ipOwn (s : State) : Nat := s.fld F.ETH_IP_VALUE

/-- An address is learned, or seen again; a full table learns no new one. -/
def ethLearn (t : List (Nat × Nat × Tc)) (mac p : Nat) (tc : Tc) : List (Nat × Nat × Tc) :=
  if t.any (fun e => e.1 == mac) then t.map (fun e => if e.1 = mac then (mac, p, tc) else e)
  else if t.length < 1024 then (mac, p, tc) :: t else t

/-- ADDRESS_AGE_OUT (R402): 300 s after it was last seen. -/
def execAddressAgeOut (mac : BitVec 48) (tc : Tc) (s : State) : Host.Outcome State Fault Refusal :=
  let old := fun (e : Nat × Nat × Tc) => e.1 == mac.toNat && decide (75000000000 ≤ (tc - e.2.2).toNat)
  .next { s with eth := { s.eth with table := s.eth.table.filter (fun e => !old e) } }

/-- A group address. -/
def macGroup (mac : Nat) : Bool := mac.testBit 40

/-- The ports a frame goes to: the module's own address to E2, a learned one to its port, everything else to every other port; with ISOLATE nothing between E0 and E1 (R402, R404). -/
def State.ethTargets (s : State) (p dst : Nat) : List Nat :=
  let all := (List.range 3).filter (fun e => e != p)
  let l :=
    if macGroup dst then all
    else if dst = s.macOwn then all.filter (fun e => e == 2)
    else match s.eth.table.find? (fun e => e.1 == dst) with
      | some e => all.filter (fun x => x == e.2.1)
      | none => all
  l.filter (fun e => !(s.flag F.ETH_CFG_ISOLATE && decide (e < 2) && decide (p < 2)))

/-- The queue of a frame (R403). -/
def State.ethQueue (s : State) (l : List Byte) : Nat :=
  if ptpType l ≤ 3 then 3 else if ethTagged l then beAt l 14 1 / 32 / 2 else s.fld F.ETH_CFG_DEF_Q

/-! The transparent clock (R405, R406). -/

/-- What a Sync gains on its way from port p to port e: residence time at the rate of the current segment, rounded to nearest, and the link delay of its ingress port; towards E2 the link delay alone. -/
def State.syncGain (s : State) (p e : Nat) (inStamp eg : Int) : Int :=
  (if e = 2 then 0 else roundNear ((eg - inStamp) * (s.tim.cur.inc.toNat : Int)) (2 ^ 17)) + (s.linkDelay p * 2 ^ 14 : Nat)

/-- SYNC_CORRECTION: a forwarded Sync gains its correction in flight; over UDP its checksum is set to 0 (R405, R406). -/
def State.syncCorrect (s : State) (p e : Nat) (f : EthFrame) : List Byte :=
  let l := f.bytes
  match ptpAt l with
  | some o =>
    if ptpType l = 0 then
      let c := ptpCorr l o + s.syncGain p e (s.inStamp p f.stamp) (outStamp e (f.egress.getD e 0))
      let l := spliceAt l (o + 8) (bytesBe 8 (code 64 c))
      if isUdp l then spliceAt l (udpBody l - 2) [0#8, 0#8] else l
    else l
  | none => l

/-- A frame goes out at a port, or is dropped where its queue is full (R403). -/
def State.ethForward (s : State) (p e : Nat) (f : EthFrame) : State :=
  if !s.ethUp e then s
  else if (f.full.getD e 0).getLsbD (s.ethQueue f.bytes) then s.bump (F.ETH_E_ERR_DROP e)
  else (s.bump (F.ETH_E_TX_VALUE e)).emit (.eth e (s.syncCorrect p e f))

/-! The lane side (R404). -/

/-- The sum of an Internet checksum. -/
def inetSum : List Byte → Nat
  | a :: b :: t => a.toNat * 256 + b.toNat + inetSum t
  | [a] => a.toNat * 256
  | [] => 0

/-- The Internet checksum of bytes. -/
def inetChecksum (l : List Byte) : Nat :=
  let f := fun (x : Nat) => x % 65536 + x / 65536
  65535 - f (f (f (inetSum l)))

/-- The answer to an ARP request for the module's address. -/
def State.arpReply (s : State) (l : List Byte) : List Byte :=
  let o := ethBody l
  let mac := bytesBe 6 s.macOwn
  let sha := (l.drop (o + 8)).take 6
  sha ++ mac ++ (l.drop 12).take (o - 12) ++ (l.drop o).take 6 ++ [0#8, 2#8] ++ mac ++ bytesBe 4 s.ipOwn ++ sha ++ (l.drop (o + 14)).take 4

/-- The answer to an ICMP echo request. -/
def State.icmpReply (s : State) (l : List Byte) : List Byte :=
  let o := ethBody l
  let h := ipLen l
  let msg := (l.drop (o + h)).take (beAt l (o + 2) 2 - h)
  let msg := spliceAt msg 0 [0#8, 0#8, 0#8, 0#8]
  let msg := spliceAt msg 2 (bytesBe 2 (inetChecksum msg))
  (l.drop 6).take 6 ++ bytesBe 6 s.macOwn ++ (l.drop 12).take (o - 12) ++ (l.drop o).take 12 ++ bytesBe 4 s.ipOwn ++
    (l.drop (o + 12)).take 4 ++ (l.drop (o + 20)).take (h - 20) ++ msg

/-- The datagrams the module accepts: object access, angle messages, safe data (R404). -/
def State.laneAccepts (s : State) (l : List Byte) : Bool :=
  let dst := beAt l (ethBody l + 16) 4
  isUdp l &&
    ((dst == s.ipOwn && (udpPort l == s.img 10 1304 2 || udpPort l == s.img 5 250 2)) ||
     (dst == s.img 6 32 4 && udpPort l == s.img 6 28 2))

/-- A frame delivered at E2 (R404): ARP and ICMP echo are answered, PTP and the listed datagrams taken, every other frame addressed to the module is dropped and counted. -/
def State.laneReceive (s : State) (l : List Byte) : State :=
  let dst := beAt l 0 6
  let o := ethBody l
  if dst != s.macOwn && !macGroup dst then s
  else if ethType l = 0x0806 then
    if beAt l (o + 6) 2 == 1 && beAt l (o + 24) 4 == s.ipOwn && s.lan.fw then s.emit (.lane (s.arpReply l)) else s
  else if ethType l = 0x88F7 || s.laneAccepts l then s
  else if ethType l == 0x0800 && !ipFragment l && ipProto l == 1 && beAt l (o + 16) 4 == s.ipOwn && beAt l (o + ipLen l) 1 == 8 then
    if s.lan.fw then s.emit (.lane (s.icmpReply l)) else s
  else if dst = s.macOwn ∨ dst = 2 ^ 48 - 1 then s.bump F.ETH_LANE_DROP_CNT
  else s

/-- A good frame on its way through the switch. -/
def State.ethSwitch (s : State) (p : Nat) (f : EthFrame) (tc : Tc) : State :=
  let l := f.bytes
  let s := s.bump (F.ETH_E_RX_VALUE p)
  let s : State := if p < 2 then { s with eth := { s.eth with table := ethLearn s.eth.table (beAt l 6 6) p tc } } else s
  let ends := p < 2 && (ptpType l == 2 || ptpType l == 3 || ptpType l == 10)
  match ends, ptpAt l with
  | true, some o => if ptpType l = 2 then s else s.pdelayAnswer p l o (s.inStamp p f.stamp)
  | _, _ =>
    let outs := s.ethTargets p (beAt l 0 6)
    let s := outs.foldl (fun s e => s.ethForward p e f) s
    if outs.contains 2 && !(f.full.getD 2 0).getLsbD (s.ethQueue l) then s.laneReceive l else s

/-- ETH_FRAME_RECEIVE (R402): a frame of the lane side is dropped at ingress while no lane holds the Lid (R345), in a control step as a discarded transfer of sink 7 (R356); a long frame or one with a bad FCS is discarded. -/
def execEthFrameReceive (p : Fin 3) (f : EthFrame) (tc : Tc) (s : State) : Host.Outcome State Fault Refusal :=
  if !s.ethUp p || s.blockDormant 0x10 then .next s
  else if p == 2 && !s.lidHeld then .next (if s.lan.control.isSome then s.staleTransfer 7 else s)
  else if !f.fcs || decide (1518 < f.bytes.length) then .next (s.bump (F.ETH_E_ERR_DISCARD p))
  else .next (s.ethSwitch p f tc)

/-! Links and TC10 (R407, R418). -/

/-- A port's link changes. -/
def State.ethLinkSet (s : State) (p : Nat) (up : Bool) : State :=
  if s.flag (ethLink p) == up then s
  else
    let s := (s.putFlag (ethLink p) up).event (ethLinkEv p)
    if up then s.setEthPort p { s.ethPort p with missed := 0 } else s.pdlyLost p

/-- ETH_LINK_CHANGE (R407). A port that sleeps stays down until a wake-up (R418). A link that goes down while the port waits for its partner's acknowledgment has been acknowledged, and the port sleeps (R418, log entry 68). -/
def execEthLinkChange (p : Fin 2) (up : Bool) (s : State) : Host.Outcome State Fault Refusal :=
  if s.blockDormant 0x10 || (up && s.fld (ethTc10 p) == tc10Asleep) then .next s
  else
    let s := if !up && s.fld (ethTc10 p) == tc10Wait then s.put (ethTc10 p) tc10Asleep else s
    .next (s.ethLinkSet p up)

/-- TC10_SLEEP_REQUEST (R418): rejected, or with ACCEPT_SLEEP acknowledged, and the port sleeps while the module runs. -/
def execTc10SleepRequest (p : Fin 2) (s : State) : Host.Outcome State Fault Refusal :=
  if s.blockDormant 0x10 || !s.flag (ethLink p) then .next s
  else if s.flag F.ETH_CFG_ACCEPT_SLEEP then
    .next (((s.emit (.tc10Ack p)).put (ethTc10 p) tc10Asleep).ethLinkSet p false)
  else .next (s.emit (.tc10Reject p))

/-- The control step: frames queued on the lane side are dropped; the model holds none between commands (R356, log entry 58). -/
def State.ethWithdraw (s : State) : State := if s.blockDormant 0x10 then s else s.put F.ETH_STAT_LID_HOLD 1

/-- A lane holds the Lid again. -/
def State.ethResume (s : State) : State := s.put F.ETH_STAT_LID_HOLD 0

/-- The switch's and the servo's registers from section 0x000A (R510). -/
def State.ethLoad (s : State) : State :=
  let w := fun (o : Nat) => BitVec.ofNat 32 (s.img 10 o 4)
  if s.hasSec 10 then
    let s : State := { s with eth := Eth.reset }
    let s := ((s.wr F.ETH_CFG_DEF_Q.addr (w 1280)).wr F.ETH_IP_VALUE.addr (w 1284)).wr F.ETH_WAKE_CFG_FWD.addr (w 1296)
    let v := w 1300
    (s.putFlag F.TIM_SERVO_CFG_SERVO_EN (v.getLsbD 31)).put F.TIM_SERVO_CFG_DOMAIN (fieldOf v 16 8)
  else s

end Sys2Proof.Machine
end

