-- ==== Sys2Proof/Machine/Thm.lean ====
section
/-! DEFINITION. Thm.lean: the thermal strategy (R309 to R312), its contribution, the coolant outputs, and the cause word of the thermal shutdown (R314 to R316). -/
namespace Sys2Proof.Machine

open Sys2Proof

/-- The cause word is set (R314). -/
def State.causeSet (s : State) : Bool := s.flag F.THM_STAT_SD_PEND

/-- The complement check fails: the word and the complement that FRAM holds do not match (R314). -/
def Thm.torn (x : Thm) : Bool := x.inv != ~~~x.word

/-- The FRAM words of the cause are mirrored: a word that fails its complement check counts as set with CAUSE 0 (R314). -/
def State.showCause (s : State) : State :=
  let torn := s.thm.torn
  let w := if torn then s.thm.word &&& 0xFF00FFFF#32 else s.thm.word
  (s.put F.THM_SD_WORD_WORD w.toNat).putFlag F.THM_STAT_SD_PEND (torn || fieldOf w 24 8 == 0x5D)

/-- The cause word and its complement are written to FRAM (R313, R314, R316). -/
def State.writeCause (s : State) (w : Word) : State :=
  ({ s with thm := { s.thm with word := w, inv := ~~~w, clearing := false } } : State).showCause

/-- A junction reading is valid: -50 °C to +175 °C, Q8.7. -/
def junctionValid (t : BitVec 16) : Bool := decide (-6400 ≤ t.toInt) && decide (t.toInt ≤ 22400)

/-- Both sensors read valid and below 95.0 °C (R315, R316). -/
def State.junctionsCool (s : State) : Bool :=
  s.thm.ok1 && s.thm.ok2 && decide (s.fldS F.THM_TJ_TJ1 < 12160) && decide (s.fldS F.THM_TJ_TJ2 < 12160)

/-- The higher of two optional temperatures. -/
def hotter (a b : Option Int) : Option Int :=
  match a, b with
  | some x, some y => some (max x y)
  | some x, none => some x
  | none, y => y

/-- The lower of two optional temperatures. -/
def colder (a b : Option Int) : Option Int :=
  match a, b with
  | some x, some y => some (min x y)
  | some x, none => some x
  | none, y => y

/-- The fresh temperature points of the declared strings in the latest snapshot. -/
def State.freshPoints (s : State) : List Int :=
  (List.range 8).flatMap fun p =>
    if s.declared p then
      ((s.declaredPoints p).filter fun h => s.fldSnap (F.SWP_T_STALE h) == 0).map fun h => signed 16 (s.fldSnap (F.SWP_T_TEMP h))
    else []

/-- The hottest valid module NTC of a role (R308). -/
def State.hottestNtc (s : State) (role : Nat) : Option Int :=
  (List.range 8).foldl (fun a k =>
    if s.img 12 (92 + k) 1 == role && s.flag (F.AFE_NTC_VALID k) then hotter a (some (s.fldS (F.AFE_NTC_TEMP k))) else a) none

/-- The four derating sources (R310). -/
def State.derateSource (s : State) (k : Nat) : Option Int :=
  match k with
  | 0 => if s.latest.epoch == 0 then none else s.freshPoints.foldl (fun a t => hotter a (some t)) none
  | 1 => s.hottestNtc 3
  | 2 => s.hottestNtc 2
  | _ => hotter (if s.thm.ok1 then some (s.fldS F.THM_TJ_TJ1) else none) (if s.thm.ok2 then some (s.fldS F.THM_TJ_TJ2) else none)

/-- step_k at a temperature with `hys` times its hysteresis added; a source with no input contributes 0 (R310). Units of 1/1280 K. -/
def State.derateStep (s : State) (k hys : Nat) : Nat :=
  match s.derateSource k with
  | none => 0
  | some t =>
    let x := 10 * t + (hys * 128 * s.fld (F.THM_DR_HYS k) : Nat)
    let start := 10 * s.fldS (F.THM_DR_START k)
    if x < start then 0 else min 16 (1 + ((x - start) / (128 * s.fld (F.THM_DR_STEP k) : Nat)).toNat)

/-- The highest step of the four sources. -/
def State.derateMax (s : State) (hys : Nat) : Nat :=
  (List.range 4).foldl (fun a k => max a (s.derateStep k hys)) 0

/-- The derating step of a round (R310). -/
def State.derate (s : State) : State :=
  let d := s.fld F.THM_STAT_STEP
  let up := s.derateMax 0
  let dn := s.derateMax 1
  let held := s.thm.held + 1
  if d < up then ({ s with thm := { s.thm with held := 0 } } : State).put F.THM_STAT_STEP up |>.event Ev.THM_STEP_UP
  else if dn < d && decide (s.fld F.THM_DR_CFG_DWELL ≤ held) then
    ({ s with thm := { s.thm with held := 0 } } : State).put F.THM_STAT_STEP (d - 1) |>.event Ev.THM_STEP_DOWN
  else { s with thm := { s.thm with held := held } }

/-- The duty of the pump at a temperature, %, its rounding open (R312). -/
def State.pumpDuty (s : State) (t : Int) : Nat :=
  let pm := s.fld F.THM_PUMP_P_MIN
  let t0 := 128 * s.fldS F.THM_PUMP_T0
  let t1 := 128 * s.fldS F.THM_PUMP_T1
  (clampI pm 100 ((pm : Int) + roundOpen ((100 - (pm : Int)) * (t - t0)) (t1 - t0).toNat)).toNat

/-- The coolant outputs of a round under the thermal strategy (R312). Without a source of k = 0 they stay as they are. -/
def State.coolRound (s : State) : State :=
  match s.derateSource 0 with
  | none => { s with thm := { s.thm with chillHeld := s.thm.chillHeld + 1 } }
  | some t =>
    let was := s.flag F.THM_STAT_CHILL
    let want := if 128 * s.fldS F.THM_CHILL_ON ≤ t then true else if t ≤ 128 * s.fldS F.THM_CHILL_OFF then false else was
    let free := decide (10 * s.fld F.THM_CHILL_CH_MIN ≤ s.thm.chillHeld + 1)
    let chill := if want != was && free then want else was
    let t0 := 128 * s.fldS F.THM_PUMP_T0
    let off := decide (t < t0 - (128 * s.fld F.THM_PUMP_HYS : Nat)) || (!s.thm.pumpOn && decide (t < t0))
    let duty := if off then 0 else s.pumpDuty t
    let duty := if chill then max duty (s.fld F.THM_PUMP_P_MIN) else duty
    let s : State := { s with thm := { s.thm with chillHeld := if chill != was then 0 else s.thm.chillHeld + 1, pumpOn := !off } }
    (s.putFlag F.THM_STAT_CHILL chill).put F.THM_STAT_PUMP duty

/-- The thermal contribution at a step (R311, R315). -/
def State.thermalContribution (s : State) : Contribution :=
  let d := if s.causeSet then 16 else s.fld F.THM_STAT_STEP
  let part := fun (x : Nat) => x * (16 - d) * 100
  let strs := List.range 8
  let dis := strs.map fun p => if s.declared p then part (s.fld (F.DSP_S_CAP_DIS p)) else 0
  let chg := strs.map fun p => if s.declared p then part (s.fld (F.DSP_S_CAP_CHG p)) else 0
  { dis, chg
    weight := strs.map fun p => if s.declared p then 0xFFFF else 0
    doc := strs.map fun p => max (dis.getD p 0) (chg.getD p 0) * (100 + s.fld F.DSP_CFG_DOC_PCT) / 100
    pDis := part (s.fld F.DSP_PMAX_DIS)
    pChg := part (s.fld F.DSP_PMAX_CHG)
    step := d
    epoch := 0 }

/-- A temperature field; where no reading exists its value is free (log entry 3). -/
def State.putTemp (s : State) (f : Field) (t : Option Int) : State :=
  match t with
  | some x => s.putS f x
  | none => (s.put f s.free.toNat).took

/-- The readings of a round are shown. -/
def State.showTemps (s : State) : State :=
  let s := s.putTemp F.THM_TCELL_HOT (s.derateSource 0)
  let s := s.putTemp F.THM_TCELL_COLD (if s.latest.epoch == 0 then none else s.freshPoints.foldl (fun a t => colder a (some t)) none)
  let s := s.putTemp F.THM_TNTC_BUS (s.derateSource 1)
  s.putTemp F.THM_TNTC_OUTLET (s.derateSource 2)

/-- One housekeeping round (R309). -/
def State.thermalRound (s : State) : State :=
  let s := s.showTemps.derate
  let s := if s.flag F.THM_STAT_OWNER then s else s.coolRound
  { s with dsp := { s.dsp with stagedT := some s.thermalContribution } }

/-- THM_COOL_CMD sets both outputs while the sequence program owns them (R312). -/
def State.coolCommand (s : State) : State :=
  if s.flag F.THM_STAT_OWNER then
    (s.put F.THM_STAT_PUMP (min 100 (s.fld F.THM_COOL_CMD_PUMP))).put F.THM_STAT_CHILL (s.fld F.THM_COOL_CMD_CHILL)
  else s

/-- SD_ACK (R316): the key is accepted while the cause word is set and both sensors are cool; the FRAM clear begins. -/
def State.sdAck (s : State) (key : Word) : State :=
  if key != 0x5A3C#32 || !s.causeSet then s
  else if s.junctionsCool then { s with thm := { s.thm with clearing := true } }
  else s.event Ev.THM_ACK_REF

/-- SD_ACK (R316). -/
def execSdAck (key : Word) (s : State) : Host.Outcome State Fault Refusal := .next (if s.blockDormant 11 then s else s.sdAck key)

/-- CAUSE_WORD_CLEARED (R316): the FRAM write has completed. -/
def execCauseWordCleared (tc : Tc) (s : State) : Host.Outcome State Fault Refusal :=
  if s.thm.clearing && s.lidHeld then
    .next ((s.writeCause 0).giveInput 60 false tc)
  else .next s

/-- The cause word (R314): MARK 0x5D, the cause, the junction temperature in °C rounded down and saturated at 0 and 255. -/
def causeWord (cause : Nat) (t : Int) : Nat :=
  0x5D000000 + 65536 * cause + 256 * (clampI 0 255 (t / 128)).toNat

end Sys2Proof.Machine
end

