-- ==== Sys2Proof/Machine/Load.lean ====
section
/-! DEFINITION. Load.lean: the container of a structure image (R76 to R81), the content checks of its sections, the load steps (R87), and the distribution of the image fields (R88). -/
namespace Sys2Proof.Machine

open Sys2Proof

/-! Container (R76, R77). -/

/-- n bytes from an offset are 0. -/
def zeros (b : List Byte) (off n : Nat) : Bool := ((b.drop off).take n).all (· == 0#8)

/-- A value lies within a range. -/
def inRange (lo hi x : Nat) : Bool := decide (lo ≤ x) && decide (x ≤ hi)

/-- A directory entry (R77). -/
structure DirEntry where
  typ : Nat
  flags : Nat
  off : Nat
  len : Nat
  crc : Nat
deriving DecidableEq, Repr

/-- The directory of an image. -/
def dirEntries (l : List Byte) : List DirEntry :=
  (List.range (leAt l 16 2)).map fun i =>
    let w := fun (o n : Nat) => leAt l (64 + 16 * i + o) n
    { typ := w 0 2, flags := w 2 2, off := w 4 4, len := w 8 4, crc := w 12 4 }

/-- Image length L (R76). -/
def imageLen (l : List Byte) : Nat := leAt l 8 4

/-- The section types of R74, and those of R75. -/
def knownType (t : Nat) : Bool := inRange 1 12 t || inRange 0x8000 0xFFFF t

/-- The safety-relevant types of R74. -/
def safetyType (t : Nat) : Bool := inRange 2 5 t

/-- The bodies follow each other from an offset without a gap, and end at L (R77). -/
def contiguous (total : Nat) : List DirEntry → Nat → Bool
  | [], off => off == total
  | e :: t, off => e.off == off && e.len % 16 == 0 && contiguous total t (off + e.len)

/-- Header and directory are as R75, R76, R77 and R81 say. -/
def headerOk (l : List Byte) : Bool :=
  let k := leAt l 16 2
  let es := dirEntries l
  leAt l 0 4 == 0x49534850 && leAt l 4 2 == 1 && leAt l 6 2 == 64 && inRange 1 64 k && zeros l 18 2 && leAt l 20 4 == 64 && zeros l 48 16 &&
  decide (imageLen l ≤ 16773024) && l.length == imageLen l + 96 &&
  contiguous (imageLen l) es (64 + 16 * k) &&
  es.all fun e => knownType e.typ && e.flags == (if safetyType e.typ then 1 else 0)

/-- The section bodies, by type. -/
def imageBodies (l : List Byte) : List (Nat × List Byte) :=
  (dirEntries l).map fun e => (e.typ, (l.drop e.off).take e.len)

/-- The product code is the module's, and the firmware is new enough (R87 step 5). -/
def targetOk (l : List Byte) (version : Nat) : Bool := leAt l 44 4 == 0x4096 && decide (leAt l 40 4 ≤ version)

/-- Every body's CRC-32C (R77). -/
def crcsOk (l : List Byte) : Bool := (dirEntries l).all fun e => (crc32c ((l.drop e.off).take e.len)).toNat == e.crc

/-- Structure and safety check values (R79). -/
def structCheck (secs : List (Nat × List Byte)) : Word := crc32c (secs.flatMap (·.2))
def safetyCheck (secs : List (Nat × List Byte)) : Word := crc32c (([2, 3, 4, 5] : List Nat).flatMap (sectionOf secs))

/-- The check values in the header are those of the bodies. -/
def valuesOk (l : List Byte) : Bool :=
  let secs := imageBodies l
  (structCheck secs).toNat == leAt l 24 4 && (safetyCheck secs).toNat == leAt l 28 4

/-- The required sections are present (R74). -/
def requiredOk (secs : List (Nat × List Byte)) : Bool :=
  ([1, 2, 3, 4, 5, 6, 8, 10, 11, 12] : List Nat).all fun t => secs.any fun e => e.1 == t

/-! Distribution of the image fields (R88). -/

/-- Dormancy that follows from the image in effect (R60). -/
def State.showDormant (s : State) : State :=
  let none_ := (List.range 8).all fun n => !s.declared n
  let can := fun (c : Nat) => !s.canUsed c
  let s := s.putBit F.INF_DORMANT_BLK 4 none_
  let s := ([5, 6, 10, 11, 16, 18, 19] : List Nat).foldl (fun s b => s.putBit F.INF_DORMANT_BLK b false) s
  let s := (s.putBit F.INF_DORMANT_BLK 9 (!s.hasSec 7)).putBit F.INF_DORMANT_BLK 14 (!s.hasSec 9)
  let s := s.putBit F.INF_DORMANT_BLK 15 (can 0 && can 1)
  let s := forUpTo 8 (fun n s => s.putBit F.INF_DORMANT_UNIT_PORT n (!s.declared n)) s
  (s.putFlag F.INF_DORMANT_UNIT_CAN0 (can 0)).putFlag F.INF_DORMANT_UNIT_CAN1 (can 1)

/-- Section 0x0006 becomes the phase base's objects (R511). -/
def State.phbLoad (s : State) : State :=
  let w := fun (o n : Nat) => BitVec.ofNat 32 (s.img 6 o n)
  ((((s.wr 0x30040 (w 0 1)).wr 0x30044 (w 4 4)).wr 0x30048 (w 8 4)).wr 0x3004c (w 12 4)).wr 0x30050 (w 16 4) |>.wr 0x30054 (w 20 4)

/-- Section 0x0008 becomes the estimation engine's string objects (R205). -/
def State.estLoad (s : State) : State :=
  forUpTo 8 (fun n s =>
    let w := fun (o k : Nat) => s.img 8 (4 + 16 * n + o) k
    ((s.put (F.EST_STR_A_TABLE n) (w 0 1)).put (F.EST_STR_A_R_BLEED n) (w 2 2)).put (F.EST_STR_Z_Z_REF n) (w 4 4)) s

/-- The AFE's types and the mains enable (R431, R436). -/
def State.afeLoad (s : State) : State :=
  let s := forUpTo 8 (fun n s => s.put (F.AFE_S_CFG_TYPE n) (s.senseType n)) s
  s.putFlag F.AFE_MAINS_EN (s.fld F.PHB_SRC_SOURCE == 2)

/-- The image fields of the control engine, from the loop graph (R271, R291). -/
def State.cteFields (s : State) : State :=
  if s.hasSec 7 then
    let g := Config.loopGraph (s.sec 7)
    let s := s.put F.CTE_SCALE_I_FS (fieldOf (g 0x9000c) 0 16)
    let s := forUpTo 8 (fun n s => s.put ⟨(F.CTE_TRIM_SEL_MODE n).addr, 19, 12⟩ (fieldOf (g (0x90208 + 0x40 * n)) 19 12)) s
    forUpTo 32 (fun n s => s.wr (0x91004 + 0x100 * n) (g (0x91004 + 0x100 * n) &&& 0xFFFFFFE0#32)) s
  else s

/-- The program's image fields (R365, R368, R379). -/
def State.seqFields (s : State) : State :=
  if s.hasSec 9 then
    let p := Config.seqProgram (s.sec 9)
    ((s.put F.SEQ_CFG_CYCLE p.cycle).put F.SEQ_CFG_WDT p.wdt).put F.SEQ_PROG_CV_CV p.cv.toNat
  else s

/-- Fields marked image that share an object with RWS fields and lie in no other section: they come with the initial value of the whole object (R84, log entry 63). -/
def wholeMask (a : Nat) : Word :=
  if a == 0xd0004 then 0x000000F1#32 else if a == 0x14000c then 0x00000100#32 else 0#32

/-- The initial values of section 0x000B go to the objects that the image declares (R5, R84, R86). -/
def State.liveLoad (s : State) : State :=
  let s := (liveEntries (s.sec 11)).foldl (fun s e =>
    if s.declaredObj e.addr then
      let m := BitVec.ofNat 32 (rwsMask e.addr) ||| wholeMask e.addr
      s.wr e.addr ((s.rd e.addr &&& ~~~m) ||| (e.init &&& m))
    else s) s
  s.put F.LAN_CFG_PL_MIN (Config.plMin s.cfg.sections).toNat

/-- Start values of the block enables; a value for a dormant block is ignored (R509). -/
def State.startValues (s : State) : State :=
  let b := fun (o i : Nat) => (s.img 1 o 1).testBit i
  let s := if s.blockDormant 18 then s else (s.putFlag F.AFE_CTRL_EN (b 48 0)).putFlag F.AFE_CTRL_LP (b 48 1)
  let s := if s.blockDormant 5 then s else
    ((s.putFlag F.SWP_CTRL_EN (b 49 0)).putFlag F.SWP_CTRL_DIAG_EN (b 49 1)).putFlag F.SWP_CTRL_BURST_EN (b 49 2)
  let s := if s.blockDormant 6 then s else s.putFlag F.EST_CTRL_EN (b 50 0)
  let s := if s.blockDormant 9 then s else s.putFlag F.CTE_CTRL_EN (b 50 1)
  if s.blockDormant 14 then s else s.putFlag F.SEQ_CTRL_EN (b 50 2)

/-- Every image field but the island's and the networks', which have operations of their own (R88). -/
def State.imageFields (s : State) : State :=
  let s := (s.showDormant.phbLoad).estLoad.afeLoad.cteFields.seqFields
  (s.putFlag F.THM_STAT_OWNER ((s.img 12 102 1).testBit 1)).liveLoad

/-! Content checks (R87 step 9). -/

/-- Section 0x0001 (R509). -/
def content1 (b : List Byte) : Bool :=
  b.length == 64 && zeros b 40 8 && decide (leAt b 48 1 < 4) && decide (leAt b 49 1 < 8) && decide (leAt b 50 1 < 8) && zeros b 51 13

/-- The set bits of a number below 2^16. -/
def bits16 (n : Nat) : Nat := ((List.range 16).filter n.testBit).length

/-- The declared cells of a string of the bank declaration. -/
def bankCellCount (b : List Byte) (n : Nat) : Nat := (List.range (bankCount b n)).foldl (fun a m => a + bits16 (bankCells b n m)) 0

/-- Section 0x0002 (R82, R83), its padding 0 (R77); the overvoltage threshold comes from section 0x0004. Reserved bits of a section are judged only where its rule says so (log entry 186). -/
def content2 (b p : List Byte) : Bool :=
  b.length == 1136 && zeros b 1124 12 && (List.range 8).all fun n =>
    let k := bankCount b n
    decide (k ≤ 32) && (bankDeclared b n == decide (1 ≤ k)) &&
    ((List.range k).all fun m => bankCells b n m != 0) &&
    zeros b (4 + 140 * n + 12 + 4 * k) (4 * (32 - k)) &&
    (k == 0 || bankCapacity b n != 0) &&
    decide (bankCellCount b n * (leAt p (64 * n + 20) 4 % 2 ^ 18) ≤ 80000000)

/-- A strictly rising list. -/
def risingI : List Int → Bool
  | a :: b :: t => decide (a < b) && risingI (b :: t)
  | _ => true

/-- A cell NTC table: codes rise; temperatures rise or fall (R508). -/
def ntcTableOk (b : List Byte) (t : Nat) : Bool :=
  let ps := (List.range 32).map (ntcPoint b t)
  let ts := ps.map (·.2)
  risingI (ps.map fun p => (p.1 : Int)) && (risingI ts || risingI (ts.map (- ·)))

/-- Section 0x0003 (R436, R508, R201) of an image whose bodies are in effect in a state. -/
def State.content3 (s : State) : Bool :=
  let b := s.sec 3
  let kn := leAt b 192 1
  b.length == 4864 && inRange 1 4 kn && zeros b 193 7 && zeros b 208 48 &&
  ((List.range 8).all fun n =>
    if s.declared n then
      inRange 1 2 (s.senseType n) && decide (s.img 3 (16 * n + 1) 1 ≤ 1) && zeros b (16 * n + 2) 2 && s.senseScale n != 0 && zeros b (16 * n + 12) 4 &&
      (s.senseType n != 1 || s.fld (F.AFE_S_CFG_GAIN n) == 0) && decide (leAt b (200 + n) 1 < kn)
    else zeros b (16 * n) 16 && leAt b (200 + n) 1 == 0) &&
  ((List.range 8).all fun k => zeros b (128 + 8 * k + 4) 4) &&
  ((List.range 4).all fun t => if t < kn then ntcTableOk b t else zeros b (256 + 128 * t) 128) &&
  (List.range 4096).all fun g =>
    let p := leAt b (768 + g) 1
    if s.cellDeclared (strOf g) (monOf g) (celOf g) then (s.ntcMask (strOf g) (p / 8)).testBit (p % 8) else p == 0

/-- The levels of a declared string satisfy 0 < FOC ≤ OC ≤ SC for each polarity (R250). -/
def State.levelsOk (s : State) (n : Nat) : Bool :=
  ([0, 2] : List Nat).all fun o =>
    let sc := s.prtStr n o 2
    let oc := s.prtStr n (4 + o) 2
    let foc := s.prtStr n (8 + o) 2
    decide (0 < foc) && decide (foc ≤ oc) && decide (oc ≤ sc)

/-- A declared string's record of section 0x0004 (R249, R250). -/
def State.stringRecordOk (s : State) (n : Nat) : Bool :=
  let r := s.prtStr n
  inRange 10 200 (r 12 2) && inRange 10 200 (r 16 2) && inRange 1 100 (r 34 2) && inRange 1 100 (r 36 2) && inRange 10 10000 (r 38 2) && inRange 100 30000 (r 40 2) &&
  s.levelsOk n && decide (r 24 4 % 2 ^ 18 < r 20 4 % 2 ^ 18) && decide (signed 16 (r 30 2) < signed 16 (r 28 2)) && decide (r 38 2 < r 40 2)

/-- Driver k is used as the bank declaration says; an auxiliary driver is used or not (R250). -/
def State.driverUse (s : State) (k : Nat) : Option Bool :=
  if 24 ≤ k then none else some (s.declared (k / 3) && (k % 3 != 2 || s.hasPrecharge (k / 3)))

/-- A driver record (R249, R250). -/
def State.driverRecordOk (s : State) (k : Nat) : Bool :=
  let r := s.prtDrv k
  let used := (r 0 1).testBit 0
  (match s.driverUse k with
    | some u => u == used
    | none => true) &&
  (if used then inRange 10 500 (r 2 2) && inRange 30 320 (r 4 2) && inRange 1 50 (r 6 1) && inRange 1 50 (r 7 1)
   else zeros (s.sec 4) (512 + 8 * k) 8)

/-- The bank record (R249, R250). -/
def State.bankRecordOk (s : State) : Bool :=
  let r := s.prtBank
  decide (r 0 1 % 4 < 3) && decide (r 1 1 ≤ 31) && inRange 100 2000 (r 2 2) && decide (r 6 2 ≤ r 4 2) && inRange 20 1000 (r 8 2) && inRange 5 100 (r 10 1) &&
  inRange 1 20 (r 11 1) && inRange 80 200 (r 12 2) && inRange 20 2000 (r 14 2) && inRange 1 255 (r 16 1) && inRange 1 255 (r 17 1) &&
  decide (r 18 1 ≤ 15) && inRange 1 255 (r 19 1)

/-- Section 0x0004 (R249, R250). -/
def State.content4 (s : State) : Bool :=
  (s.sec 4).length == 992 &&
  ((List.range 8).all fun n =>
    (s.outMask n).getLsbD n && (s.outMask n).getLsbD (8 + n) &&
    (if s.declared n then s.stringRecordOk n else zeros (s.sec 4) (64 * n) 64)) &&
  ((List.range 16).all fun i => s.latchClass.getLsbD i) &&
  ((List.range 28).all s.driverRecordOk) && s.bankRecordOk

/-- A source code of a safety function names a used source (R336). -/
def State.sourceOk (s : State) (c : Nat) : Bool :=
  c == 0 || (inRange 0x10 0x15 c && (s.siFlags (c - 0x10)).testBit 0) ||
  (decide (0x80 ≤ c) && (s.rxField ((c - 0x80) / 32) 4 4).testBit 30)

/-- A list without a repeat. -/
def distinctN : List Nat → Bool
  | [] => true
  | a :: t => !t.contains a && distinctN t

/-- The identifiers of the used connections, RX and TX: connection identifiers, and CAN1 identifiers with their extended bits (R336). -/
def State.usedConns (s : State) : List (Nat × Nat) :=
  let rx := (List.range 4).filterMap fun c => if (s.rxField c 4 4).testBit 30 then some (s.rxField c 0 4, s.rxField c 4 4 % 2 ^ 30) else none
  if (s.txField 4 4).testBit 30 then rx ++ [(s.txField 0 4, s.txField 4 4 % 2 ^ 30)] else rx

/-- The longest lane restore time, in ms (R354). -/
def laneRestoreMs : Nat := 8

/-- Section 0x0005 (R336): ranges and kinds of every input and connection, used or not. -/
def State.content5 (s : State) : Bool :=
  (s.sec 5).length == 272 &&
  ((List.range 6).all fun k =>
    let f := s.siFlags k
    inRange 10 2000 (s.siDiscT k) && !(f.testBit 1 && f.testBit 2)) &&
  ((List.range 16).all fun f =>
    let g := s.fnFlags f
    let src := (List.range 4).map (s.fnSource f)
    src.all s.sourceOk && (!(g.testBit 0) || (src.any (· != 0) && (g.testBit 1 || g.testBit 2)))) &&
  ((List.range 4).all fun c => inRange 10 1000 (s.rxField c 8 2) && inRange 1 20 (s.rxField c 10 1) && decide (s.rxField c 11 1 ≤ 15)) &&
  inRange 5 100 (s.txField 8 2) &&
  distinctN (s.usedConns.map (·.1)) && distinctN (s.usedConns.map (·.2)) &&
  inRange 5 100 s.sdRen && inRange 1 3600 s.testMax && inRange 50 500 s.testPulse && decide (4 + laneRestoreMs ≤ s.sdRen)

/-- A tenth of a percentage of the nominal, to the mHz (R110). -/
def nearTenths (f nom t : Nat) : Bool := decide (t * nom < 10 * f + 10) && decide (10 * f < t * nom + 10)

/-- The lock range of the selected source (R110). -/
def lockRangeOk (src nom lo hi : Nat) : Bool :=
  match src with
  | 0 => true
  | 1 => inRange 1000000 50000000 nom && nearTenths lo nom 9 && nearTenths hi nom 11
  | 2 => (nom == 50000 || nom == 60000) && lo == 45000 && hi == 66000
  | 3 => decide (10000 ≤ lo) && decide (lo ≤ hi) && decide (hi ≤ 10000000) && decide (hi ≤ 4 * lo)
  | 4 => decide (10000 ≤ lo) && decide (lo ≤ hi) && decide (hi ≤ 5000000) && decide (hi ≤ 4 * lo)
  | _ => false

/-- Section 0x0006 (R110, R497, R511). -/
def content6 (b : List Byte) : Bool :=
  let src := leAt b 0 1 % 8
  let hi := leAt b 12 4
  let enc := leAt b 20 4
  b.length == 64 && lockRangeOk src (leAt b 4 4) (leAt b 8 4) hi && inRange 1000 50000000 (leAt b 16 4) &&
  (if src == 3 then inRange 16 65536 enc && decide (hi * enc ≤ 20000000 * 1000) else enc == 0) && inRange 1 50 (leAt b 24 2)

/-- OCV table t of section 0x0008 (R205). -/
def ocvTableOk (b : List Byte) (t : Nat) : Bool :=
  let base := 176 + 560 * t
  let nt := leAt b base 1
  let axis := (List.range 8).map fun j => signed 16 (leAt b (base + 4 + 2 * j) 2)
  inRange 2 8 nt && risingI (axis.take nt) && ((axis.take nt).all fun x => decide (-40 * 128 ≤ x) && decide (x ≤ 85 * 128)) && ((axis.drop nt).all (· == 0)) &&
  (List.range nt).all fun j => risingI ((List.range 33).map fun k => (leAt b (base + 20 + 2 * (33 * j + k)) 2 : Int))

/-- Section 0x0008 (R205). -/
def State.content8 (s : State) : Bool :=
  let b := s.sec 8
  let k := leAt b 0 1
  inRange 1 4 k && decide (176 + 560 * k ≤ b.length) &&
  ((List.range 8).all fun n =>
    if s.declared n then decide (leAt b (4 + 16 * n) 1 < k) && inRange 1000 10000 (leAt b (6 + 16 * n) 2) else zeros b (4 + 16 * n) 16) &&
  risingI ((List.range 8).map fun i => signed 16 (leAt b (132 + 2 * i) 2)) && (List.range k).all (ocvTableOk b)

/-- A word keeps the map of the object it is copied to: no bit outside its fields, each field within its range (R510). -/
def copyOk (a v : Nat) : Bool :=
  match objRowAt a with
  | some r => BitVec.ofNat 32 v &&& ~~~(BitVec.ofNat 32 r.fieldMask) == 0 && decide (v < 2 ^ 32) &&
      r.fields.all fun f => inRange f.least f.greatest (v / 2 ^ f.lo % 2 ^ f.w)
  | none => false

/-- The bit timing of an instantiated channel (R384). -/
def timingOk (nbt dbt : Nat) : Bool :=
  let f := fun (v lo w : Nat) => v / 2 ^ lo % 2 ^ w + 1
  let nt1 := f nbt 8 8
  let nt2 := f nbt 16 7
  let dt1 := f dbt 8 5
  let dt2 := f dbt 16 4
  let nq := 1 + nt1 + nt2
  let dq := 1 + dt1 + dt2
  let nc := f nbt 0 8 * nq
  let dc := f dbt 0 5 * dq
  inRange 8 385 nq && inRange 5 49 dq && decide (f nbt 23 7 ≤ nt2) && decide (f dbt 24 4 ≤ dt2) &&
  inRange 80 640 nc && inRange 10 nc dc && (decide (80 ≤ dc) || (dbt.testBit 29 && decide (f dbt 0 5 ≤ 2)))

/-- The record of a channel, instantiated or not; the timing and transmitter conditions are those of an instantiated one (R384, R510). -/
def channelOk (b : List Byte) (c : Nat) : Bool :=
  let r := fun (o n : Nat) => leAt b (128 * c + o) n
  let reg := fun (o x : Nat) => copyOk (0xf0000 + 0x4000 * c + o) x
  (!((r 10 1).testBit 0) || timingOk (r 0 4) (r 4 4)) &&
  reg 0x08 (r 0 4) && reg 0x0c (r 4 4) && reg 0x14 (r 9 1 % 128) && reg 0x40 (r 12 4) &&
  (!(r 12 1).testBit 0 || (inRange 1 255 (r 13 1) && inRange 1 8 (r 12 1 / 16))) &&
  reg 0x44 (r 16 4) && reg 0x60 (r 20 4) && reg 0x64 (r 24 4) && reg 0x68 (r 28 4) &&
  (if c = 0 then decide (r 40 4 < 2 ^ 30) else r 40 4 == 0)

/-- A receive object of section 0x000A: its configuration word and its use. -/
def rxConfig (b : List Byte) (c k : Nat) : Nat × Nat := (leAt b (256 + 512 * c + 8 * k) 4, leAt b (260 + 512 * c + 8 * k) 1)

/-- The receive objects of a channel: uses by channel, no identifier twice, exactly one request object on an instantiated CAN0 (R386, R510). -/
def rxOk (b : List Byte) (c : Nat) : Bool :=
  let rs := (List.range 64).map (rxConfig b c)
  let used := rs.filter fun r => r.1.testBit 30
  (used.all fun r => decide (r.1 < 2 ^ 31) && (r.2 == 0 || (c == 0 && r.2 == 1) || (c == 1 && (r.2 == 2 || r.2 == 3)))) &&
  distinctN (used.map fun r => r.1 % 2 ^ 30) &&
  (c == 1 || !(leAt b 10 1).testBit 0 || (used.filter fun r => r.2 == 1).length == 1)

/-- Grant records from i on, rising without overlap: `n` of them, the last address of the record before (R510). -/
def grantsOk (b : List Byte) : Nat → Nat → Option Nat → Bool
  | 0, _, _ => true
  | n + 1, i, prev =>
    let lo := leAt b (1352 + 12 * i) 4
    let hi := leAt b (1356 + 12 * i) 4
    lo % 4 == 0 && hi % 4 == 0 && decide (lo ≤ hi) &&
    (match prev with
      | some p => decide (p < lo)
      | none => true) && grantsOk b n (i + 1) (some hi)

/-- Section 0x000A (R384, R386, R510); the body ends with the last grant record and its padding of 0 (R77). -/
def content10 (b : List Byte) : Bool :=
  let gc := leAt b 1344 2
  let ge := leAt b 1346 2
  channelOk b 0 && channelOk b 1 && rxOk b 0 && rxOk b 1 && copyOk 0x100000 (leAt b 1280 4) && copyOk 0x100020 (leAt b 1296 4) &&
  leAt b 1300 4 &&& 0x7F00FFFF == 0 && inRange 1024 65535 (leAt b 1304 2) &&
  decide (gc ≤ 128) && decide (ge ≤ 128) && b.length == (1352 + 12 * (gc + ge) + 15) / 16 * 16 && zeros b (1352 + 12 * (gc + ge)) 16 &&
  grantsOk b gc 0 none && grantsOk b ge gc none

/-- Section 0x000B: entries name RWS objects of blocks that are not dormant; initial values agree, lie within bounds and ranges, and meet every relation and capacity; every RWS object of such a block has an entry (R84, R85, R102). -/
def State.content11 (s : State) : Bool :=
  let es := liveEntries (s.sec 11)
  let addrs := es.map (·.addr)
  let get := fun (a : Nat) => match es.find? fun e => e.addr == a with
    | some e => e.init
    | none => 0#32
  (es.all fun e => rwsMask e.addr != 0 && !s.blockDormant (e.addr / 0x10000) && e.init == get e.addr && e.within e.init) &&
  ((rwsAddrs.filter fun a => !s.blockDormant (a / 0x10000)).all fun a => addrs.contains a) &&
  (addrs.all fun a => (rangeBad get a).isEmpty) &&
  ((s.relations s.rd).all (·.2)) && (s.capacities s.rd).all (·.2)

/-- Section 0x000C (R308). -/
def State.content12 (s : State) : Bool :=
  let b := s.sec 12
  b.length == 128 && ((List.range 4).all fun i => inRange 4096 61440 (leAt b (2 * i) 2)) && inRange 60 3600 (leAt b 8 2) &&
  ((List.range 8).all fun n => !s.declared n || leAt b (12 + 4 * n) 4 != 0) &&
  risingI ((List.range 8).map fun i => signed 16 (leAt b (44 + 6 * i) 2)) &&
  ((List.range 8).all fun i => decide (leAt b (46 + 6 * i) 2 ≤ 32768) && decide (leAt b (48 + 6 * i) 2 ≤ 32768)) &&
  ((List.range 8).all fun k => decide (leAt b (92 + k) 1 ≤ 3)) && inRange 100 2000 (leAt b 100 2) && decide (leAt b 102 1 < 4)

/-- The loop graph's selectors: a selected slot names its trimmer, and the string has one (R291). -/
def State.content7 (s : State) : Bool :=
  !s.hasSec 7 ||
  ((List.range 8).all fun n =>
    let present := s.declared n && s.hasTrimmer n
    let names := fun (l : Nat) => s.flag (F.CTE_L_IO_OTGT l) && s.fld (F.CTE_L_IO_OSTR l) == n
    !present || (names (s.fld (F.CTE_TRIM_SEL_SLOT_A n)) && (s.fld (F.CTE_TRIM_SEL_MODE n) == 0 || names (s.fld (F.CTE_TRIM_SEL_SLOT_B n))))) &&
  (List.range 32).all fun l => !s.flag (F.CTE_L_IO_OTGT l) ||
    (s.declared (s.fld (F.CTE_L_IO_OSTR l)) && s.hasTrimmer (s.fld (F.CTE_L_IO_OSTR l)))

/-- The identifiers a program's stations use: OUT and IN frames (R370). -/
def rioIds (p : SeqProgram) : List Nat := p.stations.flatMap fun x => [p.rioBase + 1 + x.index, p.rioBase + 0x11 + x.index]

/-- The limits of R381. -/
def programLimits (p : SeqProgram) : Bool :=
  decide (p.codeBytes ≤ 1048576) && decide (p.imageBytes ≤ 163840) && decide ((p.vars.filter fun v => v.binding.isSome).length ≤ 2048) &&
  inRange 1 100 p.cycle && inRange 2 8 p.wdt && decide (p.stations.length ≤ 16) &&
  (p.stations.all fun x => decide (x.index < 16) && decide (x.nIn ≤ 62) && decide (x.nOut ≤ 62)) &&
  (p.cyclic.all fun t => decide (t.1 < 8)) && p.events.all fun t => decide (t < 8)

/-- The frames of all stations take at most 30 % of the program cycle (R370); the time of a frame at the channel's bit timing is open (log entry 64). -/
def State.rioLoadOk (s : State) (p : SeqProgram) : Bool :=
  let t := fun (n : Nat) => Config.frameTime (s.img 10 128 4) (s.img 10 132 4) (n + 2)
  decide (10 * (p.stations.foldl (fun a x => a + t x.nIn + t x.nOut) 0) ≤ 3 * p.cycle * 1000000)

/-- Section 0x0009 (R370, R381). -/
def State.content9 (s : State) : Bool :=
  !s.hasSec 9 ||
  (let p := Config.seqProgram (s.sec 9)
   programLimits p && distinctN (rioIds p ++ s.usedConns.map fun c => c.2) && (p.stations.isEmpty || s.canUsed 1) && s.rioLoadOk p)

/-- The state in which the checks of an image are made: right after reset, with its bodies in effect and its fields distributed. -/
def candidate (secs : List (Nat × List Byte)) : State :=
  ({ State.reset with cfg := { Cfg.reset with sections := secs } } : State).imageFields

/-- Every content check (R87 step 9). -/
def contentOk (secs : List (Nat × List Byte)) : Bool :=
  let s := candidate secs
  content1 (s.sec 1) && content2 (s.sec 2) (s.sec 4) && s.content3 && s.content4 && s.content5 && content6 (s.sec 6) && s.content7 && s.content8 &&
  s.content9 && content10 (s.sec 10) && s.content11 && s.content12

/-! Load steps (R87). -/

/-- Steps 4 to 9 on the stored form of an image: 0, or the code of the first that fails. -/
def imageCode (l : List Byte) (version : Nat) : Nat :=
  if !headerOk l then 0x04
  else if !targetOk l version then 0x05
  else if !crcsOk l then 0x06
  else if !valuesOk l then 0x07
  else if !requiredOk (imageBodies l) then 0x08
  else if !contentOk (imageBodies l) then 0x09
  else 0

/-- The version of the running firmware (R480). -/
def State.runningVersion (s : State) : Nat :=
  if s.flag (F.UPD_FW_STAT_RUNNING 1) then s.fld (F.UPD_FW_VER_VALUE 1) else s.fld (F.UPD_FW_VER_VALUE 0)

/-- The code of an attempt to load a slot: 0 where every step passes. Without the storage key a slot cannot be decrypted, without the image-signing key no signature verifies (R472, R485). -/
def State.loadCode (s : State) (k : Nat) (x : LoadCheck) : Nat :=
  if s.fld (F.CFG_SLOT_STAT_STATE k) != 2 then 0x01
  else if !x.read then 0x0A
  else if !x.tag || !s.bit F.UPD_KS_STAT_KEYS 4 then 0x02
  else if !x.signed || !s.bit F.UPD_KS_STAT_KEYS 0 then 0x03
  else imageCode (s.cfg.slots.getD k []) s.runningVersion

/-- A failed attempt is stored in CFG_STAT.LOAD_ERR and in the slot's ERR field (R87). -/
def State.loadFailed (s : State) (k c : Nat) : State := (s.put F.CFG_STAT_LOAD_ERR c).put (F.CFG_SLOT_STAT_ERR k) c

end Sys2Proof.Machine
end

