-- ==== Sys2Proof/Machine/Upd.lean ====
section
/-! DEFINITION. Upd.lean: service sessions, transfers, firmware slots and the boot record (R472 to R488). -/
namespace Sys2Proof.Machine

open Sys2Proof

/-! Sessions (R473, R474). -/

/-- Slot and area states (CFG_SLOTk_STAT.STATE, R91). -/
def slEmpty : Nat := 0
def slWriting : Nat := 1
def slVerified : Nat := 2
def slInvalid : Nat := 3

/-- The object access service and the transfer port answer: the service runs and the Lid holder's firmware is in charge (R53, R72). -/
def State.serviceUp (s : State) : Bool := s.obj.running && s.stagingOpen

/-- The key store holds the service key (R472). -/
def State.serviceKey (s : State) : Bool := s.bit F.UPD_KS_STAT_KEYS 2

/-- A session is open and belongs to the source (R474). -/
def State.owns (s : State) (src : BitVec 48) : Bool :=
  match s.upd.session with
  | some x => x.owner == src
  | none => false

/-- UPD_SVC_NONCE takes a new random value (R473; log entry 3). -/
def State.svcNonce (s : State) : State := (s.put F.UPD_SVC_NONCE_VALUE s.free.toNat).took

/-- The first 32 bytes of the session token. -/
def State.authToken (s : State) : List Byte := (List.range 8).flatMap fun k => bytesLe 4 (s.fld (F.UPD_AUTH_BYTES k))

/-- The first refusal that applies to an opening; 0 for none (R473). `signed` says that the token's signature verifies. -/
def State.authRefusal (s : State) (signed : Bool) : Nat :=
  let t := s.authToken
  if leAt t 0 2 != 0x5353 || !inRange 1 480 (leAt t 2 2) then 1
  else if leAt t 4 4 != s.fld F.UPD_SVC_NONCE_VALUE then 2
  else if leAt t 8 6 != s.fld F.ETH_MAC_LO_VALUE + 2 ^ 32 * s.fld F.ETH_MAC_HI_VALUE then 3
  else if !signed then 4
  else if s.upd.session.isSome then 5
  else if !s.serviceKey then 6
  else 0

/-- A number of minutes in ticks. -/
def minTicks (n : Nat) : Nat := 15000000000 * n

/-- The minutes that a session has left are shown, their rounding open (R474). -/
def State.showSession (s : State) (tc : Tc) : State :=
  match s.upd.session with
  | some x => s.put F.UPD_AUTH_STAT_MINUTES (roundOpen ((x.endTc - tc).toNat : Nat) 15000000000).toNat
  | none => s.put F.UPD_AUTH_STAT_MINUTES 0

/-- A write of the open key (R473). -/
def State.sessionOpen (s : State) (src : BitVec 48) (signed : Bool) (tc : Tc) : State :=
  let c := s.authRefusal signed
  if c ≠ 0 then ((s.put F.UPD_AUTH_STAT_REFUSE c).event Ev.UPD_AUTH_FAIL).svcNonce
  else
    let x : Session := { owner := src, endTc := tc + BitVec.ofNat 64 (minTicks (leAt s.authToken 2 2)), lastTc := tc }
    let s : State := { s with upd := { s.upd with session := some x } }
    ((s.put F.UPD_STAT_SESSION 1).showSession tc).svcNonce

/-! Transfer targets. -/

/-- The state of a transfer target: 0 firmware slot, 1 image slot, 2 program change area (R476). -/
def State.targetState (s : State) (target k : Nat) : Nat :=
  match target with
  | 0 => s.fld (F.UPD_FW_STAT_STATE k)
  | 1 => s.fld (F.CFG_SLOT_STAT_STATE k)
  | 2 => s.upd.areaState
  | _ => slEmpty

/-- Give a target a state; a provisioning bundle has none. -/
def State.putTarget (s : State) (target k st : Nat) : State :=
  match target with
  | 0 => s.put (F.UPD_FW_STAT_STATE k) st
  | 1 => s.put (F.CFG_SLOT_STAT_STATE k) st
  | 2 => { s with upd := { s.upd with areaState := st } }
  | _ => s

/-- Give a target its content; a new image erases the slot's confirmation record (R94, R476). -/
def State.putContent (s : State) (target k : Nat) (l : List Byte) : State :=
  match target with
  | 0 => { s with upd := { s.upd with fw := setAt s.upd.fw k l } }
  | 1 =>
    let s : State := { s with cfg := { s.cfg with slots := setAt s.cfg.slots k l, confirms := setAt s.cfg.confirms k none } }
    (s.put (F.CFG_SLOT_STAT_CONFIRMED k) 0).put (F.CFG_SLOT_ID_SERIAL k) (leAt l 12 4)
  | 2 => { s with upd := { s.upd with area := l } }
  | _ => s

/-- A transfer's result is shown; a firmware slot keeps its own (UPD_FWk_STAT). -/
def State.putResultOf (s : State) (x : Xfer) (c : Nat) : State :=
  let s := s.put F.UPD_XFER_STAT_RESULT c
  if x.target = 0 then s.put (F.UPD_FW_STAT_RESULT x.slot) c else s

/-- No transfer is open. -/
def State.closeXfer (s : State) : State :=
  (({ s with upd := { s.upd with xfer := none } } : State).put F.UPD_STAT_XFER 0).put F.UPD_XFER_STAT_STATE 0

/-- A transfer ends aborted (R479). -/
def State.abortXfer (s : State) : State :=
  match s.upd.xfer with
  | some x => ((s.putTarget x.target x.slot slInvalid).putResultOf x 0x0B).closeXfer
  | none => s

/-- A session ends; a transfer within it is aborted (R474). A provisioning transfer without a session is not of it. -/
def State.sessionEnd (s : State) : State :=
  if s.upd.session.isSome then
    let s := s.abortXfer
    (({ s with upd := { s.upd with session := none } } : State).put F.UPD_STAT_SESSION 0).put F.UPD_AUTH_STAT_MINUTES 0
  else s

/-- The control step of a takeover ends the session; a target stays WRITING until the new lane marks it (R356, R474, R479). -/
def State.updWithdraw (s : State) : State :=
  let s := s.closeXfer
  (({ s with upd := { s.upd with session := none } } : State).put F.UPD_STAT_SESSION 0).put F.UPD_AUTH_STAT_MINUTES 0

/-- Every target found WRITING is marked INVALID (R356, R479). -/
def State.invalidateWriting (s : State) : State :=
  let mark := fun (target k : Nat) (s : State) => if s.targetState target k = slWriting then s.putTarget target k slInvalid else s
  mark 2 0 (forUpTo 4 (mark 1) (forUpTo 2 (mark 0) s))

/-- A write of the close key (R474). -/
def State.sessionClose (s : State) (key : Word) : State := if key == 0xC105#32 then s.sessionEnd else s

/-- A write of UPD_AUTH_CTRL (R473, R474). -/
def State.authCtrl (s : State) (src : BitVec 48) (key : Word) (signed : Bool) (tc : Tc) : State :=
  if key == 0xA071#32 then s.sessionOpen src signed tc else s.sessionClose key

/-- SESSION_OPEN (R473). -/
def execSessionOpen (src : BitVec 48) (key : Word) (signed : Bool) (tc : Tc) (s : State) : Host.Outcome State Fault Refusal :=
  .next (if s.serviceUp && key == 0xA071#32 then s.sessionOpen src signed tc else s)

/-- SESSION_CLOSE (R474). -/
def execSessionClose (key : Word) (s : State) : Host.Outcome State Fault Refusal :=
  .next (if s.serviceUp then s.sessionClose key else s)

/-- SESSION_TIMEOUT (R474): the end of the validity, or 10 min without a request from the owner. -/
def execSessionTimeout (tc : Tc) (s : State) : Host.Outcome State Fault Refusal :=
  match s.upd.session with
  | some x => .next (if decide (x.endTc.toNat ≤ tc.toNat) || passed tc x.lastTc (minTicks 10) then s.sessionEnd else s)
  | none => .next s

/-! Transfers (R476, R477, R479). -/

/-- A transfer to a target may be commanded: within a session, or a bundle while the key store holds no service key (R474). -/
def State.mayTransfer (s : State) (target : Nat) : Bool := s.upd.session.isSome || (!s.serviceKey && target == 3)

/-- The slot is refused (R91, R476, R482, R486). -/
def State.slotRefused (s : State) (target k : Nat) : Bool :=
  match target with
  | 0 => decide (2 ≤ k) || s.flag (F.UPD_FW_STAT_RUNNING k) || s.flag (F.UPD_FW_STAT_TRIAL k)
  | 1 => s.flag (F.CFG_SLOT_STAT_IN_EFFECT k) || s.flag (F.CFG_SLOT_STAT_PRI_MARK k) || s.flag (F.CFG_SLOT_STAT_FB_MARK k)
  | 2 => s.seq.change.isSome
  | _ => s.fld F.UPD_KS_STAT_KEYS != 0

/-- The greatest container length of a target (R476). -/
def targetLimit : Nat → Nat
  | 0 => 268431536
  | 1 => 16773200
  | 2 => 4194384
  | _ => 4096

/-- A START to a target and slot (R476). -/
def State.startXfer (s : State) (target k : Nat) (tc : Tc) : State :=
  let len := s.fld F.UPD_XFER_LEN_VALUE
  if s.upd.xfer.isSome then s.put F.UPD_XFER_STAT_RESULT 0x11
  else if s.slotRefused target k then s.put F.UPD_XFER_STAT_RESULT 0x12
  else if targetLimit target < len then s.put F.UPD_XFER_STAT_RESULT 0x13
  else
    let x : Xfer := { target, slot := k, len, data := [], lastOff := none, lastTc := tc }
    let s := (s.putContent target k []).putTarget target k slWriting
    let s : State := { s with upd := { s.upd with xfer := some x } }
    (((s.put F.UPD_STAT_XFER 1).put F.UPD_XFER_STAT_STATE 1).put F.UPD_XFER_DONE_VALUE 0).put F.UPD_XFER_STAT_RESULT 0

/-- A write of UPD_XFER_CTRL: 1 START, 2 ABORT, 0 and 3 discarded (R476, R479). -/
def State.xferCtrl (s : State) (v : Word) (tc : Tc) : State :=
  let target := fieldOf v 4 2
  match fieldOf v 0 2 with
  | 1 => if s.mayTransfer target then s.startXfer target (fieldOf v 8 2) tc else s
  | 2 => if s.upd.session.isSome || !s.serviceKey then s.abortXfer else s
  | _ => s

/-- XFER_START (R476). -/
def execXferStart (v : Word) (tc : Tc) (s : State) : Host.Outcome State Fault Refusal :=
  .next (if s.serviceUp && fieldOf v 0 2 == 1 then s.xferCtrl v tc else s)

/-- XFER_ABORT (R479). -/
def execXferAbort (v : Word) (s : State) : Host.Outcome State Fault Refusal :=
  .next (if s.serviceUp && fieldOf v 0 2 == 2 then s.xferCtrl v 0 else s)

/-- A transfer datagram is heard: from the session's owner, or without a session while the key store holds no service key (R473, R474). -/
def State.hearsXfer (s : State) (src : BitVec 48) : Bool := s.serviceUp && (s.owns src || (s.upd.session.isNone && !s.serviceKey))

/-- The block of a datagram has its right length: 1,024 bytes, or what is left for the last (R477). -/
def blockFits (x : Xfer) (n : Nat) : Bool := n == min 1024 (x.len - x.data.length)

/-- A block at an offset for an open transfer (R477). -/
def State.xferBlock (s : State) (x : Xfer) (off : Nat) (d : List Byte) (tc : Tc) : State :=
  if off = x.data.length ∧ s.fld F.UPD_XFER_STAT_STATE = 1 ∧ blockFits x d.length then
    let y : Xfer := { x with data := x.data ++ d, lastOff := some off, lastTc := tc }
    let s : State := { s with upd := { s.upd with xfer := some y } }
    let s := (s.put F.UPD_XFER_DONE_VALUE y.data.length).emit (.xferAnswer off 0)
    if y.data.length = x.len then s.put F.UPD_XFER_STAT_STATE 2 else s
  else if x.lastOff = some off then s.emit (.xferAnswer off 1)
  else s.emit (.xferAnswer off 2)

/-- XFER_DATAGRAM (R477). A datagram that is not of the manual's layout is not answered (log entry 65). -/
def execXferDatagram (src : BitVec 48) (bytes : List Byte) (tc : Tc) (s : State) : Host.Outcome State Fault Refusal :=
  let n := leAt bytes 4 2
  if !s.hearsXfer src || !inRange 1 1024 n || bytes.length != 8 + n then .next s
  else
    match s.upd.xfer with
    | some x => .next (s.xferBlock x (leAt bytes 0 4) (bytes.drop 8) tc)
    | none => .next (s.emit (.xferAnswer (leAt bytes 0 4) 3))

/-- The clear header of a container (R475): magic, version, kind matching the target, product code. -/
def containerOk (l : List Byte) (target : Nat) : Bool :=
  l.take 4 == [0x50#8, 0x48#8, 0x58#8, 0x43#8] && leAt l 4 2 == 1 && leAt l 6 1 == target + 1 && leAt l 24 4 == 0x4096

/-- The code of check 4 of R477; 0 where it passes. -/
def State.xferContent (s : State) (target : Nat) (plain : List Byte) : Nat :=
  match target with
  | 0 => if leAt plain 12 1 < s.fld F.UPD_KS_STAT_SV_MIN then 0x05 else 0
  | 1 => imageCode plain s.runningVersion
  | 2 => 0
  | _ => if leAt plain 0 8 != s.fld (F.UPD_ID_BYTES 0) + 2 ^ 32 * s.fld (F.UPD_ID_BYTES 1) || leAt plain 8 1 != s.fld F.UPD_KS_STAT_ERASE_CNT then 0x05 else 0

/-- The code of the verification of a transfer; 0 where every check passes (R477). -/
def State.xferCode (s : State) (x : Xfer) (v : XferVerdict) : Nat :=
  if !v.tag then 0x02
  else if !containerOk x.data x.target then 0x04
  else if !v.signed then 0x03
  else if s.xferContent x.target v.plain ≠ 0 then s.xferContent x.target v.plain
  else if !v.readback then 0x0A
  else 0

/-- An accepted bundle (R487, R488): its four keys are written, and a new storage key is generated, a free value (log entry 3). -/
def State.provision (s : State) (plain : List Byte) : State :=
  let key := fun (off n : Nat) => (plain.drop off).take n
  let keys : KeyStore := { image := key 16 96, clear := key 112 96, service := key 208 96, transport := key 304 32, storage := s.freeBytes 4 }
  let s := ({ s with upd := { s.upd with keys := keys } } : State).tookN 4
  let s := (s.put F.UPD_KS_STAT_KEYS 0x1F).put F.UPD_STAT_PROVISIONED 1
  let s := forUpTo 4 (fun k s => (s.putContent 1 k []).putTarget 1 k slEmpty) s
  ((s.putContent 2 0 []).putTarget 2 0 slEmpty).event Ev.UPD_PROVISIONED

/-- A transfer that has verified (R477). -/
def State.takeXfer (s : State) (x : Xfer) (plain : List Byte) : State :=
  if x.target = 3 then s.provision plain
  else
    let s := (s.putContent x.target x.slot plain).putTarget x.target x.slot slVerified
    if x.target = 0 then (s.put (F.UPD_FW_VER_VALUE x.slot) (leAt plain 8 4)).put (F.UPD_FW_STAT_SECVER x.slot) (leAt plain 12 1) else s

/-- XFER_VERIFY_DONE (R477). -/
def execXferVerifyDone (v : XferVerdict) (s : State) : Host.Outcome State Fault Refusal :=
  match s.upd.xfer with
  | none => .next s
  | some x =>
    if s.fld F.UPD_XFER_STAT_STATE ≠ 2 then .next s
    else
      let c := s.xferCode x v
      if c = 0 then .next (((s.takeXfer x v.plain).putResultOf x 0x01).closeXfer.event Ev.UPD_XFER_END)
      else
        let s := (s.putTarget x.target x.slot slInvalid).putResultOf x c
        let s := if x.target = 1 then s.put (F.CFG_SLOT_STAT_ERR x.slot) c else s
        .next (s.closeXfer.event Ev.UPD_XFER_END)

/-- XFER_TIMEOUT (R479): 30 s without an accepted block. -/
def execXferTimeout (tc : Tc) (s : State) : Host.Outcome State Fault Refusal :=
  match s.upd.xfer with
  | some x => .next (if s.fld F.UPD_XFER_STAT_STATE == 1 && passed tc x.lastTc 7500000000 then s.abortXfer else s)
  | none => .next s

/-! The boot record (R480, R481). -/

/-- The boot record's word. -/
def bootWord (run : Nat) (trial : Bool) (trialSlot attempts : Nat) : Word :=
  BitVec.ofNat 32 (0xB7000000 + 16 * attempts + 4 * trialSlot + (if trial then 2 else 0) + run)

def State.bootRun (s : State) : Nat := fieldOf s.upd.boot 0 1
def State.bootTrial (s : State) : Bool := s.upd.boot.getLsbD 1
def State.bootTrialSlot (s : State) : Nat := fieldOf s.upd.boot 2 1
def State.bootAttempts (s : State) : Nat := fieldOf s.upd.boot 4 2

/-- Write the record with its complement; the TRIAL marks of the slots follow. -/
def State.writeBoot (s : State) (w : Word) : State :=
  let s : State := { s with upd := { s.upd with boot := w, bootInv := ~~~w } }
  forUpTo 2 (fun k s => s.putFlag (F.UPD_FW_STAT_TRIAL k) (s.bootTrial && s.bootTrialSlot == k)) s

/-- A firmware slot may be booted: VERIFIED, its security version not below SV_MIN. -/
def State.bootable (s : State) (k : Nat) : Bool :=
  s.fld (F.UPD_FW_STAT_STATE k) == slVerified && decide (s.fld F.UPD_KS_STAT_SV_MIN ≤ s.fld (F.UPD_FW_STAT_SECVER k))

/-- The running slot. -/
def State.runningSlot (s : State) : Nat := if s.flag (F.UPD_FW_STAT_RUNNING 1) then 1 else 0

/-- RUNNING shows the slot that boots. -/
def State.putRunning (s : State) (k : Nat) : State :=
  forUpTo 2 (fun i s => s.putFlag (F.UPD_FW_STAT_RUNNING i) (i == k)) s

/-- The choice of the firmware slot at a start (R480). Where the record fails its complement and no slot may be booted, none runs (log entry 66). -/
def State.bootChoose (s : State) : State :=
  if s.upd.boot != ~~~s.upd.bootInv then
    if s.bootable 0 then (s.writeBoot (bootWord 0 false 0 0)).putRunning 0
    else if s.bootable 1 then (s.writeBoot (bootWord 1 false 0 0)).putRunning 1
    else s.putRunning 2
  else if s.bootTrial then
    if s.bootAttempts < 2 then
      (s.writeBoot (bootWord s.bootRun true s.bootTrialSlot (s.bootAttempts + 1))).putRunning s.bootTrialSlot
    else ((s.writeBoot (bootWord s.bootRun false s.bootTrialSlot s.bootAttempts)).putRunning s.bootRun).event Ev.UPD_ROLLBACK
  else s.putRunning s.bootRun

/-- A write of UPD_FW_ACT within a session (R481). -/
def State.fwActivate (s : State) (v : Word) : State :=
  let k := fieldOf v 0 1
  if fieldOf v 16 16 == 0x5A17 && s.bootable k && !s.flag (F.UPD_FW_STAT_RUNNING k) then s.writeBoot (bootWord s.bootRun true k 0) else s

/-- A write of UPD_FW_CONFIRM within a session (R481). -/
def State.fwConfirm (s : State) (v : Word) : State :=
  let k := s.runningSlot
  if v == 0xC0F1#32 && s.bootTrial && s.bootTrialSlot == k && s.flag F.PWR_STAT_READY then
    (s.writeBoot (bootWord k false s.bootTrialSlot s.bootAttempts)).put F.UPD_KS_STAT_SV_MIN (max (s.fld F.UPD_KS_STAT_SV_MIN) (s.fld (F.UPD_FW_STAT_SECVER k)))
  else s

/-- FW_ACTIVATE (R481). -/
def execFwActivate (v : Word) (s : State) : Host.Outcome State Fault Refusal :=
  .next (if s.serviceUp && s.upd.session.isSome then s.fwActivate v else s)

/-- FW_CONFIRM (R481). -/
def execFwConfirm (v : Word) (s : State) : Host.Outcome State Fault Refusal :=
  .next (if s.serviceUp && s.upd.session.isSome then s.fwConfirm v else s)

end Sys2Proof.Machine
end

