-- ==== Sys2Proof/Machine/Confirm.lean ====
section
/-! DEFINITION. Confirm.lean: the choice of the image slots (R92) and the commissioning confirmation (R94 to R96). -/
namespace Sys2Proof.Machine

open Sys2Proof

/-- The slot marks show what CFG_SELECT names. -/
def State.showSelect (s : State) : State :=
  forUpTo 4 (fun k s =>
    (s.putFlag (F.CFG_SLOT_STAT_PRI_MARK k) (s.fld F.CFG_SELECT_PRIMARY == k)).putFlag (F.CFG_SLOT_STAT_FB_MARK k) (s.fld F.CFG_SELECT_FALLBACK == k)) s

/-- A write of CFG_SELECT: stored in flash, or discarded as a whole (R92). -/
def State.cfgSelect (s : State) (v : Word) : State :=
  let p := fieldOf v 0 2
  let f := fieldOf v 4 2
  let fb := v.getLsbD 8
  if s.fld (F.CFG_SLOT_STAT_STATE p) != slVerified || (fb && s.fld (F.CFG_SLOT_STAT_STATE f) != slVerified) || p == f then s
  else (((s.put F.CFG_SELECT_PRIMARY p).put F.CFG_SELECT_FALLBACK f).putFlag F.CFG_SELECT_FB_EN fb).showSelect

/-- CFG_SELECT_WRITE (R92). -/
def execCfgSelectWrite (v : Word) (s : State) : Host.Outcome State Fault Refusal := .next (s.cfgSelect v)

/-- 10 s in ticks (R96). -/
def confirmWindow : Nat := 2500000000

/-- A confirmation fails: CONF_FAIL, the window closes (R96). -/
def State.confirmFail (s : State) : State := (s.put F.CFG_STAT_CONF_WIN 0).event Ev.CFG_CONF_FAIL

/-- A write of CFG_CONFIRM (R96); discarded while the image is confirmed. Without an image there is nothing to confirm, and the value is wrong (log entry 72). -/
def State.cfgConfirm (s : State) (v : Word) (tc : Tc) : State :=
  if s.flag F.CFG_STAT_CONFIRMED then s
  else if s.flag F.CFG_STAT_VALID && v.toNat == s.fld F.CFG_SAFETY_CV_VALUE then
    ({ s with cfg := { s.cfg with windowTc := tc } } : State).put F.CFG_STAT_CONF_WIN 1
  else s.confirmFail

/-- CFG_CONFIRM (R96). -/
def execCfgConfirm (v : Word) (tc : Tc) (s : State) : Host.Outcome State Fault Refusal := .next (s.cfgConfirm v tc)

/-- A write of CFG_CONFIRM_INV (R96): the complement within 10 s, in an open window, starts the flash write of the record. -/
def State.cfgConfirmInv (s : State) (v : Word) (tc : Tc) : State :=
  if s.flag F.CFG_STAT_CONFIRMED then s
  else if s.flag F.CFG_STAT_CONF_WIN && decide ((tc - s.cfg.windowTc).toNat ≤ confirmWindow) && (~~~v).toNat == s.fld F.CFG_SAFETY_CV_VALUE then
    ({ s with cfg := { s.cfg with confirmWriting := true } } : State).put F.CFG_STAT_CONF_WIN 0
  else s.confirmFail

/-- CFG_CONFIRM_INV (R96). -/
def execCfgConfirmInv (v : Word) (tc : Tc) (s : State) : Host.Outcome State Fault Refusal := .next (s.cfgConfirmInv v tc)

/-- CONFIRM_WINDOW_EXPIRY (R96): 10 s without the complement. -/
def execConfirmWindowExpiry (tc : Tc) (s : State) : Host.Outcome State Fault Refusal :=
  .next (if s.flag F.CFG_STAT_CONF_WIN && decide (confirmWindow ≤ (tc - s.cfg.windowTc).toNat) then s.put F.CFG_STAT_CONF_WIN 0 else s)

/-- CONFIRMATION_RECORD_WRITTEN (R94, R96): the slot record of the image in effect holds its safety check value; closes are accepted from the next commit point. A lane that has lost the Lid writes no flash (R345). -/
def execConfirmationRecordWritten (s : State) : Host.Outcome State Fault Refusal :=
  if s.cfg.confirmWriting && s.lidHeld then
    let k := s.fld F.CFG_STAT_SLOT
    let v := BitVec.ofNat 32 (s.fld F.CFG_SAFETY_CV_VALUE)
    let s : State := { s with cfg := { s.cfg with confirmWriting := false, confirmDue := true, confirms := setAt s.cfg.confirms k (some v) } }
    .next ((s.put F.CFG_STAT_CONFIRMED 1).put (F.CFG_SLOT_STAT_CONFIRMED k) 1)
  else .next s

/-- Closes are accepted once the image is confirmed, from a commit point on (R95, R96). -/
def State.takeConfirm (s : State) : State :=
  if s.cfg.confirmDue then
    ({ s with cfg := { s.cfg with confirmDue := false } } : State).putFlag F.PRT_STAT_CLOSE_BLOCK (!s.flag F.CFG_STAT_CONFIRMED)
  else s

end Sys2Proof.Machine
end

