-- ==== Sys2Proof/Machine/DlkCommands.lean ====
section
/-! DEFINITION. DlkCommands.lean: the port engine's commands (R131 to R157) and the end of bursts (R184). -/
namespace Sys2Proof.Machine

open Sys2Proof

/-- The port enters LOCATE: POLL from both ends (R150). -/
def State.toLocate (s : State) (p at4 : Nat) : State :=
  (s.put (F.DLK_P_STAT_STATE p) portLocate).pollBoth p at4

/-- The port enters NO_RING: RING_LOST event, all transactions end NO_RING (R150). -/
def State.ringLost (s : State) (p : Nat) : State :=
  let s := (s.put (F.DLK_P_STAT_STATE p) portNoRing).event (Ev.DLK_P_RING_LOST p)
  (s.endAll p .noRing).showServe p

/-- Transactions that will not be sent end with one result (R142, R143). -/
def State.endUnsent (s : State) (p : Nat) (r : TxnResult) : State :=
  let ts := unsentTxns (s.port p)
  let s := s.clearUnsent p
  ts.foldl (fun s t => s.deliver p t r [] 0 0) s

/-- Disable a port: the transactions that have not been sent end ABANDONED, and their number is kept, saturating at 0xFFFF (R64, R65, R143). DEDUCED (log entry 173): a request that is on the wire, or whose response is due, is the atom and completes; both ends keep sending idle. -/
def State.disablePort (s : State) (p : Nat) : State :=
  if s.portState p == portOff then s.putBit F.DLK_ENABLE_EN p false
  else
    let n := (unsentTxns (s.port p)).length
    let s := s.putBit F.DLK_ENABLE_EN p false
    let s := s.put (F.DLK_P_STAT_STATE p) portOff
    let s := s.put (F.DLK_P_ABANDON_CNT p) (min n 0xFFFF)
    (s.endUnsent p .abandoned).showServe p

/-- A port without power or in reset: OFF, its ends silent, its tags free (R150). -/
def State.portDark (s : State) (p : Nat) : State :=
  let s := s.disablePort p
  (s.setPort p { s.port p with idle := false, wireA := none, wireB := none, pollA := none, pollB := none, outstanding := [] }).showOutstanding p

/-- Enable a port: OFF to NO_RING, idle on both ends; a dormant port ignores it (R60, R131, R150). -/
def State.enablePort (s : State) (p : Nat) : State :=
  if s.bit F.INF_DORMANT_UNIT_PORT p then s
  else
    let s := s.putBit F.DLK_ENABLE_EN p true
    if s.portState p == portOff then (s.setPort p { s.port p with idle := true, pollTc := none }).put (F.DLK_P_STAT_STATE p) portNoRing else s

/-- REENUM on a port that is not OFF: every transaction ends ABANDONED and enumeration restarts at step 1 (R148, R150). -/
def State.reenumPort (s : State) (p : Nat) (tc : Tc) : State :=
  if s.portState p == portOff then s
  else
    let n := (allTxns (s.port p)).length
    let s := s.put (F.DLK_P_ABANDON_CNT p) (min n 0xFFFF)
    (s.endAll p .abandoned).startEnum p (tcQuarter tc)

/-- PORT_ENABLE (R150). -/
def execPortEnable (p : Fin 8) (s : State) : Host.Outcome State Fault Refusal := .next (s.enablePort p)

/-- PORT_DISABLE (R64, R143). -/
def execPortDisable (p : Fin 8) (s : State) : Host.Outcome State Fault Refusal := .next (s.disablePort p)

/-- REENUM (R148). -/
def execReenum (x : PortAt) (s : State) : Host.Outcome State Fault Refusal := .next (s.reenumPort x.port x.tc)

/-- Enumeration has come to its end: stopped, or the delays of step 5 are written (R146). -/
def enumOver (x : Port) : Bool :=
  x.enumStep == 6 || (x.enumStep == 5 && (x.mgmt ++ x.outstanding).all fun t => !t.purpose.isMgmt)

/-- Step 6: every addressed monitor with m below N is set up by the sweep sequencer (R146, R149). -/
def State.handSetup (s : State) (p : Nat) : State :=
  forUpTo (s.monCount p) (fun m s => if (s.port p).addressed.getLsbD m then (s.setupTxns p m).foldl (fun s t => s.queueTxn p t) s else s) s

/-- Where the end of enumeration leads (R149, R150): FAULT, in which every transaction ends NO_RING (R142), RING or SPLIT. -/
def State.enumResult (s : State) (p : Nat) (fault closed : Bool) : State :=
  if fault then (s.put (F.DLK_P_STAT_STATE p) portFault).endAll p .noRing
  else if closed then s.put (F.DLK_P_STAT_STATE p) portRing
  else (s.put (F.DLK_P_STAT_STATE p) portSplit).event (Ev.DLK_P_BREAK p)

/-- ENUMERATION_END (R146, R149, R150): once the steps are over, the port moves to RING, SPLIT or FAULT with ENUM_DONE; the effective lead is recomputed (R160). -/
def execEnumerationEnd (p : Fin 8) (s : State) : Host.Outcome State Fault Refusal :=
  let x := s.port p
  if s.portState p == portEnum && enumOver x then
    let found := s.fld (F.DLK_P_STAT_FOUND p)
    let s := s.putFlag (F.DLK_P_STAT_COUNT_ERR p) (found != s.monCount p)
    let s := s.event (Ev.DLK_P_ENUM_DONE p)
    let s := s.setPort p { x with mgmt := [], enumStep := 0 }
    let s := if x.enumStep == 5 then s.handSetup p else s
    let s := s.enumResult p (x.orient || x.overcount || found == 0) x.closed
    let s := s.put (F.DLK_P_REACH_MON p) (x.reachA ||| x.reachB).toNat
    .next ((s.showServe p).recomputeLead)
  else .next s

/-- Enumeration starts without a REENUM write: RESET_ADDR leaves no monitor that an end reaches, so what waits of the link management ends NO_TARGET (R142, R150). -/
def State.enumerate (s : State) (p at4 : Nat) : State :=
  let x := s.port p
  let s := s.setPort p { x with mgmt := [] }
  (x.mgmt.foldl (fun s t => s.deliver p t .noTarget [] 0 0) s).startEnum p at4

/-- VALID_SIGNAL_HELD (R150): NO_RING to ENUM. -/
def execValidSignalHeld (x : PortAt) (s : State) : Host.Outcome State Fault Refusal :=
  if s.portState x.port == portNoRing then .next (s.enumerate x.port (tcQuarter x.tc)) else .next s

/-- NO_SIGNAL_TIMEOUT (R150): RING, SPLIT or FAULT to NO_RING. -/
def execNoSignalTimeout (p : Fin 8) (s : State) : Host.Outcome State Fault Refusal :=
  if s.portState p == portRing || s.portState p == portSplit || s.portState p == portFault then .next (s.ringLost p) else .next s

/-- LOSS_OF_SIGNAL (R131, R150): RING or SPLIT to LOCATE with POLLs from both ends; in LOCATE the POLLs in progress decide. -/
def execLossOfSignal (x : PortAt) (_endB : Bool) (s : State) : Host.Outcome State Fault Refusal :=
  if s.served x.port then .next (s.toLocate x.port (tcQuarter x.tc)) else .next s

/-- In RING and SPLIT, DLK_Pn_CFG.POLL_MS after the last one, a POLL from each end that reaches a monitor. -/
def State.periodicPoll (s : State) (p : Nat) (tc : Tc) : State :=
  let x := s.port p
  let due := match x.pollTc with
    | some t => decide (250000 * s.fld (F.DLK_P_CFG_POLL_MS p) ≤ (tc - t).toNat)
    | none => true
  if s.served p && due then
    let s := s.setPort p { x with pollTc := some tc, pollA := none, pollB := none }
    let s := if x.reachA != 0 then s.sendPoll p false (tcQuarter tc) else s
    if x.reachB != 0 then s.sendPoll p true (tcQuarter tc) else s
  else s

/-- PERIODIC_POLL (R151). -/
def execPeriodicPoll (x : PortAt) (s : State) : Host.Outcome State Fault Refusal := .next (s.periodicPoll x.port x.tc)

/-- The waiting transactions of a port in their order of precedence (R138): the link management's, those of the sweep sequencer, the burst reads. -/
def waitingTxns (x : Port) : List Txn :=
  let again := x.outstanding.filter (fun t => t.waits)
  again.filter (fun t => t.purpose.isMgmt) ++ x.mgmt ++ again.filter (fun t => !t.purpose.isMgmt) ++ x.queue ++ x.bursts

/-- A transaction leaves the list it waits in. -/
def Port.take (x : Port) (t : Txn) : Port :=
  if x.mgmt.contains t then { x with mgmt := x.mgmt.erase t }
  else if x.queue.contains t then { x with queue := x.queue.erase t }
  else { x with bursts := x.bursts.erase t }

/-- A delay is measured again, and a burst is read, in the link time after the sweep reads of the end (R164, R184). -/
def State.mayGo (s : State) (p : Nat) (endB : Bool) (t : Txn) : Bool :=
  match t.purpose with
  | .remeasure _ _ | .burst _ _ => s.sweepReadsDone p endB
  | _ => true

/-- PINGs of the enumeration go with no other transaction outstanding on their end (R146 step 4). -/
def aloneOk (x : Port) (t : Txn) : Bool :=
  let isPing := fun (t : Txn) => match t.purpose with
    | .ping _ _ => true
    | _ => false
  x.outstanding.all fun o => o.waits || o.endB != t.endB || (!isPing t && !isPing o)

/-- A new transaction takes the lowest free tag and its request leaves, where its response fits (R137, R140). -/
def State.issueNew (s : State) (p : Nat) (t : Txn) (endB : Bool) (at4 : Nat) : State :=
  let x := s.port p
  match freeTag x with
  | none => s
  | some g =>
    let u := s.timed p { t with tag := g, endB := endB } at4
    if fits x u && aloneOk x u then
      let y := x.take t
      ((s.setPort p { y with outstanding := y.outstanding ++ [u] }).showOutstanding p).sendRequest p u at4
    else s

/-- TRANSACTION_ISSUE (R132, R137, R138, R140): the first waiting transaction of a free end is issued once its predicted response interval fits; with no end to reach its monitor it ends NO_TARGET, and in a port without a ring NO_RING (R142). -/
def execTransactionIssue (p : Fin 8) (endB : Bool) (tc : Tc) (s : State) : Host.Outcome State Fault Refusal :=
  let x := s.port p
  let now := tcQuarter tc
  let mine := fun (t : Txn) => (s.txnEnd p t).getD endB == endB && s.mayGo p endB t
  match (waitingTxns x).find? mine with
  | none => .next s
  | some t =>
    let drop := fun (s : State) => if t.waits then s.dropTxn p t.tag else s.setPort p (x.take t)
    if s.unserved p then .next ((drop s).deliver p t .noRing [] 0 tc)
    else if !x.idle || x.freeAt endB now != now then .next s
    else
      match s.txnEnd p t with
      | none => .next (((drop s).bump (F.DLK_P_CNT_FAIL_FAILED p)).deliver p t .noTarget [] 0 tc)
      | some b => .next (if t.waits then s.sendAgain p { t with endB := b } now else s.issueNew p t b now)

/-- RESPONSE_RECEIVE (R133, R141): a frame with a line error or a wrong CRC is discarded and counted; a response with no matching tag and attempt is LATE; otherwise it ends its transaction DONE or MON_ERROR. -/
def execResponseReceive (p : Fin 8) (bytes : List Byte) (lineError : Bool) (roundTrip : Nat) (tc : Tc) (s : State) : Host.Outcome State Fault Refusal :=
  let n := leAt bytes 3 1
  if lineError || bytes.length != n + 6 then .next (s.bump (F.DLK_P_CNT_LINE_LINE p))
  else if crc16 bytes != 0 then .next (s.bump (F.DLK_P_CNT_LINE_CRC p))
  else if !(leAt bytes 0 1).testBit 4 then .next s
  else
    let b2 := leAt bytes 2 1
    match s.txnOf p (b2 % 16) with
    | none => .next (s.bump (F.DLK_P_CNT_FAIL_LATE p))
    | some t =>
      if t.waits || t.attempt % 4 != b2 / 16 % 4 then .next (s.bump (F.DLK_P_CNT_FAIL_LATE p))
      else
        let payload := (bytes.drop 4).take n
        let error := (leAt bytes 0 1).testBit 7
        let s := s.setPort p { s.port p with consecutive := 0 }
        .next (s.endTxn p t (if error then .monError else .done) payload roundTrip tc)

/-- NO_TARGET (R139): the request reached the opposite port end. -/
def execNoTarget (p : Fin 8) (tag : Fin 16) (s : State) : Host.Outcome State Fault Refusal :=
  match s.txnOf p tag with
  | none => .next s
  | some t => .next (s.endTxn p t .noTarget [] 0 0)

/-- A transaction has timed out: its request goes again with the attempt raised, up to RETRY times, then it ends TIMEOUT; without a ring it ends NO_RING, and NO_TARGET where no end reaches its monitor (R141, R142). -/
def State.retry (s : State) (p : Nat) (t : Txn) (tc : Tc) : State :=
  if s.fld (F.DLK_P_CFG_RETRY p) ≤ t.retries then s.endTxn p t .timeout [] 0 tc
  else if s.unserved p then s.endTxn p t .noRing [] 0 tc
  else
    match s.txnEnd p t with
    | none => s.endTxn p t .noTarget [] 0 tc
    | some b => (s.bump (F.DLK_P_CNT_TXN_RETRY p)).sendAgain p { t with attempt := t.attempt + 1, retries := t.retries + 1, endB := b } (tcQuarter tc)

/-- TRANSACTION_TIMEOUT (R140, R141): MARGIN µs after the end of its predicted interval a request that has been sent goes again or ends. Three consecutive timeouts in RING lead to LOCATE (R150). DESIGN CHOICE (log entry 174): the count runs over the port's timeouts, through SPLIT into RING, and an accepted response, an enumeration and the move to LOCATE clear it; the spec does not say which timeouts are consecutive. -/
def execTransactionTimeout (p : Fin 8) (tag : Fin 16) (tc : Tc) (s : State) : Host.Outcome State Fault Refusal :=
  match s.txnOf p tag with
  | none => .next s
  | some t =>
    if t.waits || decide (tcQuarter tc < t.respEnd + 4000 * s.fld (F.DLK_P_CFG_MARGIN p)) then .next s
    else
      let s := s.bump (F.DLK_P_CNT_TXN_TIMEOUT p)
      let run := (s.port p).consecutive + 1
      let s := (s.setPort p { s.port p with consecutive := run }).retry p t tc
      if decide (3 ≤ run) && s.portState p == portRing then
        .next ((s.setPort p { s.port p with consecutive := 0 }).toLocate p (tcQuarter tc))
      else .next s

/-- BREAK_REISSUE of one outstanding transaction: re-issued with the attempt raised where its serving end has changed, ended NO_TARGET where no end reaches its monitor (R152). -/
def State.reissue (s : State) (p : Nat) (tc : Tc) (t : Txn) : State :=
  let t := { t with pinned := false }
  match s.txnEnd p t with
  | none => s.endTxn p t .noTarget [] 0 tc
  | some b => if b == t.endB then s.replaceTxn p t else s.sendAgain p { t with attempt := t.attempt + 1, endB := b } (tcQuarter tc)

/-- Number of set bits. -/
def popCount (v : BitVec 32) : Nat := ((List.range 32).filter (fun i => v.getLsbD i)).length

/-- The bitmaps of both POLLs are combined, an alert bit that rises is an ALERT event and its cause is read; monitors beyond N are never read (R149, R151, R157). -/
def State.combinePolls (s : State) (p : Nat) (a b : PollBack) : State :=
  let old : BitVec 32 := BitVec.ofNat 32 (s.fld (F.DLK_P_ALERT_MON p))
  let alert := a.alert ||| b.alert
  let s := s.put (F.DLK_P_REACH_MON p) (a.reach ||| b.reach).toNat
  let s := s.put (F.DLK_P_ALERT_MON p) alert.toNat
  let s := s.put (F.DLK_P_EDGE_MON p) (a.edge ||| b.edge).toNat
  let s := (s.put (F.DLK_P_STAT_A_CNT p) (popCount a.reach)).put (F.DLK_P_STAT_B_CNT p) (popCount b.reach)
  let s := s.setPort p { s.port p with reachA := a.reach, reachB := b.reach }
  let rising := alert &&& ~~~old
  let s := s.eventIf (rising != 0) (Ev.DLK_P_ALERT p)
  forUpTo (s.monCount p) (fun m s => if rising.getLsbD m then s.queueTxn p (readTxn (.alertCause m) m 0x20 2) else s) s

/-- The port enters SPLIT from LOCATE: BREAK event and re-issue (R150, R152). -/
def State.toSplit (s : State) (p : Nat) (tc : Tc) : State :=
  let s := (s.put (F.DLK_P_STAT_STATE p) portSplit).event (Ev.DLK_P_BREAK p)
  let s := (s.port p).outstanding.foldl (fun s t => s.reissue p tc t) s
  (s.showServe p).recomputeLead

/-- What a POLL has found: one that has returned nothing has reached no monitor (R151). -/
def heard (r : PollBack) : PollBack :=
  if r.opposite || r.echoed then r
  else { opposite := false, echoed := false, reach := 0, alert := 0, edge := 0, unaddressed := false }

/-- The decision is due: every POLL issued has come back, or 60 µs have passed since the later one was issued (R151). -/
def pollsDue (x : Port) (a b : PollBack) (at4 : Nat) : Bool :=
  (x.pollA.isSome || x.pollB.isSome) &&
  (((x.pollA.isNone || a.opposite || a.echoed) && (x.pollB.isNone || b.opposite || b.echoed)) ||
   decide (max (x.pollA.getD 0) (x.pollB.getD 0) + 240000 ≤ at4))

/-- The ring is whole: every POLL issued has reached the opposite end. -/
def pollsThrough (x : Port) (a b : PollBack) : Bool := (x.pollA.isNone || a.opposite) && (x.pollB.isNone || b.opposite)

/-- The port enters RING: each end reaches every monitor that a POLL has reached; D_max is recomputed (R150, R160). -/
def State.toRing (s : State) (p : Nat) (reclose : Bool) : State :=
  let x := s.port p
  let all := x.reachA ||| x.reachB
  let s := s.setPort p { x with reachA := all, reachB := all }
  let s := (s.put (F.DLK_P_STAT_STATE p) portRing).eventIf reclose (Ev.DLK_P_RECLOSE p)
  ((s.eventIf (!reclose) (Ev.DLK_P_TRANSIENT p)).showServe p).recomputeLead

/-- The transactions outstanding at a RECLOSE finish on their present end (R154). -/
def State.pinAll (s : State) (p : Nat) : State :=
  let x := s.port p
  s.setPort p { x with outstanding := x.outstanding.map (fun t => { t with pinned := true }) }

/-- The row of the state table that the combined bitmaps give (R150). -/
def State.pollRow (s : State) (p : Nat) (through met : Bool) (before reach : BitVec 32) (tc : Tc) : State :=
  let st := s.portState p
  if st == portLocate then
    if through then s.toRing p false
    else if met then s.enumerate p (tcQuarter tc)
    else if reach != 0 then s.toSplit p tc
    else s.ringLost p
  else if st == portRing then
    if through then s else s.toLocate p (tcQuarter tc)
  else if popCount reach < popCount before then s.toLocate p (tcQuarter tc)
  else if met then s.enumerate p (tcQuarter tc)
  else if through then (s.pinAll p).toRing p true
  else s.showServe p

/-- POLL_DECISION (R150, R151): once it is due, the bitmaps are combined and the port's state decided; during enumeration it is the answer to the POLL after M31 (R146). DEDUCED (log entry 175): an end that reaches no monitor sends no periodic POLL, so the POLLs that were sent decide. -/
def execPollDecision (p : Fin 8) (fromA fromB : PollBack) (tc : Tc) (s : State) : Host.Outcome State Fault Refusal :=
  let x := s.port p
  let a := heard fromA
  let b := heard fromB
  if !pollsDue x a b (tcQuarter tc) then .next s
  else
    let s := s.setPort p { x with pollA := none, pollB := none }
    if s.portState p == portEnum then .next (if x.awaitPoll then s.enumPollBack p a else s)
    else if s.served p || s.portState p == portLocate then
      let before : BitVec 32 := BitVec.ofNat 32 (s.fld (F.DLK_P_REACH_MON p))
      let s := s.combinePolls p a b
      .next (s.pollRow p (pollsThrough x a b) (a.unaddressed || b.unaddressed) before (a.reach ||| b.reach) tc)
    else .next s

/-- D_REMEASURE (R164): 16 PINGs to one monitor from one end that reaches it, once the sweep reads of that end are done; a measurement under way is not begun again. -/
def execDRemeasure (p : Fin 8) (m : Fin 32) (endB : Bool) (_tc : Tc) (s : State) : Host.Outcome State Fault Refusal :=
  let x := s.port p
  let reach := if endB then x.reachB else x.reachA
  let busy := (x.mgmt ++ x.outstanding).any fun t => t.purpose == .remeasure m endB
  if s.served p && x.addressed.getLsbD m && reach.getLsbD m && decide (m.val < s.monCount p) && !busy && s.sweepReadsDone p endB then
    let pings := if x.pings.length == 64 then x.pings else List.replicate 64 (0, 0)
    .next (s.setPort p { x with
      pings := setAt pings (2 * m + bitN endB) (0, 0)
      mgmt := x.mgmt ++ List.replicate 16 (newTxn (.remeasure m endB) m 3 [] 2) })
  else .next s

end Sys2Proof.Machine
end

