-- ==== Sys2Proof/Machine/Rec.lean ====
section
/-! DEFINITION. Rec.lean: the usage recorder (R437 to R448) and the housekeeping round that feeds it (R309, R439). -/
namespace Sys2Proof.Machine

open Sys2Proof

/-- The recorder's firmware runs. -/
def State.recRuns (s : State) : Bool := s.lan.fw && s.flag F.REC_STAT_RUN

/-! Failures (R448). -/

/-- The health word in effect is written to FRAM; a failed read-back sets HW_LOST and leaves the word as it stood. -/
def State.writeHealth (s : State) (w : Word) (good : Bool) : State :=
  if good then ({ s with rcd := { s.rcd with health := some w } } : State).wr F.REC_HEALTH_MARK.addr w else s.put F.REC_STAT_HW_LOST 1

/-- The health word with MARK set and the degraded bits as REC_STAT shows them. -/
def State.healthWord (s : State) (flash fram : Nat) : Word :=
  let w := withField (s.rd F.REC_HEALTH_MARK.addr) 24 8 0xA7
  let w := withField (withField w 16 8 (min 255 flash)) 8 8 (min 255 fram)
  withField (withField w 7 1 (s.fld F.REC_STAT_FLASH_DEG)) 6 1 (s.fld F.REC_STAT_FRAM_DEG)

/-- n failures of flash and k of FRAM are counted, and the health word is written. -/
def State.recFail (s : State) (n k : Nat) (good : Bool) : State :=
  let s := s.put F.REC_HEALTH_RAM_FLASH (min 0xFFFF (s.fld F.REC_HEALTH_RAM_FLASH + n))
  let s := s.put F.REC_HEALTH_RAM_FRAM (min 0xFFFF (s.fld F.REC_HEALTH_RAM_FRAM + k))
  s.writeHealth (s.healthWord (s.fld F.REC_HEALTH_FLASH + n) (s.fld F.REC_HEALTH_FRAM + k)) good

/-- A degraded state begins. -/
def State.degrade (s : State) (f : Field) : State := if s.flag f then s else (s.put f 1).event Ev.REC_DEGRADED

/-! Bytes of records and counter blocks (R443, R444). -/

/-- The counters, 1,024 bytes. -/
def State.counterBytes (s : State) : List Byte := (List.range 256).flatMap fun i => bytesLe 4 (s.rcd.counters.get i).toNat

/-- An extreme, 16 bytes; zero while none is set. -/
def extremeBytes : Option Extreme → List Byte
  | none => List.replicate 16 0#8
  | some x => bytesLe 4 (code 32 x.value) ++ bytesLe 4 x.index ++ bytesLe 4 x.hours ++ bytesLe 4 x.cycles

/-- The extremes, 1,024 bytes. -/
def State.extremeTable (s : State) : List Byte := s.rcd.extremes.flatMap extremeBytes ++ List.replicate 208 0#8

/-- An extreme from its 16 bytes; an entry with no power cycle is none. -/
def extremeOf (l : List Byte) : Option Extreme :=
  if leAt l 12 4 = 0 then none else some { value := signed 32 (leAt l 0 4), index := leAt l 4 4, hours := leAt l 8 4, cycles := leAt l 12 4 }

/-- A counter block (R443). -/
def State.blockBytes (s : State) (seq : Nat) : List Byte :=
  let head := bytesLe 4 0x43555243 ++ bytesLe 4 seq ++ bytesLe 4 (s.fld F.REC_HOURS_VALUE) ++ bytesLe 4 (s.fld F.REC_CYCLES_VALUE) ++ List.replicate 16 0#8
  let slots := (s.rcd.retired.take 64).flatMap (bytesLe 4)
  let body := head ++ s.counterBytes ++ s.extremeTable ++ slots ++ List.replicate (256 - slots.length) 0xFF#8 ++
    bytesLe 4 (s.fld F.REC_SEQ_END_VALUE) ++ List.replicate 1752 0#8
  body ++ bytesLe 4 (crc32c body).toNat

/-- A counter block is valid (R443, R230). -/
def blockValid (b : List Byte) : Bool :=
  leAt b 0 4 == 0x43555243 && b.length == 4096 && (crc32c (b.take 4092)).toNat == leAt b 4092 4

/-- The newest valid counter block. -/
def State.newestBlock (s : State) : Option (List Byte) :=
  let a := s.rcd.blockA
  let b := s.rcd.blockB
  if blockValid a then (if blockValid b && seqNewer (leAt b 4 4) (leAt a 4 4) then some b else some a)
  else if blockValid b then some b else none

/-- A counter block is written to the invalid or the older copy and read back (R443, R448). `fails` copies fail their read-back. -/
def State.writeBlock (s : State) (fails : Nat) (good : Bool) : State :=
  if s.flag F.REC_STAT_FRAM_DEG && !s.rcd.tryFram then s
  else
    let seq := match s.newestBlock with
      | some b => (leAt b 4 4 + 1) % 2 ^ 32
      | none => 1
    let toB := blockValid s.rcd.blockA && (!blockValid s.rcd.blockB || seqNewer (leAt s.rcd.blockA 4 4) (leAt s.rcd.blockB 4 4))
    let bytes := if fails = 0 then s.blockBytes seq else []
    let s : State := { s with rcd := { s.rcd with dirty := false, tryFram := false } }
    let s : State := if toB then { s with rcd := { s.rcd with blockB := bytes } } else { s with rcd := { s.rcd with blockA := bytes } }
    match fails with
    | 0 => if s.flag F.REC_STAT_FRAM_DEG then s.put F.REC_STAT_FRAM_DEG 0 else s
    | 1 => s.recFail 0 1 good
    | _ =>
      let s : State := { s with rcd := { s.rcd with blockA := [], blockB := [] } }
      (s.degrade F.REC_STAT_FRAM_DEG).recFail 0 2 good

/-- The 64 bytes a record begins with (R444). -/
def State.recHeader (s : State) (typ flags seq len clears : Nat) : List Byte :=
  let hours := s.fld F.REC_HOURS_VALUE
  [0x50#8, 0x48#8, 0x55#8, 0x52#8] ++ bytesLe 2 1 ++ bytesLe 1 typ ++ bytesLe 1 flags ++ bytesLe 4 seq ++ bytesLe 4 hours ++
  bytesLe 4 (s.fld F.REC_CYCLES_VALUE) ++ bytesLe 4 (hours - s.rcd.accFrom) ++ bytesLe 4 s.rcd.lost ++ bytesLe 4 len ++ bytesLe 4 clears ++
  bytesLe 4 (s.fld F.CFG_IMAGE_ID_VALUE) ++ bytesLe 4 s.rcd.fwVersion ++ bytesLe 4 (s.rd 0x10004).toNat ++ bytesLe 4 s.rcd.unrec ++ List.replicate 12 0#8

/-- The clear count (R441, R447). -/
def State.clearCount (s : State) : Nat := (s.rcd.counters.get cntClear).toNat

/-- The totals of a FOLD or LIVE record: those of the newest fold and the staging. -/
def State.recTotals (s : State) : Cells 64 :=
  (List.range 5504).foldl (fun m i => if s.rcd.acc.get i = 0 then m else m.set i (m.get i + s.rcd.acc.get i)) s.rcd.total

/-- A record closed by its CRC. -/
def recClose (l : List Byte) : List Byte := l ++ bytesLe 4 (crc32c l).toNat

/-- A FOLD (type 1) or LIVE (type 3) record. -/
def State.foldRecord (s : State) (typ flags seq : Nat) : List Byte :=
  let t := s.recTotals
  recClose (s.recHeader typ flags seq 46148 s.clearCount ++ ((List.range 5504).flatMap fun i => bytesLe 8 (t.get i).toNat) ++ s.counterBytes ++ s.extremeTable)

/-- A CLEAR record (R444). -/
def State.clearRecord (s : State) (seq scope serial nonce : Nat) : List Byte :=
  recClose (s.recHeader 2 0 seq 84 s.clearCount ++ bytesLe 4 scope ++ bytesLe 4 serial ++ bytesLe 4 nonce ++ bytesLe 4 0)

/-! Flash (R444, R448). -/

/-- The slots of the recorder partition. -/
def recSlots : Nat := 87381

/-- The first slot from a place on that is not retired. -/
def State.usableSlot (s : State) : Nat → Nat → Nat
  | 0, k => k
  | fuel + 1, k => if s.rcd.retired.contains k then s.usableSlot fuel ((k + 1) % recSlots) else k

/-- A slot is retired into the list of R443. -/
def State.retire (s : State) (k : Nat) : State :=
  { s with rcd := { s.rcd with retired := s.rcd.retired ++ [k], flash := s.rcd.flash.filter (fun e => e.1 != k) } }

/-- Records can be written (R448). -/
def State.flashUsable (s : State) : Bool := !s.flag F.REC_STAT_FLASH_DEG || s.rcd.tryFlash

/-- A record is written, with its number, into its slot or the next one; a failed attempt retires its slot, two in a row or 64 retired slots degrade the flash (R444, R448). -/
def State.writeRecord_ (s : State) (bytes : List Byte) (m : RecMedia) : State :=
  let q := s.fld F.REC_SEQ_END_VALUE + 1
  let k0 := s.usableSlot 65 ((q - 1) % recSlots)
  let n := min 2 m.flash
  let s : State := { s with rcd := { s.rcd with tryFlash := false } }
  let s := if 1 ≤ n then s.retire k0 else s
  let k1 := s.usableSlot 65 ((q - 1) % recSlots)
  let s := if 2 ≤ n then s.retire k1 else s
  let s := if 2 ≤ n || 64 ≤ s.rcd.retired.length then s.degrade F.REC_STAT_FLASH_DEG else if s.flag F.REC_STAT_FLASH_DEG then s.put F.REC_STAT_FLASH_DEG 0 else s
  let s := if n = 0 then s else s.recFail n 0 m.health
  if 2 ≤ n then s
  else
    let s : State := { s with rcd := { s.rcd with flash := (k1, bytes) :: s.rcd.flash.filter (fun e => e.1 != k1) } }
    let first := s.fld F.REC_SEQ_BEGIN_VALUE
    let s := s.put F.REC_SEQ_END_VALUE q
    (s.put F.REC_SEQ_BEGIN_VALUE (if first = 0 then q else max first (q + 1 - recSlots))).event Ev.REC_FOLD

/-- The record with a sequence number. -/
def State.recordOf (s : State) (q : Nat) : Option (List Byte) :=
  (s.rcd.flash.find? (fun e => leAt e.2 8 4 == q)).map (·.2)

/-- A record passes its CRC. -/
def recordValid (l : List Byte) : Bool :=
  let n := leAt l 28 4
  l.take 4 == [0x50#8, 0x48#8, 0x55#8, 0x52#8] && decide (68 ≤ n) && l.length == n && (crc32c (l.take (n - 4))).toNat == leAt l (n - 4) 4

/-- A fold (R445): the FOLD record, then the counter block that names it; the staging starts again where the record was written. -/
def State.recFold (s : State) (flags : Nat) (m : RecMedia) : State :=
  if !s.flashUsable then s
  else
    let q := s.fld F.REC_SEQ_END_VALUE
    let totals := s.recTotals
    let s := s.writeRecord_ (s.foldRecord 1 flags (q + 1)) m
    let s : State :=
      if s.fld F.REC_SEQ_END_VALUE = q then s
      else
        let hours := s.fld F.REC_HOURS_VALUE
        { s with rcd := { s.rcd with total := totals, acc := [], accFrom := hours, lastFold := hours, lost := 0, foldDue := false } }
    s.writeBlock m.fram m.health

/-- FOLD_DUE (R445): FOLD hours since the last fold; in a hold the fold waits (R446). -/
def execFoldDue (m : RecMedia) (s : State) : Host.Outcome State Fault Refusal :=
  if s.recRuns && decide (s.rcd.lastFold + s.fld F.REC_CFG_FOLD ≤ s.fld F.REC_HOURS_VALUE) then
    .next (if s.flag F.REC_STAT_HOLD then { s with rcd := { s.rcd with foldDue := true } } else s.recFold 0 m)
  else .next s

/-! Accumulation (R439, R440). -/

/-- Add to an entry of the staging. -/
def State.recAdd (s : State) (i n : Nat) : State :=
  { s with rcd := { s.rcd with acc := s.rcd.acc.set i (s.rcd.acc.get i + BitVec.ofNat 64 n) } }

/-- A bin index clamped to the histogram. -/
def binOf (n : Nat) (x : Int) : Nat := (clampI 0 ((n : Int) - 1) x).toNat

/-- A cell's reading counts: fresh and without a mark (R439). -/
def State.cellCounts (s : State) (g : Nat) : Bool :=
  ([F.SWP_V_STALE g, F.SWP_V_SETTLE g, F.SWP_V_BLEED g, F.SWP_V_OWT g, F.SWP_V_OW_SUSPECT g, F.SWP_V_OW_CONF g, F.SWP_V_ABSENT g]).all fun f => s.fldSnap f == 0

/-- The aperture current of a string in the snapshot, Q15.16 A. -/
def State.snapCurrent (s : State) (p : Nat) : Int := signed 32 (s.fldSnap (F.AFE_S_I_VALUE p))

/-- The fresh temperatures of a string, as point and value. -/
def State.snapPoints (s : State) (p : Nat) : List (Nat × Int) :=
  ((s.declaredPoints p).filter fun h => s.fldSnap (F.SWP_T_STALE h) == 0).map fun h => (h, signed 16 (s.fldSnap (F.SWP_T_TEMP h)))

/-- The counting cells of a string, as global index and code. -/
def State.snapCells (s : State) (p : Nat) : List (Nat × Nat) :=
  ((s.declaredCells p).map fun x => cellIndex p x.1 x.2).filter s.cellCounts |>.map fun g => (g, s.fldSnap (F.SWP_V_CODE g))

/-- The histograms of a string (R439). -/
def State.binString (s : State) (p : Nat) : State :=
  let base := 680 * p
  let c : Int := s.capacity p
  let points := s.snapPoints p
  let s := match points.foldl (fun a x => hotter a (some x.2)) none with
    | some t =>
      if s.strState p == ssClosed then
        s.recAdd (base + 16 * binOf 32 ((4 * s.snapCurrent p + 16 * c) / c) + binOf 16 ((t + 5120) / 1024)) 1
      else s
    | none => s
  let s := (s.snapCells p).foldl (fun s x => s.recAdd (base + 512 + binOf 64 (((x.2 : Int) - 64000) / 2000)) 1) s
  let s := points.foldl (fun s x => s.recAdd (base + 576 + binOf 64 ((x.2 + 5120) / 256)) 1) s
  (s.declaredCells p).foldl (fun s x =>
    let g := cellIndex p x.1 x.2
    if s.fldSnap (F.EST_CELL_STALE g) == 0 then s.recAdd (base + 640 + s.fldSnap (F.EST_CELL_SOC g) / 2048) 1 else s) s

/-- The junction temperature of a round, Q8.7 °C. -/
def State.junctionMax (s : State) : Option Int := s.derateSource 3

/-- Charge and energy of a string at a round with a new snapshot (R440). -/
def State.recThroughput (s : State) (p : Nat) : State :=
  let q : BitVec 64 := BitVec.ofNat 64 (s.fldSnap (F.AFE_S_QCUM_LO_VALUE p) + 2 ^ 32 * s.fldSnap (F.AFE_S_QCUM_HI_VALUE p))
  let was := s.rcd.qPrev.getD p none
  let s : State := { s with rcd := { s.rcd with qPrev := setAt s.rcd.qPrev p (some q) } }
  match was with
  | none => s
  | some w =>
    let dq := (q - w).toInt
    let mons := (List.range (s.monCount p)).map fun m => 32 * p + m
    let stale := mons.any fun i => s.fldSnap (F.SWP_STACK_STALE i) == 1
    let v := mons.foldl (fun a i => a + s.fldSnap (F.SWP_STACK_VOLT i)) 0
    let base := 680 * p + 672
    let side := if 0 < dq then 0 else 1
    let s := s.recAdd (base + side) dq.natAbs
    if stale then s else s.recAdd (base + 2 + side) (roundNear ((dq.natAbs * v : Nat) : Int) (2 ^ 24 * 10000)).toNat

/-! Extremes (R442). -/

/-- An extreme is replaced by a strictly more extreme value; `high` says which way. -/
def State.recExtreme (s : State) (i : Nat) (high : Bool) (v : Int) (index : Nat) : State :=
  let better := match s.rcd.extremes.getD i none with
    | none => true
    | some x => if high then decide (x.value < v) else decide (v < x.value)
  if better then
    { s with rcd := { s.rcd with
      extremes := setAt s.rcd.extremes i (some { value := v, index, hours := s.fld F.REC_HOURS_VALUE, cycles := s.fld F.REC_CYCLES_VALUE })
      dirty := true } }
  else s

/-- The extremes of a string. -/
def State.extremeString (s : State) (p : Nat) : State :=
  let s := (s.snapCells p).foldl (fun s x => (s.recExtreme (6 * p) true x.2 x.1).recExtreme (6 * p + 1) false x.2 x.1) s
  let s := (s.snapPoints p).foldl (fun s x => (s.recExtreme (6 * p + 2) true x.2 x.1).recExtreme (6 * p + 3) false x.2 x.1) s
  if s.strState p == ssClosed then
    let i := s.snapCurrent p
    if 0 < i then s.recExtreme (6 * p + 4) true i p else if i < 0 then s.recExtreme (6 * p + 5) true (- i) p else s
  else s

/-- The extremes of the bank; 0 stands for an insulation result that is not available. -/
def State.extremeBank (s : State) : State :=
  let s := match s.junctionMax with
    | some t => s.recExtreme 48 true t 0
    | none => s
  let s := s.recExtreme 49 true (s.fld F.PRT_IMD_U_U) 0
  s.recExtreme 50 false (if s.fld F.PRT_IMD_STAT_RESULT = 0 then 0 else min (s.fld F.PRT_IMD_R_RP) (s.fld F.PRT_IMD_R_RN)) 0

/-- HISTOGRAM_UPDATE: one round of the recorder on a snapshot not older than 2 s (R439, R440, R442). -/
def State.recAccumulate (s : State) : State :=
  let strs := (List.range 8).filter fun p => s.declared p
  let fresh := s.latest.epoch != s.rcd.usedEpoch
  let s := strs.foldl (fun s p => s.binString p) s
  let s := s.recAdd (5440 + binOf 17 (s.fld F.DSP_LIM_STEP_STEP)) 1
  let s := match s.junctionMax with
    | some t => s.recAdd (5457 + binOf 32 ((t + 5120) / 640)) 1
    | none => s
  let s := if fresh then strs.foldl (fun s p => s.recThroughput p) s else s
  let s : State := { s with rcd := { s.rcd with usedEpoch := s.latest.epoch } }
  (strs.foldl (fun s p => s.extremeString p) s).extremeBank

/-- The staging is lost (R448). -/
def State.recLose (s : State) : State :=
  let hours := s.fld F.REC_HOURS_VALUE
  ({ s with rcd := { s.rcd with acc := [], lost := s.rcd.lost + (hours - s.rcd.accFrom), accFrom := hours } } : State).event Ev.REC_LOST

/-- The recorder's part of a housekeeping round: accumulation, a fold a hold has delayed, and a counter block where something changed (R439, R443, R446). -/
def State.recRound (s : State) (m : RecMedia) (tc : Tc) : State :=
  let s := if m.ecc then s.recLose else s
  let s : State :=
    if s.latest.epoch == 0 || decide (500000000 < (tc - s.latest.tc).toNat) then { s with rcd := { s.rcd with unrec := s.rcd.unrec + 1 } }
    else s.recAccumulate
  if s.rcd.foldDue && !s.flag F.REC_STAT_HOLD then s.recFold 1 m
  else if s.rcd.dirty then s.writeBlock m.fram m.health else s

/-- A commit point is counted; a round is due at the first after the start and at every 100th from there (R309). -/
def State.countRound (s : State) : State :=
  let n := s.thm.count % 100 + 1
  { s with thm := { s.thm with count := n, due := s.thm.due || n == 1 } }

/-- A housekeeping round is due, and the active lane's firmware is in charge. -/
def State.roundDue (s : State) : Bool := s.lan.fw && !s.flag F.LAN_STAT_MGMT_PEND && s.thm.due

/-- HOUSEKEEPING_ROUND (R309, R439). -/
def execHousekeepingRound (m : RecMedia) (tc : Tc) (s : State) : Host.Outcome State Fault Refusal :=
  if s.roundDue then
    let s : State := { s with thm := { s.thm with due := false } }
    let s := if s.blockDormant 11 then s else s.thermalRound
    .next (if s.recRuns then s.recRound m tc else s)
  else .next s

/-! Hours (R437, R438). -/

/-- Seconds of the present 0.1 h at an instant, at most 359. -/
def State.hoursRemainder (s : State) (tc : Tc) : Nat := min 359 (s.rcd.remSec + (tc - s.rcd.remTc).toNat / 250000000)

/-- HOURS_INCREMENT (R438): a completed 0.1 h of operation. -/
def execHoursIncrement (tc : Tc) (s : State) : Host.Outcome State Fault Refusal :=
  if s.lidHeld then
    let n := (s.fld F.REC_HOURS_VALUE + 1) % 2 ^ 32
    .next (({ s with rcd := { s.rcd with hoursPair := some (n, 0), remSec := 0, remTc := tc } } : State).put F.REC_HOURS_VALUE n)
  else .next s

/-- The pair is written at power-fail detect (R438). -/
def State.hoursSave (s : State) (tc : Tc) : State :=
  { s with rcd := { s.rcd with hoursPair := some (s.fld F.REC_HOURS_VALUE, s.hoursRemainder tc) } }

/-! Reading and export (R446). -/

/-- States of a load (REC_RD_STAT). -/
def rdLoading : Nat := 1
def rdLoaded : Nat := 2
def rdFailed : Nat := 3

/-- A load ends without filling the window. -/
def State.recLoadFail (s : State) (result : Nat) : State :=
  let s : State := { s with rcd := { s.rcd with loading := none } }
  ((s.put F.REC_RD_STAT_STATE rdFailed).put F.REC_RD_STAT_RESULT result).put F.REC_STAT_BUSY 0

/-- A write of REC_RD_SEL (R446). -/
def State.recLoad (s : State) (v : Word) : State :=
  let s := (s.wr F.REC_RD_SEL_VALUE.addr v).bump F.REC_RD_BEG_VALUE
  let q := v.toNat
  if q ≠ 0 ∧ (q < s.fld F.REC_SEQ_BEGIN_VALUE ∨ s.fld F.REC_SEQ_END_VALUE < q ∨ s.fld F.REC_SEQ_BEGIN_VALUE = 0) then s.recLoadFail 1
  else (({ s with rcd := { s.rcd with loading := some q } } : State).put F.REC_RD_STAT_STATE rdLoading).put F.REC_STAT_BUSY 1

/-- RECORD_LOAD (R446). -/
def execRecordLoad (v : Word) (s : State) : Host.Outcome State Fault Refusal := .next (if s.recRuns then s.recLoad v else s)

/-- RECORD_LOAD_DONE (R446): the window is filled and END equals BEG; a read error or a bad CRC fails the load. -/
def execRecordLoadDone (error : Bool) (s : State) : Host.Outcome State Fault Refusal :=
  match s.rcd.loading with
  | none => .next s
  | some q =>
    if error && q != 0 then .next (s.recLoadFail 3)
    else
      let l := if q = 0 then s.foldRecord 3 0 (s.fld F.REC_SEQ_END_VALUE) else (s.recordOf q).getD []
      if recordValid l then
        let s : State := { s with rcd := { s.rcd with loading := none, window := l } }
        let s := ((s.put F.REC_RD_STAT_STATE rdLoaded).put F.REC_RD_STAT_RESULT 0).put F.REC_STAT_BUSY 0
        .next (s.put F.REC_RD_END_VALUE (s.fld F.REC_RD_BEG_VALUE))
      else .next (s.recLoadFail 2)

/-- A word of the read window; bytes beyond the record read 0 (REC_RD_Wk). -/
def State.recWindow (s : State) (k : Nat) : Word := BitVec.ofNat 32 (leAt s.rcd.window (4 * k) 4)

/-- A write of REC_HOLD (R446). -/
def State.recHold (s : State) (key : Word) (tc : Tc) : State :=
  if key = 0xB01D#32 then ({ s with rcd := { s.rcd with holdTc := tc } } : State).put F.REC_STAT_HOLD 1
  else if key = 0x0E1D#32 then s.put F.REC_STAT_HOLD 0
  else s

/-- HOLD_START (R446). -/
def execHoldStart (key : Word) (tc : Tc) (s : State) : Host.Outcome State Fault Refusal :=
  .next (if s.recRuns && key == 0xB01D#32 then s.recHold key tc else s)

/-- HOLD_RELEASE (R446). -/
def execHoldRelease (key : Word) (s : State) : Host.Outcome State Fault Refusal :=
  .next (if s.recRuns && key == 0x0E1D#32 then s.recHold key 0 else s)

/-- HOLD_TIMEOUT (R446): HOLD_MAX minutes. -/
def execHoldTimeout (tc : Tc) (s : State) : Host.Outcome State Fault Refusal :=
  .next (if s.recRuns && s.flag F.REC_STAT_HOLD && passed tc s.rcd.holdTc (s.fld F.REC_CFG_HOLD_MAX * minuteTicks) then s.put F.REC_STAT_HOLD 0 else s)

/-! Clearing (R447). -/

/-- The first 32 bytes of the token. -/
def State.clrToken (s : State) : List Byte := (List.range 8).flatMap fun k => bytesLe 4 (s.fld (F.REC_CLR_TOKEN_BYTES k))

/-- REC_CLR_NONCE takes a new random value (R447; log entry 3). -/
def State.newNonce (s : State) : State := (s.put F.REC_CLR_NONCE_VALUE s.free.toNat).took

/-- The first refusal that applies; 0 for none (R447). `signed` says that the token's signature verifies. -/
def State.clrRefusal (s : State) (signed : Bool) : Nat :=
  let t := s.clrToken
  let scope := leAt t 2 2
  if leAt t 0 2 != 0x5243 || scope % 16 == 0 then 1
  else if leAt t 4 4 != s.fld F.REC_CLR_NONCE_VALUE then 2
  else if leAt t 8 6 != s.fld F.ETH_MAC_LO_VALUE + 2 ^ 32 * s.fld F.ETH_MAC_HI_VALUE then 3
  else if !signed then 4
  else if s.flag F.REC_STAT_HOLD then 5
  else if s.flag F.REC_STAT_FLASH_DEG || s.flag F.REC_STAT_FRAM_DEG then 6
  else if s.flag F.REC_STAT_BUSY then 7
  else 0

/-- The scopes of a clearing are zeroed (R447). -/
def State.clearScopes (s : State) (scope : Nat) (good : Bool) : State :=
  let s : State := if scope.testBit 0 then { s with rcd := { s.rcd with acc := [], total := [], unrec := 0 } } else s
  let s : State := if scope.testBit 1 then { s with rcd := { s.rcd with counters := (Cells.set [] cntClear (s.rcd.counters.get cntClear)) } } else s
  let s : State := if scope.testBit 2 then { s with rcd := { s.rcd with extremes := List.replicate 51 none } } else s
  if scope.testBit 3 then s.writeHealth (s.healthWord 0 0) good else s

/-- A write of REC_CLR_CTRL (R447). -/
def State.recClear (s : State) (key : Word) (signed : Bool) (m : RecMedia) : State :=
  if key != 0xC1EA#32 then s
  else
    let c := s.clrRefusal signed
    if c ≠ 0 then (s.put F.REC_CLR_STAT_REFUSE c).newNonce
    else
      let t := s.clrToken
      let s := s.recFold 2 m
      let s := s.writeRecord_ (s.clearRecord (s.fld F.REC_SEQ_END_VALUE + 1) (leAt t 2 2) (leAt t 16 4) (leAt t 4 4)) m
      let s := ((s.clearScopes (leAt t 2 2) m.health).writeBlock 0 m.health).writeBlock 0 m.health
      let s : State := { s with rcd := { s.rcd with counters := s.rcd.counters.set cntClear (s.rcd.counters.get cntClear + 1) } }
      let s := s.put F.REC_CLR_STAT_COUNT s.clearCount
      ((s.writeBlock m.fram m.health).event Ev.REC_CLEARED).newNonce

/-- RECORD_CLEAR (R447). -/
def execRecordClear (key : Word) (signed : Bool) (m : RecMedia) (s : State) : Host.Outcome State Fault Refusal :=
  .next (if s.recRuns then s.recClear key signed m else s)

/-! Start and sleep (R437, R438, R445, R448). -/

/-- The totals a FOLD record carries. -/
def recordTotals (l : List Byte) : Cells 64 :=
  (List.range 5504).foldl (fun m i => m.set i (BitVec.ofNat 64 (leAt l (64 + 8 * i) 8))) []

/-- The newest valid record at or before q, among q and the 16 before it (R445). -/
def State.newestRecord (s : State) (q : Nat) : Nat → Nat → Option Nat
  | 0, _ => none
  | fuel + 1, i =>
    if q ≤ i then none
    else match s.recordOf (q - i) with
      | some l => if recordValid l then some (q - i) else s.newestRecord q fuel (i + 1)
      | none => s.newestRecord q fuel (i + 1)

/-- The totals in effect at a record: its own where it is a fold; behind a CLEAR record those of the fold before it, but for a cleared scope (R445, R447). -/
def State.totalsAt (s : State) : Nat → Nat → Cells 64
  | 0, _ => []
  | fuel + 1, q =>
    match s.recordOf q with
    | none => []
    | some l => if leAt l 6 1 = 1 then recordTotals l else if (leAt l 64 4).testBit 0 then [] else s.totalsAt fuel (q - 1)

/-- The recorder at a start, with the operating hours, the power-cycle count and the health word (R438, R443, R445, R448). `cycle` says that the power-cycle count rises. -/
def State.recStart (s : State) (cycle : Bool) (tc : Tc) : State :=
  let r := s.rcd
  let block := s.newestBlock
  let hours := match r.hoursPair with
    | some p => p
    | none => (match block with
      | some b => leAt b 8 4
      | none => 0, 0)
  let cycles := match r.cyclesPair with
    | some c => c
    | none => match block with
      | some b => leAt b 12 4
      | none => 0
  let cycles := if cycle then (cycles + 1) % 2 ^ 32 else cycles
  let counters : Cells 32 := match block with
    | some b => (List.range 52).foldl (fun m i => m.set i (BitVec.ofNat 32 (leAt b (32 + 4 * i) 4))) []
    | none => []
  let extremes := match block with
    | some b => (List.range 51).map fun i => extremeOf ((b.drop (1056 + 16 * i)).take 16)
    | none => List.replicate 51 none
  let retired := match block with
    | some b => ((List.range 64).map fun i => leAt b (2080 + 4 * i) 4).filter fun k => decide (k < recSlots)
    | none => []
  let named := match block with
    | some b => leAt b 2336 4
    | none => 0
  let s : State := { s with rcd := { Rec.reset with
    flash := r.flash
    blockA := r.blockA
    blockB := r.blockB
    health := r.health
    fwVersion := r.fwVersion
    counters, extremes, retired
    hoursPair := some hours
    cyclesPair := some cycles
    remSec := hours.2
    remTc := tc
    tryFlash := true
    tryFram := true
    accFrom := hours.1
    lastFold := hours.1 } }
  let q := (s.newestRecord named 17 0).getD 0
  let rec0 := (s.recordOf q).getD []
  let lost := if q = 0 then 0 else hours.1 - leAt rec0 12 4
  let s : State := { s with rcd := { s.rcd with
    total := s.totalsAt 17 q
    lost
    unrec := if q = 0 then 0 else leAt rec0 48 4 } }
  let held := (s.rcd.flash.map fun e => leAt e.2 8 4).filter fun x => decide (1 ≤ x) && decide (x ≤ q) && decide (q < x + recSlots)
  let s := ((s.put F.REC_HOURS_VALUE hours.1).put F.REC_CYCLES_VALUE cycles).put F.REC_SEQ_END_VALUE q
  let s := s.put F.REC_SEQ_BEGIN_VALUE (held.foldl (fun a x => if a = 0 then x else min a x) 0)
  let s := s.wr F.REC_HEALTH_MARK.addr (match s.rcd.health with
    | some w => w
    | none => 0)
  let s := (s.put F.REC_STAT_FLASH_DEG (s.fld F.REC_HEALTH_FLASH_DEG)).put F.REC_STAT_FRAM_DEG (s.fld F.REC_HEALTH_FRAM_DEG)
  ((s.put F.REC_CLR_STAT_COUNT s.clearCount).eventIf (0 < lost) Ev.REC_LOST).newNonce

/-- Accumulation begins once the recorder's block is distributed. -/
def State.recRun (s : State) : State := s.putFlag F.REC_STAT_RUN (!s.blockDormant 19)

/-- Entry to a sleep state ends a hold and folds (R445, R446). -/
def State.recSleep (s : State) (m : RecMedia) : State :=
  if s.recRuns then (s.put F.REC_STAT_HOLD 0).recFold (if s.rcd.foldDue then 1 else 0) m else s

end Sys2Proof.Machine
end

