-- ==== Sys2Proof/Machine/Lanes.lean ====
section
/-! DEFINITION. Lanes.lean: the lane states, the referee, the control step of a takeover, the management frames, the rebuild and the safe stop (R339 to R364). -/
namespace Sys2Proof.Machine

open Sys2Proof

/-! Lane states (R341). -/

def lnOff : Nat := 0
def lnBoot : Nat := 1
def lnStandby : Nat := 2
def lnCheck : Nat := 3
def lnActive : Nat := 4
def lnRestore : Nat := 5
def lnRequal : Nat := 6
def lnFaulted : Nat := 7

/-- The other lane. -/
def otherLane : Lane → Lane
  | .a => .b
  | .b => .a

def laneField : Lane → Field
  | .a => F.LAN_STAT_A_STATE
  | .b => F.LAN_STAT_B_STATE

def laneFaultField : Lane → Field
  | .a => F.LAN_FAULT_A
  | .b => F.LAN_FAULT_B

/-- The state of a lane. -/
def State.laneState (s : State) (l : Lane) : Nat := s.fld (laneField l)

/-- The Lid holder, or the lane that held the Lid last (LAN_STAT.ACTIVE). -/
def State.activeLane (s : State) : Lane := if s.flag F.LAN_STAT_ACTIVE then .b else .a

/-- STBY_OK: the other lane is in STANDBY or CHECK. -/
def State.showStandby (s : State) : State :=
  let st := s.laneState (otherLane s.activeLane)
  s.putFlag F.LAN_STAT_STBY_OK (st == lnStandby || st == lnCheck)

/-- The level of a lane, none while it has no power. -/
def Lan.putLevel (x : Lan) (l : Lane) (pl : Option Nat) : Lan :=
  match l with
  | .a => { x with levelA := pl }
  | .b => { x with levelB := pl }

/-- The level at which a lane runs in a state: PL3 while it boots and in RESTORE, PL1 in CHECK and REQUAL, LAN_STAT.PL in ACTIVE (R362, R456). -/
def State.levelIn (s : State) (st : Nat) : Option Nat :=
  if st = lnBoot || st = lnRestore then some 3
  else if st = lnCheck || st = lnRequal then some 1
  else if st = lnActive then some (s.fld F.LAN_STAT_PL)
  else none

/-- A lane takes a state, and the level that goes with it. -/
def State.setLane (s : State) (l : Lane) (st : Nat) : State :=
  let s := (s.put (laneField l) st).showStandby
  { s with lan := s.lan.putLevel l (s.levelIn st) }

/-- A lane is FAULTED with a class (LAN_FAULT). -/
def State.faultLane (s : State) (l : Lane) (cls : Nat) : State := (s.setLane l lnFaulted).put (laneFaultField l) cls

/-- The level of the active lane in effect. -/
def State.setLevel (s : State) (pl : Nat) : State :=
  let s := s.put F.LAN_STAT_PL pl
  { s with lan := s.lan.putLevel s.activeLane (some pl) }

/-- The firmware and image check values that a lane reported at its boot (R339, R342). -/
def Lan.check (x : Lan) (l : Lane) : Word × Word :=
  match l with
  | .a => x.checkA
  | .b => x.checkB

/-- A lane reports its check values. -/
def Lan.putCheck (x : Lan) (l : Lane) (v : Word × Word) : Lan :=
  match l with
  | .a => { x with checkA := v }
  | .b => { x with checkB := v }

/-- The health check passes: a corrected error does not fail it; an uncorrectable one, a self-test that fails, and check values other than those reported at boot do (R342). -/
def State.checkPasses (s : State) (l : Lane) (x : LaneCheck) : Bool :=
  x.selfTest && !x.uncorrectable && (x.fw, x.image) == s.lan.check l

/-! Management frames (R352). -/

/-- The register bits that the active lane's firmware holds and a frame carries: object service counters, live-set sequence, outcome and events, dispatch beside the limit set, the thermal strategy beside the sensors and the cause word, the sequence program, safe data, the recorder's events (R352, log entry 67). -/
def heldMask (a : Nat) : Word :=
  let b := a / 0x10000
  if a == 0x10000 then 0xFFFFFFFF#32
  else if a == 0x20044 then 0xFFFF0000#32
  else if b == 2 then (if 0x20048 ≤ a && a ≤ 0x20064 then 0xFFFFFFFF#32 else 0#32)
  else if b == 10 then
    if 0xa0024 ≤ a && a ≤ 0xa002c then 0#32
    else if 0xa0100 ≤ a && (a % 0x20 == 8 || a % 0x20 == 12) then 0#32
    else 0xFFFFFFFF#32
  else if b == 11 then (if a == 0xb0000 then 0xFFFFDFFF#32 else if a == 0xb0004 || a == 0xb0030 then 0#32 else 0xFFFFFFFF#32)
  else if b == 12 then
    if a == 0xc0048 || a == 0xc004c then 0xFFFFFFFF#32
    else if 0xc0100 ≤ a && a % 0x10 != 0 then 0xFFFFFFFF#32
    else 0#32
  else if b == 14 then 0xFFFFFFFF#32
  else if b == 19 then (if 0x130040 ≤ a && a ≤ 0x130048 then 0xFFFFFFFF#32 else 0#32)
  else if a == F.TIM_STAT_SERVO.addr then 0xFFFFFFFF#32
  else if a == (F.CAN_CTRL_EN 0).addr || a == (F.CAN_CTRL_EN 1).addr then 0xFFFFFFFF#32
  else 0#32

/-- The addresses that may hold such bits. -/
def heldAddrs : List Nat :=
  ([1, 2, 10, 11, 12, 14, 15, 17, 19] : List Nat).flatMap fun b => (objBlock b).flatMap fun r => r.addrs.filter fun a => heldMask a != 0

/-- The live set in effect: address and value of every RWS object (R352 section 0x01). -/
def State.liveSet (s : State) : List (Nat × Word) := rwsAddrs.map fun a => (a, s.rd a)

/-- A frame of the state after step 3 of R38 at a commit point. -/
def State.capture (s : State) (tc : Tc) : Frame :=
  { commits := BitVec.ofNat 32 (s.fld F.LAN_COMMIT_COUNT)
    placement := s.placement
    snapshot := BitVec.ofNat 32 (s.fld F.OBJ_EPOCH_LATEST)
    phase := s.phaseAt tc
    live := s.liveSet
    objs := s.objs
    dsp := s.dsp
    thm := s.thm
    seq := s.seq
    conns := s.saf.conns
    tim := s.tim
    rcd := s.rcd
    held := s.est.held
    wb := s.est.wb
    xfer := s.upd.xfer
    confirming := s.cfg.confirmWriting }

/-- A frame is begun at a commit point; one still being written is abandoned, and its area stays invalid (R352). What precedes the CRC is issued as one write (log entry 185). -/
def State.beginFrame (s : State) (tc : Tc) : State :=
  let s := s.eventIf s.frames.due.isSome Ev.LAN_FRAME_MISS
  let target := s.frameTarget
  let f := s.capture tc
  let bytes := f.bytes s.freeCount
  let s : State := { s with frames := { s.frames with due := some (f, bytes, tc) }, lan := { s.lan with final := s.lan.planned } }
  ((s.setArea target none).potWrite (areaBase target) bytes tc).took

/-! Safe stop (R46, R360). -/

/-- Rings and networks fall silent. -/
def State.silence (s : State) : State :=
  let s := forUpTo 8 (fun p s => s.portDark p) s
  let s := (forUpTo 2 (fun c s => if s.canState c = canOff then s else s.canDisable c) s).ethWithdraw
  (s.ethLinkSet 0 false).ethLinkSet 1 false

/-- Both lanes are held in reset: OFF unless FAULTED; no lane holds the Lid. -/
def State.lanesOff (s : State) : State :=
  let off := fun (l : Lane) (s : State) => if s.laneState l = lnFaulted then s else s.setLane l lnOff
  let s : State := { s with
    lan := { s.lan with pins := lidPins none, back := lidPins none, clear := none, odd := none, fw := false, control := none, restoring := none, rebuilt := false, planned := false, final := false }
    obj := { s.obj with queue := [], running := false }
    frames := { s.frames with due := none } }
  (off .b (off .a s)).cteHalt

/-- A safe stop with its cause and class (R360, R361). -/
def State.safeStop (s : State) (cause cls : Nat) (tc : Tc) : State :=
  let s := (s.put F.LAN_SS_CAUSE_CAUSE cause).put F.LAN_SS_CAUSE_CLASS cls
  let s := ((s.allSafe tc).silence.updWithdraw).lanesOff
  { s with lan := { s.lan with stopTc := some tc }, pwr := { s.pwr with state := .safeStop, request := none } }

/-! The control step (R353). -/

/-- A copy that was being written to FRAM is left invalid (R230). -/
def State.loseCopy (s : State) : State :=
  if s.est.wb.isSome then
    (({ s with est := { s.est with wb := none } } : State).putFlag F.EST_STAT_WB_BUSY false).staleTransfer 8
  else s

/-- A confirmation record that was being written is not confirmed. -/
def State.loseRecord (s : State) : State :=
  if s.cfg.confirmWriting then ({ s with cfg := { s.cfg with confirmWriting := false } } : State).staleTransfer 8 else s

/-- A cause word that was being cleared stays set. -/
def State.loseCause (s : State) : State :=
  if s.thm.clearing then ({ s with thm := { s.thm with clearing := false } } : State).staleTransfer 8 else s

/-- Each write to FRAM or eMMC in progress is a discarded transfer of sink 8 (R356). -/
def State.loseWrites (s : State) : State :=
  let s := s.loseCopy
  let s := if s.upd.xfer.isSome then s.staleTransfer 8 else s
  s.loseRecord.loseCause

/-- Coils whose energising waits for a test pulse are not energised without the Lid: a closing sequence that has them in CLOSE_MN or CLOSE_PC is held (R46, R259). -/
def State.holdCoils (s : State) : State :=
  let ks := s.saf.energiseDue
  ks.foldl (fun s k => if k < 24 then s.setIsl (k / 3) { s.isl (k / 3) with held := true } else s) { s with saf := { s.saf with energiseDue := [] } }

/-- A management frame whose last writes are in flight is a discarded transfer of sink 1; what of it waits in the write delay buffer is counted there (R350, R356). -/
def State.loseFrame (s : State) (inFlight : Bool) : State :=
  let s := if s.frames.due.isSome && !inFlight then s.staleTransfer 1 else s
  { s with frames := { s.frames with due := none } }

/-- An on-line change that has not been applied is abandoned (R378). -/
def State.loseChange (s : State) : State :=
  if s.seq.change.isSome then
    (({ s with seq := { s.seq with change := none } } : State).put F.SEQ_OLC_STAT_CODE 0x05).event Ev.SEQ_OLC_DONE
  else s

/-- What the displaced lane leaves behind is given up (R43, R100, R101, R350, R356, R357, R446, R474). -/
def State.withdraw (s : State) (l : Lane) : State :=
  let inFlight := s.pot.buffer.any fun w => w.lane == l && decide (areaBase 0 ≤ w.addr)
  let s := (((s.cteHalt.potDiscard l).loseFrame inFlight).dropStaged.lsWithdraw).loseWrites.loseChange.holdCoils
  let s := s.canWithdraw.ethWithdraw.updWithdraw
  ({ s with obj := { s.obj with queue := [] } } : State).put F.REC_STAT_HOLD 0

/-- The control step (R353): the Lid leaves lane l; the other lane goes to RESTORE and loads the register image; without a usable one the class is SP_IMAGE (R351). -/
def State.controlStep (s : State) (l : Lane) (cls : Nat) (tc : Tc) : State :=
  let n := otherLane l
  let s := s.writeDue (tc.toNat + 1)
  let s : State := { s with lan := { s.lan with
    pins := lidPins none
    back := lidPins none
    clear := some tc
    odd := none
    fw := false
    control := some (l, cls, tc)
    restoring := none
    rebuilt := false
    planned := false
    final := false
    beats := 0
    wrong := false
    watched := false } }
  let s := ((s.withdraw l).setLane n lnRestore).put F.LAN_STAT_MGMT_PEND 1
  let s := ((s.event Ev.LAN_TAKEOVER).bump F.LAN_CNT_TAKE).put F.LAN_LAST_CLASS cls
  let s := (s.putFlag F.LAN_LAST_FROM (l == .b)).wr64 F.LAN_LAST_TC_LO_VALUE.addr tc
  if s.bestImage.isNone then (s.faultLane n 12).safeStop 2 12 tc else s

/-- Classes of fault after which a lane may requalify (R346). -/
def transient (cls : Nat) : Bool := cls == 1 || cls == 2 || cls == 3 || cls == 6 || cls == 7

/-- A fault of the active lane with takeover allowed (R341). -/
def State.takeover (s : State) (l : Lane) (cls : Nat) (tc : Tc) : State :=
  let s := s.put (laneFaultField l) cls
  let s :=
    if transient cls && s.fld F.LAN_CNT_REQUAL < s.fld F.LAN_CFG_REQUAL_MAX then (s.setLane l lnRequal).bump F.LAN_CNT_REQUAL
    else s.setLane l lnFaulted
  s.controlStep l cls tc

/-- The referee's decision on a fault of a lane (R341, R348). -/
def State.referee (s : State) (l : Lane) (cls : Nat) (tc : Tc) : State :=
  let n := otherLane l
  let st := s.laneState l
  if cls == 11 || cls == 12 || cls == 13 then (s.faultLane l cls).safeStop 2 cls tc
  else if st = lnActive then
    if s.laneState n == lnStandby || s.laneState n == lnCheck then s.takeover l cls tc
    else (s.faultLane l cls).safeStop 1 cls tc
  else if st = lnRestore then (s.faultLane l 13).safeStop 2 13 tc
  else if st = lnCheck then (s.faultLane l 10).event Ev.LAN_STBY_LOST
  else if st = lnStandby || st = lnBoot || st = lnRequal then
    let s := s.faultLane l cls
    if s.laneState n = lnFaulted then s.safeStop 3 cls tc else s
  else s

/-- The lanes are powered and released from reset (R315, R339, R454). -/
def State.lanesPowered (s : State) : Bool := (s.pwr.state == .starting || s.pwr.state == .running) && s.pwr.held.isNone

/-- A fault signal that the referee takes: a class of 1 to 13 of a lane that is neither OFF nor FAULTED. -/
def State.takesFault (s : State) (l : Lane) (cls : Fin 16) : Bool :=
  decide (1 ≤ cls.val) && decide (cls.val ≤ 13) && s.laneState l != lnOff && s.laneState l != lnFaulted

/-- Classes that end in safe stop whatever lane they are of (R348). -/
def moduleWide (cls : Nat) : Bool := cls == 11 || cls == 12 || cls == 13

/-- The lower class of the two lanes is recorded as that of a safe stop (R348). -/
def State.recordLower (s : State) : State :=
  if s.pwr.state == .safeStop then s.put F.LAN_SS_CAUSE_CLASS (min (s.fld F.LAN_FAULT_A) (s.fld F.LAN_FAULT_B)) else s

/-- Two fault signals on the same island clock (R348): of one lane the lower class counts, and a module-wide class among them ends in safe stop; with a fault of each lane the one that is not active comes first, so that no takeover is allowed. -/
def State.referee2 (s : State) (l : Lane) (c : Nat) (m : Lane) (d : Nat) (tc : Tc) : State :=
  if m == l then
    if moduleWide c || moduleWide d then (s.faultLane l (min c d)).safeStop 2 (min c d) tc else s.referee l (min c d) tc
  else if moduleWide c || moduleWide d then (((s.faultLane l c).faultLane m d).safeStop 2 (min c d) tc)
  else
    let (first, second) := if s.laneState l = lnActive || s.laneState l = lnRestore then ((m, d), (l, c)) else ((l, c), (m, d))
    let s := s.referee first.1 first.2 tc
    (if s.pwr.state == .safeStop then s.faultLane second.1 second.2 else s.referee second.1 second.2 tc).recordLower

/-- LANE_FAULT (R346, R348): a fault signal of a lane, with another one that reaches the referee on the same island clock. -/
def execLaneFault (x : FaultSignal) (also : Option FaultSignal) (tc : Tc) (s : State) : Host.Outcome State Fault Refusal :=
  if !s.lanesPowered || !s.takesFault x.lane x.cls then .next s
  else match also with
    | some y => .next (if s.takesFault y.lane y.cls then s.referee2 x.lane x.cls.val y.lane y.cls.val tc else s.referee x.lane x.cls.val tc)
    | none => .next (s.referee x.lane x.cls.val tc)

/-- A lane's pair is de-asserted: _P at 0 and _N at 1 (R343). -/
def pairOff (x : LidPins) (l : Lane) : Bool :=
  match l with
  | .a => !x.ap && x.an
  | .b => !x.bp && x.bn

/-- What the Lid's signals read back at the gates: since when they disagree with the levels driven, and since when the pair of a displaced lane reads de-asserted (R344). -/
def State.takeBack (s : State) (back : LidPins) (tc : Tc) : State :=
  { s with lan := { s.lan with
      back
      odd := if back == s.lan.pins then none else some (s.lan.odd.getD tc)
      clear := match s.lan.control with
        | some (l, _) => if pairOff back l then some (s.lan.clear.getD tc) else none
        | none => s.lan.clear } }

/-- An instant lies at least n ticks back. -/
def heldFor (t : Option Tc) (n : Nat) (tc : Tc) : Bool :=
  match t with
  | some x => passed tc x n
  | none => false

/-- The lane whose fault a readback that disagrees is: the Lid holder, within a control step the lane that is to have the Lid, at a start the one whose pair disagrees (log entry 183). -/
def State.lidLane (s : State) : Lane :=
  match s.lan.lid with
  | some l => l
  | none => if s.lan.control.isSome then otherLane s.activeLane else if pairOff s.lan.back .a then .b else .a

/-- LID_READBACK_FAULT (R344): a readback of the Lid's signals; one that has disagreed with the levels driven for 20 island clocks, 50 ticks, is class LID and ends in safe stop; in safe stop nothing more happens. -/
def execLidReadbackFault (x : LidReadAt) (s : State) : Host.Outcome State Fault Refusal :=
  if !s.lanesPowered then .next s
  else
    let s := s.takeBack x.back x.tc
    .next (if heldFor s.lan.odd 50 x.tc then (s.faultLane s.lidLane 11).safeStop 2 11 x.tc else s)

/-- The firmware of the Lid holder is in charge. -/
def State.inCharge (s : State) : Bool := s.lidHeld && s.lan.fw && !s.flag F.LAN_STAT_MGMT_PEND

/-- The YIELD key from active lane firmware, from the Lid holder with the current placement epoch (R25, R346). -/
def State.yield (s : State) (o : Origin) (tc : Tc) : State :=
  if (s.portRefusal o).isNone && s.lan.fw then s.referee o.lane 7 tc else s

/-- YIELD (R346). -/
def execYield (x : OriginAt) (s : State) : Host.Outcome State Fault Refusal := .next (s.yield x.origin x.tc)

/-- A heartbeat: the low 16 bits of LAN_COMMIT, exactly once between two commit points, from the Lid holder with the current placement epoch (R25, R347). -/
def State.heartbeat (s : State) (v : Nat) (o : Origin) : State :=
  if (s.portRefusal o).isNone && s.lan.fw then
    { s with lan := { s.lan with beats := s.lan.beats + 1, wrong := s.lan.wrong || v != s.fld F.LAN_COMMIT_COUNT % 2 ^ 16 } }
  else s

/-- HEARTBEAT_WRITE (R347). -/
def execHeartbeatWrite (x : Heartbeat) (s : State) : Host.Outcome State Fault Refusal := .next (s.heartbeat x.value.toNat x.origin)

/-- The heartbeats since the last commit point are judged; two consecutive misses are class WATCHDOG (R347). -/
def State.watchHeartbeat (s : State) (tc : Tc) : State :=
  match s.lan.lid with
  | some l =>
    if s.lan.fw then
      let miss := s.lan.beats != 1 || s.lan.wrong
      let n := if miss then s.fld F.LAN_HB_MISS + 1 else 0
      let s : State := { s with lan := { s.lan with beats := 0, wrong := false } }
      let s := s.put F.LAN_HB_MISS (min 2 n)
      if 2 ≤ n then s.referee l 6 tc else s
    else s
  | none => s

/-! Planned switch (R359). -/

/-- A second in ticks. -/
def secTicks : Nat := 250000000

/-- The planned-switch key is accepted: the other lane in STANDBY, the active lane active for 1 s since its management step or READY. -/
def State.plannedSwitch (s : State) (tc : Tc) : State :=
  if s.inCharge && s.laneState (otherLane s.activeLane) == lnStandby &&
      (s.flag F.PWR_STAT_READY || s.lan.managed) && passed tc s.lan.mgmtTc secTicks then
    { s with lan := { s.lan with planned := true } }
  else s

/-- PLANNED_SWITCH (R359): a write through the service port within a session. -/
def execPlannedSwitch (tc : Tc) (s : State) : Host.Outcome State Fault Refusal :=
  .next (if s.serviceUp && s.upd.session.isSome then s.plannedSwitch tc else s)

/-- MGMT_FRAME_COMPLETE (R352, R359): the CRC, written last, has left the write delay buffer, and the frame is valid; a final frame brings the control step of class PLANNED. -/
def execMgmtFrameComplete (tc : Tc) (s : State) : Host.Outcome State Fault Refusal :=
  match s.frames.due with
  | none => .next s
  | some (f, bytes, t) =>
    if !passed tc t 640 then .next s
    else
      let target := s.frameTarget
      let s := (s.potWrite (areaBase target + bytes.length) (bytesLe 4 (crc32c bytes).toNat) (tc - 640)).potCommit tc
      let s := ({ s with frames := { s.frames with due := none } } : State).setArea target (some f)
      let st := s.laneState (otherLane s.activeLane)
      if s.lan.final then
        let l := s.activeLane
        if st == lnStandby || st == lnCheck then .next ((s.setLane l lnRequal).controlStep l 0 tc)
        else .next { s with lan := { s.lan with planned := false, final := false } }
      else .next s

/-! The new lane (R353 to R355). -/

/-- The new half is ready (R353): its slots and registers are loaded under the old epoch, the placement epoch rises, the Lid goes to the new lane, both register image copies are rewritten. -/
def State.newHalf (s : State) (l : Lane) (cls : Nat) (at_ tc : Tc) : State :=
  let n := otherLane l
  let e := s.placement
  let s := match s.bestImage with
    | some b => s.cteRestore b
    | none => s
  let s := (s.wr 0x10008 (e + 1)).putFlag F.LAN_STAT_ACTIVE (n == .b)
  let s : State := { s with
    lan := { s.lan with pins := lidPins (some n), back := lidPins (some n), clear := none, odd := none, control := none, restoring := some e, readyTc := tc }
    cte := { s.cte with ready := true } }
  let s := s.streamRecheck
  let s := ((s.showStandby.put F.LAN_LAST_TAKE_T (span10ns (tc - at_).toNat)).put F.LAN_LAST_CLASS cls).setLevel 3
  let s := (s.canResume.ethResume).showCte
  ((s.writeImage 0 tc).writeImage 1 tc).showImages

/-- NEW_HALF_READY (R344, R353): both signals of the displaced lane's pair have read back de-asserted for 10 island clocks, 25 ticks. -/
def execNewHalfReady (tc : Tc) (s : State) : Host.Outcome State Fault Refusal :=
  match s.lan.control with
  | some (l, cls, at_) => .next (if heldFor s.lan.clear 25 tc then s.newHalf l cls at_ tc else s)
  | none => .next s

/-- A register bit held by firmware takes its value from the frame. -/
def State.takeHeld (s : State) (f : Frame) (a : Nat) : State :=
  let m := heldMask a
  s.wr a ((s.rd a &&& ~~~m) ||| (f.objs.get a &&& m))

/-- The live-set values of firmware-held objects are written from section 0x01 (R354). -/
def State.takeLive (s : State) (f : Frame) : State :=
  f.live.foldl (fun s e => let m := BitVec.ofNat 32 (rwsMask e.1) &&& heldMask e.1; s.wr e.1 ((s.rd e.1 &&& ~~~m) ||| (e.2 &&& m))) s

/-- The recorder's RAM accumulators and fold position come from the frame; its memories stay; the read window is lost (R352 section 0x07). -/
def recFromFrame (now old : Rec) : Rec :=
  { old with
    flash := now.flash
    retired := now.retired
    blockA := now.blockA
    blockB := now.blockB
    hoursPair := now.hoursPair
    cyclesPair := now.cyclesPair
    health := now.health
    fwVersion := now.fwVersion
    remSec := now.remSec
    remTc := now.remTc
    tryFlash := now.tryFlash
    tryFram := now.tryFram
    loading := none
    window := [] }

/-- The copies that the new lane finds: those on Ethernet, and of those on CAN1 the last of each connection, which its receive object still holds (R354). -/
def heldCopies : List (Nat × Bool × List Byte × Tc) → List (Nat × Bool × List Byte × Tc)
  | [] => []
  | x :: t => if !x.2.1 && t.any (fun y => !y.2.1 && y.1 == x.1) then heldCopies t else x :: heldCopies t

/-- The rebuild from a frame (R354). A submission discarded at the control step keeps its number (R100). -/
def State.rebuild (s : State) (f : Frame) (tc : Tc) : State :=
  let n := s.fld F.CFG_LS_STAT_SEQ
  let keep := s.cfg.abandonedDue
  let on := fun (c : Nat) => s.rd (F.CAN_CTRL_EN c).addr
  let can := (on 0, on 1)
  let s := heldAddrs.foldl (fun s a => s.takeHeld f a) s
  let s := (s.wr (F.CAN_CTRL_EN 0).addr can.1).wr (F.CAN_CTRL_EN 1).addr can.2
  let s := forUpTo 2 (fun c s => s.canCtrl c (f.objs.get (F.CAN_CTRL_EN c).addr)) s
  let s := s.takeLive f
  let s := if keep then s.put F.CFG_LS_STAT_SEQ n else s
  let s : State := { s with
    dsp := { s.dsp with last := f.dsp.last, coldest := f.dsp.coldest, hostTc := f.dsp.hostTc }
    thm := { s.thm with held := f.thm.held, chillHeld := f.thm.chillHeld, pumpOn := f.thm.pumpOn }
    seq := { f.seq with vals := f.seq.kept, change := none, running := false, todo := [], stopping := false, cycleDue := false }
    saf := { s.saf with conns := f.conns }
    tim := { s.tim with sum := f.tim.sum, good := f.tim.good, lastSync := f.tim.lastSync, interval := f.tim.interval, holdTc := f.tim.holdTc }
    rcd := recFromFrame s.rcd f.rcd
    est := { s.est with held := f.held ++ (match f.wb with
      | some w => [w.cause]
      | none => []) } }
  let s := (((s.put F.REC_RD_STAT_STATE 0).invalidateWriting).recCount cntControl).takeRequestFrame
  let s : State := { s with lan := { s.lan with fw := true, rebuilt := true } }
  let copies := heldCopies s.saf.copies
  let s : State := { s with saf := { s.saf with copies := [] } }
  let s := copies.foldl (fun s x => (if x.2.1 then s else s.canTake 1 (s.rxField x.1 4 4)).sdReceive x.1 x.2.1 x.2.2.1 x.2.2.2) s
  (forUpTo 4 (fun c s => s.sdTimeout c tc) s).sdRewrite tc

/-- The frame that a rebuild takes: valid, of the epoch before the control step, of the highest commit count (R354). -/
def State.restoreFrame (s : State) (e : Word) : Option Frame :=
  let ok := fun (f : Option Frame) => f.filter fun x => x.placement == e
  match ok (s.validFrame 0), ok (s.validFrame 1) with
  | some a, some b => if frameNewer b a then some b else some a
  | some a, none => some a
  | none, b => b

/-- REBUILD_COMPLETE (R354): without a valid frame the class is RESTORE. -/
def execRebuildComplete (tc : Tc) (s : State) : Host.Outcome State Fault Refusal :=
  match s.lan.restoring with
  | some e =>
    if s.lan.rebuilt then .next s
    else match s.restoreFrame e with
      | some f => .next (s.rebuild f tc)
      | none => .next ((s.faultLane s.activeLane 13).safeStop 2 13 tc)
  | none => .next s

/-- RESTORE_TIMEOUT (R341): the rebuild has not ended within 8 ms of the ready instant. -/
def execRestoreTimeout (tc : Tc) (s : State) : Host.Outcome State Fault Refusal :=
  .next (if s.lan.restoring.isSome && !s.lan.rebuilt && passed tc s.lan.readyTc (msTicks 8) then (s.faultLane s.activeLane 13).safeStop 2 13 tc else s)

/-- Write-back triggers that were held are started again (R358). -/
def State.restartWrites (s : State) (tc : Tc) : State :=
  let held := s.est.held
  held.foldl (fun s c => s.triggerWb c tc) { s with est := { s.est with held := [] } }

/-- A control step during a sleep entry has abandoned it (R460): ENTRY is cleared, every enabled port enumerates again, channels and functions run again. -/
def State.abandonEntry (s : State) (tc : Tc) : State :=
  if s.flag F.PWR_STAT_ENTRY then
    let s := ((s.put F.PWR_STAT_ENTRY 0).put F.PWR_STAT_TARGET 0)
    let s := forUpTo 8 (fun p s => if s.bit F.DLK_ENABLE_EN p then (s.setPort p { s.port p with idle := true }).reenumPort p tc else s) s
    let s := forUpTo 2 (fun c s => if s.canUsed c then (s.setCanCh c { s.canCh c with asleep := false }).canEnable c else s) s
    let s := forUpTo 2 (fun p s => if s.fld (ethTc10 p) == tc10Active then s else s.put (ethTc10 p) tc10Active) s
    let s := if s.blockDormant 5 || !s.flag F.SWP_CTRL_EN then s else s.put F.SWP_STAT_RUN 1
    let s := if s.blockDormant 6 || !s.flag F.EST_CTRL_EN then s else s.estEnable
    let s := s.serviceOn
    { s with pwr := { s.pwr with request := none, latched := 0 } }
  else s

/-- The management step (R355), at the first commit point after the rebuild; the program's next cycle is due at it. -/
def State.management (s : State) (tc : Tc) : State :=
  let s := ((s.setLane s.activeLane lnActive).put F.LAN_STAT_MGMT_PEND 0).put F.LAN_HB_MISS 0
  let s : State := { s with lan := { s.lan with restoring := none, rebuilt := false, managed := true, mgmtTc := tc, requalTc := tc } }
  let s := s.lsReport.abandonEntry tc
  let s := ((s.putFlag F.DSP_STAT_RUN (!s.blockDormant 10)).dspStart tc).restartWrites tc
  let s : State := { s with seq := { s.seq with commits := s.fld F.SEQ_CFG_CYCLE - 1 } }
  s.setLevel (s.fld F.LAN_CFG_PL)

/-! The standby lane (R339 to R342). -/

/-- BOOT_TIMEOUT (R341): a lane's boot has failed, or is not complete within 2 s. -/
def execBootTimeout (l : Lane) (tc : Tc) (s : State) : Host.Outcome State Fault Refusal :=
  .next (if s.laneState l = lnBoot && s.lanesPowered then s.referee l 8 tc else s)

/-- STANDBY_LOAD_DONE (R339, R341): the other lane's version and serial are compared; its check values are those of its health checks (R342). -/
def execStandbyLoadDone (l : Lane) (ids : LaneIds) (check : Word × Word) (tc : Tc) (s : State) : Host.Outcome State Fault Refusal :=
  if s.laneState l = lnBoot && s.lanesPowered && s.laneState (otherLane l) == lnActive then
    if ids.version.toNat == s.runningVersion && ids.serial.toNat == s.fld F.CFG_IMAGE_ID_VALUE then
      let s : State := { s with lan := { s.lan.putCheck l check with passTc := tc } }
      .next ((s.setLane l lnStandby).put F.LAN_STBY_AGE_S 0)
    else .next (s.referee l 9 tc)
  else .next s

/-- STANDBY_CHECK_START (R341): STBY_CHK seconds after the last check. -/
def execStandbyCheckStart (tc : Tc) (s : State) : Host.Outcome State Fault Refusal :=
  let l := otherLane s.activeLane
  .next (if s.lidHeld && s.laneState l == lnStandby && passed tc s.lan.passTc (secTicks * s.fld F.LAN_CFG_STBY_CHK) then
    ({ s with lan := { s.lan with checkTc := tc } } : State).setLane l lnCheck else s)

/-- STANDBY_CHECK_DONE (R342). -/
def execStandbyCheckDone (x : LaneCheck) (tc : Tc) (s : State) : Host.Outcome State Fault Refusal :=
  let l := otherLane s.activeLane
  if s.laneState l = lnCheck then
    if s.checkPasses l x then
      let s : State := { s with lan := { s.lan with passTc := tc } }
      .next ((s.setLane l lnStandby).put F.LAN_STBY_AGE_S 0)
    else .next (s.referee l 10 tc)
  else .next s

/-- CHECK_TIMEOUT (R341): 40 ms after the check began. -/
def execCheckTimeout (tc : Tc) (s : State) : Host.Outcome State Fault Refusal :=
  let l := otherLane s.activeLane
  .next (if s.laneState l == lnCheck && passed tc s.lan.checkTc (msTicks 40) then s.referee l 10 tc else s)

/-- The lane that requalifies, once the management step has released it (R341). -/
def State.requalLane (s : State) : Option Lane :=
  let l := otherLane s.activeLane
  if s.laneState l = lnRequal && !s.flag F.LAN_STAT_MGMT_PEND then some l else none

/-- REQUAL_DONE (R341). -/
def execRequalDone (x : LaneCheck) (tc : Tc) (s : State) : Host.Outcome State Fault Refusal :=
  match s.requalLane with
  | some l =>
    if s.checkPasses l x then
      let s : State := { s with lan := { s.lan with passTc := tc } }
      .next ((((s.setLane l lnStandby).put (laneFaultField l) 0).put F.LAN_STBY_AGE_S 0).event Ev.LAN_REQUAL_OK)
    else .next (s.setLane l lnFaulted)
  | none => .next s

/-- REQUAL_TIMEOUT (R341): 40 ms after the management step. -/
def execRequalTimeout (tc : Tc) (s : State) : Host.Outcome State Fault Refusal :=
  match s.requalLane with
  | some l => .next (if passed tc s.lan.requalTc (msTicks 40) then s.setLane l lnFaulted else s)
  | none => .next s

/-- The seconds since the standby lane last passed its check are shown, saturating (LAN_STBY_AGE). -/
def State.showStandbyAge (s : State) (tc : Tc) : State :=
  if s.flag F.LAN_STAT_STBY_OK then s.put F.LAN_STBY_AGE_S (min 0xFFFF ((tc - s.lan.passTc).toNat / secTicks)) else s

end Sys2Proof.Machine
end

