-- ==== Sys2Proof/Machine/Reply.lean ====
section
/-! DEFINITION. Reply.lean: the responses of the object access service and their way out (R67, R389), and the end of the service (R65). -/
namespace Sys2Proof.Machine

open Sys2Proof

/-- Status codes (R71). -/
def stOk : Nat := 0x00
def stUnknown : Nat := 0x01
def stBadLength : Nat := 0x02
def stUnmapped : Nat := 0x03
def stAlignment : Nat := 0x04
def stDormant : Nat := 0x05
def stReadOnly : Nat := 0x06
def stDenied : Nat := 0x07
def stExpired : Nat := 0x08
def stFuture : Nat := 0x09
def stBusy : Nat := 0x0A
def stLaneChange : Nat := 0x0B

/-- The data lengths of CAN FD (R389). -/
def fdLengths : List Nat := [0, 1, 2, 3, 4, 5, 6, 7, 8, 12, 16, 20, 24, 32, 48, 64]

/-- The least data length of CAN FD that holds n bytes. -/
def fdLength (n : Nat) : Nat := (fdLengths.find? fun k => decide (n ≤ k)).getD 64

/-- Bytes padded with 0x00 to a data length of CAN FD (R389). -/
def fdPad (l : List Byte) : List Byte := l ++ List.replicate (fdLength l.length - l.length) 0#8

/-- A response as bytes (R67). -/
def Response.bytes (r : Response) : List Byte :=
  [r.service, r.tag, r.status, r.index] ++ bytesLe 4 r.epoch.toNat ++ r.values.flatMap fun v => bytesLe 4 v.toNat

/-- The latest epoch (OBJ_EPOCH). -/
def State.latestEpoch (s : State) : Word := s.rd 0x10004

/-- A request is answered: the response leaves by its path, on CAN0 as a padded FD frame with the response identifier (R67, R389, R510), and is counted (OBJ_SVC_CNT). -/
def State.answer (s : State) (r : Request) (status index : Nat) (epoch : Word) (values : List Word) : State :=
  let x : Response :=
    { service := (r.pdu.getD 0 0#8) ||| 0x80#8
      tag := r.pdu.getD 1 0#8
      status := BitVec.ofNat 8 status
      index := BitVec.ofNat 8 index
      epoch := epoch
      values := values }
  let s := s.emit (.response r.path x)
  let s := if r.path = .can0 then s.canSend 0 { id := s.fdId 0 (s.img 10 40 4), data := fdPad x.bytes, svc := 0 } else s
  if status = stOk then s.bump F.OBJ_SVC_CNT_DONE else s.bump F.OBJ_SVC_CNT_REJECT

/-- A request is answered without an object: index 0xFF, the latest epoch (R67). -/
def State.answerStatus (s : State) (r : Request) (status : Nat) : State := s.answer r status 0xFF s.latestEpoch []

/-- The service is disabled: requests already queued are answered BUSY (R53, R65). -/
def State.serviceOff (s : State) : State :=
  let q := s.obj.queue
  q.foldl (fun s r => s.answerStatus r stBusy) { s with obj := { s.obj with queue := [], running := false } }

end Sys2Proof.Machine
end

