-- ==== Sys2Proof/Machine/Power.lean ====
section
/-! DEFINITION. Power.lean: what outlasts a start, the start itself (R451 to R454), requests for a sleep state (R457), wake sources and their record (R462 to R464), the automatic start, the thermal shutdown (R313, R315) and the tamper switch (R484). -/
namespace Sys2Proof.Machine

open Sys2Proof

/-! What outlasts a start (R453). -/

/-- An address of an array of objects. -/
def inArray (base count stride a : Nat) : Bool := decide (base ≤ a) && decide (a < base + count * stride) && (a - base) % stride == 0

/-- Bits that no start resets: inputs, factory trims, and registers that show FRAM or flash (R453, log entry 69). -/
def keepMask (a : Nat) : Word :=
  if a == 0x4 || a == 0x8 then 0xFFFFFFFF#32
  else if a == 0x20010 then 0x00000133#32
  else if inArray 0x20020 4 4 a then 0x00FF0077#32
  else if inArray 0x20030 4 4 a then 0xFFFFFFFF#32
  else if inArray 0x80104 8 16 a then 0x00000C00#32
  else if inArray 0x80200 28 4 a then 0x00000008#32
  else if inArray 0xc0010 6 4 a then 0x00000003#32
  else if a == 0xd0044 then 0x00FFFFFF#32
  else if a == 0xf0074 || a == 0xf4074 then 0x00000003#32
  else if a == 0x100014 then 0xFFFFFFFF#32
  else if a == 0x100018 then 0x0000FFFF#32
  else if a == 0x100024 then 0x00000003#32
  else if inArray 0x120130 8 64 a || inArray 0x120480 8 4 a then 0xFFFFFFFF#32
  else if a == 0x130008 || a == 0x13000c || a == 0x130010 || a == 0x130014 || a == 0x130038 then 0xFFFFFFFF#32
  else if a == 0x140000 then 0x0000F000#32
  else if a == 0x150000 then 0x00000004#32
  else if inArray 0x150020 2 4 a || inArray 0x150028 2 4 a || a == 0x150038 || inArray 0x150200 26 4 a then 0xFFFFFFFF#32
  else 0#32

/-- Bits that the wake logic holds: the Dertur wake bits and their counters, the wake timer, the wake record, WAKE with its counter (R453, R464, log entry 70). -/
def wakeMask (a : Nat) : Word :=
  if a == 0x40008 || a == 0x4000c || inArray 0x40010 8 4 a then 0xFFFFFFFF#32
  else if a == 0x140014 || a == 0x140018 || a == 0x14001c then 0xFFFFFFFF#32
  else if a == 0x14002c then 0x00000002#32
  else if a == 0x140030 then 0xFFFF0000#32
  else 0#32

/-- The objects at their reset values, but for the bits kept. -/
def State.freshObjs (s : State) (keep : Nat → Word) : Cells 32 :=
  (resetObjs.map (·.1) ++ s.objs.map (·.1)).foldl (fun c a =>
    if keep a = 0 then c else c.set a ((c.get a &&& ~~~(keep a)) ||| (s.objs.get a &&& keep a))) resetObjs

/-- The recorder's memories and what it reads from them at a start. -/
def recMemories (r : Rec) : Rec :=
  { Rec.reset with
    flash := r.flash
    retired := r.retired
    blockA := r.blockA
    blockB := r.blockB
    hoursPair := r.hoursPair
    cyclesPair := r.cyclesPair
    health := r.health
    fwVersion := r.fwVersion }

/-- Everything but FRAM, flash, inputs, and what the caller keeps, is as after reset (R453). -/
def State.fresh (s : State) (keep : Nat → Word) : State :=
  { State.reset with
    objs := s.freshObjs keep
    cfg := { Cfg.reset with slots := s.cfg.slots, confirms := s.cfg.confirms }
    est := { Est.reset with copyA := s.est.copyA, copyB := s.est.copyB }
    rcd := recMemories s.rcd
    thm := { Thm.reset with word := s.thm.word, inv := s.thm.inv }
    lan := { Lan.reset with autos := s.lan.autos }
    upd := { Upd.reset with keys := s.upd.keys, fw := s.upd.fw, area := s.upd.area, areaState := s.upd.areaState, boot := s.upd.boot, bootInv := s.upd.bootInv }
    sent := s.sent
    freeCount := s.freeCount
    pending := s.pending }

/-- What a fresh state does when the cause word is set: SD_FOUND, X60 active; the lanes start only with cool junctions (R315). -/
def State.foundCause (s : State) (cause : Nat) (cool : Bool) : State :=
  if s.causeSet then
    let s := s.event Ev.THM_SD_FOUND
    { s with
      prt := { s.prt with given := s.prt.given ||| (1#64 <<< 60) }
      pwr := { s.pwr with held := if cool then none else some cause } }
  else s

/-- The island reads its junction sensors. -/
def PowerState.sensed : PowerState → Bool
  | .unpowered => false
  | .off => false
  | .standby => false
  | .deep => false
  | _ => true

/-- A start with its cause (R452, R454): steps 1 to 3 as one, the firmware slot chosen, the lanes released, or held until readings of this start find the junctions cool; readings that go on at the start itself count (R315, log entry 71). -/
def State.startWith (s : State) (keep : Nat → Word) (cause : Nat) (tc : Tc) : State :=
  let cool := s.pwr.state.sensed && s.junctionsCool
  let t := s.fresh keep
  let t : State := { t with pwr := { Pwr.reset with state := .starting } }
  let t := ((t.put F.PWR_STAT_START cause).put F.PWR_STAT_HOLDUP_OK 1).invalidateWriting
  ((t.safPowerUp tc).showCause.bootChoose.svcNonce).foundCause cause cool

/-- A start from a state in which the wake logic has kept its supply. -/
def State.beginStart (s : State) (cause : Nat) (tc : Tc) : State := s.startWith (fun a => keepMask a ||| wakeMask a) cause tc

/-- A start from loss of supply or from Off: the wake record begins anew (R464). -/
def State.beginSupply (s : State) (cause : Nat) (wakeIn : Bool) (tc : Tc) : State :=
  let s := s.startWith keepMask cause tc
  if wakeIn then (s.put F.PWR_WAKE_REC_SOURCE 1).put F.PWR_WAKE_REC_PENDING 2
  else (s.put F.PWR_WAKE_REC_SOURCE 0).put F.PWR_WAKE_REC_PENDING 0

/-- Give kept bits of fields, no reserved one (R17), the values that the inputs, trims and memories show at a supply start; the wake record is written by the start itself. -/
def State.takeGiven (s : State) (given : List (Nat × Word)) : State :=
  given.foldl (fun s e =>
    let m := keepMask e.1 &&& BitVec.ofNat 32 ((objRowAt e.1).elim 0 ObjRow.fieldMask)
    s.wr e.1 ((s.rd e.1 &&& ~~~m) ||| (e.2 &&& m))) s

/-- The cause words of a safe stop are cleared where supply is applied (R361). -/
def State.clearStop (s : State) : State :=
  let s : State := { s with lan := { s.lan with autos := [] } }
  (s.put F.LAN_SS_CAUSE_CAUSE 0).put F.LAN_SS_CAUSE_CLASS 0 |>.put F.LAN_SS_CAUSE_AUTO 0

/-- States that a supply which has been away ends (R360, R459, R471, R484). -/
def PowerState.supplied : PowerState → Bool
  | .starting => false
  | .running => false
  | .waking => false
  | _ => true

/-- SUPPLY_START (R449, R454, R470, R471): at or above 8.0 V for 10 ms. FRAM's cause word and its complement come as they are found (R314). -/
def execSupplyStart (x : SupplyFound) (wakeIn : Bool) (tc : Tc) (s : State) : Host.Outcome State Fault Refusal :=
  if s.pwr.state.supplied then
    let why := if s.pwr.state == .unpowered && s.pwr.failed then 5 else 1
    let s : State := { s with thm := { s.thm with word := x.cause.1, inv := x.cause.2 } }
    .next ((s.takeGiven x.given).clearStop.beginSupply why wakeIn tc)
  else .next s

/-- SUPPLY_LOW (R449): below 8.0 V for 1 ms. -/
def execSupplyLow (vin : BitVec 16) (s : State) : Host.Outcome State Fault Refusal :=
  if (s.pwr.state == .starting || s.pwr.state == .running) && decide (vin.toNat < 800) then
    .next ((s.put F.PWR_SUPPLY_VIN vin.toNat).event Ev.PWR_LOW)
  else .next s

/-! Restart by configuration (R93). -/

/-- A write of CFG_RESTART. -/
def State.cfgRestart (s : State) (v : Word) (tc : Tc) : State :=
  if v == 0xA55A#32 && s.lidHeld then (s.allSafe tc).beginStart 3 tc else s

/-- CFG_RESTART (R93). -/
def execCfgRestart (v : Word) (tc : Tc) (s : State) : Host.Outcome State Fault Refusal := .next (s.cfgRestart v tc)

/-! Requests for a sleep state (R457). -/

/-- The code with which a request is refused; 0 for none. -/
def State.sleepRefusal (s : State) (target : Nat) : Nat :=
  let rest := (List.range 8).all fun n => let st := s.strState n; st == ssOpen || st == ssTripped || st == ssLockout
  if !rest then 1
  else if s.flag F.PWR_STAT_ENTRY || s.flag F.LAN_STAT_MGMT_PEND || s.flag F.PWR_STAT_PFAIL then 2
  else if target != 3 && s.fld F.PWR_WAKE_CFG_EN == 0 && !s.flag F.PWR_WAKE_CFG_KEY_WIRED then 3
  else 0

/-- A refused request is recorded. -/
def State.sleepRefused (s : State) (code : Nat) : State := (s.bump F.PWR_REFUSE_CNT).put F.PWR_REFUSE_CODE code

/-- A write of PWR_CTRL: taken at the next commit point, or refused (R457). -/
def State.pwrCtrl (s : State) (key target : Nat) : State :=
  if key != 0x51EE || target == 0 || !s.lidHeld then s
  else if s.sleepRefusal target = 0 then { s with pwr := { s.pwr with request := some target } }
  else s.sleepRefused (s.sleepRefusal target)

/-- STANDBY_REQUEST (R457). -/
def execStandbyRequest (key : BitVec 16) (s : State) : Host.Outcome State Fault Refusal := .next (s.pwrCtrl key.toNat 1)

/-- DEEP_STANDBY_REQUEST (R457). -/
def execDeepStandbyRequest (key : BitVec 16) (s : State) : Host.Outcome State Fault Refusal := .next (s.pwrCtrl key.toNat 2)

/-- OFF_REQUEST (R457). -/
def execOffRequest (key : BitVec 16) (s : State) : Host.Outcome State Fault Refusal := .next (s.pwrCtrl key.toNat 3)

/-! Wake (R462 to R464). -/

/-- The module sleeps in Standby or Deep standby. -/
def State.asleep (s : State) : Bool := s.pwr.state == .standby || s.pwr.state == .deep

/-- A source may act: WAKE_IN always, the others while enabled (R462). -/
def State.wakeOn (s : State) (c : Nat) : Bool := c == 1 || s.bit F.PWR_WAKE_CFG_EN (c - 2)

/-- The lowest code of a set of sources. -/
def lowestSource (m : Nat) : Nat := ((List.range 8).find? m.testBit).getD 0

/-- The record names its sources (R464). -/
def State.putSources (s : State) (m : Nat) : State :=
  (s.put F.PWR_WAKE_REC_PENDING m).put F.PWR_WAKE_REC_SOURCE (lowestSource m)

/-- A wake is recognised at a tick, ticks since T_E (R464, R465): from Standby the resume begins, from Deep standby a start of cause 2. -/
def State.beginWake (s : State) (sources tick : Nat) (tc : Tc) : State :=
  let deep := s.pwr.state == .deep
  let s := (s.putSources sources).put F.PWR_WAKE_REC_LEFT (if deep then 2 else 1)
  let s := (s.put F.PWR_WAKE_DUR_S (tick / 32768)).event Ev.PWR_WAKE
  let s := if s.flag F.ETH_WAKE_CFG_WUP_OUT then (s.emit (.tc10Wake 0)).emit (.tc10Wake 1) else s
  let s := if deep then s.beginStart 2 tc else { s with pwr := { s.pwr with state := .waking } }
  { s with pwr := { s.pwr with wakeTick := some tick } }

/-- A source is seen (R463, R464): in the entry window it is lost, before the window latched; asleep it wakes the module; another source recognised on the same tick joins the record. None where nothing comes of it. -/
def State.wakeSeen (s : State) (c : Nat) (t : WakeAt) (tc : Tc) : Option State :=
  if !s.wakeOn c then none
  else if s.asleep then some (s.beginWake (2 ^ c) t.tick tc)
  else if s.pwr.wakeTick == some t.tick && (s.pwr.state == .waking || s.pwr.state == .starting) then
    some (s.putSources (s.fld F.PWR_WAKE_REC_PENDING ||| 2 ^ c))
  else if s.flag F.PWR_STAT_ENTRY && s.fld F.PWR_STAT_TARGET != 3 && c != 1 && !t.window then
    some { s with pwr := { s.pwr with latched := s.pwr.latched ||| (1#8 <<< c) } }
  else none

/-- WAKE_IN_ASSERT (R462): asleep it wakes; in Off it starts the module; in safe stop it ends the stop after 100 ms low (R360). -/
def execWakeInAssert (t : WakeAt) (low : Bool) (tc : Tc) (s : State) : Host.Outcome State Fault Refusal :=
  match s.pwr.state with
  | .off => .next (s.clearStop.beginSupply 1 true tc)
  | .safeStop =>
    .next (if low && (s.lan.stopTc.map fun x => passed tc x (msTicks 100)) == some true then s.beginStart 7 tc else s)
  | _ => .next ((s.wakeSeen 1 t tc).getD s)

/-- WAKE_TIMER_EXPIRY (R462): S seconds after T_E; 0 disarms it. -/
def execWakeTimerExpiry (t : WakeAt) (tc : Tc) (s : State) : Host.Outcome State Fault Refusal :=
  let n := s.fld F.PWR_WAKE_TIMER_S
  if n != 0 && s.asleep && decide (32768 * n ≤ t.tick) then .next ((s.wakeSeen 2 t tc).getD s) else .next s

/-- What a sleeping transceiver sees wakes it, with its cause (R400): 1 the pattern, 2 the frame, 3 the frame error counter. -/
def State.canWakeCause (s : State) (c : Nat) (e : CanWakeEvent) : Nat :=
  let mode := s.fld (F.CAN_WAKE_CFG_MODE c)
  match e with
  | .pattern => if mode = 1 then 1 else 0
  | .errors => if mode = 2 then 3 else 0
  | .frame f =>
    let mask := s.fld (F.CAN_WUF_MASK_MASK c)
    let dm := s.fld (F.CAN_WUF_DMASK_LO_VALUE c) + 2 ^ 32 * s.fld (F.CAN_WUF_DMASK_HI_VALUE c)
    if mode = 2 && !f.fdf && f.ide == s.flag (F.CAN_WUF_ID_IDE c) && f.id.toNat &&& mask == s.fld (F.CAN_WUF_ID_ID c) &&& mask &&
        f.dlc.toNat == s.fld (F.CAN_WAKE_CFG_WUF_DLC c) && natLe (f.data.take 8) &&& dm != 0 then 2
    else 0

/-- CAN_WAKE (R400): its cause reads in CANc_WAKE_STAT. -/
def execCanWake (c : Fin 2) (e : CanWakeEvent) (t : WakeAt) (tc : Tc) (s : State) : Host.Outcome State Fault Refusal :=
  let cause := s.canWakeCause c e
  if cause = 0 || !s.canUsed c then .next s
  else match s.wakeSeen (3 + c) t tc with
    | some s => .next (s.put (F.CAN_WAKE_STAT_CAUSE c) cause)
    | none => .next s

/-- ETH_WAKE (R418): in sleep it wakes the module where the port is enabled, and with FWD a wake-up goes to the other port; a port that sleeps while the module runs is up again. -/
def execEthWake (p : Fin 2) (t : WakeAt) (tc : Tc) (s : State) : Host.Outcome State Fault Refusal :=
  let on := if p = 0 then s.flag F.ETH_WAKE_CFG_E0 else s.flag F.ETH_WAKE_CFG_E1
  let fwd := (s.asleep || s.flag F.PWR_STAT_ENTRY) && s.flag F.ETH_WAKE_CFG_FWD
  let other : Nat := if p = 0 then 1 else 0
  let s := if fwd then s.emit (.tc10Wake other) else s
  if s.pwr.state == .running && !s.flag F.PWR_STAT_ENTRY then
    .next (if s.fld (ethTc10 p) == tc10Asleep then s.put (ethTc10 p) tc10Active else s)
  else if on then
    match s.wakeSeen (5 + p) t tc with
    | some s => .next (s.put F.ETH_WAKE_STAT_LAST (1 + p))
    | none => .next s
  else .next s

/-- DERTUR_WAKE_EVENT (R156): 50 µs of activity at an end; its bit, its counter and the total advance with the wake. -/
def execDerturWakeEvent (p : Fin 8) (endB : Bool) (t : WakeAt) (tc : Tc) (s : State) : Host.Outcome State Fault Refusal :=
  match s.wakeSeen 7 t tc with
  | some s => .next ((s.event (if endB then Ev.DLK_WAKE_B p else Ev.DLK_WAKE_A p)).bump F.DLK_WAKE_CNT_CNT)
  | none => .next s

/-! Automatic start (R360). -/

/-- AUTO_RESTART (R360): 2 s after a safe stop, with AUTO_RST, unless 3 such starts fell in the preceding 24 h. -/
def execAutoRestart (sec : Nat) (tc : Tc) (s : State) : Host.Outcome State Fault Refusal :=
  let recent := s.lan.autos.filter fun a => decide (sec - a < 86400)
  let due := (s.lan.stopTc.map fun x => passed tc x (2 * secTicks)) == some true
  if s.pwr.state == .safeStop && s.flag F.LAN_CFG_AUTO_RST && due && decide (recent.length < 3) then
    let s : State := { s with lan := { s.lan with autos := sec :: recent } }
    .next ((s.put F.LAN_SS_CAUSE_AUTO (recent.length + 1)).beginStart 4 tc)
  else .next s

/-! Thermal shutdown (R313 to R315). -/

/-- The hotter of the sensors that have qualified. -/
def State.hotJunction (s : State) : Option Int :=
  hotter (if 2 ≤ s.thm.hot1 then some (s.fldS F.THM_TJ_TJ1) else none) (if 2 ≤ s.thm.hot2 then some (s.fldS F.THM_TJ_TJ2) else none)

/-- The readings are taken: values, validity, and how many in a row qualify (R313). -/
def State.takeJunctions (s : State) (t1 t2 : BitVec 16) : State :=
  let ok1 := junctionValid t1
  let ok2 := junctionValid t2
  let run := fun (ok : Bool) (t : BitVec 16) (n : Nat) => if ok && decide (17280 ≤ t.toInt) then n + 1 else 0
  let s := (s.put F.THM_TJ_TJ1 t1.toNat).put F.THM_TJ_TJ2 t2.toNat
  let s : State := { s with thm := { s.thm with
    hot1 := run ok1 t1 s.thm.hot1
    hot2 := run ok2 t2 s.thm.hot2
    bad := if !ok1 && !ok2 then s.thm.bad + 1 else 0
    ok1 := ok1
    ok2 := ok2 } }
  s.putFlag F.THM_STAT_JS_FAULT (!ok1 || !ok2)

/-- THERMAL_STOP_END (R315): both sensors valid and below 95.0 °C. A thermal stop ends with a start of cause 8; a start that waits goes on. -/
def execThermalStopEnd (tc : Tc) (s : State) : Host.Outcome State Fault Refusal :=
  if !s.junctionsCool then .next s
  else if s.pwr.state == .thermalStop then .next (s.beginStart 8 tc)
  else .next { s with pwr := { s.pwr with held := none } }

/-! Tamper switch (R483, R484). -/

/-- The switch is sampled in every state that has supply. -/
def PowerState.sampled : PowerState → Bool
  | .unpowered => false
  | .off => false
  | .debug => false
  | _ => true

/-- After an erase that cannot be verified the key store holds free values (R484). -/
def State.keysUnknown (s : State) : State :=
  let n := s.free.toNat
  let k := s.freeBytes 45
  let key := fun (off n : Nat) => (k.drop off).take n
  let keys : KeyStore := { image := key 8 96, clear := key 104 96, service := key 200 96, transport := key 296 32, storage := key 328 32 }
  let s : State := { s with upd := { s.upd with keys := keys } }
  ((s.put F.UPD_KS_STAT_KEYS n).putFlag F.UPD_STAT_PROVISIONED (n % 32 == 31)).tookN 45

/-- TAMPER_OPEN (R484): everything opens, no lane holds the Lid, the key store is erased, the pads are enabled where the erase verifies. Where it does not, what KEYS shows is free (log entry 3). -/
def execTamperOpen (erased : Bool) (tc : Tc) (s : State) : Host.Outcome State Fault Refusal :=
  if s.pwr.state.sampled then
    let s := (s.allSafe tc).silence.updWithdraw.lanesOff
    let s := if erased then (({ s with upd := { s.upd with keys := KeyStore.blank } } : State).put F.UPD_KS_STAT_KEYS 0).put F.UPD_STAT_PROVISIONED 0
      else s.keysUnknown
    let s := s.bump F.UPD_KS_STAT_ERASE_CNT
    .next { s with upd := { s.upd with pads := erased }, pwr := { Pwr.reset with state := .debug } }
  else .next s

end Sys2Proof.Machine
end

