-- ==== Sys2Proof/Machine/SeqCore.lean ====
section
/-! DEFINITION. SeqCore.lean: the sequence program but for its object accesses: its variables, forces, on-line change, triggers, stations and their frames (R366 to R381). -/
namespace Sys2Proof.Machine

open Sys2Proof

/-- States of the program (SEQ_STAT.STATE). -/
def sqStopped : Nat := 0
def sqInit : Nat := 1
def sqRun : Nat := 2
def sqHalt : Nat := 3

/-- States of a station (SEQ_STNi_STAT.STATE). -/
def stnRun : Nat := 1
def stnLost : Nat := 2

/-- What an address is mapped to. -/
def assoc (l : List (Nat × Nat)) (a : Nat) : Option Nat := (l.find? fun e => e.1 == a).map (·.2)

/-- Map an address to a value. -/
def assocPut (l : List (Nat × Nat)) (a v : Nat) : List (Nat × Nat) := (a, v) :: l.filter fun e => e.1 != a

/-- The variables of the running program. -/
def State.seqVars (s : State) : List SeqVar := (s.seq.prog.map (·.vars)).getD []

/-- The variable that begins at an address. -/
def State.seqVar (s : State) (a : Nat) : Option SeqVar := s.seqVars.find? fun v => v.addr == a

/-- The value of a variable: its force, or what the image holds (R375). -/
def State.varValue (s : State) (v : SeqVar) : Nat :=
  match assoc s.seq.forces v.addr with
  | some x => x
  | none => (assoc s.seq.vals v.addr).getD v.initial % 2 ^ v.width

/-- Give a variable a value; a force stands above it (R375). -/
def State.varPut (s : State) (v : SeqVar) (x : Nat) : State :=
  { s with seq := { s.seq with vals := assocPut s.seq.vals v.addr (x % 2 ^ v.width) } }

/-- The initial values of a program. -/
def initialVals (p : SeqProgram) : List (Nat × Nat) := p.vars.map fun v => (v.addr, v.initial % 2 ^ v.width)

/-! Forces (R375 to R377). -/

/-- FORCED and COUNT follow the force table (R377). -/
def State.showForces (s : State) : State :=
  (s.putFlag F.SEQ_STAT_FORCED (!s.seq.forces.isEmpty)).put F.SEQ_FORCE_STAT_COUNT s.seq.forces.length

def State.setForces (s : State) (l : List (Nat × Nat)) : State :=
  ({ s with seq := { s.seq with forces := l } } : State).showForces

/-- An object has a field of an access type. -/
def objHas (a : Nat) (acc : Access) : Bool := (objRowAt a).elim false fun r => r.has acc

/-- The code with which a force is refused; 0 for none (R376). -/
def State.forceRefusal (s : State) (a : Nat) : Nat :=
  match s.seqVar a with
  | none => 1
  | some v =>
    if 32 < v.width then 2
    else if v.binding.elim false fun b => objHas b.addr .wo then 3
    else if (assoc s.seq.forces a).isNone && decide (64 ≤ s.seq.forces.length) then 4
    else 0

/-- A force command takes effect (R375, R376): 1 set, 2 release, 3 release all. -/
def State.forceCommand (s : State) (c : Nat × Nat × Nat) : State :=
  match c with
  | (1, a, x) =>
    if s.forceRefusal a = 0 then
      let w := (s.seqVar a).elim 32 (·.width)
      s.setForces (assocPut s.seq.forces a (x % 2 ^ w))
    else s.put F.SEQ_FORCE_STAT_REFUSE (s.forceRefusal a)
  | (2, a, _) =>
    if (assoc s.seq.forces a).isSome then s.setForces (s.seq.forces.filter fun e => e.1 != a)
    else s.put F.SEQ_FORCE_STAT_REFUSE 5
  | (3, _, _) => s.setForces []
  | _ => s

/-- A write of SEQ_FORCE_CMD waits for the next phase 1, with address and value as they stand (R375). -/
def State.forceWrite (s : State) (cmd : Nat) : State :=
  if s.blockDormant 14 || cmd == 0 then s
  else { s with seq := { s.seq with commands := s.seq.commands ++ [(cmd, s.fld F.SEQ_FORCE_ADDR_VALUE, s.fld F.SEQ_FORCE_VAL_VALUE)] } }

/-- Within a session of the service port. -/
def State.inSession (s : State) : Bool := s.serviceUp && s.upd.session.isSome

/-- FORCE_SET (R375). -/
def execForceSet (s : State) : Host.Outcome State Fault Refusal := .next (if s.inSession then s.forceWrite 1 else s)
/-- FORCE_RELEASE (R375). -/
def execForceRelease (s : State) : Host.Outcome State Fault Refusal := .next (if s.inSession then s.forceWrite 2 else s)
/-- FORCE_RELEASE_ALL (R375). -/
def execForceReleaseAll (s : State) : Host.Outcome State Fault Refusal := .next (if s.inSession then s.forceWrite 3 else s)

/-! Triggers and restart (R366, R369). -/

/-- A write of SEQ_TRIG (R366). -/
def State.seqTrig (s : State) (bits : Nat) : State :=
  if s.blockDormant 14 then s else { s with seq := { s.seq with trig := s.seq.trig ||| BitVec.ofNat 8 bits } }

/-- SEQ_TRIG (R366). -/
def execSeqTrig (bits : BitVec 8) (s : State) : Host.Outcome State Fault Refusal := .next (s.seqTrig bits.toNat)

/-- A cold restart at the next due commit point (R369). -/
def State.seqRestart (s : State) : State :=
  if s.blockDormant 14 then s else { s with seq := { s.seq with coldDue := true } }

/-- SEQ_RESTART (R369). -/
def execSeqRestart (s : State) : Host.Outcome State Fault Refusal := .next s.seqRestart

/-! On-line change (R378 to R380). -/

/-- An on-line change ends with a code. -/
def State.olcEnd (s : State) (c : Nat) : State := (s.put F.SEQ_OLC_STAT_CODE c).event Ev.SEQ_OLC_DONE

/-- Limits, stations and level of a change (R378 step 2). -/
def State.olcContent (s : State) (p : SeqProgram) : Bool :=
  let old := s.seq.prog
  let secs := (s.cfg.sections.filter fun e => e.1 != 9) ++ [(9, s.upd.area)]
  programLimits p && (old.map (·.stations)) == some p.stations && (old.map (·.rioBase)) == some p.rioBase &&
    decide ((Config.plMin secs).toNat ≤ s.fld F.LAN_CFG_PL)

/-- A write of 1 to SEQ_OLC_CTRL.APPLY (R378): steps 1 to 3; the change then waits for phase 1. -/
def State.olcApply (s : State) (x : OlcCheck) : State :=
  if s.blockDormant 14 then s
  else
    let p := Config.seqChange s.upd.area
    if s.upd.areaState != slVerified || x.base.toNat != s.fld F.SEQ_PROG_CV_CV then s.olcEnd 0x01
    else if !s.olcContent p then s.olcEnd 0x02
    else if !s.flag F.LAN_STAT_STBY_OK then s.olcEnd 0x03
    else if !x.standby then s.olcEnd 0x04
    else { s with seq := { s.seq with change := some p } }

/-- OLC_APPLY (R378). -/
def execOlcApply (x : OlcCheck) (s : State) : Host.Outcome State Fault Refusal := .next (s.olcApply x)

/-- Two programs give an address a variable of the same type; the width stands for the type (log entry 73). -/
def sameVar (a : Nat) (old new : List SeqVar) : Bool :=
  match old.find? fun v => v.addr == a, new.find? fun v => v.addr == a with
  | some x, some y => x.width == y.width
  | _, _ => false

/-- The change that waits is applied at phase 1 (R379, R380): surviving variables keep their values, new ones take their initial values, forces without their variable are released. -/
def State.applyChange (s : State) : State :=
  match s.seq.change, s.seq.prog with
  | some p, some old =>
    let keep := fun (a : Nat) => sameVar a old.vars p.vars
    let vals := p.vars.map fun v => (v.addr, if keep v.addr then (assoc s.seq.vals v.addr).getD v.initial else v.initial % 2 ^ v.width)
    let gone := s.seq.forces.filter fun e => !keep e.1
    let s : State := { s with seq := { s.seq with
      prog := some { p with cycle := old.cycle, wdt := old.wdt, stations := old.stations, rioBase := old.rioBase }
      change := none
      vals := vals
      written := s.seq.written.filter fun e => keep e.1
      edges := s.seq.edges.filter fun e => keep e.1 } }
    let s := (s.setForces (s.seq.forces.filter fun e => keep e.1)).bumpBy F.SEQ_FORCE_STAT_RELEASED gone.length
    let s := s.eventIf (!gone.isEmpty) Ev.SEQ_FORCE_REL
    (s.put F.SEQ_PROG_CV_CV p.cv.toNat).olcEnd 0x10
  | _, _ => s

/-! Stations (R370 to R373). -/

/-- A station's state beside its registers. -/
def State.stn (s : State) (i : Nat) : Station := s.seq.stations.getD i Station.reset

def State.setStn (s : State) (i : Nat) (x : Station) : State :=
  { s with seq := { s.seq with stations := setAt s.seq.stations i x } }

/-- The station table of the running program. -/
def State.seqStations (s : State) : List SeqStation := (s.seq.prog.map (·.stations)).getD []

/-- A station takes a state; SEQ_RIO_RUN follows. -/
def State.stnState (s : State) (i st : Nat) : State :=
  (s.put (F.SEQ_STN_STAT_STATE i) st).putBit F.SEQ_RIO_RUN_BITS i (st == stnRun)

/-- The bytes of a variable in a station's outputs. -/
def putOutput (l : List Byte) (off width x : Nat) : List Byte := spliceAt l off (bytesLe ((width + 7) / 8) x)

/-- The outputs of a station: the values of its variables, or their safe values (R369, R370). -/
def State.stnOutputs (s : State) (x : SeqStation) (run : Bool) : List Byte :=
  (s.seqVars.foldl (fun l v => match v.output with
    | some (i, off) =>
      if i == x.index then putOutput l off v.width (if run then s.varValue v else v.safe.getD (s.varValue v)) else l
    | none => l) (List.replicate x.nOut 0#8)).take x.nOut

/-- A force is in effect on one of a station's outputs (R370). -/
def State.stnForced (s : State) (i : Nat) : Bool :=
  s.seqVars.any fun v => (v.output.map (·.1)) == some i && (assoc s.seq.forces v.addr).isSome

/-- An OUT frame to a station (R370); a LOST station's carries RUN = 0 (R372). -/
def State.sendOut (s : State) (x : SeqStation) (run : Bool) (tc : Tc) : State :=
  let y := s.stn x.index
  let run := run && s.fld (F.SEQ_STN_STAT_STATE x.index) == stnRun
  let q := y.seq + 1
  let flags := (if run then 1 else 0) + (if s.stnForced x.index then 2 else 0)
  let data := fdPad ([q, BitVec.ofNat 8 flags] ++ s.stnOutputs x run)
  let base := (s.seq.prog.map (·.rioBase)).getD 0
  let s := s.setStn x.index { y with seq := q, sentTc := tc, waiting := true }
  s.canSend 1 { id := s.fdId 1 (base + 1 + x.index), data := data, svc := 2 }

/-- OUT frames to every station. -/
def State.sendOuts (s : State) (run : Bool) (tc : Tc) : State := s.seqStations.foldl (fun s x => s.sendOut x run tc) s

/-- An IN frame is valid (R370): its length fits n_in, its sequence is that of the latest OUT frame. -/
def State.inValid (s : State) (x : SeqStation) (bytes : List Byte) : Bool :=
  bytes.length == fdLength (x.nIn + 2) && bytes.getD 0 0#8 == (s.stn x.index).seq

/-- RIO_IN_FRAME (R370, R371): a frame that answers the awaited OUT frame is a response; another valid frame only gives inputs (log entry 74). -/
def execRioInFrame (i : Fin 16) (bytes : List Byte) (tc : Tc) (s : State) : Host.Outcome State Fault Refusal :=
  let _ := tc
  match (s.seqStations.find? fun x => x.index == i.val) with
  | none => .next s
  | some x =>
    let s := s.canTake 1 ((s.seq.prog.map (·.rioBase)).getD 0 + 0x11 + i)
    let y := s.stn i
    if !s.inValid x bytes then .next (s.bump (F.SEQ_STN_CNT_BAD i))
    else
      let y : Station := { y with inputs := (bytes.drop 2).take x.nIn }
      if y.waiting then
        .next ((s.setStn i { y with waiting := false, good := y.good + 1, stale := false }).put (F.SEQ_STN_STAT_MISS_RUN i) 0)
      else .next (s.setStn i y)

/-- RIO_RESPONSE_MISSED (R371): RESP_TMO after the OUT frame; MISS_MAX in a row make the station LOST. -/
def execRioResponseMissed (i : Fin 16) (tc : Tc) (s : State) : Host.Outcome State Fault Refusal :=
  match (s.seqStations.find? fun x => x.index == i.val) with
  | none => .next s
  | some x =>
    let y := s.stn i
    if y.waiting && decide (msTicks x.respTmo ≤ (tc - y.sentTc).toNat) then
      let n := s.fld (F.SEQ_STN_STAT_MISS_RUN i) + 1
      let s := (s.bump (F.SEQ_STN_CNT_MISSED i)).put (F.SEQ_STN_STAT_MISS_RUN i) (min 15 n)
      let lost := s.fld (F.SEQ_STN_STAT_STATE i) == stnRun && decide (x.missMax ≤ n)
      let s := s.setStn i { y with waiting := false, good := 0, stale := true, lostDue := y.lostDue || lost }
      .next (if lost then (s.stnState i stnLost).event Ev.SEQ_RIO_LOST else s)
    else .next s

/-! Loading (R369, R377). -/

/-- The program of the image in effect: stopped, its variables at their initial values, its stations in RUN, no force (log entry 75). -/
def State.seqLoad (s : State) : State :=
  if s.blockDormant 14 then s
  else
    let p := Config.seqProgram (s.sec 9)
    let s : State := { s with seq := { Seq.reset with prog := some p, vals := initialVals p, kept := initialVals p } }
    let s := p.stations.foldl (fun s x => s.stnState x.index stnRun) s
    (s.put F.SEQ_STAT_STATE sqStopped).showForces

/-- The program's resume (R466): a cold restart, the forces kept. -/
def State.seqResume (s : State) : State :=
  let forces := s.seq.forces
  s.seqLoad.setForces forces

end Sys2Proof.Machine
end

