-- ==== Sys2Proof/Machine/Access.lean ====
section
/-! DEFINITION. Access.lean: what reading an object returns (R16, R50, R61, R125, R507), who may reach it (R52, R69, R71, R473, R509), and what writing it does (R16, R17, R97). -/
namespace Sys2Proof.Machine

open Sys2Proof

/-! Reading. -/

/-- The _LO objects of the 64-bit pairs, as first address and dimensions (R125). -/
def pairFamilies : List (Nat × List (Nat × Nat)) :=
  [(0x30014, []), (0x30020, []), (0x30028, []), (0x30080, [(4, 16)]), (0x41200, [(8, 4096), (32, 8)]),
   (0x70014, []), (0x70120, [(8, 64)]), (0x70128, [(8, 64)]), (0xd0028, []), (0xf004c, [(2, 16384)]), (0xf006c, [(2, 16384)]),
   (0x100014, []), (0x110000, []), (0x110008, []), (0x11001c, []), (0x110028, []), (0x110030, []), (0x110108, [(4, 32)]),
   (0x12011c, [(8, 64)]), (0x120128, [(8, 64)])]

/-- The object is the _LO half of a pair. -/
def isPairLo (a : Nat) : Bool := pairFamilies.any fun e => decide (e.1 ≤ a) && dimsHit e.2 (a - e.1)

/-- The object is the _HI half of a pair. -/
def isPairHi (a : Nat) : Bool := decide (4 ≤ a) && isPairLo (a - 4)

/-- TIM_NT_FRAC, which the read of TIM_NT_LO latches with the high word (R412). -/
def ntFrac : Nat := 0x110010

/-- The receive object whose TS or data an address is, by channel (R388). -/
def rxCopyOf (a : Nat) : Option Nat :=
  let c := (a - 0xf0000) / 0x4000
  let o := a - 0xf0400 - 0x4000 * c
  if decide (0xf0400 ≤ a) && decide (c < 2) && decide (0xf0400 + 0x4000 * c ≤ a) && decide (o < 64 * 80) && (o % 80 == 8 || decide (16 ≤ o % 80)) then some c else none

/-- The receive object whose header an address is: channel and index. -/
def rxHeaderOf (a : Nat) : Option (Nat × Nat) :=
  let c := (a - 0xf0000) / 0x4000
  let o := a - 0xf0400 - 0x4000 * c
  if decide (0xf0400 ≤ a) && decide (c < 2) && decide (0xf0400 + 0x4000 * c ≤ a) && decide (o < 64 * 80) && o % 80 == 4 then some (c, o / 80) else none

/-- Network time at a tick as integer ns and fraction (R412). -/
def State.ntWords (s : State) (tc : Tc) : BitVec 64 × Word :=
  let t := s.ntOf tc.toNat
  (BitVec.ofInt 64 (t / 2 ^ 32), BitVec.ofInt 32 (t % 2 ^ 32))

/-- The output register of a slot at an instant, a result that is due by then included (R287). -/
def State.outAt (s : State) (n : Nat) (tc : Tc) : Word :=
  ((s.cte.outs.filter fun o => o.2.1 == n && decide (o.1 ≤ tc)).getLast?).elim (s.rd (0x91060 + 0x100 * n)) fun o => BitVec.ofInt 32 o.2.2

/-- The word an object that no map keeps as a stored value shows now; none for the others. -/
def State.live (s : State) (tc : Tc) (a : Nat) : Option Word :=
  if a == 0x30010 then some ((s.phaseAt tc).setWidth 32)
  else if a == 0x110000 then some (tc.extractLsb' 0 32)
  else if a == 0x110004 then some (tc.extractLsb' 32 32)
  else if a == 0x110008 then some ((s.ntWords tc).1.extractLsb' 0 32)
  else if a == 0x11000c then some ((s.ntWords tc).1.extractLsb' 32 32)
  else if a == ntFrac then some (s.ntWords tc).2
  else if decide (0x91040 ≤ a) && decide (a < 0x93000) && decide (0x40 ≤ a % 0x100) && decide (a % 0x100 < 0x5c) then some (s.rd (a - 0x20))
  else if decide (0x134000 ≤ a) && decide (a < 0x140000) then some (s.recWindow ((a - 0x134000) / 4))
  else if decide (0x91000 ≤ a) && decide (a < 0x93000) && a % 0x100 == 0x60 then some (s.outAt ((a - 0x91000) / 0x100) tc)
  else (rxCopyOf a).map fun c => (s.canCh c).copy.get a

/-- What an object shows to a reader that uses a snapshot (R16, R50, R61, R507): the window from the cell state table; a dormant position 0 (R5); marked fields from the snapshot; a WO field and a reserved bit 0 (R17). -/
def State.peek (s : State) (snap : Snapshot) (tc : Tc) (a : Nat) : Word :=
  if inWindow a then BitVec.ofNat 32 (s.cst.le a 4)
  else
    match objRowAt a with
    | none => 0
    | some r =>
      if !s.declaredObj a then 0
      else
        let v := match r.kind with
          | .plain => (s.live tc a).getD (s.rd a)
          | .snapshot => snap.objs.get a
          | .mixed => s.rd a ||| snap.objs.get a
        v &&& BitVec.ofNat 32 r.readMask

/-- Reading an object: its value, and the state with what the read latches (R125, R388, R412). -/
def State.objRead (s : State) (snap : Snapshot) (tc : Tc) (a : Nat) : State × Word :=
  if isPairLo a then
    let h := s.obj.holding.set (a + 4) (s.peek snap tc (a + 4))
    let h := if a == 0x110008 then h.set ntFrac (s.peek snap tc ntFrac) else h
    ({ s with obj := { s.obj with holding := h } }, s.peek snap tc a)
  else if isPairHi a || a == ntFrac then (s, s.obj.holding.get a)
  else
    let v := s.peek snap tc a
    match rxHeaderOf a with
    | some (c, k) => if s.declaredObj a then (s.rxHold c k, v) else (s, v)
    | none => (s, v)

/-- Reading several objects in order. -/
def State.readAll (s : State) (snap : Snapshot) (tc : Tc) : List Nat → State × List Word
  | [] => (s, [])
  | a :: t =>
    let r := s.objRead snap tc a
    let q := r.1.readAll snap tc t
    (q.1, r.2 :: q.2)

/-- PAIR_LO_READ (R125): the read of a _LO half copies the high word into the holding register; the value goes to the reader. -/
def execPairLoRead (a : BitVec 32) (tc : Tc) (s : State) : Host.Outcome State Fault Refusal :=
  if !mapped a.toNat then .fault .unmappedAddress
  else
    let r := s.objRead s.latest tc a.toNat
    .next (r.1.emit (.readValue a.toNat r.2))

/-! Access (R52, R60, R69, R71, R473). -/

/-- The object lies in a dormant block or sub-unit (R60). -/
def State.dormantAt (s : State) (a : Nat) : Bool :=
  let b := a / 0x10000
  s.blockDormant b ||
  (b == 4 && decide (0x41000 ≤ a) && s.bit F.INF_DORMANT_UNIT_PORT ((a - 0x41000) / 0x1000)) ||
  (b == 15 && (if a < 0xf4000 then s.flag F.INF_DORMANT_UNIT_CAN0 else s.flag F.INF_DORMANT_UNIT_CAN1))

/-- Objects that only the service port may write within a session (R95, R96, R264, R359, R375, R378, R447, R473). -/
def serviceOnly (a : Nat) : Bool :=
  a == 0x7002c || a == 0x20014 || a == 0x20018 || a == 0xd0008 || a == 0x130030 || inArray 0x130100 32 4 a ||
  a == 0xe0040 || a == 0xe0044 || a == 0xe0048 || a / 0x10000 == 0x15

/-- Objects that the service port reaches without a session (R473); the transfer objects while the key store holds no service key (R474). -/
def State.openObject (s : State) (a : Nat) : Bool :=
  a / 0x10000 == 0 || a / 0x10000 == 1 || a == 0x150000 || a == 0x150004 || a == 0x150008 || a == 0x15000c || a == 0x150038 ||
  inArray 0x150100 32 4 a || inArray 0x150200 26 4 a || (!s.serviceKey && inArray 0x150010 4 4 a)

/-- The image grants a path the object, for reading or for writing (R52, section 0x000A). -/
def State.granted (s : State) (p : Path) (write : Bool) (a : Nat) : Bool :=
  let n0 := s.img 10 1344 2
  let first := if p = .can0 then 0 else n0
  let n := if p = .can0 then n0 else s.img 10 1346 2
  (List.range n).any fun j =>
    let at_ := 1352 + 12 * (first + j)
    decide (s.img 10 at_ 4 ≤ a) && decide (a ≤ s.img 10 (at_ + 4) 4) && (s.img 10 (at_ + 8) 1).testBit (if write then 1 else 0)

/-- TIM_INC, TIM_STEP and TIM_CTRL while the servo writes them (R413). -/
def servoObject (a : Nat) : Bool := a == 0x110014 || a == 0x110018 || a == 0x110024

/-- A path may not reach the object (R51, R52, R334, R413, R473). -/
def State.deniedTo (s : State) (p : Path) (own write : Bool) (a : Nat) : Bool :=
  (write && (inWindow a || inArray 0xc0100 4 16 a || (servoObject a && s.servoDenies (.path p)))) ||
  (match p with
  | .service => !own && !s.openObject a
  | _ => !s.granted p write a || (write && serviceOnly a))

/-- The status of an access by a path; 0 where it passes (R69, R71). The order among the checks of one object is the model's (log entry 76). -/
def State.accessStatus (s : State) (p : Path) (own write : Bool) (a : Nat) : Nat :=
  if a % 4 != 0 then stAlignment
  else if !mapped a then stUnmapped
  else if s.deniedTo p own write a then stDenied
  else if s.dormantAt a then stDormant
  else if write && (objRowAt a).elim true ObjRow.readOnly then stReadOnly
  else stOk

/-! Writing. -/

/-- Who writes, as a transfer from a lane: a path writes through the active lane (R53). -/
def State.writerOrigin (s : State) : Writer → Origin
  | .lane o => o
  | .path _ => s.ownOrigin

/-- The flags of an object that hardware sets in the clock cycle of a write (R63). -/
def setsAt (x : WriteAid) (a : Nat) : Word := ((x.sets.find? (·.1 == a)).map (·.2)).getD 0

/-- A plain write: RW fields take the value, W1C bits written 1 clear but for those that hardware sets in the same clock cycle, where the set wins (R63); the others are left (R16, R17). -/
def State.plainWrite (s : State) (a : Nat) (v : Word) (sets : Word) : State :=
  match objRowAt a with
  | none => s
  | some r =>
    let rw := BitVec.ofNat 32 (r.maskOf .rw)
    s.wr a (clearW1c ((s.rd a &&& ~~~rw) ||| (v &&& rw)) (v &&& ~~~sets) (r.maskOf .w1c))

/-- A write of an enable field: its old and new value decide what happens (R64). -/
def State.enableWrite (s : State) (a : Nat) (v : Word) (on off : State → State) : State :=
  let old := (s.rd a).getLsbD 0
  let s := s.plainWrite a v 0
  if v.getLsbD 0 && !old then on s else if !v.getLsbD 0 && old then off s else s

/-- DLK_ENABLE (R143, R150): each bit that changes enables or disables its port; bits of dormant ports ignore the write. -/
def State.dlkEnable (s : State) (v : Word) : State :=
  forUpTo 8 (fun p s =>
    let on := v.getLsbD p && !s.bit F.INF_DORMANT_UNIT_PORT p
    let was := s.bit F.DLK_ENABLE_EN p
    if on && !was then s.enablePort p else if !on && was then s.disablePort p else s) s

/-- SEQ_CTRL (R369): a set EN or RESTART makes a cold restart due; what a cleared EN does is said with the cycle. -/
def State.seqCtrl (s : State) (v : Word) : State :=
  let was := s.flag F.SEQ_CTRL_EN
  let s := s.putFlag F.SEQ_CTRL_EN (v.getLsbD 0)
  if v.getLsbD 1 || (v.getLsbD 0 && !was) then s.seqRestart else s

/-- A timed pulse output's control word (R416, R417). -/
def State.tpoCtrl (s : State) (n : Nat) (v : Word) (tc : Tc) : State :=
  let s := if v.getLsbD 0 then s.tpoArm n tc else s
  if v.getLsbD 1 then s.tpoDisarm n else s

/-- Blocks CFG to EST and the phase base, whose writes have effects of their own. -/
def State.writeData (s : State) (a : Nat) (v : Word) (tc : Tc) : Option State :=
  if a == 0x20010 then some (s.cfgSelect v)
  else if a == 0x20014 then some (s.cfgConfirm v tc)
  else if a == 0x20018 then some (s.cfgConfirmInv v tc)
  else if a == 0x2001c then some (s.cfgRestart v tc)
  else if a == 0x20040 then some (s.lsCtrl v)
  else if a == 0x40000 then some (s.dlkEnable v)
  else if inArray 0x41024 8 0x1000 a then some (if v.getLsbD 0 then s.reenumPort ((a - 0x41024) / 0x1000) tc else s)
  else if a == 0x50000 then some (s.enableWrite a v (fun s => s.put F.SWP_STAT_RUN 1) (fun s => s.swpDisable))
  else if a == 0x60000 then some (s.enableWrite a v (fun s => s.estEnable) (fun s => s.estDisable))
  else if a == 0x60018 then some (s.relearnScope (fieldOf v 12 2) (fieldOf v 0 12))
  else if a == 0x6001c then some (if v.getLsbD 0 then s.triggerWb 5 tc else s)
  else none

/-- Blocks PRT, BRK, CTE, DSP, THM and SAF. -/
def State.writeControl (s : State) (a : Nat) (v : Word) (o : Origin) (tc : Tc) : Option State :=
  if a == 0x7002c then some (s.lockRelease (fieldOf v 0 8) o)
  else if inArray 0x70134 8 0x40 a then some (if v.getLsbD 0 then s.rearmCapture ((a - 0x70134) / 0x40) else s)
  else if a == 0x80008 then some (s.auxWrite v o tc)
  else if inArray 0x80100 8 0x10 a then some (s.brkCommand ((a - 0x80100) / 0x10) (fieldOf v 0 3) o)
  else if a == 0x90000 then some (s.enableWrite a v (fun s => s.cteEnable) (fun s => s.cteDisable))
  else if inArray 0x90200 8 0x40 a then some (s.trimWrite ((a - 0x90200) / 0x40) (fieldOf v 0 3) o tc)
  else if decide (0x91000 ≤ a) && decide (a < 0x93000) && decide (0x40 ≤ a % 0x100) && decide (a % 0x100 < 0x5c) then
    some (s.directWrite ((a - 0x91000) / 0x100) ((a % 0x100 - 0x40) / 4) v o)
  else if a == 0xa0014 then some (s.hostWrite v tc)
  else if a == 0xb002c then some (s.plainWrite a v 0).coolCommand
  else if a == 0xb0034 then some (s.sdAck v)
  else if a == 0xc0008 then some (s.safReset (fieldOf v 0 16) o tc)
  else if a == 0xc0044 then some (s.sdReset (fieldOf v 0 4))
  else if inArray 0xc0100 4 0x10 a then some (s.sdWordWrite ((a - 0xc0100) / 0x10) v o tc)
  else none

/-- Blocks LAN, SEQ and CAN. LAN_CTRL takes the YIELD key from lane firmware and the planned switch from elsewhere (R346, R359). -/
def State.writeLanes (s : State) (a : Nat) (v : Word) (lane : Bool) (o : Origin) (x : WriteAid) (tc : Tc) : Option State :=
  if a == 0xd0008 then
    some (if lane then (if v == 0x3CA5#32 then s.yield o tc else s) else if v == 0xC35A#32 then s.plannedSwitch tc else s)
  else if a == 0xd000c then some (if lane then s.heartbeat (fieldOf v 0 16) o else s)
  else if a == 0xe0000 then some (s.seqCtrl v)
  else if a == 0xe0030 then some (if v.getLsbD 0 then s.olcApply x.olc else s)
  else if a == 0xe0048 then some (s.forceWrite (fieldOf v 0 2))
  else if a == 0xe0050 then some (s.seqTrig (fieldOf v 0 8))
  else if a == 0xf0000 || a == 0xf4000 then some (s.canCtrl ((a - 0xf0000) / 0x4000) v)
  else if a == 0xf00fc || a == 0xf40fc then some (s.txCancel ((a - 0xf0000) / 0x4000) (fieldOf v 0 3) x.won)
  else none

/-- Blocks TIM, AFE and REC. -/
def State.writeTime (s : State) (a : Nat) (v : Word) (x : WriteAid) (tc : Tc) : Option State :=
  let rc := fun (f : State → State) => some (if s.recRuns then f s else s)
  if a == 0x110014 then some (s.timInc v tc)
  else if a == 0x110018 then some (s.timStep v.toInt tc)
  else if a == 0x110024 then some (if v.getLsbD 0 then s.timSet s.timSetValue tc else s)
  else if a == 0x11002c then some (s.timConvert v)
  else if inArray 0x110100 4 0x20 a then some (s.tpoCtrl ((a - 0x110100) / 0x20) v tc)
  else if a == 0x120000 then some (s.enableWrite a v (fun s => s.afeEnable) (fun s => s.afeDisable))
  else if a == 0x120018 then some (s.afeSwTrig v (some tc))
  else if a == 0x130018 then rc (fun s => s.recLoad v)
  else if a == 0x130028 then rc (fun s => s.recHold v tc)
  else if a == 0x130030 then rc (fun s => s.recClear v x.signed x.media)
  else if inArray 0x130100 32 4 a then some (s.wr a v)
  else none

/-- Blocks PWR and UPD. A source comes with a request of the service port; without one the session cannot open (log entry 77). -/
def State.writeSystem (s : State) (a : Nat) (v : Word) (src : Option (BitVec 48)) (x : WriteAid) (tc : Tc) : Option State :=
  if a == 0x140004 then some (s.pwrCtrl (fieldOf v F.PWR_CTRL_KEY.lo F.PWR_CTRL_KEY.w) (fieldOf v F.PWR_CTRL_TARGET.lo F.PWR_CTRL_TARGET.w))
  else if a == 0x150008 then some (match src with
    | some q => s.authCtrl q v x.signed tc
    | none => s.sessionClose v)
  else if a == 0x150010 then some (s.xferCtrl v tc)
  else if a == 0x150030 then some (s.fwActivate v)
  else if a == 0x150034 then some (s.fwConfirm v)
  else if inArray 0x150100 32 4 a then some (s.wr a v)
  else none

/-- A write that passes its checks: to a dormant block or position it is discarded (R5, R61), a command to an undeclared string or an absent trimmer apart, which its block refuses; an object with an action of its own does that; an RWS object enters the staging (R97); the rest is a plain write. -/
def State.objWrite0 (s : State) (a : Nat) (v : Word) (w : Writer) (src : Option (BitVec 48)) (x : WriteAid) (tc : Tc) : State :=
  let lane := match w with
    | .lane _ => true
    | .path _ => false
  let o := s.writerOrigin w
  if s.dormantAt a then s
  else if rwsMask a != 0 then s.stage a v
  else if !s.declaredObj a && !inArray 0x80100 8 0x10 a && !inArray 0x90200 8 0x40 a then s
  else
    ((s.writeData a v tc).orElse fun _ => (s.writeControl a v o tc).orElse fun _ => (s.writeLanes a v lane o x tc).orElse fun _ =>
      (s.writeTime a v x tc).orElse fun _ => s.writeSystem a v src x tc).getD (s.plainWrite a v (setsAt x a))

/-- Objects whose block itself refuses a lane without the Lid or with an old placement epoch (R25, R257, R292, R299, R334). -/
def guarded (a : Nat) : Bool :=
  a == 0x80008 || inArray 0x80100 8 0x10 a || inArray 0x90200 8 0x40 a || a == 0xc0008 || inArray 0xc0100 4 0x10 a ||
  (decide (0x91000 ≤ a) && decide (a < 0x93000) && decide (0x40 ≤ a % 0x100) && decide (a % 0x100 < 0x5c))

/-- A lane may write an object: the staging takes no old epoch and counts it (R43, R356); elsewhere the lane must hold the Lid (R25, R345). Objects of the service port alone are not the lane's to write. -/
def State.laneMay (s : State) (o : Origin) (a : Nat) : Bool :=
  guarded a || (s.holdsLid o.lane && s.currentEpoch o && (!serviceOnly a || a == 0xd0008))

/-- A write from outside the object access service's queue: a path's single write under its checks, or a lane's (R16, R52, R345). -/
def State.writeFrom (s : State) (a : Nat) (w : Writer) (go : State → State) : Host.Outcome State Fault Refusal :=
  match w with
  | .path p => .next (if s.serviceUp && s.accessStatus p s.upd.session.isSome true a == stOk then go s else s)
  | .lane o =>
    if !mapped a then .fault .unmappedAddress
    else if rwsMask a != 0 then
      .next (if s.dormantAt a then s else if !s.currentEpoch o then s.staleTransfer 3 else if s.holdsLid o.lane && s.stagingOpen then go s else s)
    else .next (if s.laneMay o a then go s else s)

/-- RWS_WRITE (R97): into the open staging; an object without RWS fields is not for the staging. -/
def execRwsWrite (a : BitVec 32) (v : Word) (w : Writer) (s : State) : Host.Outcome State Fault Refusal :=
  s.writeFrom a.toNat w (fun s => if rwsMask a.toNat != 0 && !s.dormantAt a.toNat then s.stage a.toNat v else s)

end Sys2Proof.Machine
end

