-- ==== Sys2Proof/Machine/Seq.lean ====
section
/-! DEFINITION. Seq.lean: the program cycle with its object accesses (R365 to R369, R371 to R374), the watchdog, the disable, and every write of an object (R16, R369). -/
namespace Sys2Proof.Machine

open Sys2Proof

/-! Object accesses of the program (R59, R61, R367). -/

/-- An access to a dormant block: the diagnostic (R61, R367). -/
def State.dormantAccess (s : State) (a : Nat) : State :=
  (s.put F.SEQ_DIAG_ADDR_ADDR a).event Ev.SEQ_DORMANT

/-- A write by the program: to a dormant block it is discarded with the diagnostic; the block refuses what it refuses; what only the service port or firmware may write is discarded (R52, R61, R367); so is a write of SAF_SD_RXc, which no path but the lane's own renewal may make (R318, R334). -/
def State.progWrite (s : State) (a v : Nat) (tc : Tc) : State :=
  let x : WriteAid := { signed := false, media := { flash := 0, fram := 0, health := true, ecc := false }, won := false, olc := { standby := false, base := 0 }, sets := [] }
  let w := BitVec.ofNat 32 v
  if s.dormantAt a then s.dormantAccess a
  else if rwsMask a != 0 then (if s.stagingOpen then s.stage a w else s)
  else if a != 0xd0008 && !inArray 0xc0100 4 0x10 a && s.laneMay s.ownOrigin a then s.objWrite0 a w (.lane s.ownOrigin) none x tc
  else s

/-- A read by the program for an input variable. -/
def State.progRead (s : State) (a : Nat) (tc : Tc) : State × Nat :=
  if s.dormantAt a then (s.dormantAccess a, 0)
  else
    let r := s.objRead s.latest tc a
    (r.1, r.2.toNat)

/-! Safe outputs (R369). -/

/-- Safe values are applied: VALUE variables bound to objects are written once, stations hear RUN = 0. -/
def State.safeOutputs (s : State) (tc : Tc) : State :=
  let s := s.seqVars.foldl (fun s v => match v.binding, v.safe with
    | some b, some x => if b.output then s.progWrite b.addr x tc else s
    | _, _ => s) s
  (s.put F.SEQ_STAT_SAFE_OUT 1).sendOuts false tc

/-- The program leaves its cycle. -/
def State.seqLeave (s : State) (st : Nat) : State :=
  (({ s with seq := { s.seq with running := false, todo := [], stopping := false, cycleDue := false } } : State).put F.SEQ_STAT_STATE st).put F.SEQ_STAT_BUSY 0

/-- The program is stopped, with safe values in force. -/
def State.seqStopped (s : State) (tc : Tc) : State := (s.seqLeave sqStopped).safeOutputs tc

/-- The declared event tasks among those triggered, ascending (R366). -/
def State.triggered (s : State) : List SeqTask :=
  let decl := (s.seq.prog.map (·.events)).getD []
  ((List.range 8).filter fun k => s.seq.trig.getLsbD k && decl.contains k).map SeqTask.event

/-- A task evaluation of the running cycle has not ended: a task of phase 3, or TX. -/
def State.evaluating (s : State) : Bool := s.seq.running && (!s.seq.todo.isEmpty || s.seq.phase4 == some true)

/-- A disable (R64, R65, R369): triggered tasks not yet started are abandoned and counted; the evaluation in progress completes. -/
def State.seqDisable (s : State) (tc : Tc) : State :=
  let event := fun (t : SeqTask) => match t with
    | .event _ => true
    | _ => false
  let n := ((s.seq.todo.drop 1).filter event).length + s.triggered.length
  let s := s.put F.SEQ_ABANDON_CNT n
  let s : State := { s with seq := { s.seq with trig := 0, todo := s.seq.todo.take 1 } }
  if s.evaluating then { s with seq := { s.seq with stopping := true } } else s.seqStopped tc

/-- A write of an object. A write that clears SEQ_CTRL.EN disables the program (R369). -/
def State.objWrite (s : State) (a : Nat) (v : Word) (w : Writer) (src : Option (BitVec 48)) (x : WriteAid) (tc : Tc) : State :=
  let t := s.objWrite0 a v w src x tc
  if s.flag F.SEQ_CTRL_EN && !t.flag F.SEQ_CTRL_EN && !t.blockDormant 14 then t.seqDisable tc else t

/-- REGISTER_WRITE (R16, R17): a write acts per the access type of the object's fields. -/
def execRegisterWrite (a : BitVec 32) (v : Word) (w : Writer) (x : WriteAid) (tc : Tc) (s : State) : Host.Outcome State Fault Refusal :=
  s.writeFrom a.toNat w (fun s => s.objWrite a.toNat v w none x tc)

/-! The cycle (R365). -/

/-- A cold restart (R366, R369): initial values, forces kept, TI due. -/
def State.coldRestart (s : State) : State :=
  let vals := (s.seq.prog.map initialVals).getD []
  ({ s with seq := { s.seq with vals := vals, edges := [], written := [], coldDue := false, initDue := true } } : State).put F.SEQ_STAT_STATE sqInit

/-- Phase 1: an on-line change, a cold restart, the force commands, the epoch (R59, R365, R369, R375, R378). -/
def State.phase1 (s : State) (tc : Tc) : State :=
  let s := s.applyChange
  let s := if s.seq.coldDue then s.coldRestart else s
  let cs := s.seq.commands
  let s := cs.foldl (fun s c => s.forceCommand c) { s with seq := { s.seq with commands := [] } }
  let s : State := { s with seq := { s.seq with epoch := s.latestEpoch, running := true, startTc := tc, cycleDue := false, stopping := false, phase4 := none } }
  s.put F.SEQ_STAT_SAFE_OUT 0

/-- A LOST station that has answered three times in a row is RUN again (R372). -/
def State.stationsBack (s : State) : State :=
  s.seqStations.foldl (fun s x =>
    if s.fld (F.SEQ_STN_STAT_STATE x.index) == stnLost && decide (3 ≤ (s.stn x.index).good) then s.stnState x.index stnRun else s) s

/-- The bytes that a station's inputs show in phase 2; none leaves the variables as they are (R371). -/
def State.stationInputs (s : State) (x : SeqStation) : Option (List Byte) :=
  if s.fld (F.SEQ_STN_STAT_STATE x.index) == stnRun then some (s.stn x.index).inputs
  else match x.subst with
    | 0 => some (List.replicate x.nIn 0#8)
    | 1 => none
    | _ => some x.values

/-- One input variable in phase 2: from its station or from its object. -/
def State.inputVar (s : State) (v : SeqVar) (tc : Tc) : State :=
  match v.input with
  | some (i, off) =>
    match s.seqStations.find? fun x => x.index == i with
    | some x =>
      match s.stationInputs x with
      | some l => s.varPut v (leAt l off ((v.width + 7) / 8))
      | none => s
    | none => s
  | none =>
    match v.binding with
    | some b =>
      if b.output then s
      else
        let r := s.progRead b.addr tc
        r.1.varPut v r.2
    | none => s

/-- Rising edges since the previous phase 2 trigger their tasks (R366). -/
def State.takeEdges (s : State) : State :=
  let vs := s.seqVars.filter fun v => v.trigger.isSome
  let bits := vs.foldl (fun t v =>
    let was := assoc s.seq.edges v.addr
    if s.varValue v == 1 && was == some 0 then t ||| BitVec.ofNat 8 (2 ^ v.trigger.getD 0) else t) s.seq.trig
  { s with seq := { s.seq with trig := bits, edges := vs.map fun v => (v.addr, s.varValue v) } }

/-- Phase 2, and the tasks of phase 3 in their order: TI, triggered event tasks, due cyclic tasks (R365, R366). -/
def State.phase2 (s : State) (tc : Tc) : State :=
  let s := s.seqVars.foldl (fun s v => s.inputVar v tc) s.stationsBack
  let s := s.takeEdges
  let p := s.seq.prog.getD default
  let n := s.fld F.SEQ_CYCLE_COUNT
  let init := if s.seq.initDue && p.hasInit then [SeqTask.init] else []
  let due := ((List.range 8).filter fun k => p.cyclic.any fun c => c.1 == k && n % c.2.1 == c.2.2).map SeqTask.cyclic
  { s with seq := { s.seq with todo := init ++ s.triggered ++ due, trig := 0, initDue := false } }

/-- A cycle begins. -/
def State.cycleStart (s : State) (tc : Tc) : State := (s.phase1 tc).phase2 tc

/-- A task has written a variable; a write to a forced variable is discarded (R375). -/
def State.taskWrite (s : State) (e : Nat × Nat) : State :=
  match s.seqVar e.1 with
  | some v => if (assoc s.seq.forces e.1).isSome then s else s.varPut v e.2
  | none => s

/-- TX is due: a station became LOST since the previous phase 4 (R374). -/
def State.errorDue (s : State) : Bool :=
  (s.seq.prog.getD default).hasError && s.seq.stations.any (·.lostDue)

/-- Phase 4 begins once no task of phase 3 is left: TX is evaluated in it for the losses recognised until now (R373, R374). -/
def State.beginPhase4 (s : State) : State :=
  if s.seq.running && s.seq.todo.isEmpty && s.seq.phase4.isNone && !s.seq.stopping then
    { s with seq := { s.seq with phase4 := some s.errorDue, stations := s.seq.stations.map fun y => { y with lostDue := false } } }
  else s

/-- A task evaluation ends with what it has written, in the order of phases 3 and 4; one that is not next has not run. -/
def State.taskDone (s : State) (e : SeqTask × List (Nat × Nat)) : State :=
  match s.seq.todo with
  | t :: rest => if t == e.1 then (e.2.foldl State.taskWrite { s with seq := { s.seq with todo := rest } }).beginPhase4 else s
  | [] => if e.1 == .error && s.seq.phase4 == some true then e.2.foldl State.taskWrite { s with seq := { s.seq with phase4 := some false } } else s

/-- The output variables bound to objects, in ascending variable address. -/
def State.outputVars (s : State) : List SeqVar :=
  let ins := fun (v : SeqVar) (l : List SeqVar) => l.takeWhile (fun x => decide (x.addr < v.addr)) ++ v :: l.dropWhile (fun x => decide (x.addr < v.addr))
  (s.seqVars.filter fun v => v.binding.elim false (·.output)).foldr ins []

/-- One output variable in phase 5 (R367). -/
def State.outputVar (s : State) (v : SeqVar) (tc : Tc) : State :=
  match v.binding with
  | none => s
  | some b =>
    let x := s.varValue v
    if objHas b.addr .wo then
      if x = 0 then s else (s.progWrite b.addr x tc).varPut v 0
    else if assoc s.seq.written v.addr = some x then s
    else
      let s : State := { s with seq := { s.seq with written := assocPut s.seq.written v.addr x } }
      s.progWrite b.addr x tc

/-- Phase 5 and the end of the cycle (R365, R367, R368): outputs, station frames, the times. -/
def State.cycleEnd (s : State) (time : Nat) (tc : Tc) : State :=
  let en := s.flag F.SEQ_CTRL_EN
  let s := (s.outputVars.foldl (fun s v => s.outputVar v tc) s).sendOuts true tc
  let t := min 65535 time
  let s := (s.put F.SEQ_TIME_LAST t).put F.SEQ_TIME_MAX (max t (s.fld F.SEQ_TIME_MAX))
  let s := (s.bump F.SEQ_CYCLE_COUNT).put F.SEQ_STAT_STATE sqRun
  let s : State := { s with seq := { s.seq with kept := s.seq.vals, running := false } }
  if en && !s.flag F.SEQ_CTRL_EN then s.seqDisable tc else s

/-- PROGRAM_CYCLE (R365): the phases that the program has run since the last one of these commands. -/
def execProgramCycle (x : CycleWork) (tc : Tc) (s : State) : Host.Outcome State Fault Refusal :=
  if !s.inCharge || s.blockDormant 14 then .next s
  else
    let s := if x.start && s.seq.cycleDue && !s.seq.running then s.cycleStart tc else s
    if !s.seq.running then .next s
    else
      let s := x.tasks.foldl State.taskDone s.beginPhase4
      if s.seq.stopping then .next (if s.evaluating then s else s.seqStopped tc)
      else
        let s := if x.finish && !s.evaluating then s.cycleEnd x.time tc else s
        .next (s.putFlag F.SEQ_STAT_BUSY s.evaluating)

/-- PROGRAM_WATCHDOG (R368): WDT × T_C after its start. -/
def execProgramWatchdog (tc : Tc) (s : State) : Host.Outcome State Fault Refusal :=
  let limit := msTicks (s.fld F.SEQ_CFG_WDT * s.fld F.SEQ_CFG_CYCLE)
  if s.inCharge && s.seq.running && passed tc s.seq.startTc limit then
    .next (((s.seqLeave sqHalt).event Ev.SEQ_HALT).safeOutputs tc)
  else .next s

/-- The program at a commit point (R365, R368, R369): every CYCLE-th one a cycle is due, or is skipped as an overrun; while safe values are in force the stations hear RUN = 0. -/
def State.seqCommit (s : State) (tc : Tc) : State :=
  if !s.seq.started || s.blockDormant 14 then s
  else
    let n := s.seq.commits + 1
    let s : State := { s with seq := { s.seq with commits := n } }
    let st := s.fld F.SEQ_STAT_STATE
    if n % s.fld F.SEQ_CFG_CYCLE != 0 then s
    else if s.seq.running then s.event Ev.SEQ_OVERRUN
    else if s.seq.coldDue || st == sqInit || st == sqRun then { s with seq := { s.seq with cycleDue := true } }
    else if s.flag F.SEQ_STAT_SAFE_OUT then s.sendOuts false tc
    else s

end Sys2Proof.Machine
end

