-- ==== Sys2Proof/Machine/Service.lean ====
section
/-! DEFINITION. Service.lean: the object access service (R53 to R57, R66 to R72, R389, R473, R507). -/
namespace Sys2Proof.Machine

open Sys2Proof

/-! A request (R66, R68). -/

/-- Service code, count, epoch selector. -/
def Request.service (r : Request) : Nat := leAt r.pdu 0 1
def Request.count (r : Request) : Nat := leAt r.pdu 2 1
def Request.selector (r : Request) : Nat := leAt r.pdu 4 4

/-- The count is within its limits: on CAN0 14 reads or 7 writes, elsewhere 240 or 120; none for an EPOCH_QUERY (R68). -/
def Request.countOk (r : Request) : Bool :=
  let can := r.path == .can0
  match r.service with
  | 1 => inRange 1 (if can then 14 else 240) r.count
  | 2 => inRange 1 (if can then 14 else 240) r.count
  | 3 => inRange 1 (if can then 7 else 120) r.count
  | _ => r.count == 0

/-- The length that service and count imply (R66). -/
def Request.length (r : Request) : Nat :=
  match r.service with
  | 1 => 12
  | 2 => 8 + 4 * r.count
  | 3 => 8 + 8 * r.count
  | _ => 8

/-- The length is right; on CAN0 with its padding (R389). DESIGN CHOICE (log entry 184): a reserved byte 3 other than 0x00 is ignored, the manual gives no status for it (R66). -/
def Request.lengthOk (r : Request) : Bool :=
  r.pdu.length == (if r.path == .can0 then fdLength r.length else r.length)

/-- The addresses that a reading request names, in order. -/
def Request.reads (r : Request) : List Nat :=
  (List.range r.count).map fun i => if r.service = 1 then leAt r.pdu 8 4 + 4 * i else leAt r.pdu (8 + 4 * i) 4

/-- The pairs of a WRITE_LIST, in order. -/
def Request.writes (r : Request) : List (Nat × Word) :=
  (List.range r.count).map fun i => (leAt r.pdu (8 + 8 * i) 4, BitVec.ofNat 32 (leAt r.pdu (12 + 8 * i) 4))

/-- The sender owns the open session; the other paths need none (R473, R474). -/
def State.requestOwn (s : State) (r : Request) : Bool := r.path != .service || s.owns r.src

/-- The first object that fails its checks: its index and status (R69). -/
def State.firstBad (s : State) (r : Request) (write : Bool) : List Nat → Nat → Option (Nat × Nat)
  | [], _ => none
  | a :: t, i =>
    let c := s.accessStatus r.path (s.requestOwn r) write a
    if c = stOk then s.firstBad r write t (i + 1) else some (i, c)

/-! Arrival (R53, R71, R72). -/

/-- The path exists: the service port always, the others as the image in effect has them (R52, R60, R90). -/
def State.pathUp (s : State) : Path → Bool
  | .service => true
  | .eth => s.hasSec 10
  | .can0 => s.canUsed 0

/-- A request of the session's owner keeps the session open (R474). -/
def State.touchSession (s : State) (r : Request) (tc : Tc) : State :=
  match s.upd.session with
  | some x => if r.path == .service && x.owner == r.src then { s with upd := { s.upd with session := some { x with lastTc := tc } } } else s
  | none => s

/-- A request at the service: answered at once where a takeover is in hand, its queue is full or its service unknown; else queued. -/
def State.arrive (s : State) (r : Request) : State :=
  if s.flag F.LAN_STAT_MGMT_PEND then s.answerStatus r stLaneChange
  else if 4 ≤ (s.obj.queue.filter fun q => q.path == r.path).length then s.answerStatus r stBusy
  else if !inRange 1 4 r.service then s.answerStatus r stUnknown
  else { s with obj := { s.obj with queue := s.obj.queue ++ [r] } }

/-- OBJ_REQUEST_ARRIVAL (R53): dropped while no lane holds the Lid or the service does not run. -/
def execObjRequestArrival (path : Path) (src : BitVec 48) (pdu : List Byte) (tc : Tc) (s : State) : Host.Outcome State Fault Refusal :=
  let r : Request := { path, src, pdu }
  if !s.lidHeld || !s.obj.running || !s.pathUp path then .next s
  else
    let s := if path = .can0 then s.takeRequestFrame else s
    .next ((s.touchSession r tc).arrive r)

/-! Processing (R54 to R57, R69, R70). -/

/-- The request at the front of the queue, if it is of this service (R53: in order of arrival). -/
def State.frontRequest (s : State) (service : Nat) : Option Request :=
  match s.obj.queue with
  | r :: _ => if s.serviceUp && r.service == service then some r else none
  | [] => none

/-- The front request leaves the queue. -/
def State.takeRequest (s : State) : State := { s with obj := { s.obj with queue := s.obj.queue.drop 1 } }

/-- An answer OK. The manual names no index for it: a free value (log entry 79). -/
def State.answerOk (s : State) (r : Request) (epoch : Word) (values : List Word) : State :=
  (s.answer r stOk (s.free.toNat % 256) epoch values).took

/-- The kind of an address; the window is plain (R50, R51). -/
def kindAt (a : Nat) : ObjKind := (objRowAt a).elim .plain (·.kind)

/-- The status of an epoch selector that names no held snapshot (R55). -/
def State.epochStatus (s : State) (sel : Nat) : Nat :=
  if inRange 1 (2 ^ 31) ((sel + 2 ^ 32 - s.latestEpoch.toNat) % 2 ^ 32) then stFuture else stExpired

/-- The snapshot of a request that reads some objects, with whether its epoch is the answer's; or the status it is answered with (R54 to R57, R507). -/
def State.chooseSnapshot (s : State) (as : List Nat) (sel : Nat) : Sum Nat (Snapshot × Word) :=
  let snaps := as.any fun a => kindAt a == .snapshot
  let mixed := as.any fun a => kindAt a == .mixed
  if s.latest.epoch = 0 then (if snaps then .inl stFuture else .inr (s.latest, s.latestEpoch))
  else if !snaps && !mixed then .inr (s.latest, s.latestEpoch)
  else if sel = 0 || sel = s.latest.epoch.toNat then .inr (s.latest, s.latest.epoch)
  else if sel = s.previous.epoch.toNat then .inr (s.previous, s.previous.epoch)
  else .inl (s.epochStatus sel)

/-- A reading request (R68, R69). -/
def State.readRequest (s : State) (r : Request) (tc : Tc) : State :=
  let s := s.takeRequest
  if !r.countOk || !r.lengthOk then s.answerStatus r stBadLength
  else
    match s.firstBad r false r.reads 0 with
    | some (i, c) => s.answer r c i s.latestEpoch []
    | none =>
      match s.chooseSnapshot r.reads r.selector with
      | .inl c => s.answerStatus r c
      | .inr (snap, e) =>
        let q := s.readAll snap tc r.reads
        q.1.answerOk r e q.2

/-- READ_RANGE (R68). -/
def execReadRange (tc : Tc) (s : State) : Host.Outcome State Fault Refusal :=
  match s.frontRequest 1 with
  | some r => .next (s.readRequest r tc)
  | none => .next s

/-- READ_LIST (R68). -/
def execReadList (tc : Tc) (s : State) : Host.Outcome State Fault Refusal :=
  match s.frontRequest 2 with
  | some r => .next (s.readRequest r tc)
  | none => .next s

/-- One write of a list, while the service still runs. -/
def State.listWrite (s : State) (r : Request) (x : WriteAid) (tc : Tc) (e : Nat × Word) : State :=
  if s.serviceUp then s.objWrite e.1 e.2 (.path r.path) (some r.src) x tc else s

/-- A writing request (R69, R70): checked whole, then carried out in list order. Where a write has ended the service, no answer leaves. -/
def State.writeRequest (s : State) (r : Request) (x : WriteAid) (tc : Tc) : State :=
  let s := s.takeRequest
  if !r.countOk || !r.lengthOk then s.answerStatus r stBadLength
  else
    match s.firstBad r true (r.writes.map (·.1)) 0 with
    | some (i, c) => s.answer r c i s.latestEpoch []
    | none =>
      let s := r.writes.foldl (fun s e => s.listWrite r x tc e) s
      if s.serviceUp then s.answerOk r s.latestEpoch [] else s

/-- WRITE_LIST (R70). -/
def execWriteList (x : WriteAid) (tc : Tc) (s : State) : Host.Outcome State Fault Refusal :=
  match s.frontRequest 3 with
  | some r => .next (s.writeRequest r x tc)
  | none => .next s

/-- EPOCH_QUERY (R68): latest and previous epoch, the time-counter value of the latest aperture. -/
def execEpochQuery (tc : Tc) (s : State) : Host.Outcome State Fault Refusal :=
  let _ := tc
  match s.frontRequest 4 with
  | some r =>
    let s := s.takeRequest
    if !r.countOk || !r.lengthOk then .next (s.answerStatus r stBadLength)
    else
      let t := s.latest.tc
      .next (s.answerOk r s.latestEpoch [s.latestEpoch, s.previous.epoch, t.extractLsb' 0 32, t.extractLsb' 32 32])
  | none => .next s

end Sys2Proof.Machine
end

