-- ==== Sys2Proof/Machine/Start.lean ====
section
/-! DEFINITION. Start.lean: a lane becomes active and loads the module (R86 to R90, R339, R454). -/
namespace Sys2Proof.Machine

open Sys2Proof

/-! The image in effect (R87, R90). -/

/-- The image of a slot is in effect. -/
def State.takeImage (s : State) (k : Nat) (fallback : Bool) : State :=
  let l := s.cfg.slots.getD k []
  let secs := imageBodies l
  let safety := safetyCheck secs
  let confirmed := s.cfg.confirms.getD k none == some safety
  let s : State := { s with cfg := { s.cfg with sections := secs } }
  let s := ((s.put F.CFG_STAT_SLOT k).put F.CFG_STAT_VALID 1).putFlag F.CFG_STAT_FALLBACK fallback
  let s := (s.putFlag F.CFG_STAT_CONFIRMED confirmed).putFlag (F.CFG_SLOT_STAT_CONFIRMED k) confirmed
  let s := ((s.put F.CFG_IMAGE_ID_VALUE (leAt l 12 4)).put F.CFG_STRUCT_CV_VALUE (structCheck secs).toNat).put F.CFG_SAFETY_CV_VALUE safety.toNat
  (s.put (F.CFG_SLOT_STAT_IN_EFFECT k) 1).putFlag F.PRT_STAT_CLOSE_BLOCK (!confirmed)

/-- The attempts at the primary and, if enabled, the fallback slot (R87). -/
def State.loadImage (s : State) (x : BootCheck) : State :=
  let p := s.fld F.CFG_SELECT_PRIMARY
  let c := s.loadCode p x.primary
  if c = 0 then s.takeImage p false
  else
    let s := s.loadFailed p c
    if s.flag F.CFG_SELECT_FB_EN then
      let f := s.fld F.CFG_SELECT_FALLBACK
      let d := s.loadCode f x.fallback
      if d = 0 then s.takeImage f true else s.loadFailed f d
    else s

/-- What LAN_CFG reads without an image (R90). -/
def State.noImage (s : State) : State :=
  (((s.put F.LAN_CFG_STBY_CHK 60).put F.LAN_CFG_PL 2).put F.LAN_CFG_REQUAL_MAX 1).putFlag F.PRT_STAT_CLOSE_BLOCK true

/-! Distribution (R88, R123, R453). -/

/-- The functions that their enables start run. -/
def State.showRuns (s : State) : State :=
  let s := if s.flag F.AFE_CTRL_EN then s.afeEnable else s
  let s := if s.flag F.EST_CTRL_EN then s.estEnable else s
  let s := if s.flag F.SWP_CTRL_EN then s.put F.SWP_STAT_RUN 1 else s
  s.showCte

/-- Every declared port is enabled and begins without a ring. -/
def State.enablePorts (s : State) : State := forUpTo 8 (fun p s => if s.declared p then s.enablePort p else s) s

/-- The blocks outside the island, in the order of R88: image fields, and live values where a resume brings them; the estimation engine's entries as the caller says. -/
def State.loadBlocks (s : State) (live : List (Nat × Word)) (entries program : State → State) (tc : Tc) : State :=
  let s := s.imageFields.putSet live
  let s := entries ((s.phbReset tc).timStart.afeStart)
  let s := ((s.startValues.cteStart tc).dspBegin tc).showRuns
  let s := program s
  let s := (forUpTo 2 (fun c s => s.canLoad c) s).ethLoad
  let s : State := { s with cfg := { s.cfg with distributed := true } }
  s.recRun.enablePorts

/-- Load step 10 with the island first (R88, R236). -/
def State.distribute (s : State) (x : BootCheck) (tc : Tc) : State :=
  let s := ((s.prtLoad.prtArm x.island tc).imdStart tc).safStart tc
  let s := s.loadBlocks [] (fun s => s.estStart) (fun s => s.seqLoad) tc
  s.putFlag F.AFE_STAT_TRIM_BAD (!x.trims)

/-- The recorder counts what the start tells of: a safe stop, a thermal shutdown, a power failure (R441). -/
def State.countStart (s : State) : State :=
  match s.fld F.PWR_STAT_START with
  | 4 => s.recCount cntSafeStop
  | 5 => s.recCount cntPowerFail
  | 7 => s.recCount cntSafeStop
  | 8 => s.recCount cntThermal
  | _ => s

/-! A lane becomes active (R339, R341, R454). -/

/-- The lane takes the Lid: placement epoch 1, PL3. -/
def State.takeLid (s : State) (l : Lane) : State :=
  let s : State := { s with lan := { s.lan with pins := lidPins (some l), back := lidPins (some l), odd := none, fw := true } }
  (((s.putFlag F.LAN_STAT_ACTIVE (l == .b)).setLane l lnActive).wr 0x10008 1).setLevel 3

/-- Steps 4 to 7 of the start. -/
def State.bootDone (s : State) (l : Lane) (x : BootCheck) (tc : Tc) : State :=
  let s := s.takeLid l
  let s : State := { s with
    lan := s.lan.putCheck l (x.fwCheck, x.imageCheck)
    pwr := { s.pwr with state := .running, wakeTick := none }
    rcd := { s.rcd with fwVersion := s.runningVersion } }
  let s := (s.recStart true tc).loadImage x
  let s := if s.flag F.CFG_STAT_VALID then (s.distribute x tc).countStart else s.noImage.timStart.phbReset tc
  s.serviceOn

/-- Some firmware slot runs. -/
def State.booted (s : State) : Bool := s.flag (F.UPD_FW_STAT_RUNNING 0) || s.flag (F.UPD_FW_STAT_RUNNING 1)

/-- LANE_BOOT_DONE (R339, R341): the first lane to pass becomes active and loads the module; lane A where the other lane passes on the same island clock. The other lane's boot ends with its load and match. -/
def execLaneBootDone (l : Lane) (x : BootCheck) (tc : Tc) (s : State) : Host.Outcome State Fault Refusal :=
  if s.pwr.state == .starting && s.lanesPowered && s.laneState l == lnBoot && !s.lidHeld && s.booted then
    .next (s.bootDone (if x.both && s.laneState (otherLane l) == lnBoot then .a else l) x tc)
  else .next s

end Sys2Proof.Machine
end

