-- ==== Sys2Proof/Machine/Sleep.lean ====
section
/-! DEFINITION. Sleep.lean: the end of a sleep entry (R458 to R463), the resume (R465 to R469), and the power failure (R470). -/
namespace Sys2Proof.Machine

open Sys2Proof

/-! Power failure (R450, R470). -/

/-- Networks stop: frames that wait are abandoned, nothing more is sent. -/
def State.networksOff (s : State) : State :=
  (forUpTo 2 (fun c s => if s.canState c = canOff then s else s.canDisable c) s).ethWithdraw

/-- Dispatch stops (R64). -/
def State.dispatchOff (s : State) : State :=
  ({ s with dsp := { s.dsp with work := none, again := false } } : State).put F.DSP_STAT_RUN 0

/-- The sequence program stops (R64, R369). -/
def State.programOff (s : State) (tc : Tc) : State := if s.blockDormant 14 || !s.seq.started then s else s.seqDisable tc

/-- The power-fail notice to the lane: what firmware runs stops at its current atom (R64, R313). -/
def State.failNotice (s : State) (tc : Tc) : State := (s.serviceOff.programOff tc).dispatchOff

/-- A cause-word write in progress completes (R313). -/
def State.finishClearing (s : State) (tc : Tc) : State :=
  if s.thm.clearing then (s.writeCause 0).giveInput 60 false tc else s

/-- What follows power-fail detect at once (R470, R479); a cause-word write in progress completes (R313). -/
def State.powerFail (s : State) (tc : Tc) : State :=
  let s := ((s.put F.PWR_STAT_PFAIL 1).event Ev.PWR_PFAIL).put F.PWR_STAT_ENTRY 0 |>.put F.PWR_STAT_TARGET 0
  let s : State := { s with pwr := { s.pwr with request := none, latched := 0, failTc := tc } }
  let s := (((s.failNotice tc).networksOff).abortXfer).finishClearing tc
  let s := (s.put F.REC_STAT_RUN 0).put F.REC_STAT_HOLD 0
  if s.blockDormant 6 then s else (s.estDisable).triggerWb 4 tc

/-- POWER_FAIL_DETECT (R450, R470): supply below 7.2 V while the module runs. -/
def execPowerFailDetect (vin : BitVec 16) (tc : Tc) (s : State) : Host.Outcome State Fault Refusal :=
  let up := s.pwr.state == .starting || s.pwr.state == .running || s.pwr.state == .waking
  if up && decide (vin.toNat < 720) && !s.flag F.PWR_STAT_PFAIL then .next ((s.put F.PWR_SUPPLY_VIN vin.toNat).powerFail tc)
  else .next s

/-- POWER_FAIL_SHUTDOWN (R470): 4 ms after detect. A write-back in progress has ended as its read-back found it. -/
def execPowerFailShutdown (good : Bool) (tc : Tc) (s : State) : Host.Outcome State Fault Refusal :=
  if s.flag F.PWR_STAT_PFAIL && passed tc s.pwr.failTc (msTicks 4) then
    let s := match s.est.wb with
      | some w => s.finishWb w good
      | none => s
    let s := if s.lan.fw then s.hoursSave tc else s
    let s := (((s.allSafe tc).silence.updWithdraw).lanesOff)
    .next { s with pwr := { Pwr.reset with failed := true } }
  else .next s

/-! Thermal shutdown (R313). -/

/-- The thermal shutdown (R313): X60, everything open, the coolant outputs per SD_COOL, the power-fail notice, the cause word, the capacity write-back of cause 4 with the estimation engine disabled (R232), the AFE and the lanes powered down, safe stop of cause 4. -/
def State.thermalShutdown (s : State) (cause : Nat) (t : Int) (tc : Tc) : State :=
  let cool := (s.img 12 102 1).testBit 0
  let s := (s.giveInput 60 true tc).allSafe tc
  let s := (s.put F.THM_STAT_PUMP (if cool then 100 else 0)).putFlag F.THM_STAT_CHILL cool
  let s := (s.failNotice tc).writeCause (BitVec.ofNat 32 (causeWord cause t))
  let s := if s.blockDormant 6 then s else s.estDisable.triggerWb 4 tc
  let s := if s.blockDormant 0x12 then s else s.afeDisable
  let s := (s.put F.LAN_SS_CAUSE_CAUSE 4).put F.LAN_SS_CAUSE_CLASS 0
  let s := s.silence.updWithdraw.lanesOff
  { s with lan := { s.lan with stopTc := some tc }, pwr := { s.pwr with state := .thermalStop, request := none } }

/-- JUNCTION_READING (R313): every 1 ms. With no valid sensor the temperature in the cause word is free (log entry 159). -/
def execJunctionReading (t1 t2 : BitVec 16) (tc : Tc) (s : State) : Host.Outcome State Fault Refusal :=
  if !s.pwr.state.sensed then .next s
  else
    let s := s.takeJunctions t1 t2
    if s.pwr.state != .thermalStop && s.pwr.state != .debug then
      match s.hotJunction with
      | some t => .next (s.thermalShutdown 1 t tc)
      | none => .next (if 2 ≤ s.thm.bad then s.took.thermalShutdown 2 (128 * (s.free.toNat % 256 : Nat)) tc else s)
    else .next s

/-! The end of an entry (R458, R459, R461, R463). -/

/-- Every block that can be dormant is dormant again while its power is off (R60). -/
def State.allDormant (s : State) : State := (s.wr 0x10 0x0DCE70#32).wr 0x14 0x3FF#32

/-- Pads are held. -/
def State.holdPads (s : State) : State := s.wr 0x140020 0xF#32

/-- Ports, engines and lanes are off; the lanes' states stay as they were. -/
def State.domainsOff (s : State) (tc : Tc) : State :=
  let s := forUpTo 8 (fun p s => s.portDark p) s
  let s := (forUpTo 8 (fun n s => if s.declared n then s.openPair n tc else s) s).dropAll tc
  let s := if s.blockDormant 14 then s else s.seqLeave sqStopped
  let s : State := { s with
    lan := { s.lan with pins := lidPins none, back := lidPins none, odd := none, levelA := none, levelB := none, fw := false, planned := false, final := false, watched := false }
    obj := { s.obj with queue := [], running := false }
    frames := { s.frames with due := none } }
  (s.afeDisable.cteHalt).holdPads.allDormant

/-- A TC10 request without an answer by now has failed; the port sleeps anyway (R418). -/
def State.tc10End (s : State) : State :=
  forUpTo 2 (fun p s => if s.fld (ethTc10 p) == tc10Wait then (s.event Ev.ETH_SLEEP_FAIL).put (ethTc10 p) tc10Asleep else s) s

/-- The sleep state that a target names. -/
def sleepState : Nat → PowerState
  | 1 => .standby
  | 2 => .deep
  | _ => .off

/-- ENTRY_COMPLETE (R458): the work of the entry is done, a write-back among it. Sources latched or present wake the module at once (R463). -/
def execEntryComplete (wakeIn : Bool) (tc : Tc) (s : State) : Host.Outcome State Fault Refusal :=
  if s.flag F.PWR_STAT_ENTRY && s.pwr.state == .running && s.est.wb.isNone then
    let st := sleepState (s.fld F.PWR_STAT_TARGET)
    let found := s.pwr.latched.toNat ||| (if wakeIn then 2 else 0)
    let s := ((s.tc10End.domainsOff tc).put F.PWR_STAT_ENTRY 0).put F.PWR_STAT_TARGET 0
    let s := s.put F.PWR_STAT_READY 0
    let s : State := { s with pwr := { Pwr.reset with state := st }, thm := { s.thm with ok1 := false, ok2 := false } }
    if st == .off then
      let s := forUpTo 8 (fun n s => s.setPair n pairUndriven tc) s
      .next (if wakeIn then s.clearStop.beginSupply 1 true tc else s)
    else .next (if found != 0 then s.beginWake found 0 tc else s)
  else .next s

/-! The resume (R465 to R469). -/

/-- Bits that a resume keeps beside those every start keeps: the island's, the firmware's, the image's and its slots', the lanes', the epochs', the recorder's, those that show FRAM (R453, R466). -/
def resumeMask (a : Nat) : Word :=
  let b := a / 0x10000
  if b == 2 || b == 7 || b == 8 || b == 12 || b == 13 || b == 19 then 0xFFFFFFFF#32
  else if a == 0x10004 || a == 0x10008 || a == 0x60020 || a == 0x60024 then 0xFFFFFFFF#32
  else if a == 0x60004 || a == 0x120004 then 0x20#32
  else if a == 0x140000 then 0x0000F000#32
  else keepMask a ||| wakeMask a ||| heldMask a

/-- The island's thresholds are the static ones until a limit set is in force (R513). -/
def State.staticFoc (s : State) : State :=
  forUpTo 8 (fun n s => s.put ⟨(F.PRT_S_FOC_EFF_CHG n).addr, 0, 32⟩ (s.prtStr n 8 4)) s

/-- The staging is empty, and a submitted set is posted ABANDONED (R466). -/
def State.dropLiveSet (s : State) : State :=
  let s := if s.fld F.CFG_LS_STAT_STATE = lsIdle then s else s.dropSubmitted.postOutcome 0x02 0
  s.lsDiscard

/-- A lost bank of the cell state table: its entries are declared and wait for their restore, without SOC (R227). -/
def State.loseBank (s : State) (n : Nat) : State :=
  let s := forUpTo 512 (fun i s =>
    let g := 512 * n + i
    let s := s.clearEntry g
    if s.cellDeclared n (i / 16) (i % 16) then (s.putStat g stDeclared true).putStat g stRetLost true else s) s
  s.event Ev.EST_RET_LOST

/-- The entries at a resume (R225, R227). -/
def State.wakeEntries (lost : BitVec 12) (s : State) : State :=
  forUpTo 8 (fun n s => if lost.getLsbD n then s.loseBank n else s) s.estWake

/-- What a resume keeps of the state beside the registers (R453, R466, R468). -/
def State.resumed (s : State) (tc : Tc) : State :=
  let t := s.fresh resumeMask
  { t with
    cst := s.cst
    cfg := s.cfg
    prt := s.prt
    saf := { s.saf with window := none, pulse := none, copies := [] }
    thm := s.thm
    dsp := { Dsp.reset with coldest := s.dsp.coldest }
    seq := s.seq
    est := { s.est with wb := none, held := [] }
    rcd := { s.rcd with loading := none, remSec := (s.rcd.hoursPair.getD (0, 0)).2, remTc := tc, tryFlash := true, tryFram := true }
    lan := { s.lan with pins := lidPins (some s.activeLane), back := lidPins (some s.activeLane), odd := none, managed := false, fw := true, mgmtTc := tc, passTc := tc, stopTc := none, beats := 0, wrong := false, watched := false }
    upd := { t.upd with area := s.upd.area, areaState := s.upd.areaState }
    pwr := { Pwr.reset with state := .running } }

/-- A lane's memory is lost: nothing it held counts (R468). -/
def State.loseLaneMem (s : State) (l : Lane) : State :=
  { s with lan := match l with
      | .a => { s.lan with memA := [] }
      | .b => { s.lan with memB := [] } }

/-- The other lane after the scrub: back in STANDBY with its memory whole, else it boots afresh; a FAULTED lane stays (R466, R469). -/
def State.wakeOther (s : State) (lost : Bool) : State :=
  let l := otherLane s.activeLane
  let st := s.laneState l
  if st = lnFaulted then s
  else if lost || !(st == lnStandby || st == lnCheck) then (if lost then s.loseLaneMem l else s).setLane l lnBoot
  else s.setLane l lnStandby

/-- The resume of the lane that was active (R465, R466). -/
def State.resume (s : State) (lost : BitVec 12) (corrected : Nat) (tc : Tc) : State :=
  let live := s.liveSet
  let other := if s.activeLane = .a then lost.getLsbD 9 else lost.getLsbD 8
  let s := s.sessionEnd.dropLiveSet.resumed tc
  let s := (s.wr 0x10008 (s.placement + 1)).setLevel 3
  let s := (s.put F.LAN_STAT_MGMT_PEND 0).wakeOther other
  let s := s.showCause
  let s := s.eventIf s.causeSet Ev.THM_SD_FOUND
  let s := (s.put F.PWR_STAT_HOLDUP_OK 1).invalidateWriting.svcNonce
  let s := if s.flag F.CFG_STAT_VALID then s.staticFoc.loadBlocks live (State.wakeEntries lost) (fun s => s.seqResume) tc else s.noImage.timStart.phbReset tc
  let s := (s.put F.PWR_RET_LOST lost.toNat).put F.PWR_RET_CORR (min 0xFFFF corrected)
  let s := forUpTo 12 (fun b s => if lost.getLsbD b then s.event Ev.PWR_RET_LOST else s) s
  s.serviceOn

/-- SCRUB_COMPLETE (R468, R469): the memory of the lane that was active lost, the module starts with cause 6 (R452); else it resumes. Neither happens while a set cause word meets hot junctions (R315). -/
def execScrubComplete (lost : BitVec 12) (corrected : Nat) (tc : Tc) (s : State) : Host.Outcome State Fault Refusal :=
  if s.pwr.state != .waking || s.flag F.PWR_STAT_PFAIL || (s.causeSet && !s.junctionsCool) then .next s
  else
    let mine := if s.activeLane = .a then lost.getLsbD 8 else lost.getLsbD 9
    .next (if mine then s.beginStart 6 tc else s.resume lost corrected tc)

end Sys2Proof.Machine
end

