-- ==== Sys2Proof/Machine/Commit.lean ====
section
/-! DEFINITION. Commit.lean: the commit point (R38), with READY (R455), the levels (R363) and the acceptance of a sleep request (R457, R458). -/
namespace Sys2Proof.Machine

open Sys2Proof

/-! READY (R455, R456). -/

/-- Ports in NO_RING, as commit points see them. -/
def State.trackNoRing (s : State) (tc : Tc) : State :=
  { s with pwr := { s.pwr with noRing := (List.range 8).map (fun p =>
      if s.portState p == portNoRing then some ((s.pwr.noRing.getD p none).getD tc) else none) } }

/-- Every enabled port has left ENUM, or has been in NO_RING for 200 ms. -/
def State.portsFound (s : State) (tc : Tc) : Bool :=
  (List.range 8).all fun p =>
    !s.bit F.DLK_ENABLE_EN p ||
      (s.portState p != portEnum &&
        (s.portState p != portNoRing || (match s.pwr.noRing.getD p none with
          | some t => passed tc t (msTicks 200)
          | none => false)))

/-- Step 8 has ended: every declared cell of a port whose UIDs are known is restored (R226, R454). -/
def State.cellsRestored (s : State) : Bool :=
  (List.range 4096).all fun g =>
    !s.cellDeclared (strOf g) (monOf g) (celOf g) || decide (s.portState (strOf g) ≤ portEnum) || s.est.restored.get g == 1

/-- The program starts with TI where it is enabled; else its safe values stand (R369, R455). -/
def State.programStart (s : State) (tc : Tc) : State :=
  if s.blockDormant 14 then s
  else
    let s : State := { s with seq := { s.seq with started := true, commits := 0 } }
    if s.flag F.SEQ_CTRL_EN then
      ({ s with seq := { s.seq with coldDue := true } } : State).put F.SEQ_STAT_STATE sqInit
    else s.safeOutputs tc

/-- READY is set at the first commit point at which all of R455 holds: level, pads, program, in this order. -/
def State.readyCheck (s : State) (tc : Tc) : State :=
  if s.flag F.PWR_STAT_READY || !s.flag F.CFG_STAT_VALID || s.flag F.PWR_STAT_ENTRY || s.latest.epoch == 0 then s
  else if s.portsFound tc && s.cellsRestored then
    let s := (s.put F.PWR_STAT_READY 1).setLevel (s.fld F.LAN_CFG_PL)
    let s := s.wr 0x140020 0
    let s : State := if s.lan.managed then s else { s with lan := { s.lan with mgmtTc := tc } }
    s.programStart tc
  else s

/-! Entry into a sleep state (R156, R457, R458). -/

/-- SLEEP leaves every end that reaches a monitor: interval and alert enable within their bounds, not stated further (R156). Then the port stops transmitting (R156). It stops all bleed (R180). -/
def State.sleepPort (s : State) (p at4 : Nat) : State :=
  if s.served p then
    let x := s.free.toNat
    let body := bytesLe 2 (1 + x % 3600) ++ bytesLe 1 (x / 65536 % 2)
    let s := s.took
    let s := if (s.port p).reachA != 0 then s.sendBroadcast p false 9 body at4 else s
    let s := if (s.port p).reachB != 0 then s.sendBroadcast p true 9 body at4 else s
    let s := s.setPort p { s.port p with idle := false }
    forUpTo 32 (fun m s => s.setMon p m { s.mon p m with want := 0, force := 0 }) s
  else s

/-- A TC10 sleep request leaves every Ethernet port with its link up (R418). -/
def State.sleepEth (s : State) : State :=
  if s.blockDormant 16 then s
  else forUpTo 2 (fun p s => if s.flag (ethLink p) then (s.emit (.tc10Sleep p)).put (ethTc10 p) tc10Wait else s) s

/-- An accepted entry; a transfer that is open is aborted (R458, R479). -/
def State.enterSleep (s : State) (target : Nat) (m : RecMedia) (tc : Tc) : State :=
  let s := forUpTo 8 (fun n s => if s.trimState n == trimOff then s else s.trimDisable n) s
  let s := ((s.programOff tc).dispatchOff.serviceOff.abortXfer).canSleep
  let s := forUpTo 8 (fun p s => s.sleepPort p (tcQuarter tc)) s
  let s := if target = 3 then s else s.sleepEth
  let s := (s.put F.PWR_STAT_ENTRY 1).put F.PWR_STAT_TARGET target
  let s : State := { s with pwr := { s.pwr with latched := 0 } }
  let s := s.recSleep m
  let s := if s.blockDormant 6 then s else s.triggerWb 3 tc
  s.hoursSave tc

/-- A request is taken, or refused by what holds now (R457). -/
def State.takeSleep (s : State) (m : RecMedia) (tc : Tc) : State :=
  match s.pwr.request with
  | none => s
  | some t =>
    let s : State := { s with pwr := { s.pwr with request := none } }
    let c := s.sleepRefusal t
    if c = 0 then s.enterSleep t m tc else s.sleepRefused c

/-! The commit point (R38). -/

/-- Heartbeats are judged between two commit points of one Lid holder (R347). -/
def State.judgeHeartbeat (s : State) (managed : Bool) (tc : Tc) : State :=
  let s : State := if s.lan.watched && !managed then s.watchHeartbeat tc else { s with lan := { s.lan with beats := 0, wrong := false } }
  { s with lan := { s.lan with watched := s.lan.fw } }

/-- Steps 1 to 3 of R38, and the level that holds from here (R356, R363). -/
def State.commitSteps (s : State) (tc : Tc) : State :=
  let s := (s.bump F.LAN_COMMIT_COUNT).countRound
  let s := if s.lan.rebuilt then s.management tc else s
  let s := (s.lsApply tc).applyLimits
  if s.inCharge then s.setLevel (if s.flag F.PWR_STAT_READY then s.fld F.LAN_CFG_PL else 3) else s

/-- What firmware does in the commit cycle that begins. -/
def State.commitCycle (s : State) (tc : Tc) : State :=
  let s := ((s.agedCheck tc).takeConfirm.autoMatch).showTestAges tc
  (((s.beginFrame tc).showStandbyAge tc).showSession tc).seqCommit tc

/-- A commit point at tc; the time masters count it whether or not a lane holds the Lid (R398). -/
def State.commitPoint (s : State) (m : RecMedia) (tc : Tc) : State :=
  let managed := s.lan.rebuilt
  let s := ((s.commitSteps tc).canCommit.trackNoRing tc).judgeHeartbeat managed tc
  if s.inCharge then ((s.commitCycle tc).readyCheck tc).takeSleep m tc else s

/-- COMMIT_POINT (R38): schedule entry k fires. -/
def execCommitPoint (k : Fin 64) (m : RecMedia) (tc : Tc) (s : State) : Host.Outcome State Fault Refusal :=
  .next (if s.fires k 1 tc then (s.acted (firingKey k 1) tc).commitPoint m tc else s)

end Sys2Proof.Machine
end

