-- ==== Sys2Proof/Machine/Dispatch.lean ====
section
/-! DEFINITION. Dispatch.lean: one arm for each command. -/
namespace Sys2Proof.Machine

open Sys2Proof

def exec (i : Instr) (s : State) : Host.Outcome State Fault Refusal :=
  match i with
  | .commitPoint k m tc => Sys2Proof.Machine.execCommitPoint k m tc s
  | .snapshotPublication tc => Sys2Proof.Machine.execSnapshotPublication tc s
  | .dispatchComplete tc => Sys2Proof.Machine.execDispatchComplete tc s
  | .sweepDeadline tc => Sys2Proof.Machine.execSweepDeadline tc s
  | .objRequestArrival path src pdu tc => Sys2Proof.Machine.execObjRequestArrival path src pdu tc s
  | .readRange tc => Sys2Proof.Machine.execReadRange tc s
  | .readList tc => Sys2Proof.Machine.execReadList tc s
  | .writeList x tc => Sys2Proof.Machine.execWriteList x tc s
  | .epochQuery tc => Sys2Proof.Machine.execEpochQuery tc s
  | .registerWrite a v w x tc => Sys2Proof.Machine.execRegisterWrite a v w x tc s
  | .rwsWrite a v w => Sys2Proof.Machine.execRwsWrite a v w s
  | .pairLoRead a tc => Sys2Proof.Machine.execPairLoRead a tc s
  | .cfgSelectWrite v => Sys2Proof.Machine.execCfgSelectWrite v s
  | .cfgRestart v tc => Sys2Proof.Machine.execCfgRestart v tc s
  | .cfgConfirm v tc => Sys2Proof.Machine.execCfgConfirm v tc s
  | .cfgConfirmInv v tc => Sys2Proof.Machine.execCfgConfirmInv v tc s
  | .confirmWindowExpiry tc => Sys2Proof.Machine.execConfirmWindowExpiry tc s
  | .confirmationRecordWritten => Sys2Proof.Machine.execConfirmationRecordWritten s
  | .lsSubmit => Sys2Proof.Machine.execLsSubmit s
  | .lsDiscard => Sys2Proof.Machine.execLsDiscard s
  | .lsChecksDone => Sys2Proof.Machine.execLsChecksDone s
  | .referenceEvent tc => Sys2Proof.Machine.execReferenceEvent tc s
  | .referenceMissing tc => Sys2Proof.Machine.execReferenceMissing tc s
  | .phaseWrap tc => Sys2Proof.Machine.execPhaseWrap tc s
  | .testWindow k tc => Sys2Proof.Machine.execTestWindow k tc s
  | .balPause k tc => Sys2Proof.Machine.execBalPause k tc s
  | .apertureNotice k tc => Sys2Proof.Machine.execApertureNotice k tc s
  | .apertureBroadcast tc => Sys2Proof.Machine.execApertureBroadcast tc s
  | .adcTrigger k tc => Sys2Proof.Machine.execAdcTrigger k tc s
  | .ctlSample k tc => Sys2Proof.Machine.execCtlSample k tc s
  | .trimUpdate k tc => Sys2Proof.Machine.execTrimUpdate k tc s
  | .mark k tc => Sys2Proof.Machine.execMark k tc s
  | .angleMessageSend tc => Sys2Proof.Machine.execAngleMessageSend tc s
  | .angleMessageReceive payload tc => Sys2Proof.Machine.execAngleMessageReceive payload tc s
  | .portEnable p => Sys2Proof.Machine.execPortEnable p s
  | .portDisable p => Sys2Proof.Machine.execPortDisable p s
  | .reenum x => Sys2Proof.Machine.execReenum x s
  | .enumerationEnd p => Sys2Proof.Machine.execEnumerationEnd p s
  | .transactionIssue p endB tc => Sys2Proof.Machine.execTransactionIssue p endB tc s
  | .responseReceive p bytes lineError roundTrip tc => Sys2Proof.Machine.execResponseReceive p bytes lineError roundTrip tc s
  | .noTarget p tag => Sys2Proof.Machine.execNoTarget p tag s
  | .transactionTimeout p tag tc => Sys2Proof.Machine.execTransactionTimeout p tag tc s
  | .lossOfSignal x endB => Sys2Proof.Machine.execLossOfSignal x endB s
  | .validSignalHeld x => Sys2Proof.Machine.execValidSignalHeld x s
  | .noSignalTimeout p => Sys2Proof.Machine.execNoSignalTimeout p s
  | .pollDecision p fromA fromB tc => Sys2Proof.Machine.execPollDecision p fromA fromB tc s
  | .periodicPoll x => Sys2Proof.Machine.execPeriodicPoll x s
  | .dRemeasure p m endB tc => Sys2Proof.Machine.execDRemeasure p m endB tc s
  | .derturWakeEvent p endB t tc => Sys2Proof.Machine.execDerturWakeEvent p endB t tc s
  | .burstReadComplete p => Sys2Proof.Machine.execBurstReadComplete p s
  | .burstReadTimeout x => Sys2Proof.Machine.execBurstReadTimeout x s
  | .cellPass g tc => Sys2Proof.Machine.execCellPass g tc s
  | .burstEvaluation p => Sys2Proof.Machine.execBurstEvaluation p s
  | .cellRestore g => Sys2Proof.Machine.execCellRestore g s
  | .relearnCell g => Sys2Proof.Machine.execRelearnCell g s
  | .relearnMonitor g => Sys2Proof.Machine.execRelearnMonitor g s
  | .relearnString g => Sys2Proof.Machine.execRelearnString g s
  | .wbWrite tc => Sys2Proof.Machine.execWbWrite tc s
  | .writeBackTimer tc => Sys2Proof.Machine.execWriteBackTimer tc s
  | .writeBackComplete good tc => Sys2Proof.Machine.execWriteBackComplete good tc s
  | .scOcCrossing n path x => Sys2Proof.Machine.execScOcCrossing n path x s
  | .directLatchClear n path tc => Sys2Proof.Machine.execDirectLatchClear n path tc s
  | .filteredPathExpiry n path x => Sys2Proof.Machine.execFilteredPathExpiry n path x s
  | .islandFault x => Sys2Proof.Machine.execIslandFault x s
  | .islandFaultCoilTimeout tc => Sys2Proof.Machine.execIslandFaultCoilTimeout tc s
  | .breakerStatusChange n closed tc => Sys2Proof.Machine.execBreakerStatusChange n closed tc s
  | .bfltChange n active tc => Sys2Proof.Machine.execBfltChange n active tc s
  | .brkOpenTimer n tc => Sys2Proof.Machine.execBrkOpenTimer n tc s
  | .brkCloseTimer n tc => Sys2Proof.Machine.execBrkCloseTimer n tc s
  | .sequencerTick bus tc => Sys2Proof.Machine.execSequencerTick bus tc s
  | .close n o => Sys2Proof.Machine.execClose n o s
  | .match n o => Sys2Proof.Machine.execMatch n o s
  | .open n o => Sys2Proof.Machine.execOpen n o s
  | .reset n o => Sys2Proof.Machine.execReset n o s
  | .prechargeTimeout n tc => Sys2Proof.Machine.execPrechargeTimeout n tc s
  | .prechargeMinReached n tc => Sys2Proof.Machine.execPrechargeMinReached n tc s
  | .contactorCloseTimer k tc => Sys2Proof.Machine.execContactorCloseTimer k tc s
  | .contactorOpenTimer k tc => Sys2Proof.Machine.execContactorOpenTimer k tc s
  | .dropTimer n tc => Sys2Proof.Machine.execDropTimer n tc s
  | .coilCheckTimer k tc => Sys2Proof.Machine.execCoilCheckTimer k tc s
  | .pullInTimer k tc => Sys2Proof.Machine.execPullInTimer k tc s
  | .driverVerifyChange k ma high tc => Sys2Proof.Machine.execDriverVerifyChange k ma high tc s
  | .coilSupplyMeasure v => Sys2Proof.Machine.execCoilSupplyMeasure v s
  | .auxTrip o tc => Sys2Proof.Machine.execAuxTrip o tc s
  | .auxReset a o tc => Sys2Proof.Machine.execAuxReset a o tc s
  | .auxOff a o tc => Sys2Proof.Machine.execAuxOff a o tc s
  | .auxOn a o tc => Sys2Proof.Machine.execAuxOn a o tc s
  | .lockoutRelease strs o => Sys2Proof.Machine.execLockoutRelease strs o s
  | .captureFreeze n samples => Sys2Proof.Machine.execCaptureFreeze n samples s
  | .captureRearm n => Sys2Proof.Machine.execCaptureRearm n s
  | .imdPhaseEnd x tc => Sys2Proof.Machine.execImdPhaseEnd x tc s
  | .collapseDetect tc => Sys2Proof.Machine.execCollapseDetect tc s
  | .removalLoopOpen tc => Sys2Proof.Machine.execRemovalLoopOpen tc s
  | .classSEvaluation tc => Sys2Proof.Machine.execClassSEvaluation tc s
  | .senseFrame n sync bytes tc => Sys2Proof.Machine.execSenseFrame n sync bytes tc s
  | .streamLost n tc => Sys2Proof.Machine.execStreamLost n tc s
  | .carrierPeriodStart n => Sys2Proof.Machine.execCarrierPeriodStart n s
  | .trimEnable n o => Sys2Proof.Machine.execTrimEnable n o s
  | .trimRun n o tc => Sys2Proof.Machine.execTrimRun n o tc s
  | .trimStop n o => Sys2Proof.Machine.execTrimStop n o s
  | .trimDisable n o => Sys2Proof.Machine.execTrimDisable n o s
  | .directCoeffWrite l c v o => Sys2Proof.Machine.execDirectCoeffWrite l c v o s
  | .hostPWrite v tc => Sys2Proof.Machine.execHostPWrite v tc s
  | .hostTimeout tc => Sys2Proof.Machine.execHostTimeout tc s
  | .housekeepingRound m tc => Sys2Proof.Machine.execHousekeepingRound m tc s
  | .junctionReading t1 t2 tc => Sys2Proof.Machine.execJunctionReading t1 t2 tc s
  | .thermalStopEnd tc => Sys2Proof.Machine.execThermalStopEnd tc s
  | .sdAck key => Sys2Proof.Machine.execSdAck key s
  | .causeWordCleared tc => Sys2Proof.Machine.execCauseWordCleared tc s
  | .siFilterChange n chB demand tc => Sys2Proof.Machine.execSiFilterChange n chB demand tc s
  | .darkPulse sp2 high tc => Sys2Proof.Machine.execDarkPulse sp2 high tc s
  | .discrepancyTick tc => Sys2Proof.Machine.execDiscrepancyTick tc s
  | .discFault n tc => Sys2Proof.Machine.execDiscFault n tc s
  | .safReset fns o tc => Sys2Proof.Machine.execSafReset fns o tc s
  | .testPulseStart tc => Sys2Proof.Machine.execTestPulseStart tc s
  | .testPulseEnd readback ma tc => Sys2Proof.Machine.execTestPulseEnd readback ma tc s
  | .testOverdue k low tc => Sys2Proof.Machine.execTestOverdue k low tc s
  | .safeDataCopy c eth bytes tc => Sys2Proof.Machine.execSafeDataCopy c eth bytes tc s
  | .sdWindowClose c tc => Sys2Proof.Machine.execSdWindowClose c tc s
  | .sdTimeout c tc => Sys2Proof.Machine.execSdTimeout c tc s
  | .sdReset conns => Sys2Proof.Machine.execSdReset conns s
  | .sdWordWrite c v o tc => Sys2Proof.Machine.execSdWordWrite c v o tc s
  | .sdRenewalTimeout c tc => Sys2Proof.Machine.execSdRenewalTimeout c tc s
  | .sdRewriteTimer tc => Sys2Proof.Machine.execSdRewriteTimer tc s
  | .sdTxSend => Sys2Proof.Machine.execSdTxSend s
  | .laneBootDone l x tc => Sys2Proof.Machine.execLaneBootDone l x tc s
  | .bootTimeout l tc => Sys2Proof.Machine.execBootTimeout l tc s
  | .standbyLoadDone l ids check tc => Sys2Proof.Machine.execStandbyLoadDone l ids check tc s
  | .standbyCheckStart tc => Sys2Proof.Machine.execStandbyCheckStart tc s
  | .standbyCheckDone x tc => Sys2Proof.Machine.execStandbyCheckDone x tc s
  | .checkTimeout tc => Sys2Proof.Machine.execCheckTimeout tc s
  | .laneFault x also tc => Sys2Proof.Machine.execLaneFault x also tc s
  | .lidReadbackFault x => Sys2Proof.Machine.execLidReadbackFault x s
  | .newHalfReady tc => Sys2Proof.Machine.execNewHalfReady tc s
  | .rebuildComplete tc => Sys2Proof.Machine.execRebuildComplete tc s
  | .restoreTimeout tc => Sys2Proof.Machine.execRestoreTimeout tc s
  | .requalDone x tc => Sys2Proof.Machine.execRequalDone x tc s
  | .requalTimeout tc => Sys2Proof.Machine.execRequalTimeout tc s
  | .heartbeatWrite x => Sys2Proof.Machine.execHeartbeatWrite x s
  | .plannedSwitch tc => Sys2Proof.Machine.execPlannedSwitch tc s
  | .yield x => Sys2Proof.Machine.execYield x s
  | .mgmtFrameComplete tc => Sys2Proof.Machine.execMgmtFrameComplete tc s
  | .stockpotCommit tc => Sys2Proof.Machine.execStockpotCommit tc s
  | .autoRestart sec tc => Sys2Proof.Machine.execAutoRestart sec tc s
  | .wakeInAssert t low tc => Sys2Proof.Machine.execWakeInAssert t low tc s
  | .programCycle x tc => Sys2Proof.Machine.execProgramCycle x tc s
  | .programWatchdog tc => Sys2Proof.Machine.execProgramWatchdog tc s
  | .seqRestart => Sys2Proof.Machine.execSeqRestart s
  | .seqTrig bits => Sys2Proof.Machine.execSeqTrig bits s
  | .rioInFrame n bytes tc => Sys2Proof.Machine.execRioInFrame n bytes tc s
  | .rioResponseMissed n tc => Sys2Proof.Machine.execRioResponseMissed n tc s
  | .forceSet => Sys2Proof.Machine.execForceSet s
  | .forceRelease => Sys2Proof.Machine.execForceRelease s
  | .forceReleaseAll => Sys2Proof.Machine.execForceReleaseAll s
  | .olcApply x => Sys2Proof.Machine.execOlcApply x s
  | .canFrameReceive c f delay tc => Sys2Proof.Machine.execCanFrameReceive c f delay tc s
  | .rxHdrRead c k => Sys2Proof.Machine.execRxHdrRead c k s
  | .canTxDone c delay tc => Sys2Proof.Machine.execCanTxDone c delay tc s
  | .canArbitrationLost c => Sys2Proof.Machine.execCanArbitrationLost c s
  | .canTxError c e excepted more => Sys2Proof.Machine.execCanTxError c e excepted more s
  | .txCancel c bufs won => Sys2Proof.Machine.execTxCancel c bufs won s
  | .canRecover c => Sys2Proof.Machine.execCanRecover c s
  | .busOffRecoveryDone c => Sys2Proof.Machine.execBusOffRecoveryDone c s
  | .canReferenceDue c => Sys2Proof.Machine.execCanReferenceDue c s
  | .canWake c e t tc => Sys2Proof.Machine.execCanWake c e t tc s
  | .ethFrameReceive p f tc => Sys2Proof.Machine.execEthFrameReceive p f tc s
  | .pdelayReqTimer p stamp => Sys2Proof.Machine.execPdelayReqTimer p stamp s
  | .pdelayReqReceive p seq ingress egress => Sys2Proof.Machine.execPdelayReqReceive p seq ingress egress s
  | .addressAgeOut mac tc => Sys2Proof.Machine.execAddressAgeOut mac tc s
  | .ptpSyncReceive m tc => Sys2Proof.Machine.execPtpSyncReceive m tc s
  | .syncTimeout change tc => Sys2Proof.Machine.execSyncTimeout change tc s
  | .holdoverTimeout tc => Sys2Proof.Machine.execHoldoverTimeout tc s
  | .timIncWrite v w tc => Sys2Proof.Machine.execTimIncWrite v w tc s
  | .timStep v w tc => Sys2Proof.Machine.execTimStep v w tc s
  | .timSet w tc => Sys2Proof.Machine.execTimSet w tc s
  | .timConvert v => Sys2Proof.Machine.execTimConvert v s
  | .tpoArm n tc => Sys2Proof.Machine.execTpoArm n tc s
  | .tpoDisarm n => Sys2Proof.Machine.execTpoDisarm n s
  | .tpoEdge n tc => Sys2Proof.Machine.execTpoEdge n tc s
  | .tpoPulseEnd n tc => Sys2Proof.Machine.execTpoPulseEnd n tc s
  | .tc10SleepRequest p => Sys2Proof.Machine.execTc10SleepRequest p s
  | .ethWake p t tc => Sys2Proof.Machine.execEthWake p t tc s
  | .ethLinkChange p up => Sys2Proof.Machine.execEthLinkChange p up s
  | .currentRoundHold codes tc => Sys2Proof.Machine.execCurrentRoundHold codes tc s
  | .roundConversionDone tc => Sys2Proof.Machine.execRoundConversionDone tc s
  | .mainsSlot => Sys2Proof.Machine.execMainsSlot s
  | .conversionBDone c => Sys2Proof.Machine.execConversionBDone c s
  | .afeHousekeeping => Sys2Proof.Machine.execAfeHousekeeping s
  | .afeSwTrig v => Sys2Proof.Machine.execAfeSwTrig v s
  | .hoursIncrement tc => Sys2Proof.Machine.execHoursIncrement tc s
  | .foldDue m => Sys2Proof.Machine.execFoldDue m s
  | .recordLoad v => Sys2Proof.Machine.execRecordLoad v s
  | .recordLoadDone error => Sys2Proof.Machine.execRecordLoadDone error s
  | .holdStart key tc => Sys2Proof.Machine.execHoldStart key tc s
  | .holdRelease key => Sys2Proof.Machine.execHoldRelease key s
  | .holdTimeout tc => Sys2Proof.Machine.execHoldTimeout tc s
  | .recordClear key signed m => Sys2Proof.Machine.execRecordClear key signed m s
  | .supplyStart x wakeIn tc => Sys2Proof.Machine.execSupplyStart x wakeIn tc s
  | .supplyLow vin => Sys2Proof.Machine.execSupplyLow vin s
  | .powerFailDetect vin tc => Sys2Proof.Machine.execPowerFailDetect vin tc s
  | .powerFailShutdown good tc => Sys2Proof.Machine.execPowerFailShutdown good tc s
  | .standbyRequest key => Sys2Proof.Machine.execStandbyRequest key s
  | .deepStandbyRequest key => Sys2Proof.Machine.execDeepStandbyRequest key s
  | .offRequest key => Sys2Proof.Machine.execOffRequest key s
  | .entryComplete wakeIn tc => Sys2Proof.Machine.execEntryComplete wakeIn tc s
  | .wakeTimerExpiry t tc => Sys2Proof.Machine.execWakeTimerExpiry t tc s
  | .scrubComplete lost corrected tc => Sys2Proof.Machine.execScrubComplete lost corrected tc s
  | .sessionOpen src key signed tc => Sys2Proof.Machine.execSessionOpen src key signed tc s
  | .sessionClose key => Sys2Proof.Machine.execSessionClose key s
  | .sessionTimeout tc => Sys2Proof.Machine.execSessionTimeout tc s
  | .xferStart v tc => Sys2Proof.Machine.execXferStart v tc s
  | .xferAbort v => Sys2Proof.Machine.execXferAbort v s
  | .xferDatagram src bytes tc => Sys2Proof.Machine.execXferDatagram src bytes tc s
  | .xferVerifyDone x => Sys2Proof.Machine.execXferVerifyDone x s
  | .xferTimeout tc => Sys2Proof.Machine.execXferTimeout tc s
  | .fwActivate v => Sys2Proof.Machine.execFwActivate v s
  | .fwConfirm v => Sys2Proof.Machine.execFwConfirm v s
  | .tamperOpen erased tc => Sys2Proof.Machine.execTamperOpen erased tc s
  | .canRxError c e more => Sys2Proof.Machine.execCanRxError c e more s
  | .encoderCount e => Sys2Proof.Machine.execEncoderCount e s
  | .filteredPathInactive n path tc => Sys2Proof.Machine.execFilteredPathInactive n path tc s
  | .coilFault k ma limit tc => Sys2Proof.Machine.execCoilFault k ma limit tc s
  | .collapseClear tc => Sys2Proof.Machine.execCollapseClear tc s

end Sys2Proof.Machine
end

