-- ==== Sys2Proof/Safety.lean ====
section
/-! DEFINITION. Safety.lean: what every step keeps. -/
namespace Sys2Proof.Machine

open Sys2Proof

/-! Every array has the size that the manual gives it. -/

def Cfg.Sized (x : Cfg) : Prop := x.slots.length = 4 ∧ x.confirms.length = 4
def Swp.Sized (x : Swp) : Prop := x.mons.length = 256
def Afe.Sized (x : Afe) : Prop := x.chans.length = 8
def Prt.Sized (x : Prt) : Prop := x.strs.length = 8 ∧ x.driverTc.length = 28
def Cte.Sized (x : Cte) : Prop := x.slots.length = 32 ∧ x.trims.length = 8
def Saf.Sized (x : Saf) : Prop := x.conns.length = 4 ∧ x.renewed.length = 4 ∧ x.passTc.length = 56 ∧ x.siTc.length = 12 ∧ x.offEnds.length = 28
def Tim.Sized (x : Tim) : Prop := x.tpos.length = 4
def Eth.Sized (x : Eth) : Prop := x.ports.length = 2
def Seq.Sized (x : Seq) : Prop := x.stations.length = 16
def Frame.Sized (f : Frame) : Prop := f.seq.Sized ∧ f.conns.length = 4
def Frames.Sized (x : Frames) : Prop := (∀ f ∈ x.due, f.1.Sized) ∧ (∀ f ∈ x.f0, f.Sized) ∧ (∀ f ∈ x.f1, f.Sized)

/-- What holds at reset and is kept by every step. Everything kept by address is in its canonical form: rising addresses, and nothing listed that an unlisted address reads as. Every array has its size. -/
structure State.Inv (s : State) : Prop where
  objs : s.objs.wf = true
  cst : s.cst.wf = true
  assembling : s.assembling.objs.wf = true
  latest : s.latest.objs.wf = true
  previous : s.previous.objs.wf = true
  cfg : s.cfg.Sized
  ports : s.ports.length = 8
  swp : s.swp.Sized
  afe : s.afe.Sized
  prt : s.prt.Sized
  cte : s.cte.Sized
  saf : s.saf.Sized
  can : s.can.length = 2
  tim : s.tim.Sized
  eth : s.eth.Sized
  seq : s.seq.Sized
  frames : s.frames.Sized

/-- The open staging holds distinct objects, at rising addresses, and at most 1,024 of them (R98). -/
def State.StagingForm (s : State) : Prop := s.cfg.staging.Pairwise (fun a b => a.1 < b.1) ∧ s.cfg.staging.length ≤ 1024

/-- What a command does to the model's own record beside its effect: the commands that wait stay as they are, what has been sent stays sent, no free value is taken twice, and the invariant is kept. -/
structure Kept (r s : State) : Prop where
  pending : s.pending = r.pending
  sent : r.sent <:+ s.sent
  free : r.freeCount ≤ s.freeCount
  inv : r.Inv → s.Inv

/-- A step that ends in a next state keeps this. -/
def KeptBy (r : State) : Host.Outcome State Fault Refusal → Prop
  | .next s => Kept r s
  | .fault _ => True
  | .refused _ => True

/-! What a command may change. -/

/-- The parts of the state; the commands that wait are not among them. -/
inductive StatePart where
  | objs | assembling | latest | previous | cst | obj | cfg | phb | ports | swp | est | afe | prt | cte | pot | dsp | thm | saf | can | tim | eth | rcd | lan | seq | pwr | upd | frames | sent | freeCount
deriving DecidableEq, Repr

/-- A part is as it was. -/
def StatePart.Same (r s : State) : StatePart → Prop
  | .objs => s.objs = r.objs
  | .assembling => s.assembling = r.assembling
  | .latest => s.latest = r.latest
  | .previous => s.previous = r.previous
  | .cst => s.cst = r.cst
  | .obj => s.obj = r.obj
  | .cfg => s.cfg = r.cfg
  | .phb => s.phb = r.phb
  | .ports => s.ports = r.ports
  | .swp => s.swp = r.swp
  | .est => s.est = r.est
  | .afe => s.afe = r.afe
  | .prt => s.prt = r.prt
  | .cte => s.cte = r.cte
  | .pot => s.pot = r.pot
  | .dsp => s.dsp = r.dsp
  | .thm => s.thm = r.thm
  | .saf => s.saf = r.saf
  | .can => s.can = r.can
  | .tim => s.tim = r.tim
  | .eth => s.eth = r.eth
  | .rcd => s.rcd = r.rcd
  | .lan => s.lan = r.lan
  | .seq => s.seq = r.seq
  | .pwr => s.pwr = r.pwr
  | .upd => s.upd = r.upd
  | .frames => s.frames = r.frames
  | .sent => s.sent = r.sent
  | .freeCount => s.freeCount = r.freeCount

/-- Parts of the state, and blocks of the object map (R15): a block is the objects whose addresses agree from bit 16 up. -/
structure Scope where
  parts : List StatePart
  blocks : List Nat
deriving DecidableEq, Repr

/-- Nothing but the scope has changed: the other parts are as they were, and every object of another block reads as before. -/
def Within (x : Scope) (r s : State) : Prop :=
  (∀ p, p ∉ x.parts → p.Same r s) ∧ ∀ a, a < 0x160000 → a / 0x10000 ∉ x.blocks → s.rd a = r.rd a

/-- From r to s an event has happened once: its flag reads 1 and its counter is one higher, modulo its width. -/
def Raised (e : EventFlag) (r s : State) : Prop := s.fld e.flag = 1 ∧ s.fld e.cnt = (r.fld e.cnt + 1) % 2 ^ e.cnt.w

/-- From r to s the inputs, functions and groups of the safety functions have been evaluated: an input shows its demand, a function its raw demand or, with manual restart, the demand it had, and a group whether one of its functions is in demand (R323, R326, R327). -/
def Evaluated (r s : State) : Prop :=
  (∀ k, k < 6 → s.flag (F.SAF_SI_STAT_DEMAND k) = ((s.siFlags k).testBit 0 && s.inputDemand k)) ∧
  (∀ f, f < 16 → s.bit F.SAF_FN_DEMAND f = (s.rawDemand f || (r.bit F.SAF_FN_DEMAND f && (s.fnFlags f).testBit 3))) ∧
  s.flag F.SAF_STAT_G0 = s.groupDemand 0 ∧ s.flag F.SAF_STAT_G1 = s.groupDemand 1

/-- What commands of the phase base and of network time may change. -/
def scopeTime : Instr → Option Scope
  | .referenceEvent .. | .referenceMissing .. | .phaseWrap .. | .angleMessageReceive .. | .mark .. => some ⟨[.objs, .phb], [3]⟩
  | .angleMessageSend .. => some ⟨[.phb, .sent], []⟩
  | .ptpSyncReceive .. | .syncTimeout .. | .timIncWrite .. | .timStep .. | .timSet .. | .tpoArm .. | .tpoDisarm .. | .tpoEdge .. => some ⟨[.objs, .tim], [17]⟩
  | .holdoverTimeout .. | .timConvert .. | .tpoPulseEnd .. => some ⟨[.objs], [17]⟩
  | .encoderCount .. => some ⟨[.phb], []⟩
  | _ => none

/-- What commands of the port engine and of the sweep may change. -/
def scopeLink : Instr → Option Scope
  | .snapshotPublication .. => some ⟨[.objs, .assembling, .latest, .previous, .ports, .swp, .est, .prt, .cte, .dsp, .saf, .rcd], [1, 5, 6, 7, 8, 9, 10, 12]⟩
  | .sweepDeadline .. => some ⟨[.ports, .swp], []⟩
  | .balPause .. => some ⟨[.phb, .ports, .swp, .sent], []⟩
  | .apertureNotice .. => some ⟨[.objs, .phb, .ports, .swp, .afe], [5]⟩
  | .apertureBroadcast .. => some ⟨[.objs, .assembling, .phb, .ports, .swp, .sent], [5]⟩
  | .portEnable .. => some ⟨[.objs, .ports], [4]⟩
  | .portDisable .. | .reenum .. | .transactionIssue .. | .responseReceive .. | .noTarget .. | .transactionTimeout .. | .noSignalTimeout .. | .pollDecision .. | .enumerationEnd .. | .validSignalHeld .. => some ⟨[.objs, .assembling, .ports, .swp, .rcd, .sent], [4, 5]⟩
  | .lossOfSignal .. => some ⟨[.objs, .ports, .sent], [4]⟩
  | .periodicPoll .. => some ⟨[.ports, .sent], []⟩
  | .dRemeasure .. => some ⟨[.ports], []⟩
  | _ => none

/-- What commands of the analog front end and of estimation may change. -/
def scopeBank : Instr → Option Scope
  | .adcTrigger .. => some ⟨[.objs, .phb, .afe], [18]⟩
  | .mainsSlot .. | .conversionBDone .. | .afeHousekeeping .. | .afeSwTrig .. => some ⟨[.objs, .afe], [18]⟩
  | .burstReadComplete .. | .burstReadTimeout .. => some ⟨[.objs, .ports, .est], [5]⟩
  | .cellPass .. => some ⟨[.objs, .assembling, .cst, .est, .rcd, .freeCount], [6]⟩
  | .burstEvaluation .. => some ⟨[.objs, .cst, .est, .freeCount], [6]⟩
  | .cellRestore .. => some ⟨[.cst, .est], []⟩
  | .relearnCell .. | .relearnMonitor .. | .relearnString .. => some ⟨[.cst], []⟩
  | .wbWrite .. | .writeBackTimer .. | .writeBackComplete .. => some ⟨[.objs, .est], [6]⟩
  | .currentRoundHold .. => some ⟨[.objs, .phb, .swp, .afe], [18]⟩
  | .roundConversionDone .. => some ⟨[.objs, .assembling, .ports, .afe], [18]⟩
  | _ => none

/-- What commands of the protection island may change. -/
def scopeIsland : Instr → Option Scope
  | .scOcCrossing .. | .directLatchClear .. | .filteredPathExpiry .. | .islandFault .. | .breakerStatusChange .. | .bfltChange .. | .brkOpenTimer .. | .brkCloseTimer .. | .prechargeTimeout .. | .contactorCloseTimer .. | .contactorOpenTimer .. | .dropTimer .. | .coilCheckTimer .. | .driverVerifyChange .. | .collapseDetect .. | .filteredPathInactive .. | .coilFault .. | .collapseClear .. => some ⟨[.objs, .prt, .cte, .saf, .rcd], [7, 8, 9, 12]⟩
  | .sequencerTick .. | .auxTrip .. | .auxReset .. => some ⟨[.objs, .prt, .cte, .saf, .rcd], [7, 8, 9, 12, 13]⟩
  | .islandFaultCoilTimeout .. => some ⟨[.objs, .prt, .saf, .rcd], [8, 12]⟩
  | .close .. | .match .. | .open .. | .reset .. => some ⟨[.objs, .prt], [8, 13]⟩
  | .prechargeMinReached .. | .pullInTimer .. | .coilSupplyMeasure .. => some ⟨[.objs], [8]⟩
  | .auxOff .. | .auxOn .. => some ⟨[.objs, .prt, .saf, .rcd], [8, 12, 13]⟩
  | .lockoutRelease .. => some ⟨[.objs, .prt], [7, 13]⟩
  | .captureFreeze .. => some ⟨[.objs, .prt], [7]⟩
  | .captureRearm .. => some ⟨[.objs], [7]⟩
  | .imdPhaseEnd .. => some ⟨[.objs, .prt, .cte, .saf, .rcd, .freeCount], [7, 8, 9, 12]⟩
  | .removalLoopOpen .. => some ⟨[.objs, .prt, .cte], [7, 8, 9]⟩
  | _ => none

/-- What commands of the safety functions and of the CAN channels may change. -/
def scopeSafety : Instr → Option Scope
  | .testWindow .. => some ⟨[.phb, .saf], []⟩
  | .siFilterChange .. | .darkPulse .. | .discrepancyTick .. | .discFault .. | .sdRenewalTimeout .. => some ⟨[.objs, .prt, .cte, .saf, .rcd], [7, 8, 9, 12]⟩
  | .safReset .. | .sdWordWrite .. | .sdRewriteTimer .. => some ⟨[.objs, .prt, .cte, .saf, .rcd], [7, 8, 9, 12, 13]⟩
  | .testPulseStart .. | .sdWindowClose .. | .sdTimeout .. | .sdReset .. => some ⟨[.objs, .saf], [12]⟩
  | .testPulseEnd .. | .testOverdue .. => some ⟨[.objs, .prt, .saf, .rcd], [8, 12]⟩
  | .safeDataCopy .. => some ⟨[.objs, .saf], [12, 15]⟩
  | .sdTxSend .. => some ⟨[.objs, .can, .sent], [12, 15]⟩
  | .canFrameReceive .. => some ⟨[.objs, .can, .freeCount], [15]⟩
  | .rxHdrRead .. => some ⟨[.can, .sent], []⟩
  | .canTxDone .. => some ⟨[.objs, .can, .sent], [15]⟩
  | .canArbitrationLost .. | .canTxError .. | .txCancel .. | .busOffRecoveryDone .. | .canReferenceDue .. | .canRxError .. => some ⟨[.objs, .can], [15]⟩
  | .canRecover .. => some ⟨[.can], []⟩
  | _ => none

/-- What commands of the control engine, the Stockpot, dispatch, thermal strategy and the recorder may change. -/
def scopeControl : Instr → Option Scope
  | .dispatchComplete .. => some ⟨[.objs, .dsp, .freeCount], [10]⟩
  | .ctlSample .. => some ⟨[.objs, .phb, .cte, .pot], [9]⟩
  | .classSEvaluation .. => some ⟨[.objs, .cte, .pot], [9]⟩
  | .trimUpdate .. => some ⟨[.objs, .phb, .cte], [9]⟩
  | .senseFrame .. | .streamLost .. | .carrierPeriodStart .. => some ⟨[.objs, .cte], [9]⟩
  | .trimEnable .. | .trimRun .. | .trimStop .. | .trimDisable .. => some ⟨[.objs, .cte], [9, 13]⟩
  | .directCoeffWrite .. => some ⟨[.objs], [9, 13]⟩
  | .hostPWrite .. => some ⟨[.objs, .dsp], [10]⟩
  | .hostTimeout .. => some ⟨[.objs], [10]⟩
  | .housekeepingRound .. => some ⟨[.objs, .dsp, .thm, .rcd, .freeCount], [11, 19]⟩
  | .sdAck .. => some ⟨[.objs, .thm], [11]⟩
  | .causeWordCleared .. => some ⟨[.objs, .prt, .cte, .thm, .saf, .rcd], [7, 8, 9, 11, 12]⟩
  | .stockpotCommit .. => some ⟨[.objs, .pot], [13]⟩
  | .hoursIncrement .. | .foldDue .. | .recordLoad .. | .recordLoadDone .. | .holdStart .. | .holdRelease .. => some ⟨[.objs, .rcd], [19]⟩
  | .holdTimeout .. => some ⟨[.objs], [19]⟩
  | .recordClear .. => some ⟨[.objs, .rcd, .freeCount], [19]⟩
  | _ => none

/-- What commands of the Ethernet switch, of configuration, update, object access and the sequence program may change; those left out can change every block. -/
def scopeService : Instr → Option Scope
  | .objRequestArrival .. => some ⟨[.objs, .obj, .can, .upd, .sent], [1, 15]⟩
  | .readRange .. | .readList .. | .epochQuery .. => some ⟨[.objs, .obj, .can, .sent, .freeCount], [1, 15]⟩
  | .rwsWrite .. => some ⟨[.objs, .cfg], [2, 13]⟩
  | .pairLoRead .. => some ⟨[.obj, .can, .sent], []⟩
  | .cfgSelectWrite .. | .confirmWindowExpiry .. => some ⟨[.objs], [2]⟩
  | .cfgConfirm .. | .cfgConfirmInv .. | .confirmationRecordWritten .. | .lsSubmit .. | .lsDiscard .. | .lsChecksDone .. => some ⟨[.objs, .cfg], [2]⟩
  | .seqRestart .. | .seqTrig .. | .forceSet .. | .forceRelease .. | .forceReleaseAll .. => some ⟨[.seq], []⟩
  | .rioInFrame .. => some ⟨[.objs, .seq], [14, 15]⟩
  | .rioResponseMissed .. | .olcApply .. => some ⟨[.objs, .seq], [14]⟩
  | .ethFrameReceive .. => some ⟨[.objs, .eth, .sent], [13, 16]⟩
  | .pdelayReqTimer .. | .tc10SleepRequest .. => some ⟨[.objs, .eth, .sent], [16]⟩
  | .pdelayReqReceive .. => some ⟨[.objs, .sent], [16]⟩
  | .addressAgeOut .. => some ⟨[.eth], []⟩
  | .ethLinkChange .. => some ⟨[.objs, .eth], [16]⟩
  | .sessionOpen .. => some ⟨[.objs, .upd, .freeCount], [21]⟩
  | .sessionClose .. | .sessionTimeout .. | .xferTimeout .. => some ⟨[.objs, .upd], [2, 21]⟩
  | .xferStart .. | .xferAbort .. => some ⟨[.objs, .cfg, .upd], [2, 21]⟩
  | .xferVerifyDone .. => some ⟨[.objs, .cfg, .upd, .freeCount], [2, 21]⟩
  | .xferDatagram .. => some ⟨[.objs, .upd, .sent], [21]⟩
  | .fwActivate .. | .fwConfirm .. => some ⟨[.objs, .upd], [21]⟩
  | _ => none

/-- What commands of the lanes and of power may change; those left out can change every block. -/
def scopeSystem : Instr → Option Scope
  | .bootTimeout .. | .standbyLoadDone .. | .standbyCheckDone .. | .checkTimeout .. | .laneFault .. | .yield .. | .mgmtFrameComplete .. => some ⟨[.objs, .assembling, .obj, .cfg, .ports, .swp, .est, .prt, .cte, .pot, .dsp, .thm, .saf, .can, .eth, .rcd, .lan, .seq, .pwr, .upd, .frames, .sent], [2, 4, 5, 6, 8, 9, 10, 12, 13, 14, 15, 16, 19, 21]⟩
  | .standbyCheckStart .. | .requalDone .. | .requalTimeout .. => some ⟨[.objs, .lan], [13]⟩
  | .lidReadbackFault .. | .restoreTimeout .. => some ⟨[.objs, .assembling, .obj, .ports, .swp, .prt, .cte, .saf, .can, .eth, .rcd, .lan, .pwr, .upd, .frames, .sent], [4, 5, 8, 9, 12, 13, 15, 16, 21]⟩
  | .newHalfReady .. => some ⟨[.objs, .cte, .pot, .can, .lan], [1, 9, 13, 15, 16]⟩
  | .heartbeatWrite .. | .plannedSwitch .. => some ⟨[.lan], []⟩
  | .supplyLow .. => some ⟨[.objs], [20]⟩
  | .powerFailShutdown .. => some ⟨[.objs, .assembling, .obj, .ports, .swp, .est, .prt, .cte, .saf, .can, .eth, .rcd, .lan, .pwr, .upd, .frames, .sent], [4, 5, 6, 8, 9, 12, 13, 15, 16, 21]⟩
  | .standbyRequest .. | .deepStandbyRequest .. | .offRequest .. => some ⟨[.objs, .pwr], [20]⟩
  | .tamperOpen .. => some ⟨[.objs, .assembling, .obj, .ports, .swp, .prt, .cte, .saf, .can, .eth, .rcd, .lan, .pwr, .upd, .frames, .sent, .freeCount], [4, 5, 8, 9, 12, 13, 15, 16, 21]⟩
  | _ => none

end Sys2Proof.Machine
end

