-- ==== Sys2Proof/Certificates/Slice0/Obligations.lean ====
section
/-! DEFINITION. Obligations.lean: the statements for the provers, by family of commands. Each says in its conclusion that the commands it names answer a next state, and what that state holds; the statements on scopes say what they leave as it was. -/


open Sys2Proof Sys2Proof.Machine

/-- With a command at the front of the queue a step is that command's effect on the state with the rest of the queue. (R38) -/
def Obligations.StepRunsTheFrontCommand : Prop :=
  ∀ (s : State) (c : Instr) (rest : List Instr), s.pending = c :: rest → step s = exec c { s with pending := rest }

/-- A step on an empty queue changes nothing. This is the model's choice, in log entry 2, and no rule of the manual. (R38) -/
def Obligations.AnEmptyQueueIdles : Prop := ∀ s : State, s.pending = [] → step s = .next s

/-- At reset everything kept by address is in its canonical form and every array has its size. (R18) -/
def Obligations.ResetHasTheForm : Prop := State.reset.Inv

/-- At reset INF_ID, the dormant bits, the cell state table's shape, the host power words, the string weights, the lane status, the rate word, the trim gains, WAKE_IN and the held pads read as their maps give; no lane holds the Lid, nothing is published, nothing waits and nothing has been sent. (R18) -/
def Obligations.ResetValues : Prop :=
  (∀ e ∈ ([(0x0, 0x4096), (0x10, 0xDCE70), (0x14, 0x3FF), (0x60020, 2), (0xa0014, 0xFFFFFFFF), (0xd0000, 0x110030), (0x110014, 0x80000000), (0x14000c, 2),
    (0x140020, 0xF)] : List (Nat × Word)), State.reset.rd e.1 = e.2) ∧
  (∀ p < 8, State.reset.rd (0xa0104 + 0x20 * p) = 0xFFFF ∧ State.reset.rd (0x120440 + 4 * p) = 0x8000) ∧
  State.reset.lan.lid = none ∧ State.reset.latest.epoch = 0 ∧ State.reset.pwr.state = .unpowered ∧ State.reset.pending = [] ∧ State.reset.sent = []

/-- From every state in which all that is kept by address is in its canonical form and every array has its size, each step that ends in a next state leads to such a state, whichever command is in front. (R15, R31, R193, R352) -/
def Obligations.EveryStepKeepsTheForm : Prop := ∀ (s t : State), s.Inv → step s = .next t → t.Inv

/-- A step that ends in a next state takes the front command and no other out of the queue; what has been sent stays sent, in its order; and free values are taken onward only, so that none is used twice. The queue, the outputs' record and the free values are the model's own (log entries 2 to 4). (R66, R132) -/
def Obligations.EveryStepKeepsTheRecord : Prop :=
  ∀ (s t : State), step s = .next t → t.pending = s.pending.drop 1 ∧ s.sent <:+ t.sent ∧ s.freeCount ≤ t.freeCount

/-- The one fault is an access of a lane, by a single read of a _LO half or a single write, to an address that no object map defines; that it is a fault is the model's choice. No command is ever refused. (R48, R49) -/
def Obligations.OnlyUnmappedAccessesStop : Prop :=
  (∀ (c : Instr) (s : State) (f : Fault), exec c s = .fault f → f = .unmappedAddress ∧
    ((∃ a tc, c = .pairLoRead a tc ∧ mapped a.toNat = false) ∨ (∃ a v o, c = .rwsWrite a v (.lane o) ∧ mapped a.toNat = false) ∨
      (∃ a v o x tc, c = .registerWrite a v (.lane o) x tc ∧ mapped a.toNat = false))) ∧
  (∀ (c : Instr) (s : State) (r : Refusal), exec c s ≠ .refused r)

/-- The CRC-32C of a list of bytes is the bit by bit division with the reflected generator 0x82F6_3B78, which is 0x1EDC_6F41 with its bits in reverse, taking the bits of each byte from the least significant, with initial value 0xFFFF_FFFF and final exclusive-or 0xFFFF_FFFF. Over the nine ASCII bytes "123456789" it is 0xE306_9283. (R78) -/
def Obligations.Crc32cIsAsDefined : Prop :=
  (∀ l : List Byte, crc32c l = (l.flatMap fun b => (List.range 8).map fun i => b.getLsbD i).foldl
    (fun (c : BitVec 32) (x : Bool) => if c.getLsbD 0 != x then (c >>> 1) ^^^ 0x82F63B78#32 else c >>> 1) 0xFFFFFFFF#32 ^^^ 0xFFFFFFFF#32) ∧
  (∀ i < 32, (0x82F63B78#32).getLsbD i = (0x1EDC6F41#32).getLsbD (31 - i)) ∧
  crc32c [0x31, 0x32, 0x33, 0x34, 0x35, 0x36, 0x37, 0x38, 0x39] = 0xE3069283

/-- The CRC-8 of a list of bytes is the bit by bit division with the generator 0x2F, taking the bits of each byte from the most significant, with initial value 0xFF and final exclusive-or 0xFF. Over the nine ASCII bytes "123456789" it is 0xDF. A frame of a present trimmer that fails its CRC, or whose synchronisation pattern is not 0xF0C3, is counted in CTE_TRIMs_ERR.CRC; every other field stays, and nothing of the frame is taken. (R274) -/
def Obligations.SenseFrameCrc : Prop :=
  (∀ l : List Byte, crc8 l = (l.flatMap fun b => (List.range 8).map fun i => b.getLsbD (7 - i)).foldl
    (fun (c : BitVec 8) (x : Bool) => if c.getLsbD 7 != x then (c <<< 1) ^^^ 0x2F#8 else c <<< 1) 0xFF#8 ^^^ 0xFF#8) ∧
  crc8 [0x31, 0x32, 0x33, 0x34, 0x35, 0x36, 0x37, 0x38, 0x39] = 0xDF ∧
  (∀ (s : State) (n : Fin 8) (sync : BitVec 16) (l : List Byte) (tc : Tc), s.cteDormant = false → s.flag (F.CTE_TRIM_STAT_PRESENT n) = true →
    sync ≠ 0xF0C3 ∨ crc8 (l.take 7) ≠ l.getD 7 0 →
    ∃ t, exec (.senseFrame n sync l tc) s = .next t ∧ t = { s with objs := t.objs } ∧ t.fld (F.CTE_TRIM_ERR_CRC n) = (s.fld (F.CTE_TRIM_ERR_CRC n) + 1) % 2 ^ 16 ∧
      t.fld (F.CTE_TRIM_ERR_LOST n) = s.fld (F.CTE_TRIM_ERR_LOST n) ∧ (∀ a, a ≠ (F.CTE_TRIM_ERR_CRC n).addr → t.rd a = s.rd a))

/-- Every step keeps the one open staging at rising addresses, so distinct objects, and at most 1,024 of them. A write of a lane or of a path that reaches it enters its object, or replaces the object's earlier value, while the object is present or fewer than 1,024 are; a write that would add a 1,025th stores nothing and sets OVF. (R98) -/
def Obligations.OneOpenStaging : Prop :=
  (∀ (s t : State), s.StagingForm → step s = .next t → t.StagingForm) ∧
  (∀ (s : State) (a : BitVec 32) (v : Word) (w : Writer), s.StagingForm → rwsMask a.toNat ≠ 0 → s.dormantAt a.toNat = false →
    (∃ p, w = .path p ∧ s.serviceUp = true ∧ s.accessStatus p s.upd.session.isSome true a.toNat = stOk) ∨
      (∃ o, w = .lane o ∧ mapped a.toNat = true ∧ s.currentEpoch o = true ∧ s.holdsLid o.lane = true ∧ s.stagingOpen = true) →
    ((∃ x, (a.toNat, x) ∈ s.cfg.staging) ∨ s.cfg.staging.length < 1024 →
      ∃ t, exec (.rwsWrite a v w) s = .next t ∧ t.StagingForm ∧ t.flag F.CFG_LS_STAT_OVF = s.flag F.CFG_LS_STAT_OVF ∧
        ∀ e, e ∈ t.cfg.staging ↔ e = (a.toNat, v) ∨ (e ∈ s.cfg.staging ∧ e.1 ≠ a.toNat)) ∧
    ((∀ x, (a.toNat, x) ∉ s.cfg.staging) → s.cfg.staging.length = 1024 →
      ∃ t, exec (.rwsWrite a v w) s = .next t ∧ t.cfg = s.cfg ∧ t.flag F.CFG_LS_STAT_OVF = true))

/-- A reading request whose objects have all passed their checks is answered with EPOCH_FUTURE and index 0xFF while epoch 0 holds and it reads a snapshot object, whatever its selector; one that then reads mixed objects only is answered. With a published snapshot, a non-zero selector that names neither held snapshot, of a request that reads a snapshot or mixed object, is answered with EPOCH_FUTURE if the selector less OBJ_EPOCH_LATEST, modulo 2^32, lies from 1 to 2^31, and else with EPOCH_EXPIRED, with index 0xFF. An object that fails its checks is answered first. (R55, R56) -/
def Obligations.EpochSelectors : Prop :=
  ∀ (s : State) (tc : Tc) (r : Request) (c : State → Host.Outcome State Fault Refusal),
    (s.frontRequest 1 = some r ∧ c = exec (.readRange tc)) ∨ (s.frontRequest 2 = some r ∧ c = exec (.readList tc)) → r.countOk = true → r.lengthOk = true →
    (∀ i st, s.firstBad r false r.reads 0 = some (i, st) → ∃ t x, c s = .next t ∧ t.sent = .response r.path x :: s.sent ∧ x.status = BitVec.ofNat 8 st ∧ x.index = BitVec.ofNat 8 i) ∧
    (s.firstBad r false r.reads 0 = none → s.latest.epoch = 0 → (∃ a ∈ r.reads, kindAt a = .snapshot) →
      ∃ t x, c s = .next t ∧ t.sent = .response r.path x :: s.sent ∧ x.status = 0x09 ∧ x.index = 0xFF) ∧
    (s.firstBad r false r.reads 0 = none → s.latest.epoch = 0 → (∀ a ∈ r.reads, kindAt a ≠ .snapshot) →
      ∃ t x, c s = .next t ∧ t.sent = .response r.path x :: s.sent ∧ x.status = 0x00) ∧
    (s.firstBad r false r.reads 0 = none → s.latest.epoch ≠ 0 → (∃ a ∈ r.reads, kindAt a = .snapshot ∨ kindAt a = .mixed) →
      r.selector ≠ 0 → r.selector ≠ s.latest.epoch.toNat → r.selector ≠ s.previous.epoch.toNat → r.selector < 2 ^ 32 →
      ∃ t x, c s = .next t ∧ t.sent = .response r.path x :: s.sent ∧ x.index = 0xFF ∧
        x.status = (if 1 ≤ ((r.selector : Int) - s.latestEpoch.toNat) % 2 ^ 32 ∧ ((r.selector : Int) - s.latestEpoch.toNat) % 2 ^ 32 ≤ 2 ^ 31 then 0x09 else 0x08))

/-- In INTERNAL an event of the carrier, the mains or a completed encoder count records whether its frequency is in range and the state stays; in LOCKED an event out of range brings FLYWHEEL with LOSS, the increment held; so does a reference missing for 1.25 / PHB_FMIN, and before that nothing changes. A tick on which the accumulator carries out of bit 47 advances the cycle count by the carries not counted yet, which is one where every wrap is evaluated, and latches its time, once; a tick without a carry changes nothing. A wrap takes REALIGN to LOCKED, and the 20th wrap in FLYWHEEL to INTERNAL with FALLBACK. Encoder edges count up, count down and restart. (R108, R109, R111, R112, R114, R116, R124) -/
def Obligations.PhaseBaseFollowsItsSource : Prop :=
  (∀ (s : State) (tc : Tc) (l : Nat), s.phbOn = true → s.fld F.PHB_SRC_SOURCE = 1 ∨ s.fld F.PHB_SRC_SOURCE = 2 ∨ s.fld F.PHB_SRC_SOURCE = 3 ∧ s.phb.encDue = true → s.fld F.PHB_STAT_STATE = phbInternal → s.phb.lastRef = some l →
    ∃ t, exec (.referenceEvent tc) s = .next t ∧ t.phb.lastRef = some (64 * tc.toNat) ∧
      t.phb.history = s.freqOk (64 * tc.toNat - l) :: s.phb.history.take 7 ∧ t.fld F.PHB_STAT_STATE = phbInternal) ∧
  (∀ (s : State) (tc : Tc) (l : Nat), s.phbOn = true → s.fld F.PHB_SRC_SOURCE = 1 ∨ s.fld F.PHB_SRC_SOURCE = 2 ∨ s.fld F.PHB_SRC_SOURCE = 3 ∧ s.phb.encDue = true → s.fld F.PHB_STAT_STATE = phbLocked → s.phb.lastRef = some l →
    s.freqOk (64 * tc.toNat - l) = false →
    ∃ t, exec (.referenceEvent tc) s = .next t ∧ t.fld F.PHB_STAT_STATE = phbFlywheel ∧ t.fld F.PHB_STAT_FLYCNT = 0 ∧ t.fld F.PHB_FREQ_MHZ = 0 ∧
      t.fld Ev.PHB_LOSS.cnt = (s.fld Ev.PHB_LOSS.cnt + 1) % 2 ^ Ev.PHB_LOSS.cnt.w ∧ t.rd64 0x30020 = s.rd64 0x30020) ∧
  (∀ (s : State) (tc : Tc) (l : Nat), s.phbOn = true → s.fld F.PHB_SRC_SOURCE = 1 ∨ s.fld F.PHB_SRC_SOURCE = 2 ∨ s.fld F.PHB_SRC_SOURCE = 3 → s.phb.lastRef = some l →
    (5 * 16 * 10 ^ 12 ≤ 4 * s.fld F.PHB_FMIN_MHZ * (64 * tc.toNat - l) → s.fld F.PHB_STAT_STATE = phbLocked →
      ∃ t, exec (.referenceMissing tc) s = .next t ∧ t.fld F.PHB_STAT_STATE = phbFlywheel ∧ t.fld F.PHB_STAT_FLYCNT = 0 ∧ t.fld F.PHB_FREQ_MHZ = 0 ∧
        t.rd64 0x30020 = s.rd64 0x30020) ∧
    (4 * s.fld F.PHB_FMIN_MHZ * (64 * tc.toNat - l) < 5 * 16 * 10 ^ 12 → exec (.referenceMissing tc) s = .next s)) ∧
  (∀ (s : State) (tc : Tc), s.wrapsAt tc = true → ∃ t, exec (.phaseWrap tc) s = .next t ∧ t.rd64 0x30014 = s.rd64 0x30014 + BitVec.ofNat 64 (s.carriesAt tc) ∧
      t.rd64 0x30028 = tc ∧ t.wrapsAt tc = false ∧
      (s.fld F.PHB_STAT_STATE = phbRealign → t.fld F.PHB_STAT_STATE = phbLocked ∧ t.fld F.PHB_STAT_FALLBACK = 0) ∧
      (s.fld F.PHB_STAT_STATE = phbFlywheel → s.phb.flywheel = 19 → t.fld F.PHB_STAT_STATE = phbInternal ∧ t.fld F.PHB_STAT_FALLBACK = 1)) ∧
  (∀ (s : State) (tc : Tc), s.wrapsAt tc = false → exec (.phaseWrap tc) s = .next s) ∧
  (∀ s : State, s.phbOn = true → exec (.encoderCount .down) s = .next { s with phb := { s.phb with encCount := s.phb.encCount - 1 } }) ∧
  (∀ s : State, s.phbOn = true → s.fld F.PHB_SRC_SOURCE ≠ 3 → exec (.encoderCount .up) s = .next { s with phb := { s.phb with encCount := s.phb.encCount + 1 } }) ∧
  (∀ s : State, s.phbOn = true → s.flag F.PHB_SRC_Z_EN = true → exec (.encoderCount .z) s = .next { s with phb := { s.phb with encCount := 0, encBase := 0 } })

/-- An entry fires an action, apertures apart, only while the schedule runs, only the action it names, and only on a tick on which the accumulator reaches a target of the entry that was not taken on this tick before; of all such entries of the tick it is the first, by action and within one action by index. What has acted on a tick does not act on it again, and nothing that comes before it does. (R109, R117, R118, R119, R123) -/
def Obligations.FiringsOfOneTick : Prop :=
  (∀ (s : State) (k j : Fin 64) (a : Nat) (tc : Tc), a ≠ 0 → a ≠ 4 → s.fires k a tc = true →
    s.flag F.PHB_STAT_SCHED_RUN = true ∧ s.fld (F.PHB_SCHED_A_ACTION k) = a ∧
    (schedEntry s.rd k).due s.phb.startCycle (s.positionAt tc) (s.phbStep tc) = true ∧
    (s.fld (F.PHB_SCHED_A_ACTION j) ≠ 0 → s.fld (F.PHB_SCHED_A_ACTION j) ≠ 4 →
      (schedEntry s.rd j).due s.phb.startCycle (s.positionAt tc) (s.phbStep tc) = true →
      s.unfired tc (64 * s.fld (F.PHB_SCHED_A_ACTION j) + j) = true →
      a < s.fld (F.PHB_SCHED_A_ACTION j) ∨ a = s.fld (F.PHB_SCHED_A_ACTION j) ∧ k ≤ j)) ∧
  (∀ (s : State) (k j : Fin 64) (a b : Nat) (tc : Tc), (s.acted (64 * a + k) tc).fires j b tc = true → a < b ∨ a = b ∧ k < j)

/-- A MARK firing latches the time counter and the low cycle count into the mark registers that its TARGET names, and no other object changes. A publishing module whose message interval has passed sends a 32-byte angle message with its next sequence number, in a datagram to the address and port of the image, and advances the number; the next message waits for its interval. That messages begin once the schedule runs and are sent while lane firmware runs is the model's choice (log entry 165). A valid angle message is a reference event: in INTERNAL it enters the acquisition history, and its sequence number is kept. (R118, R124, R126, R127) -/
def Obligations.AngleMessagesAndMarks : Prop :=
  (∀ (s : State) (k : Fin 64) (tc : Tc), s.fires k 8 tc = true →
    ∃ t n, n = s.fld (F.PHB_SCHED_A_TARGET k) % 4 ∧ exec (.mark k tc) s = .next t ∧ t.rd64 (0x30080 + 16 * n) = tc ∧
      t.rd (0x30088 + 16 * n) = s.rd 0x30014 ∧ ∀ a, a ≠ 0x30080 + 16 * n → a ≠ 0x30084 + 16 * n → a ≠ 0x30088 + 16 * n → t.rd a = s.rd a) ∧
  (∀ (s : State) (tc : Tc), s.phbOn = true → s.lan.fw = true → s.flag F.PHB_SRC_PUBLISH = true → s.flag F.PHB_STAT_SCHED_RUN = true → s.angleDue tc = true → (s.rd64 0x30028).toNat ≤ tc.toNat →
    ∃ t m, exec (.angleMessageSend tc) s = .next t ∧ t.angleDue tc = decide (s.img 6 24 2 = 0) ∧ t.sent = .angle (s.img 6 32 4) (s.img 6 28 2) m :: s.sent ∧ m.length = 32 ∧ leAt m 4 4 = s.phb.angleNext.toNat ∧ t.phb.angleNext = s.phb.angleNext + 1 ∧ t.objs = s.objs) ∧
  (∀ (s : State) (payload : List Byte) (tc : Tc), s.phbOn = true → s.fld F.PHB_SRC_SOURCE = 4 → s.angleOk payload = true → s.fld F.PHB_STAT_STATE = phbInternal →
    ∃ t ok, exec (.angleMessageReceive payload tc) s = .next t ∧ t.phb.angleSeen = some (BitVec.ofNat 32 (leAt payload 4 4)) ∧
      t.phb.history = ok :: s.phb.history.take 7 ∧ t.fld F.PHB_STAT_STATE = phbInternal)

/-- ARM with a width of at least 8 ns and, one-shot, a start after now or, periodic, a period of at least 100 ns and the width plus 8 ns arms the output with PULSES 0; a pulse in progress stays. A shorter width is refused with 1, a start not after now with 2 and TPO_LATE. DISARM ends ARMED and drops the pending edges. An edge whose target is reached starts the pulse, counts it, and a periodic output stays pending. The end of the pulse leads to ARMED or IDLE. (R415, R416, R417) -/
def Obligations.PulseOutputs : Prop :=
  (∀ (s : State) (n : Fin 4) (tc : Tc), s.tim.Sized → 8 ≤ s.fld (F.TIM_TPO_WIDTH_VALUE n) →
    (s.fld (F.TIM_TPO_CFG_MODE n) = 0 ∧
        s.tpoTime (s.flag (F.TIM_TPO_CFG_BASE n)) tc < (((s.rd64 (F.TIM_TPO_START_LO_VALUE n).addr).toNat * 2 ^ 32 : Nat) : Int) ∨
      s.fld (F.TIM_TPO_CFG_MODE n) = 1 ∧
        max (s.fld (F.TIM_TPO_WIDTH_VALUE n) + 8) 100 * 2 ^ 32 ≤
          (if s.flag (F.TIM_TPO_CFG_BASE n) then 4 else 1) * (s.fld (F.TIM_TPO_PERIOD_VALUE n) * 2 ^ 32 + s.fld (F.TIM_TPO_PERIOD_FRAC_VALUE n))) →
    ∃ t, exec (.tpoArm n tc) s = .next t ∧
      t.fld (F.TIM_TPO_STAT_STATE n) = (if s.fld (F.TIM_TPO_STAT_STATE n) = tpoPulse then tpoPulse else tpoArmed) ∧ t.fld (F.TIM_TPO_STAT_PULSES n) = 0 ∧
      (t.tpo n).pending = true ∧ (t.tpo n).start = (s.rd64 (F.TIM_TPO_START_LO_VALUE n).addr).toNat) ∧
  (∀ (s : State) (n : Fin 4) (tc : Tc), s.fld (F.TIM_TPO_WIDTH_VALUE n) < 8 → exec (.tpoArm n tc) s = .next (s.put (F.TIM_TPO_STAT_REFUSE n) 1)) ∧
  (∀ (s : State) (n : Fin 4) (tc : Tc), 8 ≤ s.fld (F.TIM_TPO_WIDTH_VALUE n) → s.fld (F.TIM_TPO_CFG_MODE n) = 0 →
    (((s.rd64 (F.TIM_TPO_START_LO_VALUE n).addr).toNat * 2 ^ 32 : Nat) : Int) ≤ s.tpoTime (s.flag (F.TIM_TPO_CFG_BASE n)) tc →
    ∃ t, exec (.tpoArm n tc) s = .next t ∧ t.tim = s.tim ∧ t.fld (F.TIM_TPO_STAT_REFUSE n) = 2 ∧ t.fld (F.TIM_TPO_STAT_STATE n) = s.fld (F.TIM_TPO_STAT_STATE n) ∧
      Raised Ev.TIM_TPO_LATE s t) ∧
  (∀ (s : State) (n : Fin 4), s.tim.Sized → ∃ t, exec (.tpoDisarm n) s = .next t ∧ (t.tpo n).pending = false ∧
      t.fld (F.TIM_TPO_STAT_STATE n) = (if s.fld (F.TIM_TPO_STAT_STATE n) = tpoArmed then tpoIdle else s.fld (F.TIM_TPO_STAT_STATE n))) ∧
  (∀ (s : State) (n : Fin 4) (tc : Tc), s.tim.Sized → s.fld (F.TIM_TPO_STAT_STATE n) = tpoArmed → (s.tpo n).pending = true → (s.tpo n).target ≤ s.tpoTime (s.tpo n).raw tc →
    ∃ t, exec (.tpoEdge n tc) s = .next t ∧ t.fld (F.TIM_TPO_STAT_STATE n) = tpoPulse ∧
      t.fld (F.TIM_TPO_STAT_PULSES n) = (s.fld (F.TIM_TPO_STAT_PULSES n) + 1) % 2 ^ 16 ∧ (t.tpo n).k = (s.tpo n).k + 1 ∧ (t.tpo n).pending = (s.tpo n).periodic) ∧
  (∀ (s : State) (n : Fin 4) (tc : Tc), s.fld (F.TIM_TPO_STAT_STATE n) = tpoPulse → (s.tpo n).pulseEnd.toNat ≤ tc.toNat →
    exec (.tpoPulseEnd n tc) s = .next (s.put (F.TIM_TPO_STAT_STATE n) (if (s.tpo n).pending then tpoArmed else tpoIdle)))

/-- An increment in range opens a segment at the next tick with that increment and changes no other object; one out of range is rejected with INC_REJ. A step adds signed ns to a new segment based on the network time of its first tick; a set bases it on TIM_SET; both raise STEP. While the servo is enabled a path's writes change nothing. A conversion gives network time of the raw value in whole ns, rounded down, with the two flags for the segments before the current one. (R411, R412, R413) -/
def Obligations.NetworkTimeWrites : Prop :=
  (∀ (s : State) (v : Word) (w : Writer) (tc : Tc), s.servoDenies w = false → 0x7FEF9DB2 ≤ v.toNat → v.toNat ≤ 0x8010624E →
    ∃ t, exec (.timIncWrite v w tc) s = .next t ∧ t.rd 0x110014 = v ∧ t.tim.cur.inc = v ∧ t.tim.cur.raw = tc + 1 ∧ ∀ a, a ≠ 0x110014 → t.rd a = s.rd a) ∧
  (∀ (s : State) (v : Word) (w : Writer) (tc : Tc), s.servoDenies w = false → v.toNat < 0x7FEF9DB2 ∨ 0x8010624E < v.toNat →
    ∃ t, exec (.timIncWrite v w tc) s = .next t ∧ t.tim = s.tim ∧ t.rd 0x110014 = s.rd 0x110014 ∧ Raised Ev.TIM_INC_REJ s t) ∧
  (∀ (s : State) (v : Word) (w : Writer) (tc : Tc), s.servoDenies w = false → s.tim.cur.raw ≠ tc + 1 →
    ∃ t, exec (.timStep v w tc) s = .next t ∧ t.tim.prev = s.tim.cur ∧ t.tim.cur.raw = tc + 1 ∧ t.tim.cur.base = ntBy s.tim.cur (tc + 1).toNat ∧
      t.tim.cur.step = v.toInt * 2 ^ 32 ∧ t.tim.cur.inc = s.tim.cur.inc ∧ Raised Ev.TIM_STEP s t) ∧
  (∀ (s : State) (w : Writer) (tc : Tc), s.servoDenies w = false →
    ∃ t, exec (.timSet w tc) s = .next t ∧ t.tim.cur.raw = tc + 1 ∧ t.tim.cur.base = (((s.rd64 0x11001c).toNat * 2 ^ 32 : Nat) : Int) ∧
      t.tim.cur.inc = s.tim.cur.inc ∧ Raised Ev.TIM_STEP s t) ∧
  (∀ (s : State) (v : Word) (p : Path) (tc : Tc), s.flag F.TIM_SERVO_CFG_SERVO_EN = true →
    exec (.timIncWrite v (.path p) tc) s = .next s ∧ exec (.timStep v (.path p) tc) s = .next s ∧ exec (.timSet (.path p) tc) s = .next s) ∧
  (∀ (s : State) (v : Word), ∃ t r, r = (v ++ s.rd 0x110028).toNat ∧ exec (.timConvert v) s = .next t ∧ t.rd 0x11002c = v ∧
      t.rd64 0x110030 = BitVec.ofInt 64 (s.ntOf r / 2 ^ 32) ∧ (t.flag F.TIM_STAT_CONV_PREV = true ↔ r < s.tim.cur.raw.toNat) ∧
      (t.flag F.TIM_STAT_CONV_OOR = true ↔ r < s.tim.cur.raw.toNat ∧ r < s.tim.prev.raw.toNat) ∧ t.tim = s.tim)

/-- The first accepted Sync in FREE or HOLDOVER leads to ACQUIRE and writes nothing to network time; the eighth consecutive offset of at most 100 ns in ACQUIRE leads to LOCKED with LOCK. A missing Sync, or a master change, in ACQUIRE or LOCKED leads to HOLDOVER with its event. The end of holdover leads to FREE and changes nothing else. (R413, R414) -/
def Obligations.ServoStates : Prop :=
  (∀ (s : State) (m : PtpSync) (tc : Tc), s.lan.fw = true → s.flag F.TIM_SERVO_CFG_SERVO_EN = true → m.domain.toNat = s.fld F.TIM_SERVO_CFG_DOMAIN →
    -7 ≤ m.interval.toInt → m.interval.toInt ≤ 1 → s.fld F.TIM_STAT_SERVO = servoFree ∨ s.fld F.TIM_STAT_SERVO = servoHoldover →
    ∃ t, exec (.ptpSyncReceive m tc) s = .next t ∧ t.fld F.TIM_STAT_SERVO = servoAcquire ∧ t.tim.lastSync = tc ∧ t.tim.good = 0 ∧ t.tim.sum = 0 ∧
      t.tim.cur = s.tim.cur) ∧
  (∀ (s : State) (m : PtpSync) (tc : Tc), s.lan.fw = true → s.flag F.TIM_SERVO_CFG_SERVO_EN = true → m.domain.toNat = s.fld F.TIM_SERVO_CFG_DOMAIN →
    -7 ≤ m.interval.toInt → m.interval.toInt ≤ 1 → s.fld F.TIM_STAT_SERVO = servoAcquire → 7 ≤ s.tim.good → (s.syncOffset m).natAbs ≤ 100 * 2 ^ 36 →
    1 ≤ s.fld F.TIM_SERVO_CFG_STEP_THR →
    ∃ t, exec (.ptpSyncReceive m tc) s = .next t ∧ t.fld F.TIM_STAT_SERVO = servoLocked ∧ t.tim.good = s.tim.good + 1 ∧ Raised Ev.TIM_LOCK s t) ∧
  (∀ (s : State) (change : Bool) (tc : Tc), s.lan.fw = true → s.flag F.TIM_SERVO_CFG_SERVO_EN = true →
    s.fld F.TIM_STAT_SERVO = servoAcquire ∨ s.fld F.TIM_STAT_SERVO = servoLocked → change = true ∨ s.syncLate tc = true →
    ∃ t, exec (.syncTimeout change tc) s = .next t ∧ t.fld F.TIM_STAT_SERVO = servoHoldover ∧ t.tim.holdTc = tc ∧ t.tim.cur = s.tim.cur ∧ Raised Ev.TIM_HOLDOVER s t ∧
      (change = true → Raised Ev.TIM_GM_CHANGE s t)) ∧
  (∀ (s : State) (tc : Tc), s.lan.fw = true → s.flag F.TIM_SERVO_CFG_SERVO_EN = true → s.fld F.TIM_STAT_SERVO = servoHoldover →
    s.fld F.TIM_SERVO_CFG_HOLD_TMO * 250000000 ≤ (tc - s.tim.holdTc).toNat →
    exec (.holdoverTimeout tc) s = .next (s.put F.TIM_STAT_SERVO servoFree))

/-- Enabling a port that is not dormant sets its bit and takes OFF to NO_RING, its ends sending idle; a dormant port ignores it. Disabling clears the bit, leads to OFF, leaves the transactions whose requests have been sent and keeps how many others were abandoned, saturating; its ends go on as they were. REENUM outside OFF abandons every transaction and restarts enumeration. A held valid signal takes NO_RING to ENUM; no signal takes RING, SPLIT and FAULT to NO_RING with RING_LOST. (R60, R64, R143, R148, R150) -/
def Obligations.PortsTurnOnAndOff : Prop :=
  (∀ (s : State) (p : Fin 8), s.ports.length = 8 → s.bit F.INF_DORMANT_UNIT_PORT p = false →
    ∃ t, exec (.portEnable p) s = .next t ∧ t.bit F.DLK_ENABLE_EN p = true ∧
      t.portState p = (if s.portState p = portOff then portNoRing else s.portState p) ∧ (s.portState p = portOff → (t.port p).idle = true)) ∧
  (∀ (s : State) (p : Fin 8), s.bit F.INF_DORMANT_UNIT_PORT p = true → exec (.portEnable p) s = .next s) ∧
  (∀ (s : State) (p : Fin 8), s.ports.length = 8 → s.portState p ≠ portOff →
    ∃ t, exec (.portDisable p) s = .next t ∧ t.bit F.DLK_ENABLE_EN p = false ∧ t.portState p = portOff ∧
      (t.port p).outstanding = (s.port p).outstanding.filter (fun x => !x.waits) ∧ (t.port p).idle = (s.port p).idle ∧
      t.fld (F.DLK_P_ABANDON_CNT p) = min (unsentTxns (s.port p)).length 0xFFFF) ∧
  (∀ (s : State) (p : Fin 8), s.portState p = portOff → exec (.portDisable p) s = .next (s.putBit F.DLK_ENABLE_EN p false)) ∧
  (∀ (s : State) (p : Fin 8) (tc : Tc), s.portState p ≠ portOff →
    ∃ t, exec (.reenum ⟨p, tc⟩) s = .next t ∧ t.portState p = portEnum ∧ t.fld (F.DLK_P_STAT_FOUND p) = 0 ∧
      t.fld (F.DLK_P_ABANDON_CNT p) = min (allTxns (s.port p)).length 0xFFFF) ∧
  (∀ (s : State) (p : Fin 8) (tc : Tc), s.portState p = portNoRing →
    ∃ t, exec (.validSignalHeld ⟨p, tc⟩) s = .next t ∧ t.portState p = portEnum ∧ t.fld (F.DLK_P_STAT_FOUND p) = 0) ∧
  (∀ (s : State) (p : Fin 8), s.portState p = portRing ∨ s.portState p = portSplit ∨ s.portState p = portFault →
    ∃ t, exec (.noSignalTimeout p) s = .next t ∧ t.portState p = portNoRing ∧ Raised (Ev.DLK_P_RING_LOST p) s t)

/-- The end of enumeration, once its steps are over and not before, leads to FAULT, RING or SPLIT as the walk found, with ENUM_DONE and the count check. Loss of signal in RING or SPLIT leads to LOCATE with a POLL from each end. When the polls of LOCATE are decided, those that reach the opposite ends lead to RING with TRANSIENT, those that reach nothing to NO_RING; in RING a poll that does not pass leads to LOCATE; before they are due nothing is decided. A periodic poll, POLL_MS after the last, leaves each end that reaches a monitor. A repeated measurement queues 16 PINGs and changes nothing else; the answer to the 16th stores the delay of its end and queues its write to the monitor. (R130, R147, R149, R150, R151, R156, R164) -/
def Obligations.RingStates : Prop :=
  (∀ (s : State) (p : Fin 8), s.portState p = portEnum → enumOver (s.port p) = true →
    ∃ t x, x = s.port p ∧ exec (.enumerationEnd p) s = .next t ∧
      t.portState p = (if x.orient || x.overcount || s.fld (F.DLK_P_STAT_FOUND p) == 0 then portFault else if x.closed then portRing else portSplit) ∧
      (t.flag (F.DLK_P_STAT_COUNT_ERR p) = true ↔ s.fld (F.DLK_P_STAT_FOUND p) ≠ s.monCount p) ∧ Raised (Ev.DLK_P_ENUM_DONE p) s t) ∧
  (∀ (s : State) (p : Fin 8), enumOver (s.port p) = false → exec (.enumerationEnd p) s = .next s) ∧
  (∀ (s : State) (p : Fin 8) (e : Bool) (tc : Tc), s.portState p = portRing ∨ s.portState p = portSplit → (s.port p).idle = true →
    ∃ t, exec (.lossOfSignal ⟨p, tc⟩ e) s = .next t ∧ t.portState p = portLocate ∧
      t.sent = .dertur p true (frameBytes 103 0 0 (List.replicate 16 0)) :: .dertur p false (frameBytes 39 0 0 (List.replicate 16 0)) :: s.sent) ∧
  (∀ (s : State) (p : Fin 8) (a b : PollBack) (tc : Tc), s.portState p = portLocate → (s.port p).pollA.isSome = true → (s.port p).pollB.isSome = true →
    a.opposite = true → b.opposite = true →
    ∃ t, exec (.pollDecision p a b tc) s = .next t ∧ t.portState p = portRing ∧ t.fld (F.DLK_P_REACH_MON p) = (a.reach ||| b.reach).toNat ∧
      Raised (Ev.DLK_P_TRANSIENT p) s t) ∧
  (∀ (s : State) (p : Fin 8) (a b : PollBack) (tc : Tc), s.portState p = portLocate → (s.port p).pollA.isSome = true → (s.port p).pollB.isSome = true →
    pollsDue (s.port p) (heard a) (heard b) (tcQuarter tc) = true → a.opposite = false ∨ b.opposite = false →
    a.unaddressed = false → b.unaddressed = false → a.reach = 0 → b.reach = 0 →
    ∃ t, exec (.pollDecision p a b tc) s = .next t ∧ t.portState p = portNoRing ∧ Raised (Ev.DLK_P_RING_LOST p) s t) ∧
  (∀ (s : State) (p : Fin 8) (a b : PollBack) (tc : Tc), s.portState p = portRing → (s.port p).pollA.isSome = true → (s.port p).pollB.isSome = true →
    pollsDue (s.port p) (heard a) (heard b) (tcQuarter tc) = true → a.opposite = false ∨ b.opposite = false →
    ∃ t, exec (.pollDecision p a b tc) s = .next t ∧ t.portState p = portLocate) ∧
  (∀ (s : State) (p : Fin 8) (a b : PollBack) (tc : Tc), pollsDue (s.port p) (heard a) (heard b) (tcQuarter tc) = false → exec (.pollDecision p a b tc) s = .next s) ∧
  (∀ (s : State) (p : Fin 8) (tc : Tc), s.portState p = portRing ∨ s.portState p = portSplit → (s.port p).idle = true →
    (∀ l, (s.port p).pollTc = some l → 250000 * s.fld (F.DLK_P_CFG_POLL_MS p) ≤ (tc - l).toNat) →
    ∃ t, exec (.periodicPoll ⟨p, tc⟩) s = .next t ∧ t.objs = s.objs ∧ (t.port p).pollTc = some tc ∧
      t.sent = (if (s.port p).reachB != 0 then [.dertur p true (frameBytes 103 0 0 (List.replicate 16 0))] else []) ++
        ((if (s.port p).reachA != 0 then [.dertur p false (frameBytes 39 0 0 (List.replicate 16 0))] else []) ++ s.sent)) ∧
  (∀ (s : State) (p : Fin 8) (tc l : Tc), (s.port p).pollTc = some l → (tc - l).toNat < 250000 * s.fld (F.DLK_P_CFG_POLL_MS p) → exec (.periodicPoll ⟨p, tc⟩) s = .next s) ∧
  (∀ (s : State) (p : Fin 8) (m : Fin 32) (endB : Bool) (tc : Tc), s.ports.length = 8 → s.portState p = portRing ∨ s.portState p = portSplit → (s.port p).addressed.getLsbD m = true →
    (if endB then (s.port p).reachB else (s.port p).reachA).getLsbD m = true → m < s.monCount p →
    (∀ x ∈ (s.port p).mgmt ++ (s.port p).outstanding, x.purpose ≠ .remeasure m endB) → s.sweepReadsDone p endB = true →
    ∃ t, exec (.dRemeasure p m endB tc) s = .next t ∧ (t.port p).mgmt = (s.port p).mgmt ++ List.replicate 16 (newTxn (.remeasure m endB) m 3 [] 2) ∧
      (t.port p).pings.getD (2 * m + bitN endB) (0, 0) = (0, 0) ∧ t = { s with ports := t.ports }) ∧
  (∀ (s : State) (p : Fin 8) (m : Fin 32) (endB : Bool) (bytes : List Byte) (sum rt : Nat) (tc : Tc) (x : Txn), s.ports.length = 8 → bytes.length = leAt bytes 3 1 + 6 →
    crc16 bytes = 0 → (leAt bytes 0 1).testBit 4 = true → (leAt bytes 0 1).testBit 7 = false → s.txnOf p (leAt bytes 2 1 % 16) = some x → x.waits = false →
    x.attempt % 4 = leAt bytes 2 1 / 16 % 4 → x.purpose = .remeasure m endB → (s.port p).pings.getD (2 * m + bitN endB) (0, 0) = (sum, 15) →
    ∃ t, exec (.responseReceive p bytes false rt tc) s = .next t ∧ t.delayOf p m endB = (roundOpen ((sum + rt : Nat) - 16 * 12800) 32).toNat % 2 ^ 16 ∧
      t.delayOf p m (!endB) = s.delayOf p m (!endB) ∧ (t.port p).mgmt = (s.port p).mgmt ++ [t.writeDelayTxn p m])

/-- The first waiting link-management transaction of a free end whose monitor that end serves takes the lowest free tag, once its predicted interval fits, and one request leaves. A frame with a line error or a wrong CRC only counts; a response without its transaction is LATE. A matching response, a request that reached the opposite end and a timeout without retries left end their transaction: its tag is free. Before MARGIN has passed after the predicted interval nothing times out. A timeout with retries left is counted as a retry and the request goes again, at once where its end is free and its response fits, else it waits; the third in a row in RING leads to LOCATE. (R133, R137, R138, R139, R140, R141, R142, R150) -/
def Obligations.TransactionsIssueAndEnd : Prop :=
  (∀ (s : State) (p : Fin 8) (endB : Bool) (tc : Tc) (x : Txn) (rest : List Txn) (g : Nat), s.ports.length = 8 →
    s.unserved p = false → (s.port p).idle = true → (s.port p).freeAt endB (tcQuarter tc) = tcQuarter tc → (∀ o ∈ (s.port p).outstanding, o.waits = false) →
    (s.port p).mgmt = x :: rest → x.waits = false → s.txnEnd p x = some endB → s.mayGo p endB x = true →
    freeTag (s.port p) = some g → fits (s.port p) (s.timed p { x with tag := g, endB := endB } (tcQuarter tc)) = true →
    aloneOk (s.port p) (s.timed p { x with tag := g, endB := endB } (tcQuarter tc)) = true →
    ∃ t, exec (.transactionIssue p endB tc) s = .next t ∧ (t.port p).mgmt = rest ∧ (t.port p).queue = (s.port p).queue ∧
      (t.port p).outstanding = (s.port p).outstanding ++ [s.timed p { x with tag := g, endB := endB } (tcQuarter tc)] ∧
      t.fld (F.DLK_P_STAT_OUTST p) = ((s.port p).outstanding.length + 1) % 32 ∧
      t.sent = .dertur p endB (frameBytes (x.typ + (if endB then 64 else 0)) x.mon (g + 16 * (x.attempt % 4)) x.payload) :: s.sent) ∧
  (∀ (s : State) (p : Fin 8) (bytes : List Byte) (rt : Nat) (tc : Tc), exec (.responseReceive p bytes true rt tc) s = .next (s.bump (F.DLK_P_CNT_LINE_LINE p))) ∧
  (∀ (s : State) (p : Fin 8) (bytes : List Byte) (rt : Nat) (tc : Tc), bytes.length = leAt bytes 3 1 + 6 → crc16 bytes ≠ 0 →
    exec (.responseReceive p bytes false rt tc) s = .next (s.bump (F.DLK_P_CNT_LINE_CRC p))) ∧
  (∀ (s : State) (p : Fin 8) (bytes : List Byte) (rt : Nat) (tc : Tc), bytes.length = leAt bytes 3 1 + 6 → crc16 bytes = 0 → (leAt bytes 0 1).testBit 4 = true →
    s.txnOf p (leAt bytes 2 1 % 16) = none → exec (.responseReceive p bytes false rt tc) s = .next (s.bump (F.DLK_P_CNT_FAIL_LATE p))) ∧
  (∀ (s : State) (p : Fin 8) (bytes : List Byte) (rt : Nat) (tc : Tc) (x : Txn), s.ports.length = 8 → bytes.length = leAt bytes 3 1 + 6 → crc16 bytes = 0 →
    (leAt bytes 0 1).testBit 4 = true → s.txnOf p (leAt bytes 2 1 % 16) = some x → x.waits = false → x.attempt % 4 = leAt bytes 2 1 / 16 % 4 →
    ∃ t, exec (.responseReceive p bytes false rt tc) s = .next t ∧ t.txnOf p (leAt bytes 2 1 % 16) = none) ∧
  (∀ (s : State) (p : Fin 8) (g : Fin 16) (x : Txn), s.ports.length = 8 → s.txnOf p g = some x →
    ∃ t, exec (.noTarget p g) s = .next t ∧ t.txnOf p g = none ∧
      t.fld (F.DLK_P_CNT_FAIL_FAILED p) = (s.fld (F.DLK_P_CNT_FAIL_FAILED p) + 1) % 2 ^ 16) ∧
  (∀ (s : State) (p : Fin 8) (g : Fin 16) (tc : Tc) (x : Txn), s.txnOf p g = some x → x.waits = true ∨ tcQuarter tc < x.respEnd + 4000 * s.fld (F.DLK_P_CFG_MARGIN p) →
    exec (.transactionTimeout p g tc) s = .next s) ∧
  (∀ (s : State) (p : Fin 8) (g : Fin 16) (tc : Tc) (x y : Txn) (b : Bool), s.ports.length = 8 → s.portState p = portSplit ∨ s.portState p = portRing ∧ (s.port p).consecutive < 2 →
    s.txnOf p g = some x → x.waits = false → x.respEnd + 4000 * s.fld (F.DLK_P_CFG_MARGIN p) ≤ tcQuarter tc → x.retries < s.fld (F.DLK_P_CFG_RETRY p) →
    s.txnEnd p x = some b → y = s.timed p { x with attempt := x.attempt + 1, retries := x.retries + 1, endB := b } (tcQuarter tc) →
    ∃ t, exec (.transactionTimeout p g tc) s = .next t ∧ t.fld (F.DLK_P_CNT_TXN_TIMEOUT p) = (s.fld (F.DLK_P_CNT_TXN_TIMEOUT p) + 1) % 2 ^ 16 ∧
      t.fld (F.DLK_P_CNT_TXN_RETRY p) = (s.fld (F.DLK_P_CNT_TXN_RETRY p) + 1) % 2 ^ 16 ∧
      ((s.port p).freeAt b (tcQuarter tc) = tcQuarter tc ∧ fits (s.port p) y = true → (s.port p).idle = true →
        t.txnOf p g = some y ∧ t.sent = .dertur p b (frameBytes (x.typ + (if b then 64 else 0)) x.mon (x.tag + 16 * ((x.attempt + 1) % 4)) x.payload) :: s.sent) ∧
      ((s.port p).freeAt b (tcQuarter tc) ≠ tcQuarter tc ∨ fits (s.port p) y = false → (∃ z, t.txnOf p g = some z ∧ z.waits = true) ∧ t.sent = s.sent)) ∧
  (∀ (s : State) (p : Fin 8) (g : Fin 16) (tc : Tc) (x : Txn), s.portState p = portRing → 2 ≤ (s.port p).consecutive → s.txnOf p g = some x →
    x.waits = false → x.respEnd + 4000 * s.fld (F.DLK_P_CFG_MARGIN p) ≤ tcQuarter tc → ∃ t, exec (.transactionTimeout p g tc) s = .next t ∧ t.portState p = portLocate) ∧
  (∀ (s : State) (p : Fin 8) (g : Fin 16) (tc : Tc) (x : Txn), s.ports.length = 8 → s.txnOf p g = some x → x.waits = false →
    x.respEnd + 4000 * s.fld (F.DLK_P_CFG_MARGIN p) ≤ tcQuarter tc → s.fld (F.DLK_P_CFG_RETRY p) ≤ x.retries →
    ∃ t, exec (.transactionTimeout p g tc) s = .next t ∧ t.txnOf p g = none ∧
      t.fld (F.DLK_P_CNT_FAIL_FAILED p) = (s.fld (F.DLK_P_CNT_FAIL_FAILED p) + 1) % 2 ^ 16)

/-- The notice of an aperture is given at the tick at which its predicted instant lies 16 µs ahead, or at once where a change on the tick has brought it nearer, and not before; it fixes the aperture 16 µs later and latches the effective lead. The broadcast, that lead before the aperture, begins the sweep of the next epoch with that aperture as its instant. A pause marker is noted with its instant and changes no object. The deadline, SWP_DEADLINE after the aperture and not before, closes assembly and keeps for each monitor whether its block was missed. Publication of a closed sweep makes the assembled snapshot the latest, with the sweep's epoch and instant; the latest becomes the previous one. (R29, R30, R31, R32, R120, R159, R160, R165, R166, R174) -/
def Obligations.SweepSequence : Prop :=
  (∀ (s : State) (k : Fin 64) (tc : Tc) (pos : Nat), s.phbOn = true → s.flag F.PHB_STAT_SCHED_RUN = true → s.phb.accTc ≤ tc → s.fld (F.PHB_SCHED_A_ACTION k) = 4 →
    s.unnoticed k tc = some pos →
    (s.ticksTo pos tc = 4000 ∨ s.ticksTo pos tc < 4000 ∧ s.phb.moveTc = some tc →
      ∃ t, exec (.apertureNotice k tc) s = .next t ∧ (tc + 4000, t.fld F.SWP_LEAD_EFF_LEAD) ∈ t.phb.noticed ∧ (s.blockDormant 0x12 = false → tc + 4000 ∈ t.afe.aperture) ∧
        (s.flag F.SWP_CTRL_EN = true → t.fld F.SWP_LEAD_EFF_LEAD = s.effectiveLead)) ∧
    (4000 < s.ticksTo pos tc → exec (.apertureNotice k tc) s = .next s)) ∧
  (∀ (s : State) (tc hold : Tc) (lead : Nat), s.phbOn = true → s.phb.noticed.find? (fun x => x.1 == tc + BitVec.ofNat 64 x.2) = some (hold, lead) → s.flag F.SWP_CTRL_EN = true →
    ∃ t w, exec (.apertureBroadcast tc) s = .next t ∧ hold = tc + BitVec.ofNat 64 lead ∧ t.phb.noticed = s.phb.noticed.filter (fun x => x.1 != hold) ∧ t.swp.sweep = some w ∧
      w.epoch = (if s.rd 0x10004 = 0xFFFFFFFF#32 then 1 else s.rd 0x10004 + 1) ∧ w.tc = hold ∧ w.closed = false ∧
      t.assembling = { Snapshot.empty with epoch := w.epoch, tc := hold } ∧ t.fld F.SWP_STAT_BUSY = 1) ∧
  (∀ (s : State) (k : Fin 64) (tc : Tc), s.fires k 3 tc = true → s.flag F.SWP_CTRL_EN = true →
    ∃ t, exec (.balPause k tc) s = .next t ∧ t.swp = { s.swp with pauses := tc :: s.swp.pauses.filter (fun x => decide (s.latest.tc < x)) } ∧ t.objs = s.objs) ∧
  (∀ (s : State) (tc : Tc) (w : Sweep), s.swp.sweep = some w → s.swp.Sized →
    (w.tc.toNat + 250 * s.fld F.SWP_DEADLINE_US ≤ tc.toNat →
      ∃ t, exec (.sweepDeadline tc) s = .next t ∧ t.swp.sweep = some { w with closed := true } ∧ t.objs = s.objs ∧
        ∀ p m, p < 8 → m < s.monCount p → m < 32 → (t.mon p m).missed = !(w.read.getD p 0).getLsbD m) ∧
    (tc.toNat < w.tc.toNat + 250 * s.fld F.SWP_DEADLINE_US → exec (.sweepDeadline tc) s = .next s)) ∧
  (∀ (s : State) (tc : Tc) (w : Sweep), s.swp.sweep = some w → w.closed = true →
    ∃ t, exec (.snapshotPublication tc) s = .next t ∧ t.previous = s.latest ∧ t.latest.epoch = w.epoch ∧ t.latest.tc = w.tc ∧ t.latest.phase = w.phase ∧
      t.latest.aligned = w.aligned ∧ t.assembling = Snapshot.empty ∧ t.swp.sweep = none ∧ t.rd 0x10004 = w.epoch)

/-- A hold of the current channels keeps the eight codes with the instant of the round, the settings and the channels that a change of gain has tagged; the round at a noticed aperture, in its place among the firings of the tick, restarts the grid and takes the aperture; a round less than 8.5 µs before one is not taken. When the round is converted, every channel's live value is the current of its code, or the substitute where the sample is invalid: AFE disabled, a code at its limit, a gain change, a reference fault or no sensor. (R419, R420, R421, R422, R423, R434) -/
def Obligations.CurrentRounds : Prop :=
  (∀ (s : State) (codes : List (BitVec 16)) (tc : Tc), s.blockDormant 0x12 = false → (∀ a ∈ s.afe.aperture, a ≠ tc ∧ 2125 ≤ (a - tc).toNat) →
    ∃ t r, exec (.currentRoundHold codes tc) s = .next t ∧ t.afe.round = some r ∧ r.codes = codes ∧ r.tc = tc ∧ r.aperture = false ∧
      r.enabled = s.flag F.AFE_CTRL_EN ∧ r.settings = s.afeSettings ∧ (∀ n, r.tagged.getD n false = decide (0 < (s.chan n).gainTag)) ∧
      (∀ n, (t.chan n).gainTag = (s.chan n).gainTag - 1) ∧ t.objs = s.objs) ∧
  (∀ (s : State) (codes : List (BitVec 16)) (tc : Tc), s.blockDormant 0x12 = false → tc ∉ s.afe.aperture → (∃ a ∈ s.afe.aperture, (a - tc).toNat < 2125) →
    ∃ t, exec (.currentRoundHold codes tc) s = .next t ∧ t.afe.round = s.afe.round) ∧
  (∀ (s : State) (codes : List (BitVec 16)) (tc : Tc), s.blockDormant 0x12 = false → tc ∈ s.afe.aperture → s.turn tc = some apertureKey →
    ∃ t r, exec (.currentRoundHold codes tc) s = .next t ∧ t.afe.round = some r ∧ r.codes = codes ∧ r.tc = tc ∧ r.aperture = true ∧
      t.afe.gridBase = tc ∧ t.afe.aperture = s.afe.aperture.filter (fun a => a != tc) ∧ t.fld F.AFE_STAT_LP_ACT = s.fld F.AFE_CTRL_LP) ∧
  (∀ (s : State) (tc : Tc) (r : AfeRound), s.afe.round = some r →
    ∃ t, exec (.roundConversionDone tc) s = .next t ∧ t.afe.round = none ∧ ∀ n, n < 8 →
      t.fld (F.AFE_S_LIVE_VALUE n) = code 32
        (if !r.enabled || (r.codes.getD n 0).toInt == -32768 || (r.codes.getD n 0).toInt == 32767 || r.tagged.getD n false ||
            s.flag F.AFE_STAT_REF_FAULT || s.flag F.AFE_STAT_TRIM_BAD || s.senseType n == 0
          then (if s.senseHold n then (s.chan n).lastValid else 0) else s.currentOf n (r.fld n (F.AFE_S_CFG_GAIN n)) (r.codes.getD n 0).toInt))

/-- A trigger firing, or a write of the software trigger, makes its groups due; a group already due raises MERGED and changes nothing else of the converter but the tick of the trigger; a second firing of the group on the same tick changes nothing of it. With the converter idle and nothing else due, a mains slot starts the conversion of the mains input and housekeeping its first input; a busy converter keeps them due. The end of a mains conversion shows amplitude and lock; a discarded conversion is made again. (R118, R426, R427, R429, R431) -/
def Obligations.ConverterB : Prop :=
  (∀ (s : State) (k : Fin 64) (tc : Tc), s.fires k 5 tc = true → s.afeOn = true →
    s.afe.groupsDue.getLsbD (s.fld (F.PHB_SCHED_A_TARGET k)) = true → s.afe.trigTc.getD (s.fld (F.PHB_SCHED_A_TARGET k)) none ≠ some tc →
    ∃ t, exec (.adcTrigger k tc) s = .next t ∧ t.afe = { s.afe with trigTc := setAt s.afe.trigTc (s.fld (F.PHB_SCHED_A_TARGET k)) (some tc) } ∧ Raised Ev.AFE_MERGED s t) ∧
  (∀ (s : State) (k : Fin 64) (tc : Tc), s.fires k 5 tc = true → s.afe.trigTc.getD (s.fld (F.PHB_SCHED_A_TARGET k)) none = some tc →
    exec (.adcTrigger k tc) s = .next (s.acted (320 + k) tc)) ∧
  (∀ (s : State) (k : Fin 64) (tc : Tc) (c : AfeWork × Nat × Bool), s.fires k 5 tc = true → s.afeOn = true →
    s.afe.conv = some c → s.afe.groupsDue.getLsbD (s.fld (F.PHB_SCHED_A_TARGET k)) = false →
    s.afe.trigTc.getD (s.fld (F.PHB_SCHED_A_TARGET k)) none ≠ some tc →
    exec (.adcTrigger k tc) s = .next { s.acted (320 + k) tc with afe := { s.afe with
      trigTc := setAt s.afe.trigTc (s.fld (F.PHB_SCHED_A_TARGET k)) (some tc)
      groupsDue := s.afe.groupsDue ||| BitVec.ofNat 8 (2 ^ s.fld (F.PHB_SCHED_A_TARGET k)) } }) ∧
  (∀ (s : State) (v : Word) (c : AfeWork × Nat × Bool), s.afeOn = true → s.afe.conv = some c →
    ∃ t, exec (.afeSwTrig v) s = .next t ∧ t.afe.groupsDue = s.afe.groupsDue ||| v.extractLsb' 0 8 ∧
      t.afe = { s.afe with groupsDue := t.afe.groupsDue, trigTc := t.afe.trigTc }) ∧
  (∀ s : State, s.flag F.AFE_MAINS_EN = true → s.afeOn = true → s.afe.conv = none →
    ∃ t, exec .mainsSlot s = .next t ∧ t.afe.conv = some (.mains, 10, s.afe.lastInput != 10) ∧ t.fld F.AFE_STAT_B_BUSY = 1) ∧
  (∀ (s : State) (c : AfeWork × Nat × Bool), s.afeOn = true → s.afe.conv = some c →
    exec .afeHousekeeping s = .next { s with afe := { s.afe with hkDue := true } }) ∧
  (∀ s : State, s.afeOn = true → s.afe.conv = none → s.afe.mainsDue = false → s.afe.groupSeq = none → s.afe.groupsDue = 0 → s.afe.hkSeq = none →
    ∃ t, exec .afeHousekeeping s = .next t ∧ t.afe.conv = some (.housekeeping, 16, s.afe.lastInput != 16) ∧ t.afe.hkDue = false ∧ t.fld F.AFE_STAT_B_BUSY = 1) ∧
  (∀ (s : State) (r : AfeResult) (i : Nat), s.afe.conv = some (.mains, i, false) →
    ∃ t, exec (.conversionBDone r) s = .next t ∧ t.fld F.AFE_MAINS_AMP = r.amp.toNat ∧ (t.flag F.AFE_MAINS_LOCK = true ↔ r.lock = true ∧ 1000 ≤ r.amp.toNat) ∧
      t.afe.mainsDue = false) ∧
  (∀ (s : State) (r : AfeResult), s.afe.conv = some (.mains, 10, true) → s.afe.mainsDue = true → s.afeOn = true →
    ∃ t, exec (.conversionBDone r) s = .next t ∧ t.afe.conv = some (.mains, 10, false) ∧ t.fld F.AFE_MAINS_AMP = s.fld F.AFE_MAINS_AMP)

/-- A burst whose reachable monitors have all been read, or that was not read within 250 ms of its freeze, goes to the estimation engine, and the port's buffers are armed again with BURST_DONE; a timeout also raises BURST_LOST. The oldest burst of a port leaves the queue when it is evaluated; with STEP_EN 0 nothing else changes. The pass whose turn it is writes the sweep's epoch to its cell. A cell restored without a valid copy has the default capacity, no learning and a pending SOC. (R184, R193, R211, R222, R226) -/
def Obligations.BurstsAndCells : Prop :=
  (∀ (s : State) (p : Fin 8) (e : Word), s.ports.length = 8 → (s.port p).burstEpoch = some e →
    (s.port p).burstRead &&& ((s.port p).addressed &&& ((s.port p).reachA ||| (s.port p).reachB)) = (s.port p).addressed &&& ((s.port p).reachA ||| (s.port p).reachB) →
    ∃ t b, exec (.burstReadComplete p) s = .next t ∧ t.est.bursts = s.est.bursts ++ [b] ∧ b.port = p.val ∧ b.epoch = e ∧ b.data = (s.port p).burstData ∧
      (t.port p).burstEpoch = none ∧ Raised Ev.SWP_BURST_DONE s t) ∧
  (∀ (s : State) (p : Fin 8) (e : Word) (tc : Tc), s.ports.length = 8 → (s.port p).burstEpoch = some e → (s.port p).burstTc.toNat + 62500000 ≤ tc.toNat →
    ∃ t b, exec (.burstReadTimeout ⟨p, tc⟩) s = .next t ∧ t.est.bursts = s.est.bursts ++ [b] ∧ b.port = p.val ∧ b.epoch = e ∧ b.read = (s.port p).burstRead ∧
      (t.port p).burstEpoch = none ∧ Raised Ev.SWP_BURST_DONE s t ∧ Raised Ev.SWP_BURST_LOST s t) ∧
  (∀ (s : State) (p : Fin 8) (tc : Tc), tc.toNat < (s.port p).burstTc.toNat + 62500000 → exec (.burstReadTimeout ⟨p, tc⟩) s = .next s) ∧
  (∀ (s : State) (p : Fin 8) (b : Burst), s.est.bursts.find? (fun b => b.port == p.val) = some b → s.flag F.EST_LEARN_CFG_STEP_EN = false →
    exec (.burstEvaluation p) s = .next { s with est := { s.est with bursts := s.est.bursts.erase b } }) ∧
  (∀ (s : State) (p : Fin 8) (b : Burst), s.est.bursts.find? (fun b => b.port == p.val) = some b → s.flag F.EST_LEARN_CFG_STEP_EN = true → s.estRuns = true →
    b.aligned = false → ∃ t, exec (.burstEvaluation p) s = .next t ∧ t.est.bursts = s.est.bursts.erase b ∧ t.fld (F.EST_STEP_LAST p) = 5) ∧
  (∀ (s : State) (g : Fin 4096) (tc : Tc) (w : Sweep), s.swp.sweep = some w → s.nextPass w = some g.val →
    ∃ t, exec (.cellPass g tc) s = .next t ∧ t.cell g C.EPOCH = w.epoch.toNat) ∧
  (∀ (s : State) (g : Fin 4096), s.cellDeclared (strOf g) (monOf g) (celOf g) = true → s.est.restored.get g = 0 →
    s.portState (strOf g) = portRing ∨ s.portState (strOf g) = portSplit ∨ s.portState (strOf g) = portFault → s.newestCopy = none →
    ∃ t, exec (.cellRestore g) s = .next t ∧ t.est.restored.get g = 1 ∧ t.cell g C.Q_LEARN = s.capacity (strOf g) % 2 ^ 32 ∧ t.cell g C.LEARN_CNT = 0 ∧
      t.socSrc g = 3 ∧ t.stat g stCapDefault = true ∧ t.stat g stRetLost = s.stat g stRetLost)

/-- A relearn of a cell, of its monitor or of its string gives each declared cell of that scope the default capacity, no learning count and no segment. A write-back request, and the timer 10 minutes after the last one, start a write-back with their cause in the older copy, which is invalid from then on; while one is in progress, or no lane holds the Lid, the cause waits. A completed write-back leaves its bytes in its copy, valid, when the read-back held, and else no bytes. (R228, R229, R230, R231, R232) -/
def Obligations.RelearnAndWriteBack : Prop :=
  (∀ (s : State) (g : Fin 4096), s.blockDormant 6 = false → s.stat g stDeclared = true →
    ∃ t, exec (.relearnCell g) s = .next t ∧ t.cell g C.Q_LEARN = s.capacity (strOf g) % 2 ^ 32 ∧ t.cell g C.LEARN_CNT = 0 ∧ t.cell g C.SEG_STATE = 0 ∧
      t.stat g stCapLearned = false ∧ t.stat g stCapDefault = true) ∧
  (∀ (s : State) (g : Fin 4096) (c : Nat), s.blockDormant 6 = false → c < 16 → s.stat (g / 16 * 16 + c) stDeclared = true →
    ∃ t, exec (.relearnMonitor g) s = .next t ∧ t.cell (g / 16 * 16 + c) C.Q_LEARN = s.capacity (strOf (g / 16 * 16 + c)) % 2 ^ 32 ∧
      t.cell (g / 16 * 16 + c) C.LEARN_CNT = 0) ∧
  (∀ (s : State) (g : Fin 4096) (c : Nat), s.blockDormant 6 = false → c < 512 → s.stat (g / 512 * 512 + c) stDeclared = true →
    ∃ t, exec (.relearnString g) s = .next t ∧ t.cell (g / 512 * 512 + c) C.Q_LEARN = s.capacity (strOf (g / 512 * 512 + c)) % 2 ^ 32 ∧
      t.cell (g / 512 * 512 + c) C.LEARN_CNT = 0) ∧
  (∀ (s : State) (tc : Tc), s.blockDormant 6 = false → s.est.wb = none → s.lidHeld = true →
    ∃ t w, exec (.wbWrite tc) s = .next t ∧ t.est.wb = some w ∧ w.cause = 5 ∧ t.est.lastWb = tc ∧ t.fld F.EST_STAT_WB_BUSY = 1 ∧ t.fld F.EST_WB_STAT_CAUSE = 5 ∧
      (w.target = 0 → t.fld F.EST_WB_STAT_A_VALID = 0 ∧ t.est.copyA = []) ∧ (w.target = 1 → t.fld F.EST_WB_STAT_B_VALID = 0 ∧ t.est.copyB = [])) ∧
  (∀ (s : State) (tc : Tc), s.blockDormant 6 = false → s.est.wb.isSome = true ∨ s.lidHeld = false → s.est.held = [] →
    exec (.wbWrite tc) s = .next { s with est := { s.est with held := [5] } }) ∧
  (∀ (s : State) (tc : Tc), s.blockDormant 6 = false → s.est.wb = none → s.lidHeld = true → 10 * minuteTicks ≤ (tc - s.est.lastWb).toNat →
    ∃ t w, exec (.writeBackTimer tc) s = .next t ∧ t.est.wb = some w ∧ w.cause = 2 ∧ t.est.lastWb = tc ∧ t.fld F.EST_STAT_WB_BUSY = 1) ∧
  (∀ (s : State) (tc : Tc) (good : Bool) (w : WriteBack), s.est.wb = some w → s.est.held = [] →
    ∃ t, exec (.writeBackComplete good tc) s = .next t ∧ t.est.wb = none ∧ t.est.copyA = (if w.target = 0 then (if good then w.bytes else []) else s.est.copyA) ∧
      t.est.copyB = (if w.target = 0 then s.est.copyB else if good then w.bytes else []) ∧
      (t.flag (if w.target = 0 then F.EST_WB_STAT_A_VALID else F.EST_WB_STAT_B_VALID) = true ↔ good = true) ∧ t.fld F.EST_STAT_WB_BUSY = 0) ∧
  (∀ (s : State) (tc : Tc) (good : Bool) (w : WriteBack) (c : Nat) (rest : List Nat), s.est.wb = some w → s.est.held = c :: rest → s.lidHeld = true ∨ c = 4 →
    ∃ t v, exec (.writeBackComplete good tc) s = .next t ∧ t.est.wb = some v ∧ v.cause = c ∧ t.est.held = rest)

/-- On an armed island an input beyond a direct level sets the direct latch of its declared string with its instant, removes the enable of its own channel and puts the breaker pair to open drive; one within the levels changes nothing. A latch clears at an inactive clock not before 40 ns. A filtered path that is active for its filter length sets its input, and not before; an inactive clock clears it and restarts the count. Channels that differ are noted with the instant; after 100 clocks, 250 ticks, that is an island fault, which opens every pair and keeps its instant; a shorter difference sets DISC as it ends. 5 ms after the fault every used coil is off. The removal loop opens every pair and sets REMOVE. (R234, R235, R237, R238, R239, R240, R245, R269) -/
def Obligations.IslandPathsAndFault : Prop :=
  (∀ (s : State) (n : Fin 8) (i : BitVec 12) (tc : Tc), s.prt.Sized → s.armed = true → s.declared n = true → s.directActive n .sc i = true →
    ∃ t, exec (.scOcCrossing n .sc ⟨i, tc⟩) s = .next t ∧ (t.isl n).sc = some tc ∧ (t.isl n).oc = (s.isl n).oc ∧ t.prt.ch1.brk.getLsbD n = false ∧
      t.fld (F.BRK_S_STAT_PAIR n) = pairOpen) ∧
  (∀ (s : State) (n : Fin 8) (i : BitVec 12) (tc : Tc), s.prt.Sized → s.armed = true → s.declared n = true → s.directActive n .oc i = true →
    ∃ t, exec (.scOcCrossing n .oc ⟨i, tc⟩) s = .next t ∧ (t.isl n).oc = some tc ∧ (t.isl n).sc = (s.isl n).sc ∧ t.prt.ch2.brk.getLsbD n = false ∧
      t.fld (F.BRK_S_STAT_PAIR n) = pairOpen) ∧
  (∀ (s : State) (n : Fin 8) (path : DirectPath) (i : BitVec 12) (tc : Tc), s.directActive n path i = false → exec (.scOcCrossing n path ⟨i, tc⟩) s = .next s) ∧
  (∀ (s : State) (n : Fin 8) (tc t0 : Tc), s.prt.Sized → (s.isl n).sc = some t0 → passed tc t0 10 = true →
    ∃ t, exec (.directLatchClear n .sc tc) s = .next t ∧ (t.isl n).sc = none ∧ (t.isl n).oc = (s.isl n).oc) ∧
  (∀ (s : State) (n : Fin 8) (tc t0 : Tc), s.prt.Sized → (s.isl n).oc = some t0 → passed tc t0 10 = true →
    ∃ t, exec (.directLatchClear n .oc tc) s = .next t ∧ (t.isl n).oc = none ∧ (t.isl n).sc = (s.isl n).sc) ∧
  (∀ (s : State) (n : Fin 8) (i : BitVec 12) (tc : Tc), s.prt.Sized → s.armed = true → s.declared n = true → s.filteredActive n .foc i = true →
    s.fld (F.PRT_S_DIDT_FOC_FILT n) ≤ 2 * (tc - (s.isl n).focTc).toNat / 5 →
    ∃ t, exec (.filteredPathExpiry n .foc ⟨i, tc⟩) s = .next t ∧ (t.isl n).foc = true ∧ (t.isl n).didt = (s.isl n).didt) ∧
  (∀ (s : State) (n : Fin 8) (i : BitVec 12) (tc : Tc), s.prt.Sized → s.armed = true → s.declared n = true → s.filteredActive n .didt i = true →
    s.fld (F.PRT_S_DIDT_DIDT_FILT n) ≤ 2 * (tc - (s.isl n).didtTc).toNat / 5 →
    ∃ t, exec (.filteredPathExpiry n .didt ⟨i, tc⟩) s = .next t ∧ (t.isl n).didt = true ∧ (t.isl n).foc = (s.isl n).foc) ∧
  (∀ (s : State) (n : Fin 8) (path : FilteredPath) (i : BitVec 12) (tc : Tc), s.filteredActive n path i = false ∨ s.filterCount n path tc < s.filterLen n path →
    exec (.filteredPathExpiry n path ⟨i, tc⟩) s = .next s) ∧
  (∀ (s : State) (n : Fin 8) (tc : Tc), s.prt.Sized → s.armed = true → s.declared n = true →
    ∃ t u, exec (.filteredPathInactive n .foc tc) s = .next t ∧ exec (.filteredPathInactive n .didt tc) s = .next u ∧
      (t.isl n).foc = false ∧ (t.isl n).focTc = tc ∧ (t.isl n).didt = (s.isl n).didt ∧ (u.isl n).didt = false ∧ (u.isl n).didtTc = tc ∧ (u.isl n).foc = (s.isl n).foc) ∧
  (∀ (s : State) (skew : BitVec 64) (tc : Tc), skew ≠ 0 → s.prt.diffTc = none →
    ∃ t, exec (.islandFault ⟨skew, tc⟩) s = .next t ∧ t.prt.skew = skew ∧ t.prt.diffTc = some tc ∧ t.flag F.PRT_STAT_ISL_FAULT = s.flag F.PRT_STAT_ISL_FAULT) ∧
  (∀ (s : State) (skew : BitVec 64) (tc t0 : Tc), s.prt.diffTc = some t0 → passed tc t0 250 = true → s.flag F.PRT_STAT_ISL_FAULT = false →
    ∃ t, exec (.islandFault ⟨skew, tc⟩) s = .next t ∧ t.fld F.PRT_STAT_ISL_FAULT = 1 ∧ t.prt.faultTc = tc ∧
      ∀ n, n < 8 → s.armed = true → t.fld (F.BRK_S_STAT_PAIR n) = pairOpen) ∧
  (∀ (s : State) (tc t0 : Tc), s.armed = true → s.prt.ch1.latch = s.prt.ch2.latch → s.prt.diffTc = some t0 → passed tc t0 250 = false →
    ∃ t, exec (.islandFault ⟨0, tc⟩) s = .next t ∧ t.prt.diffTc = none ∧ t.flag F.PRT_STAT_ISL_FAULT = s.flag F.PRT_STAT_ISL_FAULT ∧ Raised Ev.PRT_DISC s t) ∧
  (∀ (s : State) (tc : Tc), s.flag F.PRT_STAT_ISL_FAULT = true → passed tc s.prt.faultTc 1250000 = true →
    ∃ t, exec (.islandFaultCoilTimeout tc) s = .next t ∧ ∀ k, k < 28 → s.conUsed k = true → t.flag (F.BRK_CON_ENERGISED k) = false) ∧
  (∀ (s : State) (tc : Tc), ∃ t, exec (.removalLoopOpen tc) s = .next t ∧ t.fld F.PRT_STAT_REMOVE = 1 ∧
      ∀ n, n < 8 → s.armed = true → t.fld (F.BRK_S_STAT_PAIR n) = pairOpen)

/-- A change of the filtered breaker status of a declared string is shown in BST; outside its expected interval it is fault 3. A change of BFLT is shown, and its rise is fault 4. A breaker that still reads closed T_BRK_OPEN after open drive is fault 1; one that still reads open T_BRK_CLOSE after close drive is fault 2, and its pair returns to open drive. (R245, R248, R251, R252) -/
def Obligations.BreakerStatusAndFaults : Prop :=
  (∀ (s : State) (n : Fin 8) (closed : Bool) (tc : Tc), s.flag (F.BRK_S_STAT_BST n) ≠ closed → s.declared n = true →
    ∃ t, exec (.breakerStatusChange n closed tc) s = .next t ∧ t.flag (F.BRK_S_STAT_BST n) = closed ∧
      (s.bstExpected n tc = false → t.fld (F.BRK_S_STAT_FAULT n) = 3)) ∧
  (∀ (s : State) (n : Fin 8) (tc : Tc), s.declared n = true →
    ∃ t u, exec (.bfltChange n true tc) s = .next t ∧ exec (.bfltChange n false tc) s = .next u ∧ t.flag (F.BRK_S_STAT_BFLT n) = true ∧
      (s.flag (F.BRK_S_STAT_BFLT n) = false → t.fld (F.BRK_S_STAT_FAULT n) = 4) ∧ u.flag (F.BRK_S_STAT_BFLT n) = false ∧
      u.fld (F.BRK_S_STAT_FAULT n) = s.fld (F.BRK_S_STAT_FAULT n)) ∧
  (∀ (s : State) (n : Fin 8) (tc : Tc), s.fld (F.BRK_S_STAT_PAIR n) = pairOpen → passed tc (s.isl n).pairSince (s.tBrkOpen n) = true →
    s.flag (F.BRK_S_STAT_BST n) = true → ∃ t, exec (.brkOpenTimer n tc) s = .next t ∧ t.fld (F.BRK_S_STAT_FAULT n) = 1) ∧
  (∀ (s : State) (n : Fin 8) (tc : Tc), s.armed = true → s.fld (F.BRK_S_STAT_PAIR n) = pairClose → passed tc (s.isl n).pairSince (s.tBrkClose n) = true →
    s.flag (F.BRK_S_STAT_BST n) = false →
    ∃ t, exec (.brkCloseTimer n tc) s = .next t ∧ t.fld (F.BRK_S_STAT_FAULT n) = 2 ∧ t.fld (F.BRK_S_STAT_PAIR n) = pairOpen)

/-- CLOSE, RESET, and MATCH where the firmware's voltage check does not forbid it, join the end of the string's queue of four with their origin; OPEN is noted with its origin for the next tick. A full queue refuses with 13, an island fault or REMOVE refuses everything with 12, and BRK_REFUSE names the target, the code and one more refusal. (R257, R260, R263) -/
def Obligations.StringCommandsArrive : Prop :=
  (∀ (s : State) (n : Fin 8) (o : Origin), s.arrivalRefusal o = none → (s.isl n).queue.length < 4 →
    exec (.close n o) s = .next (s.setIsl n { s.isl n with queue := (s.isl n).queue ++ [(cmdClose, o)] }) ∧
    exec (.reset n o) s = .next (s.setIsl n { s.isl n with queue := (s.isl n).queue ++ [(cmdReset, o)] }) ∧
    (s.matchChecked n = false ∨ s.matchGood n = true →
      exec (.match n o) s = .next (s.setIsl n { s.isl n with queue := (s.isl n).queue ++ [(cmdMatch, o)] }))) ∧
  (∀ (s : State) (n : Fin 8) (o : Origin), s.arrivalRefusal o = none → exec (.open n o) s = .next (s.setIsl n { s.isl n with openDue := some o })) ∧
  (∀ (s : State) (n : Fin 8) (o : Origin), s.arrivalRefusal o = none → 4 ≤ (s.isl n).queue.length →
    ∃ t, exec (.close n o) s = .next t ∧ t.prt = s.prt ∧ t.fld F.BRK_REFUSE_CODE = 13 ∧ t.fld F.BRK_REFUSE_TARGET = n.val ∧
      t.fld F.BRK_REFUSE_CNT = (s.fld F.BRK_REFUSE_CNT + 1) % 2 ^ 16) ∧
  (∀ (s : State) (n : Fin 8) (o : Origin), s.islBlocked = true →
    ∃ t u, exec (.close n o) s = .next t ∧ exec (.open n o) s = .next u ∧ t.prt = s.prt ∧ u.prt = s.prt ∧ t.fld F.BRK_REFUSE_CODE = 12 ∧
      u.fld F.BRK_REFUSE_CODE = 12 ∧ t.fld F.BRK_REFUSE_TARGET = n.val ∧ t.fld F.BRK_REFUSE_CNT = (s.fld F.BRK_REFUSE_CNT + 1) % 2 ^ 16) ∧
  (∀ (s : State) (n : Fin 8) (o : Origin), s.matchChecked n = true → s.matchGood n = false →
    ∃ t, exec (.match n o) s = .next t ∧ t.prt = s.prt ∧ t.fld F.BRK_REFUSE_CODE = 11 ∧ t.fld F.BRK_REFUSE_TARGET = n.val)

/-- At a sequencer tick an OPEN noted for the only declared string takes it from CLOSED to OPENING with its pair to open drive and empties its queue; one whose lane has lost the Lid or its epoch by then is refused and moves nothing. On an island that is neither armed nor blocked, with no command waiting for an undeclared string, only the measured bus voltage is taken, and since when a rail ratio is low. The precharge timeout leads to OPENING with fault 8 and the pair open; the minimum precharge time sets PC_MIN; the drop timer leads from DROP to OPEN. (R257, R258, R263) -/
def Obligations.StringsMove : Prop :=
  (∀ (s : State) (n : Fin 8) (o : Origin) (tc : Tc), s.prt.Sized → s.armed = true → s.islBlocked = false → s.declared n = true →
    (∀ m, m < 8 → m ≠ n.val → s.declared m = false ∧ (s.isl m).queue = [] ∧ (s.isl m).openDue = none) →
    s.strState n = ssClosed → (s.isl n).openDue = some o → s.portRefusal o = none → (s.isl n).seen = false → s.strLatched n = false → (s.isl n).stateSince ≠ tc →
    ∃ t, exec (.sequencerTick none tc) s = .next t ∧ t.strState n = ssOpening ∧ t.fld (F.BRK_S_STAT_PAIR n) = pairOpen ∧ (t.isl n).openDue = none ∧
      (t.isl n).queue = [] ∧ (t.isl n).stateSince = tc) ∧
  (∀ (s : State) (n : Fin 8) (o : Origin) (tc : Tc) (r : Nat), s.prt.Sized → s.armed = true → s.islBlocked = false → s.declared n = true →
    (∀ m, m < 8 → m ≠ n.val → s.declared m = false ∧ (s.isl m).queue = [] ∧ (s.isl m).openDue = none) →
    s.strState n = ssClosed → (s.isl n).openDue = some o → s.portRefusal o = some r → (s.isl n).queue = [] → (s.isl n).seen = false → s.strLatched n = false →
    (s.isl n).stateSince ≠ tc →
    ∃ t, exec (.sequencerTick none tc) s = .next t ∧ t.strState n = ssClosed ∧ t.fld F.BRK_REFUSE_CODE = r % 256 ∧ t.fld F.BRK_REFUSE_TARGET = n.val) ∧
  (∀ (s : State) (r : Rails) (tc : Tc), s.armed = false → s.islBlocked = false →
    (∀ m, m < 8 → s.declared m = false → (s.isl m).queue = [] ∧ (s.isl m).openDue = none) →
    ∃ t, exec (.sequencerTick (some r) tc) s = .next t ∧ t.fld F.PRT_IMD_U_U = min 65535 (roundOpen ((r.vp + r.vn : Nat) : Int) 1000).toNat ∧
      t.prt.strs = s.prt.strs ∧ (t.prt.collapseFrom = none ↔ s.railLow r = false) ∧ (s.railLow r = true → s.prt.collapseFrom = none → t.prt.collapseFrom = some tc)) ∧
  (∀ (s : State) (n : Fin 8) (tc t0 : Tc), s.prt.Sized → s.armed = true → s.declared n = true → s.strState n = ssPrecharge → (s.isl n).preStart = some t0 →
    passed tc t0 (250000 * s.prtStr n 40 2) = true → (s.isl n).arose = false → (s.isl n).seen = false → s.strLatched n = false → (s.isl n).stateSince ≠ tc →
    ∃ t, exec (.prechargeTimeout n tc) s = .next t ∧ t.strState n = ssOpening ∧ t.fld (F.BRK_S_STAT_FAULT n) = 8 ∧ t.fld (F.BRK_S_STAT_PAIR n) = pairOpen ∧
      (t.isl n).pcTimeout = true) ∧
  (∀ (s : State) (n : Fin 8) (tc : Tc), s.strState n = ssPrecharge → s.pcMin n tc = true →
    exec (.prechargeMinReached n tc) s = .next (s.put (F.BRK_S_STAT_PC_MIN n) 1)) ∧
  (∀ (s : State) (n : Fin 8) (tc : Tc), s.prt.Sized → s.armed = true → s.declared n = true → s.strState n = ssDrop → (s.isl n).seen = false → s.strLatched n = false →
    (s.isl n).stateSince ≠ tc → passed tc (s.isl n).stateSince (s.longestOpen n) = true →
    ∃ t, exec (.dropTimer n tc) s = .next t ∧ t.strState n = ssOpen ∧ (t.isl n).stateSince = tc)

/-- T_CLOSE after energising a driver that is not verified closed has fault 5; T_OPEN after de-energising one not verified open has fault 6; 20 ms after energising too low a coil current is fault 7, as is a current limit that acts; a fault ends at once where it de-energises its driver and the driver is then verified open. A change of current and mirror is shown with VERIFIED, and a verified driver loses a fault of 5 to 7 that is present; the faults of the driver test stay. After the pull-in time ECONOMY is set; the coil supply is shown with COIL_LOW. (R254, R255, R256) -/
def Obligations.ContactorDrivers : Prop :=
  (∀ (s : State) (k : Fin 28) (tc : Tc), s.flag (F.BRK_CON_ENERGISED k) = true → passed tc (s.driverSince k) (s.tClose k) = true → s.verified k true = false →
    s.fld (F.BRK_CON_FAULT k) < 9 → ∃ t, exec (.contactorCloseTimer k tc) s = .next t ∧
      (t.fld (F.BRK_CON_FAULT k) = 5 ∨ t.fld (F.BRK_CON_FAULT k) = 0 ∧ t.flag (F.BRK_CON_ENERGISED k) = false ∧ s.verified k false = true)) ∧
  (∀ (s : State) (k : Fin 28) (tc : Tc), s.prt.Sized → s.conUsed k = true → s.flag (F.BRK_CON_ENERGISED k) = false → passed tc (s.driverSince k) (s.tOpen k) = true →
    s.verified k false = false → s.fld (F.BRK_CON_FAULT k) < 9 → ∃ t, exec (.contactorOpenTimer k tc) s = .next t ∧ t.fld (F.BRK_CON_FAULT k) = 6) ∧
  (∀ (s : State) (k : Fin 28) (tc : Tc), s.flag (F.BRK_CON_ENERGISED k) = true → passed tc (s.driverSince k) 5000000 = true → s.coilSuspended k tc = false →
    s.fld (F.BRK_CON_IMA k) < s.prtBank 14 2 → s.fld (F.BRK_CON_FAULT k) < 9 →
    ∃ t, exec (.coilCheckTimer k tc) s = .next t ∧
      (t.fld (F.BRK_CON_FAULT k) = 7 ∨ t.fld (F.BRK_CON_FAULT k) = 0 ∧ t.flag (F.BRK_CON_ENERGISED k) = false ∧ s.verified k false = true)) ∧
  (∀ (s : State) (k : Fin 28) (ma : BitVec 16) (tc : Tc), s.conUsed k = true → s.fld (F.BRK_CON_FAULT k) < 9 →
    ∃ t, exec (.coilFault k ma true tc) s = .next t ∧ t.fld (F.BRK_CON_IMA k) = ma.toNat ∧
      (t.fld (F.BRK_CON_FAULT k) = 7 ∨ t.fld (F.BRK_CON_FAULT k) = 0 ∧ t.flag (F.BRK_CON_ENERGISED k) = false ∧ t.verified k false = true)) ∧
  (∀ (s : State) (k : Fin 28) (tc : Tc), s.flag (F.BRK_CON_ENERGISED k) = true → passed tc (s.driverSince k) (250000 * s.prtDrv k 2 2) = true →
    exec (.pullInTimer k tc) s = .next (s.put (F.BRK_CON_ECONOMY k) 1)) ∧
  (∀ (s : State) (k : Fin 28) (ma : BitVec 16) (high : Bool) (tc : Tc), s.conUsed k = true →
    ∃ t, exec (.driverVerifyChange k ma high tc) s = .next t ∧ t.fld (F.BRK_CON_IMA k) = ma.toNat ∧
      (t.flag (F.BRK_CON_MIRROR k) = true ↔ high = (s.prtDrv k 0 1).testBit 2) ∧
      (s.prt.conFaults.getD k 0 ≠ 0 → s.fld (F.BRK_CON_FAULT k) < 9 → t.verified k (s.flag (F.BRK_CON_ENERGISED k)) = true → t.fld (F.BRK_CON_FAULT k) = 0) ∧
      (9 ≤ s.fld (F.BRK_CON_FAULT k) → t.fld (F.BRK_CON_FAULT k) = s.fld (F.BRK_CON_FAULT k))) ∧
  (∀ (s : State) (v : BitVec 16), ∃ t, exec (.coilSupplyMeasure v) s = .next t ∧ t.fld F.BRK_COIL_V = v.toNat ∧
      (t.flag F.BRK_COIL_LOW = true ↔ v.toNat < s.prtBank 12 2) ∧ ∀ a, a ≠ 0x80000 → t.rd a = s.rd a)

/-- AUX_ON energises a used, idle driver of an armed island that no output, test fault or low coil supply holds; AUX_OFF de-energises it. AUX_TRIP gives input 63 for one clock: an auxiliary output that masks it latches and its driver is off. AUX_RESET with no cause active, after the rest time and not on the latching clock, clears the latch; on a driver that is not used it has no effect. A release of lockout clears the count and, in LOCKOUT, is noted for the next tick. With an island fault each auxiliary command is refused with 12. (R244, R245, R246, R256, R257, R263, R264) -/
def Obligations.AuxiliaryDrivers : Prop :=
  (∀ (s : State) (a : Fin 4) (o : Origin) (tc : Tc), s.arrivalRefusal o = none → s.bit F.PRT_TWILL_OUT_Y (16 + a) = false → s.conUsed (24 + a) = true →
    s.flag F.BRK_COIL_LOW = false → s.armed = true → s.testHeld (24 + a) = false → s.onPulse (24 + a) = false → s.flag (F.BRK_CON_ENERGISED (24 + a)) = false →
    s.prt.Sized → ∃ t, exec (.auxOn a o tc) s = .next t ∧ t.flag (F.BRK_CON_ENERGISED (24 + a)) = true ∧ t.driverSince (24 + a) = tc) ∧
  (∀ (s : State) (a : Fin 4) (o : Origin) (tc : Tc), s.arrivalRefusal o = none → s.conUsed (24 + a) = true →
    ∃ t, exec (.auxOff a o tc) s = .next t ∧ t.flag (F.BRK_CON_ENERGISED (24 + a)) = false) ∧
  (∀ (s : State) (o : Origin) (tc : Tc) (a : Fin 4), s.arrivalRefusal o = none → s.armed = true → s.latchClass.getLsbD 63 = true →
    (s.outMask (16 + a)).getLsbD 63 = true → s.conUsed (24 + a) = true →
    ∃ t, exec (.auxTrip o tc) s = .next t ∧ t.prt.latch.getLsbD (16 + a) = true ∧ t.bit F.PRT_TWILL_OUT_Y (16 + a) = true ∧
      t.flag (F.BRK_CON_ENERGISED (24 + a)) = false) ∧
  (∀ (s : State) (a : Fin 4) (o : Origin) (tc : Tc), s.arrivalRefusal o = none → s.conUsed (24 + a) = false → exec (.auxReset a o tc) s = .next s) ∧
  (∀ (s : State) (a : Fin 4) (o : Origin) (tc : Tc), s.arrivalRefusal o = none → s.conUsed (24 + a) = true → s.prt.skew = 0 → s.causeActive (16 + a) = false →
    passed tc (s.prt.auxTc.getD a 0) (25000000 * s.prtBank 16 1) = true → s.prt.latchTc.getD (16 + a) 0 ≠ tc →
    ∃ t, exec (.auxReset a o tc) s = .next t ∧ t.prt.latch.getLsbD (16 + a) = false) ∧
  (∀ (s : State) (strs : BitVec 8) (o : Origin) (n : Fin 8), s.portRefusal o = none → s.prt.Sized → strs.getLsbD n = true → s.declared n = true →
    ∃ t, exec (.lockoutRelease strs o) s = .next t ∧ t.fld (F.PRT_S_CAP_STAT_LOCK_CNT n) = 0 ∧ (t.isl n).direct = [] ∧
      (t.isl n).release = (s.strState n == ssLockout)) ∧
  (∀ (s : State) (a : Fin 4) (o : Origin) (tc : Tc), s.islBlocked = true →
    ∃ t, exec (.auxOn a o tc) s = .next t ∧ exec (.auxOff a o tc) s = .next t ∧ exec (.auxReset a o tc) s = .next t ∧ exec (.auxTrip o tc) s = .next t ∧
      t.prt = s.prt ∧ t.fld F.BRK_REFUSE_CODE = 12 ∧ t.fld F.BRK_REFUSE_TARGET = 8)

/-- A due capture freezes: its 128 sample bytes are shown, the comparators' bits as given and the others as the island's state was, and HELD is set; arming again clears HELD and nothing else. An injector's phases end IMD_PHASE after they began and not before: P and N end in the next phase; phase O with drift makes a foreign source: the module becomes a listener without a result; a full cycle is counted, and where its determinant is positive gives R_p and R_n. A rail ratio that has been low for 1 s is a collapse, which is shown until the ratios are good again. (R262, R266, R267) -/
def Obligations.CaptureAndInsulation : Prop :=
  (∀ (s : State) (n : Fin 8) (l : List Byte), s.prt.Sized → (s.isl n).capDue = true → s.flag (F.PRT_S_CAP_STAT_HELD n) = false →
    ∃ t, exec (.captureFreeze n l) s = .next t ∧ (t.isl n).capDue = false ∧ t.flag (F.PRT_S_CAP_STAT_HELD n) = true ∧
      ∀ w, w < 32 → t.fld (F.PRT_CAP_SAMPLES n w) =
        leAt ((List.range 128).map fun i => BitVec.ofNat 8 ((l.getD i 0).toNat % 16 + 16 * ringAt (s.isl n).ring (s.isl n).capTc i)) (4 * w) 4) ∧
  (∀ (s : State) (n : Fin 8), exec (.captureRearm n) s = .next (s.put (F.PRT_S_CAP_STAT_HELD n) 0)) ∧
  (∀ (s : State) (x : ImdMeasure) (tc : Tc), s.fld F.PRT_IMD_STAT_ROLE = roleInjector → passed tc s.prt.imdTc (250000 * s.prtBank 2 2) = true → s.fld F.PRT_IMD_STAT_PHASE < 2 →
    ∃ t, exec (.imdPhaseEnd x tc) s = .next t ∧ t.fld F.PRT_IMD_STAT_PHASE = s.fld F.PRT_IMD_STAT_PHASE + 1 ∧ t.prt.imd.length = s.prt.imd.length + 1 ∧ t.prt.imdTc = tc) ∧
  (∀ (s : State) (x : ImdMeasure) (tc : Tc), passed tc s.prt.imdTc (250000 * s.prtBank 2 2) = false → exec (.imdPhaseEnd x tc) s = .next s) ∧
  (∀ (s : State) (x : ImdMeasure) (tc : Tc), s.fld F.PRT_IMD_STAT_ROLE = roleInjector → passed tc s.prt.imdTc (250000 * s.prtBank 2 2) = true → 2 ≤ s.fld F.PRT_IMD_STAT_PHASE →
    100 * s.prtBank 10 1 < x.drift →
    ∃ t, exec (.imdPhaseEnd x tc) s = .next t ∧ t.fld F.PRT_IMD_STAT_ROLE = roleListener ∧ t.fld F.PRT_IMD_STAT_FOREIGN = 1 ∧ t.fld F.PRT_IMD_STAT_RESULT = 0 ∧
      t.fld F.PRT_IMD_STAT_PHASE = 3) ∧
  (∀ (s : State) (x : ImdMeasure) (tc : Tc) (p n : ImdPhase), s.fld F.PRT_IMD_STAT_ROLE = roleInjector → passed tc s.prt.imdTc (250000 * s.prtBank 2 2) = true →
    2 ≤ s.fld F.PRT_IMD_STAT_PHASE → x.drift ≤ 100 * s.prtBank 10 1 → s.prt.imd = [p, n] → 1000 * s.prtBank 8 2 ≤ x.low.vp + x.low.vn → p.low = false → n.low = false →
    p.drift = false → n.drift = false → p.vp * n.vn < p.vn * n.vp →
    ∃ t, exec (.imdPhaseEnd x tc) s = .next t ∧ t.fld F.PRT_IMD_STAT_PHASE = 0 ∧ t.fld F.PRT_IMD_STAT_CYCLES = (s.fld F.PRT_IMD_STAT_CYCLES + 1) % 2 ^ 16 ∧
      t.fld F.PRT_IMD_R_RP = insulationR (n.vn * (p.vp + p.vn)) (p.vn * n.vp - p.vp * n.vn) (s.prtBank 1 1) ∧
      t.fld F.PRT_IMD_R_RN = insulationR (p.vp * (n.vp + n.vn)) (p.vn * n.vp - p.vp * n.vn) (s.prtBank 1 1) ∧ t.prt.imd = []) ∧
  (∀ (s : State) (tc t0 : Tc), s.fld F.PRT_IMD_STAT_ROLE ≠ 0 → s.prt.collapseFrom = some t0 → passed tc t0 250000000 = true →
    ∃ t, exec (.collapseDetect tc) s = .next t ∧ t.flag F.PRT_IMD_STAT_COLLAPSE = true) ∧
  (∀ (s : State) (tc : Tc), s.collapsed tc = false → exec (.collapseDetect tc) s = .next s) ∧
  (∀ (s : State) (tc : Tc), s.prt.collapseFrom = none → ∃ t, exec (.collapseClear tc) s = .next t ∧ t.flag F.PRT_IMD_STAT_COLLAPSE = false) ∧
  (∀ (s : State) (tc t0 : Tc), s.prt.collapseFrom = some t0 → exec (.collapseClear tc) s = .next s)

/-- A channel's filtered state changes 3.0 ms after its count began at the earliest, is shown with the raw level that was sampled, its next count begins, and inputs, functions and groups are evaluated at once; an earlier change, and none, leave everything. An input is in demand while a channel or a held fault is, a function follows its raw demand or keeps it with manual restart, a group follows its functions. A write of SAF_RESET from the Lid holder with the current epoch ends the demand of each named manual-restart function whose raw demand is absent and of no other; without the Lid it changes nothing outside a control step, and with an old epoch it is counted as stale with sink 4. (R322, R323, R326, R327) -/
def Obligations.SafetyFunctionsFollowInputs : Prop :=
  (∀ (s : State) (i : Fin 6) (d : Bool) (tc : Tc), s.saf.Sized → s.flag (F.SAF_SI_STAT_FA i) = !d → passed tc (s.saf.siTc.getD (2 * i) 0) 750000 = true →
    ∃ t, exec (.siFilterChange i false d tc) s = .next t ∧ t.flag (F.SAF_SI_STAT_FA i) = d ∧ t.saf.siTc.getD (2 * i) 0 = tc ∧
      t.flag (F.SAF_SI_STAT_RAW_A i) = !d ∧ t.flag (F.SAF_SI_STAT_FB i) = s.flag (F.SAF_SI_STAT_FB i) ∧ Evaluated s t) ∧
  (∀ (s : State) (i : Fin 6) (d : Bool) (tc : Tc), s.saf.Sized → s.flag (F.SAF_SI_STAT_FB i) = !d → passed tc (s.saf.siTc.getD (2 * i + 1) 0) 750000 = true →
    ∃ t, exec (.siFilterChange i true d tc) s = .next t ∧ t.flag (F.SAF_SI_STAT_FB i) = d ∧ t.saf.siTc.getD (2 * i + 1) 0 = tc ∧
      t.flag (F.SAF_SI_STAT_RAW_B i) = (d == (s.siFlags i).testBit 1) ∧ t.flag (F.SAF_SI_STAT_FA i) = s.flag (F.SAF_SI_STAT_FA i) ∧ Evaluated s t) ∧
  (∀ (s : State) (i : Fin 6) (chB d : Bool) (tc : Tc),
    passed tc (s.saf.siTc.getD (2 * i + bitN chB) 0) 750000 = false ∨ (if chB then s.flag (F.SAF_SI_STAT_FB i) else s.flag (F.SAF_SI_STAT_FA i)) = d →
    exec (.siFilterChange i chB d tc) s = .next s) ∧
  (∀ (s : State) (fns : BitVec 16) (o : Origin) (tc : Tc), s.portRefusal o = none →
    ∃ t, exec (.safReset fns o tc) s = .next t ∧ t.flag F.SAF_STAT_G0 = t.groupDemand 0 ∧ t.flag F.SAF_STAT_G1 = t.groupDemand 1 ∧
      ∀ f, f < 16 → t.bit F.SAF_FN_DEMAND f =
        (s.bit F.SAF_FN_DEMAND f && !(fns.getLsbD f && (s.fnFlags f).testBit 3 && !s.rawDemand f))) ∧
  (∀ (s : State) (fns : BitVec 16) (o : Origin) (tc : Tc), s.holdsLid o.lane = false → s.currentEpoch o = true → s.lan.control = none →
    exec (.safReset fns o tc) s = .next s) ∧
  (∀ (s : State) (fns : BitVec 16) (o : Origin) (tc : Tc), s.currentEpoch o = false →
    ∃ t, exec (.safReset fns o tc) s = .next t ∧ Raised Ev.LAN_STALE s t ∧ t.fld F.LAN_STALE_CNT_SINK = 4 ∧ t.fld F.SAF_FN_DEMAND = s.fld F.SAF_FN_DEMAND)

/-- At a tick a used input whose channels agree has its counter at 0; one whose channels disagree counts, and at DISC_T has a DISC fault. Both channels found in demand at a tick are noted for each held fault by itself; a later tick that finds both healthy clears each fault so noted. DISC_FAULT sets the fault at DISC_T with its event. Before arming no dark pulse comes; SP1's come every 10 ms, SP2's 5 ms after; a pulsed input whose channel reads high in one has a CROSS fault. Each of them evaluates inputs, functions and groups. (R322, R323, R324, R325, R326, R327) -/
def Obligations.InputFaults : Prop :=
  (∀ (s : State) (k : Fin 6) (tc : Tc), (s.siFlags k).testBit 0 = true →
    ∃ t, exec (.discrepancyTick tc) s = .next t ∧ Evaluated s t ∧
      (s.disagrees k = false → t.fld (F.SAF_SI_STAT_DCNT k) = 0) ∧
      (s.disagrees k = true → s.fld (F.SAF_SI_STAT_DCNT k) < 2047 → t.fld (F.SAF_SI_STAT_DCNT k) = s.fld (F.SAF_SI_STAT_DCNT k) + 1) ∧
      (s.disagrees k = true → s.fld (F.SAF_SI_STAT_DCNT k) < 2047 → s.fld (F.SAF_SI_STAT_DCNT k) + 1 = s.siDiscT k → t.flag (F.SAF_SI_STAT_DISC k) = true) ∧
      (s.flag (F.SAF_SI_STAT_DISC k) = true ∨ s.flag (F.SAF_SI_STAT_CROSS k) = true →
        (s.flag (F.SAF_SI_STAT_FA k) = true → s.flag (F.SAF_SI_STAT_FB k) = true →
          (s.flag (F.SAF_SI_STAT_DISC k) = true → t.saf.bothDisc.getLsbD k = true) ∧ (s.flag (F.SAF_SI_STAT_CROSS k) = true → t.saf.bothCross.getLsbD k = true) ∧
          t.flag (F.SAF_SI_STAT_DISC k) = s.flag (F.SAF_SI_STAT_DISC k) ∧ t.flag (F.SAF_SI_STAT_CROSS k) = s.flag (F.SAF_SI_STAT_CROSS k)) ∧
        (s.flag (F.SAF_SI_STAT_FA k) = false → s.flag (F.SAF_SI_STAT_FB k) = false →
          t.flag (F.SAF_SI_STAT_DISC k) = (s.flag (F.SAF_SI_STAT_DISC k) && !s.saf.bothDisc.getLsbD k) ∧
          t.flag (F.SAF_SI_STAT_CROSS k) = (s.flag (F.SAF_SI_STAT_CROSS k) && !s.saf.bothCross.getLsbD k)))) ∧
  (∀ (s : State) (k : Fin 6) (tc : Tc), (s.siFlags k).testBit 0 = true → s.disagrees k = true → s.fld (F.SAF_SI_STAT_DCNT k) = s.siDiscT k →
    s.flag (F.SAF_SI_STAT_DISC k) = false →
    ∃ t, exec (.discFault k tc) s = .next t ∧ t.flag (F.SAF_SI_STAT_DISC k) = true ∧ t.saf.bothDisc.getLsbD k = false ∧ Raised Ev.SAF_DISC s t ∧ Evaluated s t) ∧
  (∀ (s : State) (k : Fin 6) (sp2 : Bool) (high : BitVec 6) (tc : Tc), s.darkDue sp2 tc = true →
    ∃ t, exec (.darkPulse sp2 high tc) s = .next t ∧ Evaluated s t ∧ t.sourceHigh sp2 tc = false ∧ t.sourceHigh (!sp2) tc = s.sourceHigh (!sp2) tc ∧ t.flag (F.SAF_SI_STAT_CROSS k) =
      (s.flag (F.SAF_SI_STAT_CROSS k) || ((s.siFlags k).testBit 0 && (s.siFlags k).testBit 2 && high.getLsbD k))) ∧
  (∀ (s : State) (sp2 : Bool) (high : BitVec 6) (tc : Tc), s.armed = false → exec (.darkPulse sp2 high tc) s = .next s) ∧
  (∀ (s : State) (high : BitVec 6) (tc t0 : Tc), s.saf.dark1 = some t0 → passed tc t0 2500000 = false → exec (.darkPulse false high tc) s = .next s) ∧
  (∀ (s : State) (high : BitVec 6) (tc t0 : Tc), s.saf.dark1 = some t0 → passed tc t0 1250000 = false → exec (.darkPulse true high tc) s = .next s)

/-- A TEST_WINDOW firing on an armed island opens the window over its drivers for its length. From 5 us into a window long enough, while the whole pulse still lies in it, the next switch of the rotation is pulsed; a window shorter than PULSE + 10 us gives none. A pulse that passes has age 0 and its instant kept, and the rotation moves on; one that fails gives its driver fault 9 with TP_FAIL, and a switch untested for TEST_MAX gives fault 10: both set TP_FAULT and open the breaker pair of the driver's string. (R118, R328, R329) -/
def Obligations.DriverTests : Prop :=
  (∀ (s : State) (k : Fin 64) (tc : Tc), s.fires k 2 tc = true → s.armed = true →
    exec (.testWindow k tc) s =
      .next { s.acted (128 + k) tc with saf := { s.saf with window := some { drivers := s.coveredDrivers (s.fld (F.PHB_SCHED_A_TARGET k)), tc := tc, len := s.fld (F.PHB_SCHED_C_ARG k) } } }) ∧
  (∀ (s : State) (tc : Tc) (w : TestWindow) (p : Nat), s.saf.window = some w → passed tc w.tc 1250 = true → s.saf.pulse = none → s.testPulse + 10 ≤ w.len →
    (tc - w.tc).toNat + 250 * s.testPulse ≤ 250 * w.len →
    s.nextSwitch w.drivers = some p →
    ∃ t, exec (.testPulseStart tc) s = .next t ∧ t.saf.window = none ∧ t.fld F.SAF_TP_STAT_ACTIVE = 1 ∧ t.fld F.SAF_TP_STAT_DRIVER = p / 2 % 32 ∧
      t.fld F.SAF_TP_STAT_SWITCH = p % 2 ∧
      t.saf.pulse = some { driver := p / 2, low := p % 2 == 1, tc := tc, off := s.flag (F.BRK_CON_ENERGISED (p / 2)) }) ∧
  (∀ (s : State) (tc : Tc) (w : TestWindow), s.saf.window = some w → w.len < s.testPulse + 10 ∨ passed tc w.tc 1250 = false ∨ 250 * w.len < (tc - w.tc).toNat + 250 * s.testPulse →
    exec (.testPulseStart tc) s = .next s) ∧
  (∀ (s : State) (ma : BitVec 16) (tc : Tc) (p : TestPulse), s.saf.Sized → s.saf.pulse = some p → p.driver < 28 → passed tc p.tc (250 * s.testPulse) = true →
    (p.off = true ∨ ma.toNat < 10) →
    ∃ t, exec (.testPulseEnd true ma tc) s = .next t ∧ t.saf.pulse = none ∧ t.saf.energiseDue = [] ∧ t.fld F.SAF_TP_STAT_ACTIVE = 0 ∧
      t.saf.passTc.getD (switchPlace p.driver p.low) 0 = tc ∧ t.rotation = (switchPlace p.driver p.low + 1) % 56 ∧
      (if p.low then t.fld (F.SAF_TP_AGE_LS p.driver) = 0 else t.fld (F.SAF_TP_AGE_HS p.driver) = 0)) ∧
  (∀ (s : State) (ok : Bool) (ma : BitVec 16) (tc : Tc) (p : TestPulse), s.saf.pulse = some p → p.driver < 28 → passed tc p.tc (250 * s.testPulse) = true →
    ok = false ∨ p.off = false ∧ 10 ≤ ma.toNat →
    ∃ t, exec (.testPulseEnd ok ma tc) s = .next t ∧ t.saf.pulse = none ∧ t.fld (F.BRK_CON_FAULT p.driver) = 9 ∧ t.fld F.SAF_STAT_TP_FAULT = 1 ∧
      Raised Ev.SAF_TP_FAIL s t ∧ (p.driver < 24 → s.armed = true → t.fld (F.BRK_S_STAT_PAIR (p.driver / 3)) = pairOpen)) ∧
  (∀ (s : State) (k : Fin 28) (low : Bool) (tc : Tc), s.armed = true → s.conUsed k = true → s.fld (F.BRK_CON_FAULT k) < 9 →
    passed tc (s.saf.passTc.getD (switchPlace k low) 0) (msT (1000 * s.testMax)) = true →
    ∃ t, exec (.testOverdue k low tc) s = .next t ∧ t.fld (F.BRK_CON_FAULT k) = 10 ∧ t.fld F.SAF_STAT_TP_FAULT = 1 ∧
      (k.val < 24 → t.fld (F.BRK_S_STAT_PAIR (k / 3)) = pairOpen) ∧ (24 ≤ k.val → t.flag (F.BRK_CON_ENERGISED k) = false))

/-- An invalid copy is counted; a copy from CAN is taken from its receive object, whose NEW is cleared. The first valid copy of a newer sequence is kept and its demand bits act at once. The second copy on the other transport within SD_WIN accepts the sequence: with equal data the connection runs with that word and no single acceptance; with different data it goes to FAULT with word 0 and SD_MISMATCH. A window that closes accepts the sequence singly, and the allowed number of single acceptances in RUN leads to FAULT. While a new lane has the Lid but no firmware, copies wait in order. (R331, R332, R333, R354) -/
def Obligations.SafeDataReceived : Prop :=
  (∀ (s : State) (c : Fin 4) (l : List Byte) (tc : Tc), s.lan.fw = true → s.sdUsed c = true → sdCopyValid (s.rxField c 0 4) l = false →
    exec (.safeDataCopy c true l tc) s = .next (s.put (F.SAF_SD_RX_ERR_BAD c) (s.fld (F.SAF_SD_RX_ERR_BAD c) + 1))) ∧
  (∀ (s : State) (c : Fin 4) (l : List Byte) (tc : Tc) (k : Nat), s.lan.fw = true → s.sdUsed c = true → sdCopyValid (s.rxField c 0 4) l = false →
    s.rxMatch 1 (s.rxField c 4 4 % 2 ^ 29) ((s.rxField c 4 4).testBit 29) = some k →
    ∃ t, exec (.safeDataCopy c false l tc) s = .next t ∧ t.flag (F.CAN_RX_HDR_NEW 1 k) = false ∧
      t.fld (F.SAF_SD_RX_ERR_BAD c) = (s.fld (F.SAF_SD_RX_ERR_BAD c) + 1) % 2 ^ 16) ∧
  (∀ (s : State) (c : Fin 4) (eth : Bool) (l : List Byte) (tc : Tc), s.saf.Sized → s.lan.fw = true → s.sdUsed c = true → sdCopyValid (s.rxField c 0 4) l = true →
    (s.conn c).first = none → (∀ q, (s.conn c).last = some q → seqNewer16 (BitVec.ofNat 16 (leAt l 2 2)) q = true) →
    ∃ t, exec (.safeDataCopy c eth l tc) s = .next t ∧ (t.conn c).word = (s.conn c).word &&& BitVec.ofNat 32 (leAt l 4 4) ∧
      (t.conn c).first = some { seq := BitVec.ofNat 16 (leAt l 2 2), data := BitVec.ofNat 32 (leAt l 4 4), eth := eth, tc := tc }) ∧
  (∀ (s : State) (c : Fin 4) (eth : Bool) (l : List Byte) (tc : Tc) (w : SdOpen), s.saf.Sized → s.lan.fw = true → s.sdUsed c = true →
    sdCopyValid (s.rxField c 0 4) l = true → (s.conn c).first = some w → w.seq = BitVec.ofNat 16 (leAt l 2 2) → w.eth = !eth → (tc - w.tc).toNat ≤ s.sdWin c →
    s.sdState c ≠ sdFault →
    ∃ t, exec (.safeDataCopy c eth l tc) s = .next t ∧ (t.conn c).first = none ∧
      (w.data = BitVec.ofNat 32 (leAt l 4 4) → t.sdState c = sdRun ∧ (t.conn c).word = w.data ∧ (t.conn c).last = some w.seq ∧ (t.conn c).acceptTc = tc ∧
        t.fld (F.SAF_SD_RX_STAT_SINGLE c) = 0 ∧ t.fld (F.SAF_SD_RX_STAT_SEQ c) = w.seq.toNat ∧
        t.fld (F.SAF_SD_RX_CNT_DUAL c) = (s.fld (F.SAF_SD_RX_CNT_DUAL c) + 1) % 2 ^ 16) ∧
      (w.data ≠ BitVec.ofNat 32 (leAt l 4 4) → t.sdState c = sdFault ∧ (t.conn c).word = 0 ∧ Raised Ev.SAF_SD_MISMATCH s t)) ∧
  (∀ (s : State) (c : Fin 4) (eth : Bool) (l : List Byte) (tc : Tc), s.lan.fw = false → s.lidHeld = true →
    exec (.safeDataCopy c eth l tc) s = .next { s with saf := { s.saf with copies := s.saf.copies ++ [(c.val, eth, l, tc)] } }) ∧
  (∀ (s : State) (c : Fin 4) (tc : Tc) (w : SdOpen), s.saf.Sized → s.lan.fw = true → (s.conn c).first = some w → s.sdWin c < (tc - w.tc).toNat → s.sdState c = sdRun →
    ∃ t, exec (.sdWindowClose c tc) s = .next t ∧ (t.conn c).first = none ∧ (t.conn c).last = some w.seq ∧ (t.conn c).acceptTc = tc ∧
      t.fld (F.SAF_SD_RX_CNT_SINGLE c) = (s.fld (F.SAF_SD_RX_CNT_SINGLE c) + 1) % 2 ^ 16 ∧
      (s.fld (F.SAF_SD_RX_STAT_SINGLE c) = s.rxField c 11 1 → t.sdState c = sdFault ∧ (t.conn c).word = 0) ∧
      (s.fld (F.SAF_SD_RX_STAT_SINGLE c) ≠ s.rxField c 11 1 → t.sdState c = sdRun ∧ (t.conn c).word = (s.conn c).word ∧
        t.fld (F.SAF_SD_RX_STAT_SINGLE c) = (s.fld (F.SAF_SD_RX_STAT_SINGLE c) + 1) % 16))

/-- A running connection without an acceptance for SD_TMO waits with word 0 and SD_TMO. SD_RESET takes each named connection in FAULT to WAIT with no sequence and leaves the others. An accepted write of a data word is shown and renews it; SD_STALE stays while another word is stale. A write with an old epoch is stale with sink 9. Without a write for SD_REN the word is 0 and SD_STALE is set. The rewrite timer writes all four words of the lane that holds the Lid. TX sends its data word with the next sequence, on Ethernet to the address and port of the image. (R327, R333, R334, R335, R356) -/
def Obligations.SafeDataKept : Prop :=
  (∀ (s : State) (c : Fin 4) (tc : Tc), s.saf.Sized → s.lan.fw = true → s.sdState c = sdRun → passed tc (s.conn c).acceptTc (msT (s.rxField c 8 2)) = true →
    ∃ t, exec (.sdTimeout c tc) s = .next t ∧ t.sdState c = sdWait ∧ t.conn c = { s.conn c with word := 0 } ∧ Raised Ev.SAF_SD_TMO s t) ∧
  (∀ (s : State) (conns : BitVec 4), s.saf.Sized → s.lan.fw = true →
    ∃ t, exec (.sdReset conns) s = .next t ∧ ∀ c, c < 4 →
      (conns.getLsbD c = true → s.sdState c = sdFault →
        t.sdState c = sdWait ∧ t.fld (F.SAF_SD_RX_STAT_SINGLE c) = 0 ∧ t.conn c = { s.conn c with last := none, word := 0, first := none }) ∧
      (conns.getLsbD c = false ∨ s.sdState c ≠ sdFault → t.sdState c = s.sdState c ∧ t.conn c = s.conn c)) ∧
  (∀ (s : State) (c : Fin 4) (v : Word) (o : Origin) (tc : Tc), s.saf.Sized → s.portRefusal o = none →
    ∃ t, exec (.sdWordWrite c v o tc) s = .next t ∧ t.fld (F.SAF_SD_RX_DATA c) = v.toNat ∧ t.saf.renewed.getD c 0 = tc ∧ t.saf.staleWords.getLsbD c = false ∧
      t.flag F.SAF_STAT_SD_STALE = (t.saf.staleWords != 0) ∧ Evaluated s t) ∧
  (∀ (s : State) (c : Fin 4) (v : Word) (o : Origin) (tc : Tc), s.currentEpoch o = false →
    ∃ t, exec (.sdWordWrite c v o tc) s = .next t ∧ Raised Ev.LAN_STALE s t ∧ t.fld F.LAN_STALE_CNT_SINK = 9 ∧
      t.fld (F.SAF_SD_RX_DATA c) = s.fld (F.SAF_SD_RX_DATA c) ∧ t.saf = s.saf) ∧
  (∀ (s : State) (c : Fin 4) (tc : Tc), s.hasSec 5 = true → passed tc (s.saf.renewed.getD c 0) (msT s.sdRen) = true →
    ∃ t, exec (.sdRenewalTimeout c tc) s = .next t ∧ t.fld (F.SAF_SD_RX_DATA c) = 0 ∧ t.fld F.SAF_STAT_SD_STALE = 1 ∧ t.saf.staleWords.getLsbD c = true ∧ Evaluated s t) ∧
  (∀ (s : State) (tc : Tc), s.saf.Sized → s.lan.fw = true → s.lidHeld = true →
    ∃ t, exec (.sdRewriteTimer tc) s = .next t ∧ t.fld F.SAF_STAT_SD_STALE = 0 ∧ ∀ c, c < 4 →
      t.fld (F.SAF_SD_RX_DATA c) = (s.conn c).word.toNat ∧ t.saf.renewed.getD c 0 = tc) ∧
  (∀ s : State, s.lan.fw = true → (s.txField 4 4).testBit 30 = true →
    ∃ t, exec .sdTxSend s = .next t ∧ t.fld F.SAF_SD_TX_VALUE = s.txWord.toNat ∧ t.fld F.SAF_SD_TXSEQ_SEQ = (s.fld F.SAF_SD_TXSEQ_SEQ + 1) % 2 ^ 16 ∧
      t.sent = .safeData (s.txField 12 4) (s.txField 10 2) (sdMessage (s.txField 0 4) (t.fld F.SAF_SD_TXSEQ_SEQ) s.txWord) :: s.sent)

/-- The frame on the bus that ends without error is sent, its start is its time stamp, its buffer's DONE rises and TEC falls by one. A lost arbitration is counted, the frame waits until the bus is idle. An error shows its code; TEC rises by 8, and at 256 the channel is bus off with BUS_OFF. A cancellation withdraws a waiting frame and counts it; a frame that has won arbitration is marked and completes. (R390, R391, R392, R393, R394, R395) -/
def Obligations.CanTransmits : Prop :=
  (∀ (s : State) (c : Fin 2) (tc : Tc) (b : Nat) (f : CanFrame), s.can.length = 2 → (s.canCh c).bufs.length = 3 → b < 3 → (s.canCh c).onBus = some b →
    (s.txBuf c b).frame = some f →
    ∃ t, exec (.canTxDone c none tc) s = .next t ∧ t.sent = .can c f.id (s.canState c == canPassive && f.id.getLsbD 30) f.data :: s.sent ∧
      t.fld (F.CAN_TX_TS_VALUE c b) = tc.toNat % 2 ^ 32 ∧ t.fld (F.CAN_TX_CNT0_DONE c) = (s.fld (F.CAN_TX_CNT0_DONE c) + 1) % 2 ^ 16 ∧
      t.fld (F.CAN_STAT_TEC c) = s.fld (F.CAN_STAT_TEC c) - 1 ∧ ((s.canCh c).queue = [] → (t.txBuf c b).frame = none ∧ t.fld (F.CAN_TX_STAT_STATE c b) = txDone)) ∧
  (∀ (s : State) (c : Fin 2) (b : Nat), s.can.length = 2 → b < 3 → (s.canCh c).onBus = some b → s.bufHeld c b = true → s.flag (F.CAN_CTRL_EN c) = true →
    ∃ t, exec (.canArbitrationLost c) s = .next t ∧ (t.canCh c).onBus = none ∧ (t.canCh c).waitIdle = true ∧
      t.fld (F.CAN_TX_CNT1_ARB_LOST c) = (s.fld (F.CAN_TX_CNT1_ARB_LOST c) + 1) % 2 ^ 16 ∧
      ((s.txBuf c b).cancel = false → (s.txBuf c b).last = false → t.fld (F.CAN_TX_STAT_STATE c b) = txPending ∧ (t.txBuf c b).frame = (s.txBuf c b).frame)) ∧
  (∀ (s : State) (c : Fin 2) (e : CanError) (b : Nat), s.can.length = 2 → b < 3 → (s.canCh c).onBus = some b → s.flag (F.CAN_CTRL_EN c) = true →
    ∃ t, exec (.canTxError c e false 0) s = .next t ∧ t.fld (F.CAN_STAT_LEC c) = canErrorCode e ∧
      (s.fld (F.CAN_STAT_TEC c) + 8 < 256 → t.fld (F.CAN_STAT_TEC c) = s.fld (F.CAN_STAT_TEC c) + 8) ∧
      (256 ≤ s.fld (F.CAN_STAT_TEC c) + 8 → t.fld (F.CAN_STAT_TEC c) = 255 ∧ t.canState c = canBusOff ∧ (t.canCh c).onBus = none ∧ Raised (Ev.CAN_BUS_OFF c) s t)) ∧
  (∀ (s : State) (c : Fin 2) (bufs : BitVec 3) (won : Bool) (b : Nat), s.can.length = 2 → (s.canCh c).bufs.length = 3 → (s.canCh c).queue = [] →
    s.canState c ≠ canOff → b < 3 → bufs = BitVec.ofNat 3 (2 ^ b) → s.bufHeld c b = true → (s.canCh c).onBus ≠ some b ∨ won = false →
    ∃ t, exec (.txCancel c bufs won) s = .next t ∧ (t.txBuf c b).frame = none ∧ t.fld (F.CAN_TX_STAT_STATE c b) = txCancelled ∧
      t.fld (F.CAN_TX_CNT1_CANCELLED c) = (s.fld (F.CAN_TX_CNT1_CANCELLED c) + 1) % 2 ^ 16) ∧
  (∀ (s : State) (c : Fin 2) (b : Nat), s.can.length = 2 → (s.canCh c).bufs.length = 3 → s.canState c ≠ canOff → s.flag (F.CAN_CTRL_EN c) = true → b < 3 →
    s.bufHeld c b = true → (s.canCh c).onBus = some b →
    ∃ t, exec (.txCancel c (BitVec.ofNat 3 (2 ^ b)) true) s = .next t ∧ (t.txBuf c b).cancel = true ∧ (t.txBuf c b).frame = (s.txBuf c b).frame ∧
      (t.canCh c).onBus = some b)

/-- A frame goes to the first object that matches its identifier, with its time stamp, DLC and data, NEW set and counted, and LOST where NEW stood; one without an object, or a remote frame, is counted as missed. A read of the header answers it and copies time stamp and data for later reads. A receive error shows its code and raises REC by 1. RECOVER of a bus-off channel starts the recovery, whose end makes it active with both counters 0. A due reference message goes into TX0 with the next cycle count. (R386, R387, R388, R394, R398) -/
def Obligations.CanReceives : Prop :=
  (∀ (s : State) (c : Fin 2) (f : CanRx) (tc : Tc) (k : Nat), s.can.length = 2 → s.canOn c = true → f.rtr = false → s.rxMatch c f.id.toNat f.ide = some k →
    ∃ t, exec (.canFrameReceive c f none tc) s = .next t ∧ t.fld (F.CAN_RX_TS_VALUE c k) = tc.toNat % 2 ^ 32 ∧ t.fld (F.CAN_RX_HDR_DLC c k) = f.dlc.toNat ∧
      t.fld (F.CAN_RX_HDR_LEN c k) = canLength f.fdf f.dlc.toNat ∧ Raised (Ev.CAN_RXO_NEW c k) s t ∧
      (∀ j, j < 16 → t.fld (F.CAN_RX_D_VALUE c k j) = leAt (f.data.take (canLength f.fdf f.dlc.toNat)) (4 * j) 4) ∧
      (s.flag (F.CAN_RX_HDR_NEW c k) = true → Raised (Ev.CAN_RXO_LOST c k) s t ∧ Raised (Ev.CAN_RX_LOST c) s t)) ∧
  (∀ (s : State) (c : Fin 2) (f : CanRx) (tc : Tc), s.canOn c = true → f.rtr = false → s.rxMatch c f.id.toNat f.ide = none →
    ∃ t, exec (.canFrameReceive c f none tc) s = .next t ∧ t.fld (F.CAN_RX_MISS_NO_MATCH c) = (s.fld (F.CAN_RX_MISS_NO_MATCH c) + 1) % 2 ^ 16) ∧
  (∀ (s : State) (c : Fin 2) (f : CanRx) (tc : Tc), s.canOn c = true → f.rtr = true →
    ∃ t, exec (.canFrameReceive c f none tc) s = .next t ∧ t.fld (F.CAN_RX_MISS_RTR c) = (s.fld (F.CAN_RX_MISS_RTR c) + 1) % 2 ^ 16) ∧
  (∀ (s : State) (c : Fin 2) (k : Fin 64), s.can.length = 2 →
    ∃ t, exec (.rxHdrRead c k) s = .next t ∧ t.objs = s.objs ∧
      t.sent = .readValue (F.CAN_RX_HDR_NEW c k).addr (s.rd (F.CAN_RX_HDR_NEW c k).addr) :: s.sent ∧
      (t.canCh c).copy.get (F.CAN_RX_TS_VALUE c k).addr = s.rd (F.CAN_RX_TS_VALUE c k).addr ∧
      ∀ j, j < 16 → (t.canCh c).copy.get (F.CAN_RX_D_VALUE c k j).addr = s.rd (F.CAN_RX_D_VALUE c k j).addr) ∧
  (∀ (s : State) (c : Fin 2) (e : CanError), s.can.length = 2 → s.canOn c = true →
    ∃ t, exec (.canRxError c e 0) s = .next t ∧ t.fld (F.CAN_STAT_LEC c) = canErrorCode e ∧ (t.canCh c).recCount = (s.canCh c).recCount + 1 ∧
      t.fld (F.CAN_STAT_REC c) = min ((s.canCh c).recCount + 1) 127 ∧ t.fld (F.CAN_STAT_TEC c) = s.fld (F.CAN_STAT_TEC c)) ∧
  (∀ (s : State) (c : Fin 2), s.canState c = canBusOff → exec (.canRecover c) s = .next (s.setCanCh c { s.canCh c with recovering := true })) ∧
  (∀ (s : State) (c : Fin 2), s.canState c ≠ canBusOff → exec (.canRecover c) s = .next s) ∧
  (∀ (s : State) (c : Fin 2), s.can.length = 2 → s.canState c = canBusOff → (s.canCh c).recovering = true → s.flag (F.CAN_CTRL_EN c) = true →
    ∃ t, exec (.busOffRecoveryDone c) s = .next t ∧ t.canState c = canActive ∧ t.fld (F.CAN_STAT_TEC c) = 0 ∧ t.fld (F.CAN_STAT_REC c) = 0 ∧
      (t.canCh c).recovering = false) ∧
  (∀ (s : State) (c : Fin 2) (n : Nat), s.can.length = 2 → (s.canCh c).bufs.length = 3 → s.timeMaster c = true → s.flag (F.CAN_CTRL_EN c) = true → s.canState c ≠ canOff →
    (s.canCh c).commits ≠ (s.canCh c).refDone → (s.canCh c).commits % s.fld (F.CAN_TM_CFG_DIV c) = 0 →
    n = (if s.fld (F.CAN_TM_STAT_CYC c) < s.fld (F.CAN_TM_CFG_CYC_MAX c) then s.fld (F.CAN_TM_STAT_CYC c) + 1 else 0) →
    ∃ t, exec (.canReferenceDue c) s = .next t ∧ t.fld (F.CAN_TM_STAT_CYC c) = n ∧ (t.canCh c).refDone = (s.canCh c).commits ∧
      (t.txBuf c 0).frame = some { id := s.rd (F.CAN_TM_ID_ID c).addr, data := BitVec.ofNat 8 n :: List.replicate (s.fld (F.CAN_TM_CFG_DLC c) - 1) 0#8, svc := 3 } ∧
      (s.bufHeld c 0 = true → Raised (Ev.CAN_REF_MISS c) s t))

/-- At a CTL_SAMPLE firing each slot of the group tests its divider counter. A due slot without inputs is skipped and counted; a due class S slot waits with its set-point and measurement; a due class P slot shows both, and its output, the accumulator of its law clamped between UMIN and UMAX, is due in its register 240 ns after the latch. A slot that a live set has enabled starts with a fresh history. The class S evaluation with the earliest deadline does the same at its own instant, shows SAT where the clamp acts, advances the slot's counter, and sends the slot's record to the copy in turn of the Stockpot; at its deadline it is discarded as a MISS. (R272, R277, R278, R281, R282, R285, R286, R288, R295) -/
def Obligations.SlotsEvaluate : Prop :=
  (∀ (s i : State) (k : Fin 64) (tc : Tc), s.cte.Sized → s.fires k 6 tc = true → s.cteRuns = true → i = s.writeDue tc.toNat →
    ∃ t, exec (.ctlSample k tc) s = .next t ∧ ∀ n, n < 32 → s.slotOn n = true → s.fld (F.CTE_L_CFG_GROUP n) = s.fld (F.PHB_SCHED_A_TARGET k) →
      ((s.slot n).div ≠ 0 → (t.slot n).div = (s.slot n).div - 1 ∧ (t.slot n).count = (s.slot n).count) ∧
      ((s.slot n).div = 0 → (t.slot n).div = s.fld (F.CTE_L_CFG_DIV n) ∧
        (i.slotInputs n (i.sharing tc) tc = none → t.fld (F.CTE_L_CNT1_SKIP n) = (s.fld (F.CTE_L_CNT1_SKIP n) + 1) % 2 ^ 16) ∧
        ∀ r y, i.slotInputs n (i.sharing tc) tc = some (r, y) →
          (s.flag (F.CTE_L_CFG_CLASS n) = true → ∃ w ∈ t.cte.waiting, w.slot = n ∧ w.r = r ∧ w.y = y) ∧
          (s.flag (F.CTE_L_CFG_CLASS n) = false → t.fld (F.CTE_L_REFE_VALUE n) = code 32 r ∧ t.fld (F.CTE_L_MEAS_VALUE n) = code 32 y ∧
            (t.slot n).count = (s.slot n).count + 1 ∧
            (tc + 60, n, clampI (s.fldS (F.CTE_L_UMIN_VALUE n)) (s.fldS (F.CTE_L_UMAX_VALUE n))
              ((if (s.slot n).fresh then s.freshSlot n else s).lawValue n (satQ31 (if s.flag (F.CTE_L_IO_INV n) then y - r else r - y)))) ∈ t.cte.outs))) ∧
  (∀ (s : State) (tc : Tc) (w : ClassS) (v : Int) (l : Lane), s.cte.Sized → firstS s.cte.waiting = some w → w.slot < 32 → s.cteDormant = false → s.cte.ready = true →
    s.lan.lid = some l → s.positionAt tc < w.deadline → v = s.lawValue w.slot (satQ31 (if s.flag (F.CTE_L_IO_INV w.slot) then w.y - w.r else w.r - w.y)) →
    ∃ t b, exec (.classSEvaluation tc) s = .next t ∧ t.cte.waiting = s.cte.waiting.filter (fun x => x.slot != w.slot) ∧
      t.fld (F.CTE_L_REFE_VALUE w.slot) = code 32 w.r ∧ t.fld (F.CTE_L_MEAS_VALUE w.slot) = code 32 w.y ∧ (t.slot w.slot).count = (s.slot w.slot).count + 1 ∧
      t.cte.outs = s.cte.outs ++ [(tc, w.slot, clampI (s.fldS (F.CTE_L_UMIN_VALUE w.slot)) (s.fldS (F.CTE_L_UMAX_VALUE w.slot)) v)] ∧
      t.flag (F.CTE_L_STAT_SAT w.slot) = (clampI (s.fldS (F.CTE_L_UMIN_VALUE w.slot)) (s.fldS (F.CTE_L_UMAX_VALUE w.slot)) v != v) ∧
      t.pot.buffer = s.pot.buffer ++ [b] ∧ b.bytes = t.slotRecord w.slot ∧ b.lane = l ∧ b.tc = tc ∧
      b.addr = 64 * w.slot + (if (t.slot w.slot).count.getLsbD 0 then 2048 else 0)) ∧
  (∀ (s : State) (tc : Tc) (w : ClassS), firstS s.cte.waiting = some w → s.cteDormant = false → s.cte.ready = true → w.deadline ≤ s.positionAt tc →
    ∃ t, exec (.classSEvaluation tc) s = .next t ∧ t.cte.waiting = s.cte.waiting.filter (fun x => x.slot != w.slot) ∧ t.cte.outs = s.cte.outs ∧
      t.cte.slots = s.cte.slots ∧ t.fld (F.CTE_L_CNT0_MISS w.slot) = (s.fld (F.CTE_L_CNT0_MISS w.slot) + 1) % 2 ^ 16 ∧ Raised Ev.CTE_MISS s t)

/-- A sense frame with a wrong synchronisation or CRC is only counted; a good one is shown and keeps its instant, and with its FAULT bit a running trimmer goes to BYPASS at the zero-voltage state with m 0. A stream not renewed for 10.8 us is lost, counted, and bypasses a running trimmer; within a takeover interruption neither moves it. A TRIM_UPDATE firing starts the carriers and puts the compares of the selected slot's output into the shadow of each running trimmer it names; at its next carrier period they, PER and a change of the gates take effect, and both legs get their edges, leg B half a period later with INTERLEAVE. (R273, R274, R275, R291, R296, R297, R298, R299) -/
def Obligations.TrimmersFollowStreams : Prop :=
  (∀ (s : State) (n : Fin 8) (sync : BitVec 16) (l : List Byte) (tc : Tc), s.cteDormant = false → s.flag (F.CTE_TRIM_STAT_PRESENT n) = true →
    sync ≠ 0xF0C3 ∨ crc8 (l.take 7) ≠ l.getD 7 0 →
    exec (.senseFrame n sync l tc) s = .next (s.put (F.CTE_TRIM_ERR_CRC n) (s.fld (F.CTE_TRIM_ERR_CRC n) + 1))) ∧
  (∀ (s : State) (n : Fin 8) (l : List Byte) (tc : Tc), s.cte.Sized → s.cteDormant = false → s.flag (F.CTE_TRIM_STAT_PRESENT n) = true →
    crc8 (l.take 7) = l.getD 7 0 →
    ∃ t, exec (.senseFrame n 0xF0C3 l tc) s = .next t ∧ t.fld (F.CTE_TRIM_MEAS_I n) = leAt l 0 2 ∧ t.fld (F.CTE_TRIM_MEAS_V_TRIM n) = leAt l 2 2 ∧
      t.fld (F.CTE_TRIM_BUS_V_BUS n) = leAt l 4 2 ∧ t.fld (F.CTE_TRIM_STAT_STREAM_OK n) = 1 ∧ (t.trim n).good = some tc ∧ (t.trim n).lost = false ∧
      (s.cte.ready = true → s.trimState n = trimRun → (l.getD 6 0).getLsbD 1 = true →
        t.trimState n = trimBypass ∧ t.fld (F.CTE_TRIM_M_M n) = 0 ∧ (t.trim n).gate = .zero ∧ Raised Ev.CTE_TRIM_BYP s t) ∧
      ((l.getD 6 0).getLsbD 1 = false ∨ s.cte.ready = false → t.trimState n = s.trimState n)) ∧
  (∀ (s : State) (n : Fin 8) (tc : Tc), s.cte.Sized → s.cteDormant = false → s.flag (F.CTE_TRIM_STAT_PRESENT n) = true → (s.trim n).lost = false →
    (∀ t0, (s.trim n).good = some t0 → 2700 ≤ (tc - t0).toNat) →
    ∃ t, exec (.streamLost n tc) s = .next t ∧ (t.trim n).lost = true ∧ t.fld (F.CTE_TRIM_STAT_STREAM_OK n) = 0 ∧ Raised Ev.CTE_STREAM s t ∧
      t.fld (F.CTE_TRIM_ERR_LOST n) = (s.fld (F.CTE_TRIM_ERR_LOST n) + 1) % 2 ^ 16 ∧ (s.cte.ready = true → s.trimState n = trimRun → t.trimState n = trimBypass) ∧ (s.cte.ready = false → t.trimState n = s.trimState n)) ∧
  (∀ (s v : State) (k : Fin 64) (tc : Tc), s.cte.Sized → s.fires k 7 tc = true → s.cteRuns = true → v = ((s.acted (448 + k) tc).writeDue (tc.toNat + 1)).startCarriers →
    ∃ t, exec (.trimUpdate k tc) s = .next t ∧ t.cte.carriers = true ∧ ∀ n, n < 8 → (s.fld (F.PHB_SCHED_A_TARGET k)).testBit n = true →
      s.flag (F.CTE_TRIM_STAT_PRESENT n) = true → s.trimState n = trimRun →
      (t.trim n).shadow = some (v.compares n (v.fldS (F.CTE_L_OUT_VALUE (v.selected n))))) ∧
  (∀ (s : State) (n : Fin 8), s.cte.Sized → s.cte.carriers = true → s.cte.ready = true →
    ∃ t, exec (.carrierPeriodStart n) s = .next t ∧ (t.trim n).gate = (s.trim n).gateNext.getD (s.trim n).gate ∧ (t.trim n).gateNext = none ∧
      (t.trim n).shadow = none ∧ (t.trim n).per = s.fld (F.CTE_TRIM_PWM_PER n) ∧
      (t.trim n).legA = legOf (16 * s.fld (F.CTE_TRIM_PWM_PER n)) (16 * s.fld (F.CTE_TRIM_PWM_DT n)) (16 * s.fld (F.CTE_TRIM_PWM_PER n) / 2) (t.trim n).onA ∧
      (s.flag (F.CTE_TRIM_PWM_INTERLEAVE n) = true → (t.trim n).legB = legOf (16 * s.fld (F.CTE_TRIM_PWM_PER n)) (16 * s.fld (F.CTE_TRIM_PWM_DT n))
        (16 * s.fld (F.CTE_TRIM_PWM_PER n) / 2 + 16 * s.fld (F.CTE_TRIM_PWM_PER n) / 2) (t.trim n).onB) ∧ ∀ m a b, (s.trim n).shadow = some (m, a, b) →
        (t.trim n).onA = a ∧ (t.trim n).onB = b ∧ t.fld (F.CTE_TRIM_M_M n) = code 32 m) ∧
  (∀ (s : State) (n : Fin 8), s.cte.carriers = false ∨ s.cte.ready = false → exec (.carrierPeriodStart n) s = .next s)

/-- From the Lid holder with the current epoch, ENABLE takes a present trimmer from OFF to BYPASS at the zero-voltage state, RUN from BYPASS to RUN with shadow m 0 where no trip and no stream fault stands against it, STOP back to BYPASS, DISABLE to OFF where its string is open. In the wrong state each is refused with 4, at a string without a trimmer with 3, without the Lid with 1, and nothing else changes. A direct coefficient write that the slot allows is in effect at once, any other is DWR_REJ. A Stockpot entry 2.56 us old is committed and leaves the buffer; IMG0 and IMG1 show whether the register images are usable. (R25, R292, R298, R299, R350, R351) -/
def Obligations.TrimmerCommands : Prop :=
  (∀ (s : State) (n : Fin 8) (o : Origin), s.cte.Sized → s.cteDormant = false → s.portRefusal o = none → s.trimState n = trimOff →
    s.flag (F.CTE_TRIM_STAT_PRESENT n) = true →
    ∃ t, exec (.trimEnable n o) s = .next t ∧ t.trimState n = trimBypass ∧ (t.trim n).gate = .zero ∧ t.flag (F.CTE_TRIM_STAT_TRIP_IN n) = s.tripInput n) ∧
  (∀ (s : State) (n : Fin 8) (o : Origin) (tc : Tc), s.cte.Sized → s.cteDormant = false → s.portRefusal o = none → s.flag (F.CTE_TRIM_STAT_PRESENT n) = true → s.trimState n = trimBypass →
    s.tripInput n = false → s.streamValid n tc = true → (s.fld (F.CTE_TRIM_STAT_STATUS n)) % 4 = 1 →
    ∃ t, exec (.trimRun n o tc) s = .next t ∧ t.trimState n = trimRun ∧ (t.trim n).gateNext = some .pwm ∧ (t.trim n).shadow = some (s.compares n 0)) ∧
  (∀ (s : State) (n : Fin 8) (o : Origin) (tc : Tc), s.cteDormant = false → s.portRefusal o = none → s.flag (F.CTE_TRIM_STAT_PRESENT n) = true → s.trimState n = trimBypass → s.tripInput n = true →
    exec (.trimRun n o tc) s = .next (s.put (F.CTE_TRIM_STAT_REFUSE n) trTrip)) ∧
  (∀ (s : State) (n : Fin 8) (o : Origin), s.cte.Sized → s.cteDormant = false → s.portRefusal o = none → s.flag (F.CTE_TRIM_STAT_PRESENT n) = true → s.trimState n = trimRun →
    ∃ t, exec (.trimStop n o) s = .next t ∧ t.trimState n = trimBypass ∧ (t.trim n).gateNext = some .zero ∧ t.fld (F.CTE_TRIM_M_M n) = 0) ∧
  (∀ (s : State) (n : Fin 8) (o : Origin), s.cte.Sized → s.cteDormant = false → s.portRefusal o = none → s.flag (F.CTE_TRIM_STAT_PRESENT n) = true → s.trimState n = trimBypass →
    s.strState n = ssOpen ∨ s.strState n = ssTripped ∨ s.strState n = ssLockout →
    ∃ t, exec (.trimDisable n o) s = .next t ∧ t.trimState n = trimOff ∧ (t.trim n).gate = .off) ∧
  (∀ (s : State) (n : Fin 8) (o : Origin) (tc : Tc), s.cteDormant = false → s.portRefusal o = none → s.flag (F.CTE_TRIM_STAT_PRESENT n) = true → s.trimState n ≠ trimBypass →
    exec (.trimRun n o tc) s = .next (s.put (F.CTE_TRIM_STAT_REFUSE n) trWrongState) ∧
    exec (.trimDisable n o) s = .next (s.put (F.CTE_TRIM_STAT_REFUSE n) trWrongState)) ∧
  (∀ (s : State) (n : Fin 8) (o : Origin) (tc : Tc), s.cteDormant = false → s.portRefusal o = none → s.flag (F.CTE_TRIM_STAT_PRESENT n) = false →
    exec (.trimEnable n o) s = .next (s.put (F.CTE_TRIM_STAT_REFUSE n) trNotPresent) ∧ exec (.trimRun n o tc) s = .next (s.put (F.CTE_TRIM_STAT_REFUSE n) trNotPresent) ∧
    exec (.trimStop n o) s = .next (s.put (F.CTE_TRIM_STAT_REFUSE n) trNotPresent) ∧ exec (.trimDisable n o) s = .next (s.put (F.CTE_TRIM_STAT_REFUSE n) trNotPresent)) ∧
  (∀ (s : State) (n : Fin 8) (o : Origin) (tc : Tc), s.cteDormant = false → s.holdsLid o.lane = false → s.currentEpoch o = true → s.lan.control = none →
    exec (.trimEnable n o) s = .next (s.put (F.CTE_TRIM_STAT_REFUSE n) 1) ∧ exec (.trimRun n o tc) s = .next (s.put (F.CTE_TRIM_STAT_REFUSE n) 1) ∧
    exec (.trimStop n o) s = .next (s.put (F.CTE_TRIM_STAT_REFUSE n) 1) ∧ exec (.trimDisable n o) s = .next (s.put (F.CTE_TRIM_STAT_REFUSE n) 1)) ∧
  (∀ (s : State) (l : Fin 32) (c : Coeff) (v : Word) (o : Origin), s.cteDormant = false → s.portRefusal o = none → s.flag (F.CTE_L_CFG_DWR_EN l) = true →
    s.flag (F.CTE_L_CFG_FMT l) = false ∨ mantissaOk v = true → exec (.directCoeffWrite l c v o) s = .next (s.wr (coeffAddr l (coeffIndex c)) v)) ∧
  (∀ (s : State) (l : Fin 32) (c : Coeff) (v : Word) (o : Origin), s.cteDormant = false → s.portRefusal o = none → s.flag (F.CTE_L_CFG_DWR_EN l) = false →
    ∃ t, exec (.directCoeffWrite l c v o) s = .next t ∧ Raised Ev.CTE_DWR_REJ s t ∧ t.rd (coeffAddr l (coeffIndex c)) = s.rd (coeffAddr l (coeffIndex c))) ∧
  (∀ (s : State) (tc : Tc), ∃ t, exec (.stockpotCommit tc) s = .next t ∧ t.pot.buffer = s.pot.buffer.filter (fun w => decide ((tc - w.tc).toNat < 640)) ∧
    t.flag F.LAN_SP_STAT_IMG0 = imageUsable (t.imageCopy 0) s.placement ∧ t.flag F.LAN_SP_STAT_IMG1 = imageUsable (t.imageCopy 1) s.placement ∧
    ∀ w, s.pot.buffer = [w] → 640 ≤ (tc - w.tc).toNat → ∀ i, i < w.bytes.length → t.pot.mem.get (w.addr + i) = w.bytes.getD i 0)

/-- A completed computation stages its contribution with its snapshot's epoch, keeps it as the last one, shows UNALIGNED, and clears AGED where its snapshot is fresh. A host write is in effect and restarts the host timer; after TMO without one HOST_TMO is set. A housekeeping round raises the derating step at once, with STEP_UP, to the highest of its sources, and stages the thermal contribution at that step, or at 16 while the cause word is set; an ECC error in it is REC_LOST. SD_ACK with the key starts the clearing where both sensors are cool, else it is ACK_REF; the cleared cause word, whose write needs a Lid, releases input 60. (R304, R305, R306, R307, R309, R310, R311, R315, R316, R448) -/
def Obligations.DispatchAndThermal : Prop :=
  (∀ (s : State) (tc : Tc) (snap : Snapshot) (host : Word), s.dsp.work = some (snap, host) →
    ∃ t c, exec (.dispatchComplete tc) s = .next t ∧ t.dsp.stagedD = some c ∧ t.dsp.last = some c ∧ c.epoch = snap.epoch ∧ c.step = 0 ∧
      t.flag F.DSP_STAT_UNALIGNED = (!snap.aligned && s.fld F.PHB_SRC_SOURCE != 0) ∧
      t.fld F.DSP_STAT_AGED = (if s.freshSnap snap tc then 0 else s.fld F.DSP_STAT_AGED) ∧ (s.dsp.again = false → t.dsp.work = none) ∧
      (s.dsp.again = true → s.dspRuns = true → s.latest.epoch ≠ 0 → s.hostLate tc = true → t.dsp.work = some (s.latest, s.rd 0xa001c) ∧ t.fld F.DSP_STAT_HOST_TMO = 1) ∧
      (s.dsp.again = true → s.dspRuns = true → s.latest.epoch ≠ 0 → s.hostLate tc = false → t.dsp.work = some (s.latest, s.rd 0xa0014))) ∧
  (∀ (s : State) (v : Word) (tc : Tc), s.blockDormant 10 = false →
    ∃ t, exec (.hostPWrite v tc) s = .next t ∧ t.rd 0xa0014 = v ∧ t.fld F.DSP_STAT_HOST_TMO = 0 ∧ t.dsp.hostTc = tc) ∧
  (∀ (s : State) (tc : Tc), s.blockDormant 10 = false → s.fld F.DSP_HOST_TMO_TMO ≠ 0 → passed tc s.dsp.hostTc (msTicks (s.fld F.DSP_HOST_TMO_TMO)) = true →
    exec (.hostTimeout tc) s = .next (s.put F.DSP_STAT_HOST_TMO 1)) ∧
  (∀ (s : State) (m : RecMedia) (tc : Tc), s.roundDue = true → s.blockDormant 11 = false →
    ∃ t c, exec (.housekeepingRound m tc) s = .next t ∧ t.thm.due = false ∧ t.dsp.stagedT = some c ∧ c.step = (if s.causeSet then 16 else t.fld F.THM_STAT_STEP) ∧
      (s.fld F.THM_STAT_STEP < s.derateMax 0 → t.fld F.THM_STAT_STEP = s.derateMax 0 ∧ Raised Ev.THM_STEP_UP s t ∧ t.thm.held = 0) ∧
      (s.derateMax 0 ≤ s.fld F.THM_STAT_STEP → s.fld F.THM_STAT_STEP ≤ s.derateMax 1 → t.fld F.THM_STAT_STEP = s.fld F.THM_STAT_STEP ∧ t.thm.held = s.thm.held + 1) ∧
      (s.recRuns = true → m.ecc = true → Raised Ev.REC_LOST s t)) ∧
  (∀ s : State, s.blockDormant 11 = false → s.causeSet = true → s.junctionsCool = true →
    exec (.sdAck 0x5A3C) s = .next { s with thm := { s.thm with clearing := true } }) ∧
  (∀ s : State, s.blockDormant 11 = false → s.causeSet = true → s.junctionsCool = false →
    ∃ t, exec (.sdAck 0x5A3C) s = .next t ∧ t.thm = s.thm ∧ Raised Ev.THM_ACK_REF s t) ∧
  (∀ (s : State) (key : Word), key ≠ 0x5A3C → exec (.sdAck key) s = .next s) ∧
  (∀ (s : State) (tc : Tc), s.thm.clearing = true → s.lidHeld = true →
    ∃ t, exec (.causeWordCleared tc) s = .next t ∧ t.thm.clearing = false ∧ t.fld F.THM_STAT_SD_PEND = 0 ∧ t.fld F.THM_SD_WORD_WORD = 0 ∧
      t.prt.given.getLsbD 60 = false) ∧
  (∀ (s : State) (tc : Tc), s.thm.clearing = false ∨ s.lidHeld = false → exec (.causeWordCleared tc) s = .next s)

/-- A completed 0.1 h is counted and kept with remainder 0. A due fold waits in a hold; otherwise, with sound media, the record with the next number is written, holds the totals, and the staging starts again with REC_FOLD. A load of a record that does not exist fails with 1; any other is loaded, and at its end fills the window with END equal to BEG, or fails with 3 on a read error. HOLD is set and released by its keys and ends after HOLD_MAX minutes. A clearing that is refused shows its reason; an accepted one clears its scopes and counts. Each attempt takes a new nonce. (R438, R444, R445, R446, R447, R448) -/
def Obligations.RecorderCommands : Prop :=
  (∀ (s : State) (tc : Tc), s.lidHeld = true →
    ∃ t, exec (.hoursIncrement tc) s = .next t ∧ t.fld F.REC_HOURS_VALUE = (s.fld F.REC_HOURS_VALUE + 1) % 2 ^ 32 ∧
      t.rcd.hoursPair = some (t.fld F.REC_HOURS_VALUE, 0) ∧ t.rcd.remSec = 0 ∧ t.rcd.remTc = tc) ∧
  (∀ (s : State) (m : RecMedia), s.recRuns = true → s.rcd.lastFold + s.fld F.REC_CFG_FOLD ≤ s.fld F.REC_HOURS_VALUE → s.flag F.REC_STAT_HOLD = true →
    exec (.foldDue m) s = .next { s with rcd := { s.rcd with foldDue := true } }) ∧
  (∀ (s : State) (m : RecMedia), s.recRuns = true → s.rcd.lastFold + s.fld F.REC_CFG_FOLD ≤ s.fld F.REC_HOURS_VALUE → s.flag F.REC_STAT_HOLD = false →
    s.flashUsable = true → s.flag F.REC_STAT_FRAM_DEG = false → m.flash = 0 → m.fram = 0 → s.fld F.REC_SEQ_END_VALUE + 1 < 2 ^ 32 →
    ∃ t, exec (.foldDue m) s = .next t ∧ t.fld F.REC_SEQ_END_VALUE = s.fld F.REC_SEQ_END_VALUE + 1 ∧ Raised Ev.REC_FOLD s t ∧
      t.recordOf (s.fld F.REC_SEQ_END_VALUE + 1) = some (s.foldRecord 1 0 (s.fld F.REC_SEQ_END_VALUE + 1)) ∧
      t.rcd.total = s.recTotals ∧ t.rcd.acc = [] ∧ t.rcd.lastFold = s.fld F.REC_HOURS_VALUE ∧ t.rcd.foldDue = false ∧ t.rcd.dirty = false) ∧
  (∀ (s : State) (v : Word), s.recRuns = true → v.toNat ≠ 0 → v.toNat < s.fld F.REC_SEQ_BEGIN_VALUE ∨ s.fld F.REC_SEQ_END_VALUE < v.toNat →
    ∃ t, exec (.recordLoad v) s = .next t ∧ t.fld F.REC_RD_STAT_STATE = rdFailed ∧ t.fld F.REC_RD_STAT_RESULT = 1 ∧ t.fld F.REC_STAT_BUSY = 0) ∧
  (∀ (s : State) (v : Word), s.recRuns = true → v.toNat = 0 ∨ 0 < s.fld F.REC_SEQ_BEGIN_VALUE ∧ s.fld F.REC_SEQ_BEGIN_VALUE ≤ v.toNat ∧ v.toNat ≤ s.fld F.REC_SEQ_END_VALUE →
    ∃ t, exec (.recordLoad v) s = .next t ∧ t.rcd.loading = some v.toNat ∧ t.fld F.REC_RD_STAT_STATE = rdLoading ∧ t.fld F.REC_STAT_BUSY = 1 ∧
      t.fld F.REC_RD_BEG_VALUE = (s.fld F.REC_RD_BEG_VALUE + 1) % 2 ^ 32) ∧
  (∀ (s : State) (q : Nat) (l : List Byte), s.rcd.loading = some q → q ≠ 0 → s.recordOf q = some l → recordValid l = true →
    ∃ t u, exec (.recordLoadDone false) s = .next t ∧ exec (.recordLoadDone true) s = .next u ∧ t.rcd.window = l ∧ t.rcd.loading = none ∧
      t.fld F.REC_RD_STAT_STATE = rdLoaded ∧ t.fld F.REC_RD_STAT_RESULT = 0 ∧ t.fld F.REC_RD_END_VALUE = s.fld F.REC_RD_BEG_VALUE ∧ t.fld F.REC_STAT_BUSY = 0 ∧
      u.rcd.window = s.rcd.window ∧ u.fld F.REC_RD_STAT_STATE = rdFailed ∧ u.fld F.REC_RD_STAT_RESULT = 3) ∧
  (∀ (s : State) (tc : Tc), s.recRuns = true →
    exec (.holdStart 0xB01D tc) s = .next (({ s with rcd := { s.rcd with holdTc := tc } } : State).put F.REC_STAT_HOLD 1) ∧
    exec (.holdRelease 0x0E1D) s = .next (s.put F.REC_STAT_HOLD 0)) ∧
  (∀ (s : State) (tc : Tc), s.recRuns = true → s.flag F.REC_STAT_HOLD = true → passed tc s.rcd.holdTc (s.fld F.REC_CFG_HOLD_MAX * minuteTicks) = true →
    exec (.holdTimeout tc) s = .next (s.put F.REC_STAT_HOLD 0)) ∧
  (∀ (s : State) (sg : Bool) (m : RecMedia), s.recRuns = true → s.clrRefusal sg ≠ 0 →
    ∃ t, exec (.recordClear 0xC1EA sg m) s = .next t ∧ t.fld F.REC_CLR_STAT_REFUSE = s.clrRefusal sg ∧ t.freeCount = s.freeCount + 1 ∧ t.rcd = s.rcd ∧
      t.fld F.REC_CLR_NONCE_VALUE = (Config.freeValue s.freeCount).toNat % 2 ^ 32) ∧
  (∀ (s : State) (sg : Bool) (m : RecMedia), s.recRuns = true → s.clrRefusal sg = 0 →
    ∃ t, exec (.recordClear 0xC1EA sg m) s = .next t ∧ Raised Ev.REC_CLEARED s t ∧ t.freeCount = s.freeCount + 1 ∧
      t.fld F.REC_CLR_STAT_COUNT = ((s.rcd.counters.get cntClear).toNat + 1) % 2 ^ 16 ∧
      ((leAt s.clrToken 2 2).testBit 0 = true → t.rcd.acc = [] ∧ t.rcd.total = [] ∧ t.rcd.unrec = 0) ∧
      ((leAt s.clrToken 2 2).testBit 2 = true → t.rcd.extremes = List.replicate 51 none))

/-- The delay timer of a port that is up sends the next Pdelay_Req and counts it; the third unanswered one in a row invalidates the delay with PDLY_LOST. A request received is answered with its turnaround. An address unseen for 300 s leaves the table. A frame with a bad FCS or beyond 1518 bytes is discarded and counted; one of the lane side is dropped while no lane holds the Lid, in a control step as a stale transfer of sink 7; a good one to a learned port goes there unchanged and is counted at both. A change of a link is shown with its event and, downwards, invalidates the delay; a sleeping port stays down. A TC10 sleep request is acknowledged and obeyed, or rejected. (R402, R403, R404, R405, R407, R418) -/
def Obligations.EthernetPorts : Prop :=
  (∀ (s : State) (p : Fin 2) (stamp : Nat), s.eth.Sized → s.ethUp p = true →
    ∃ t q, q = (s.ethPort p).seq + 1 ∧ exec (.pdelayReqTimer p stamp) s = .next t ∧ t.sent = .pdelayReq p (s.fld F.TIM_SERVO_CFG_DOMAIN) q.toNat :: s.sent ∧
      (t.ethPort p).seq = q ∧ (t.ethPort p).req = some (q, (outStamp p stamp).toNat) ∧ t.fld (F.ETH_E_TX_VALUE p) = (s.fld (F.ETH_E_TX_VALUE p) + 1) % 2 ^ 32 ∧
      ((s.ethPort p).req.isSome = true → (s.ethPort p).missed = 2 → t.fld (F.ETH_E_PDLY_VALID p) = 0 ∧ Raised Ev.ETH_PDLY_LOST s t) ∧
      ((s.ethPort p).req = none → (t.ethPort p).missed = 0 ∧ t.fld (F.ETH_E_PDLY_VALID p) = s.fld (F.ETH_E_PDLY_VALID p))) ∧
  (∀ (s : State) (p : Fin 2) (q : BitVec 16) (i e : Nat), s.ethUp p = true →
    exec (.pdelayReqReceive p q i e) s =
      .next ((s.put (F.ETH_E_TX_VALUE p) (s.fld (F.ETH_E_TX_VALUE p) + 1)).emit (.pdelayResp p q.toNat ((outStamp p e - s.inStamp p i) * 2 ^ 14)))) ∧
  (∀ (s : State) (mac : BitVec 48) (tc : Tc), ∃ t, exec (.addressAgeOut mac tc) s = .next t ∧ t.objs = s.objs ∧
    ∀ e, e ∈ t.eth.table ↔ e ∈ s.eth.table ∧ (e.1 ≠ mac.toNat ∨ (tc - e.2.2).toNat < 75000000000)) ∧
  (∀ (s : State) (p : Fin 3) (f : EthFrame) (tc : Tc), s.ethUp p = true → s.blockDormant 16 = false → (p = 2 → s.lidHeld = true) →
    f.fcs = false ∨ 1518 < f.bytes.length →
    exec (.ethFrameReceive p f tc) s = .next (s.put (F.ETH_E_ERR_DISCARD p) (s.fld (F.ETH_E_ERR_DISCARD p) + 1))) ∧
  (∀ (s : State) (f : EthFrame) (tc : Tc), s.blockDormant 16 = false → s.lidHeld = false →
    exec (.ethFrameReceive 2 f tc) s = .next (if s.lan.control.isSome && s.ethUp 2 then s.staleTransfer 7 else s)) ∧
  (∀ (s : State) (f : EthFrame) (tc : Tc) (e : Nat × Nat × Tc), s.ethUp 0 = true → s.ethUp 1 = true → s.blockDormant 16 = false → f.fcs = true → f.bytes.length ≤ 1518 →
    ptpAt f.bytes = none → macGroup (beAt f.bytes 0 6) = false → beAt f.bytes 0 6 ≠ s.macOwn → s.flag F.ETH_CFG_ISOLATE = false →
    (ethLearn s.eth.table (beAt f.bytes 6 6) 0 tc).find? (fun x => x.1 == beAt f.bytes 0 6) = some e → e.2.1 = 1 →
    (f.full.getD 1 0).getLsbD (s.ethQueue f.bytes) = false →
    ∃ t, exec (.ethFrameReceive 0 f tc) s = .next t ∧ t.sent = .eth 1 f.bytes :: s.sent ∧ t.eth.table = ethLearn s.eth.table (beAt f.bytes 6 6) 0 tc ∧
      t.fld (F.ETH_E_RX_VALUE 0) = (s.fld (F.ETH_E_RX_VALUE 0) + 1) % 2 ^ 32 ∧ t.fld (F.ETH_E_TX_VALUE 1) = (s.fld (F.ETH_E_TX_VALUE 1) + 1) % 2 ^ 32) ∧
  (∀ (s : State) (p : Fin 2) (up : Bool), s.blockDormant 16 = false → s.flag (ethLink p) ≠ up → (up = true → s.fld (ethTc10 p) ≠ tc10Asleep) →
    ∃ t, exec (.ethLinkChange p up) s = .next t ∧ t.flag (ethLink p) = up ∧ Raised (ethLinkEv p) s t ∧
      (up = false → t.fld (F.ETH_E_PDLY_VALID p) = 0 ∧ Raised Ev.ETH_PDLY_LOST s t ∧ (s.fld (ethTc10 p) = tc10Wait → t.fld (ethTc10 p) = tc10Asleep))) ∧
  (∀ (s : State) (p : Fin 2), s.fld (ethTc10 p) = tc10Asleep → exec (.ethLinkChange p true) s = .next s) ∧
  (∀ (s : State) (p : Fin 2), s.blockDormant 16 = false → s.flag (ethLink p) = true → s.flag F.ETH_CFG_ACCEPT_SLEEP = true →
    ∃ t, exec (.tc10SleepRequest p) s = .next t ∧ t.sent = .tc10Ack p :: s.sent ∧ t.fld (ethTc10 p) = tc10Asleep ∧ t.flag (ethLink p) = false) ∧
  (∀ (s : State) (p : Fin 2), s.blockDormant 16 = false → s.flag (ethLink p) = true → s.flag F.ETH_CFG_ACCEPT_SLEEP = false →
    exec (.tc10SleepRequest p) s = .next (s.emit (.tc10Reject p)))

/-- SUBMIT from IDLE advances SEQ and takes the open staging into CHECKING; an overflowed staging is discarded with outcome 0x11, an empty one has outcome 0x10, and outside IDLE it is counted as ignored. DISCARD empties the staging and clears OVF. The checks end in PASSED or with code and address of the failure. CFG_SELECT is stored with its marks if every slot it needs is VERIFIED and the two differ. The safety check value opens the confirmation window and its complement within 10 s starts the record; a wrong value closes the window with CONF_FAIL. The written record confirms the image; without a Lid it is not written. (R92, R94, R96, R99, R100, R101, R102) -/
def Obligations.LiveSetAndConfirmation : Prop :=
  (∀ s : State, s.stagingOpen = true → s.fld F.CFG_LS_STAT_STATE = lsIdle → s.flag F.CFG_LS_STAT_OVF = false → s.cfg.staging ≠ [] →
    ∃ t, exec .lsSubmit s = .next t ∧ t.cfg.submitted = s.cfg.staging ∧ t.cfg.staging = [] ∧ t.fld F.CFG_LS_STAT_STATE = lsChecking ∧
      t.fld F.CFG_LS_STAT_OPEN_CNT = 0 ∧ t.fld F.CFG_LS_STAT_SEQ = (s.fld F.CFG_LS_STAT_SEQ + 1) % 2 ^ 16 ∧ t.fld F.CFG_LS_LOST_LOST_CNT = 0) ∧
  (∀ s : State, s.stagingOpen = true → s.fld F.CFG_LS_STAT_STATE = lsIdle → s.flag F.CFG_LS_STAT_OVF = true →
    ∃ t, exec .lsSubmit s = .next t ∧ t.cfg.staging = [] ∧ t.fld F.CFG_LS_OUT_CODE = 0x11 ∧ t.flag F.CFG_LS_STAT_OVF = false ∧ Raised Ev.CFG_LS_DONE s t ∧
      t.fld F.CFG_LS_OUT_SEQ = (s.fld F.CFG_LS_STAT_SEQ + 1) % 2 ^ 16) ∧
  (∀ s : State, s.stagingOpen = true → s.fld F.CFG_LS_STAT_STATE = lsIdle → s.flag F.CFG_LS_STAT_OVF = false → s.cfg.staging = [] →
    ∃ t, exec .lsSubmit s = .next t ∧ t.fld F.CFG_LS_OUT_CODE = 0x10 ∧ t.fld F.CFG_LS_STAT_STATE = lsIdle ∧ Raised Ev.CFG_LS_DONE s t) ∧
  (∀ s : State, s.stagingOpen = true → s.fld F.CFG_LS_STAT_STATE ≠ lsIdle →
    exec .lsSubmit s = .next (s.put F.CFG_LS_CNT_SUB_IGN (s.fld F.CFG_LS_CNT_SUB_IGN + 1))) ∧
  (∀ s : State, s.stagingOpen = false → exec .lsSubmit s = .next s ∧ exec .lsDiscard s = .next s) ∧
  (∀ s : State, s.stagingOpen = true →
    ∃ t, exec .lsDiscard s = .next t ∧ t.cfg = { s.cfg with staging := [] } ∧ t.fld F.CFG_LS_STAT_OPEN_CNT = 0 ∧ t.flag F.CFG_LS_STAT_OVF = false) ∧
  (∀ s : State, s.fld F.CFG_LS_STAT_STATE = lsChecking → s.checkSet s.cfg.submitted = none →
    exec .lsChecksDone s = .next (s.put F.CFG_LS_STAT_STATE lsPassed)) ∧
  (∀ (s : State) (c a : Nat), s.fld F.CFG_LS_STAT_STATE = lsChecking → s.checkSet s.cfg.submitted = some (c, a) →
    ∃ t, exec .lsChecksDone s = .next t ∧ t.cfg = { s.cfg with submitted := [] } ∧ t.fld F.CFG_LS_STAT_STATE = lsIdle ∧ t.fld F.CFG_LS_OUT_CODE = c % 2 ^ 8 ∧
      t.fld F.CFG_LS_FAIL_ADDR_ADDR = a % 2 ^ 32 ∧ Raised Ev.CFG_LS_DONE s t) ∧
  (∀ (s : State) (v : Word), s.fld (F.CFG_SLOT_STAT_STATE (fieldOf v 0 2)) = slVerified → fieldOf v 0 2 ≠ fieldOf v 4 2 →
    (v.getLsbD 8 = true → s.fld (F.CFG_SLOT_STAT_STATE (fieldOf v 4 2)) = slVerified) →
    ∃ t, exec (.cfgSelectWrite v) s = .next t ∧ t.fld F.CFG_SELECT_PRIMARY = fieldOf v 0 2 ∧ t.fld F.CFG_SELECT_FALLBACK = fieldOf v 4 2 ∧
      t.flag F.CFG_SELECT_FB_EN = v.getLsbD 8 ∧ ∀ k, k < 4 → t.flag (F.CFG_SLOT_STAT_PRI_MARK k) = (fieldOf v 0 2 == k) ∧
        t.flag (F.CFG_SLOT_STAT_FB_MARK k) = (fieldOf v 4 2 == k)) ∧
  (∀ (s : State) (v : Word), s.fld (F.CFG_SLOT_STAT_STATE (fieldOf v 0 2)) ≠ slVerified ∨ fieldOf v 0 2 = fieldOf v 4 2 → exec (.cfgSelectWrite v) s = .next s) ∧
  (∀ (s : State) (v : Word) (tc : Tc), s.flag F.CFG_STAT_CONFIRMED = false → s.flag F.CFG_STAT_VALID = true → v.toNat = s.fld F.CFG_SAFETY_CV_VALUE →
    exec (.cfgConfirm v tc) s = .next (({ s with cfg := { s.cfg with windowTc := tc } } : State).put F.CFG_STAT_CONF_WIN 1)) ∧
  (∀ (s : State) (v : Word) (tc : Tc), s.flag F.CFG_STAT_CONFIRMED = false → v.toNat ≠ s.fld F.CFG_SAFETY_CV_VALUE →
    ∃ t, exec (.cfgConfirm v tc) s = .next t ∧ t.fld F.CFG_STAT_CONF_WIN = 0 ∧ t.cfg = s.cfg ∧ Raised Ev.CFG_CONF_FAIL s t) ∧
  (∀ (s : State) (v : Word) (tc : Tc), s.flag F.CFG_STAT_CONFIRMED = false → s.flag F.CFG_STAT_CONF_WIN = true → (tc - s.cfg.windowTc).toNat ≤ confirmWindow →
    (~~~v).toNat = s.fld F.CFG_SAFETY_CV_VALUE →
    exec (.cfgConfirmInv v tc) s = .next (({ s with cfg := { s.cfg with confirmWriting := true } } : State).put F.CFG_STAT_CONF_WIN 0)) ∧
  (∀ (s : State) (v : Word) (tc : Tc), s.flag F.CFG_STAT_CONFIRMED = true → exec (.cfgConfirm v tc) s = .next s ∧ exec (.cfgConfirmInv v tc) s = .next s) ∧
  (∀ (s : State) (tc : Tc), s.flag F.CFG_STAT_CONF_WIN = true → confirmWindow ≤ (tc - s.cfg.windowTc).toNat →
    exec (.confirmWindowExpiry tc) s = .next (s.put F.CFG_STAT_CONF_WIN 0)) ∧
  (∀ s : State, s.cfg.Sized → s.cfg.confirmWriting = true → s.lidHeld = true →
    ∃ t, exec .confirmationRecordWritten s = .next t ∧ t.fld F.CFG_STAT_CONFIRMED = 1 ∧ t.fld (F.CFG_SLOT_STAT_CONFIRMED (s.fld F.CFG_STAT_SLOT)) = 1 ∧
      t.cfg.confirms.getD (s.fld F.CFG_STAT_SLOT) none = some (BitVec.ofNat 32 (s.fld F.CFG_SAFETY_CV_VALUE)) ∧ t.cfg.confirmDue = true ∧ t.cfg.confirmWriting = false) ∧
  (∀ s : State, s.cfg.confirmWriting = false ∨ s.lidHeld = false → exec .confirmationRecordWritten s = .next s)

/-- An opening that nothing refuses gives the sender a session for the token's minutes; a refused one shows its reason with AUTH_FAIL; both take a new nonce. The close key, the end of validity and 10 minutes of silence end the session and abort its transfer. START opens a transfer to a free target, which is WRITING; each block in order is kept and answered 0, the last one again 1, any other 2, and 3 without a transfer. Verification makes the target VERIFIED with its content or INVALID with its code, with XFER_END; a bundle gives the four keys and a new storage key and empties the image slots; ABORT and 30 s without a block make it INVALID with 0x0B. Activation writes a trial into the boot record, confirmation ends it and raises SV_MIN. (R473, R474, R476, R477, R479, R480, R481, R488) -/
def Obligations.SessionsAndUpdates : Prop :=
  (∀ (s : State) (src : BitVec 48) (sg : Bool) (tc : Tc), s.serviceUp = true → s.authRefusal sg = 0 →
    ∃ t, exec (.sessionOpen src 0xA071 sg tc) s = .next t ∧ t.fld F.UPD_STAT_SESSION = 1 ∧ t.freeCount = s.freeCount + 1 ∧
      t.upd.session = some { owner := src, endTc := tc + BitVec.ofNat 64 (minTicks (leAt s.authToken 2 2)), lastTc := tc } ∧
      t.fld F.UPD_SVC_NONCE_VALUE = (Config.freeValue s.freeCount).toNat % 2 ^ 32) ∧
  (∀ (s : State) (src : BitVec 48) (sg : Bool) (tc : Tc), s.serviceUp = true → s.authRefusal sg ≠ 0 →
    ∃ t, exec (.sessionOpen src 0xA071 sg tc) s = .next t ∧ t.fld F.UPD_AUTH_STAT_REFUSE = s.authRefusal sg ∧ t.upd = s.upd ∧ t.freeCount = s.freeCount + 1 ∧
      Raised Ev.UPD_AUTH_FAIL s t) ∧
  (∀ (s : State) (x : Session), s.serviceUp = true → s.upd.session = some x →
    ∃ t, exec (.sessionClose 0xC105) s = .next t ∧ t.upd.session = none ∧ t.upd.xfer = none ∧ t.fld F.UPD_STAT_SESSION = 0 ∧ t.fld F.UPD_AUTH_STAT_MINUTES = 0) ∧
  (∀ (s : State) (tc : Tc) (x : Session), s.upd.session = some x → x.endTc.toNat ≤ tc.toNat ∨ passed tc x.lastTc (minTicks 10) = true →
    ∃ t, exec (.sessionTimeout tc) s = .next t ∧ t.upd.session = none ∧ t.upd.xfer = none ∧ t.fld F.UPD_STAT_SESSION = 0) ∧
  (∀ (s : State) (v : Word) (tc : Tc) (k n : Nat), s.serviceUp = true → fieldOf v 0 2 = 1 → k = fieldOf v 4 2 → n = fieldOf v 8 2 → s.mayTransfer k = true →
    s.upd.xfer = none → s.slotRefused k n = false → s.fld F.UPD_XFER_LEN_VALUE ≤ targetLimit k →
    ∃ t, exec (.xferStart v tc) s = .next t ∧
      t.upd.xfer = some { target := k, slot := n, len := s.fld F.UPD_XFER_LEN_VALUE, data := [], lastOff := none, lastTc := tc } ∧
      (k ≠ 3 → t.targetState k n = slWriting) ∧ t.fld F.UPD_XFER_STAT_STATE = 1 ∧ t.fld F.UPD_XFER_DONE_VALUE = 0 ∧ t.fld F.UPD_XFER_STAT_RESULT = 0) ∧
  (∀ (s : State) (v : Word) (tc : Tc), s.serviceUp = true → fieldOf v 0 2 = 1 → s.mayTransfer (fieldOf v 4 2) = true → s.upd.xfer.isSome = true →
    exec (.xferStart v tc) s = .next (s.put F.UPD_XFER_STAT_RESULT 0x11)) ∧
  (∀ (s : State) (v : Word) (x : Xfer), s.serviceUp = true → fieldOf v 0 2 = 2 → s.upd.session.isSome = true → s.upd.xfer = some x →
    ∃ t, exec (.xferAbort v) s = .next t ∧ t.upd.xfer = none ∧ t.fld F.UPD_XFER_STAT_RESULT = 0x0B ∧ t.fld F.UPD_XFER_STAT_STATE = 0 ∧
      (x.target < 3 → t.targetState x.target x.slot = slInvalid)) ∧
  (∀ (s : State) (tc : Tc) (x : Xfer), s.upd.xfer = some x → s.fld F.UPD_XFER_STAT_STATE = 1 → passed tc x.lastTc 7500000000 = true →
    ∃ t, exec (.xferTimeout tc) s = .next t ∧ t.upd.xfer = none ∧ t.fld F.UPD_XFER_STAT_RESULT = 0x0B ∧ (x.target < 3 → t.targetState x.target x.slot = slInvalid)) ∧
  (∀ (s : State) (src : BitVec 48) (l : List Byte) (tc : Tc) (x : Xfer) (n off : Nat), s.hearsXfer src = true → n = leAt l 4 2 → off = leAt l 0 4 → 1 ≤ n → n ≤ 1024 →
    l.length = 8 + n → s.upd.xfer = some x →
    (off = x.data.length → s.fld F.UPD_XFER_STAT_STATE = 1 → blockFits x n = true →
      ∃ t, exec (.xferDatagram src l tc) s = .next t ∧ t.sent = .xferAnswer off 0 :: s.sent ∧
        t.upd.xfer = some { x with data := x.data ++ l.drop 8, lastOff := some off, lastTc := tc } ∧ t.fld F.UPD_XFER_DONE_VALUE = (off + n) % 2 ^ 32 ∧
        t.fld F.UPD_XFER_STAT_STATE = (if off + n = x.len then 2 else 1)) ∧
    (off ≠ x.data.length → exec (.xferDatagram src l tc) s = .next (s.emit (.xferAnswer off (if x.lastOff = some off then 1 else 2))))) ∧
  (∀ (s : State) (v : XferVerdict) (x : Xfer), s.cfg.Sized → s.upd.xfer = some x → s.fld F.UPD_XFER_STAT_STATE = 2 → x.target = 1 → x.slot < 4 →
    ∃ t, exec (.xferVerifyDone v) s = .next t ∧ t.upd.xfer = none ∧ t.fld F.UPD_STAT_XFER = 0 ∧ Raised Ev.UPD_XFER_END s t ∧
      (s.xferCode x v = 0 → t.fld F.UPD_XFER_STAT_RESULT = 1 ∧ t.targetState 1 x.slot = slVerified ∧ t.cfg.slots.getD x.slot [] = v.plain ∧
        t.cfg.confirms.getD x.slot (some 1) = none) ∧
      (s.xferCode x v ≠ 0 → t.fld F.UPD_XFER_STAT_RESULT = s.xferCode x v % 2 ^ 8 ∧ t.targetState 1 x.slot = slInvalid ∧ t.cfg = s.cfg)) ∧
  (∀ (s : State) (v : XferVerdict) (x : Xfer), s.upd.xfer = some x → s.fld F.UPD_XFER_STAT_STATE = 2 → x.target = 3 → s.xferCode x v = 0 →
    ∃ t, exec (.xferVerifyDone v) s = .next t ∧ t.upd.xfer = none ∧ t.fld F.UPD_XFER_STAT_RESULT = 1 ∧
      t.upd.keys.image = (v.plain.drop 16).take 96 ∧ t.upd.keys.clear = (v.plain.drop 112).take 96 ∧ t.upd.keys.service = (v.plain.drop 208).take 96 ∧
      t.upd.keys.transport = (v.plain.drop 304).take 32 ∧ t.freeCount = s.freeCount + 4 ∧ t.fld F.UPD_KS_STAT_KEYS = 0x1F ∧ t.flag F.UPD_STAT_PROVISIONED = true ∧
      t.upd.areaState = slEmpty ∧ Raised Ev.UPD_PROVISIONED s t ∧ Raised Ev.UPD_XFER_END s t ∧ ∀ k, k < 4 → t.targetState 1 k = slEmpty) ∧
  (∀ (s : State) (v : Word) (k : Nat), s.serviceUp = true → s.upd.session.isSome = true → k = fieldOf v 0 1 → fieldOf v 16 16 = 0x5A17 → s.bootable k = true →
    s.flag (F.UPD_FW_STAT_RUNNING k) = false →
    ∃ t, exec (.fwActivate v) s = .next t ∧ t.upd.boot = bootWord s.bootRun true k 0 ∧ t.upd.bootInv = ~~~t.upd.boot ∧ t.bootTrial = true ∧ t.bootTrialSlot = k ∧
      t.bootAttempts = 0 ∧ t.bootRun = s.bootRun ∧ t.flag (F.UPD_FW_STAT_TRIAL k) = true) ∧
  (∀ s : State, s.serviceUp = true → s.upd.session.isSome = true → s.bootTrial = true → s.bootTrialSlot = s.runningSlot → s.flag F.PWR_STAT_READY = true →
    ∃ t, exec (.fwConfirm 0xC0F1) s = .next t ∧ t.bootTrial = false ∧ t.bootRun = s.runningSlot ∧ t.flag (F.UPD_FW_STAT_TRIAL s.runningSlot) = false ∧
      t.fld F.UPD_KS_STAT_SV_MIN = max (s.fld F.UPD_KS_STAT_SV_MIN) (s.fld (F.UPD_FW_STAT_SECVER s.runningSlot)))

/-- A force command in a session waits for phase 1 with address and value as they stand; a trigger and a cold restart wait too. An on-line change that fails a check ends with its code and OLC_DONE; one that passes waits for phase 1. An invalid IN frame is counted; the awaited one gives the inputs and ends the run of misses. A missed response is counted, and MISS_MAX in a row lose the station with RIO_LOST. A due cycle starts with the latest epoch and safe outputs off; one that ends, without bound outputs, shows its time and counts. WDT x T_C after its start a program without bound variables halts with SEQ_HALT and safe outputs. (R365, R366, R368, R369, R370, R371, R372, R375, R378) -/
def Obligations.SequenceProgram : Prop :=
  (∀ (s : State), s.inSession = true → s.blockDormant 14 = false →
    exec .forceSet s = .next { s with seq := { s.seq with commands := s.seq.commands ++ [(1, s.fld F.SEQ_FORCE_ADDR_VALUE, s.fld F.SEQ_FORCE_VAL_VALUE)] } } ∧
    exec .forceRelease s = .next { s with seq := { s.seq with commands := s.seq.commands ++ [(2, s.fld F.SEQ_FORCE_ADDR_VALUE, s.fld F.SEQ_FORCE_VAL_VALUE)] } } ∧
    exec .forceReleaseAll s = .next { s with seq := { s.seq with commands := s.seq.commands ++ [(3, s.fld F.SEQ_FORCE_ADDR_VALUE, s.fld F.SEQ_FORCE_VAL_VALUE)] } }) ∧
  (∀ (s : State) (b : BitVec 8), s.blockDormant 14 = false →
    exec (.seqTrig b) s = .next { s with seq := { s.seq with trig := s.seq.trig ||| b } } ∧
    exec .seqRestart s = .next { s with seq := { s.seq with coldDue := true } }) ∧
  (∀ (s : State) (x : OlcCheck), s.blockDormant 14 = false → s.upd.areaState ≠ slVerified ∨ x.base.toNat ≠ s.fld F.SEQ_PROG_CV_CV →
    ∃ t, exec (.olcApply x) s = .next t ∧ t.fld F.SEQ_OLC_STAT_CODE = 1 ∧ t.seq = s.seq ∧ Raised Ev.SEQ_OLC_DONE s t) ∧
  (∀ (s : State) (x : OlcCheck), s.blockDormant 14 = false → s.upd.areaState = slVerified → x.base.toNat = s.fld F.SEQ_PROG_CV_CV →
    exec (.olcApply x) s = .next (if s.olcContent (Config.seqChange s.upd.area) = false then (s.put F.SEQ_OLC_STAT_CODE 2).event Ev.SEQ_OLC_DONE
      else if s.flag F.LAN_STAT_STBY_OK = false then (s.put F.SEQ_OLC_STAT_CODE 3).event Ev.SEQ_OLC_DONE
      else if x.standby = false then (s.put F.SEQ_OLC_STAT_CODE 4).event Ev.SEQ_OLC_DONE
      else { s with seq := { s.seq with change := some (Config.seqChange s.upd.area) } })) ∧
  (∀ (s : State) (i : Fin 16) (l : List Byte) (tc : Tc) (x : SeqStation), s.seq.Sized → s.seqStations.find? (fun x => x.index == i.val) = some x →
    (s.inValid x l = false → ∃ t, exec (.rioInFrame i l tc) s = .next t ∧ t.seq = s.seq ∧ t.fld (F.SEQ_STN_CNT_BAD i) = (s.fld (F.SEQ_STN_CNT_BAD i) + 1) % 2 ^ 16) ∧
    (s.inValid x l = true → (s.stn i).waiting = true →
      ∃ t, exec (.rioInFrame i l tc) s = .next t ∧ t.fld (F.SEQ_STN_STAT_MISS_RUN i) = 0 ∧
        t.stn i = { s.stn i with inputs := (l.drop 2).take x.nIn, waiting := false, good := (s.stn i).good + 1, stale := false })) ∧
  (∀ (s : State) (i : Fin 16) (tc : Tc) (x : SeqStation), s.seq.Sized → s.seqStations.find? (fun x => x.index == i.val) = some x → (s.stn i).waiting = true →
    msTicks x.respTmo ≤ (tc - (s.stn i).sentTc).toNat →
    ∃ t, exec (.rioResponseMissed i tc) s = .next t ∧ t.fld (F.SEQ_STN_CNT_MISSED i) = (s.fld (F.SEQ_STN_CNT_MISSED i) + 1) % 2 ^ 16 ∧
      t.fld (F.SEQ_STN_STAT_MISS_RUN i) = min 15 (s.fld (F.SEQ_STN_STAT_MISS_RUN i) + 1) ∧ (t.stn i).waiting = false ∧ (t.stn i).good = 0 ∧
      (s.fld (F.SEQ_STN_STAT_STATE i) = stnRun → x.missMax ≤ s.fld (F.SEQ_STN_STAT_MISS_RUN i) + 1 →
        t.fld (F.SEQ_STN_STAT_STATE i) = stnLost ∧ t.bit F.SEQ_RIO_RUN_BITS i = false ∧ (t.stn i).lostDue = true ∧ Raised Ev.SEQ_RIO_LOST s t) ∧
      (s.fld (F.SEQ_STN_STAT_MISS_RUN i) + 1 < x.missMax → t.fld (F.SEQ_STN_STAT_STATE i) = s.fld (F.SEQ_STN_STAT_STATE i))) ∧
  (∀ (s : State) (n : Nat) (tc : Tc), s.inCharge = true → s.blockDormant 14 = false → s.seq.cycleDue = true → s.seq.running = false →
    ∃ t, exec (.programCycle { start := true, tasks := [], finish := false, time := n } tc) s = .next t ∧ t.seq.running = true ∧ t.seq.startTc = tc ∧
      t.seq.epoch = s.latestEpoch ∧ t.seq.cycleDue = false ∧ t.seq.commands = [] ∧ t.flag F.SEQ_STAT_SAFE_OUT = false) ∧
  (∀ (s : State) (n : Nat) (tc : Tc), s.inCharge = true → s.blockDormant 14 = false → s.seq.running = true → s.seq.stopping = false → s.seq.todo = [] →
    s.seq.phase4 = some false ∨ (s.seq.phase4 = none ∧ s.errorDue = false) → s.outputVars = [] →
    ∃ t, exec (.programCycle { start := false, tasks := [], finish := true, time := n } tc) s = .next t ∧ t.seq.running = false ∧ t.seq.kept = s.seq.vals ∧
      t.fld F.SEQ_TIME_LAST = min 65535 n ∧ t.fld F.SEQ_TIME_MAX = max (min 65535 n) (s.fld F.SEQ_TIME_MAX) ∧ t.fld F.SEQ_STAT_STATE = sqRun ∧
      t.fld F.SEQ_CYCLE_COUNT = (s.fld F.SEQ_CYCLE_COUNT + 1) % 2 ^ 32 ∧ t.flag F.SEQ_STAT_BUSY = false) ∧
  (∀ (s : State) (tc : Tc), s.inCharge = true → s.seq.running = true → passed tc s.seq.startTc (msTicks (s.fld F.SEQ_CFG_WDT * s.fld F.SEQ_CFG_CYCLE)) = true →
    (∀ v ∈ s.seqVars, v.binding = none) →
    ∃ t, exec (.programWatchdog tc) s = .next t ∧ t.seq.running = false ∧ t.fld F.SEQ_STAT_STATE = sqHalt ∧ t.fld F.SEQ_STAT_SAFE_OUT = 1 ∧ Raised Ev.SEQ_HALT s t)

/-- A request of an existing path joins the end of the queue; while a takeover is in hand it is answered LANE_CHANGE, with four of its path waiting BUSY, with an unknown service UNKNOWN. A request of wrong length is answered BAD_LENGTH, one with a refused object that object's index and status. A read is answered with the values of its objects in order from the chosen snapshot, an epoch query with both epochs and the time of the latest aperture, and a write of one live-set object is staged before its answer. Every answer leaves by its path with the request's tag and is counted. (R53, R54, R66, R67, R68, R69, R70, R71, R72) -/
def Obligations.RequestsAreAnswered : Prop :=
  (∀ (s : State) (p : Path) (src : BitVec 48) (pdu : List Byte) (tc : Tc) (r : Request), r = { path := p, src := src, pdu := pdu } → s.lidHeld = true →
    s.obj.running = true → s.pathUp p = true →
    (s.flag F.LAN_STAT_MGMT_PEND = false → (s.obj.queue.filter fun q => q.path == p).length < 4 → 1 ≤ r.service → r.service ≤ 4 →
      ∃ t, exec (.objRequestArrival p src pdu tc) s = .next t ∧ t.obj = { s.obj with queue := s.obj.queue ++ [r] } ∧ t.sent = s.sent) ∧
    (∀ c, c = (if s.flag F.LAN_STAT_MGMT_PEND then stLaneChange else if 4 ≤ (s.obj.queue.filter fun q => q.path == p).length then stBusy else stUnknown) →
      s.flag F.LAN_STAT_MGMT_PEND = true ∨ 4 ≤ (s.obj.queue.filter fun q => q.path == p).length ∨ r.service = 0 ∨ 4 < r.service →
      ∃ t x, exec (.objRequestArrival p src pdu tc) s = .next t ∧ t.sent = .response p x :: s.sent ∧ x.status = BitVec.ofNat 8 c ∧ x.tag = pdu.getD 1 0 ∧
        x.index = 0xFF ∧ x.epoch = s.latestEpoch ∧ x.values = [] ∧ t.obj = s.obj ∧
        t.fld F.OBJ_SVC_CNT_REJECT = (s.fld F.OBJ_SVC_CNT_REJECT + 1) % 2 ^ 16)) ∧
  (∀ (s : State) (tc : Tc) (r : Request) (k : Nat), k = 1 ∨ k = 2 → s.frontRequest k = some r → (r.countOk && r.lengthOk) = false →
    ∃ t x, (k = 1 → exec (.readRange tc) s = .next t) ∧ (k = 2 → exec (.readList tc) s = .next t) ∧ t.sent = .response r.path x :: s.sent ∧
      x.status = BitVec.ofNat 8 stBadLength ∧ x.index = 0xFF ∧ x.values = [] ∧ x.tag = r.pdu.getD 1 0 ∧ t.obj.queue = s.obj.queue.drop 1) ∧
  (∀ (s : State) (tc : Tc) (r : Request) (k i c : Nat), k = 1 ∨ k = 2 → s.frontRequest k = some r → (r.countOk && r.lengthOk) = true →
    s.firstBad r false r.reads 0 = some (i, c) →
    ∃ t x, (k = 1 → exec (.readRange tc) s = .next t) ∧ (k = 2 → exec (.readList tc) s = .next t) ∧ t.sent = .response r.path x :: s.sent ∧
      x.status = BitVec.ofNat 8 c ∧ x.index = BitVec.ofNat 8 i ∧ x.values = [] ∧ t.obj.queue = s.obj.queue.drop 1) ∧
  (∀ (s : State) (tc : Tc) (r : Request) (k : Nat) (snap : Snapshot) (e : Word), k = 1 ∨ k = 2 → s.frontRequest k = some r → (r.countOk && r.lengthOk) = true →
    s.firstBad r false r.reads 0 = none → s.chooseSnapshot r.reads r.selector = .inr (snap, e) →
    ∃ t x, (k = 1 → exec (.readRange tc) s = .next t) ∧ (k = 2 → exec (.readList tc) s = .next t) ∧ t.sent = .response r.path x :: s.sent ∧
      x.status = 0 ∧ x.epoch = e ∧ x.values = (s.readAll snap tc r.reads).2 ∧ x.tag = r.pdu.getD 1 0 ∧ t.obj.queue = s.obj.queue.drop 1 ∧
      t.fld F.OBJ_SVC_CNT_DONE = (s.fld F.OBJ_SVC_CNT_DONE + 1) % 2 ^ 16) ∧
  (∀ (s : State) (y : WriteAid) (tc : Tc) (r : Request) (i c : Nat), s.frontRequest 3 = some r → (r.countOk && r.lengthOk) = true →
    s.firstBad r true (r.writes.map (·.1)) 0 = some (i, c) →
    ∃ t x, exec (.writeList y tc) s = .next t ∧ t.sent = .response r.path x :: s.sent ∧ x.status = BitVec.ofNat 8 c ∧ x.index = BitVec.ofNat 8 i ∧
      t.cfg = s.cfg ∧ t.obj.queue = s.obj.queue.drop 1) ∧
  (∀ (s : State) (y : WriteAid) (tc : Tc) (r : Request) (a : Nat) (v : Word), s.frontRequest 3 = some r → (r.countOk && r.lengthOk) = true →
    s.firstBad r true (r.writes.map (·.1)) 0 = none → r.writes = [(a, v)] → rwsMask a ≠ 0 → s.cfg.staging.length < 1024 →
    ∃ t x, exec (.writeList y tc) s = .next t ∧ t.sent = .response r.path x :: s.sent ∧ x.status = 0 ∧ x.values = [] ∧
      t.cfg.staging = stageInsert a v s.cfg.staging ∧ t.obj.queue = s.obj.queue.drop 1) ∧
  (∀ (s : State) (tc : Tc) (r : Request), s.frontRequest 4 = some r → (r.countOk && r.lengthOk) = true →
    ∃ t x, exec (.epochQuery tc) s = .next t ∧ t.sent = .response r.path x :: s.sent ∧ x.status = 0 ∧ x.epoch = s.latestEpoch ∧
      x.values = [s.latestEpoch, s.previous.epoch, s.latest.tc.extractLsb' 0 32, s.latest.tc.extractLsb' 32 32] ∧ t.obj.queue = s.obj.queue.drop 1)

/-- An access of a lane to an unmapped address is a fault, by the model's choice of outcome. The read of a _LO half gives its value and latches the _HI half. A lane with the Lid and the current epoch stages live-set objects in address order, up to 1,024; an old epoch is counted as stale with sink 3. A path's write that its checks refuse changes nothing. An object without an action of its own takes its RW fields and loses the W1C bits written 1 that hardware does not set in the same clock cycle, and all else in it stays. (R5, R16, R17, R25, R43, R97, R98, R125, R356) -/
def Obligations.SingleAccesses : Prop :=
  (∀ (s : State) (a : BitVec 32) (v : Word) (o : Origin) (x : WriteAid) (tc : Tc), mapped a.toNat = false →
    exec (.pairLoRead a tc) s = .fault .unmappedAddress ∧ exec (.rwsWrite a v (.lane o)) s = .fault .unmappedAddress ∧
    exec (.registerWrite a v (.lane o) x tc) s = .fault .unmappedAddress) ∧
  (∀ (s : State) (a : BitVec 32) (tc : Tc), mapped a.toNat = true → isPairLo a.toNat = true →
    ∃ t, exec (.pairLoRead a tc) s = .next t ∧ t.sent = .readValue a.toNat (s.peek s.latest tc a.toNat) :: s.sent ∧
      t.obj.holding.get (a.toNat + 4) = s.peek s.latest tc (a.toNat + 4) ∧ t.objs = s.objs) ∧
  (∀ (s : State) (a : BitVec 32) (v : Word) (o : Origin), mapped a.toNat = true → rwsMask a.toNat ≠ 0 → s.dormantAt a.toNat = false → s.currentEpoch o = true →
    s.holdsLid o.lane = true → s.stagingOpen = true → s.cfg.staging.length < 1024 →
    exec (.rwsWrite a v (.lane o)) s = .next (({ s with cfg := { s.cfg with staging := stageInsert a.toNat v s.cfg.staging } } : State).put
      F.CFG_LS_STAT_OPEN_CNT (stageInsert a.toNat v s.cfg.staging).length)) ∧
  (∀ (s : State) (a : BitVec 32) (v : Word) (o : Origin), mapped a.toNat = true → rwsMask a.toNat ≠ 0 → s.dormantAt a.toNat = false → s.currentEpoch o = true →
    s.holdsLid o.lane = true → s.stagingOpen = true → 1024 ≤ s.cfg.staging.length → (∀ e ∈ s.cfg.staging, e.1 ≠ a.toNat) →
    exec (.rwsWrite a v (.lane o)) s = .next (s.put F.CFG_LS_STAT_OVF 1)) ∧
  (∀ (s : State) (a : BitVec 32) (v : Word) (o : Origin), mapped a.toNat = true → rwsMask a.toNat ≠ 0 → s.dormantAt a.toNat = false → s.currentEpoch o = false →
    ∃ t, exec (.rwsWrite a v (.lane o)) s = .next t ∧ t.cfg = s.cfg ∧ Raised Ev.LAN_STALE s t ∧ t.fld F.LAN_STALE_CNT_SINK = 3) ∧
  (∀ (s : State) (a : BitVec 32) (v : Word) (p : Path) (x : WriteAid) (tc : Tc), s.serviceUp = false ∨ s.accessStatus p s.upd.session.isSome true a.toNat ≠ stOk →
    exec (.rwsWrite a v (.path p)) s = .next s ∧ exec (.registerWrite a v (.path p) x tc) s = .next s) ∧
  (∀ (s : State) (v : Word) (o : Origin) (x : WriteAid) (tc : Tc), s.holdsLid o.lane = true → s.currentEpoch o = true → s.dormantAt 0xc0030 = false →
    s.declaredObj 0xc0030 = true →
    exec (.registerWrite 0xc0030 v (.lane o) x tc) s = .next (s.wr 0xc0030 (s.rd 0xc0030 &&& ~~~(v &&& ~~~(setsAt x 0xc0030) &&& 0x7F)))) ∧
  (∀ (s : State) (a : BitVec 32) (v : Word) (o : Origin) (x : WriteAid) (tc : Tc) (r : ObjRow), mapped a.toNat = true → s.laneMay o a.toNat = true →
    s.dormantAt a.toNat = false → rwsMask a.toNat = 0 → s.declaredObj a.toNat = true → objRowAt a.toNat = some r → s.writeData a.toNat v tc = none →
    s.writeControl a.toNat v o tc = none → s.writeLanes a.toNat v true o x tc = none → s.writeTime a.toNat v x tc = none → s.writeSystem a.toNat v none x tc = none →
    exec (.registerWrite a v (.lane o) x tc) s = .next (s.wr a.toNat (clearW1c
      ((s.rd a.toNat &&& ~~~(BitVec.ofNat 32 (r.maskOf .rw))) ||| (v &&& BitVec.ofNat 32 (r.maskOf .rw))) (v &&& ~~~(setsAt x a.toNat)) (r.maskOf .w1c))))

/-- A fault of classes 1 to 10 of the active lane, with the other in STANDBY or CHECK and a usable register image, is a takeover: no lane holds the Lid, the other lane restores, the management step is pending, the class and the count show, queued requests are gone, and the lane requalifies after a transient class below its limit, else is FAULTED. Without such a lane it is a safe stop of cause 1. A fault of a lane in STANDBY, BOOT or REQUAL makes it FAULTED; of one in CHECK class 10 with STBY_LOST. Classes 11 to 13 are a safe stop of cause 2. Of two faults of one lane on one clock the lower class counts; one of each lane ends in safe stop without a takeover, with the lower class. A read-back of the Lid's signals that has disagreed for 20 clocks is a safe stop of cause 2 and class 11; an agreeing one, or an earlier one, is only kept. YIELD from the Lid holder's firmware with the current epoch is a fault of class 7; any other does nothing. (R43, R46, R341, R343, R344, R346, R348, R353, R356, R360, R361) -/
def Obligations.LaneFaults : Prop :=
  (∀ (s : State) (l : Lane) (cls : Fin 16) (tc : Tc), s.lanesPowered = true → 1 ≤ cls.val → cls.val ≤ 10 → s.laneState l = lnActive →
    s.laneState (otherLane l) = lnStandby ∨ s.laneState (otherLane l) = lnCheck → s.bestImage.isSome = true →
    ∃ t, exec (.laneFault ⟨l, cls⟩ none tc) s = .next t ∧ t.lan.lid = none ∧ t.lan.fw = false ∧ t.lan.control = some (l, cls.val, tc) ∧
      t.laneState (otherLane l) = lnRestore ∧ t.flag F.LAN_STAT_MGMT_PEND = true ∧ t.fld F.LAN_LAST_CLASS = cls.val ∧ t.fld (laneFaultField l) = cls.val ∧
      t.fld F.LAN_CNT_TAKE = (s.fld F.LAN_CNT_TAKE + 1) % 2 ^ 16 ∧ Raised Ev.LAN_TAKEOVER s t ∧ t.obj.queue = [] ∧ t.placement = s.placement ∧
      t.laneState l = (if transient cls.val && s.fld F.LAN_CNT_REQUAL < s.fld F.LAN_CFG_REQUAL_MAX then lnRequal else lnFaulted)) ∧
  (∀ (s : State) (l : Lane) (cls : Fin 16) (tc : Tc), s.lanesPowered = true → 1 ≤ cls.val → cls.val ≤ 10 → s.laneState l = lnActive →
    s.laneState (otherLane l) ≠ lnStandby → s.laneState (otherLane l) ≠ lnCheck →
    ∃ t, exec (.laneFault ⟨l, cls⟩ none tc) s = .next t ∧ t.pwr.state = .safeStop ∧ t.lan.lid = none ∧ t.lan.stopTc = some tc ∧ t.obj.running = false ∧
      t.fld F.LAN_SS_CAUSE_CAUSE = 1 ∧ t.fld F.LAN_SS_CAUSE_CLASS = cls.val ∧ t.laneState l = lnFaulted ∧ t.fld (laneFaultField l) = cls.val) ∧
  (∀ (s : State) (l : Lane) (cls : Fin 16) (tc : Tc), s.lanesPowered = true → 1 ≤ cls.val → cls.val ≤ 10 →
    s.laneState l = lnStandby ∨ s.laneState l = lnBoot ∨ s.laneState l = lnRequal → s.laneState (otherLane l) ≠ lnFaulted →
    exec (.laneFault ⟨l, cls⟩ none tc) s = .next (s.faultLane l cls.val)) ∧
  (∀ (s : State) (l : Lane) (cls : Fin 16) (tc : Tc), s.lanesPowered = true → 1 ≤ cls.val → cls.val ≤ 10 → s.laneState l = lnCheck →
    ∃ t, exec (.laneFault ⟨l, cls⟩ none tc) s = .next t ∧ t.laneState l = lnFaulted ∧ t.fld (laneFaultField l) = 10 ∧ Raised Ev.LAN_STBY_LOST s t ∧ t.lan = s.lan.putLevel l none) ∧
  (∀ (s : State) (l : Lane) (cls : Fin 16) (tc : Tc), s.lanesPowered = true → 11 ≤ cls.val → cls.val ≤ 13 → s.laneState l ≠ lnOff → s.laneState l ≠ lnFaulted →
    ∃ t, exec (.laneFault ⟨l, cls⟩ none tc) s = .next t ∧ t.pwr.state = .safeStop ∧ t.lan.lid = none ∧ t.fld F.LAN_SS_CAUSE_CAUSE = 2 ∧
      t.fld F.LAN_SS_CAUSE_CLASS = cls.val ∧ t.laneState l = lnFaulted) ∧
  (∀ (s : State) (l : Lane) (c d : Fin 16) (tc : Tc), s.lanesPowered = true → 1 ≤ c.val → c.val ≤ 10 → 1 ≤ d.val → d.val ≤ 10 → s.laneState l ≠ lnOff →
    s.laneState l ≠ lnFaulted → exec (.laneFault ⟨l, c⟩ (some ⟨l, d⟩) tc) s = exec (.laneFault ⟨l, if c ≤ d then c else d⟩ none tc) s) ∧
  (∀ (s : State) (l : Lane) (c d : Fin 16) (tc : Tc), s.lanesPowered = true → 1 ≤ c.val → c.val ≤ 10 → 1 ≤ d.val → d.val ≤ 10 → s.laneState l = lnActive →
    s.laneState (otherLane l) = lnStandby →
    ∃ t, exec (.laneFault ⟨l, c⟩ (some ⟨otherLane l, d⟩) tc) s = .next t ∧ t.pwr.state = .safeStop ∧ t.lan.lid = none ∧ t.fld F.LAN_CNT_TAKE = s.fld F.LAN_CNT_TAKE ∧
      t.fld F.LAN_SS_CAUSE_CAUSE = 1 ∧ t.fld F.LAN_SS_CAUSE_CLASS = min c.val d.val ∧ t.laneState l = lnFaulted ∧ t.laneState (otherLane l) = lnFaulted) ∧
  (∀ (s : State) (back : LidPins) (tc t0 : Tc), s.lanesPowered = true → back ≠ s.lan.pins → s.lan.odd = some t0 → passed tc t0 50 = true →
    ∃ t, exec (.lidReadbackFault ⟨back, tc⟩) s = .next t ∧ t.pwr.state = .safeStop ∧ t.lan.lid = none ∧ t.lan.control = none ∧ t.lan.stopTc = some tc ∧
      t.fld F.LAN_SS_CAUSE_CAUSE = 2 ∧ t.fld F.LAN_SS_CAUSE_CLASS = 11 ∧ t.laneState (s.takeBack back tc).lidLane = lnFaulted) ∧
  (∀ (s : State) (back : LidPins) (tc : Tc), s.lanesPowered = true → back = s.lan.pins ∨ (∀ t0, s.lan.odd = some t0 → passed tc t0 50 = false) →
    exec (.lidReadbackFault ⟨back, tc⟩) s = .next (s.takeBack back tc)) ∧
  (∀ (s : State) (o : Origin) (tc : Tc), s.portRefusal o ≠ none ∨ s.lan.fw = false → exec (.yield ⟨o, tc⟩) s = .next s) ∧
  (∀ (s : State) (o : Origin) (l : Lane) (tc : Tc), s.portRefusal o = none → l = o.lane → s.lan.fw = true → s.laneState l = lnActive →
    s.laneState (otherLane l) = lnStandby ∨ s.laneState (otherLane l) = lnCheck → s.bestImage.isSome = true →
    ∃ t, exec (.yield ⟨o, tc⟩) s = .next t ∧ t.lan.lid = none ∧ t.lan.control = some (l, 7, tc) ∧ t.fld F.LAN_LAST_CLASS = 7 ∧ Raised Ev.LAN_TAKEOVER s t ∧
      t.laneState (otherLane l) = lnRestore)

/-- A heartbeat of running firmware with the Lid and the current epoch is counted, and a wrong count is remembered. An accepted planned switch is remembered; nothing else changes. The CRC of a frame follows its bytes, which makes it valid in the area that did not hold the newest; after a final frame the control step of class 0 begins. When the new half is ready, and the displaced lane's pair has read back de-asserted for 10 clocks, the Lid goes to the other lane under the next placement epoch with level 3. The rebuild takes the frame of the old epoch: firmware runs, the program stands as after its last complete cycle. Without such a frame, or after 8 ms, the module goes to safe stop of cause 2 and class 13. (R341, R347, R352, R353, R354, R359) -/
def Obligations.NewLaneTakesOver : Prop :=
  (∀ (s : State) (v : BitVec 16) (o : Origin), s.portRefusal o = none → s.lan.fw = true →
    exec (.heartbeatWrite ⟨v, o⟩) s = .next { s with lan := { s.lan with beats := s.lan.beats + 1, wrong := (s.lan.wrong || v.toNat != s.fld F.LAN_COMMIT_COUNT % 2 ^ 16) } }) ∧
  (∀ (s : State) (v : BitVec 16) (o : Origin), s.portRefusal o ≠ none ∨ s.lan.fw = false → exec (.heartbeatWrite ⟨v, o⟩) s = .next s) ∧
  (∀ (s : State) (tc : Tc), s.serviceUp = true → s.upd.session.isSome = true → s.inCharge = true → s.laneState (otherLane s.activeLane) = lnStandby →
    s.flag F.PWR_STAT_READY = true ∨ s.lan.managed = true → passed tc s.lan.mgmtTc 250000000 = true →
    exec (.plannedSwitch tc) s = .next { s with lan := { s.lan with planned := true } }) ∧
  (∀ (s : State) (tc : Tc), s.upd.session = none ∨ passed tc s.lan.mgmtTc 250000000 = false ∨ s.laneState (otherLane s.activeLane) ≠ lnStandby →
    exec (.plannedSwitch tc) s = .next s) ∧
  (∀ (s : State) (f : Frame) (bytes : List Byte) (tc t0 : Tc) (k : Nat), s.frames.due = some (f, bytes, t0) → passed tc t0 640 = true → s.lan.final = false → k = s.frameTarget →
    ∃ t, exec (.mgmtFrameComplete tc) s = .next t ∧ t.lan = s.lan ∧
      t.frames = (if k = 0 then { due := none, f0 := some f, f1 := s.frames.f1 } else { due := none, f0 := s.frames.f0, f1 := some f }) ∧
      t.flag F.LAN_SP_STAT_F0 = (t.validFrame 0).isSome ∧ t.flag F.LAN_SP_STAT_F1 = (t.validFrame 1).isSome ∧
      (s.lidHeld = true → s.pot.buffer = [] → loadBytes t.pot.mem (areaBase k + bytes.length) 4 = bytesLe 4 (crc32c bytes).toNat)) ∧
  (∀ (s : State) (f : Frame) (bytes : List Byte) (tc t0 : Tc), s.frames.due = some (f, bytes, t0) → passed tc t0 640 = false →
    exec (.mgmtFrameComplete tc) s = .next s) ∧
  (∀ (s : State) (f : Frame) (bytes : List Byte) (tc t0 : Tc), s.frames.due = some (f, bytes, t0) → passed tc t0 640 = true → s.lan.final = true →
    s.laneState (otherLane s.activeLane) = lnStandby ∨ s.laneState (otherLane s.activeLane) = lnCheck →
    ((s.potWrite (areaBase s.frameTarget + bytes.length) (bytesLe 4 (crc32c bytes).toNat) (tc - 640)).potCommit tc).bestImage.isSome = true →
    ∃ t, exec (.mgmtFrameComplete tc) s = .next t ∧ t.lan.lid = none ∧ t.lan.control = some (s.activeLane, 0, tc) ∧ t.lan.planned = false ∧
      t.laneState s.activeLane = lnRequal ∧ t.laneState (otherLane s.activeLane) = lnRestore ∧ Raised Ev.LAN_TAKEOVER s t) ∧
  (∀ (s : State) (l : Lane) (cls : Nat) (since tc : Tc), s.lan.control = some (l, cls, since) → cls < 16 → heldFor s.lan.clear 25 tc = true →
    ∃ t, exec (.newHalfReady tc) s = .next t ∧ t.lan.lid = some (otherLane l) ∧ t.lan.control = none ∧ t.lan.restoring = some s.placement ∧ t.lan.readyTc = tc ∧
      t.placement = s.placement + 1 ∧ t.activeLane = otherLane l ∧ t.fld F.LAN_STAT_PL = 3 ∧ t.cte.ready = true ∧ t.fld F.LAN_LAST_CLASS = cls) ∧
  (∀ (s : State) (tc : Tc), heldFor s.lan.clear 25 tc = false → exec (.newHalfReady tc) s = .next s) ∧
  (∀ (s : State) (e : Word) (f : Frame) (tc : Tc), s.lan.restoring = some e → s.lan.rebuilt = false → s.restoreFrame e = some f →
    ∃ t, exec (.rebuildComplete tc) s = .next t ∧ t.lan.fw = true ∧ t.lan.rebuilt = true ∧ t.lan.lid = s.lan.lid ∧ t.dsp.last = f.dsp.last ∧ t.saf.copies = [] ∧
      t.seq = { f.seq with vals := f.seq.kept, change := none, running := false, todo := [], stopping := false, cycleDue := false }) ∧
  (∀ (s : State) (e : Word) (tc : Tc), s.lan.restoring = some e → s.lan.rebuilt = false → s.restoreFrame e = none →
    ∃ t, exec (.rebuildComplete tc) s = .next t ∧ t.pwr.state = .safeStop ∧ t.lan.lid = none ∧ t.fld F.LAN_SS_CAUSE_CAUSE = 2 ∧ t.fld F.LAN_SS_CAUSE_CLASS = 13 ∧
      t.laneState s.activeLane = lnFaulted) ∧
  (∀ (s : State) (e : Word) (tc : Tc), s.lan.restoring = some e → s.lan.rebuilt = false → passed tc s.lan.readyTc 2000000 = true →
    ∃ t, exec (.restoreTimeout tc) s = .next t ∧ t.pwr.state = .safeStop ∧ t.lan.lid = none ∧ t.fld F.LAN_SS_CAUSE_CAUSE = 2 ∧ t.fld F.LAN_SS_CAUSE_CLASS = 13 ∧
      t.laneState s.activeLane = lnFaulted)

/-- The first lane whose boot ends during a start, lane A of two on one clock, holds the Lid with its firmware running, and the module runs; its check values are kept. A lane that fails its boot is FAULTED with class 8, one that does not match the active lane with class 9, one that fails its check or its 40 ms with class 10 and STBY_LOST. A lane that matches, passes its check or passes requalification is in STANDBY with age 0; requalification also clears its fault and raises REQUAL_OK. A failed or late requalification ends in FAULTED. (R339, R341, R342, R346, R454) -/
def Obligations.StandbyLane : Prop :=
  (∀ (s : State) (l k : Lane) (x : BootCheck) (tc : Tc), k = (if x.both && s.laneState (otherLane l) == lnBoot then .a else l) → s.pwr.state = .starting → s.lanesPowered = true → s.laneState l = lnBoot → s.lidHeld = false → s.booted = true →
    ∃ t, exec (.laneBootDone l x tc) s = .next t ∧ t.lan.lid = some k ∧ t.lan.check k = (x.fwCheck, x.imageCheck) ∧ t.lan.fw = true ∧ t.pwr.state = .running ∧ t.obj.running = true) ∧
  (∀ (s : State) (l : Lane) (tc : Tc), s.laneState l = lnBoot → s.lanesPowered = true → s.laneState (otherLane l) ≠ lnFaulted →
    exec (.bootTimeout l tc) s = .next (s.faultLane l 8)) ∧
  (∀ (s : State) (l : Lane) (tc : Tc), s.laneState l = lnBoot → s.lanesPowered = true → s.laneState (otherLane l) = lnFaulted →
    ∃ t, exec (.bootTimeout l tc) s = .next t ∧ t.pwr.state = .safeStop ∧ t.fld F.LAN_SS_CAUSE_CAUSE = 3 ∧ t.fld F.LAN_SS_CAUSE_CLASS = 8 ∧ t.lan.lid = none) ∧
  (∀ (s : State) (l : Lane) (v n fw im : Word) (tc : Tc), s.laneState l = lnBoot → s.lanesPowered = true → s.laneState (otherLane l) = lnActive →
    (v.toNat = s.runningVersion ∧ n.toNat = s.fld F.CFG_IMAGE_ID_VALUE →
      ∃ t, exec (.standbyLoadDone l ⟨v, n⟩ (fw, im) tc) s = .next t ∧ t.laneState l = lnStandby ∧ t.lan.passTc = tc ∧ t.lan.check l = (fw, im) ∧ t.fld F.LAN_STBY_AGE_S = 0) ∧
    (v.toNat ≠ s.runningVersion ∨ n.toNat ≠ s.fld F.CFG_IMAGE_ID_VALUE → exec (.standbyLoadDone l ⟨v, n⟩ (fw, im) tc) s = .next (s.faultLane l 9))) ∧
  (∀ (s : State) (tc : Tc), s.lidHeld = true → s.laneState (otherLane s.activeLane) = lnStandby →
    passed tc s.lan.passTc (250000000 * s.fld F.LAN_CFG_STBY_CHK) = true →
    ∃ t, exec (.standbyCheckStart tc) s = .next t ∧ t.laneState (otherLane s.activeLane) = lnCheck ∧ t.lan = ({ s.lan with checkTc := tc } : Lan).putLevel (otherLane s.activeLane) (some 1) ∧
      t.flag F.LAN_STAT_STBY_OK = true) ∧
  (∀ (s : State) (x : LaneCheck) (tc : Tc), s.laneState (otherLane s.activeLane) = lnCheck →
    (s.checkPasses (otherLane s.activeLane) x = true → ∃ t, exec (.standbyCheckDone x tc) s = .next t ∧ t.laneState (otherLane s.activeLane) = lnStandby ∧
      t.lan = ({ s.lan with passTc := tc } : Lan).putLevel (otherLane s.activeLane) none ∧
      t.fld F.LAN_STBY_AGE_S = 0) ∧
    (s.checkPasses (otherLane s.activeLane) x = false → ∃ t, exec (.standbyCheckDone x tc) s = .next t ∧ t.laneState (otherLane s.activeLane) = lnFaulted ∧
      t.fld (laneFaultField (otherLane s.activeLane)) = 10 ∧ Raised Ev.LAN_STBY_LOST s t) ∧
    (passed tc s.lan.checkTc 10000000 = true →
      ∃ t, exec (.checkTimeout tc) s = .next t ∧ t.laneState (otherLane s.activeLane) = lnFaulted ∧
        t.fld (laneFaultField (otherLane s.activeLane)) = 10 ∧ Raised Ev.LAN_STBY_LOST s t)) ∧
  (∀ (s : State) (x : LaneCheck) (tc : Tc), s.laneState (otherLane s.activeLane) = lnRequal → s.flag F.LAN_STAT_MGMT_PEND = false →
    (s.checkPasses (otherLane s.activeLane) x = true → ∃ t, exec (.requalDone x tc) s = .next t ∧ t.laneState (otherLane s.activeLane) = lnStandby ∧ t.fld (laneFaultField (otherLane s.activeLane)) = 0 ∧
      t.lan = ({ s.lan with passTc := tc } : Lan).putLevel (otherLane s.activeLane) none ∧ t.fld F.LAN_STBY_AGE_S = 0 ∧ Raised Ev.LAN_REQUAL_OK s t) ∧
    (s.checkPasses (otherLane s.activeLane) x = false → exec (.requalDone x tc) s = .next (s.setLane (otherLane s.activeLane) lnFaulted)) ∧
    (passed tc s.lan.requalTc 10000000 = true → exec (.requalTimeout tc) s = .next (s.setLane (otherLane s.activeLane) lnFaulted)))

/-- Supply starts a module that was off, asleep, stopped or open: cause 5 after a power failure, else 1; the safe-stop cause is cleared, every safety input is in demand, the cause word is set by its mark or a failed complement. The restart key starts with cause 3, an automatic start with cause 4, the end of a thermal stop with cause 8. Power-fail detect stops the service, the program and the recorder; 4 ms later the module is unpowered. A second reading in a row of a sensor at 135 °C or more, or of both sensors invalid, is the thermal shutdown: cause 4, the cause word pending, X60 active, the front end off. An open enclosure takes the Lid away, erases the keys and leaves only the debug port. (R93, R313, R314, R360, R361, R449, R450, R452, R454, R470, R471, R484) -/
def Obligations.StartsAndShutdowns : Prop :=
  (∀ (s : State) (given : List (Nat × Word)) (cause : Word × Word) (w : Bool) (tc : Tc), s.pwr.state.supplied = true →
    ∃ t, exec (.supplyStart ⟨given, cause⟩ w tc) s = .next t ∧ t.pwr.state = .starting ∧ t.lan.lid = none ∧
      t.fld F.PWR_STAT_START = (if s.pwr.state == .unpowered && s.pwr.failed then 5 else 1) ∧ t.fld F.PWR_WAKE_REC_SOURCE = (if w then 1 else 0) ∧
      t.fld F.LAN_SS_CAUSE_CAUSE = 0 ∧ t.fld F.LAN_SS_CAUSE_CLASS = 0 ∧ t.cfg.slots = s.cfg.slots ∧
      t.flag F.THM_STAT_SD_PEND = (cause.2 != ~~~cause.1 || fieldOf cause.1 24 8 == 0x5D) ∧
      ∀ k, k < 6 → t.flag (F.SAF_SI_STAT_FA k) = true ∧ t.flag (F.SAF_SI_STAT_FB k) = true) ∧
  (∀ (s : State) (v : BitVec 16), s.pwr.state = .starting ∨ s.pwr.state = .running → v.toNat < 800 →
    ∃ t, exec (.supplyLow v) s = .next t ∧ t.fld F.PWR_SUPPLY_VIN = v.toNat ∧ Raised Ev.PWR_LOW s t) ∧
  (∀ (s : State) (tc : Tc), s.lidHeld = true →
    ∃ t, exec (.cfgRestart 0xA55A tc) s = .next t ∧ t.pwr.state = .starting ∧ t.fld F.PWR_STAT_START = 3 ∧ t.lan.lid = none ∧ t.cfg.slots = s.cfg.slots) ∧
  (∀ (s : State) (v : Word) (tc : Tc), v ≠ 0xA55A ∨ s.lidHeld = false → exec (.cfgRestart v tc) s = .next s) ∧
  (∀ (s : State) (sec : Nat) (since tc : Tc), s.pwr.state = .safeStop → s.flag F.LAN_CFG_AUTO_RST = true → s.lan.stopTc = some since →
    passed tc since 500000000 = true → (s.lan.autos.filter fun a => decide (sec - a < 86400)).length < 3 →
    ∃ t, exec (.autoRestart sec tc) s = .next t ∧ t.pwr.state = .starting ∧ t.fld F.PWR_STAT_START = 4 ∧
      t.lan.autos = sec :: s.lan.autos.filter (fun a => decide (sec - a < 86400)) ∧
      t.fld F.LAN_SS_CAUSE_AUTO = (s.lan.autos.filter fun a => decide (sec - a < 86400)).length + 1) ∧
  (∀ (s : State) (sec : Nat) (tc : Tc), s.flag F.LAN_CFG_AUTO_RST = false ∨ 3 ≤ (s.lan.autos.filter fun a => decide (sec - a < 86400)).length →
    exec (.autoRestart sec tc) s = .next s) ∧
  (∀ (s : State) (v : BitVec 16) (tc : Tc), s.pwr.state = .starting ∨ s.pwr.state = .running ∨ s.pwr.state = .waking → v.toNat < 720 →
    s.flag F.PWR_STAT_PFAIL = false → (∀ x ∈ s.seqVars, x.binding = none) →
    ∃ t, exec (.powerFailDetect v tc) s = .next t ∧ t.flag F.PWR_STAT_PFAIL = true ∧ Raised Ev.PWR_PFAIL s t ∧ t.obj.running = false ∧ t.obj.queue = [] ∧
      t.flag F.REC_STAT_RUN = false ∧ t.pwr.failTc = tc) ∧
  (∀ (s : State) (good : Bool) (tc : Tc), s.flag F.PWR_STAT_PFAIL = true → passed tc s.pwr.failTc 1000000 = true →
    ∃ t, exec (.powerFailShutdown good tc) s = .next t ∧ t.pwr = { Pwr.reset with failed := true } ∧ t.lan.lid = none ∧ t.obj.running = false ∧ t.est.wb = none) ∧
  (∀ (s : State) (a b : BitVec 16) (tc : Tc), s.pwr.state.sensed = true → s.pwr.state ≠ .thermalStop → s.pwr.state ≠ .debug →
    (junctionValid a = true ∧ 17280 ≤ a.toInt ∧ 1 ≤ s.thm.hot1) ∨ (junctionValid b = true ∧ 17280 ≤ b.toInt ∧ 1 ≤ s.thm.hot2) ∨
      (junctionValid a = false ∧ junctionValid b = false ∧ 1 ≤ s.thm.bad) →
    ∃ t, exec (.junctionReading a b tc) s = .next t ∧ t.pwr.state = .thermalStop ∧ t.flag F.THM_STAT_SD_PEND = true ∧ t.prt.given.getLsbD 60 = true ∧
      t.fld F.LAN_SS_CAUSE_CAUSE = 4 ∧ t.lan.lid = none ∧ t.lan.stopTc = some tc ∧ t.fld F.THM_TJ_TJ1 = a.toNat ∧
      (s.blockDormant 0x12 = false → t.fld F.AFE_STAT_RUN = 0)) ∧
  (∀ (s : State) (a b : BitVec 16) (tc : Tc), s.pwr.state.sensed = true → junctionValid a = true → a.toInt < 17280 → junctionValid b = true → b.toInt < 17280 →
    exec (.junctionReading a b tc) s = .next (s.takeJunctions a b)) ∧
  (∀ (s : State) (tc : Tc), s.junctionsCool = true → s.pwr.state = .thermalStop →
    ∃ t, exec (.thermalStopEnd tc) s = .next t ∧ t.pwr.state = .starting ∧ t.fld F.PWR_STAT_START = 8 ∧ t.pwr.held = none) ∧
  (∀ (s : State) (tc : Tc), s.junctionsCool = true → s.pwr.state ≠ .thermalStop →
    exec (.thermalStopEnd tc) s = .next { s with pwr := { s.pwr with held := none } }) ∧
  (∀ (s : State) (tc : Tc), s.junctionsCool = false → exec (.thermalStopEnd tc) s = .next s) ∧
  (∀ (s : State) (erased : Bool) (tc : Tc), s.pwr.state.sampled = true →
    ∃ t, exec (.tamperOpen erased tc) s = .next t ∧ t.pwr.state = .debug ∧ t.lan.lid = none ∧ t.upd.pads = erased ∧
      t.fld F.UPD_KS_STAT_ERASE_CNT = (s.fld F.UPD_KS_STAT_ERASE_CNT + 1) % 2 ^ 8 ∧
      (erased = true → t.upd.keys = KeyStore.blank ∧ t.fld F.UPD_KS_STAT_KEYS = 0 ∧ t.flag F.UPD_STAT_PROVISIONED = false))

/-- With its key and a Lid holder a request is kept for the next commit point, or counted as refused with its code, 1 where a string is closed; any other write changes nothing. The end of an entry leads to Standby or Off with pads held, no Lid and READY clear, or at once to a wake. From Standby WAKE_IN, the timer, a CAN pattern, an Ethernet wake-up and a Dertur end each begin the resume, each with its source in the record. After the scrub the module starts with cause 6 if the memory of its lane was lost, and else runs again under the next placement epoch. (R156, R360, R400, R418, R457, R458, R461, R462, R463, R464, R465, R468) -/
def Obligations.SleepAndWake : Prop :=
  (∀ (s : State) (n : Nat) (key : BitVec 16) (c : State → Host.Outcome State Fault Refusal),
    (n = 1 ∧ c = exec (.standbyRequest key)) ∨ (n = 2 ∧ c = exec (.deepStandbyRequest key)) ∨ (n = 3 ∧ c = exec (.offRequest key)) →
    (key = 0x51EE → s.lidHeld = true → s.sleepRefusal n = 0 → c s = .next { s with pwr := { s.pwr with request := some n } }) ∧
    (key = 0x51EE → s.lidHeld = true → s.sleepRefusal n ≠ 0 → ∃ t, c s = .next t ∧ t.pwr = s.pwr ∧ t.fld F.PWR_REFUSE_CODE = s.sleepRefusal n ∧
      t.fld F.PWR_REFUSE_CNT = (s.fld F.PWR_REFUSE_CNT + 1) % 2 ^ 16) ∧
    (key = 0x51EE → s.lidHeld = true → (∃ p < 8, s.strState p = ssClosed) → ∃ t, c s = .next t ∧ t.fld F.PWR_REFUSE_CODE = 1) ∧
    (key ≠ 0x51EE ∨ s.lidHeld = false → c s = .next s)) ∧
  (∀ (s : State) (w : Bool) (tc : Tc), s.flag F.PWR_STAT_ENTRY = true → s.pwr.state = .running → s.est.wb = none → s.fld F.PWR_STAT_TARGET = 1 →
    ∃ t, exec (.entryComplete w tc) s = .next t ∧ t.lan.lid = none ∧ t.flag F.PWR_STAT_ENTRY = false ∧ t.flag F.PWR_STAT_READY = false ∧ t.rd 0x140020 = 0xF ∧
      t.obj.running = false ∧ (s.pwr.latched = 0 → w = false → t.pwr.state = .standby) ∧
      (s.pwr.latched = 0 → w = true → t.pwr.state = .waking ∧ t.fld F.PWR_WAKE_REC_SOURCE = 1 ∧ Raised Ev.PWR_WAKE s t)) ∧
  (∀ (s : State) (tc : Tc), s.flag F.PWR_STAT_ENTRY = true → s.pwr.state = .running → s.est.wb = none → s.fld F.PWR_STAT_TARGET = 3 →
    ∃ t, exec (.entryComplete false tc) s = .next t ∧ t.pwr.state = .off ∧ t.lan.lid = none ∧ t.flag F.PWR_STAT_ENTRY = false) ∧
  (∀ (s : State) (a : WakeAt) (low : Bool) (tc : Tc), s.pwr.state = .standby →
    ∃ t, exec (.wakeInAssert a low tc) s = .next t ∧ t.pwr.state = .waking ∧ t.fld F.PWR_WAKE_REC_SOURCE = 1 ∧ t.fld F.PWR_WAKE_REC_PENDING = 2 ∧
      t.fld F.PWR_WAKE_REC_LEFT = 1 ∧ Raised Ev.PWR_WAKE s t) ∧
  (∀ (s : State) (a : WakeAt) (low : Bool) (tc : Tc), s.pwr.state = .deep →
    ∃ t, exec (.wakeInAssert a low tc) s = .next t ∧ t.pwr.state = .starting ∧ t.fld F.PWR_STAT_START = 2 ∧ t.fld F.PWR_WAKE_REC_SOURCE = 1 ∧
      t.fld F.PWR_WAKE_REC_LEFT = 2) ∧
  (∀ (s : State) (a : WakeAt) (low : Bool) (tc : Tc), s.pwr.state = .off →
    ∃ t, exec (.wakeInAssert a low tc) s = .next t ∧ t.pwr.state = .starting ∧ t.fld F.PWR_STAT_START = 1 ∧ t.fld F.PWR_WAKE_REC_SOURCE = 1) ∧
  (∀ (s : State) (a : WakeAt) (since tc : Tc), s.pwr.state = .safeStop → s.lan.stopTc = some since → passed tc since 25000000 = true →
    ∃ t, exec (.wakeInAssert a true tc) s = .next t ∧ t.pwr.state = .starting ∧ t.fld F.PWR_STAT_START = 7) ∧
  (∀ (s : State) (a : WakeAt) (tc : Tc), s.pwr.state = .standby → s.wakeOn 2 = true → s.fld F.PWR_WAKE_TIMER_S ≠ 0 → 32768 * s.fld F.PWR_WAKE_TIMER_S ≤ a.tick →
    ∃ t, exec (.wakeTimerExpiry a tc) s = .next t ∧ t.pwr.state = .waking ∧ t.fld F.PWR_WAKE_REC_SOURCE = 2 ∧ t.fld F.PWR_WAKE_DUR_S = a.tick / 32768 % 2 ^ 32) ∧
  (∀ (s : State) (c : Fin 2) (e : CanWakeEvent) (a : WakeAt) (tc : Tc), s.pwr.state = .standby → s.wakeOn (3 + c) = true → s.canUsed c = true →
    s.canWakeCause c e ≠ 0 →
    ∃ t, exec (.canWake c e a tc) s = .next t ∧ t.pwr.state = .waking ∧ t.fld F.PWR_WAKE_REC_SOURCE = 3 + c.val ∧
      t.fld (F.CAN_WAKE_STAT_CAUSE c) = s.canWakeCause c e) ∧
  (∀ (s : State) (p : Fin 2) (a : WakeAt) (tc : Tc), s.pwr.state = .standby → s.wakeOn (5 + p) = true →
    s.flag (if p = 0 then F.ETH_WAKE_CFG_E0 else F.ETH_WAKE_CFG_E1) = true →
    ∃ t, exec (.ethWake p a tc) s = .next t ∧ t.pwr.state = .waking ∧ t.fld F.PWR_WAKE_REC_SOURCE = 5 + p.val ∧ t.fld F.ETH_WAKE_STAT_LAST = 1 + p.val) ∧
  (∀ (s : State) (p : Fin 2) (a : WakeAt) (tc : Tc), s.pwr.state = .running → s.flag F.PWR_STAT_ENTRY = false → s.fld (ethTc10 p) = tc10Asleep →
    exec (.ethWake p a tc) s = .next (s.put (ethTc10 p) tc10Active)) ∧
  (∀ (s : State) (p : Fin 8) (endB : Bool) (a : WakeAt) (tc : Tc), s.pwr.state = .standby → s.wakeOn 7 = true →
    ∃ t, exec (.derturWakeEvent p endB a tc) s = .next t ∧ t.pwr.state = .waking ∧ t.fld F.PWR_WAKE_REC_SOURCE = 7 ∧
      Raised (if endB then Ev.DLK_WAKE_B p else Ev.DLK_WAKE_A p) s t ∧ t.fld F.DLK_WAKE_CNT_CNT = (s.fld F.DLK_WAKE_CNT_CNT + 1) % 2 ^ 16) ∧
  (∀ (s : State) (lost : BitVec 12) (n : Nat) (tc : Tc), s.pwr.state = .waking → s.flag F.PWR_STAT_PFAIL = false → s.causeSet = false →
    ((if s.activeLane = .a then lost.getLsbD 8 else lost.getLsbD 9) = true →
      ∃ t, exec (.scrubComplete lost n tc) s = .next t ∧ t.pwr.state = .starting ∧ t.fld F.PWR_STAT_START = 6) ∧
    ((if s.activeLane = .a then lost.getLsbD 8 else lost.getLsbD 9) = false →
      ∃ t, exec (.scrubComplete lost n tc) s = .next t ∧ t.pwr.state = .running ∧ t.lan.lid = some s.activeLane ∧ t.lan.fw = true ∧ t.obj.running = true ∧
        t.placement = s.placement + 1 ∧ t.flag F.LAN_STAT_MGMT_PEND = false ∧ t.fld F.PWR_RET_LOST = lost.toNat))

/-- With no request to sleep and a program that drives no objects, a firing commit point advances the commit count by one. A set that has passed its checks is gone from the submission, its outcome is APPLIED under its number, and the count of applied sets is one higher. A staged contribution is the one held, and with both staged the limit set is in force. One right heartbeat clears the miss count; a first miss is counted and the lane keeps the Lid; a second in a row is a fault of class 6, with a standby lane a takeover. An entry of another action is no commit point. (R34, R36, R38, R100, R104, R305, R346, R347) -/
def Obligations.CommitPoints : Prop :=
  (∀ (s : State) (k : Fin 64) (m : RecMedia) (tc : Tc), s.fires k 1 tc = false → exec (.commitPoint k m tc) s = .next s) ∧
  (∀ (s : State) (k : Fin 64) (m : RecMedia) (tc : Tc), s.fires k 1 tc = true → s.pwr.request = none → (∀ x ∈ s.seqVars, x.binding = none) →
    ∃ t, exec (.commitPoint k m tc) s = .next t ∧ t.fld F.LAN_COMMIT_COUNT = (s.fld F.LAN_COMMIT_COUNT + 1) % 2 ^ 32 ∧
      (s.fld F.CFG_LS_STAT_STATE = lsPassed → t.cfg.submitted = [] ∧ t.fld F.CFG_LS_STAT_STATE = lsIdle ∧ t.fld F.CFG_LS_OUT_CODE = 1 ∧
        t.fld F.CFG_LS_OUT_SEQ = s.fld F.CFG_LS_STAT_SEQ ∧ t.fld F.CFG_LS_CNT_APPLIED = (s.fld F.CFG_LS_CNT_APPLIED + 1) % 2 ^ 16) ∧
      (∀ c, s.dsp.stagedD = some c → t.dsp.heldD = some c) ∧ (∀ c, s.dsp.stagedT = some c → t.dsp.heldT = some c) ∧
      (s.dsp.stagedD.isSome = true → s.dsp.stagedT.isSome = true → t.dsp.inForce = true) ∧
      (∀ l, s.lan.lid = some l → s.lan.fw = true → s.lan.watched = true → s.lan.rebuilt = false →
        (s.lan.beats = 1 → s.lan.wrong = false → t.fld F.LAN_HB_MISS = 0 ∧ t.lan.lid = some l ∧ t.lan.beats = 0) ∧
        (s.lan.beats ≠ 1 ∨ s.lan.wrong = true → s.fld F.LAN_HB_MISS = 0 → t.fld F.LAN_HB_MISS = 1 ∧ t.lan.lid = some l ∧ t.lan.beats = 0) ∧
        (s.lan.beats ≠ 1 ∨ s.lan.wrong = true → s.fld F.LAN_HB_MISS = 1 → s.fld F.CFG_LS_STAT_STATE ≠ lsPassed → s.laneState l = lnActive →
          s.laneState (otherLane l) = lnStandby → s.bestImage.isSome = true → t.lan.lid = none ∧ t.lan.control = some (l, 6, tc))))

/-- A command named in the scopes of the phase base, of network time, of the ports or of the sweep that ends in a next state changes the parts and the blocks of objects of its scope only: every other part of the state is as it was, and every object of another block reads as before. (R15, R106, R128, R158) -/
def Obligations.FrameTimeAndLink : Prop :=
  ∀ (c : Instr) (s t : State) (x : Scope), scopeTime c = some x ∨ scopeLink c = some x → exec c s = .next t → Within x s t

/-- A command named in the scopes of the analog front end, of estimation or of the protection island that ends in a next state changes the parts and the blocks of objects of its scope only: every other part of the state is as it was, and every object of another block reads as before. (R15, R191, R235, R239) -/
def Obligations.FrameBankAndIsland : Prop :=
  ∀ (c : Instr) (s t : State) (x : Scope), scopeBank c = some x ∨ scopeIsland c = some x → exec c s = .next t → Within x s t

/-- A command named in the scopes of the safety functions, the CAN channels, the control engine, the Stockpot, dispatch, the thermal strategy or the recorder that ends in a next state changes the parts and the blocks of objects of its scope only: every other part of the state is as it was, and every object of another block reads as before. (R15, R323, R381, R290) -/
def Obligations.FrameSafetyAndControl : Prop :=
  ∀ (c : Instr) (s t : State) (x : Scope), scopeSafety c = some x ∨ scopeControl c = some x → exec c s = .next t → Within x s t

/-- A command named in the scopes of the Ethernet switch, configuration, update, object access, the sequence program, the lanes or power that ends in a next state changes the parts and the blocks of objects of its scope only: every other part of the state is as it was, and every object of another block reads as before. (R15, R53, R97, R341, R476) -/
def Obligations.FrameServiceAndSystem : Prop :=
  ∀ (c : Instr) (s t : State) (x : Scope), scopeService c = some x ∨ scopeSystem c = some x → exec c s = .next t → Within x s t
end

