-- ==== Sys2Proof/Laws/Cells.lean ====
section
/-! SUPPORT. Laws/Cells.lean: storage by address. A read after a write, and the canonical form that every write keeps. -/
namespace Sys2Proof.Machine

open Sys2Proof

variable {w : Nat}

theorem Cells.get_nil (k : Nat) : Cells.get ([] : Cells w) k = 0 := rfl

theorem Cells.get_cons (a : Nat) (v : BitVec w) (c : Cells w) (k : Nat) :
    Cells.get ((a, v) :: c) k = if a = k then v else Cells.get c k := rfl

theorem Cells.get_erase_same (c : Cells w) (k : Nat) : Cells.get (Cells.erase c k) k = 0 := by
  induction c with
  | nil => rfl
  | cons e c ih =>
    obtain ⟨a, v⟩ := e
    by_cases h : a = k
    · simpa [Cells.erase, h] using ih
    · simpa [Cells.erase, h, Cells.get_cons] using ih

theorem Cells.get_erase_other (c : Cells w) {k j : Nat} (h : j ≠ k) : Cells.get (Cells.erase c k) j = Cells.get c j := by
  induction c with
  | nil => rfl
  | cons e c ih =>
    obtain ⟨a, v⟩ := e
    by_cases ha : a = k
    · subst ha
      simpa [Cells.erase, Cells.get_cons, Ne.symm h] using ih
    · have : Cells.get (Cells.erase ((a, v) :: c) k) j = if a = j then v else Cells.get (Cells.erase c k) j := by
        simp [Cells.erase, ha, Cells.get_cons]
      rw [this, ih, Cells.get_cons]

theorem Cells.get_insert_same (c : Cells w) (k : Nat) (v : BitVec w) (h : Cells.get c k = 0) (hn : ∀ e ∈ c, e.1 ≠ k) :
    Cells.get (Cells.insert c k v) k = v := by
  induction c with
  | nil => simp [Cells.insert, Cells.get_cons]
  | cons e c ih =>
    obtain ⟨a, x⟩ := e
    have ha : a ≠ k := hn (a, x) (by simp)
    have hc : Cells.get c k = 0 := by simpa [Cells.get_cons, ha] using h
    unfold Cells.insert
    split
    · simp [Cells.get_cons]
    · simp [Cells.get_cons, ha, ih hc (fun e he => hn e (by simp [he]))]

theorem Cells.get_insert_other (c : Cells w) {k j : Nat} (v : BitVec w) (h : j ≠ k) :
    Cells.get (Cells.insert c k v) j = Cells.get c j := by
  induction c with
  | nil => simp [Cells.insert, Cells.get_cons, Cells.get_nil, Ne.symm h]
  | cons e c ih =>
    obtain ⟨a, x⟩ := e
    unfold Cells.insert
    split
    · simp [Cells.get_cons, Ne.symm h]
    · simp [Cells.get_cons, ih]

theorem Cells.erase_not_mem (c : Cells w) (k : Nat) : ∀ e ∈ Cells.erase c k, e.1 ≠ k := by
  intro e he
  simpa using (List.mem_filter.mp he).2

/-- A read after a write to the same address gives the value written. -/
@[simp] theorem Cells.get_set_same (c : Cells w) (k : Nat) (v : BitVec w) : Cells.get (Cells.set c k v) k = v := by
  unfold Cells.set
  split
  · rename_i h
    rw [Cells.get_erase_same, h]
  · exact Cells.get_insert_same _ _ _ (Cells.get_erase_same c k) (Cells.erase_not_mem c k)

/-- A write leaves every other address alone. -/
theorem Cells.get_set_other (c : Cells w) {k j : Nat} (v : BitVec w) (h : j ≠ k) : Cells.get (Cells.set c k v) j = Cells.get c j := by
  unfold Cells.set
  split
  · exact Cells.get_erase_other c h
  · rw [Cells.get_insert_other _ _ h, Cells.get_erase_other c h]

/-- What an address holds after a write. -/
theorem Cells.get_set (c : Cells w) (k j : Nat) (v : BitVec w) : Cells.get (Cells.set c k v) j = if j = k then v else Cells.get c j := by
  split
  · rename_i h
    subst h
    exact Cells.get_set_same c j v
  · rename_i h
    exact Cells.get_set_other c v h

/-! The canonical form. -/

theorem Cells.wf_cons (a : Nat) (v : BitVec w) (c : Cells w) :
    Cells.wf ((a, v) :: c) = true ↔ v ≠ 0 ∧ (∀ e ∈ c, a < e.1) ∧ Cells.wf c = true := by
  simp [Cells.wf, and_assoc]

theorem Cells.wf_erase {c : Cells w} (h : Cells.wf c = true) (k : Nat) : Cells.wf (Cells.erase c k) = true := by
  induction c with
  | nil => rfl
  | cons e c ih =>
    obtain ⟨a, v⟩ := e
    obtain ⟨hv, ha, hc⟩ := (Cells.wf_cons a v c).mp h
    by_cases hk : a = k
    · have : Cells.erase ((a, v) :: c) k = Cells.erase c k := by simp [Cells.erase, hk]
      rw [this]
      exact ih hc
    · have : Cells.erase ((a, v) :: c) k = (a, v) :: Cells.erase c k := by simp [Cells.erase, hk]
      rw [this]
      exact (Cells.wf_cons _ _ _).mpr ⟨hv, fun e he => ha e (List.mem_filter.mp he).1, ih hc⟩

theorem Cells.mem_insert {c : Cells w} {k : Nat} {v : BitVec w} {e : Nat × BitVec w} (h : e ∈ Cells.insert c k v) : e = (k, v) ∨ e ∈ c := by
  induction c with
  | nil => simpa [Cells.insert] using h
  | cons x c ih =>
    obtain ⟨a, y⟩ := x
    unfold Cells.insert at h
    split at h
    · simpa using h
    · rcases List.mem_cons.mp h with h | h
      · exact .inr (by simp [h])
      · rcases ih h with h | h
        · exact .inl h
        · exact .inr (by simp [h])

theorem Cells.wf_insert {c : Cells w} (h : Cells.wf c = true) {k : Nat} {v : BitVec w} (hv : v ≠ 0) (hk : ∀ e ∈ c, e.1 ≠ k) :
    Cells.wf (Cells.insert c k v) = true := by
  induction c with
  | nil => simpa [Cells.insert, Cells.wf] using hv
  | cons x c ih =>
    obtain ⟨a, y⟩ := x
    obtain ⟨hy, ha, hc⟩ := (Cells.wf_cons a y c).mp h
    have hak : a ≠ k := hk (a, y) (by simp)
    unfold Cells.insert
    split
    · rename_i hlt
      refine (Cells.wf_cons _ _ _).mpr ⟨hv, ?_, h⟩
      intro e he
      rcases List.mem_cons.mp he with he | he
      · simpa [he] using hlt
      · exact lt_trans hlt (ha e he)
    · rename_i hlt
      refine (Cells.wf_cons _ _ _).mpr ⟨hy, ?_, ih hc (fun e he => hk e (by simp [he]))⟩
      intro e he
      rcases Cells.mem_insert he with he | he
      · simp only [he]
        omega
      · exact ha e he

/-- A write keeps the canonical form. -/
theorem Cells.wf_set {c : Cells w} (h : Cells.wf c = true) (k : Nat) (v : BitVec w) : Cells.wf (Cells.set c k v) = true := by
  unfold Cells.set
  split
  · exact Cells.wf_erase h k
  · rename_i hv
    exact Cells.wf_insert (Cells.wf_erase h k) hv (Cells.erase_not_mem c k)

/-- Writing bytes keeps the canonical form. -/
theorem Cells.wf_setLe {c : Cells 8} (h : Cells.wf c = true) (a n v : Nat) : Cells.wf (Cells.setLe c a n v) = true := by
  induction n generalizing c a v with
  | zero => exact h
  | succ n ih => exact ih (Cells.wf_set h a _) _ _

/-- Storage built by writes into empty storage is canonical. -/
theorem Cells.wf_foldl_set {α : Type} (l : List α) (f : α → Nat) (g : Cells w → α → BitVec w) {c : Cells w} (h : Cells.wf c = true) :
    Cells.wf (l.foldl (fun c e => Cells.set c (f e) (g c e)) c) = true := by
  induction l generalizing c with
  | nil => exact h
  | cons e l ih => exact ih (Cells.wf_set h _ _)

/-- Leaving entries out keeps the canonical form. -/
theorem Cells.wf_filter {c : Cells w} (h : Cells.wf c = true) (p : Nat × BitVec w → Bool) : Cells.wf (List.filter p c) = true := by
  induction c with
  | nil => rfl
  | cons e c ih =>
    obtain ⟨a, v⟩ := e
    obtain ⟨hv, ha, hc⟩ := (Cells.wf_cons a v c).mp h
    by_cases hp : p (a, v)
    · rw [List.filter_cons_of_pos hp]
      exact (Cells.wf_cons _ _ _).mpr ⟨hv, fun e he => ha e (List.mem_filter.mp he).1, ih hc⟩
    · rw [List.filter_cons_of_neg hp]
      exact ih hc

/-! Fields of a word. -/

theorem fieldOf_lt (v : Word) (lo n : Nat) : fieldOf v lo n < 2 ^ n := (v.extractLsb' lo n).isLt

theorem testBit_fieldOf (v : Word) (lo n i : Nat) : (fieldOf v lo n).testBit i = (decide (i < n) && v.getLsbD (lo + i)) := by
  simp [fieldOf, BitVec.testBit_toNat]

theorem getLsbD_withField (v : Word) (lo n x i : Nat) :
    (withField v lo n x).getLsbD i = if lo ≤ i ∧ i < lo + n ∧ i < 32 then x.testBit (i - lo) else v.getLsbD i := by
  have hm : ∀ j, (BitVec.ofNat 32 (2 ^ n - 1)).getLsbD j = (decide (j < 32) && decide (j < n)) := by
    intro j
    rw [BitVec.getLsbD_ofNat, Nat.testBit_two_pow_sub_one]
  have hx : ∀ j, (BitVec.ofNat 32 (x % 2 ^ n)).getLsbD j = (decide (j < 32) && (decide (j < n) && x.testBit j)) := by
    intro j
    rw [BitVec.getLsbD_ofNat, Nat.testBit_mod_two_pow]
  unfold withField
  rw [BitVec.getLsbD_or, BitVec.getLsbD_and, BitVec.getLsbD_not, BitVec.getLsbD_shiftLeft, BitVec.getLsbD_shiftLeft, hm, hx]
  by_cases h32 : i < 32
  · by_cases h1 : lo ≤ i
    · by_cases h2 : i < lo + n
      · have a : ¬ i < lo := by omega
        have b : i - lo < 32 := by omega
        have c : i - lo < n := by omega
        simp [h32, h1, h2, a, b, c]
      · have a : ¬ i < lo := by omega
        have b : i - lo < 32 := by omega
        have c : ¬ i - lo < n := by omega
        simp [h32, h1, h2, a, b, c]
    · have a : i < lo := by omega
      simp [h32, h1, a]
  · have : v.getLsbD i = false := BitVec.getLsbD_of_ge v i (by omega)
    simp [h32, this]

/-- A field that was written holds the value, modulo its width. -/
theorem fieldOf_withField (v : Word) (lo n x : Nat) (h : lo + n ≤ 32) : fieldOf (withField v lo n x) lo n = x % 2 ^ n := by
  apply Nat.eq_of_testBit_eq
  intro i
  rw [testBit_fieldOf, getLsbD_withField, Nat.testBit_mod_two_pow]
  by_cases hi : i < n
  · have : lo ≤ lo + i ∧ lo + i < lo + n ∧ lo + i < 32 := by omega
    simp [hi, this]
  · simp [hi]

/-- Writing a field leaves the object's other bits alone. -/
theorem fieldOf_withField_other (v : Word) (lo n x lo' n' : Nat) (h : lo' + n' ≤ lo ∨ lo + n ≤ lo') :
    fieldOf (withField v lo n x) lo' n' = fieldOf v lo' n' := by
  apply Nat.eq_of_testBit_eq
  intro i
  rw [testBit_fieldOf, testBit_fieldOf, getLsbD_withField]
  by_cases hi : i < n'
  · have : ¬ (lo ≤ lo' + i ∧ lo' + i < lo + n ∧ lo' + i < 32) := by omega
    simp [this]
  · simp [hi]

end Sys2Proof.Machine
end

