-- ==== Sys2Proof/Laws/State.lean ====
section
/-! SUPPORT. Laws/State.lean: what the named updates leave as it was, field by field; a read of an object, a field or a flag does not see an update of another part. -/
namespace Sys2Proof.Machine

open Sys2Proof

/-! State.wr. -/

@[simp] theorem State.wr_assembling (s : State) (a : Nat) (v : Word) : (State.wr s a v).assembling = s.assembling := rfl
@[simp] theorem State.wr_latest (s : State) (a : Nat) (v : Word) : (State.wr s a v).latest = s.latest := rfl
@[simp] theorem State.wr_previous (s : State) (a : Nat) (v : Word) : (State.wr s a v).previous = s.previous := rfl
@[simp] theorem State.wr_cst (s : State) (a : Nat) (v : Word) : (State.wr s a v).cst = s.cst := rfl
@[simp] theorem State.wr_obj (s : State) (a : Nat) (v : Word) : (State.wr s a v).obj = s.obj := rfl
@[simp] theorem State.wr_cfg (s : State) (a : Nat) (v : Word) : (State.wr s a v).cfg = s.cfg := rfl
@[simp] theorem State.wr_phb (s : State) (a : Nat) (v : Word) : (State.wr s a v).phb = s.phb := rfl
@[simp] theorem State.wr_ports (s : State) (a : Nat) (v : Word) : (State.wr s a v).ports = s.ports := rfl
@[simp] theorem State.wr_swp (s : State) (a : Nat) (v : Word) : (State.wr s a v).swp = s.swp := rfl
@[simp] theorem State.wr_est (s : State) (a : Nat) (v : Word) : (State.wr s a v).est = s.est := rfl
@[simp] theorem State.wr_afe (s : State) (a : Nat) (v : Word) : (State.wr s a v).afe = s.afe := rfl
@[simp] theorem State.wr_prt (s : State) (a : Nat) (v : Word) : (State.wr s a v).prt = s.prt := rfl
@[simp] theorem State.wr_cte (s : State) (a : Nat) (v : Word) : (State.wr s a v).cte = s.cte := rfl
@[simp] theorem State.wr_pot (s : State) (a : Nat) (v : Word) : (State.wr s a v).pot = s.pot := rfl
@[simp] theorem State.wr_dsp (s : State) (a : Nat) (v : Word) : (State.wr s a v).dsp = s.dsp := rfl
@[simp] theorem State.wr_thm (s : State) (a : Nat) (v : Word) : (State.wr s a v).thm = s.thm := rfl
@[simp] theorem State.wr_saf (s : State) (a : Nat) (v : Word) : (State.wr s a v).saf = s.saf := rfl
@[simp] theorem State.wr_can (s : State) (a : Nat) (v : Word) : (State.wr s a v).can = s.can := rfl
@[simp] theorem State.wr_tim (s : State) (a : Nat) (v : Word) : (State.wr s a v).tim = s.tim := rfl
@[simp] theorem State.wr_eth (s : State) (a : Nat) (v : Word) : (State.wr s a v).eth = s.eth := rfl
@[simp] theorem State.wr_rcd (s : State) (a : Nat) (v : Word) : (State.wr s a v).rcd = s.rcd := rfl
@[simp] theorem State.wr_lan (s : State) (a : Nat) (v : Word) : (State.wr s a v).lan = s.lan := rfl
@[simp] theorem State.wr_seq (s : State) (a : Nat) (v : Word) : (State.wr s a v).seq = s.seq := rfl
@[simp] theorem State.wr_pwr (s : State) (a : Nat) (v : Word) : (State.wr s a v).pwr = s.pwr := rfl
@[simp] theorem State.wr_upd (s : State) (a : Nat) (v : Word) : (State.wr s a v).upd = s.upd := rfl
@[simp] theorem State.wr_frames (s : State) (a : Nat) (v : Word) : (State.wr s a v).frames = s.frames := rfl
@[simp] theorem State.wr_sent (s : State) (a : Nat) (v : Word) : (State.wr s a v).sent = s.sent := rfl
@[simp] theorem State.wr_freeCount (s : State) (a : Nat) (v : Word) : (State.wr s a v).freeCount = s.freeCount := rfl
@[simp] theorem State.wr_pending (s : State) (a : Nat) (v : Word) : (State.wr s a v).pending = s.pending := rfl

/-! State.put. -/

@[simp] theorem State.put_assembling (s : State) (f : Field) (x : Nat) : (State.put s f x).assembling = s.assembling := rfl
@[simp] theorem State.put_latest (s : State) (f : Field) (x : Nat) : (State.put s f x).latest = s.latest := rfl
@[simp] theorem State.put_previous (s : State) (f : Field) (x : Nat) : (State.put s f x).previous = s.previous := rfl
@[simp] theorem State.put_cst (s : State) (f : Field) (x : Nat) : (State.put s f x).cst = s.cst := rfl
@[simp] theorem State.put_obj (s : State) (f : Field) (x : Nat) : (State.put s f x).obj = s.obj := rfl
@[simp] theorem State.put_cfg (s : State) (f : Field) (x : Nat) : (State.put s f x).cfg = s.cfg := rfl
@[simp] theorem State.put_phb (s : State) (f : Field) (x : Nat) : (State.put s f x).phb = s.phb := rfl
@[simp] theorem State.put_ports (s : State) (f : Field) (x : Nat) : (State.put s f x).ports = s.ports := rfl
@[simp] theorem State.put_swp (s : State) (f : Field) (x : Nat) : (State.put s f x).swp = s.swp := rfl
@[simp] theorem State.put_est (s : State) (f : Field) (x : Nat) : (State.put s f x).est = s.est := rfl
@[simp] theorem State.put_afe (s : State) (f : Field) (x : Nat) : (State.put s f x).afe = s.afe := rfl
@[simp] theorem State.put_prt (s : State) (f : Field) (x : Nat) : (State.put s f x).prt = s.prt := rfl
@[simp] theorem State.put_cte (s : State) (f : Field) (x : Nat) : (State.put s f x).cte = s.cte := rfl
@[simp] theorem State.put_pot (s : State) (f : Field) (x : Nat) : (State.put s f x).pot = s.pot := rfl
@[simp] theorem State.put_dsp (s : State) (f : Field) (x : Nat) : (State.put s f x).dsp = s.dsp := rfl
@[simp] theorem State.put_thm (s : State) (f : Field) (x : Nat) : (State.put s f x).thm = s.thm := rfl
@[simp] theorem State.put_saf (s : State) (f : Field) (x : Nat) : (State.put s f x).saf = s.saf := rfl
@[simp] theorem State.put_can (s : State) (f : Field) (x : Nat) : (State.put s f x).can = s.can := rfl
@[simp] theorem State.put_tim (s : State) (f : Field) (x : Nat) : (State.put s f x).tim = s.tim := rfl
@[simp] theorem State.put_eth (s : State) (f : Field) (x : Nat) : (State.put s f x).eth = s.eth := rfl
@[simp] theorem State.put_rcd (s : State) (f : Field) (x : Nat) : (State.put s f x).rcd = s.rcd := rfl
@[simp] theorem State.put_lan (s : State) (f : Field) (x : Nat) : (State.put s f x).lan = s.lan := rfl
@[simp] theorem State.put_seq (s : State) (f : Field) (x : Nat) : (State.put s f x).seq = s.seq := rfl
@[simp] theorem State.put_pwr (s : State) (f : Field) (x : Nat) : (State.put s f x).pwr = s.pwr := rfl
@[simp] theorem State.put_upd (s : State) (f : Field) (x : Nat) : (State.put s f x).upd = s.upd := rfl
@[simp] theorem State.put_frames (s : State) (f : Field) (x : Nat) : (State.put s f x).frames = s.frames := rfl
@[simp] theorem State.put_sent (s : State) (f : Field) (x : Nat) : (State.put s f x).sent = s.sent := rfl
@[simp] theorem State.put_freeCount (s : State) (f : Field) (x : Nat) : (State.put s f x).freeCount = s.freeCount := rfl
@[simp] theorem State.put_pending (s : State) (f : Field) (x : Nat) : (State.put s f x).pending = s.pending := rfl

/-! State.putS. -/

@[simp] theorem State.putS_assembling (s : State) (f : Field) (x : Int) : (State.putS s f x).assembling = s.assembling := rfl
@[simp] theorem State.putS_latest (s : State) (f : Field) (x : Int) : (State.putS s f x).latest = s.latest := rfl
@[simp] theorem State.putS_previous (s : State) (f : Field) (x : Int) : (State.putS s f x).previous = s.previous := rfl
@[simp] theorem State.putS_cst (s : State) (f : Field) (x : Int) : (State.putS s f x).cst = s.cst := rfl
@[simp] theorem State.putS_obj (s : State) (f : Field) (x : Int) : (State.putS s f x).obj = s.obj := rfl
@[simp] theorem State.putS_cfg (s : State) (f : Field) (x : Int) : (State.putS s f x).cfg = s.cfg := rfl
@[simp] theorem State.putS_phb (s : State) (f : Field) (x : Int) : (State.putS s f x).phb = s.phb := rfl
@[simp] theorem State.putS_ports (s : State) (f : Field) (x : Int) : (State.putS s f x).ports = s.ports := rfl
@[simp] theorem State.putS_swp (s : State) (f : Field) (x : Int) : (State.putS s f x).swp = s.swp := rfl
@[simp] theorem State.putS_est (s : State) (f : Field) (x : Int) : (State.putS s f x).est = s.est := rfl
@[simp] theorem State.putS_afe (s : State) (f : Field) (x : Int) : (State.putS s f x).afe = s.afe := rfl
@[simp] theorem State.putS_prt (s : State) (f : Field) (x : Int) : (State.putS s f x).prt = s.prt := rfl
@[simp] theorem State.putS_cte (s : State) (f : Field) (x : Int) : (State.putS s f x).cte = s.cte := rfl
@[simp] theorem State.putS_pot (s : State) (f : Field) (x : Int) : (State.putS s f x).pot = s.pot := rfl
@[simp] theorem State.putS_dsp (s : State) (f : Field) (x : Int) : (State.putS s f x).dsp = s.dsp := rfl
@[simp] theorem State.putS_thm (s : State) (f : Field) (x : Int) : (State.putS s f x).thm = s.thm := rfl
@[simp] theorem State.putS_saf (s : State) (f : Field) (x : Int) : (State.putS s f x).saf = s.saf := rfl
@[simp] theorem State.putS_can (s : State) (f : Field) (x : Int) : (State.putS s f x).can = s.can := rfl
@[simp] theorem State.putS_tim (s : State) (f : Field) (x : Int) : (State.putS s f x).tim = s.tim := rfl
@[simp] theorem State.putS_eth (s : State) (f : Field) (x : Int) : (State.putS s f x).eth = s.eth := rfl
@[simp] theorem State.putS_rcd (s : State) (f : Field) (x : Int) : (State.putS s f x).rcd = s.rcd := rfl
@[simp] theorem State.putS_lan (s : State) (f : Field) (x : Int) : (State.putS s f x).lan = s.lan := rfl
@[simp] theorem State.putS_seq (s : State) (f : Field) (x : Int) : (State.putS s f x).seq = s.seq := rfl
@[simp] theorem State.putS_pwr (s : State) (f : Field) (x : Int) : (State.putS s f x).pwr = s.pwr := rfl
@[simp] theorem State.putS_upd (s : State) (f : Field) (x : Int) : (State.putS s f x).upd = s.upd := rfl
@[simp] theorem State.putS_frames (s : State) (f : Field) (x : Int) : (State.putS s f x).frames = s.frames := rfl
@[simp] theorem State.putS_sent (s : State) (f : Field) (x : Int) : (State.putS s f x).sent = s.sent := rfl
@[simp] theorem State.putS_freeCount (s : State) (f : Field) (x : Int) : (State.putS s f x).freeCount = s.freeCount := rfl
@[simp] theorem State.putS_pending (s : State) (f : Field) (x : Int) : (State.putS s f x).pending = s.pending := rfl

/-! State.putFlag. -/

@[simp] theorem State.putFlag_assembling (s : State) (f : Field) (b : Bool) : (State.putFlag s f b).assembling = s.assembling := rfl
@[simp] theorem State.putFlag_latest (s : State) (f : Field) (b : Bool) : (State.putFlag s f b).latest = s.latest := rfl
@[simp] theorem State.putFlag_previous (s : State) (f : Field) (b : Bool) : (State.putFlag s f b).previous = s.previous := rfl
@[simp] theorem State.putFlag_cst (s : State) (f : Field) (b : Bool) : (State.putFlag s f b).cst = s.cst := rfl
@[simp] theorem State.putFlag_obj (s : State) (f : Field) (b : Bool) : (State.putFlag s f b).obj = s.obj := rfl
@[simp] theorem State.putFlag_cfg (s : State) (f : Field) (b : Bool) : (State.putFlag s f b).cfg = s.cfg := rfl
@[simp] theorem State.putFlag_phb (s : State) (f : Field) (b : Bool) : (State.putFlag s f b).phb = s.phb := rfl
@[simp] theorem State.putFlag_ports (s : State) (f : Field) (b : Bool) : (State.putFlag s f b).ports = s.ports := rfl
@[simp] theorem State.putFlag_swp (s : State) (f : Field) (b : Bool) : (State.putFlag s f b).swp = s.swp := rfl
@[simp] theorem State.putFlag_est (s : State) (f : Field) (b : Bool) : (State.putFlag s f b).est = s.est := rfl
@[simp] theorem State.putFlag_afe (s : State) (f : Field) (b : Bool) : (State.putFlag s f b).afe = s.afe := rfl
@[simp] theorem State.putFlag_prt (s : State) (f : Field) (b : Bool) : (State.putFlag s f b).prt = s.prt := rfl
@[simp] theorem State.putFlag_cte (s : State) (f : Field) (b : Bool) : (State.putFlag s f b).cte = s.cte := rfl
@[simp] theorem State.putFlag_pot (s : State) (f : Field) (b : Bool) : (State.putFlag s f b).pot = s.pot := rfl
@[simp] theorem State.putFlag_dsp (s : State) (f : Field) (b : Bool) : (State.putFlag s f b).dsp = s.dsp := rfl
@[simp] theorem State.putFlag_thm (s : State) (f : Field) (b : Bool) : (State.putFlag s f b).thm = s.thm := rfl
@[simp] theorem State.putFlag_saf (s : State) (f : Field) (b : Bool) : (State.putFlag s f b).saf = s.saf := rfl
@[simp] theorem State.putFlag_can (s : State) (f : Field) (b : Bool) : (State.putFlag s f b).can = s.can := rfl
@[simp] theorem State.putFlag_tim (s : State) (f : Field) (b : Bool) : (State.putFlag s f b).tim = s.tim := rfl
@[simp] theorem State.putFlag_eth (s : State) (f : Field) (b : Bool) : (State.putFlag s f b).eth = s.eth := rfl
@[simp] theorem State.putFlag_rcd (s : State) (f : Field) (b : Bool) : (State.putFlag s f b).rcd = s.rcd := rfl
@[simp] theorem State.putFlag_lan (s : State) (f : Field) (b : Bool) : (State.putFlag s f b).lan = s.lan := rfl
@[simp] theorem State.putFlag_seq (s : State) (f : Field) (b : Bool) : (State.putFlag s f b).seq = s.seq := rfl
@[simp] theorem State.putFlag_pwr (s : State) (f : Field) (b : Bool) : (State.putFlag s f b).pwr = s.pwr := rfl
@[simp] theorem State.putFlag_upd (s : State) (f : Field) (b : Bool) : (State.putFlag s f b).upd = s.upd := rfl
@[simp] theorem State.putFlag_frames (s : State) (f : Field) (b : Bool) : (State.putFlag s f b).frames = s.frames := rfl
@[simp] theorem State.putFlag_sent (s : State) (f : Field) (b : Bool) : (State.putFlag s f b).sent = s.sent := rfl
@[simp] theorem State.putFlag_freeCount (s : State) (f : Field) (b : Bool) : (State.putFlag s f b).freeCount = s.freeCount := rfl
@[simp] theorem State.putFlag_pending (s : State) (f : Field) (b : Bool) : (State.putFlag s f b).pending = s.pending := rfl

/-! State.bump. -/

@[simp] theorem State.bump_assembling (s : State) (f : Field) : (State.bump s f).assembling = s.assembling := rfl
@[simp] theorem State.bump_latest (s : State) (f : Field) : (State.bump s f).latest = s.latest := rfl
@[simp] theorem State.bump_previous (s : State) (f : Field) : (State.bump s f).previous = s.previous := rfl
@[simp] theorem State.bump_cst (s : State) (f : Field) : (State.bump s f).cst = s.cst := rfl
@[simp] theorem State.bump_obj (s : State) (f : Field) : (State.bump s f).obj = s.obj := rfl
@[simp] theorem State.bump_cfg (s : State) (f : Field) : (State.bump s f).cfg = s.cfg := rfl
@[simp] theorem State.bump_phb (s : State) (f : Field) : (State.bump s f).phb = s.phb := rfl
@[simp] theorem State.bump_ports (s : State) (f : Field) : (State.bump s f).ports = s.ports := rfl
@[simp] theorem State.bump_swp (s : State) (f : Field) : (State.bump s f).swp = s.swp := rfl
@[simp] theorem State.bump_est (s : State) (f : Field) : (State.bump s f).est = s.est := rfl
@[simp] theorem State.bump_afe (s : State) (f : Field) : (State.bump s f).afe = s.afe := rfl
@[simp] theorem State.bump_prt (s : State) (f : Field) : (State.bump s f).prt = s.prt := rfl
@[simp] theorem State.bump_cte (s : State) (f : Field) : (State.bump s f).cte = s.cte := rfl
@[simp] theorem State.bump_pot (s : State) (f : Field) : (State.bump s f).pot = s.pot := rfl
@[simp] theorem State.bump_dsp (s : State) (f : Field) : (State.bump s f).dsp = s.dsp := rfl
@[simp] theorem State.bump_thm (s : State) (f : Field) : (State.bump s f).thm = s.thm := rfl
@[simp] theorem State.bump_saf (s : State) (f : Field) : (State.bump s f).saf = s.saf := rfl
@[simp] theorem State.bump_can (s : State) (f : Field) : (State.bump s f).can = s.can := rfl
@[simp] theorem State.bump_tim (s : State) (f : Field) : (State.bump s f).tim = s.tim := rfl
@[simp] theorem State.bump_eth (s : State) (f : Field) : (State.bump s f).eth = s.eth := rfl
@[simp] theorem State.bump_rcd (s : State) (f : Field) : (State.bump s f).rcd = s.rcd := rfl
@[simp] theorem State.bump_lan (s : State) (f : Field) : (State.bump s f).lan = s.lan := rfl
@[simp] theorem State.bump_seq (s : State) (f : Field) : (State.bump s f).seq = s.seq := rfl
@[simp] theorem State.bump_pwr (s : State) (f : Field) : (State.bump s f).pwr = s.pwr := rfl
@[simp] theorem State.bump_upd (s : State) (f : Field) : (State.bump s f).upd = s.upd := rfl
@[simp] theorem State.bump_frames (s : State) (f : Field) : (State.bump s f).frames = s.frames := rfl
@[simp] theorem State.bump_sent (s : State) (f : Field) : (State.bump s f).sent = s.sent := rfl
@[simp] theorem State.bump_freeCount (s : State) (f : Field) : (State.bump s f).freeCount = s.freeCount := rfl
@[simp] theorem State.bump_pending (s : State) (f : Field) : (State.bump s f).pending = s.pending := rfl

/-! State.bumpBy. -/

@[simp] theorem State.bumpBy_assembling (s : State) (f : Field) (n : Nat) : (State.bumpBy s f n).assembling = s.assembling := rfl
@[simp] theorem State.bumpBy_latest (s : State) (f : Field) (n : Nat) : (State.bumpBy s f n).latest = s.latest := rfl
@[simp] theorem State.bumpBy_previous (s : State) (f : Field) (n : Nat) : (State.bumpBy s f n).previous = s.previous := rfl
@[simp] theorem State.bumpBy_cst (s : State) (f : Field) (n : Nat) : (State.bumpBy s f n).cst = s.cst := rfl
@[simp] theorem State.bumpBy_obj (s : State) (f : Field) (n : Nat) : (State.bumpBy s f n).obj = s.obj := rfl
@[simp] theorem State.bumpBy_cfg (s : State) (f : Field) (n : Nat) : (State.bumpBy s f n).cfg = s.cfg := rfl
@[simp] theorem State.bumpBy_phb (s : State) (f : Field) (n : Nat) : (State.bumpBy s f n).phb = s.phb := rfl
@[simp] theorem State.bumpBy_ports (s : State) (f : Field) (n : Nat) : (State.bumpBy s f n).ports = s.ports := rfl
@[simp] theorem State.bumpBy_swp (s : State) (f : Field) (n : Nat) : (State.bumpBy s f n).swp = s.swp := rfl
@[simp] theorem State.bumpBy_est (s : State) (f : Field) (n : Nat) : (State.bumpBy s f n).est = s.est := rfl
@[simp] theorem State.bumpBy_afe (s : State) (f : Field) (n : Nat) : (State.bumpBy s f n).afe = s.afe := rfl
@[simp] theorem State.bumpBy_prt (s : State) (f : Field) (n : Nat) : (State.bumpBy s f n).prt = s.prt := rfl
@[simp] theorem State.bumpBy_cte (s : State) (f : Field) (n : Nat) : (State.bumpBy s f n).cte = s.cte := rfl
@[simp] theorem State.bumpBy_pot (s : State) (f : Field) (n : Nat) : (State.bumpBy s f n).pot = s.pot := rfl
@[simp] theorem State.bumpBy_dsp (s : State) (f : Field) (n : Nat) : (State.bumpBy s f n).dsp = s.dsp := rfl
@[simp] theorem State.bumpBy_thm (s : State) (f : Field) (n : Nat) : (State.bumpBy s f n).thm = s.thm := rfl
@[simp] theorem State.bumpBy_saf (s : State) (f : Field) (n : Nat) : (State.bumpBy s f n).saf = s.saf := rfl
@[simp] theorem State.bumpBy_can (s : State) (f : Field) (n : Nat) : (State.bumpBy s f n).can = s.can := rfl
@[simp] theorem State.bumpBy_tim (s : State) (f : Field) (n : Nat) : (State.bumpBy s f n).tim = s.tim := rfl
@[simp] theorem State.bumpBy_eth (s : State) (f : Field) (n : Nat) : (State.bumpBy s f n).eth = s.eth := rfl
@[simp] theorem State.bumpBy_rcd (s : State) (f : Field) (n : Nat) : (State.bumpBy s f n).rcd = s.rcd := rfl
@[simp] theorem State.bumpBy_lan (s : State) (f : Field) (n : Nat) : (State.bumpBy s f n).lan = s.lan := rfl
@[simp] theorem State.bumpBy_seq (s : State) (f : Field) (n : Nat) : (State.bumpBy s f n).seq = s.seq := rfl
@[simp] theorem State.bumpBy_pwr (s : State) (f : Field) (n : Nat) : (State.bumpBy s f n).pwr = s.pwr := rfl
@[simp] theorem State.bumpBy_upd (s : State) (f : Field) (n : Nat) : (State.bumpBy s f n).upd = s.upd := rfl
@[simp] theorem State.bumpBy_frames (s : State) (f : Field) (n : Nat) : (State.bumpBy s f n).frames = s.frames := rfl
@[simp] theorem State.bumpBy_sent (s : State) (f : Field) (n : Nat) : (State.bumpBy s f n).sent = s.sent := rfl
@[simp] theorem State.bumpBy_freeCount (s : State) (f : Field) (n : Nat) : (State.bumpBy s f n).freeCount = s.freeCount := rfl
@[simp] theorem State.bumpBy_pending (s : State) (f : Field) (n : Nat) : (State.bumpBy s f n).pending = s.pending := rfl

/-! State.putBit. -/

@[simp] theorem State.putBit_assembling (s : State) (f : Field) (i : Nat) (b : Bool) : (State.putBit s f i b).assembling = s.assembling := rfl
@[simp] theorem State.putBit_latest (s : State) (f : Field) (i : Nat) (b : Bool) : (State.putBit s f i b).latest = s.latest := rfl
@[simp] theorem State.putBit_previous (s : State) (f : Field) (i : Nat) (b : Bool) : (State.putBit s f i b).previous = s.previous := rfl
@[simp] theorem State.putBit_cst (s : State) (f : Field) (i : Nat) (b : Bool) : (State.putBit s f i b).cst = s.cst := rfl
@[simp] theorem State.putBit_obj (s : State) (f : Field) (i : Nat) (b : Bool) : (State.putBit s f i b).obj = s.obj := rfl
@[simp] theorem State.putBit_cfg (s : State) (f : Field) (i : Nat) (b : Bool) : (State.putBit s f i b).cfg = s.cfg := rfl
@[simp] theorem State.putBit_phb (s : State) (f : Field) (i : Nat) (b : Bool) : (State.putBit s f i b).phb = s.phb := rfl
@[simp] theorem State.putBit_ports (s : State) (f : Field) (i : Nat) (b : Bool) : (State.putBit s f i b).ports = s.ports := rfl
@[simp] theorem State.putBit_swp (s : State) (f : Field) (i : Nat) (b : Bool) : (State.putBit s f i b).swp = s.swp := rfl
@[simp] theorem State.putBit_est (s : State) (f : Field) (i : Nat) (b : Bool) : (State.putBit s f i b).est = s.est := rfl
@[simp] theorem State.putBit_afe (s : State) (f : Field) (i : Nat) (b : Bool) : (State.putBit s f i b).afe = s.afe := rfl
@[simp] theorem State.putBit_prt (s : State) (f : Field) (i : Nat) (b : Bool) : (State.putBit s f i b).prt = s.prt := rfl
@[simp] theorem State.putBit_cte (s : State) (f : Field) (i : Nat) (b : Bool) : (State.putBit s f i b).cte = s.cte := rfl
@[simp] theorem State.putBit_pot (s : State) (f : Field) (i : Nat) (b : Bool) : (State.putBit s f i b).pot = s.pot := rfl
@[simp] theorem State.putBit_dsp (s : State) (f : Field) (i : Nat) (b : Bool) : (State.putBit s f i b).dsp = s.dsp := rfl
@[simp] theorem State.putBit_thm (s : State) (f : Field) (i : Nat) (b : Bool) : (State.putBit s f i b).thm = s.thm := rfl
@[simp] theorem State.putBit_saf (s : State) (f : Field) (i : Nat) (b : Bool) : (State.putBit s f i b).saf = s.saf := rfl
@[simp] theorem State.putBit_can (s : State) (f : Field) (i : Nat) (b : Bool) : (State.putBit s f i b).can = s.can := rfl
@[simp] theorem State.putBit_tim (s : State) (f : Field) (i : Nat) (b : Bool) : (State.putBit s f i b).tim = s.tim := rfl
@[simp] theorem State.putBit_eth (s : State) (f : Field) (i : Nat) (b : Bool) : (State.putBit s f i b).eth = s.eth := rfl
@[simp] theorem State.putBit_rcd (s : State) (f : Field) (i : Nat) (b : Bool) : (State.putBit s f i b).rcd = s.rcd := rfl
@[simp] theorem State.putBit_lan (s : State) (f : Field) (i : Nat) (b : Bool) : (State.putBit s f i b).lan = s.lan := rfl
@[simp] theorem State.putBit_seq (s : State) (f : Field) (i : Nat) (b : Bool) : (State.putBit s f i b).seq = s.seq := rfl
@[simp] theorem State.putBit_pwr (s : State) (f : Field) (i : Nat) (b : Bool) : (State.putBit s f i b).pwr = s.pwr := rfl
@[simp] theorem State.putBit_upd (s : State) (f : Field) (i : Nat) (b : Bool) : (State.putBit s f i b).upd = s.upd := rfl
@[simp] theorem State.putBit_frames (s : State) (f : Field) (i : Nat) (b : Bool) : (State.putBit s f i b).frames = s.frames := rfl
@[simp] theorem State.putBit_sent (s : State) (f : Field) (i : Nat) (b : Bool) : (State.putBit s f i b).sent = s.sent := rfl
@[simp] theorem State.putBit_freeCount (s : State) (f : Field) (i : Nat) (b : Bool) : (State.putBit s f i b).freeCount = s.freeCount := rfl
@[simp] theorem State.putBit_pending (s : State) (f : Field) (i : Nat) (b : Bool) : (State.putBit s f i b).pending = s.pending := rfl

/-! State.wr64. -/

@[simp] theorem State.wr64_assembling (s : State) (a : Nat) (v : BitVec 64) : (State.wr64 s a v).assembling = s.assembling := rfl
@[simp] theorem State.wr64_latest (s : State) (a : Nat) (v : BitVec 64) : (State.wr64 s a v).latest = s.latest := rfl
@[simp] theorem State.wr64_previous (s : State) (a : Nat) (v : BitVec 64) : (State.wr64 s a v).previous = s.previous := rfl
@[simp] theorem State.wr64_cst (s : State) (a : Nat) (v : BitVec 64) : (State.wr64 s a v).cst = s.cst := rfl
@[simp] theorem State.wr64_obj (s : State) (a : Nat) (v : BitVec 64) : (State.wr64 s a v).obj = s.obj := rfl
@[simp] theorem State.wr64_cfg (s : State) (a : Nat) (v : BitVec 64) : (State.wr64 s a v).cfg = s.cfg := rfl
@[simp] theorem State.wr64_phb (s : State) (a : Nat) (v : BitVec 64) : (State.wr64 s a v).phb = s.phb := rfl
@[simp] theorem State.wr64_ports (s : State) (a : Nat) (v : BitVec 64) : (State.wr64 s a v).ports = s.ports := rfl
@[simp] theorem State.wr64_swp (s : State) (a : Nat) (v : BitVec 64) : (State.wr64 s a v).swp = s.swp := rfl
@[simp] theorem State.wr64_est (s : State) (a : Nat) (v : BitVec 64) : (State.wr64 s a v).est = s.est := rfl
@[simp] theorem State.wr64_afe (s : State) (a : Nat) (v : BitVec 64) : (State.wr64 s a v).afe = s.afe := rfl
@[simp] theorem State.wr64_prt (s : State) (a : Nat) (v : BitVec 64) : (State.wr64 s a v).prt = s.prt := rfl
@[simp] theorem State.wr64_cte (s : State) (a : Nat) (v : BitVec 64) : (State.wr64 s a v).cte = s.cte := rfl
@[simp] theorem State.wr64_pot (s : State) (a : Nat) (v : BitVec 64) : (State.wr64 s a v).pot = s.pot := rfl
@[simp] theorem State.wr64_dsp (s : State) (a : Nat) (v : BitVec 64) : (State.wr64 s a v).dsp = s.dsp := rfl
@[simp] theorem State.wr64_thm (s : State) (a : Nat) (v : BitVec 64) : (State.wr64 s a v).thm = s.thm := rfl
@[simp] theorem State.wr64_saf (s : State) (a : Nat) (v : BitVec 64) : (State.wr64 s a v).saf = s.saf := rfl
@[simp] theorem State.wr64_can (s : State) (a : Nat) (v : BitVec 64) : (State.wr64 s a v).can = s.can := rfl
@[simp] theorem State.wr64_tim (s : State) (a : Nat) (v : BitVec 64) : (State.wr64 s a v).tim = s.tim := rfl
@[simp] theorem State.wr64_eth (s : State) (a : Nat) (v : BitVec 64) : (State.wr64 s a v).eth = s.eth := rfl
@[simp] theorem State.wr64_rcd (s : State) (a : Nat) (v : BitVec 64) : (State.wr64 s a v).rcd = s.rcd := rfl
@[simp] theorem State.wr64_lan (s : State) (a : Nat) (v : BitVec 64) : (State.wr64 s a v).lan = s.lan := rfl
@[simp] theorem State.wr64_seq (s : State) (a : Nat) (v : BitVec 64) : (State.wr64 s a v).seq = s.seq := rfl
@[simp] theorem State.wr64_pwr (s : State) (a : Nat) (v : BitVec 64) : (State.wr64 s a v).pwr = s.pwr := rfl
@[simp] theorem State.wr64_upd (s : State) (a : Nat) (v : BitVec 64) : (State.wr64 s a v).upd = s.upd := rfl
@[simp] theorem State.wr64_frames (s : State) (a : Nat) (v : BitVec 64) : (State.wr64 s a v).frames = s.frames := rfl
@[simp] theorem State.wr64_sent (s : State) (a : Nat) (v : BitVec 64) : (State.wr64 s a v).sent = s.sent := rfl
@[simp] theorem State.wr64_freeCount (s : State) (a : Nat) (v : BitVec 64) : (State.wr64 s a v).freeCount = s.freeCount := rfl
@[simp] theorem State.wr64_pending (s : State) (a : Nat) (v : BitVec 64) : (State.wr64 s a v).pending = s.pending := rfl

/-! State.event. -/

@[simp] theorem State.event_assembling (s : State) (e : EventFlag) : (State.event s e).assembling = s.assembling := rfl
@[simp] theorem State.event_latest (s : State) (e : EventFlag) : (State.event s e).latest = s.latest := rfl
@[simp] theorem State.event_previous (s : State) (e : EventFlag) : (State.event s e).previous = s.previous := rfl
@[simp] theorem State.event_cst (s : State) (e : EventFlag) : (State.event s e).cst = s.cst := rfl
@[simp] theorem State.event_obj (s : State) (e : EventFlag) : (State.event s e).obj = s.obj := rfl
@[simp] theorem State.event_cfg (s : State) (e : EventFlag) : (State.event s e).cfg = s.cfg := rfl
@[simp] theorem State.event_phb (s : State) (e : EventFlag) : (State.event s e).phb = s.phb := rfl
@[simp] theorem State.event_ports (s : State) (e : EventFlag) : (State.event s e).ports = s.ports := rfl
@[simp] theorem State.event_swp (s : State) (e : EventFlag) : (State.event s e).swp = s.swp := rfl
@[simp] theorem State.event_est (s : State) (e : EventFlag) : (State.event s e).est = s.est := rfl
@[simp] theorem State.event_afe (s : State) (e : EventFlag) : (State.event s e).afe = s.afe := rfl
@[simp] theorem State.event_prt (s : State) (e : EventFlag) : (State.event s e).prt = s.prt := rfl
@[simp] theorem State.event_cte (s : State) (e : EventFlag) : (State.event s e).cte = s.cte := rfl
@[simp] theorem State.event_pot (s : State) (e : EventFlag) : (State.event s e).pot = s.pot := rfl
@[simp] theorem State.event_dsp (s : State) (e : EventFlag) : (State.event s e).dsp = s.dsp := rfl
@[simp] theorem State.event_thm (s : State) (e : EventFlag) : (State.event s e).thm = s.thm := rfl
@[simp] theorem State.event_saf (s : State) (e : EventFlag) : (State.event s e).saf = s.saf := rfl
@[simp] theorem State.event_can (s : State) (e : EventFlag) : (State.event s e).can = s.can := rfl
@[simp] theorem State.event_tim (s : State) (e : EventFlag) : (State.event s e).tim = s.tim := rfl
@[simp] theorem State.event_eth (s : State) (e : EventFlag) : (State.event s e).eth = s.eth := rfl
@[simp] theorem State.event_rcd (s : State) (e : EventFlag) : (State.event s e).rcd = s.rcd := rfl
@[simp] theorem State.event_lan (s : State) (e : EventFlag) : (State.event s e).lan = s.lan := rfl
@[simp] theorem State.event_seq (s : State) (e : EventFlag) : (State.event s e).seq = s.seq := rfl
@[simp] theorem State.event_pwr (s : State) (e : EventFlag) : (State.event s e).pwr = s.pwr := rfl
@[simp] theorem State.event_upd (s : State) (e : EventFlag) : (State.event s e).upd = s.upd := rfl
@[simp] theorem State.event_frames (s : State) (e : EventFlag) : (State.event s e).frames = s.frames := rfl
@[simp] theorem State.event_sent (s : State) (e : EventFlag) : (State.event s e).sent = s.sent := rfl
@[simp] theorem State.event_freeCount (s : State) (e : EventFlag) : (State.event s e).freeCount = s.freeCount := rfl
@[simp] theorem State.event_pending (s : State) (e : EventFlag) : (State.event s e).pending = s.pending := rfl

/-! State.emit. -/

@[simp] theorem State.emit_objs (s : State) (o : Output) : (State.emit s o).objs = s.objs := rfl
@[simp] theorem State.emit_assembling (s : State) (o : Output) : (State.emit s o).assembling = s.assembling := rfl
@[simp] theorem State.emit_latest (s : State) (o : Output) : (State.emit s o).latest = s.latest := rfl
@[simp] theorem State.emit_previous (s : State) (o : Output) : (State.emit s o).previous = s.previous := rfl
@[simp] theorem State.emit_cst (s : State) (o : Output) : (State.emit s o).cst = s.cst := rfl
@[simp] theorem State.emit_obj (s : State) (o : Output) : (State.emit s o).obj = s.obj := rfl
@[simp] theorem State.emit_cfg (s : State) (o : Output) : (State.emit s o).cfg = s.cfg := rfl
@[simp] theorem State.emit_phb (s : State) (o : Output) : (State.emit s o).phb = s.phb := rfl
@[simp] theorem State.emit_ports (s : State) (o : Output) : (State.emit s o).ports = s.ports := rfl
@[simp] theorem State.emit_swp (s : State) (o : Output) : (State.emit s o).swp = s.swp := rfl
@[simp] theorem State.emit_est (s : State) (o : Output) : (State.emit s o).est = s.est := rfl
@[simp] theorem State.emit_afe (s : State) (o : Output) : (State.emit s o).afe = s.afe := rfl
@[simp] theorem State.emit_prt (s : State) (o : Output) : (State.emit s o).prt = s.prt := rfl
@[simp] theorem State.emit_cte (s : State) (o : Output) : (State.emit s o).cte = s.cte := rfl
@[simp] theorem State.emit_pot (s : State) (o : Output) : (State.emit s o).pot = s.pot := rfl
@[simp] theorem State.emit_dsp (s : State) (o : Output) : (State.emit s o).dsp = s.dsp := rfl
@[simp] theorem State.emit_thm (s : State) (o : Output) : (State.emit s o).thm = s.thm := rfl
@[simp] theorem State.emit_saf (s : State) (o : Output) : (State.emit s o).saf = s.saf := rfl
@[simp] theorem State.emit_can (s : State) (o : Output) : (State.emit s o).can = s.can := rfl
@[simp] theorem State.emit_tim (s : State) (o : Output) : (State.emit s o).tim = s.tim := rfl
@[simp] theorem State.emit_eth (s : State) (o : Output) : (State.emit s o).eth = s.eth := rfl
@[simp] theorem State.emit_rcd (s : State) (o : Output) : (State.emit s o).rcd = s.rcd := rfl
@[simp] theorem State.emit_lan (s : State) (o : Output) : (State.emit s o).lan = s.lan := rfl
@[simp] theorem State.emit_seq (s : State) (o : Output) : (State.emit s o).seq = s.seq := rfl
@[simp] theorem State.emit_pwr (s : State) (o : Output) : (State.emit s o).pwr = s.pwr := rfl
@[simp] theorem State.emit_upd (s : State) (o : Output) : (State.emit s o).upd = s.upd := rfl
@[simp] theorem State.emit_frames (s : State) (o : Output) : (State.emit s o).frames = s.frames := rfl
@[simp] theorem State.emit_freeCount (s : State) (o : Output) : (State.emit s o).freeCount = s.freeCount := rfl
@[simp] theorem State.emit_pending (s : State) (o : Output) : (State.emit s o).pending = s.pending := rfl
@[simp] theorem State.emit_rd (s : State) (o : Output) (j : Nat) : (State.emit s o).rd j = s.rd j := rfl
@[simp] theorem State.emit_fld (s : State) (o : Output) (h : Field) : (State.emit s o).fld h = s.fld h := rfl
@[simp] theorem State.emit_flag (s : State) (o : Output) (h : Field) : (State.emit s o).flag h = s.flag h := rfl

/-! State.took. -/

@[simp] theorem State.took_objs (s : State) : (State.took s).objs = s.objs := rfl
@[simp] theorem State.took_assembling (s : State) : (State.took s).assembling = s.assembling := rfl
@[simp] theorem State.took_latest (s : State) : (State.took s).latest = s.latest := rfl
@[simp] theorem State.took_previous (s : State) : (State.took s).previous = s.previous := rfl
@[simp] theorem State.took_cst (s : State) : (State.took s).cst = s.cst := rfl
@[simp] theorem State.took_obj (s : State) : (State.took s).obj = s.obj := rfl
@[simp] theorem State.took_cfg (s : State) : (State.took s).cfg = s.cfg := rfl
@[simp] theorem State.took_phb (s : State) : (State.took s).phb = s.phb := rfl
@[simp] theorem State.took_ports (s : State) : (State.took s).ports = s.ports := rfl
@[simp] theorem State.took_swp (s : State) : (State.took s).swp = s.swp := rfl
@[simp] theorem State.took_est (s : State) : (State.took s).est = s.est := rfl
@[simp] theorem State.took_afe (s : State) : (State.took s).afe = s.afe := rfl
@[simp] theorem State.took_prt (s : State) : (State.took s).prt = s.prt := rfl
@[simp] theorem State.took_cte (s : State) : (State.took s).cte = s.cte := rfl
@[simp] theorem State.took_pot (s : State) : (State.took s).pot = s.pot := rfl
@[simp] theorem State.took_dsp (s : State) : (State.took s).dsp = s.dsp := rfl
@[simp] theorem State.took_thm (s : State) : (State.took s).thm = s.thm := rfl
@[simp] theorem State.took_saf (s : State) : (State.took s).saf = s.saf := rfl
@[simp] theorem State.took_can (s : State) : (State.took s).can = s.can := rfl
@[simp] theorem State.took_tim (s : State) : (State.took s).tim = s.tim := rfl
@[simp] theorem State.took_eth (s : State) : (State.took s).eth = s.eth := rfl
@[simp] theorem State.took_rcd (s : State) : (State.took s).rcd = s.rcd := rfl
@[simp] theorem State.took_lan (s : State) : (State.took s).lan = s.lan := rfl
@[simp] theorem State.took_seq (s : State) : (State.took s).seq = s.seq := rfl
@[simp] theorem State.took_pwr (s : State) : (State.took s).pwr = s.pwr := rfl
@[simp] theorem State.took_upd (s : State) : (State.took s).upd = s.upd := rfl
@[simp] theorem State.took_frames (s : State) : (State.took s).frames = s.frames := rfl
@[simp] theorem State.took_sent (s : State) : (State.took s).sent = s.sent := rfl
@[simp] theorem State.took_pending (s : State) : (State.took s).pending = s.pending := rfl
@[simp] theorem State.took_rd (s : State) (j : Nat) : (State.took s).rd j = s.rd j := rfl
@[simp] theorem State.took_fld (s : State) (h : Field) : (State.took s).fld h = s.fld h := rfl
@[simp] theorem State.took_flag (s : State) (h : Field) : (State.took s).flag h = s.flag h := rfl

/-! State.tookN. -/

@[simp] theorem State.tookN_objs (s : State) (n : Nat) : (State.tookN s n).objs = s.objs := rfl
@[simp] theorem State.tookN_assembling (s : State) (n : Nat) : (State.tookN s n).assembling = s.assembling := rfl
@[simp] theorem State.tookN_latest (s : State) (n : Nat) : (State.tookN s n).latest = s.latest := rfl
@[simp] theorem State.tookN_previous (s : State) (n : Nat) : (State.tookN s n).previous = s.previous := rfl
@[simp] theorem State.tookN_cst (s : State) (n : Nat) : (State.tookN s n).cst = s.cst := rfl
@[simp] theorem State.tookN_obj (s : State) (n : Nat) : (State.tookN s n).obj = s.obj := rfl
@[simp] theorem State.tookN_cfg (s : State) (n : Nat) : (State.tookN s n).cfg = s.cfg := rfl
@[simp] theorem State.tookN_phb (s : State) (n : Nat) : (State.tookN s n).phb = s.phb := rfl
@[simp] theorem State.tookN_ports (s : State) (n : Nat) : (State.tookN s n).ports = s.ports := rfl
@[simp] theorem State.tookN_swp (s : State) (n : Nat) : (State.tookN s n).swp = s.swp := rfl
@[simp] theorem State.tookN_est (s : State) (n : Nat) : (State.tookN s n).est = s.est := rfl
@[simp] theorem State.tookN_afe (s : State) (n : Nat) : (State.tookN s n).afe = s.afe := rfl
@[simp] theorem State.tookN_prt (s : State) (n : Nat) : (State.tookN s n).prt = s.prt := rfl
@[simp] theorem State.tookN_cte (s : State) (n : Nat) : (State.tookN s n).cte = s.cte := rfl
@[simp] theorem State.tookN_pot (s : State) (n : Nat) : (State.tookN s n).pot = s.pot := rfl
@[simp] theorem State.tookN_dsp (s : State) (n : Nat) : (State.tookN s n).dsp = s.dsp := rfl
@[simp] theorem State.tookN_thm (s : State) (n : Nat) : (State.tookN s n).thm = s.thm := rfl
@[simp] theorem State.tookN_saf (s : State) (n : Nat) : (State.tookN s n).saf = s.saf := rfl
@[simp] theorem State.tookN_can (s : State) (n : Nat) : (State.tookN s n).can = s.can := rfl
@[simp] theorem State.tookN_tim (s : State) (n : Nat) : (State.tookN s n).tim = s.tim := rfl
@[simp] theorem State.tookN_eth (s : State) (n : Nat) : (State.tookN s n).eth = s.eth := rfl
@[simp] theorem State.tookN_rcd (s : State) (n : Nat) : (State.tookN s n).rcd = s.rcd := rfl
@[simp] theorem State.tookN_lan (s : State) (n : Nat) : (State.tookN s n).lan = s.lan := rfl
@[simp] theorem State.tookN_seq (s : State) (n : Nat) : (State.tookN s n).seq = s.seq := rfl
@[simp] theorem State.tookN_pwr (s : State) (n : Nat) : (State.tookN s n).pwr = s.pwr := rfl
@[simp] theorem State.tookN_upd (s : State) (n : Nat) : (State.tookN s n).upd = s.upd := rfl
@[simp] theorem State.tookN_frames (s : State) (n : Nat) : (State.tookN s n).frames = s.frames := rfl
@[simp] theorem State.tookN_sent (s : State) (n : Nat) : (State.tookN s n).sent = s.sent := rfl
@[simp] theorem State.tookN_pending (s : State) (n : Nat) : (State.tookN s n).pending = s.pending := rfl
@[simp] theorem State.tookN_rd (s : State) (n : Nat) (j : Nat) : (State.tookN s n).rd j = s.rd j := rfl
@[simp] theorem State.tookN_fld (s : State) (n : Nat) (h : Field) : (State.tookN s n).fld h = s.fld h := rfl
@[simp] theorem State.tookN_flag (s : State) (n : Nat) (h : Field) : (State.tookN s n).flag h = s.flag h := rfl

/-! State.putAsm. -/

@[simp] theorem State.putAsm_objs (s : State) (f : Field) (x : Nat) : (State.putAsm s f x).objs = s.objs := rfl
@[simp] theorem State.putAsm_latest (s : State) (f : Field) (x : Nat) : (State.putAsm s f x).latest = s.latest := rfl
@[simp] theorem State.putAsm_previous (s : State) (f : Field) (x : Nat) : (State.putAsm s f x).previous = s.previous := rfl
@[simp] theorem State.putAsm_cst (s : State) (f : Field) (x : Nat) : (State.putAsm s f x).cst = s.cst := rfl
@[simp] theorem State.putAsm_obj (s : State) (f : Field) (x : Nat) : (State.putAsm s f x).obj = s.obj := rfl
@[simp] theorem State.putAsm_cfg (s : State) (f : Field) (x : Nat) : (State.putAsm s f x).cfg = s.cfg := rfl
@[simp] theorem State.putAsm_phb (s : State) (f : Field) (x : Nat) : (State.putAsm s f x).phb = s.phb := rfl
@[simp] theorem State.putAsm_ports (s : State) (f : Field) (x : Nat) : (State.putAsm s f x).ports = s.ports := rfl
@[simp] theorem State.putAsm_swp (s : State) (f : Field) (x : Nat) : (State.putAsm s f x).swp = s.swp := rfl
@[simp] theorem State.putAsm_est (s : State) (f : Field) (x : Nat) : (State.putAsm s f x).est = s.est := rfl
@[simp] theorem State.putAsm_afe (s : State) (f : Field) (x : Nat) : (State.putAsm s f x).afe = s.afe := rfl
@[simp] theorem State.putAsm_prt (s : State) (f : Field) (x : Nat) : (State.putAsm s f x).prt = s.prt := rfl
@[simp] theorem State.putAsm_cte (s : State) (f : Field) (x : Nat) : (State.putAsm s f x).cte = s.cte := rfl
@[simp] theorem State.putAsm_pot (s : State) (f : Field) (x : Nat) : (State.putAsm s f x).pot = s.pot := rfl
@[simp] theorem State.putAsm_dsp (s : State) (f : Field) (x : Nat) : (State.putAsm s f x).dsp = s.dsp := rfl
@[simp] theorem State.putAsm_thm (s : State) (f : Field) (x : Nat) : (State.putAsm s f x).thm = s.thm := rfl
@[simp] theorem State.putAsm_saf (s : State) (f : Field) (x : Nat) : (State.putAsm s f x).saf = s.saf := rfl
@[simp] theorem State.putAsm_can (s : State) (f : Field) (x : Nat) : (State.putAsm s f x).can = s.can := rfl
@[simp] theorem State.putAsm_tim (s : State) (f : Field) (x : Nat) : (State.putAsm s f x).tim = s.tim := rfl
@[simp] theorem State.putAsm_eth (s : State) (f : Field) (x : Nat) : (State.putAsm s f x).eth = s.eth := rfl
@[simp] theorem State.putAsm_rcd (s : State) (f : Field) (x : Nat) : (State.putAsm s f x).rcd = s.rcd := rfl
@[simp] theorem State.putAsm_lan (s : State) (f : Field) (x : Nat) : (State.putAsm s f x).lan = s.lan := rfl
@[simp] theorem State.putAsm_seq (s : State) (f : Field) (x : Nat) : (State.putAsm s f x).seq = s.seq := rfl
@[simp] theorem State.putAsm_pwr (s : State) (f : Field) (x : Nat) : (State.putAsm s f x).pwr = s.pwr := rfl
@[simp] theorem State.putAsm_upd (s : State) (f : Field) (x : Nat) : (State.putAsm s f x).upd = s.upd := rfl
@[simp] theorem State.putAsm_frames (s : State) (f : Field) (x : Nat) : (State.putAsm s f x).frames = s.frames := rfl
@[simp] theorem State.putAsm_sent (s : State) (f : Field) (x : Nat) : (State.putAsm s f x).sent = s.sent := rfl
@[simp] theorem State.putAsm_freeCount (s : State) (f : Field) (x : Nat) : (State.putAsm s f x).freeCount = s.freeCount := rfl
@[simp] theorem State.putAsm_pending (s : State) (f : Field) (x : Nat) : (State.putAsm s f x).pending = s.pending := rfl
@[simp] theorem State.putAsm_rd (s : State) (f : Field) (x : Nat) (j : Nat) : (State.putAsm s f x).rd j = s.rd j := rfl
@[simp] theorem State.putAsm_fld (s : State) (f : Field) (x : Nat) (h : Field) : (State.putAsm s f x).fld h = s.fld h := rfl
@[simp] theorem State.putAsm_flag (s : State) (f : Field) (x : Nat) (h : Field) : (State.putAsm s f x).flag h = s.flag h := rfl

/-! State.setTpo. -/

@[simp] theorem State.setTpo_objs (s : State) (n : Nat) (x : Tpo) : (State.setTpo s n x).objs = s.objs := rfl
@[simp] theorem State.setTpo_assembling (s : State) (n : Nat) (x : Tpo) : (State.setTpo s n x).assembling = s.assembling := rfl
@[simp] theorem State.setTpo_latest (s : State) (n : Nat) (x : Tpo) : (State.setTpo s n x).latest = s.latest := rfl
@[simp] theorem State.setTpo_previous (s : State) (n : Nat) (x : Tpo) : (State.setTpo s n x).previous = s.previous := rfl
@[simp] theorem State.setTpo_cst (s : State) (n : Nat) (x : Tpo) : (State.setTpo s n x).cst = s.cst := rfl
@[simp] theorem State.setTpo_obj (s : State) (n : Nat) (x : Tpo) : (State.setTpo s n x).obj = s.obj := rfl
@[simp] theorem State.setTpo_cfg (s : State) (n : Nat) (x : Tpo) : (State.setTpo s n x).cfg = s.cfg := rfl
@[simp] theorem State.setTpo_phb (s : State) (n : Nat) (x : Tpo) : (State.setTpo s n x).phb = s.phb := rfl
@[simp] theorem State.setTpo_ports (s : State) (n : Nat) (x : Tpo) : (State.setTpo s n x).ports = s.ports := rfl
@[simp] theorem State.setTpo_swp (s : State) (n : Nat) (x : Tpo) : (State.setTpo s n x).swp = s.swp := rfl
@[simp] theorem State.setTpo_est (s : State) (n : Nat) (x : Tpo) : (State.setTpo s n x).est = s.est := rfl
@[simp] theorem State.setTpo_afe (s : State) (n : Nat) (x : Tpo) : (State.setTpo s n x).afe = s.afe := rfl
@[simp] theorem State.setTpo_prt (s : State) (n : Nat) (x : Tpo) : (State.setTpo s n x).prt = s.prt := rfl
@[simp] theorem State.setTpo_cte (s : State) (n : Nat) (x : Tpo) : (State.setTpo s n x).cte = s.cte := rfl
@[simp] theorem State.setTpo_pot (s : State) (n : Nat) (x : Tpo) : (State.setTpo s n x).pot = s.pot := rfl
@[simp] theorem State.setTpo_dsp (s : State) (n : Nat) (x : Tpo) : (State.setTpo s n x).dsp = s.dsp := rfl
@[simp] theorem State.setTpo_thm (s : State) (n : Nat) (x : Tpo) : (State.setTpo s n x).thm = s.thm := rfl
@[simp] theorem State.setTpo_saf (s : State) (n : Nat) (x : Tpo) : (State.setTpo s n x).saf = s.saf := rfl
@[simp] theorem State.setTpo_can (s : State) (n : Nat) (x : Tpo) : (State.setTpo s n x).can = s.can := rfl
@[simp] theorem State.setTpo_eth (s : State) (n : Nat) (x : Tpo) : (State.setTpo s n x).eth = s.eth := rfl
@[simp] theorem State.setTpo_rcd (s : State) (n : Nat) (x : Tpo) : (State.setTpo s n x).rcd = s.rcd := rfl
@[simp] theorem State.setTpo_lan (s : State) (n : Nat) (x : Tpo) : (State.setTpo s n x).lan = s.lan := rfl
@[simp] theorem State.setTpo_seq (s : State) (n : Nat) (x : Tpo) : (State.setTpo s n x).seq = s.seq := rfl
@[simp] theorem State.setTpo_pwr (s : State) (n : Nat) (x : Tpo) : (State.setTpo s n x).pwr = s.pwr := rfl
@[simp] theorem State.setTpo_upd (s : State) (n : Nat) (x : Tpo) : (State.setTpo s n x).upd = s.upd := rfl
@[simp] theorem State.setTpo_frames (s : State) (n : Nat) (x : Tpo) : (State.setTpo s n x).frames = s.frames := rfl
@[simp] theorem State.setTpo_sent (s : State) (n : Nat) (x : Tpo) : (State.setTpo s n x).sent = s.sent := rfl
@[simp] theorem State.setTpo_freeCount (s : State) (n : Nat) (x : Tpo) : (State.setTpo s n x).freeCount = s.freeCount := rfl
@[simp] theorem State.setTpo_pending (s : State) (n : Nat) (x : Tpo) : (State.setTpo s n x).pending = s.pending := rfl
@[simp] theorem State.setTpo_rd (s : State) (n : Nat) (x : Tpo) (j : Nat) : (State.setTpo s n x).rd j = s.rd j := rfl
@[simp] theorem State.setTpo_fld (s : State) (n : Nat) (x : Tpo) (h : Field) : (State.setTpo s n x).fld h = s.fld h := rfl
@[simp] theorem State.setTpo_flag (s : State) (n : Nat) (x : Tpo) (h : Field) : (State.setTpo s n x).flag h = s.flag h := rfl

/-! State.setPort. -/

@[simp] theorem State.setPort_objs (s : State) (p : Nat) (x : Port) : (State.setPort s p x).objs = s.objs := rfl
@[simp] theorem State.setPort_assembling (s : State) (p : Nat) (x : Port) : (State.setPort s p x).assembling = s.assembling := rfl
@[simp] theorem State.setPort_latest (s : State) (p : Nat) (x : Port) : (State.setPort s p x).latest = s.latest := rfl
@[simp] theorem State.setPort_previous (s : State) (p : Nat) (x : Port) : (State.setPort s p x).previous = s.previous := rfl
@[simp] theorem State.setPort_cst (s : State) (p : Nat) (x : Port) : (State.setPort s p x).cst = s.cst := rfl
@[simp] theorem State.setPort_obj (s : State) (p : Nat) (x : Port) : (State.setPort s p x).obj = s.obj := rfl
@[simp] theorem State.setPort_cfg (s : State) (p : Nat) (x : Port) : (State.setPort s p x).cfg = s.cfg := rfl
@[simp] theorem State.setPort_phb (s : State) (p : Nat) (x : Port) : (State.setPort s p x).phb = s.phb := rfl
@[simp] theorem State.setPort_swp (s : State) (p : Nat) (x : Port) : (State.setPort s p x).swp = s.swp := rfl
@[simp] theorem State.setPort_est (s : State) (p : Nat) (x : Port) : (State.setPort s p x).est = s.est := rfl
@[simp] theorem State.setPort_afe (s : State) (p : Nat) (x : Port) : (State.setPort s p x).afe = s.afe := rfl
@[simp] theorem State.setPort_prt (s : State) (p : Nat) (x : Port) : (State.setPort s p x).prt = s.prt := rfl
@[simp] theorem State.setPort_cte (s : State) (p : Nat) (x : Port) : (State.setPort s p x).cte = s.cte := rfl
@[simp] theorem State.setPort_pot (s : State) (p : Nat) (x : Port) : (State.setPort s p x).pot = s.pot := rfl
@[simp] theorem State.setPort_dsp (s : State) (p : Nat) (x : Port) : (State.setPort s p x).dsp = s.dsp := rfl
@[simp] theorem State.setPort_thm (s : State) (p : Nat) (x : Port) : (State.setPort s p x).thm = s.thm := rfl
@[simp] theorem State.setPort_saf (s : State) (p : Nat) (x : Port) : (State.setPort s p x).saf = s.saf := rfl
@[simp] theorem State.setPort_can (s : State) (p : Nat) (x : Port) : (State.setPort s p x).can = s.can := rfl
@[simp] theorem State.setPort_tim (s : State) (p : Nat) (x : Port) : (State.setPort s p x).tim = s.tim := rfl
@[simp] theorem State.setPort_eth (s : State) (p : Nat) (x : Port) : (State.setPort s p x).eth = s.eth := rfl
@[simp] theorem State.setPort_rcd (s : State) (p : Nat) (x : Port) : (State.setPort s p x).rcd = s.rcd := rfl
@[simp] theorem State.setPort_lan (s : State) (p : Nat) (x : Port) : (State.setPort s p x).lan = s.lan := rfl
@[simp] theorem State.setPort_seq (s : State) (p : Nat) (x : Port) : (State.setPort s p x).seq = s.seq := rfl
@[simp] theorem State.setPort_pwr (s : State) (p : Nat) (x : Port) : (State.setPort s p x).pwr = s.pwr := rfl
@[simp] theorem State.setPort_upd (s : State) (p : Nat) (x : Port) : (State.setPort s p x).upd = s.upd := rfl
@[simp] theorem State.setPort_frames (s : State) (p : Nat) (x : Port) : (State.setPort s p x).frames = s.frames := rfl
@[simp] theorem State.setPort_sent (s : State) (p : Nat) (x : Port) : (State.setPort s p x).sent = s.sent := rfl
@[simp] theorem State.setPort_freeCount (s : State) (p : Nat) (x : Port) : (State.setPort s p x).freeCount = s.freeCount := rfl
@[simp] theorem State.setPort_pending (s : State) (p : Nat) (x : Port) : (State.setPort s p x).pending = s.pending := rfl
@[simp] theorem State.setPort_rd (s : State) (p : Nat) (x : Port) (j : Nat) : (State.setPort s p x).rd j = s.rd j := rfl
@[simp] theorem State.setPort_fld (s : State) (p : Nat) (x : Port) (h : Field) : (State.setPort s p x).fld h = s.fld h := rfl
@[simp] theorem State.setPort_flag (s : State) (p : Nat) (x : Port) (h : Field) : (State.setPort s p x).flag h = s.flag h := rfl

/-! State.setMon. -/

@[simp] theorem State.setMon_objs (s : State) (p m : Nat) (x : Mon) : (State.setMon s p m x).objs = s.objs := rfl
@[simp] theorem State.setMon_assembling (s : State) (p m : Nat) (x : Mon) : (State.setMon s p m x).assembling = s.assembling := rfl
@[simp] theorem State.setMon_latest (s : State) (p m : Nat) (x : Mon) : (State.setMon s p m x).latest = s.latest := rfl
@[simp] theorem State.setMon_previous (s : State) (p m : Nat) (x : Mon) : (State.setMon s p m x).previous = s.previous := rfl
@[simp] theorem State.setMon_cst (s : State) (p m : Nat) (x : Mon) : (State.setMon s p m x).cst = s.cst := rfl
@[simp] theorem State.setMon_obj (s : State) (p m : Nat) (x : Mon) : (State.setMon s p m x).obj = s.obj := rfl
@[simp] theorem State.setMon_cfg (s : State) (p m : Nat) (x : Mon) : (State.setMon s p m x).cfg = s.cfg := rfl
@[simp] theorem State.setMon_phb (s : State) (p m : Nat) (x : Mon) : (State.setMon s p m x).phb = s.phb := rfl
@[simp] theorem State.setMon_ports (s : State) (p m : Nat) (x : Mon) : (State.setMon s p m x).ports = s.ports := rfl
@[simp] theorem State.setMon_est (s : State) (p m : Nat) (x : Mon) : (State.setMon s p m x).est = s.est := rfl
@[simp] theorem State.setMon_afe (s : State) (p m : Nat) (x : Mon) : (State.setMon s p m x).afe = s.afe := rfl
@[simp] theorem State.setMon_prt (s : State) (p m : Nat) (x : Mon) : (State.setMon s p m x).prt = s.prt := rfl
@[simp] theorem State.setMon_cte (s : State) (p m : Nat) (x : Mon) : (State.setMon s p m x).cte = s.cte := rfl
@[simp] theorem State.setMon_pot (s : State) (p m : Nat) (x : Mon) : (State.setMon s p m x).pot = s.pot := rfl
@[simp] theorem State.setMon_dsp (s : State) (p m : Nat) (x : Mon) : (State.setMon s p m x).dsp = s.dsp := rfl
@[simp] theorem State.setMon_thm (s : State) (p m : Nat) (x : Mon) : (State.setMon s p m x).thm = s.thm := rfl
@[simp] theorem State.setMon_saf (s : State) (p m : Nat) (x : Mon) : (State.setMon s p m x).saf = s.saf := rfl
@[simp] theorem State.setMon_can (s : State) (p m : Nat) (x : Mon) : (State.setMon s p m x).can = s.can := rfl
@[simp] theorem State.setMon_tim (s : State) (p m : Nat) (x : Mon) : (State.setMon s p m x).tim = s.tim := rfl
@[simp] theorem State.setMon_eth (s : State) (p m : Nat) (x : Mon) : (State.setMon s p m x).eth = s.eth := rfl
@[simp] theorem State.setMon_rcd (s : State) (p m : Nat) (x : Mon) : (State.setMon s p m x).rcd = s.rcd := rfl
@[simp] theorem State.setMon_lan (s : State) (p m : Nat) (x : Mon) : (State.setMon s p m x).lan = s.lan := rfl
@[simp] theorem State.setMon_seq (s : State) (p m : Nat) (x : Mon) : (State.setMon s p m x).seq = s.seq := rfl
@[simp] theorem State.setMon_pwr (s : State) (p m : Nat) (x : Mon) : (State.setMon s p m x).pwr = s.pwr := rfl
@[simp] theorem State.setMon_upd (s : State) (p m : Nat) (x : Mon) : (State.setMon s p m x).upd = s.upd := rfl
@[simp] theorem State.setMon_frames (s : State) (p m : Nat) (x : Mon) : (State.setMon s p m x).frames = s.frames := rfl
@[simp] theorem State.setMon_sent (s : State) (p m : Nat) (x : Mon) : (State.setMon s p m x).sent = s.sent := rfl
@[simp] theorem State.setMon_freeCount (s : State) (p m : Nat) (x : Mon) : (State.setMon s p m x).freeCount = s.freeCount := rfl
@[simp] theorem State.setMon_pending (s : State) (p m : Nat) (x : Mon) : (State.setMon s p m x).pending = s.pending := rfl
@[simp] theorem State.setMon_rd (s : State) (p m : Nat) (x : Mon) (j : Nat) : (State.setMon s p m x).rd j = s.rd j := rfl
@[simp] theorem State.setMon_fld (s : State) (p m : Nat) (x : Mon) (h : Field) : (State.setMon s p m x).fld h = s.fld h := rfl
@[simp] theorem State.setMon_flag (s : State) (p m : Nat) (x : Mon) (h : Field) : (State.setMon s p m x).flag h = s.flag h := rfl

/-! State.setChan. -/

@[simp] theorem State.setChan_objs (s : State) (n : Nat) (c : AfeChan) : (State.setChan s n c).objs = s.objs := rfl
@[simp] theorem State.setChan_assembling (s : State) (n : Nat) (c : AfeChan) : (State.setChan s n c).assembling = s.assembling := rfl
@[simp] theorem State.setChan_latest (s : State) (n : Nat) (c : AfeChan) : (State.setChan s n c).latest = s.latest := rfl
@[simp] theorem State.setChan_previous (s : State) (n : Nat) (c : AfeChan) : (State.setChan s n c).previous = s.previous := rfl
@[simp] theorem State.setChan_cst (s : State) (n : Nat) (c : AfeChan) : (State.setChan s n c).cst = s.cst := rfl
@[simp] theorem State.setChan_obj (s : State) (n : Nat) (c : AfeChan) : (State.setChan s n c).obj = s.obj := rfl
@[simp] theorem State.setChan_cfg (s : State) (n : Nat) (c : AfeChan) : (State.setChan s n c).cfg = s.cfg := rfl
@[simp] theorem State.setChan_phb (s : State) (n : Nat) (c : AfeChan) : (State.setChan s n c).phb = s.phb := rfl
@[simp] theorem State.setChan_ports (s : State) (n : Nat) (c : AfeChan) : (State.setChan s n c).ports = s.ports := rfl
@[simp] theorem State.setChan_swp (s : State) (n : Nat) (c : AfeChan) : (State.setChan s n c).swp = s.swp := rfl
@[simp] theorem State.setChan_est (s : State) (n : Nat) (c : AfeChan) : (State.setChan s n c).est = s.est := rfl
@[simp] theorem State.setChan_prt (s : State) (n : Nat) (c : AfeChan) : (State.setChan s n c).prt = s.prt := rfl
@[simp] theorem State.setChan_cte (s : State) (n : Nat) (c : AfeChan) : (State.setChan s n c).cte = s.cte := rfl
@[simp] theorem State.setChan_pot (s : State) (n : Nat) (c : AfeChan) : (State.setChan s n c).pot = s.pot := rfl
@[simp] theorem State.setChan_dsp (s : State) (n : Nat) (c : AfeChan) : (State.setChan s n c).dsp = s.dsp := rfl
@[simp] theorem State.setChan_thm (s : State) (n : Nat) (c : AfeChan) : (State.setChan s n c).thm = s.thm := rfl
@[simp] theorem State.setChan_saf (s : State) (n : Nat) (c : AfeChan) : (State.setChan s n c).saf = s.saf := rfl
@[simp] theorem State.setChan_can (s : State) (n : Nat) (c : AfeChan) : (State.setChan s n c).can = s.can := rfl
@[simp] theorem State.setChan_tim (s : State) (n : Nat) (c : AfeChan) : (State.setChan s n c).tim = s.tim := rfl
@[simp] theorem State.setChan_eth (s : State) (n : Nat) (c : AfeChan) : (State.setChan s n c).eth = s.eth := rfl
@[simp] theorem State.setChan_rcd (s : State) (n : Nat) (c : AfeChan) : (State.setChan s n c).rcd = s.rcd := rfl
@[simp] theorem State.setChan_lan (s : State) (n : Nat) (c : AfeChan) : (State.setChan s n c).lan = s.lan := rfl
@[simp] theorem State.setChan_seq (s : State) (n : Nat) (c : AfeChan) : (State.setChan s n c).seq = s.seq := rfl
@[simp] theorem State.setChan_pwr (s : State) (n : Nat) (c : AfeChan) : (State.setChan s n c).pwr = s.pwr := rfl
@[simp] theorem State.setChan_upd (s : State) (n : Nat) (c : AfeChan) : (State.setChan s n c).upd = s.upd := rfl
@[simp] theorem State.setChan_frames (s : State) (n : Nat) (c : AfeChan) : (State.setChan s n c).frames = s.frames := rfl
@[simp] theorem State.setChan_sent (s : State) (n : Nat) (c : AfeChan) : (State.setChan s n c).sent = s.sent := rfl
@[simp] theorem State.setChan_freeCount (s : State) (n : Nat) (c : AfeChan) : (State.setChan s n c).freeCount = s.freeCount := rfl
@[simp] theorem State.setChan_pending (s : State) (n : Nat) (c : AfeChan) : (State.setChan s n c).pending = s.pending := rfl
@[simp] theorem State.setChan_rd (s : State) (n : Nat) (c : AfeChan) (j : Nat) : (State.setChan s n c).rd j = s.rd j := rfl
@[simp] theorem State.setChan_fld (s : State) (n : Nat) (c : AfeChan) (h : Field) : (State.setChan s n c).fld h = s.fld h := rfl
@[simp] theorem State.setChan_flag (s : State) (n : Nat) (c : AfeChan) (h : Field) : (State.setChan s n c).flag h = s.flag h := rfl

/-! State.putCell. -/

@[simp] theorem State.putCell_objs (s : State) (n : Nat) (f : CellField) (v : Nat) : (State.putCell s n f v).objs = s.objs := rfl
@[simp] theorem State.putCell_assembling (s : State) (n : Nat) (f : CellField) (v : Nat) : (State.putCell s n f v).assembling = s.assembling := rfl
@[simp] theorem State.putCell_latest (s : State) (n : Nat) (f : CellField) (v : Nat) : (State.putCell s n f v).latest = s.latest := rfl
@[simp] theorem State.putCell_previous (s : State) (n : Nat) (f : CellField) (v : Nat) : (State.putCell s n f v).previous = s.previous := rfl
@[simp] theorem State.putCell_obj (s : State) (n : Nat) (f : CellField) (v : Nat) : (State.putCell s n f v).obj = s.obj := rfl
@[simp] theorem State.putCell_cfg (s : State) (n : Nat) (f : CellField) (v : Nat) : (State.putCell s n f v).cfg = s.cfg := rfl
@[simp] theorem State.putCell_phb (s : State) (n : Nat) (f : CellField) (v : Nat) : (State.putCell s n f v).phb = s.phb := rfl
@[simp] theorem State.putCell_ports (s : State) (n : Nat) (f : CellField) (v : Nat) : (State.putCell s n f v).ports = s.ports := rfl
@[simp] theorem State.putCell_swp (s : State) (n : Nat) (f : CellField) (v : Nat) : (State.putCell s n f v).swp = s.swp := rfl
@[simp] theorem State.putCell_est (s : State) (n : Nat) (f : CellField) (v : Nat) : (State.putCell s n f v).est = s.est := rfl
@[simp] theorem State.putCell_afe (s : State) (n : Nat) (f : CellField) (v : Nat) : (State.putCell s n f v).afe = s.afe := rfl
@[simp] theorem State.putCell_prt (s : State) (n : Nat) (f : CellField) (v : Nat) : (State.putCell s n f v).prt = s.prt := rfl
@[simp] theorem State.putCell_cte (s : State) (n : Nat) (f : CellField) (v : Nat) : (State.putCell s n f v).cte = s.cte := rfl
@[simp] theorem State.putCell_pot (s : State) (n : Nat) (f : CellField) (v : Nat) : (State.putCell s n f v).pot = s.pot := rfl
@[simp] theorem State.putCell_dsp (s : State) (n : Nat) (f : CellField) (v : Nat) : (State.putCell s n f v).dsp = s.dsp := rfl
@[simp] theorem State.putCell_thm (s : State) (n : Nat) (f : CellField) (v : Nat) : (State.putCell s n f v).thm = s.thm := rfl
@[simp] theorem State.putCell_saf (s : State) (n : Nat) (f : CellField) (v : Nat) : (State.putCell s n f v).saf = s.saf := rfl
@[simp] theorem State.putCell_can (s : State) (n : Nat) (f : CellField) (v : Nat) : (State.putCell s n f v).can = s.can := rfl
@[simp] theorem State.putCell_tim (s : State) (n : Nat) (f : CellField) (v : Nat) : (State.putCell s n f v).tim = s.tim := rfl
@[simp] theorem State.putCell_eth (s : State) (n : Nat) (f : CellField) (v : Nat) : (State.putCell s n f v).eth = s.eth := rfl
@[simp] theorem State.putCell_rcd (s : State) (n : Nat) (f : CellField) (v : Nat) : (State.putCell s n f v).rcd = s.rcd := rfl
@[simp] theorem State.putCell_lan (s : State) (n : Nat) (f : CellField) (v : Nat) : (State.putCell s n f v).lan = s.lan := rfl
@[simp] theorem State.putCell_seq (s : State) (n : Nat) (f : CellField) (v : Nat) : (State.putCell s n f v).seq = s.seq := rfl
@[simp] theorem State.putCell_pwr (s : State) (n : Nat) (f : CellField) (v : Nat) : (State.putCell s n f v).pwr = s.pwr := rfl
@[simp] theorem State.putCell_upd (s : State) (n : Nat) (f : CellField) (v : Nat) : (State.putCell s n f v).upd = s.upd := rfl
@[simp] theorem State.putCell_frames (s : State) (n : Nat) (f : CellField) (v : Nat) : (State.putCell s n f v).frames = s.frames := rfl
@[simp] theorem State.putCell_sent (s : State) (n : Nat) (f : CellField) (v : Nat) : (State.putCell s n f v).sent = s.sent := rfl
@[simp] theorem State.putCell_freeCount (s : State) (n : Nat) (f : CellField) (v : Nat) : (State.putCell s n f v).freeCount = s.freeCount := rfl
@[simp] theorem State.putCell_pending (s : State) (n : Nat) (f : CellField) (v : Nat) : (State.putCell s n f v).pending = s.pending := rfl
@[simp] theorem State.putCell_rd (s : State) (n : Nat) (f : CellField) (v : Nat) (j : Nat) : (State.putCell s n f v).rd j = s.rd j := rfl
@[simp] theorem State.putCell_fld (s : State) (n : Nat) (f : CellField) (v : Nat) (h : Field) : (State.putCell s n f v).fld h = s.fld h := rfl
@[simp] theorem State.putCell_flag (s : State) (n : Nat) (f : CellField) (v : Nat) (h : Field) : (State.putCell s n f v).flag h = s.flag h := rfl

/-! State.setTrim. -/

@[simp] theorem State.setTrim_objs (s : State) (n : Nat) (x : Trim) : (State.setTrim s n x).objs = s.objs := rfl
@[simp] theorem State.setTrim_assembling (s : State) (n : Nat) (x : Trim) : (State.setTrim s n x).assembling = s.assembling := rfl
@[simp] theorem State.setTrim_latest (s : State) (n : Nat) (x : Trim) : (State.setTrim s n x).latest = s.latest := rfl
@[simp] theorem State.setTrim_previous (s : State) (n : Nat) (x : Trim) : (State.setTrim s n x).previous = s.previous := rfl
@[simp] theorem State.setTrim_cst (s : State) (n : Nat) (x : Trim) : (State.setTrim s n x).cst = s.cst := rfl
@[simp] theorem State.setTrim_obj (s : State) (n : Nat) (x : Trim) : (State.setTrim s n x).obj = s.obj := rfl
@[simp] theorem State.setTrim_cfg (s : State) (n : Nat) (x : Trim) : (State.setTrim s n x).cfg = s.cfg := rfl
@[simp] theorem State.setTrim_phb (s : State) (n : Nat) (x : Trim) : (State.setTrim s n x).phb = s.phb := rfl
@[simp] theorem State.setTrim_ports (s : State) (n : Nat) (x : Trim) : (State.setTrim s n x).ports = s.ports := rfl
@[simp] theorem State.setTrim_swp (s : State) (n : Nat) (x : Trim) : (State.setTrim s n x).swp = s.swp := rfl
@[simp] theorem State.setTrim_est (s : State) (n : Nat) (x : Trim) : (State.setTrim s n x).est = s.est := rfl
@[simp] theorem State.setTrim_afe (s : State) (n : Nat) (x : Trim) : (State.setTrim s n x).afe = s.afe := rfl
@[simp] theorem State.setTrim_prt (s : State) (n : Nat) (x : Trim) : (State.setTrim s n x).prt = s.prt := rfl
@[simp] theorem State.setTrim_pot (s : State) (n : Nat) (x : Trim) : (State.setTrim s n x).pot = s.pot := rfl
@[simp] theorem State.setTrim_dsp (s : State) (n : Nat) (x : Trim) : (State.setTrim s n x).dsp = s.dsp := rfl
@[simp] theorem State.setTrim_thm (s : State) (n : Nat) (x : Trim) : (State.setTrim s n x).thm = s.thm := rfl
@[simp] theorem State.setTrim_saf (s : State) (n : Nat) (x : Trim) : (State.setTrim s n x).saf = s.saf := rfl
@[simp] theorem State.setTrim_can (s : State) (n : Nat) (x : Trim) : (State.setTrim s n x).can = s.can := rfl
@[simp] theorem State.setTrim_tim (s : State) (n : Nat) (x : Trim) : (State.setTrim s n x).tim = s.tim := rfl
@[simp] theorem State.setTrim_eth (s : State) (n : Nat) (x : Trim) : (State.setTrim s n x).eth = s.eth := rfl
@[simp] theorem State.setTrim_rcd (s : State) (n : Nat) (x : Trim) : (State.setTrim s n x).rcd = s.rcd := rfl
@[simp] theorem State.setTrim_lan (s : State) (n : Nat) (x : Trim) : (State.setTrim s n x).lan = s.lan := rfl
@[simp] theorem State.setTrim_seq (s : State) (n : Nat) (x : Trim) : (State.setTrim s n x).seq = s.seq := rfl
@[simp] theorem State.setTrim_pwr (s : State) (n : Nat) (x : Trim) : (State.setTrim s n x).pwr = s.pwr := rfl
@[simp] theorem State.setTrim_upd (s : State) (n : Nat) (x : Trim) : (State.setTrim s n x).upd = s.upd := rfl
@[simp] theorem State.setTrim_frames (s : State) (n : Nat) (x : Trim) : (State.setTrim s n x).frames = s.frames := rfl
@[simp] theorem State.setTrim_sent (s : State) (n : Nat) (x : Trim) : (State.setTrim s n x).sent = s.sent := rfl
@[simp] theorem State.setTrim_freeCount (s : State) (n : Nat) (x : Trim) : (State.setTrim s n x).freeCount = s.freeCount := rfl
@[simp] theorem State.setTrim_pending (s : State) (n : Nat) (x : Trim) : (State.setTrim s n x).pending = s.pending := rfl
@[simp] theorem State.setTrim_rd (s : State) (n : Nat) (x : Trim) (j : Nat) : (State.setTrim s n x).rd j = s.rd j := rfl
@[simp] theorem State.setTrim_fld (s : State) (n : Nat) (x : Trim) (h : Field) : (State.setTrim s n x).fld h = s.fld h := rfl
@[simp] theorem State.setTrim_flag (s : State) (n : Nat) (x : Trim) (h : Field) : (State.setTrim s n x).flag h = s.flag h := rfl

/-! State.setSlot. -/

@[simp] theorem State.setSlot_objs (s : State) (n : Nat) (x : Slot) : (State.setSlot s n x).objs = s.objs := rfl
@[simp] theorem State.setSlot_assembling (s : State) (n : Nat) (x : Slot) : (State.setSlot s n x).assembling = s.assembling := rfl
@[simp] theorem State.setSlot_latest (s : State) (n : Nat) (x : Slot) : (State.setSlot s n x).latest = s.latest := rfl
@[simp] theorem State.setSlot_previous (s : State) (n : Nat) (x : Slot) : (State.setSlot s n x).previous = s.previous := rfl
@[simp] theorem State.setSlot_cst (s : State) (n : Nat) (x : Slot) : (State.setSlot s n x).cst = s.cst := rfl
@[simp] theorem State.setSlot_obj (s : State) (n : Nat) (x : Slot) : (State.setSlot s n x).obj = s.obj := rfl
@[simp] theorem State.setSlot_cfg (s : State) (n : Nat) (x : Slot) : (State.setSlot s n x).cfg = s.cfg := rfl
@[simp] theorem State.setSlot_phb (s : State) (n : Nat) (x : Slot) : (State.setSlot s n x).phb = s.phb := rfl
@[simp] theorem State.setSlot_ports (s : State) (n : Nat) (x : Slot) : (State.setSlot s n x).ports = s.ports := rfl
@[simp] theorem State.setSlot_swp (s : State) (n : Nat) (x : Slot) : (State.setSlot s n x).swp = s.swp := rfl
@[simp] theorem State.setSlot_est (s : State) (n : Nat) (x : Slot) : (State.setSlot s n x).est = s.est := rfl
@[simp] theorem State.setSlot_afe (s : State) (n : Nat) (x : Slot) : (State.setSlot s n x).afe = s.afe := rfl
@[simp] theorem State.setSlot_prt (s : State) (n : Nat) (x : Slot) : (State.setSlot s n x).prt = s.prt := rfl
@[simp] theorem State.setSlot_pot (s : State) (n : Nat) (x : Slot) : (State.setSlot s n x).pot = s.pot := rfl
@[simp] theorem State.setSlot_dsp (s : State) (n : Nat) (x : Slot) : (State.setSlot s n x).dsp = s.dsp := rfl
@[simp] theorem State.setSlot_thm (s : State) (n : Nat) (x : Slot) : (State.setSlot s n x).thm = s.thm := rfl
@[simp] theorem State.setSlot_saf (s : State) (n : Nat) (x : Slot) : (State.setSlot s n x).saf = s.saf := rfl
@[simp] theorem State.setSlot_can (s : State) (n : Nat) (x : Slot) : (State.setSlot s n x).can = s.can := rfl
@[simp] theorem State.setSlot_tim (s : State) (n : Nat) (x : Slot) : (State.setSlot s n x).tim = s.tim := rfl
@[simp] theorem State.setSlot_eth (s : State) (n : Nat) (x : Slot) : (State.setSlot s n x).eth = s.eth := rfl
@[simp] theorem State.setSlot_rcd (s : State) (n : Nat) (x : Slot) : (State.setSlot s n x).rcd = s.rcd := rfl
@[simp] theorem State.setSlot_lan (s : State) (n : Nat) (x : Slot) : (State.setSlot s n x).lan = s.lan := rfl
@[simp] theorem State.setSlot_seq (s : State) (n : Nat) (x : Slot) : (State.setSlot s n x).seq = s.seq := rfl
@[simp] theorem State.setSlot_pwr (s : State) (n : Nat) (x : Slot) : (State.setSlot s n x).pwr = s.pwr := rfl
@[simp] theorem State.setSlot_upd (s : State) (n : Nat) (x : Slot) : (State.setSlot s n x).upd = s.upd := rfl
@[simp] theorem State.setSlot_frames (s : State) (n : Nat) (x : Slot) : (State.setSlot s n x).frames = s.frames := rfl
@[simp] theorem State.setSlot_sent (s : State) (n : Nat) (x : Slot) : (State.setSlot s n x).sent = s.sent := rfl
@[simp] theorem State.setSlot_freeCount (s : State) (n : Nat) (x : Slot) : (State.setSlot s n x).freeCount = s.freeCount := rfl
@[simp] theorem State.setSlot_pending (s : State) (n : Nat) (x : Slot) : (State.setSlot s n x).pending = s.pending := rfl
@[simp] theorem State.setSlot_rd (s : State) (n : Nat) (x : Slot) (j : Nat) : (State.setSlot s n x).rd j = s.rd j := rfl
@[simp] theorem State.setSlot_fld (s : State) (n : Nat) (x : Slot) (h : Field) : (State.setSlot s n x).fld h = s.fld h := rfl
@[simp] theorem State.setSlot_flag (s : State) (n : Nat) (x : Slot) (h : Field) : (State.setSlot s n x).flag h = s.flag h := rfl

/-! State.setIsl. -/

@[simp] theorem State.setIsl_objs (s : State) (n : Nat) (x : IslandString) : (State.setIsl s n x).objs = s.objs := rfl
@[simp] theorem State.setIsl_assembling (s : State) (n : Nat) (x : IslandString) : (State.setIsl s n x).assembling = s.assembling := rfl
@[simp] theorem State.setIsl_latest (s : State) (n : Nat) (x : IslandString) : (State.setIsl s n x).latest = s.latest := rfl
@[simp] theorem State.setIsl_previous (s : State) (n : Nat) (x : IslandString) : (State.setIsl s n x).previous = s.previous := rfl
@[simp] theorem State.setIsl_cst (s : State) (n : Nat) (x : IslandString) : (State.setIsl s n x).cst = s.cst := rfl
@[simp] theorem State.setIsl_obj (s : State) (n : Nat) (x : IslandString) : (State.setIsl s n x).obj = s.obj := rfl
@[simp] theorem State.setIsl_cfg (s : State) (n : Nat) (x : IslandString) : (State.setIsl s n x).cfg = s.cfg := rfl
@[simp] theorem State.setIsl_phb (s : State) (n : Nat) (x : IslandString) : (State.setIsl s n x).phb = s.phb := rfl
@[simp] theorem State.setIsl_ports (s : State) (n : Nat) (x : IslandString) : (State.setIsl s n x).ports = s.ports := rfl
@[simp] theorem State.setIsl_swp (s : State) (n : Nat) (x : IslandString) : (State.setIsl s n x).swp = s.swp := rfl
@[simp] theorem State.setIsl_est (s : State) (n : Nat) (x : IslandString) : (State.setIsl s n x).est = s.est := rfl
@[simp] theorem State.setIsl_afe (s : State) (n : Nat) (x : IslandString) : (State.setIsl s n x).afe = s.afe := rfl
@[simp] theorem State.setIsl_cte (s : State) (n : Nat) (x : IslandString) : (State.setIsl s n x).cte = s.cte := rfl
@[simp] theorem State.setIsl_pot (s : State) (n : Nat) (x : IslandString) : (State.setIsl s n x).pot = s.pot := rfl
@[simp] theorem State.setIsl_dsp (s : State) (n : Nat) (x : IslandString) : (State.setIsl s n x).dsp = s.dsp := rfl
@[simp] theorem State.setIsl_thm (s : State) (n : Nat) (x : IslandString) : (State.setIsl s n x).thm = s.thm := rfl
@[simp] theorem State.setIsl_saf (s : State) (n : Nat) (x : IslandString) : (State.setIsl s n x).saf = s.saf := rfl
@[simp] theorem State.setIsl_can (s : State) (n : Nat) (x : IslandString) : (State.setIsl s n x).can = s.can := rfl
@[simp] theorem State.setIsl_tim (s : State) (n : Nat) (x : IslandString) : (State.setIsl s n x).tim = s.tim := rfl
@[simp] theorem State.setIsl_eth (s : State) (n : Nat) (x : IslandString) : (State.setIsl s n x).eth = s.eth := rfl
@[simp] theorem State.setIsl_rcd (s : State) (n : Nat) (x : IslandString) : (State.setIsl s n x).rcd = s.rcd := rfl
@[simp] theorem State.setIsl_lan (s : State) (n : Nat) (x : IslandString) : (State.setIsl s n x).lan = s.lan := rfl
@[simp] theorem State.setIsl_seq (s : State) (n : Nat) (x : IslandString) : (State.setIsl s n x).seq = s.seq := rfl
@[simp] theorem State.setIsl_pwr (s : State) (n : Nat) (x : IslandString) : (State.setIsl s n x).pwr = s.pwr := rfl
@[simp] theorem State.setIsl_upd (s : State) (n : Nat) (x : IslandString) : (State.setIsl s n x).upd = s.upd := rfl
@[simp] theorem State.setIsl_frames (s : State) (n : Nat) (x : IslandString) : (State.setIsl s n x).frames = s.frames := rfl
@[simp] theorem State.setIsl_sent (s : State) (n : Nat) (x : IslandString) : (State.setIsl s n x).sent = s.sent := rfl
@[simp] theorem State.setIsl_freeCount (s : State) (n : Nat) (x : IslandString) : (State.setIsl s n x).freeCount = s.freeCount := rfl
@[simp] theorem State.setIsl_pending (s : State) (n : Nat) (x : IslandString) : (State.setIsl s n x).pending = s.pending := rfl
@[simp] theorem State.setIsl_rd (s : State) (n : Nat) (x : IslandString) (j : Nat) : (State.setIsl s n x).rd j = s.rd j := rfl
@[simp] theorem State.setIsl_fld (s : State) (n : Nat) (x : IslandString) (h : Field) : (State.setIsl s n x).fld h = s.fld h := rfl
@[simp] theorem State.setIsl_flag (s : State) (n : Nat) (x : IslandString) (h : Field) : (State.setIsl s n x).flag h = s.flag h := rfl

/-! State.setCanCh. -/

@[simp] theorem State.setCanCh_objs (s : State) (c : Nat) (x : CanChan) : (State.setCanCh s c x).objs = s.objs := rfl
@[simp] theorem State.setCanCh_assembling (s : State) (c : Nat) (x : CanChan) : (State.setCanCh s c x).assembling = s.assembling := rfl
@[simp] theorem State.setCanCh_latest (s : State) (c : Nat) (x : CanChan) : (State.setCanCh s c x).latest = s.latest := rfl
@[simp] theorem State.setCanCh_previous (s : State) (c : Nat) (x : CanChan) : (State.setCanCh s c x).previous = s.previous := rfl
@[simp] theorem State.setCanCh_cst (s : State) (c : Nat) (x : CanChan) : (State.setCanCh s c x).cst = s.cst := rfl
@[simp] theorem State.setCanCh_obj (s : State) (c : Nat) (x : CanChan) : (State.setCanCh s c x).obj = s.obj := rfl
@[simp] theorem State.setCanCh_cfg (s : State) (c : Nat) (x : CanChan) : (State.setCanCh s c x).cfg = s.cfg := rfl
@[simp] theorem State.setCanCh_phb (s : State) (c : Nat) (x : CanChan) : (State.setCanCh s c x).phb = s.phb := rfl
@[simp] theorem State.setCanCh_ports (s : State) (c : Nat) (x : CanChan) : (State.setCanCh s c x).ports = s.ports := rfl
@[simp] theorem State.setCanCh_swp (s : State) (c : Nat) (x : CanChan) : (State.setCanCh s c x).swp = s.swp := rfl
@[simp] theorem State.setCanCh_est (s : State) (c : Nat) (x : CanChan) : (State.setCanCh s c x).est = s.est := rfl
@[simp] theorem State.setCanCh_afe (s : State) (c : Nat) (x : CanChan) : (State.setCanCh s c x).afe = s.afe := rfl
@[simp] theorem State.setCanCh_prt (s : State) (c : Nat) (x : CanChan) : (State.setCanCh s c x).prt = s.prt := rfl
@[simp] theorem State.setCanCh_cte (s : State) (c : Nat) (x : CanChan) : (State.setCanCh s c x).cte = s.cte := rfl
@[simp] theorem State.setCanCh_pot (s : State) (c : Nat) (x : CanChan) : (State.setCanCh s c x).pot = s.pot := rfl
@[simp] theorem State.setCanCh_dsp (s : State) (c : Nat) (x : CanChan) : (State.setCanCh s c x).dsp = s.dsp := rfl
@[simp] theorem State.setCanCh_thm (s : State) (c : Nat) (x : CanChan) : (State.setCanCh s c x).thm = s.thm := rfl
@[simp] theorem State.setCanCh_saf (s : State) (c : Nat) (x : CanChan) : (State.setCanCh s c x).saf = s.saf := rfl
@[simp] theorem State.setCanCh_tim (s : State) (c : Nat) (x : CanChan) : (State.setCanCh s c x).tim = s.tim := rfl
@[simp] theorem State.setCanCh_eth (s : State) (c : Nat) (x : CanChan) : (State.setCanCh s c x).eth = s.eth := rfl
@[simp] theorem State.setCanCh_rcd (s : State) (c : Nat) (x : CanChan) : (State.setCanCh s c x).rcd = s.rcd := rfl
@[simp] theorem State.setCanCh_lan (s : State) (c : Nat) (x : CanChan) : (State.setCanCh s c x).lan = s.lan := rfl
@[simp] theorem State.setCanCh_seq (s : State) (c : Nat) (x : CanChan) : (State.setCanCh s c x).seq = s.seq := rfl
@[simp] theorem State.setCanCh_pwr (s : State) (c : Nat) (x : CanChan) : (State.setCanCh s c x).pwr = s.pwr := rfl
@[simp] theorem State.setCanCh_upd (s : State) (c : Nat) (x : CanChan) : (State.setCanCh s c x).upd = s.upd := rfl
@[simp] theorem State.setCanCh_frames (s : State) (c : Nat) (x : CanChan) : (State.setCanCh s c x).frames = s.frames := rfl
@[simp] theorem State.setCanCh_sent (s : State) (c : Nat) (x : CanChan) : (State.setCanCh s c x).sent = s.sent := rfl
@[simp] theorem State.setCanCh_freeCount (s : State) (c : Nat) (x : CanChan) : (State.setCanCh s c x).freeCount = s.freeCount := rfl
@[simp] theorem State.setCanCh_pending (s : State) (c : Nat) (x : CanChan) : (State.setCanCh s c x).pending = s.pending := rfl
@[simp] theorem State.setCanCh_rd (s : State) (c : Nat) (x : CanChan) (j : Nat) : (State.setCanCh s c x).rd j = s.rd j := rfl
@[simp] theorem State.setCanCh_fld (s : State) (c : Nat) (x : CanChan) (h : Field) : (State.setCanCh s c x).fld h = s.fld h := rfl
@[simp] theorem State.setCanCh_flag (s : State) (c : Nat) (x : CanChan) (h : Field) : (State.setCanCh s c x).flag h = s.flag h := rfl

/-! State.setConn. -/

@[simp] theorem State.setConn_objs (s : State) (c : Nat) (x : SdConn) : (State.setConn s c x).objs = s.objs := rfl
@[simp] theorem State.setConn_assembling (s : State) (c : Nat) (x : SdConn) : (State.setConn s c x).assembling = s.assembling := rfl
@[simp] theorem State.setConn_latest (s : State) (c : Nat) (x : SdConn) : (State.setConn s c x).latest = s.latest := rfl
@[simp] theorem State.setConn_previous (s : State) (c : Nat) (x : SdConn) : (State.setConn s c x).previous = s.previous := rfl
@[simp] theorem State.setConn_cst (s : State) (c : Nat) (x : SdConn) : (State.setConn s c x).cst = s.cst := rfl
@[simp] theorem State.setConn_obj (s : State) (c : Nat) (x : SdConn) : (State.setConn s c x).obj = s.obj := rfl
@[simp] theorem State.setConn_cfg (s : State) (c : Nat) (x : SdConn) : (State.setConn s c x).cfg = s.cfg := rfl
@[simp] theorem State.setConn_phb (s : State) (c : Nat) (x : SdConn) : (State.setConn s c x).phb = s.phb := rfl
@[simp] theorem State.setConn_ports (s : State) (c : Nat) (x : SdConn) : (State.setConn s c x).ports = s.ports := rfl
@[simp] theorem State.setConn_swp (s : State) (c : Nat) (x : SdConn) : (State.setConn s c x).swp = s.swp := rfl
@[simp] theorem State.setConn_est (s : State) (c : Nat) (x : SdConn) : (State.setConn s c x).est = s.est := rfl
@[simp] theorem State.setConn_afe (s : State) (c : Nat) (x : SdConn) : (State.setConn s c x).afe = s.afe := rfl
@[simp] theorem State.setConn_prt (s : State) (c : Nat) (x : SdConn) : (State.setConn s c x).prt = s.prt := rfl
@[simp] theorem State.setConn_cte (s : State) (c : Nat) (x : SdConn) : (State.setConn s c x).cte = s.cte := rfl
@[simp] theorem State.setConn_pot (s : State) (c : Nat) (x : SdConn) : (State.setConn s c x).pot = s.pot := rfl
@[simp] theorem State.setConn_dsp (s : State) (c : Nat) (x : SdConn) : (State.setConn s c x).dsp = s.dsp := rfl
@[simp] theorem State.setConn_thm (s : State) (c : Nat) (x : SdConn) : (State.setConn s c x).thm = s.thm := rfl
@[simp] theorem State.setConn_can (s : State) (c : Nat) (x : SdConn) : (State.setConn s c x).can = s.can := rfl
@[simp] theorem State.setConn_tim (s : State) (c : Nat) (x : SdConn) : (State.setConn s c x).tim = s.tim := rfl
@[simp] theorem State.setConn_eth (s : State) (c : Nat) (x : SdConn) : (State.setConn s c x).eth = s.eth := rfl
@[simp] theorem State.setConn_rcd (s : State) (c : Nat) (x : SdConn) : (State.setConn s c x).rcd = s.rcd := rfl
@[simp] theorem State.setConn_lan (s : State) (c : Nat) (x : SdConn) : (State.setConn s c x).lan = s.lan := rfl
@[simp] theorem State.setConn_seq (s : State) (c : Nat) (x : SdConn) : (State.setConn s c x).seq = s.seq := rfl
@[simp] theorem State.setConn_pwr (s : State) (c : Nat) (x : SdConn) : (State.setConn s c x).pwr = s.pwr := rfl
@[simp] theorem State.setConn_upd (s : State) (c : Nat) (x : SdConn) : (State.setConn s c x).upd = s.upd := rfl
@[simp] theorem State.setConn_frames (s : State) (c : Nat) (x : SdConn) : (State.setConn s c x).frames = s.frames := rfl
@[simp] theorem State.setConn_sent (s : State) (c : Nat) (x : SdConn) : (State.setConn s c x).sent = s.sent := rfl
@[simp] theorem State.setConn_freeCount (s : State) (c : Nat) (x : SdConn) : (State.setConn s c x).freeCount = s.freeCount := rfl
@[simp] theorem State.setConn_pending (s : State) (c : Nat) (x : SdConn) : (State.setConn s c x).pending = s.pending := rfl
@[simp] theorem State.setConn_rd (s : State) (c : Nat) (x : SdConn) (j : Nat) : (State.setConn s c x).rd j = s.rd j := rfl
@[simp] theorem State.setConn_fld (s : State) (c : Nat) (x : SdConn) (h : Field) : (State.setConn s c x).fld h = s.fld h := rfl
@[simp] theorem State.setConn_flag (s : State) (c : Nat) (x : SdConn) (h : Field) : (State.setConn s c x).flag h = s.flag h := rfl

/-! State.setEthPort. -/

@[simp] theorem State.setEthPort_objs (s : State) (p : Nat) (x : EthPort) : (State.setEthPort s p x).objs = s.objs := rfl
@[simp] theorem State.setEthPort_assembling (s : State) (p : Nat) (x : EthPort) : (State.setEthPort s p x).assembling = s.assembling := rfl
@[simp] theorem State.setEthPort_latest (s : State) (p : Nat) (x : EthPort) : (State.setEthPort s p x).latest = s.latest := rfl
@[simp] theorem State.setEthPort_previous (s : State) (p : Nat) (x : EthPort) : (State.setEthPort s p x).previous = s.previous := rfl
@[simp] theorem State.setEthPort_cst (s : State) (p : Nat) (x : EthPort) : (State.setEthPort s p x).cst = s.cst := rfl
@[simp] theorem State.setEthPort_obj (s : State) (p : Nat) (x : EthPort) : (State.setEthPort s p x).obj = s.obj := rfl
@[simp] theorem State.setEthPort_cfg (s : State) (p : Nat) (x : EthPort) : (State.setEthPort s p x).cfg = s.cfg := rfl
@[simp] theorem State.setEthPort_phb (s : State) (p : Nat) (x : EthPort) : (State.setEthPort s p x).phb = s.phb := rfl
@[simp] theorem State.setEthPort_ports (s : State) (p : Nat) (x : EthPort) : (State.setEthPort s p x).ports = s.ports := rfl
@[simp] theorem State.setEthPort_swp (s : State) (p : Nat) (x : EthPort) : (State.setEthPort s p x).swp = s.swp := rfl
@[simp] theorem State.setEthPort_est (s : State) (p : Nat) (x : EthPort) : (State.setEthPort s p x).est = s.est := rfl
@[simp] theorem State.setEthPort_afe (s : State) (p : Nat) (x : EthPort) : (State.setEthPort s p x).afe = s.afe := rfl
@[simp] theorem State.setEthPort_prt (s : State) (p : Nat) (x : EthPort) : (State.setEthPort s p x).prt = s.prt := rfl
@[simp] theorem State.setEthPort_cte (s : State) (p : Nat) (x : EthPort) : (State.setEthPort s p x).cte = s.cte := rfl
@[simp] theorem State.setEthPort_pot (s : State) (p : Nat) (x : EthPort) : (State.setEthPort s p x).pot = s.pot := rfl
@[simp] theorem State.setEthPort_dsp (s : State) (p : Nat) (x : EthPort) : (State.setEthPort s p x).dsp = s.dsp := rfl
@[simp] theorem State.setEthPort_thm (s : State) (p : Nat) (x : EthPort) : (State.setEthPort s p x).thm = s.thm := rfl
@[simp] theorem State.setEthPort_saf (s : State) (p : Nat) (x : EthPort) : (State.setEthPort s p x).saf = s.saf := rfl
@[simp] theorem State.setEthPort_can (s : State) (p : Nat) (x : EthPort) : (State.setEthPort s p x).can = s.can := rfl
@[simp] theorem State.setEthPort_tim (s : State) (p : Nat) (x : EthPort) : (State.setEthPort s p x).tim = s.tim := rfl
@[simp] theorem State.setEthPort_rcd (s : State) (p : Nat) (x : EthPort) : (State.setEthPort s p x).rcd = s.rcd := rfl
@[simp] theorem State.setEthPort_lan (s : State) (p : Nat) (x : EthPort) : (State.setEthPort s p x).lan = s.lan := rfl
@[simp] theorem State.setEthPort_seq (s : State) (p : Nat) (x : EthPort) : (State.setEthPort s p x).seq = s.seq := rfl
@[simp] theorem State.setEthPort_pwr (s : State) (p : Nat) (x : EthPort) : (State.setEthPort s p x).pwr = s.pwr := rfl
@[simp] theorem State.setEthPort_upd (s : State) (p : Nat) (x : EthPort) : (State.setEthPort s p x).upd = s.upd := rfl
@[simp] theorem State.setEthPort_frames (s : State) (p : Nat) (x : EthPort) : (State.setEthPort s p x).frames = s.frames := rfl
@[simp] theorem State.setEthPort_sent (s : State) (p : Nat) (x : EthPort) : (State.setEthPort s p x).sent = s.sent := rfl
@[simp] theorem State.setEthPort_freeCount (s : State) (p : Nat) (x : EthPort) : (State.setEthPort s p x).freeCount = s.freeCount := rfl
@[simp] theorem State.setEthPort_pending (s : State) (p : Nat) (x : EthPort) : (State.setEthPort s p x).pending = s.pending := rfl
@[simp] theorem State.setEthPort_rd (s : State) (p : Nat) (x : EthPort) (j : Nat) : (State.setEthPort s p x).rd j = s.rd j := rfl
@[simp] theorem State.setEthPort_fld (s : State) (p : Nat) (x : EthPort) (h : Field) : (State.setEthPort s p x).fld h = s.fld h := rfl
@[simp] theorem State.setEthPort_flag (s : State) (p : Nat) (x : EthPort) (h : Field) : (State.setEthPort s p x).flag h = s.flag h := rfl

/-! State.setStn. -/

@[simp] theorem State.setStn_objs (s : State) (i : Nat) (x : Station) : (State.setStn s i x).objs = s.objs := rfl
@[simp] theorem State.setStn_assembling (s : State) (i : Nat) (x : Station) : (State.setStn s i x).assembling = s.assembling := rfl
@[simp] theorem State.setStn_latest (s : State) (i : Nat) (x : Station) : (State.setStn s i x).latest = s.latest := rfl
@[simp] theorem State.setStn_previous (s : State) (i : Nat) (x : Station) : (State.setStn s i x).previous = s.previous := rfl
@[simp] theorem State.setStn_cst (s : State) (i : Nat) (x : Station) : (State.setStn s i x).cst = s.cst := rfl
@[simp] theorem State.setStn_obj (s : State) (i : Nat) (x : Station) : (State.setStn s i x).obj = s.obj := rfl
@[simp] theorem State.setStn_cfg (s : State) (i : Nat) (x : Station) : (State.setStn s i x).cfg = s.cfg := rfl
@[simp] theorem State.setStn_phb (s : State) (i : Nat) (x : Station) : (State.setStn s i x).phb = s.phb := rfl
@[simp] theorem State.setStn_ports (s : State) (i : Nat) (x : Station) : (State.setStn s i x).ports = s.ports := rfl
@[simp] theorem State.setStn_swp (s : State) (i : Nat) (x : Station) : (State.setStn s i x).swp = s.swp := rfl
@[simp] theorem State.setStn_est (s : State) (i : Nat) (x : Station) : (State.setStn s i x).est = s.est := rfl
@[simp] theorem State.setStn_afe (s : State) (i : Nat) (x : Station) : (State.setStn s i x).afe = s.afe := rfl
@[simp] theorem State.setStn_prt (s : State) (i : Nat) (x : Station) : (State.setStn s i x).prt = s.prt := rfl
@[simp] theorem State.setStn_cte (s : State) (i : Nat) (x : Station) : (State.setStn s i x).cte = s.cte := rfl
@[simp] theorem State.setStn_pot (s : State) (i : Nat) (x : Station) : (State.setStn s i x).pot = s.pot := rfl
@[simp] theorem State.setStn_dsp (s : State) (i : Nat) (x : Station) : (State.setStn s i x).dsp = s.dsp := rfl
@[simp] theorem State.setStn_thm (s : State) (i : Nat) (x : Station) : (State.setStn s i x).thm = s.thm := rfl
@[simp] theorem State.setStn_saf (s : State) (i : Nat) (x : Station) : (State.setStn s i x).saf = s.saf := rfl
@[simp] theorem State.setStn_can (s : State) (i : Nat) (x : Station) : (State.setStn s i x).can = s.can := rfl
@[simp] theorem State.setStn_tim (s : State) (i : Nat) (x : Station) : (State.setStn s i x).tim = s.tim := rfl
@[simp] theorem State.setStn_eth (s : State) (i : Nat) (x : Station) : (State.setStn s i x).eth = s.eth := rfl
@[simp] theorem State.setStn_rcd (s : State) (i : Nat) (x : Station) : (State.setStn s i x).rcd = s.rcd := rfl
@[simp] theorem State.setStn_lan (s : State) (i : Nat) (x : Station) : (State.setStn s i x).lan = s.lan := rfl
@[simp] theorem State.setStn_pwr (s : State) (i : Nat) (x : Station) : (State.setStn s i x).pwr = s.pwr := rfl
@[simp] theorem State.setStn_upd (s : State) (i : Nat) (x : Station) : (State.setStn s i x).upd = s.upd := rfl
@[simp] theorem State.setStn_frames (s : State) (i : Nat) (x : Station) : (State.setStn s i x).frames = s.frames := rfl
@[simp] theorem State.setStn_sent (s : State) (i : Nat) (x : Station) : (State.setStn s i x).sent = s.sent := rfl
@[simp] theorem State.setStn_freeCount (s : State) (i : Nat) (x : Station) : (State.setStn s i x).freeCount = s.freeCount := rfl
@[simp] theorem State.setStn_pending (s : State) (i : Nat) (x : Station) : (State.setStn s i x).pending = s.pending := rfl
@[simp] theorem State.setStn_rd (s : State) (i : Nat) (x : Station) (j : Nat) : (State.setStn s i x).rd j = s.rd j := rfl
@[simp] theorem State.setStn_fld (s : State) (i : Nat) (x : Station) (h : Field) : (State.setStn s i x).fld h = s.fld h := rfl
@[simp] theorem State.setStn_flag (s : State) (i : Nat) (x : Station) (h : Field) : (State.setStn s i x).flag h = s.flag h := rfl

/-! State.takeRequest. -/

@[simp] theorem State.takeRequest_objs (s : State) : (State.takeRequest s).objs = s.objs := rfl
@[simp] theorem State.takeRequest_assembling (s : State) : (State.takeRequest s).assembling = s.assembling := rfl
@[simp] theorem State.takeRequest_latest (s : State) : (State.takeRequest s).latest = s.latest := rfl
@[simp] theorem State.takeRequest_previous (s : State) : (State.takeRequest s).previous = s.previous := rfl
@[simp] theorem State.takeRequest_cst (s : State) : (State.takeRequest s).cst = s.cst := rfl
@[simp] theorem State.takeRequest_cfg (s : State) : (State.takeRequest s).cfg = s.cfg := rfl
@[simp] theorem State.takeRequest_phb (s : State) : (State.takeRequest s).phb = s.phb := rfl
@[simp] theorem State.takeRequest_ports (s : State) : (State.takeRequest s).ports = s.ports := rfl
@[simp] theorem State.takeRequest_swp (s : State) : (State.takeRequest s).swp = s.swp := rfl
@[simp] theorem State.takeRequest_est (s : State) : (State.takeRequest s).est = s.est := rfl
@[simp] theorem State.takeRequest_afe (s : State) : (State.takeRequest s).afe = s.afe := rfl
@[simp] theorem State.takeRequest_prt (s : State) : (State.takeRequest s).prt = s.prt := rfl
@[simp] theorem State.takeRequest_cte (s : State) : (State.takeRequest s).cte = s.cte := rfl
@[simp] theorem State.takeRequest_pot (s : State) : (State.takeRequest s).pot = s.pot := rfl
@[simp] theorem State.takeRequest_dsp (s : State) : (State.takeRequest s).dsp = s.dsp := rfl
@[simp] theorem State.takeRequest_thm (s : State) : (State.takeRequest s).thm = s.thm := rfl
@[simp] theorem State.takeRequest_saf (s : State) : (State.takeRequest s).saf = s.saf := rfl
@[simp] theorem State.takeRequest_can (s : State) : (State.takeRequest s).can = s.can := rfl
@[simp] theorem State.takeRequest_tim (s : State) : (State.takeRequest s).tim = s.tim := rfl
@[simp] theorem State.takeRequest_eth (s : State) : (State.takeRequest s).eth = s.eth := rfl
@[simp] theorem State.takeRequest_rcd (s : State) : (State.takeRequest s).rcd = s.rcd := rfl
@[simp] theorem State.takeRequest_lan (s : State) : (State.takeRequest s).lan = s.lan := rfl
@[simp] theorem State.takeRequest_seq (s : State) : (State.takeRequest s).seq = s.seq := rfl
@[simp] theorem State.takeRequest_pwr (s : State) : (State.takeRequest s).pwr = s.pwr := rfl
@[simp] theorem State.takeRequest_upd (s : State) : (State.takeRequest s).upd = s.upd := rfl
@[simp] theorem State.takeRequest_frames (s : State) : (State.takeRequest s).frames = s.frames := rfl
@[simp] theorem State.takeRequest_sent (s : State) : (State.takeRequest s).sent = s.sent := rfl
@[simp] theorem State.takeRequest_freeCount (s : State) : (State.takeRequest s).freeCount = s.freeCount := rfl
@[simp] theorem State.takeRequest_pending (s : State) : (State.takeRequest s).pending = s.pending := rfl
@[simp] theorem State.takeRequest_rd (s : State) (j : Nat) : (State.takeRequest s).rd j = s.rd j := rfl
@[simp] theorem State.takeRequest_fld (s : State) (h : Field) : (State.takeRequest s).fld h = s.fld h := rfl
@[simp] theorem State.takeRequest_flag (s : State) (h : Field) : (State.takeRequest s).flag h = s.flag h := rfl

/-! State.varPut. -/

@[simp] theorem State.varPut_objs (s : State) (v : SeqVar) (x : Nat) : (State.varPut s v x).objs = s.objs := rfl
@[simp] theorem State.varPut_assembling (s : State) (v : SeqVar) (x : Nat) : (State.varPut s v x).assembling = s.assembling := rfl
@[simp] theorem State.varPut_latest (s : State) (v : SeqVar) (x : Nat) : (State.varPut s v x).latest = s.latest := rfl
@[simp] theorem State.varPut_previous (s : State) (v : SeqVar) (x : Nat) : (State.varPut s v x).previous = s.previous := rfl
@[simp] theorem State.varPut_cst (s : State) (v : SeqVar) (x : Nat) : (State.varPut s v x).cst = s.cst := rfl
@[simp] theorem State.varPut_obj (s : State) (v : SeqVar) (x : Nat) : (State.varPut s v x).obj = s.obj := rfl
@[simp] theorem State.varPut_cfg (s : State) (v : SeqVar) (x : Nat) : (State.varPut s v x).cfg = s.cfg := rfl
@[simp] theorem State.varPut_phb (s : State) (v : SeqVar) (x : Nat) : (State.varPut s v x).phb = s.phb := rfl
@[simp] theorem State.varPut_ports (s : State) (v : SeqVar) (x : Nat) : (State.varPut s v x).ports = s.ports := rfl
@[simp] theorem State.varPut_swp (s : State) (v : SeqVar) (x : Nat) : (State.varPut s v x).swp = s.swp := rfl
@[simp] theorem State.varPut_est (s : State) (v : SeqVar) (x : Nat) : (State.varPut s v x).est = s.est := rfl
@[simp] theorem State.varPut_afe (s : State) (v : SeqVar) (x : Nat) : (State.varPut s v x).afe = s.afe := rfl
@[simp] theorem State.varPut_prt (s : State) (v : SeqVar) (x : Nat) : (State.varPut s v x).prt = s.prt := rfl
@[simp] theorem State.varPut_cte (s : State) (v : SeqVar) (x : Nat) : (State.varPut s v x).cte = s.cte := rfl
@[simp] theorem State.varPut_pot (s : State) (v : SeqVar) (x : Nat) : (State.varPut s v x).pot = s.pot := rfl
@[simp] theorem State.varPut_dsp (s : State) (v : SeqVar) (x : Nat) : (State.varPut s v x).dsp = s.dsp := rfl
@[simp] theorem State.varPut_thm (s : State) (v : SeqVar) (x : Nat) : (State.varPut s v x).thm = s.thm := rfl
@[simp] theorem State.varPut_saf (s : State) (v : SeqVar) (x : Nat) : (State.varPut s v x).saf = s.saf := rfl
@[simp] theorem State.varPut_can (s : State) (v : SeqVar) (x : Nat) : (State.varPut s v x).can = s.can := rfl
@[simp] theorem State.varPut_tim (s : State) (v : SeqVar) (x : Nat) : (State.varPut s v x).tim = s.tim := rfl
@[simp] theorem State.varPut_eth (s : State) (v : SeqVar) (x : Nat) : (State.varPut s v x).eth = s.eth := rfl
@[simp] theorem State.varPut_rcd (s : State) (v : SeqVar) (x : Nat) : (State.varPut s v x).rcd = s.rcd := rfl
@[simp] theorem State.varPut_lan (s : State) (v : SeqVar) (x : Nat) : (State.varPut s v x).lan = s.lan := rfl
@[simp] theorem State.varPut_pwr (s : State) (v : SeqVar) (x : Nat) : (State.varPut s v x).pwr = s.pwr := rfl
@[simp] theorem State.varPut_upd (s : State) (v : SeqVar) (x : Nat) : (State.varPut s v x).upd = s.upd := rfl
@[simp] theorem State.varPut_frames (s : State) (v : SeqVar) (x : Nat) : (State.varPut s v x).frames = s.frames := rfl
@[simp] theorem State.varPut_sent (s : State) (v : SeqVar) (x : Nat) : (State.varPut s v x).sent = s.sent := rfl
@[simp] theorem State.varPut_freeCount (s : State) (v : SeqVar) (x : Nat) : (State.varPut s v x).freeCount = s.freeCount := rfl
@[simp] theorem State.varPut_pending (s : State) (v : SeqVar) (x : Nat) : (State.varPut s v x).pending = s.pending := rfl
@[simp] theorem State.varPut_rd (s : State) (v : SeqVar) (x : Nat) (j : Nat) : (State.varPut s v x).rd j = s.rd j := rfl
@[simp] theorem State.varPut_fld (s : State) (v : SeqVar) (x : Nat) (h : Field) : (State.varPut s v x).fld h = s.fld h := rfl
@[simp] theorem State.varPut_flag (s : State) (v : SeqVar) (x : Nat) (h : Field) : (State.varPut s v x).flag h = s.flag h := rfl

end Sys2Proof.Machine
end

