-- ==== Sys2Proof/Laws/Fields.lean ====
section
/-! SUPPORT. Laws/Fields.lean: reading objects, fields and flags after they were written. The conditions are on addresses and bits, so on named fields a decision closes them. -/
namespace Sys2Proof.Machine

open Sys2Proof

theorem State.rd_wr (s : State) (a j : Nat) (v : Word) : (s.wr a v).rd j = if j = a then v else s.rd j := Cells.get_set _ _ _ _

@[simp] theorem State.rd_wr_same (s : State) (a : Nat) (v : Word) : (s.wr a v).rd a = v := Cells.get_set_same _ _ _

@[simp] theorem State.rd_wr_other (s : State) {a j : Nat} (v : Word) (h : j ≠ a) : (s.wr a v).rd j = s.rd j := Cells.get_set_other _ _ h

theorem State.rd_put (s : State) (f : Field) (x j : Nat) :
    (s.put f x).rd j = if j = f.addr then withField (s.rd f.addr) f.lo f.w x else s.rd j := Cells.get_set _ _ _ _

@[simp] theorem State.rd_put_same (s : State) (f : Field) (x : Nat) : (s.put f x).rd f.addr = withField (s.rd f.addr) f.lo f.w x := Cells.get_set_same _ _ _

@[simp] theorem State.rd_put_other (s : State) {f : Field} {j : Nat} (x : Nat) (h : j ≠ f.addr) : (s.put f x).rd j = s.rd j := Cells.get_set_other _ _ h

@[simp] theorem State.rd_putS_other (s : State) {f : Field} {j : Nat} (x : Int) (h : j ≠ f.addr) : (s.putS f x).rd j = s.rd j := Cells.get_set_other _ _ h

@[simp] theorem State.rd_putFlag_other (s : State) {f : Field} {j : Nat} (b : Bool) (h : j ≠ f.addr) : (s.putFlag f b).rd j = s.rd j := Cells.get_set_other _ _ h

@[simp] theorem State.rd_bump_other (s : State) {f : Field} {j : Nat} (h : j ≠ f.addr) : (s.bump f).rd j = s.rd j := Cells.get_set_other _ _ h

@[simp] theorem State.rd_bumpBy_other (s : State) {f : Field} {j : Nat} (n : Nat) (h : j ≠ f.addr) : (s.bumpBy f n).rd j = s.rd j := Cells.get_set_other _ _ h

@[simp] theorem State.rd_event_other (s : State) {e : EventFlag} {j : Nat} (h : j ≠ e.flag.addr) (g : j ≠ e.cnt.addr) : (s.event e).rd j = s.rd j := by
  simp [State.event, h, g]

@[simp] theorem State.rd_wr64_other (s : State) {a j : Nat} (v : BitVec 64) (h : j ≠ a) (g : j ≠ a + 4) : (s.wr64 a v).rd j = s.rd j := by
  simp [State.wr64, h, g]

/-- A 64-bit value that was written reads back. -/
@[simp] theorem State.rd64_wr64 (s : State) (a : Nat) (v : BitVec 64) : (s.wr64 a v).rd64 a = v := by
  have h : a ≠ a + 4 := by omega
  unfold State.rd64 State.wr64
  rw [State.rd_wr_same, State.rd_wr_other _ _ h, State.rd_wr_same]
  apply BitVec.eq_of_getLsbD_eq
  intro i hi
  rw [BitVec.getLsbD_append, BitVec.getLsbD_extractLsb', BitVec.getLsbD_extractLsb']
  by_cases hk : i < 32
  · simp [hk]
  · have : i - 32 < 32 := by omega
    have e : 32 + (i - 32) = i := by omega
    simp [hk, this, e]

/-! Fields. -/

theorem State.fld_eq (s : State) (g : Field) : s.fld g = fieldOf (s.rd g.addr) g.lo g.w := rfl

theorem State.fld_lt (s : State) (g : Field) : s.fld g < 2 ^ g.w := fieldOf_lt _ _ _

/-- An object that reads as before keeps its fields. -/
theorem State.fld_of_rd {r s : State} {g : Field} (h : s.rd g.addr = r.rd g.addr) : s.fld g = r.fld g := by rw [State.fld_eq, State.fld_eq, h]

theorem State.flag_of_rd {r s : State} {g : Field} (h : s.rd g.addr = r.rd g.addr) : s.flag g = r.flag g := by
  unfold State.flag
  rw [State.fld_of_rd h]

/-- A field that was written holds the value, modulo its width. -/
@[simp] theorem State.fld_put_same (s : State) (f : Field) (x : Nat) (h : f.lo + f.w ≤ 32) : (s.put f x).fld f = x % 2 ^ f.w := by
  rw [State.fld_eq, State.rd_put_same, fieldOf_withField _ _ _ _ h]

@[simp] theorem State.fld_put_addr (s : State) {f g : Field} (x : Nat) (h : g.addr ≠ f.addr) : (s.put f x).fld g = s.fld g :=
  State.fld_of_rd (State.rd_put_other s x h)

@[simp] theorem State.fld_put_bits (s : State) {f g : Field} (x : Nat) (h : g.lo + g.w ≤ f.lo ∨ f.lo + f.w ≤ g.lo) : (s.put f x).fld g = s.fld g := by
  by_cases e : g.addr = f.addr
  · rw [State.fld_eq, State.fld_eq, e, State.rd_put_same, fieldOf_withField_other _ _ _ _ _ _ h]
  · exact State.fld_put_addr s x e

@[simp] theorem State.fld_wr_addr (s : State) {a : Nat} {g : Field} (v : Word) (h : g.addr ≠ a) : (s.wr a v).fld g = s.fld g :=
  State.fld_of_rd (State.rd_wr_other s v h)

/-- The other writes are writes of a field. -/
theorem State.putFlag_eq (s : State) (f : Field) (b : Bool) : s.putFlag f b = s.put f (if b then 1 else 0) := rfl

theorem State.putS_eq (s : State) (f : Field) (x : Int) : s.putS f x = s.put f (code f.w x) := rfl

theorem State.bump_eq (s : State) (f : Field) : s.bump f = s.put f (s.fld f + 1) := rfl

theorem State.bumpBy_eq (s : State) (f : Field) (n : Nat) : s.bumpBy f n = s.put f (s.fld f + n) := rfl

theorem State.event_eq (s : State) (e : EventFlag) : s.event e = (s.put e.flag 1).put e.cnt ((s.put e.flag 1).fld e.cnt + 1) := rfl

theorem State.flag_eq (s : State) (g : Field) : s.flag g = (s.fld g == 1) := rfl

@[simp] theorem State.flag_put_same (s : State) (f : Field) (x : Nat) (h : f.lo + f.w ≤ 32) : (s.put f x).flag f = (x % 2 ^ f.w == 1) := by
  rw [State.flag_eq, State.fld_put_same s f x h]

@[simp] theorem State.flag_put_addr (s : State) {f g : Field} (x : Nat) (h : g.addr ≠ f.addr) : (s.put f x).flag g = s.flag g :=
  State.flag_of_rd (State.rd_put_other s x h)

@[simp] theorem State.flag_put_bits (s : State) {f g : Field} (x : Nat) (h : g.lo + g.w ≤ f.lo ∨ f.lo + f.w ≤ g.lo) : (s.put f x).flag g = s.flag g := by
  rw [State.flag_eq, State.flag_eq, State.fld_put_bits s x h]

@[simp] theorem State.flag_wr_addr (s : State) {a : Nat} {g : Field} (v : Word) (h : g.addr ≠ a) : (s.wr a v).flag g = s.flag g :=
  State.flag_of_rd (State.rd_wr_other s v h)

/-- An event counts: its counter is one higher, modulo its width. -/
theorem State.fld_event_cnt (s : State) (e : EventFlag) (h : e.cnt.lo + e.cnt.w ≤ 32)
    (g : e.cnt.addr ≠ e.flag.addr ∨ e.cnt.lo + e.cnt.w ≤ e.flag.lo ∨ e.flag.lo + e.flag.w ≤ e.cnt.lo) :
    (s.event e).fld e.cnt = (s.fld e.cnt + 1) % 2 ^ e.cnt.w := by
  rw [State.event_eq, State.fld_put_same _ _ _ h]
  rcases g with g | g
  · rw [State.fld_put_addr s 1 g]
  · rw [State.fld_put_bits s 1 g]

theorem State.fld_event_addr (s : State) {e : EventFlag} {g : Field} (h : g.addr ≠ e.flag.addr) (k : g.addr ≠ e.cnt.addr) : (s.event e).fld g = s.fld g :=
  State.fld_of_rd (State.rd_event_other s h k)

/-! The same, said of the store of objects: for states built by record updates. -/

theorem State.put_objs (s : State) (f : Field) (x : Nat) : (s.put f x).objs = objPut s.objs f x := rfl
theorem State.putS_objs (s : State) (f : Field) (x : Int) : (s.putS f x).objs = objPut s.objs f (code f.w x) := rfl
theorem State.putFlag_objs (s : State) (f : Field) (b : Bool) : (s.putFlag f b).objs = objPut s.objs f (if b then 1 else 0) := rfl
theorem State.bump_objs (s : State) (f : Field) : (s.bump f).objs = objPut s.objs f (objFld s.objs f + 1) := rfl
theorem State.bumpBy_objs (s : State) (f : Field) (n : Nat) : (s.bumpBy f n).objs = objPut s.objs f (objFld s.objs f + n) := rfl
theorem State.event_objs (s : State) (e : EventFlag) :
    (s.event e).objs = objPut (objPut s.objs e.flag 1) e.cnt (objFld (objPut s.objs e.flag 1) e.cnt + 1) := rfl
theorem State.wr_objs (s : State) (a : Nat) (v : Word) : (s.wr a v).objs = s.objs.set a v := rfl
theorem State.wr64_objs (s : State) (a : Nat) (v : BitVec 64) :
    (s.wr64 a v).objs = (s.objs.set a (v.extractLsb' 0 32)).set (a + 4) (v.extractLsb' 32 32) := rfl
theorem State.fld_objs (s : State) (g : Field) : s.fld g = objFld s.objs g := rfl
theorem State.flag_objs (s : State) (g : Field) : s.flag g = (objFld s.objs g == 1) := rfl
theorem State.rd_objs (s : State) (a : Nat) : s.rd a = s.objs.get a := rfl
theorem State.rd64_objs (s : State) (a : Nat) : s.rd64 a = s.objs.get (a + 4) ++ s.objs.get a := rfl

theorem get_objPut_other (c : Cells 32) {f : Field} {j : Nat} (x : Nat) (h : j ≠ f.addr) : (objPut c f x).get j = c.get j := Cells.get_set_other _ _ h

theorem objFld_objPut_same (c : Cells 32) (f : Field) (x : Nat) (h : f.lo + f.w ≤ 32) : objFld (objPut c f x) f = x % 2 ^ f.w := by
  unfold objFld objPut
  rw [Cells.get_set_same, fieldOf_withField _ _ _ _ h]

theorem objFld_objPut_addr (c : Cells 32) {f g : Field} (x : Nat) (h : g.addr ≠ f.addr) : objFld (objPut c f x) g = objFld c g := by
  unfold objFld
  rw [get_objPut_other c x h]

theorem objFld_objPut_bits (c : Cells 32) {f g : Field} (x : Nat) (h : g.lo + g.w ≤ f.lo ∨ f.lo + f.w ≤ g.lo) :
    objFld (objPut c f x) g = objFld c g := by
  by_cases e : g.addr = f.addr
  · unfold objFld objPut
    rw [e, Cells.get_set_same, fieldOf_withField_other _ _ _ _ _ _ h]
  · exact objFld_objPut_addr c x e

theorem objFld_set_addr (c : Cells 32) {a : Nat} {g : Field} (v : Word) (h : g.addr ≠ a) : objFld (c.set a v) g = objFld c g := by
  unfold objFld
  rw [Cells.get_set_other _ _ h]

/-! Lists of parts. -/

theorem getD_setAt_same {α : Type} (l : List α) (n : Nat) (x d : α) (h : n < l.length) : (setAt l n x).getD n d = x := by
  induction l generalizing n with
  | nil => simp at h
  | cons y l ih =>
    cases n with
    | zero => rfl
    | succ n => exact ih n (by simpa using h)

theorem getD_setAt_other {α : Type} (l : List α) {n m : Nat} (x d : α) (h : m ≠ n) : (setAt l n x).getD m d = l.getD m d := by
  induction l generalizing n m with
  | nil => rfl
  | cons y l ih =>
    cases n with
    | zero =>
      cases m with
      | zero => exact absurd rfl h
      | succ m => rfl
    | succ n =>
      cases m with
      | zero => rfl
      | succ m => exact ih (by omega)

/-- The signals asserted for a lane give it the Lid, and no lane where neither pair is asserted (R343). -/
@[simp] theorem Lan.lid_lidPins (x : Lan) (l : Option Lane) : ({ x with pins := lidPins l } : Lan).lid = l := by
  rcases l with _ | _ | _ <;> rfl

end Sys2Proof.Machine
end

