-- ==== Sys2Proof/Laws/Moved.lean ====
section
/-! SUPPORT. Laws/Moved.lean: which parts of the state an operation may change, beside what every operation keeps. The parts are numbered in the order of State; a set of parts is the number whose bits are its parts. -/
namespace Sys2Proof.Machine

open Sys2Proof

/-- The i-th part of the state is as it was. -/
def State.sameAt (r s : State) : Nat → Prop
  | 0 => s.objs = r.objs
  | 1 => s.assembling = r.assembling
  | 2 => s.latest = r.latest
  | 3 => s.previous = r.previous
  | 4 => s.cst = r.cst
  | 5 => s.obj = r.obj
  | 6 => s.cfg = r.cfg
  | 7 => s.phb = r.phb
  | 8 => s.ports = r.ports
  | 9 => s.swp = r.swp
  | 10 => s.est = r.est
  | 11 => s.afe = r.afe
  | 12 => s.prt = r.prt
  | 13 => s.cte = r.cte
  | 14 => s.pot = r.pot
  | 15 => s.dsp = r.dsp
  | 16 => s.thm = r.thm
  | 17 => s.saf = r.saf
  | 18 => s.can = r.can
  | 19 => s.tim = r.tim
  | 20 => s.eth = r.eth
  | 21 => s.rcd = r.rcd
  | 22 => s.lan = r.lan
  | 23 => s.seq = r.seq
  | 24 => s.pwr = r.pwr
  | 25 => s.upd = r.upd
  | 26 => s.frames = r.frames
  | 27 => s.sent = r.sent
  | 28 => s.freeCount = r.freeCount
  | _ => s.pending = r.pending

/-- From r to s nothing but the parts of m may have changed, of the objects only those of the blocks of m, which are its bits from 32, and Kept holds. -/
structure Moved (m : Nat) (r s : State) : Prop where
  kept : Kept r s
  same : ∀ i, m.testBit i = false → State.sameAt r s i
  blocks : ∀ a, a < 0x160000 → m.testBit (a / 0x10000 + 32) = false → s.rd a = r.rd a

/-- An object of this address may change under m: the objects may, and its block is in m. -/
def inBlock (m a : Nat) : Bool := m.testBit 0 && m.testBit (a / 0x10000 + 32)

theorem inBlock_of {m a : Nat} (b : Nat) (h : a / 0x10000 = b) (h0 : (m.testBit 0 && m.testBit (b + 32)) = true) : inBlock m a = true := by
  subst h
  exact h0

theorem maskLe {m k l : Nat} (h : m ||| k = m) (g : k ||| l = k) : m ||| l = m := by rw [← h, Nat.or_assoc, g]

theorem State.sameAt_refl (r : State) (i : Nat) : State.sameAt r r i := by
  unfold State.sameAt
  split <;> rfl

theorem State.sameAt_trans {r s t : State} {i : Nat} (h : State.sameAt r s i) (g : State.sameAt s t i) : State.sameAt r t i := by
  unfold State.sameAt at *
  split at h <;> simp_all

theorem Kept.refl (r : State) : Kept r r := ⟨rfl, List.suffix_refl _, le_refl _, id⟩

theorem Kept.trans {r s t : State} (h : Kept r s) (g : Kept s t) : Kept r t :=
  ⟨g.pending.trans h.pending, h.sent.trans g.sent, le_trans h.free g.free, fun c => g.inv (h.inv c)⟩

theorem Moved.refl (m : Nat) (r : State) : Moved m r r := ⟨Kept.refl r, fun i _ => State.sameAt_refl r i, fun _ _ _ => rfl⟩

theorem Moved.chain {m k : Nat} {r s t : State} (h : Moved m r s) (g : Moved k s t) (hk : m ||| k = m) : Moved m r t :=
  ⟨h.kept.trans g.kept, fun i hi => State.sameAt_trans (h.same i hi) (g.same i (by
    rw [← hk, Nat.testBit_or, Bool.or_eq_false_iff] at hi
    exact hi.2)), fun a ha hi => by
    rw [← hk, Nat.testBit_or, Bool.or_eq_false_iff] at hi
    rw [g.blocks a ha hi.2, h.blocks a ha hi.1]⟩

theorem Moved.use {m : Nat} {r t : State} (s : State) (h : Moved m r s) (g : Moved m r s → Moved m r t) : Moved m r t := g h

theorem Moved.ite {m : Nat} {r s t : State} {c : Prop} [Decidable c] (h : Moved m r s) (g : Moved m r t) : Moved m r (if c then s else t) := by
  split
  · exact h
  · exact g

theorem Moved.foldl {m : Nat} {r s : State} {α : Type} {f : State → α → State} {l : List α} (h : Moved m r s)
    (hf : ∀ t x, Moved m r t → Moved m r (f t x)) : Moved m r (l.foldl f s) := by
  induction l generalizing s with
  | nil => exact h
  | cons x l ih => exact ih (hf s x h)

theorem Moved.forUpTo {m n : Nat} {r s : State} {f : Nat → State → State} (h : Moved m r s)
    (hf : ∀ i t, i < n → Moved m r t → Moved m r (f i t)) : Moved m r (forUpTo n f s) := by
  have key : ∀ (l : List Nat) (s : State), (∀ i ∈ l, i < n) → Moved m r s → Moved m r (l.foldl (fun s i => f i s) s) := by
    intro l
    induction l with
    | nil => exact fun s _ h => h
    | cons i l ih => exact fun s hl h => ih _ (fun j hj => hl j (List.mem_cons_of_mem _ hj)) (hf i s (hl i (List.mem_cons_self ..)) h)
  exact key _ s (fun i hi => List.mem_range.mp hi) h

/-- The same of an operation that may have no result, and of one with a second result. -/
def MovedO (m : Nat) (r : State) (o : Option State) : Prop := ∀ t, o = some t → Moved m r t

def MovedP {α : Type} (m : Nat) (r : State) (p : State × α) : Prop := Moved m r p.1

theorem MovedO.of {m : Nat} {r t : State} {o : Option State} (h : MovedO m r o) (e : o = some t) : Moved m r t := h t e

theorem MovedO.none (m : Nat) (r : State) : MovedO m r none := fun _ h => nomatch h

theorem MovedO.some {m : Nat} {r s : State} (h : Moved m r s) : MovedO m r (some s) := fun _ e => Option.some.inj e ▸ h

theorem MovedO.use {m : Nat} {r : State} {o : Option State} (s : State) (h : Moved m r s) (g : Moved m r s → MovedO m r o) : MovedO m r o := g h

theorem MovedO.ite {m : Nat} {r : State} {o p : Option State} {c : Prop} [Decidable c] (h : MovedO m r o) (g : MovedO m r p) : MovedO m r (if c then o else p) := by
  split
  · exact h
  · exact g

theorem MovedP.mk {α : Type} {m : Nat} {r s : State} {x : α} (h : Moved m r s) : MovedP m r (s, x) := h

theorem MovedP.use {α : Type} {m : Nat} {r : State} {p : State × α} (s : State) (h : Moved m r s) (g : Moved m r s → MovedP m r p) : MovedP m r p := g h

theorem MovedP.ite {α : Type} {m : Nat} {r : State} {o p : State × α} {c : Prop} [Decidable c] (h : MovedP m r o) (g : MovedP m r p) : MovedP m r (if c then o else p) := by
  split
  · exact h
  · exact g

theorem MovedP.one {α : Type} {m : Nat} {r : State} {p : State × α} (h : MovedP m r p) : Moved m r p.1 := h

theorem MovedP.fst {α : Type} {m : Nat} {r t : State} {p : State × α} {x : α} (h : MovedP m r p) (e : p = (t, x)) : Moved m r t := by
  subst e
  exact h

theorem MovedP.trans {α : Type} {m k : Nat} {r s : State} {p : State × α} (h : Moved m r s) (g : MovedP k s p) (hk : m ||| k = m) : MovedP m r p := Moved.chain h g hk

theorem MovedO.trans {m k : Nat} {r s : State} {o : Option State} (h : Moved m r s) (g : MovedO k s o) (hk : m ||| k = m) : MovedO m r o :=
  fun t e => Moved.chain h (g t e) hk

theorem Moved.getD {m : Nat} {r s : State} {o : Option State} (h : Moved m r s) (g : MovedO m r o) : Moved m r (o.getD s) := by
  cases o with
  | none => exact h
  | some t => exact g t rfl

theorem MovedO.orElse {m : Nat} {r : State} {o : Option State} {f : Unit → Option State} (h : MovedO m r o) (g : MovedO m r (f ())) :
    MovedO m r (o.orElse f) := by
  cases o with
  | none => exact g
  | some t => exact h

/-! Changes of single parts. -/

/-- The state with its afe replaced. -/
def State.withAfe (s : State) (xafe : Afe) : State := { s with afe := xafe }

theorem State.withAfe_eq (s : State) (xafe : Afe) : State.mk s.objs s.assembling s.latest s.previous s.cst s.obj s.cfg s.phb s.ports s.swp s.est xafe s.prt s.cte s.pot s.dsp s.thm s.saf s.can s.tim s.eth s.rcd s.lan s.seq s.pwr s.upd s.frames s.sent s.freeCount s.pending = State.withAfe s xafe := rfl

/-- The state with its can replaced. -/
def State.withCan (s : State) (xcan : List CanChan) : State := { s with can := xcan }

theorem State.withCan_eq (s : State) (xcan : List CanChan) : State.mk s.objs s.assembling s.latest s.previous s.cst s.obj s.cfg s.phb s.ports s.swp s.est s.afe s.prt s.cte s.pot s.dsp s.thm s.saf xcan s.tim s.eth s.rcd s.lan s.seq s.pwr s.upd s.frames s.sent s.freeCount s.pending = State.withCan s xcan := rfl

/-- The state with its cfg replaced. -/
def State.withCfg (s : State) (xcfg : Cfg) : State := { s with cfg := xcfg }

theorem State.withCfg_eq (s : State) (xcfg : Cfg) : State.mk s.objs s.assembling s.latest s.previous s.cst s.obj xcfg s.phb s.ports s.swp s.est s.afe s.prt s.cte s.pot s.dsp s.thm s.saf s.can s.tim s.eth s.rcd s.lan s.seq s.pwr s.upd s.frames s.sent s.freeCount s.pending = State.withCfg s xcfg := rfl

/-- The state with its cte replaced. -/
def State.withCte (s : State) (xcte : Cte) : State := { s with cte := xcte }

theorem State.withCte_eq (s : State) (xcte : Cte) : State.mk s.objs s.assembling s.latest s.previous s.cst s.obj s.cfg s.phb s.ports s.swp s.est s.afe s.prt xcte s.pot s.dsp s.thm s.saf s.can s.tim s.eth s.rcd s.lan s.seq s.pwr s.upd s.frames s.sent s.freeCount s.pending = State.withCte s xcte := rfl

/-- The state with its cte, lan replaced. -/
def State.withCteLan (s : State) (xcte : Cte) (xlan : Lan) : State := { s with cte := xcte, lan := xlan }

theorem State.withCteLan_eq (s : State) (xcte : Cte) (xlan : Lan) : State.mk s.objs s.assembling s.latest s.previous s.cst s.obj s.cfg s.phb s.ports s.swp s.est s.afe s.prt xcte s.pot s.dsp s.thm s.saf s.can s.tim s.eth s.rcd xlan s.seq s.pwr s.upd s.frames s.sent s.freeCount s.pending = State.withCteLan s xcte xlan := rfl

/-- The state with its dsp replaced. -/
def State.withDsp (s : State) (xdsp : Dsp) : State := { s with dsp := xdsp }

theorem State.withDsp_eq (s : State) (xdsp : Dsp) : State.mk s.objs s.assembling s.latest s.previous s.cst s.obj s.cfg s.phb s.ports s.swp s.est s.afe s.prt s.cte s.pot xdsp s.thm s.saf s.can s.tim s.eth s.rcd s.lan s.seq s.pwr s.upd s.frames s.sent s.freeCount s.pending = State.withDsp s xdsp := rfl

/-- The state with its est replaced. -/
def State.withEst (s : State) (xest : Est) : State := { s with est := xest }

theorem State.withEst_eq (s : State) (xest : Est) : State.mk s.objs s.assembling s.latest s.previous s.cst s.obj s.cfg s.phb s.ports s.swp xest s.afe s.prt s.cte s.pot s.dsp s.thm s.saf s.can s.tim s.eth s.rcd s.lan s.seq s.pwr s.upd s.frames s.sent s.freeCount s.pending = State.withEst s xest := rfl

/-- The state with its est, dsp, saf, rcd, lan, pwr, upd replaced. -/
def State.withEstDspSafRcdLanPwrUpd (s : State) (xest : Est) (xdsp : Dsp) (xsaf : Saf) (xrcd : Rec) (xlan : Lan) (xpwr : Pwr) (xupd : Upd) : State := { s with est := xest, dsp := xdsp, saf := xsaf, rcd := xrcd, lan := xlan, pwr := xpwr, upd := xupd }

theorem State.withEstDspSafRcdLanPwrUpd_eq (s : State) (xest : Est) (xdsp : Dsp) (xsaf : Saf) (xrcd : Rec) (xlan : Lan) (xpwr : Pwr) (xupd : Upd) : State.mk s.objs s.assembling s.latest s.previous s.cst s.obj s.cfg s.phb s.ports s.swp xest s.afe s.prt s.cte s.pot xdsp s.thm xsaf s.can s.tim s.eth xrcd xlan s.seq xpwr xupd s.frames s.sent s.freeCount s.pending = State.withEstDspSafRcdLanPwrUpd s xest xdsp xsaf xrcd xlan xpwr xupd := rfl

/-- The state with its est, dsp, thm, saf, tim, rcd, seq replaced. -/
def State.withEstDspThmSafTimRcdSeq (s : State) (xest : Est) (xdsp : Dsp) (xthm : Thm) (xsaf : Saf) (xtim : Tim) (xrcd : Rec) (xseq : Seq) : State := { s with est := xest, dsp := xdsp, thm := xthm, saf := xsaf, tim := xtim, rcd := xrcd, seq := xseq }

theorem State.withEstDspThmSafTimRcdSeq_eq (s : State) (xest : Est) (xdsp : Dsp) (xthm : Thm) (xsaf : Saf) (xtim : Tim) (xrcd : Rec) (xseq : Seq) : State.mk s.objs s.assembling s.latest s.previous s.cst s.obj s.cfg s.phb s.ports s.swp xest s.afe s.prt s.cte s.pot xdsp xthm xsaf s.can xtim s.eth xrcd s.lan xseq s.pwr s.upd s.frames s.sent s.freeCount s.pending = State.withEstDspThmSafTimRcdSeq s xest xdsp xthm xsaf xtim xrcd xseq := rfl

/-- The state with its eth replaced. -/
def State.withEth (s : State) (xeth : Eth) : State := { s with eth := xeth }

theorem State.withEth_eq (s : State) (xeth : Eth) : State.mk s.objs s.assembling s.latest s.previous s.cst s.obj s.cfg s.phb s.ports s.swp s.est s.afe s.prt s.cte s.pot s.dsp s.thm s.saf s.can s.tim xeth s.rcd s.lan s.seq s.pwr s.upd s.frames s.sent s.freeCount s.pending = State.withEth s xeth := rfl

/-- The state with its frames replaced. -/
def State.withFrames (s : State) (xframes : Frames) : State := { s with frames := xframes }

theorem State.withFrames_eq (s : State) (xframes : Frames) : State.mk s.objs s.assembling s.latest s.previous s.cst s.obj s.cfg s.phb s.ports s.swp s.est s.afe s.prt s.cte s.pot s.dsp s.thm s.saf s.can s.tim s.eth s.rcd s.lan s.seq s.pwr s.upd xframes s.sent s.freeCount s.pending = State.withFrames s xframes := rfl

/-- The state with its lan replaced. -/
def State.withLan (s : State) (xlan : Lan) : State := { s with lan := xlan }

theorem State.withLan_eq (s : State) (xlan : Lan) : State.mk s.objs s.assembling s.latest s.previous s.cst s.obj s.cfg s.phb s.ports s.swp s.est s.afe s.prt s.cte s.pot s.dsp s.thm s.saf s.can s.tim s.eth s.rcd xlan s.seq s.pwr s.upd s.frames s.sent s.freeCount s.pending = State.withLan s xlan := rfl

/-- The state with its lan, frames replaced. -/
def State.withLanFrames (s : State) (xlan : Lan) (xframes : Frames) : State := { s with lan := xlan, frames := xframes }

theorem State.withLanFrames_eq (s : State) (xlan : Lan) (xframes : Frames) : State.mk s.objs s.assembling s.latest s.previous s.cst s.obj s.cfg s.phb s.ports s.swp s.est s.afe s.prt s.cte s.pot s.dsp s.thm s.saf s.can s.tim s.eth s.rcd xlan s.seq s.pwr s.upd xframes s.sent s.freeCount s.pending = State.withLanFrames s xlan xframes := rfl

/-- The state with its lan, pwr replaced. -/
def State.withLanPwr (s : State) (xlan : Lan) (xpwr : Pwr) : State := { s with lan := xlan, pwr := xpwr }

theorem State.withLanPwr_eq (s : State) (xlan : Lan) (xpwr : Pwr) : State.mk s.objs s.assembling s.latest s.previous s.cst s.obj s.cfg s.phb s.ports s.swp s.est s.afe s.prt s.cte s.pot s.dsp s.thm s.saf s.can s.tim s.eth s.rcd xlan s.seq xpwr s.upd s.frames s.sent s.freeCount s.pending = State.withLanPwr s xlan xpwr := rfl

/-- The state with its obj replaced. -/
def State.withObj (s : State) (xobj : Obj) : State := { s with obj := xobj }

theorem State.withObj_eq (s : State) (xobj : Obj) : State.mk s.objs s.assembling s.latest s.previous s.cst xobj s.cfg s.phb s.ports s.swp s.est s.afe s.prt s.cte s.pot s.dsp s.thm s.saf s.can s.tim s.eth s.rcd s.lan s.seq s.pwr s.upd s.frames s.sent s.freeCount s.pending = State.withObj s xobj := rfl

/-- The state with its obj, lan, frames replaced. -/
def State.withObjLanFrames (s : State) (xobj : Obj) (xlan : Lan) (xframes : Frames) : State := { s with obj := xobj, lan := xlan, frames := xframes }

theorem State.withObjLanFrames_eq (s : State) (xobj : Obj) (xlan : Lan) (xframes : Frames) : State.mk s.objs s.assembling s.latest s.previous s.cst xobj s.cfg s.phb s.ports s.swp s.est s.afe s.prt s.cte s.pot s.dsp s.thm s.saf s.can s.tim s.eth s.rcd xlan s.seq s.pwr s.upd xframes s.sent s.freeCount s.pending = State.withObjLanFrames s xobj xlan xframes := rfl

/-- The state with its phb replaced. -/
def State.withPhb (s : State) (xphb : Phb) : State := { s with phb := xphb }

theorem State.withPhb_eq (s : State) (xphb : Phb) : State.mk s.objs s.assembling s.latest s.previous s.cst s.obj s.cfg xphb s.ports s.swp s.est s.afe s.prt s.cte s.pot s.dsp s.thm s.saf s.can s.tim s.eth s.rcd s.lan s.seq s.pwr s.upd s.frames s.sent s.freeCount s.pending = State.withPhb s xphb := rfl

/-- The state with its ports replaced. -/
def State.withPorts (s : State) (xports : List Port) : State := { s with ports := xports }

theorem State.withPorts_eq (s : State) (xports : List Port) : State.mk s.objs s.assembling s.latest s.previous s.cst s.obj s.cfg s.phb xports s.swp s.est s.afe s.prt s.cte s.pot s.dsp s.thm s.saf s.can s.tim s.eth s.rcd s.lan s.seq s.pwr s.upd s.frames s.sent s.freeCount s.pending = State.withPorts s xports := rfl

/-- The state with its pot replaced. -/
def State.withPot (s : State) (xpot : Pot) : State := { s with pot := xpot }

theorem State.withPot_eq (s : State) (xpot : Pot) : State.mk s.objs s.assembling s.latest s.previous s.cst s.obj s.cfg s.phb s.ports s.swp s.est s.afe s.prt s.cte xpot s.dsp s.thm s.saf s.can s.tim s.eth s.rcd s.lan s.seq s.pwr s.upd s.frames s.sent s.freeCount s.pending = State.withPot s xpot := rfl

/-- The state with its prt replaced. -/
def State.withPrt (s : State) (xprt : Prt) : State := { s with prt := xprt }

theorem State.withPrt_eq (s : State) (xprt : Prt) : State.mk s.objs s.assembling s.latest s.previous s.cst s.obj s.cfg s.phb s.ports s.swp s.est s.afe xprt s.cte s.pot s.dsp s.thm s.saf s.can s.tim s.eth s.rcd s.lan s.seq s.pwr s.upd s.frames s.sent s.freeCount s.pending = State.withPrt s xprt := rfl

/-- The state with its prt, pwr replaced. -/
def State.withPrtPwr (s : State) (xprt : Prt) (xpwr : Pwr) : State := { s with prt := xprt, pwr := xpwr }

theorem State.withPrtPwr_eq (s : State) (xprt : Prt) (xpwr : Pwr) : State.mk s.objs s.assembling s.latest s.previous s.cst s.obj s.cfg s.phb s.ports s.swp s.est s.afe xprt s.cte s.pot s.dsp s.thm s.saf s.can s.tim s.eth s.rcd s.lan s.seq xpwr s.upd s.frames s.sent s.freeCount s.pending = State.withPrtPwr s xprt xpwr := rfl

/-- The state with its pwr replaced. -/
def State.withPwr (s : State) (xpwr : Pwr) : State := { s with pwr := xpwr }

theorem State.withPwr_eq (s : State) (xpwr : Pwr) : State.mk s.objs s.assembling s.latest s.previous s.cst s.obj s.cfg s.phb s.ports s.swp s.est s.afe s.prt s.cte s.pot s.dsp s.thm s.saf s.can s.tim s.eth s.rcd s.lan s.seq xpwr s.upd s.frames s.sent s.freeCount s.pending = State.withPwr s xpwr := rfl

/-- The state with its pwr, upd replaced. -/
def State.withPwrUpd (s : State) (xpwr : Pwr) (xupd : Upd) : State := { s with pwr := xpwr, upd := xupd }

theorem State.withPwrUpd_eq (s : State) (xpwr : Pwr) (xupd : Upd) : State.mk s.objs s.assembling s.latest s.previous s.cst s.obj s.cfg s.phb s.ports s.swp s.est s.afe s.prt s.cte s.pot s.dsp s.thm s.saf s.can s.tim s.eth s.rcd s.lan s.seq xpwr xupd s.frames s.sent s.freeCount s.pending = State.withPwrUpd s xpwr xupd := rfl

/-- The state with its rcd replaced. -/
def State.withRcd (s : State) (xrcd : Rec) : State := { s with rcd := xrcd }

theorem State.withRcd_eq (s : State) (xrcd : Rec) : State.mk s.objs s.assembling s.latest s.previous s.cst s.obj s.cfg s.phb s.ports s.swp s.est s.afe s.prt s.cte s.pot s.dsp s.thm s.saf s.can s.tim s.eth xrcd s.lan s.seq s.pwr s.upd s.frames s.sent s.freeCount s.pending = State.withRcd s xrcd := rfl

/-- The state with its rcd, lan, pwr replaced. -/
def State.withRcdLanPwr (s : State) (xrcd : Rec) (xlan : Lan) (xpwr : Pwr) : State := { s with rcd := xrcd, lan := xlan, pwr := xpwr }

theorem State.withRcdLanPwr_eq (s : State) (xrcd : Rec) (xlan : Lan) (xpwr : Pwr) : State.mk s.objs s.assembling s.latest s.previous s.cst s.obj s.cfg s.phb s.ports s.swp s.est s.afe s.prt s.cte s.pot s.dsp s.thm s.saf s.can s.tim s.eth xrcd xlan s.seq xpwr s.upd s.frames s.sent s.freeCount s.pending = State.withRcdLanPwr s xrcd xlan xpwr := rfl

/-- The state with its saf replaced. -/
def State.withSaf (s : State) (xsaf : Saf) : State := { s with saf := xsaf }

theorem State.withSaf_eq (s : State) (xsaf : Saf) : State.mk s.objs s.assembling s.latest s.previous s.cst s.obj s.cfg s.phb s.ports s.swp s.est s.afe s.prt s.cte s.pot s.dsp s.thm xsaf s.can s.tim s.eth s.rcd s.lan s.seq s.pwr s.upd s.frames s.sent s.freeCount s.pending = State.withSaf s xsaf := rfl

/-- The state with its seq replaced. -/
def State.withSeq (s : State) (xseq : Seq) : State := { s with seq := xseq }

theorem State.withSeq_eq (s : State) (xseq : Seq) : State.mk s.objs s.assembling s.latest s.previous s.cst s.obj s.cfg s.phb s.ports s.swp s.est s.afe s.prt s.cte s.pot s.dsp s.thm s.saf s.can s.tim s.eth s.rcd s.lan xseq s.pwr s.upd s.frames s.sent s.freeCount s.pending = State.withSeq s xseq := rfl

/-- The state with its swp replaced. -/
def State.withSwp (s : State) (xswp : Swp) : State := { s with swp := xswp }

theorem State.withSwp_eq (s : State) (xswp : Swp) : State.mk s.objs s.assembling s.latest s.previous s.cst s.obj s.cfg s.phb s.ports xswp s.est s.afe s.prt s.cte s.pot s.dsp s.thm s.saf s.can s.tim s.eth s.rcd s.lan s.seq s.pwr s.upd s.frames s.sent s.freeCount s.pending = State.withSwp s xswp := rfl

/-- The state with its thm replaced. -/
def State.withThm (s : State) (xthm : Thm) : State := { s with thm := xthm }

theorem State.withThm_eq (s : State) (xthm : Thm) : State.mk s.objs s.assembling s.latest s.previous s.cst s.obj s.cfg s.phb s.ports s.swp s.est s.afe s.prt s.cte s.pot s.dsp xthm s.saf s.can s.tim s.eth s.rcd s.lan s.seq s.pwr s.upd s.frames s.sent s.freeCount s.pending = State.withThm s xthm := rfl

/-- The state with its thm, pwr replaced. -/
def State.withThmPwr (s : State) (xthm : Thm) (xpwr : Pwr) : State := { s with thm := xthm, pwr := xpwr }

theorem State.withThmPwr_eq (s : State) (xthm : Thm) (xpwr : Pwr) : State.mk s.objs s.assembling s.latest s.previous s.cst s.obj s.cfg s.phb s.ports s.swp s.est s.afe s.prt s.cte s.pot s.dsp xthm s.saf s.can s.tim s.eth s.rcd s.lan s.seq xpwr s.upd s.frames s.sent s.freeCount s.pending = State.withThmPwr s xthm xpwr := rfl

/-- The state with its tim replaced. -/
def State.withTim (s : State) (xtim : Tim) : State := { s with tim := xtim }

theorem State.withTim_eq (s : State) (xtim : Tim) : State.mk s.objs s.assembling s.latest s.previous s.cst s.obj s.cfg s.phb s.ports s.swp s.est s.afe s.prt s.cte s.pot s.dsp s.thm s.saf s.can xtim s.eth s.rcd s.lan s.seq s.pwr s.upd s.frames s.sent s.freeCount s.pending = State.withTim s xtim := rfl

/-- The state with its upd replaced. -/
def State.withUpd (s : State) (xupd : Upd) : State := { s with upd := xupd }

theorem State.withUpd_eq (s : State) (xupd : Upd) : State.mk s.objs s.assembling s.latest s.previous s.cst s.obj s.cfg s.phb s.ports s.swp s.est s.afe s.prt s.cte s.pot s.dsp s.thm s.saf s.can s.tim s.eth s.rcd s.lan s.seq s.pwr xupd s.frames s.sent s.freeCount s.pending = State.withUpd s xupd := rfl

/-- The state with its objs replaced. -/
def State.withObjs (s : State) (xobjs : Cells 32) : State := { s with objs := xobjs }

theorem State.withObjs_eq (s : State) (xobjs : Cells 32) : State.mk xobjs s.assembling s.latest s.previous s.cst s.obj s.cfg s.phb s.ports s.swp s.est s.afe s.prt s.cte s.pot s.dsp s.thm s.saf s.can s.tim s.eth s.rcd s.lan s.seq s.pwr s.upd s.frames s.sent s.freeCount s.pending = State.withObjs s xobjs := rfl

/-- The state with its cst replaced. -/
def State.withCst (s : State) (xcst : Cells 8) : State := { s with cst := xcst }

theorem State.withCst_eq (s : State) (xcst : Cells 8) : State.mk s.objs s.assembling s.latest s.previous xcst s.obj s.cfg s.phb s.ports s.swp s.est s.afe s.prt s.cte s.pot s.dsp s.thm s.saf s.can s.tim s.eth s.rcd s.lan s.seq s.pwr s.upd s.frames s.sent s.freeCount s.pending = State.withCst s xcst := rfl

/-- The state with its assembling replaced. -/
def State.withAssembling (s : State) (xassembling : Snapshot) : State := { s with assembling := xassembling }

theorem State.withAssembling_eq (s : State) (xassembling : Snapshot) : State.mk s.objs xassembling s.latest s.previous s.cst s.obj s.cfg s.phb s.ports s.swp s.est s.afe s.prt s.cte s.pot s.dsp s.thm s.saf s.can s.tim s.eth s.rcd s.lan s.seq s.pwr s.upd s.frames s.sent s.freeCount s.pending = State.withAssembling s xassembling := rfl

/-- The state with its cst, est replaced. -/
def State.withCstEst (s : State) (xcst : Cells 8) (xest : Est) : State := { s with cst := xcst, est := xest }

theorem State.withCstEst_eq (s : State) (xcst : Cells 8) (xest : Est) : State.mk s.objs s.assembling s.latest s.previous xcst s.obj s.cfg s.phb s.ports s.swp xest s.afe s.prt s.cte s.pot s.dsp s.thm s.saf s.can s.tim s.eth s.rcd s.lan s.seq s.pwr s.upd s.frames s.sent s.freeCount s.pending = State.withCstEst s xcst xest := rfl

/-- The state with its assembling, swp replaced. -/
def State.withAssemblingSwp (s : State) (xassembling : Snapshot) (xswp : Swp) : State := { s with assembling := xassembling, swp := xswp }

theorem State.withAssemblingSwp_eq (s : State) (xassembling : Snapshot) (xswp : Swp) : State.mk s.objs xassembling s.latest s.previous s.cst s.obj s.cfg s.phb s.ports xswp s.est s.afe s.prt s.cte s.pot s.dsp s.thm s.saf s.can s.tim s.eth s.rcd s.lan s.seq s.pwr s.upd s.frames s.sent s.freeCount s.pending = State.withAssemblingSwp s xassembling xswp := rfl

/-- The state with its assembling, latest, previous, swp replaced. -/
def State.withAssemblingLatestPreviousSwp (s : State) (xassembling : Snapshot) (xlatest : Snapshot) (xprevious : Snapshot) (xswp : Swp) : State := { s with assembling := xassembling, latest := xlatest, previous := xprevious, swp := xswp }

theorem State.withAssemblingLatestPreviousSwp_eq (s : State) (xassembling : Snapshot) (xlatest : Snapshot) (xprevious : Snapshot) (xswp : Swp) : State.mk s.objs xassembling xlatest xprevious s.cst s.obj s.cfg s.phb s.ports xswp s.est s.afe s.prt s.cte s.pot s.dsp s.thm s.saf s.can s.tim s.eth s.rcd s.lan s.seq s.pwr s.upd s.frames s.sent s.freeCount s.pending = State.withAssemblingLatestPreviousSwp s xassembling xlatest xprevious xswp := rfl

/-- The state with its dsp, freeCount replaced. -/
def State.withDspFreeCount (s : State) (xdsp : Dsp) (xfreeCount : Nat) : State := { s with dsp := xdsp, freeCount := xfreeCount }

theorem State.withDspFreeCount_eq (s : State) (xdsp : Dsp) (xfreeCount : Nat) : State.mk s.objs s.assembling s.latest s.previous s.cst s.obj s.cfg s.phb s.ports s.swp s.est s.afe s.prt s.cte s.pot xdsp s.thm s.saf s.can s.tim s.eth s.rcd s.lan s.seq s.pwr s.upd s.frames s.sent xfreeCount s.pending = State.withDspFreeCount s xdsp xfreeCount := rfl

theorem State.withAfe_moved (s : State) (xafe : Afe) (hafe : s.Inv → xafe.Sized) : Moved 0x800 s (State.withAfe s xafe) :=
  ⟨⟨rfl, List.suffix_refl _, le_refl _, fun c => ⟨c.objs, c.cst, c.assembling, c.latest, c.previous, c.cfg, c.ports, c.swp, hafe c, c.prt, c.cte, c.saf, c.can, c.tim, c.eth, c.seq, c.frames⟩⟩, fun i hi => by
    unfold State.sameAt
    split <;> first | rfl | exact absurd hi (by decide), fun _ _ _ => rfl⟩

theorem State.withCan_moved (s : State) (xcan : List CanChan) (hcan : s.Inv → xcan.length = 2) : Moved 0x40000 s (State.withCan s xcan) :=
  ⟨⟨rfl, List.suffix_refl _, le_refl _, fun c => ⟨c.objs, c.cst, c.assembling, c.latest, c.previous, c.cfg, c.ports, c.swp, c.afe, c.prt, c.cte, c.saf, hcan c, c.tim, c.eth, c.seq, c.frames⟩⟩, fun i hi => by
    unfold State.sameAt
    split <;> first | rfl | exact absurd hi (by decide), fun _ _ _ => rfl⟩

theorem State.withCfg_moved (s : State) (xcfg : Cfg) (hcfg : s.Inv → xcfg.Sized) : Moved 0x40 s (State.withCfg s xcfg) :=
  ⟨⟨rfl, List.suffix_refl _, le_refl _, fun c => ⟨c.objs, c.cst, c.assembling, c.latest, c.previous, hcfg c, c.ports, c.swp, c.afe, c.prt, c.cte, c.saf, c.can, c.tim, c.eth, c.seq, c.frames⟩⟩, fun i hi => by
    unfold State.sameAt
    split <;> first | rfl | exact absurd hi (by decide), fun _ _ _ => rfl⟩

theorem State.withCte_moved (s : State) (xcte : Cte) (hcte : s.Inv → xcte.Sized) : Moved 0x2000 s (State.withCte s xcte) :=
  ⟨⟨rfl, List.suffix_refl _, le_refl _, fun c => ⟨c.objs, c.cst, c.assembling, c.latest, c.previous, c.cfg, c.ports, c.swp, c.afe, c.prt, hcte c, c.saf, c.can, c.tim, c.eth, c.seq, c.frames⟩⟩, fun i hi => by
    unfold State.sameAt
    split <;> first | rfl | exact absurd hi (by decide), fun _ _ _ => rfl⟩

theorem State.withCteLan_moved (s : State) (xcte : Cte) (xlan : Lan) (hcte : s.Inv → xcte.Sized) : Moved 0x402000 s (State.withCteLan s xcte xlan) :=
  ⟨⟨rfl, List.suffix_refl _, le_refl _, fun c => ⟨c.objs, c.cst, c.assembling, c.latest, c.previous, c.cfg, c.ports, c.swp, c.afe, c.prt, hcte c, c.saf, c.can, c.tim, c.eth, c.seq, c.frames⟩⟩, fun i hi => by
    unfold State.sameAt
    split <;> first | rfl | exact absurd hi (by decide), fun _ _ _ => rfl⟩

theorem State.withDsp_moved (s : State) (xdsp : Dsp) : Moved 0x8000 s (State.withDsp s xdsp) :=
  ⟨⟨rfl, List.suffix_refl _, le_refl _, fun c => ⟨c.objs, c.cst, c.assembling, c.latest, c.previous, c.cfg, c.ports, c.swp, c.afe, c.prt, c.cte, c.saf, c.can, c.tim, c.eth, c.seq, c.frames⟩⟩, fun i hi => by
    unfold State.sameAt
    split <;> first | rfl | exact absurd hi (by decide), fun _ _ _ => rfl⟩

theorem State.withEst_moved (s : State) (xest : Est) : Moved 0x400 s (State.withEst s xest) :=
  ⟨⟨rfl, List.suffix_refl _, le_refl _, fun c => ⟨c.objs, c.cst, c.assembling, c.latest, c.previous, c.cfg, c.ports, c.swp, c.afe, c.prt, c.cte, c.saf, c.can, c.tim, c.eth, c.seq, c.frames⟩⟩, fun i hi => by
    unfold State.sameAt
    split <;> first | rfl | exact absurd hi (by decide), fun _ _ _ => rfl⟩

theorem State.withEstDspSafRcdLanPwrUpd_moved (s : State) (xest : Est) (xdsp : Dsp) (xsaf : Saf) (xrcd : Rec) (xlan : Lan) (xpwr : Pwr) (xupd : Upd) (hsaf : s.Inv → xsaf.Sized) : Moved 0x3628400 s (State.withEstDspSafRcdLanPwrUpd s xest xdsp xsaf xrcd xlan xpwr xupd) :=
  ⟨⟨rfl, List.suffix_refl _, le_refl _, fun c => ⟨c.objs, c.cst, c.assembling, c.latest, c.previous, c.cfg, c.ports, c.swp, c.afe, c.prt, c.cte, hsaf c, c.can, c.tim, c.eth, c.seq, c.frames⟩⟩, fun i hi => by
    unfold State.sameAt
    split <;> first | rfl | exact absurd hi (by decide), fun _ _ _ => rfl⟩

theorem State.withEstDspThmSafTimRcdSeq_moved (s : State) (xest : Est) (xdsp : Dsp) (xthm : Thm) (xsaf : Saf) (xtim : Tim) (xrcd : Rec) (xseq : Seq) (hsaf : s.Inv → xsaf.Sized) (htim : s.Inv → xtim.Sized) (hseq : s.Inv → xseq.Sized) : Moved 0xab8400 s (State.withEstDspThmSafTimRcdSeq s xest xdsp xthm xsaf xtim xrcd xseq) :=
  ⟨⟨rfl, List.suffix_refl _, le_refl _, fun c => ⟨c.objs, c.cst, c.assembling, c.latest, c.previous, c.cfg, c.ports, c.swp, c.afe, c.prt, c.cte, hsaf c, c.can, htim c, c.eth, hseq c, c.frames⟩⟩, fun i hi => by
    unfold State.sameAt
    split <;> first | rfl | exact absurd hi (by decide), fun _ _ _ => rfl⟩

theorem State.withEth_moved (s : State) (xeth : Eth) (heth : s.Inv → xeth.Sized) : Moved 0x100000 s (State.withEth s xeth) :=
  ⟨⟨rfl, List.suffix_refl _, le_refl _, fun c => ⟨c.objs, c.cst, c.assembling, c.latest, c.previous, c.cfg, c.ports, c.swp, c.afe, c.prt, c.cte, c.saf, c.can, c.tim, heth c, c.seq, c.frames⟩⟩, fun i hi => by
    unfold State.sameAt
    split <;> first | rfl | exact absurd hi (by decide), fun _ _ _ => rfl⟩

theorem State.withFrames_moved (s : State) (xframes : Frames) (hframes : s.Inv → xframes.Sized) : Moved 0x4000000 s (State.withFrames s xframes) :=
  ⟨⟨rfl, List.suffix_refl _, le_refl _, fun c => ⟨c.objs, c.cst, c.assembling, c.latest, c.previous, c.cfg, c.ports, c.swp, c.afe, c.prt, c.cte, c.saf, c.can, c.tim, c.eth, c.seq, hframes c⟩⟩, fun i hi => by
    unfold State.sameAt
    split <;> first | rfl | exact absurd hi (by decide), fun _ _ _ => rfl⟩

theorem State.withLan_moved (s : State) (xlan : Lan) : Moved 0x400000 s (State.withLan s xlan) :=
  ⟨⟨rfl, List.suffix_refl _, le_refl _, fun c => ⟨c.objs, c.cst, c.assembling, c.latest, c.previous, c.cfg, c.ports, c.swp, c.afe, c.prt, c.cte, c.saf, c.can, c.tim, c.eth, c.seq, c.frames⟩⟩, fun i hi => by
    unfold State.sameAt
    split <;> first | rfl | exact absurd hi (by decide), fun _ _ _ => rfl⟩

theorem State.withLanFrames_moved (s : State) (xlan : Lan) (xframes : Frames) (hframes : s.Inv → xframes.Sized) : Moved 0x4400000 s (State.withLanFrames s xlan xframes) :=
  ⟨⟨rfl, List.suffix_refl _, le_refl _, fun c => ⟨c.objs, c.cst, c.assembling, c.latest, c.previous, c.cfg, c.ports, c.swp, c.afe, c.prt, c.cte, c.saf, c.can, c.tim, c.eth, c.seq, hframes c⟩⟩, fun i hi => by
    unfold State.sameAt
    split <;> first | rfl | exact absurd hi (by decide), fun _ _ _ => rfl⟩

theorem State.withLanPwr_moved (s : State) (xlan : Lan) (xpwr : Pwr) : Moved 0x1400000 s (State.withLanPwr s xlan xpwr) :=
  ⟨⟨rfl, List.suffix_refl _, le_refl _, fun c => ⟨c.objs, c.cst, c.assembling, c.latest, c.previous, c.cfg, c.ports, c.swp, c.afe, c.prt, c.cte, c.saf, c.can, c.tim, c.eth, c.seq, c.frames⟩⟩, fun i hi => by
    unfold State.sameAt
    split <;> first | rfl | exact absurd hi (by decide), fun _ _ _ => rfl⟩

theorem State.withObj_moved (s : State) (xobj : Obj) : Moved 0x20 s (State.withObj s xobj) :=
  ⟨⟨rfl, List.suffix_refl _, le_refl _, fun c => ⟨c.objs, c.cst, c.assembling, c.latest, c.previous, c.cfg, c.ports, c.swp, c.afe, c.prt, c.cte, c.saf, c.can, c.tim, c.eth, c.seq, c.frames⟩⟩, fun i hi => by
    unfold State.sameAt
    split <;> first | rfl | exact absurd hi (by decide), fun _ _ _ => rfl⟩

theorem State.withObjLanFrames_moved (s : State) (xobj : Obj) (xlan : Lan) (xframes : Frames) (hframes : s.Inv → xframes.Sized) : Moved 0x4400020 s (State.withObjLanFrames s xobj xlan xframes) :=
  ⟨⟨rfl, List.suffix_refl _, le_refl _, fun c => ⟨c.objs, c.cst, c.assembling, c.latest, c.previous, c.cfg, c.ports, c.swp, c.afe, c.prt, c.cte, c.saf, c.can, c.tim, c.eth, c.seq, hframes c⟩⟩, fun i hi => by
    unfold State.sameAt
    split <;> first | rfl | exact absurd hi (by decide), fun _ _ _ => rfl⟩

theorem State.withPhb_moved (s : State) (xphb : Phb) : Moved 0x80 s (State.withPhb s xphb) :=
  ⟨⟨rfl, List.suffix_refl _, le_refl _, fun c => ⟨c.objs, c.cst, c.assembling, c.latest, c.previous, c.cfg, c.ports, c.swp, c.afe, c.prt, c.cte, c.saf, c.can, c.tim, c.eth, c.seq, c.frames⟩⟩, fun i hi => by
    unfold State.sameAt
    split <;> first | rfl | exact absurd hi (by decide), fun _ _ _ => rfl⟩

theorem State.withPorts_moved (s : State) (xports : List Port) (hports : s.Inv → xports.length = 8) : Moved 0x100 s (State.withPorts s xports) :=
  ⟨⟨rfl, List.suffix_refl _, le_refl _, fun c => ⟨c.objs, c.cst, c.assembling, c.latest, c.previous, c.cfg, hports c, c.swp, c.afe, c.prt, c.cte, c.saf, c.can, c.tim, c.eth, c.seq, c.frames⟩⟩, fun i hi => by
    unfold State.sameAt
    split <;> first | rfl | exact absurd hi (by decide), fun _ _ _ => rfl⟩

theorem State.withPot_moved (s : State) (xpot : Pot) : Moved 0x4000 s (State.withPot s xpot) :=
  ⟨⟨rfl, List.suffix_refl _, le_refl _, fun c => ⟨c.objs, c.cst, c.assembling, c.latest, c.previous, c.cfg, c.ports, c.swp, c.afe, c.prt, c.cte, c.saf, c.can, c.tim, c.eth, c.seq, c.frames⟩⟩, fun i hi => by
    unfold State.sameAt
    split <;> first | rfl | exact absurd hi (by decide), fun _ _ _ => rfl⟩

theorem State.withPrt_moved (s : State) (xprt : Prt) (hprt : s.Inv → xprt.Sized) : Moved 0x1000 s (State.withPrt s xprt) :=
  ⟨⟨rfl, List.suffix_refl _, le_refl _, fun c => ⟨c.objs, c.cst, c.assembling, c.latest, c.previous, c.cfg, c.ports, c.swp, c.afe, hprt c, c.cte, c.saf, c.can, c.tim, c.eth, c.seq, c.frames⟩⟩, fun i hi => by
    unfold State.sameAt
    split <;> first | rfl | exact absurd hi (by decide), fun _ _ _ => rfl⟩

theorem State.withPrtPwr_moved (s : State) (xprt : Prt) (xpwr : Pwr) (hprt : s.Inv → xprt.Sized) : Moved 0x1001000 s (State.withPrtPwr s xprt xpwr) :=
  ⟨⟨rfl, List.suffix_refl _, le_refl _, fun c => ⟨c.objs, c.cst, c.assembling, c.latest, c.previous, c.cfg, c.ports, c.swp, c.afe, hprt c, c.cte, c.saf, c.can, c.tim, c.eth, c.seq, c.frames⟩⟩, fun i hi => by
    unfold State.sameAt
    split <;> first | rfl | exact absurd hi (by decide), fun _ _ _ => rfl⟩

theorem State.withPwr_moved (s : State) (xpwr : Pwr) : Moved 0x1000000 s (State.withPwr s xpwr) :=
  ⟨⟨rfl, List.suffix_refl _, le_refl _, fun c => ⟨c.objs, c.cst, c.assembling, c.latest, c.previous, c.cfg, c.ports, c.swp, c.afe, c.prt, c.cte, c.saf, c.can, c.tim, c.eth, c.seq, c.frames⟩⟩, fun i hi => by
    unfold State.sameAt
    split <;> first | rfl | exact absurd hi (by decide), fun _ _ _ => rfl⟩

theorem State.withPwrUpd_moved (s : State) (xpwr : Pwr) (xupd : Upd) : Moved 0x3000000 s (State.withPwrUpd s xpwr xupd) :=
  ⟨⟨rfl, List.suffix_refl _, le_refl _, fun c => ⟨c.objs, c.cst, c.assembling, c.latest, c.previous, c.cfg, c.ports, c.swp, c.afe, c.prt, c.cte, c.saf, c.can, c.tim, c.eth, c.seq, c.frames⟩⟩, fun i hi => by
    unfold State.sameAt
    split <;> first | rfl | exact absurd hi (by decide), fun _ _ _ => rfl⟩

theorem State.withRcd_moved (s : State) (xrcd : Rec) : Moved 0x200000 s (State.withRcd s xrcd) :=
  ⟨⟨rfl, List.suffix_refl _, le_refl _, fun c => ⟨c.objs, c.cst, c.assembling, c.latest, c.previous, c.cfg, c.ports, c.swp, c.afe, c.prt, c.cte, c.saf, c.can, c.tim, c.eth, c.seq, c.frames⟩⟩, fun i hi => by
    unfold State.sameAt
    split <;> first | rfl | exact absurd hi (by decide), fun _ _ _ => rfl⟩

theorem State.withRcdLanPwr_moved (s : State) (xrcd : Rec) (xlan : Lan) (xpwr : Pwr) : Moved 0x1600000 s (State.withRcdLanPwr s xrcd xlan xpwr) :=
  ⟨⟨rfl, List.suffix_refl _, le_refl _, fun c => ⟨c.objs, c.cst, c.assembling, c.latest, c.previous, c.cfg, c.ports, c.swp, c.afe, c.prt, c.cte, c.saf, c.can, c.tim, c.eth, c.seq, c.frames⟩⟩, fun i hi => by
    unfold State.sameAt
    split <;> first | rfl | exact absurd hi (by decide), fun _ _ _ => rfl⟩

theorem State.withSaf_moved (s : State) (xsaf : Saf) (hsaf : s.Inv → xsaf.Sized) : Moved 0x20000 s (State.withSaf s xsaf) :=
  ⟨⟨rfl, List.suffix_refl _, le_refl _, fun c => ⟨c.objs, c.cst, c.assembling, c.latest, c.previous, c.cfg, c.ports, c.swp, c.afe, c.prt, c.cte, hsaf c, c.can, c.tim, c.eth, c.seq, c.frames⟩⟩, fun i hi => by
    unfold State.sameAt
    split <;> first | rfl | exact absurd hi (by decide), fun _ _ _ => rfl⟩

theorem State.withSeq_moved (s : State) (xseq : Seq) (hseq : s.Inv → xseq.Sized) : Moved 0x800000 s (State.withSeq s xseq) :=
  ⟨⟨rfl, List.suffix_refl _, le_refl _, fun c => ⟨c.objs, c.cst, c.assembling, c.latest, c.previous, c.cfg, c.ports, c.swp, c.afe, c.prt, c.cte, c.saf, c.can, c.tim, c.eth, hseq c, c.frames⟩⟩, fun i hi => by
    unfold State.sameAt
    split <;> first | rfl | exact absurd hi (by decide), fun _ _ _ => rfl⟩

theorem State.withSwp_moved (s : State) (xswp : Swp) (hswp : s.Inv → xswp.Sized) : Moved 0x200 s (State.withSwp s xswp) :=
  ⟨⟨rfl, List.suffix_refl _, le_refl _, fun c => ⟨c.objs, c.cst, c.assembling, c.latest, c.previous, c.cfg, c.ports, hswp c, c.afe, c.prt, c.cte, c.saf, c.can, c.tim, c.eth, c.seq, c.frames⟩⟩, fun i hi => by
    unfold State.sameAt
    split <;> first | rfl | exact absurd hi (by decide), fun _ _ _ => rfl⟩

theorem State.withThm_moved (s : State) (xthm : Thm) : Moved 0x10000 s (State.withThm s xthm) :=
  ⟨⟨rfl, List.suffix_refl _, le_refl _, fun c => ⟨c.objs, c.cst, c.assembling, c.latest, c.previous, c.cfg, c.ports, c.swp, c.afe, c.prt, c.cte, c.saf, c.can, c.tim, c.eth, c.seq, c.frames⟩⟩, fun i hi => by
    unfold State.sameAt
    split <;> first | rfl | exact absurd hi (by decide), fun _ _ _ => rfl⟩

theorem State.withThmPwr_moved (s : State) (xthm : Thm) (xpwr : Pwr) : Moved 0x1010000 s (State.withThmPwr s xthm xpwr) :=
  ⟨⟨rfl, List.suffix_refl _, le_refl _, fun c => ⟨c.objs, c.cst, c.assembling, c.latest, c.previous, c.cfg, c.ports, c.swp, c.afe, c.prt, c.cte, c.saf, c.can, c.tim, c.eth, c.seq, c.frames⟩⟩, fun i hi => by
    unfold State.sameAt
    split <;> first | rfl | exact absurd hi (by decide), fun _ _ _ => rfl⟩

theorem State.withTim_moved (s : State) (xtim : Tim) (htim : s.Inv → xtim.Sized) : Moved 0x80000 s (State.withTim s xtim) :=
  ⟨⟨rfl, List.suffix_refl _, le_refl _, fun c => ⟨c.objs, c.cst, c.assembling, c.latest, c.previous, c.cfg, c.ports, c.swp, c.afe, c.prt, c.cte, c.saf, c.can, htim c, c.eth, c.seq, c.frames⟩⟩, fun i hi => by
    unfold State.sameAt
    split <;> first | rfl | exact absurd hi (by decide), fun _ _ _ => rfl⟩

theorem State.withUpd_moved (s : State) (xupd : Upd) : Moved 0x2000000 s (State.withUpd s xupd) :=
  ⟨⟨rfl, List.suffix_refl _, le_refl _, fun c => ⟨c.objs, c.cst, c.assembling, c.latest, c.previous, c.cfg, c.ports, c.swp, c.afe, c.prt, c.cte, c.saf, c.can, c.tim, c.eth, c.seq, c.frames⟩⟩, fun i hi => by
    unfold State.sameAt
    split <;> first | rfl | exact absurd hi (by decide), fun _ _ _ => rfl⟩

/-! Storage, output, free values. -/

theorem State.withCst_moved (s : State) (c : Cells 8) (hc : s.cst.wf = true → c.wf = true) : Moved 0x10 s (State.withCst s c) :=
  ⟨⟨rfl, List.suffix_refl _, le_refl _, fun k => ⟨k.objs, hc k.cst, k.assembling, k.latest, k.previous, k.cfg, k.ports, k.swp, k.afe, k.prt, k.cte, k.saf, k.can, k.tim, k.eth, k.seq, k.frames⟩⟩, fun i hi => by
    unfold State.sameAt
    split <;> first | rfl | exact absurd hi (by decide), fun _ _ _ => rfl⟩

theorem State.withAssembling_moved (s : State) (x : Snapshot) (hx : s.assembling.objs.wf = true → x.objs.wf = true) : Moved 0x2 s (State.withAssembling s x) :=
  ⟨⟨rfl, List.suffix_refl _, le_refl _, fun k => ⟨k.objs, k.cst, hx k.assembling, k.latest, k.previous, k.cfg, k.ports, k.swp, k.afe, k.prt, k.cte, k.saf, k.can, k.tim, k.eth, k.seq, k.frames⟩⟩, fun i hi => by
    unfold State.sameAt
    split <;> first | rfl | exact absurd hi (by decide), fun _ _ _ => rfl⟩

theorem State.withCstEst_moved (s : State) (c : Cells 8) (e : Est) (hc : s.cst.wf = true → c.wf = true) : Moved 0x410 s (State.withCstEst s c e) :=
  Moved.chain (Moved.chain (Moved.refl 0x410 s) (State.withCst_moved s c hc) rfl) (State.withEst_moved _ e) rfl

theorem State.withAssemblingSwp_moved (s : State) (x : Snapshot) (w : Swp) (hx : s.assembling.objs.wf = true → x.objs.wf = true) (hw : s.Inv → w.Sized) : Moved 0x202 s (State.withAssemblingSwp s x w) :=
  ⟨⟨rfl, List.suffix_refl _, le_refl _, fun c => ⟨c.objs, c.cst, hx c.assembling, c.latest, c.previous, c.cfg, c.ports, hw c, c.afe, c.prt, c.cte, c.saf, c.can, c.tim, c.eth, c.seq, c.frames⟩⟩, fun i hi => by
    unfold State.sameAt
    split <;> first | rfl | exact absurd hi (by decide), fun _ _ _ => rfl⟩

theorem State.withDspFreeCount_moved (s : State) (x : Dsp) (n : Nat) : Moved 0x10008000 s (State.withDspFreeCount s x (s.freeCount + n)) :=
  ⟨⟨rfl, List.suffix_refl _, Nat.le_add_right _ _, fun c => ⟨c.objs, c.cst, c.assembling, c.latest, c.previous, c.cfg, c.ports, c.swp, c.afe, c.prt, c.cte, c.saf, c.can, c.tim, c.eth, c.seq, c.frames⟩⟩, fun i hi => by
    unfold State.sameAt
    split <;> first | rfl | exact absurd hi (by decide), fun _ _ _ => rfl⟩

theorem length_setAt {α : Type} (l : List α) (n : Nat) (x : α) : (setAt l n x).length = l.length := by
  induction l generalizing n with
  | nil => rfl
  | cons a l ih => cases n <;> simp [setAt, ih]

theorem Frames.sized_reset : Frames.Sized Frames.reset := by
  simp [Frames.Sized, Frames.reset]

theorem State.emit_moved (s : State) (o : Output) : Moved 0x8000000 s (State.emit s o) :=
  ⟨⟨rfl, List.suffix_cons _ _, le_refl _, fun c => ⟨c.objs, c.cst, c.assembling, c.latest, c.previous, c.cfg, c.ports, c.swp, c.afe, c.prt, c.cte, c.saf, c.can, c.tim, c.eth, c.seq, c.frames⟩⟩, fun i hi => by
    unfold State.sameAt
    split <;> first | rfl | exact absurd hi (by decide), fun _ _ _ => rfl⟩

theorem State.took_moved (s : State) : Moved 0x10000000 s (State.took s) :=
  ⟨⟨rfl, List.suffix_refl _, Nat.le_add_right _ _, fun c => ⟨c.objs, c.cst, c.assembling, c.latest, c.previous, c.cfg, c.ports, c.swp, c.afe, c.prt, c.cte, c.saf, c.can, c.tim, c.eth, c.seq, c.frames⟩⟩, fun i hi => by
    unfold State.sameAt
    split <;> first | rfl | exact absurd hi (by decide), fun _ _ _ => rfl⟩

theorem State.tookN_moved (s : State) (n : Nat) : Moved 0x10000000 s (State.tookN s n) :=
  ⟨⟨rfl, List.suffix_refl _, Nat.le_add_right _ _, fun c => ⟨c.objs, c.cst, c.assembling, c.latest, c.previous, c.cfg, c.ports, c.swp, c.afe, c.prt, c.cte, c.saf, c.can, c.tim, c.eth, c.seq, c.frames⟩⟩, fun i hi => by
    unfold State.sameAt
    split <;> first | rfl | exact absurd hi (by decide), fun _ _ _ => rfl⟩

theorem State.wr_moved {m : Nat} {r s : State} (h : Moved m r s) (a : Nat) (v : Word) (ha : inBlock m a = true) : Moved m r (State.wr s a v) := by
  simp only [inBlock, Bool.and_eq_true] at ha
  refine ⟨h.kept.trans ⟨rfl, List.suffix_refl _, le_refl _, fun c => ⟨Cells.wf_set c.objs a v, c.cst, c.assembling, c.latest, c.previous, c.cfg, c.ports, c.swp, c.afe, c.prt, c.cte, c.saf, c.can, c.tim, c.eth, c.seq, c.frames⟩⟩, fun i hi => ?_, fun b hb hi => ?_⟩
  · refine State.sameAt_trans (h.same i hi) ?_
    rcases i with _ | i
    · exact absurd hi (by simp [ha.1])
    · unfold State.sameAt
      split <;> first | rfl | omega
  · rw [← h.blocks b hb hi]
    exact Cells.get_set_other _ _ (fun e => by subst e; simp [ha.2] at hi)

theorem no_block {m a : Nat} (hm : m ||| 0x3fffff00000000 = m) (ha : a < 0x160000) (hi : m.testBit (a / 0x10000 + 32) = false) : False := by
  have h : a / 0x10000 < 22 := by omega
  rw [← hm, Nat.testBit_or, Bool.or_eq_false_iff] at hi
  have h2 := hi.2
  interval_cases a / 0x10000 <;> exact absurd h2 (by decide)

theorem State.wr_all (s : State) (a : Nat) (v : Word) : Moved 0x3fffff00000001 s (State.wr s a v) := by
  refine ⟨⟨rfl, List.suffix_refl _, le_refl _, fun c => ⟨Cells.wf_set c.objs a v, c.cst, c.assembling, c.latest, c.previous, c.cfg, c.ports, c.swp, c.afe, c.prt, c.cte, c.saf, c.can, c.tim, c.eth, c.seq, c.frames⟩⟩, fun i hi => ?_, fun b hb hi => ?_⟩
  · unfold State.sameAt
    split <;> first | rfl | exact absurd hi (by decide)
  · exact (no_block (by decide) hb hi).elim

theorem State.put_moved {m : Nat} {r s : State} (h : Moved m r s) (f : Field) (x : Nat) (hf : inBlock m f.addr = true) : Moved m r (State.put s f x) :=
  State.wr_moved h f.addr _ hf

theorem State.putS_moved {m : Nat} {r s : State} (h : Moved m r s) (f : Field) (x : Int) (hf : inBlock m f.addr = true) : Moved m r (State.putS s f x) :=
  State.put_moved h f _ hf

theorem State.putFlag_moved {m : Nat} {r s : State} (h : Moved m r s) (f : Field) (b : Bool) (hf : inBlock m f.addr = true) : Moved m r (State.putFlag s f b) :=
  State.put_moved h f _ hf

theorem State.bump_moved {m : Nat} {r s : State} (h : Moved m r s) (f : Field) (hf : inBlock m f.addr = true) : Moved m r (State.bump s f) :=
  State.put_moved h f _ hf

theorem State.bumpBy_moved {m : Nat} {r s : State} (h : Moved m r s) (f : Field) (n : Nat) (hf : inBlock m f.addr = true) : Moved m r (State.bumpBy s f n) :=
  State.put_moved h f _ hf

theorem State.bumpSat_moved {m : Nat} {r s : State} (h : Moved m r s) (f : Field) (hf : inBlock m f.addr = true) : Moved m r (State.bumpSat s f) := by
  unfold State.bumpSat
  exact Moved.ite (State.put_moved h f _ hf) h

theorem State.putBit_moved {m : Nat} {r s : State} (h : Moved m r s) (f : Field) (i : Nat) (b : Bool) (hf : inBlock m f.addr = true) : Moved m r (State.putBit s f i b) :=
  State.put_moved h _ _ hf

theorem State.wr64_moved {m : Nat} {r s : State} (h : Moved m r s) (lo : Nat) (v : BitVec 64) (hl : inBlock m lo = true) (hh : inBlock m (lo + 4) = true) :
    Moved m r (State.wr64 s lo v) := State.wr_moved (State.wr_moved h lo _ hl) (lo + 4) _ hh

theorem State.event_moved {m : Nat} {r s : State} (h : Moved m r s) (e : EventFlag) (hf : inBlock m e.flag.addr = true) (hc : inBlock m e.cnt.addr = true) :
    Moved m r (State.event s e) := State.bump_moved (State.put_moved h e.flag 1 hf) e.cnt hc

theorem State.eventIf_moved {m : Nat} {r s : State} (h : Moved m r s) (c : Bool) (e : EventFlag) (hf : inBlock m e.flag.addr = true) (hc : inBlock m e.cnt.addr = true) :
    Moved m r (State.eventIf s c e) := by
  unfold State.eventIf
  exact Moved.ite (State.event_moved h e hf hc) h

theorem State.putAsm_moved (s : State) (f : Field) (x : Nat) : Moved 0x2 s (State.putAsm s f x) :=
  State.withAssembling_moved s _ fun h => Cells.wf_set h _ _

end Sys2Proof.Machine
end

