-- ==== Sys2Proof/Laws/MovedBase.lean ====
section
/-! SUPPORT. Laws/MovedBase.lean: what each operation may change. -/
namespace Sys2Proof.Machine

set_option linter.unreachableTactic false
set_option linter.unusedTactic false
set_option linter.unusedVariables false
set_option linter.unusedSimpArgs false
set_option linter.unnecessarySeqFocus false
set_option linter.style.nameCheck false

open Sys2Proof

/-! Operations of Machine/Ops.lean. -/














/-! Operations of Machine/Flags.lean. -/



/-! Operations of Machine/Count.lean. -/

theorem State.recCount_moved (s : State) (i : Nat) : Moved 0x200000 s (State.recCount s i) := by
  unfold State.recCount
  simp -zeta only [State.withRcd_eq]
  with_reducible repeat' first
    | assumption
    | intro _
    | apply Moved.refl
    | decide
    | apply Moved.ite
    | (extract_lets +onlyGivenNames z; apply Moved.use z; swap; clear_value z; intro _; swap; subst z)
    | (extract_lets +onlyGivenNames z; clear_value z)
    | apply Moved.chain (g := State.withRcd_moved _ _ )
    | split

theorem State.recCountIf_moved (s : State) (b : Bool) (i : Nat) : Moved 0x200000 s (State.recCountIf s b i) := by
  unfold State.recCountIf
  with_reducible repeat' first
    | assumption
    | intro _
    | apply Moved.refl
    | decide
    | apply Moved.ite
    | apply Moved.chain (g := State.recCount_moved _ _)
    | split

/-! Operations of Machine/Image.lean. -/

/-! Operations of Machine/Phb.lean. -/

theorem State.phbRebase_moved (s : State) (tc : Tc) : Moved 0x80 s (State.phbRebase s tc) := by
  unfold State.phbRebase
  simp -zeta only [State.withPhb_eq]
  with_reducible repeat' first
    | assumption
    | intro _
    | apply Moved.refl
    | decide
    | apply Moved.ite
    | apply Moved.chain (g := State.withPhb_moved _ _ )

theorem State.phbMoved_moved (s : State) (tc : Tc) : Moved 0x80 s (State.phbMoved s tc) := by
  unfold State.phbMoved
  simp -zeta only [State.withPhb_eq]
  with_reducible repeat' first
    | assumption
    | intro _
    | apply Moved.refl
    | decide
    | apply Moved.ite
    | apply Moved.chain (g := State.withPhb_moved _ _ )

theorem State.phbSetInc_moved (s : State) (tc : Tc) (inc : Nat) : Moved 0x800000081 s (State.phbSetInc s tc inc) := by
  unfold State.phbSetInc
  with_reducible repeat' first
    | assumption
    | intro _
    | apply Moved.refl
    | decide
    | apply Moved.ite
    | apply State.wr64_moved
    | apply Moved.chain (g := State.phbMoved_moved _ _)
    | apply Moved.chain (g := State.phbRebase_moved _ _)
    | (apply inBlock_of 3; rotate_left; decide; first | omega)

theorem State.clearHistory_moved (s : State) : Moved 0x80 s (State.clearHistory s) := by
  unfold State.clearHistory
  simp -zeta only [State.withPhb_eq]
  with_reducible repeat' first
    | assumption
    | intro _
    | apply Moved.refl
    | decide
    | apply Moved.ite
    | apply Moved.chain (g := State.withPhb_moved _ _ )

theorem State.loopUpdate_moved (s : State) (tc : Tc) (e : Int) : Moved 0x800000081 s (State.loopUpdate s tc e) := by
  unfold State.loopUpdate
  simp -zeta only [State.withPhb_eq]
  with_reducible repeat' first
    | assumption
    | intro _
    | apply Moved.refl
    | decide
    | apply Moved.ite
    | (extract_lets +onlyGivenNames z; apply Moved.use z; swap; clear_value z; intro _; swap; subst z)
    | (extract_lets +onlyGivenNames z; clear_value z)
    | apply Moved.chain (g := State.phbSetInc_moved _ _ _)
    | apply Moved.chain (g := State.withPhb_moved _ _ )

theorem State.lockEvent_moved (s : State) : Moved 0x800000001 s (State.lockEvent s) := by
  unfold State.lockEvent
  with_reducible repeat' first
    | assumption
    | intro _
    | apply Moved.refl
    | decide
    | apply Moved.ite
    | apply State.put_moved
    | apply State.event_moved
    | (apply inBlock_of 3; rotate_left; decide; first | omega | (simp only [Ev.PHB_LOCK, F.PHB_EVT_CNT1_LOCK, F.PHB_EVT_LOCK, F.PHB_STAT_FALLBACK] <;> omega) | (simp only [Ev.PHB_LOCK, F.PHB_EVT_CNT1_LOCK, F.PHB_EVT_LOCK, F.PHB_STAT_FALLBACK]; (repeat' split) <;> first | omega | decide | (dsimp only; omega)))

theorem State.toInternal_moved (s : State) (tc : Tc) : Moved 0x800000081 s (State.toInternal s tc) := by
  unfold State.toInternal
  with_reducible repeat' first
    | assumption
    | intro _
    | apply Moved.refl
    | decide
    | apply Moved.ite
    | apply Moved.chain (g := State.clearHistory_moved _)
    | apply State.put_moved
    | apply Moved.chain (g := State.phbSetInc_moved _ _ _)
    | (apply inBlock_of 3; rotate_left; decide; first | omega | (simp only [F.PHB_STAT_FLYCNT, F.PHB_STAT_STATE] <;> omega) | (simp only [F.PHB_STAT_FLYCNT, F.PHB_STAT_STATE]; (repeat' split) <;> first | omega | decide | (dsimp only; omega)))

theorem State.toFlywheel_moved (s : State) : Moved 0x800000081 s (State.toFlywheel s) := by
  unfold State.toFlywheel
  simp -zeta only [State.withPhb_eq]
  with_reducible repeat' first
    | assumption
    | intro _
    | apply Moved.refl
    | decide
    | apply Moved.ite
    | (extract_lets +onlyGivenNames z; apply Moved.use z; swap; clear_value z; intro _; swap; subst z)
    | (extract_lets +onlyGivenNames z; clear_value z)
    | apply State.put_moved
    | apply State.event_moved
    | apply Moved.chain (g := State.withPhb_moved _ _ )
    | (apply inBlock_of 3; rotate_left; decide; first | omega | (simp only [Ev.PHB_LOSS, F.PHB_EVT_CNT0_LOSS, F.PHB_EVT_LOSS, F.PHB_STAT_FLYCNT, F.PHB_STAT_STATE] <;> omega) | (simp only [Ev.PHB_LOSS, F.PHB_EVT_CNT0_LOSS, F.PHB_EVT_LOSS, F.PHB_STAT_FLYCNT, F.PHB_STAT_STATE]; (repeat' split) <;> first | omega | decide | (dsimp only; omega)))

theorem State.toRealign_moved (s : State) (tc : Tc) : Moved 0x800000081 s (State.toRealign s tc) := by
  unfold State.toRealign
  with_reducible repeat' first
    | assumption
    | intro _
    | apply Moved.refl
    | decide
    | apply Moved.ite
    | apply State.put_moved
    | apply Moved.chain (g := State.phbSetInc_moved _ _ _)
    | (apply inBlock_of 3; rotate_left; decide; first | omega | (simp only [F.PHB_STAT_STATE] <;> omega) | (simp only [F.PHB_STAT_STATE]; (repeat' split) <;> first | omega | decide | (dsimp only; omega)))

theorem State.refEvent_moved (s : State) (tc : Tc) (t16 : Nat) (ph : BitVec 16) (period : Option Nat) (valid : Bool) : Moved 0x800000081 s (State.refEvent s tc t16 ph period valid) := by
  unfold State.refEvent
  simp -zeta only [State.withPhb_eq]
  with_reducible repeat' first
    | assumption
    | intro _
    | apply Moved.refl
    | decide
    | apply Moved.ite
    | (extract_lets +onlyGivenNames z; apply Moved.use z; swap; clear_value z; intro _; swap; subst z)
    | (extract_lets +onlyGivenNames z; clear_value z)
    | apply Moved.getD
    | apply Moved.chain (g := State.toFlywheel_moved _)
    | apply Moved.chain (g := State.toInternal_moved _ _)
    | apply State.put_moved
    | apply Moved.chain (g := State.loopUpdate_moved _ _ _)
    | apply Moved.chain (g := State.lockEvent_moved _)
    | apply Moved.chain (g := State.withPhb_moved _ _ )
    | (apply inBlock_of 3; rotate_left; decide; first | omega | (simp only [F.PHB_FREQ_MHZ, F.PHB_STAT_FLYCNT, F.PHB_STAT_STATE] <;> omega) | (simp only [F.PHB_FREQ_MHZ, F.PHB_STAT_FLYCNT, F.PHB_STAT_STATE]; (repeat' split) <;> first | omega | decide | (dsimp only; omega)))
    | split

theorem State.refMissing_moved (s : State) (tc : Tc) : Moved 0x800000081 s (State.refMissing s tc) := by
  unfold State.refMissing
  with_reducible repeat' first
    | assumption
    | intro _
    | apply Moved.refl
    | decide
    | apply Moved.ite
    | (extract_lets +onlyGivenNames z; apply Moved.use z; swap; clear_value z; intro _; swap; subst z)
    | (extract_lets +onlyGivenNames z; clear_value z)
    | apply Moved.chain (g := State.clearHistory_moved _)
    | apply Moved.chain (g := State.toFlywheel_moved _)
    | apply Moved.chain (g := State.toInternal_moved _ _)
    | apply State.put_moved
    | (apply inBlock_of 3; rotate_left; decide; first | omega | (simp only [F.PHB_FREQ_MHZ] <;> omega) | (simp only [F.PHB_FREQ_MHZ]; (repeat' split) <;> first | omega | decide | (dsimp only; omega)))
    | split

theorem State.wrapRow_moved (s : State) (tc : Tc) (changed : Bool) : Moved 0x800000081 s (State.wrapRow s tc changed) := by
  unfold State.wrapRow
  simp -zeta only [State.withPhb_eq]
  with_reducible repeat' first
    | assumption
    | intro _
    | apply Moved.refl
    | decide
    | apply Moved.ite
    | (extract_lets +onlyGivenNames z; apply Moved.use z; swap; clear_value z; intro _; swap; subst z)
    | (extract_lets +onlyGivenNames z; clear_value z)
    | apply Moved.chain (g := State.toRealign_moved _ _)
    | apply Moved.chain (g := State.toInternal_moved _ _)
    | apply State.put_moved
    | apply Moved.chain (g := State.phbSetInc_moved _ _ _)
    | apply Moved.chain (g := State.lockEvent_moved _)
    | apply State.event_moved
    | apply Moved.chain (g := State.withPhb_moved _ _ )
    | (apply inBlock_of 3; rotate_left; decide; first | omega | (simp only [Ev.PHB_FALLBACK, F.PHB_EVT_CNT0_FALLBACK, F.PHB_EVT_FALLBACK, F.PHB_STAT_FALLBACK, F.PHB_STAT_FLYCNT, F.PHB_STAT_STATE] <;> omega) | (simp only [Ev.PHB_FALLBACK, F.PHB_EVT_CNT0_FALLBACK, F.PHB_EVT_FALLBACK, F.PHB_STAT_FALLBACK, F.PHB_STAT_FLYCNT, F.PHB_STAT_STATE]; (repeat' split) <;> first | omega | decide | (dsimp only; omega)))
    | split

theorem State.schedStart_moved (s : State) (tc : Tc) : Moved 0x800000081 s (State.schedStart s tc) := by
  unfold State.schedStart
  simp -zeta only [State.withPhb_eq]
  with_reducible repeat' first
    | assumption
    | intro _
    | apply Moved.refl
    | decide
    | apply Moved.ite
    | (extract_lets +onlyGivenNames z; apply Moved.use z; swap; clear_value z; intro _; swap; subst z)
    | (extract_lets +onlyGivenNames z; clear_value z)
    | apply Moved.chain (g := State.phbMoved_moved _ _)
    | apply State.put_moved
    | apply Moved.chain (g := State.withPhb_moved _ _ )
    | (apply inBlock_of 3; rotate_left; decide; first | omega | (simp only [F.PHB_STAT_SCHED_RUN] <;> omega) | (simp only [F.PHB_STAT_SCHED_RUN]; (repeat' split) <;> first | omega | decide | (dsimp only; omega)))
    | split

theorem State.wrap_moved (s : State) (tc : Tc) : Moved 0x800000081 s (State.wrap s tc) := by
  unfold State.wrap
  simp -zeta only [State.withPhb_eq]
  with_reducible repeat' first
    | assumption
    | intro _
    | apply Moved.refl
    | decide
    | apply Moved.ite
    | (extract_lets +onlyGivenNames z; apply Moved.use z; swap; clear_value z; intro _; swap; subst z)
    | (extract_lets +onlyGivenNames z; clear_value z)
    | apply State.wr64_moved
    | apply Moved.chain (g := State.wrapRow_moved _ _ _)
    | apply Moved.chain (g := State.phbRebase_moved _ _)
    | apply Moved.chain (g := State.schedStart_moved _ _)
    | apply Moved.chain (g := State.withPhb_moved _ _ )
    | (apply inBlock_of 3; rotate_left; decide; first | omega)

theorem State.phbReset_moved (s : State) (tc : Tc) : Moved 0x800000081 s (State.phbReset s tc) := by
  unfold State.phbReset
  simp -zeta only [State.withPhb_eq]
  with_reducible repeat' first
    | assumption
    | intro _
    | apply Moved.refl
    | decide
    | apply Moved.ite
    | (extract_lets +onlyGivenNames z; apply Moved.use z; swap; clear_value z; intro _; swap; subst z)
    | (extract_lets +onlyGivenNames z; clear_value z)
    | apply State.wr64_moved
    | apply State.put_moved
    | apply Moved.chain (g := State.withPhb_moved _ _ )
    | (apply inBlock_of 3; rotate_left; decide; first | omega | (simp only [F.PHB_FREQ_MHZ, F.PHB_STAT_FLYCNT, F.PHB_STAT_STATE] <;> omega) | (simp only [F.PHB_FREQ_MHZ, F.PHB_STAT_FLYCNT, F.PHB_STAT_STATE]; (repeat' split) <;> first | omega | decide | (dsimp only; omega)))

theorem State.acted_moved (s : State) (key : Nat) (tc : Tc) : Moved 0x80 s (State.acted s key tc) := by
  unfold State.acted
  simp -zeta only [State.withPhb_eq]
  with_reducible repeat' first
    | assumption
    | intro _
    | apply Moved.refl
    | decide
    | apply Moved.ite
    | apply Moved.chain (g := State.withPhb_moved _ _ )

theorem State.noticed_moved (s : State) (k : Nat) (p : Nat) (lead : Nat) (tc : Tc) : Moved 0x80 s (State.noticed s k p lead tc) := by
  unfold State.noticed
  simp -zeta only [State.withPhb_eq]
  with_reducible repeat' first
    | assumption
    | intro _
    | apply Moved.refl
    | decide
    | apply Moved.ite
    | apply Moved.chain (g := State.withPhb_moved _ _ )

/-! Operations of Machine/Tim.lean. -/

theorem State.openSeg_moved (s : State) (tc : Tc) (f : TimSeg → TimSeg) : Moved 0x80000 s (State.openSeg s tc f) := by
  unfold State.openSeg
  simp -zeta only [State.withTim_eq]
  with_reducible repeat' first
    | assumption
    | intro _
    | apply Moved.refl
    | decide
    | apply Moved.ite
    | (extract_lets +onlyGivenNames z; apply Moved.use z; swap; clear_value z; intro _; swap; subst z)
    | (extract_lets +onlyGivenNames z; (have t9 : Tim := z); clear t9; subst z)
    | (extract_lets +onlyGivenNames z; clear_value z)
    | apply Moved.chain (g := State.withTim_moved _ _ ?_ )
    | split
    | (have h_tim := State.Inv.tim (by assumption); simp_all only [Tim.Sized, length_setAt]; done)
    | (have h_tim := State.Inv.tim (by assumption); simp_all [Tim.Sized, Tim.reset, length_setAt]; done)

theorem State.setTpo_moved (s : State) (n : Nat) (x : Tpo) : Moved 0x80000 s (State.setTpo s n x) := by
  unfold State.setTpo
  simp -zeta only [State.withTim_eq]
  with_reducible repeat' first
    | assumption
    | intro _
    | apply Moved.refl
    | decide
    | apply Moved.ite
    | apply Moved.chain (g := State.withTim_moved _ _ ?_ )
    | (have h_tim := State.Inv.tim (by assumption); simp_all only [Tim.Sized, length_setAt]; done)
    | (have h_tim := State.Inv.tim (by assumption); simp_all [Tim.Sized, Tim.reset, length_setAt]; done)

theorem State.tpoStepped_moved (s : State) (tc : Tc) : Moved 0x80000 s (State.tpoStepped s tc) := by
  unfold State.tpoStepped
  with_reducible repeat' first
    | assumption
    | intro _
    | apply Moved.refl
    | decide
    | apply Moved.ite
    | (extract_lets +onlyGivenNames z; apply Moved.use z; swap; clear_value z; intro _; swap; subst z)
    | (extract_lets +onlyGivenNames z; clear_value z)
    | apply Moved.forUpTo
    | apply Moved.chain (g := State.setTpo_moved _ _ _)
    | split

theorem State.tpoArm_moved (s : State) (n : Nat) (tc : Tc) : Moved 0x2000000080001 s (State.tpoArm s n tc) := by
  unfold State.tpoArm
  with_reducible repeat' first
    | assumption
    | intro _
    | apply Moved.refl
    | decide
    | apply Moved.ite
    | (extract_lets +onlyGivenNames z; apply Moved.use z; swap; clear_value z; intro _; swap; subst z)
    | (extract_lets +onlyGivenNames z; clear_value z)
    | apply State.eventIf_moved
    | apply Moved.chain (g := State.setTpo_moved _ _ _)
    | apply State.put_moved
    | (apply inBlock_of 17; rotate_left; decide; first | omega | (simp only [Ev.TIM_TPO_LATE, F.TIM_EVT_CNT2_TPO_LATE, F.TIM_EVT_TPO_LATE, F.TIM_TPO_STAT_PULSES, F.TIM_TPO_STAT_REFUSE, F.TIM_TPO_STAT_STATE] <;> omega) | (simp only [Ev.TIM_TPO_LATE, F.TIM_EVT_CNT2_TPO_LATE, F.TIM_EVT_TPO_LATE, F.TIM_TPO_STAT_PULSES, F.TIM_TPO_STAT_REFUSE, F.TIM_TPO_STAT_STATE]; (repeat' split) <;> first | omega | decide | (dsimp only; omega)))
    | split

theorem State.tpoDisarm_moved (s : State) (n : Nat) : Moved 0x2000000080001 s (State.tpoDisarm s n) := by
  unfold State.tpoDisarm
  with_reducible repeat' first
    | assumption
    | intro _
    | apply Moved.refl
    | decide
    | apply Moved.ite
    | (extract_lets +onlyGivenNames z; apply Moved.use z; swap; clear_value z; intro _; swap; subst z)
    | (extract_lets +onlyGivenNames z; clear_value z)
    | apply Moved.chain (g := State.setTpo_moved _ _ _)
    | apply State.put_moved
    | (apply inBlock_of 17; rotate_left; decide; first | omega | (simp only [F.TIM_TPO_STAT_STATE] <;> omega) | (simp only [F.TIM_TPO_STAT_STATE]; (repeat' split) <;> first | omega | decide | (dsimp only; omega)))
    | split

theorem State.timInc_moved (s : State) (v : Word) (tc : Tc) : Moved 0x2000000080001 s (State.timInc s v tc) := by
  unfold State.timInc
  with_reducible repeat' first
    | assumption
    | intro _
    | apply Moved.refl
    | decide
    | apply Moved.ite
    | apply Moved.chain (g := State.openSeg_moved _ _ _)
    | apply State.put_moved
    | apply State.event_moved
    | (apply inBlock_of 17; rotate_left; decide; first | omega | (simp only [Ev.TIM_INC_REJ, F.TIM_EVT_CNT0_INC_REJ, F.TIM_EVT_INC_REJ, F.TIM_INC_VALUE] <;> omega) | (simp only [Ev.TIM_INC_REJ, F.TIM_EVT_CNT0_INC_REJ, F.TIM_EVT_INC_REJ, F.TIM_INC_VALUE]; (repeat' split) <;> first | omega | decide | (dsimp only; omega)))
    | split

theorem State.timStep_moved (s : State) (ns : Int) (tc : Tc) : Moved 0x2000000080001 s (State.timStep s ns tc) := by
  unfold State.timStep
  with_reducible repeat' first
    | assumption
    | intro _
    | apply Moved.refl
    | decide
    | apply Moved.ite
    | apply Moved.chain (g := State.openSeg_moved _ _ _)
    | apply Moved.chain (g := State.tpoStepped_moved _ _)
    | apply State.event_moved
    | (apply inBlock_of 17; rotate_left; decide; first | omega | (simp only [Ev.TIM_STEP, F.TIM_EVT_CNT0_STEP, F.TIM_EVT_STEP] <;> omega) | (simp only [Ev.TIM_STEP, F.TIM_EVT_CNT0_STEP, F.TIM_EVT_STEP]; (repeat' split) <;> first | omega | decide | (dsimp only; omega)))

theorem State.timSet_moved (s : State) (ns : Nat) (tc : Tc) : Moved 0x2000000080001 s (State.timSet s ns tc) := by
  unfold State.timSet
  with_reducible repeat' first
    | assumption
    | intro _
    | apply Moved.refl
    | decide
    | apply Moved.ite
    | apply Moved.chain (g := State.openSeg_moved _ _ _)
    | apply Moved.chain (g := State.tpoStepped_moved _ _)
    | apply State.event_moved
    | (apply inBlock_of 17; rotate_left; decide; first | omega | (simp only [Ev.TIM_STEP, F.TIM_EVT_CNT0_STEP, F.TIM_EVT_STEP] <;> omega) | (simp only [Ev.TIM_STEP, F.TIM_EVT_CNT0_STEP, F.TIM_EVT_STEP]; (repeat' split) <;> first | omega | decide | (dsimp only; omega)))

theorem State.timConvert_moved (s : State) (v : Word) : Moved 0x2000000000001 s (State.timConvert s v) := by
  unfold State.timConvert
  with_reducible repeat' first
    | assumption
    | intro _
    | apply Moved.refl
    | decide
    | apply Moved.ite
    | (extract_lets +onlyGivenNames z; apply Moved.use z; swap; clear_value z; intro _; swap; subst z)
    | (extract_lets +onlyGivenNames z; clear_value z)
    | apply State.wr64_moved
    | apply State.putFlag_moved
    | apply State.put_moved
    | (apply inBlock_of 17; rotate_left; decide; first | omega | (simp only [F.TIM_CONV_NT_LO_VALUE, F.TIM_CONV_RAW_HI_VALUE, F.TIM_STAT_CONV_OOR, F.TIM_STAT_CONV_PREV] <;> omega) | (simp only [F.TIM_CONV_NT_LO_VALUE, F.TIM_CONV_RAW_HI_VALUE, F.TIM_STAT_CONV_OOR, F.TIM_STAT_CONV_PREV]; (repeat' split) <;> first | omega | decide | (dsimp only; omega)))

theorem State.servoStep_moved (s : State) (o : Int) (tc : Tc) : Moved 0x2000000080001 s (State.servoStep s o tc) := by
  unfold State.servoStep
  simp -zeta only [State.withTim_eq]
  with_reducible repeat' first
    | assumption
    | intro _
    | apply Moved.refl
    | decide
    | apply Moved.ite
    | (extract_lets +onlyGivenNames z; apply Moved.use z; swap; clear_value z; intro _; swap; subst z)
    | (extract_lets +onlyGivenNames z; (have t9 : Tim := z); clear t9; subst z)
    | (extract_lets +onlyGivenNames z; clear_value z)
    | apply State.wr64_moved
    | apply Moved.chain (g := State.timSet_moved _ _ _)
    | apply Moved.chain (g := State.timStep_moved _ _ _)
    | apply State.put_moved
    | apply Moved.chain (g := State.withTim_moved _ _ ?_ )
    | (apply inBlock_of 17; rotate_left; decide; first | omega | (simp only [F.TIM_SET_LO_VALUE, F.TIM_STAT_SERVO] <;> omega) | (simp only [F.TIM_SET_LO_VALUE, F.TIM_STAT_SERVO]; (repeat' split) <;> first | omega | decide | (dsimp only; omega)))
    | split
    | (have h_tim := State.Inv.tim (by assumption); simp_all only [Tim.Sized, length_setAt]; done)
    | (have h_tim := State.Inv.tim (by assumption); simp_all [Tim.Sized, Tim.reset, length_setAt]; done)

theorem State.servoSync_moved (s : State) (o : Int) (log : Int) (tc : Tc) : Moved 0x2000000080001 s (State.servoSync s o log tc) := by
  unfold State.servoSync
  simp -zeta only [State.withTim_eq]
  with_reducible repeat' first
    | assumption
    | intro _
    | apply Moved.refl
    | decide
    | apply Moved.ite
    | (extract_lets +onlyGivenNames z; apply Moved.use z; swap; clear_value z; intro _; swap; subst z)
    | (extract_lets +onlyGivenNames z; (have t9 : Tim := z); clear t9; subst z)
    | (extract_lets +onlyGivenNames z; clear_value z)
    | apply State.putS_moved
    | apply Moved.chain (g := State.timInc_moved _ _ _)
    | apply State.put_moved
    | apply Moved.chain (g := State.servoStep_moved _ _ _)
    | apply State.event_moved
    | apply Moved.chain (g := State.withTim_moved _ _ ?_ )
    | (apply inBlock_of 17; rotate_left; decide; first | omega | (simp only [Ev.TIM_LOCK, F.TIM_EVT_CNT1_LOCK, F.TIM_EVT_LOCK, F.TIM_OFFS_NS, F.TIM_STAT_SERVO] <;> omega) | (simp only [Ev.TIM_LOCK, F.TIM_EVT_CNT1_LOCK, F.TIM_EVT_LOCK, F.TIM_OFFS_NS, F.TIM_STAT_SERVO]; (repeat' split) <;> first | omega | decide | (dsimp only; omega)))
    | split
    | (have h_tim := State.Inv.tim (by assumption); simp_all only [Tim.Sized, length_setAt]; done)
    | (have h_tim := State.Inv.tim (by assumption); simp_all [Tim.Sized, Tim.reset, length_setAt]; done)

theorem State.servoHold_moved (s : State) (tc : Tc) : Moved 0x2000000080001 s (State.servoHold s tc) := by
  unfold State.servoHold
  simp -zeta only [State.withTim_eq]
  with_reducible repeat' first
    | assumption
    | intro _
    | apply Moved.refl
    | decide
    | apply Moved.ite
    | apply State.put_moved
    | apply State.event_moved
    | apply Moved.chain (g := State.withTim_moved _ _ ?_ )
    | (apply inBlock_of 17; rotate_left; decide; first | omega | (simp only [Ev.TIM_HOLDOVER, F.TIM_EVT_CNT1_HOLDOVER, F.TIM_EVT_HOLDOVER, F.TIM_STAT_SERVO] <;> omega) | (simp only [Ev.TIM_HOLDOVER, F.TIM_EVT_CNT1_HOLDOVER, F.TIM_EVT_HOLDOVER, F.TIM_STAT_SERVO]; (repeat' split) <;> first | omega | decide | (dsimp only; omega)))
    | (have h_tim := State.Inv.tim (by assumption); simp_all only [Tim.Sized, length_setAt]; done)
    | (have h_tim := State.Inv.tim (by assumption); simp_all [Tim.Sized, Tim.reset, length_setAt]; done)

theorem State.timStart_moved (s : State) : Moved 0x2000000080001 s (State.timStart s) := by
  unfold State.timStart
  simp -zeta only [State.withTim_eq]
  with_reducible repeat' first
    | assumption
    | intro _
    | apply Moved.refl
    | decide
    | apply Moved.ite
    | (extract_lets +onlyGivenNames z; apply Moved.use z; swap; clear_value z; intro _; swap; subst z)
    | (extract_lets +onlyGivenNames z; (have t9 : Tim := z); clear t9; subst z)
    | (extract_lets +onlyGivenNames z; clear_value z)
    | apply State.put_moved
    | apply Moved.chain (g := State.withTim_moved _ _ ?_ )
    | (apply inBlock_of 17; rotate_left; decide; first | omega | (simp only [F.TIM_INC_VALUE, F.TIM_STAT_SERVO] <;> omega) | (simp only [F.TIM_INC_VALUE, F.TIM_STAT_SERVO]; (repeat' split) <;> first | omega | decide | (dsimp only; omega)))
    | (have h_tim := State.Inv.tim (by assumption); simp_all only [Tim.Sized, length_setAt]; done)
    | (have h_tim := State.Inv.tim (by assumption); simp_all [Tim.Sized, Tim.reset, length_setAt]; done)

end Sys2Proof.Machine
end

