-- ==== Sys2Proof/Laws/MovedLink.lean ====
section
/-! SUPPORT. Laws/MovedLink.lean: what each operation may change. -/
namespace Sys2Proof.Machine

set_option linter.unreachableTactic false
set_option linter.unusedTactic false
set_option linter.unusedVariables false
set_option linter.unusedSimpArgs false
set_option linter.unnecessarySeqFocus false
set_option linter.style.nameCheck false

open Sys2Proof

/-! Operations of Machine/Dlk.lean. -/

theorem State.setPort_moved (s : State) (p : Nat) (x : Port) : Moved 0x100 s (State.setPort s p x) := by
  unfold State.setPort
  simp -zeta only [State.withPorts_eq]
  with_reducible repeat' first
    | assumption
    | intro _
    | apply Moved.refl
    | decide
    | apply Moved.ite
    | apply Moved.chain (g := State.withPorts_moved _ _ ?_ )
    | (have h_ports := State.Inv.ports (by assumption); simp_all only [length_setAt]; done)
    | (have h_ports := State.Inv.ports (by assumption); simp_all [length_setAt]; done)

theorem State.sendFrame_moved (s : State) (p : Nat) (endB : Bool) (byte0 : Nat) (byte1 : Nat) (byte2 : Nat) (payload : List Byte) (tag : Option Nat) (at4 : Nat) : Moved 0x8000100 s (State.sendFrame s p endB byte0 byte1 byte2 payload tag at4) := by
  unfold State.sendFrame
  with_reducible repeat' first
    | assumption
    | intro _
    | apply Moved.refl
    | decide
    | apply Moved.ite
    | (extract_lets +onlyGivenNames z; apply Moved.use z; swap; clear_value z; intro _; swap; subst z)
    | (extract_lets +onlyGivenNames z; clear_value z)
    | apply Moved.chain (g := State.setPort_moved _ _ _)
    | apply Moved.chain (g := State.emit_moved _ _)
    | split

theorem State.sendBroadcast_moved (s : State) (p : Nat) (endB : Bool) (typ : Nat) (payload : List Byte) (at4 : Nat) : Moved 0x8000100 s (State.sendBroadcast s p endB typ payload at4) := by
  unfold State.sendBroadcast
  with_reducible repeat' first
    | assumption
    | intro _
    | apply Moved.refl
    | decide
    | apply Moved.ite
    | apply Moved.chain (g := State.sendFrame_moved _ _ _ _ _ _ _ _ _)

theorem State.sendPoll_moved (s : State) (p : Nat) (endB : Bool) (at4 : Nat) : Moved 0x8000100 s (State.sendPoll s p endB at4) := by
  unfold State.sendPoll
  with_reducible repeat' first
    | assumption
    | intro _
    | apply Moved.refl
    | decide
    | apply Moved.ite
    | (extract_lets +onlyGivenNames z; apply Moved.use z; swap; clear_value z; intro _; swap; subst z)
    | (extract_lets +onlyGivenNames z; clear_value z)
    | apply Moved.chain (g := State.setPort_moved _ _ _)
    | apply Moved.chain (g := State.sendBroadcast_moved _ _ _ _ _ _)

theorem State.pollBoth_moved (s : State) (p : Nat) (at4 : Nat) : Moved 0x8000100 s (State.pollBoth s p at4) := by
  unfold State.pollBoth
  with_reducible repeat' first
    | assumption
    | intro _
    | apply Moved.refl
    | decide
    | apply Moved.ite
    | apply Moved.chain (g := State.sendPoll_moved _ _ _ _)

theorem State.sendRequest_moved (s : State) (p : Nat) (t : Txn) (at4 : Nat) : Moved 0x8000100 s (State.sendRequest s p t at4) := by
  unfold State.sendRequest
  with_reducible repeat' first
    | assumption
    | intro _
    | apply Moved.refl
    | decide
    | apply Moved.ite
    | apply Moved.chain (g := State.sendFrame_moved _ _ _ _ _ _ _ _ _)

theorem State.queueMgmt_moved (s : State) (p : Nat) (t : Txn) : Moved 0x100 s (State.queueMgmt s p t) := by
  unfold State.queueMgmt
  with_reducible repeat' first
    | assumption
    | intro _
    | apply Moved.refl
    | decide
    | apply Moved.ite
    | (extract_lets +onlyGivenNames z; apply Moved.use z; swap; clear_value z; intro _; swap; subst z)
    | (extract_lets +onlyGivenNames z; clear_value z)
    | apply Moved.chain (g := State.setPort_moved _ _ _)

theorem State.queueTxn_moved (s : State) (p : Nat) (t : Txn) : Moved 0x100 s (State.queueTxn s p t) := by
  unfold State.queueTxn
  with_reducible repeat' first
    | assumption
    | intro _
    | apply Moved.refl
    | decide
    | apply Moved.ite
    | (extract_lets +onlyGivenNames z; apply Moved.use z; swap; clear_value z; intro _; swap; subst z)
    | (extract_lets +onlyGivenNames z; clear_value z)
    | apply Moved.chain (g := State.setPort_moved _ _ _)

theorem State.showServe_moved (s : State) (p : Nat) : Moved 0x1000000001 s (State.showServe s p) := by
  unfold State.showServe
  with_reducible repeat' first
    | assumption
    | intro _
    | apply Moved.refl
    | decide
    | apply Moved.ite
    | apply Moved.foldl
    | apply State.put_moved
    | (apply inBlock_of 4; rotate_left; decide; first | omega | (simp only [F.DLK_P_SERVE_B_MON] <;> omega) | (simp only [F.DLK_P_SERVE_B_MON]; (repeat' split) <;> first | omega | decide | (dsimp only; omega)))
    | split

theorem State.showOutstanding_moved (s : State) (p : Nat) : Moved 0x1000000001 s (State.showOutstanding s p) := by
  unfold State.showOutstanding
  with_reducible repeat' first
    | assumption
    | intro _
    | apply Moved.refl
    | decide
    | apply Moved.ite
    | (extract_lets +onlyGivenNames z; apply Moved.use z; swap; clear_value z; intro _; swap; subst z)
    | (extract_lets +onlyGivenNames z; clear_value z)
    | apply State.put_moved
    | (apply inBlock_of 4; rotate_left; decide; first | omega | (simp only [F.DLK_INFLIGHT_CUR, F.DLK_INFLIGHT_PEAK, F.DLK_P_STAT_OUTST] <;> omega) | (simp only [F.DLK_INFLIGHT_CUR, F.DLK_INFLIGHT_PEAK, F.DLK_P_STAT_OUTST]; (repeat' split) <;> first | omega | decide | (dsimp only; omega)))
    | split

theorem State.dropTxn_moved (s : State) (p : Nat) (tag : Nat) : Moved 0x1000000101 s (State.dropTxn s p tag) := by
  unfold State.dropTxn
  with_reducible repeat' first
    | assumption
    | intro _
    | apply Moved.refl
    | decide
    | apply Moved.ite
    | (extract_lets +onlyGivenNames z; apply Moved.use z; swap; clear_value z; intro _; swap; subst z)
    | (extract_lets +onlyGivenNames z; clear_value z)
    | apply Moved.chain (g := State.setPort_moved _ _ _)
    | apply Moved.chain (g := State.showOutstanding_moved _ _)

theorem State.replaceTxn_moved (s : State) (p : Nat) (t : Txn) : Moved 0x100 s (State.replaceTxn s p t) := by
  unfold State.replaceTxn
  with_reducible repeat' first
    | assumption
    | intro _
    | apply Moved.refl
    | decide
    | apply Moved.ite
    | (extract_lets +onlyGivenNames z; apply Moved.use z; swap; clear_value z; intro _; swap; subst z)
    | (extract_lets +onlyGivenNames z; clear_value z)
    | apply Moved.chain (g := State.setPort_moved _ _ _)
    | split

theorem State.sendAgain_moved (s : State) (p : Nat) (t : Txn) (at4 : Nat) : Moved 0x8000100 s (State.sendAgain s p t at4) := by
  unfold State.sendAgain
  with_reducible repeat' first
    | assumption
    | intro _
    | apply Moved.refl
    | decide
    | apply Moved.ite
    | (extract_lets +onlyGivenNames z; apply Moved.use z; swap; clear_value z; intro _; swap; subst z)
    | (extract_lets +onlyGivenNames z; clear_value z)
    | apply Moved.chain (g := State.replaceTxn_moved _ _ _)
    | apply Moved.chain (g := State.sendRequest_moved _ _ _ _)
    | split

theorem State.sendAperture_moved (s : State) (p : Nat) (endB : Bool) (payload : List Byte) (at4 : Nat) : Moved 0x8000100 s (State.sendAperture s p endB payload at4) := by
  unfold State.sendAperture
  with_reducible repeat' first
    | assumption
    | intro _
    | apply Moved.refl
    | decide
    | apply Moved.ite
    | (extract_lets +onlyGivenNames z; apply Moved.use z; swap; clear_value z; intro _; swap; subst z)
    | (extract_lets +onlyGivenNames z; clear_value z)
    | apply Moved.chain (g := State.setPort_moved _ _ _)
    | apply Moved.chain (g := State.replaceTxn_moved _ _ _)
    | apply Moved.chain (g := State.emit_moved _ _)
    | split

theorem State.clearTxns_moved (s : State) (p : Nat) : Moved 0x1000000101 s (State.clearTxns s p) := by
  unfold State.clearTxns
  with_reducible repeat' first
    | assumption
    | intro _
    | apply Moved.refl
    | decide
    | apply Moved.ite
    | (extract_lets +onlyGivenNames z; apply Moved.use z; swap; clear_value z; intro _; swap; subst z)
    | (extract_lets +onlyGivenNames z; clear_value z)
    | apply Moved.chain (g := State.setPort_moved _ _ _)
    | apply Moved.chain (g := State.showOutstanding_moved _ _)

theorem State.clearUnsent_moved (s : State) (p : Nat) : Moved 0x1000000101 s (State.clearUnsent s p) := by
  unfold State.clearUnsent
  with_reducible repeat' first
    | assumption
    | intro _
    | apply Moved.refl
    | decide
    | apply Moved.ite
    | (extract_lets +onlyGivenNames z; apply Moved.use z; swap; clear_value z; intro _; swap; subst z)
    | (extract_lets +onlyGivenNames z; clear_value z)
    | apply Moved.chain (g := State.setPort_moved _ _ _)
    | apply Moved.chain (g := State.showOutstanding_moved _ _)

theorem State.storeDelay_moved (s : State) (p : Nat) (m : Nat) (endB : Bool) (sum : Nat) : Moved 0x1000000001 s (State.storeDelay s p m endB sum) := by
  unfold State.storeDelay
  with_reducible repeat' first
    | assumption
    | intro _
    | apply Moved.refl
    | decide
    | apply Moved.ite
    | (extract_lets +onlyGivenNames z; apply Moved.use z; swap; clear_value z; intro _; swap; subst z)
    | (extract_lets +onlyGivenNames z; clear_value z)
    | apply State.put_moved
    | (apply inBlock_of 4; rotate_left; decide; first | omega | (simp only [F.DLK_P_DLY_A, F.DLK_P_DLY_B, F.DLK_P_STAT_DLY_ERR] <;> omega) | (simp only [F.DLK_P_DLY_A, F.DLK_P_DLY_B, F.DLK_P_STAT_DLY_ERR]; (repeat' split) <;> first | omega | decide | (dsimp only; omega)))
    | split

theorem State.startEnum_moved (s : State) (p : Nat) (at4 : Nat) : Moved 0x1008000101 s (State.startEnum s p at4) := by
  unfold State.startEnum
  with_reducible repeat' first
    | assumption
    | intro _
    | apply Moved.refl
    | decide
    | apply Moved.ite
    | (extract_lets +onlyGivenNames z; apply Moved.use z; swap; clear_value z; intro _; swap; subst z)
    | (extract_lets +onlyGivenNames z; clear_value z)
    | apply Moved.forUpTo
    | apply Moved.chain (g := State.setPort_moved _ _ _)
    | apply State.wr_moved
    | apply State.put_moved
    | apply Moved.chain (g := State.sendBroadcast_moved _ _ _ _ _ _)
    | (apply inBlock_of 4; rotate_left; decide; first | omega | (simp only [F.DLK_P_DLY_A, F.DLK_P_STAT_A_CNT, F.DLK_P_STAT_B_CNT, F.DLK_P_STAT_COUNT_ERR, F.DLK_P_STAT_DLY_ERR, F.DLK_P_STAT_FOUND, F.DLK_P_STAT_ORIENT_ERR, F.DLK_P_STAT_OVERCOUNT, F.DLK_P_STAT_STATE, F.DLK_P_UID_HI_VALUE, F.DLK_P_UID_LO_VALUE] <;> omega) | (simp only [F.DLK_P_DLY_A, F.DLK_P_STAT_A_CNT, F.DLK_P_STAT_B_CNT, F.DLK_P_STAT_COUNT_ERR, F.DLK_P_STAT_DLY_ERR, F.DLK_P_STAT_FOUND, F.DLK_P_STAT_ORIENT_ERR, F.DLK_P_STAT_OVERCOUNT, F.DLK_P_STAT_STATE, F.DLK_P_UID_HI_VALUE, F.DLK_P_UID_LO_VALUE]; (repeat' split) <;> first | omega | decide | (dsimp only; omega)))

theorem State.enumStep5_moved (s : State) (p : Nat) : Moved 0x100 s (State.enumStep5 s p) := by
  unfold State.enumStep5
  with_reducible repeat' first
    | assumption
    | intro _
    | apply Moved.refl
    | decide
    | apply Moved.ite
    | (extract_lets +onlyGivenNames z; apply Moved.use z; swap; clear_value z; intro _; swap; subst z)
    | (extract_lets +onlyGivenNames z; clear_value z)
    | apply Moved.chain (g := State.setPort_moved _ _ _)

theorem State.enumStep4_moved (s : State) (p : Nat) : Moved 0x100 s (State.enumStep4 s p) := by
  unfold State.enumStep4
  with_reducible repeat' first
    | assumption
    | intro _
    | apply Moved.refl
    | decide
    | apply Moved.ite
    | (extract_lets +onlyGivenNames z; apply Moved.use z; swap; clear_value z; intro _; swap; subst z)
    | (extract_lets +onlyGivenNames z; clear_value z)
    | apply Moved.chain (g := State.setPort_moved _ _ _)
    | apply Moved.chain (g := State.enumStep5_moved _ _)
    | split

theorem State.enumNextB_moved (s : State) (p : Nat) : Moved 0x100 s (State.enumNextB s p) := by
  unfold State.enumNextB
  with_reducible repeat' first
    | assumption
    | intro _
    | apply Moved.refl
    | decide
    | apply Moved.ite
    | (extract_lets +onlyGivenNames z; apply Moved.use z; swap; clear_value z; intro _; swap; subst z)
    | (extract_lets +onlyGivenNames z; clear_value z)
    | apply Moved.chain (g := State.setPort_moved _ _ _)
    | apply Moved.chain (g := State.enumStep4_moved _ _)
    | split

theorem State.enumStop_moved (s : State) (p : Nat) : Moved 0x100 s (State.enumStop s p) := by
  unfold State.enumStop
  with_reducible repeat' first
    | assumption
    | intro _
    | apply Moved.refl
    | decide
    | apply Moved.ite
    | (extract_lets +onlyGivenNames z; apply Moved.use z; swap; clear_value z; intro _; swap; subst z)
    | (extract_lets +onlyGivenNames z; clear_value z)
    | apply Moved.chain (g := State.setPort_moved _ _ _)

theorem State.enumTaken_moved (s : State) (p : Nat) (a : Nat) (fromB : Bool) (data : List Byte) : Moved 0x1000000101 s (State.enumTaken s p a fromB data) := by
  unfold State.enumTaken
  with_reducible repeat' first
    | assumption
    | intro _
    | apply Moved.refl
    | decide
    | apply Moved.ite
    | (extract_lets +onlyGivenNames z; apply Moved.use z; swap; clear_value z; intro _; swap; subst z)
    | (extract_lets +onlyGivenNames z; clear_value z)
    | apply State.bump_moved
    | apply Moved.chain (g := State.setPort_moved _ _ _)
    | apply State.wr_moved
    | apply State.put_moved
    | apply Moved.chain (g := State.enumStop_moved _ _)
    | (apply inBlock_of 4; rotate_left; decide; first | omega | (simp only [F.DLK_P_STAT_A_CNT, F.DLK_P_STAT_B_CNT, F.DLK_P_STAT_FOUND, F.DLK_P_STAT_ORIENT_ERR, F.DLK_P_UID_HI_VALUE, F.DLK_P_UID_LO_VALUE] <;> omega) | (simp only [F.DLK_P_STAT_A_CNT, F.DLK_P_STAT_B_CNT, F.DLK_P_STAT_FOUND, F.DLK_P_STAT_ORIENT_ERR, F.DLK_P_UID_HI_VALUE, F.DLK_P_UID_LO_VALUE]; (repeat' split) <;> first | omega | decide | (dsimp only; omega)))
    | split

theorem State.enumOpened_moved (s : State) (p : Nat) (a : Nat) (fromB : Bool) (at4 : Nat) : Moved 0x8000100 s (State.enumOpened s p a fromB at4) := by
  unfold State.enumOpened
  with_reducible repeat' first
    | assumption
    | intro _
    | apply Moved.refl
    | decide
    | apply Moved.ite
    | (extract_lets +onlyGivenNames z; apply Moved.use z; swap; clear_value z; intro _; swap; subst z)
    | (extract_lets +onlyGivenNames z; clear_value z)
    | apply Moved.chain (g := State.setPort_moved _ _ _)
    | apply Moved.chain (g := State.enumNextB_moved _ _)
    | apply Moved.chain (g := State.sendPoll_moved _ _ _ _)
    | split

theorem State.enumThrough_moved (s : State) (p : Nat) (fromB : Bool) : Moved 0x1000000101 s (State.enumThrough s p fromB) := by
  unfold State.enumThrough
  with_reducible repeat' first
    | assumption
    | intro _
    | apply Moved.refl
    | decide
    | apply Moved.ite
    | (extract_lets +onlyGivenNames z; apply Moved.use z; swap; clear_value z; intro _; swap; subst z)
    | (extract_lets +onlyGivenNames z; clear_value z)
    | apply Moved.chain (g := State.setPort_moved _ _ _)
    | apply Moved.chain (g := State.enumStep4_moved _ _)
    | apply State.put_moved
    | (apply inBlock_of 4; rotate_left; decide; first | omega | (simp only [F.DLK_P_STAT_B_CNT] <;> omega) | (simp only [F.DLK_P_STAT_B_CNT]; (repeat' split) <;> first | omega | decide | (dsimp only; omega)))
    | split

theorem State.enumTimedOut_moved (s : State) (p : Nat) (fromB : Bool) : Moved 0x100 s (State.enumTimedOut s p fromB) := by
  unfold State.enumTimedOut
  with_reducible repeat' first
    | assumption
    | intro _
    | apply Moved.refl
    | decide
    | apply Moved.ite
    | apply Moved.chain (g := State.enumNextB_moved _ _)
    | apply Moved.chain (g := State.enumStep4_moved _ _)
    | split

theorem State.enumPollBack_moved (s : State) (p : Nat) (r : PollBack) : Moved 0x1000000101 s (State.enumPollBack s p r) := by
  unfold State.enumPollBack
  with_reducible repeat' first
    | assumption
    | intro _
    | apply Moved.refl
    | decide
    | apply Moved.ite
    | (extract_lets +onlyGivenNames z; apply Moved.use z; swap; clear_value z; intro _; swap; subst z)
    | (extract_lets +onlyGivenNames z; clear_value z)
    | apply Moved.chain (g := State.setPort_moved _ _ _)
    | apply Moved.chain (g := State.enumNextB_moved _ _)
    | apply Moved.chain (g := State.enumStep4_moved _ _)
    | apply State.put_moved
    | apply Moved.chain (g := State.enumStop_moved _ _)
    | (apply inBlock_of 4; rotate_left; decide; first | omega | (simp only [F.DLK_P_STAT_B_CNT, F.DLK_P_STAT_OVERCOUNT] <;> omega) | (simp only [F.DLK_P_STAT_B_CNT, F.DLK_P_STAT_OVERCOUNT]; (repeat' split) <;> first | omega | decide | (dsimp only; omega)))
    | split

theorem State.pinged_moved (s : State) (p : Nat) (m : Nat) (fromB : Bool) (roundTrip : Nat) : Moved 0x1000000101 s (State.pinged s p m fromB roundTrip) := by
  unfold State.pinged
  with_reducible repeat' first
    | assumption
    | intro _
    | apply Moved.refl
    | decide
    | apply Moved.ite
    | (extract_lets +onlyGivenNames z; apply Moved.use z; swap; clear_value z; intro _; swap; subst z)
    | (extract_lets +onlyGivenNames z; clear_value z)
    | apply Moved.getD
    | apply Moved.chain (g := State.setPort_moved _ _ _)
    | apply Moved.chain (g := State.storeDelay_moved _ _ _ _ _)
    | apply Moved.chain (g := State.enumStep5_moved _ _)
    | split

theorem State.remeasured_moved (s : State) (p : Nat) (m : Nat) (fromB : Bool) (roundTrip : Nat) : Moved 0x1000000101 s (State.remeasured s p m fromB roundTrip) := by
  unfold State.remeasured
  with_reducible repeat' first
    | assumption
    | intro _
    | apply Moved.refl
    | decide
    | apply Moved.ite
    | (extract_lets +onlyGivenNames z; apply Moved.use z; swap; clear_value z; intro _; swap; subst z)
    | (extract_lets +onlyGivenNames z; clear_value z)
    | apply Moved.getD
    | apply Moved.chain (g := State.setPort_moved _ _ _)
    | apply Moved.chain (g := State.storeDelay_moved _ _ _ _ _)
    | apply Moved.chain (g := State.queueMgmt_moved _ _ _)
    | split

theorem State.recomputeLead_moved (s : State) : Moved 0x200 s (State.recomputeLead s) := by
  unfold State.recomputeLead
  simp -zeta only [State.withSwp_eq]
  with_reducible repeat' first
    | assumption
    | intro _
    | apply Moved.refl
    | decide
    | apply Moved.ite
    | (extract_lets +onlyGivenNames z; apply Moved.use z; swap; clear_value z; intro _; swap; subst z)
    | (extract_lets +onlyGivenNames z; (have t9 : Swp := z); clear t9; subst z)
    | (extract_lets +onlyGivenNames z; clear_value z)
    | apply Moved.foldl
    | apply Moved.chain (g := State.withSwp_moved _ _ ?_ )
    | split
    | (have h_swp := State.Inv.swp (by assumption); simp_all only [Swp.Sized, length_setAt]; done)
    | (have h_swp := State.Inv.swp (by assumption); simp_all [Swp.Sized, Swp.reset, length_setAt]; done)

/-! Operations of Machine/Swp.lean. -/

theorem State.setMon_moved (s : State) (p : Nat) (m : Nat) (x : Mon) : Moved 0x200 s (State.setMon s p m x) := by
  unfold State.setMon
  simp -zeta only [State.withSwp_eq]
  with_reducible repeat' first
    | assumption
    | intro _
    | apply Moved.refl
    | decide
    | apply Moved.ite
    | apply Moved.chain (g := State.withSwp_moved _ _ ?_ )
    | (have h_swp := State.Inv.swp (by assumption); simp_all only [Swp.Sized, length_setAt]; done)
    | (have h_swp := State.Inv.swp (by assumption); simp_all [Swp.Sized, Swp.reset, length_setAt]; done)

theorem State.markRead_moved (s : State) (p : Nat) (m : Nat) (epoch : Word) (tc : Tc) : Moved 0x200 s (State.markRead s p m epoch tc) := by
  unfold State.markRead
  simp -zeta only [State.withSwp_eq]
  with_reducible repeat' first
    | assumption
    | intro _
    | apply Moved.refl
    | decide
    | apply Moved.ite
    | apply Moved.getD
    | apply Moved.chain (g := State.withSwp_moved _ _ ?_ )
    | split
    | (have h_swp := State.Inv.swp (by assumption); simp_all only [Swp.Sized, length_setAt]; done)
    | (have h_swp := State.Inv.swp (by assumption); simp_all [Swp.Sized, Swp.reset, length_setAt]; done)

theorem State.acceptBlock_moved (s : State) (p : Nat) (m : Nat) (epoch : Word) (data : List Byte) (tc : Tc) : Moved 0x2000000202 s (State.acceptBlock s p m epoch data tc) := by
  unfold State.acceptBlock
  simp -zeta only [State.withSwp_eq]
  with_reducible repeat' first
    | assumption
    | intro _
    | apply Moved.refl
    | decide
    | apply Moved.ite
    | (extract_lets +onlyGivenNames z; apply Moved.use z; swap; clear_value z; intro _; swap; subst z)
    | (extract_lets +onlyGivenNames z; (have t9 : Swp := z); clear t9; subst z)
    | (extract_lets +onlyGivenNames z; clear_value z)
    | apply Moved.forUpTo
    | apply Moved.getD
    | apply Moved.chain (g := State.putAsm_moved _ _ _)
    | apply Moved.chain (g := State.setMon_moved _ _ _ _)
    | apply Moved.chain (g := State.withSwp_moved _ _ ?_ )
    | split
    | (have h_swp := State.Inv.swp (by assumption); simp_all only [Swp.Sized, length_setAt]; done)
    | (have h_swp := State.Inv.swp (by assumption); simp_all [Swp.Sized, Swp.reset, length_setAt]; done)

theorem State.wantMask_moved (s : State) (p : Nat) (m : Nat) (mask : BitVec 16) (tc : Tc) : Moved 0x200 s (State.wantMask s p m mask tc) := by
  unfold State.wantMask
  with_reducible repeat' first
    | assumption
    | intro _
    | apply Moved.refl
    | decide
    | apply Moved.ite
    | (extract_lets +onlyGivenNames z; apply Moved.use z; swap; clear_value z; intro _; swap; subst z)
    | (extract_lets +onlyGivenNames z; clear_value z)
    | apply Moved.chain (g := State.setMon_moved _ _ _ _)
    | split

theorem State.startDiag_moved (s : State) (p : Nat) (d : Diag) (tc : Tc) : Moved 0x300 s (State.startDiag s p d tc) := by
  unfold State.startDiag
  with_reducible repeat' first
    | assumption
    | intro _
    | apply Moved.refl
    | decide
    | apply Moved.ite
    | (extract_lets +onlyGivenNames z; apply Moved.use z; swap; clear_value z; intro _; swap; subst z)
    | (extract_lets +onlyGivenNames z; clear_value z)
    | apply Moved.chain (g := State.setPort_moved _ _ _)
    | apply Moved.chain (g := State.setMon_moved _ _ _ _)
    | split

theorem State.diagAtNotice_moved (s : State) (p : Nat) (tc : Tc) : Moved 0x2000000301 s (State.diagAtNotice s p tc) := by
  unfold State.diagAtNotice
  with_reducible repeat' first
    | assumption
    | intro _
    | apply Moved.refl
    | decide
    | apply Moved.ite
    | (extract_lets +onlyGivenNames z; apply Moved.use z; swap; clear_value z; intro _; swap; subst z)
    | (extract_lets +onlyGivenNames z; clear_value z)
    | apply Moved.chain (g := State.setPort_moved _ _ _)
    | apply Moved.chain (g := State.startDiag_moved _ _ _ _)
    | apply State.put_moved
    | (apply inBlock_of 5; rotate_left; decide; first | omega | (simp only [F.SWP_DIAG_POS_MON, F.SWP_DIAG_POS_STEP] <;> omega) | (simp only [F.SWP_DIAG_POS_MON, F.SWP_DIAG_POS_STEP]; (repeat' split) <;> first | omega | decide | (dsimp only; omega)))
    | split

theorem State.endDiag_moved (s : State) (p : Nat) (d : Diag) : Moved 0x2000000301 s (State.endDiag s p d) := by
  unfold State.endDiag
  with_reducible repeat' first
    | assumption
    | intro _
    | apply Moved.refl
    | decide
    | apply Moved.ite
    | (extract_lets +onlyGivenNames z; apply Moved.use z; swap; clear_value z; intro _; swap; subst z)
    | (extract_lets +onlyGivenNames z; clear_value z)
    | apply Moved.chain (g := State.setPort_moved _ _ _)
    | apply State.put_moved
    | apply Moved.chain (g := State.setMon_moved _ _ _ _)
    | (apply inBlock_of 5; rotate_left; decide; first | omega | (simp only [F.SWP_DIAG_POS_MON, F.SWP_DIAG_POS_STEP] <;> omega) | (simp only [F.SWP_DIAG_POS_MON, F.SWP_DIAG_POS_STEP]; (repeat' split) <;> first | omega | decide | (dsimp only; omega)))
    | split

theorem State.diagFirst_moved (s : State) (p : Nat) (d : Diag) : Moved 0x100 s (State.diagFirst s p d) := by
  unfold State.diagFirst
  with_reducible repeat' first
    | assumption
    | intro _
    | apply Moved.refl
    | decide
    | apply Moved.ite
    | (extract_lets +onlyGivenNames z; apply Moved.use z; swap; clear_value z; intro _; swap; subst z)
    | (extract_lets +onlyGivenNames z; clear_value z)
    | apply Moved.chain (g := State.setPort_moved _ _ _)

theorem State.diagLast_moved (s : State) (p : Nat) (d : Diag) : Moved 0x100 s (State.diagLast s p d) := by
  unfold State.diagLast
  with_reducible repeat' first
    | assumption
    | intro _
    | apply Moved.refl
    | decide
    | apply Moved.ite
    | (extract_lets +onlyGivenNames z; apply Moved.use z; swap; clear_value z; intro _; swap; subst z)
    | (extract_lets +onlyGivenNames z; clear_value z)
    | apply Moved.chain (g := State.setPort_moved _ _ _)

theorem State.splitCheck_moved (s : State) (p : Nat) (m : Nat) : Moved 0x300 s (State.splitCheck s p m) := by
  unfold State.splitCheck
  with_reducible repeat' first
    | assumption
    | intro _
    | apply Moved.refl
    | decide
    | apply Moved.ite
    | (extract_lets +onlyGivenNames z; apply Moved.use z; swap; clear_value z; intro _; swap; subst z)
    | (extract_lets +onlyGivenNames z; clear_value z)
    | apply Moved.forUpTo
    | apply Moved.getD
    | apply Moved.chain (g := State.diagLast_moved _ _ _)
    | apply Moved.chain (g := State.setMon_moved _ _ _ _)
    | apply Moved.chain (g := State.diagFirst_moved _ _ _)
    | split

theorem State.crossVerdict_moved (s : State) (inHand : Bool) (p : Nat) (d : Diag) (data : List Byte) : Moved 0x2000000301 s (State.crossVerdict s inHand p d data) := by
  unfold State.crossVerdict
  with_reducible repeat' first
    | assumption
    | intro _
    | apply Moved.refl
    | decide
    | apply Moved.ite
    | (extract_lets +onlyGivenNames z; apply Moved.use z; swap; clear_value z; intro _; swap; subst z)
    | (extract_lets +onlyGivenNames z; clear_value z)
    | apply State.eventIf_moved
    | apply Moved.chain (g := State.setMon_moved _ _ _ _)
    | apply Moved.chain (g := State.diagFirst_moved _ _ _)
    | (apply inBlock_of 5; rotate_left; decide; first | omega | (simp only [Ev.SWP_DIAG_FAIL, F.SWP_EVT_CNT0_DIAG_FAIL, F.SWP_EVT_DIAG_FAIL] <;> omega) | (simp only [Ev.SWP_DIAG_FAIL, F.SWP_EVT_CNT0_DIAG_FAIL, F.SWP_EVT_DIAG_FAIL]; (repeat' split) <;> first | omega | decide | (dsimp only; omega)))
    | split

theorem State.crossResult_moved (s : State) (p : Nat) (d : Diag) (data : List Byte) : Moved 0x2000000301 s (State.crossResult s p d data) := by
  unfold State.crossResult
  with_reducible repeat' first
    | assumption
    | intro _
    | apply Moved.refl
    | decide
    | apply Moved.ite
    | (extract_lets +onlyGivenNames z; apply Moved.use z; swap; clear_value z; intro _; swap; subst z)
    | (extract_lets +onlyGivenNames z; clear_value z)
    | apply Moved.chain (g := State.endDiag_moved _ _ _)
    | apply Moved.chain (g := State.crossVerdict_moved _ _ _ _ _)
    | split

theorem State.lineVerdict_moved (s : State) (p : Nat) (d : Diag) (data : List Byte) (k : Nat) : Moved 0x2000200201 s (State.lineVerdict s p d data k) := by
  unfold State.lineVerdict
  with_reducible repeat' first
    | assumption
    | intro _
    | apply Moved.refl
    | decide
    | apply Moved.ite
    | (extract_lets +onlyGivenNames z; apply Moved.use z; swap; clear_value z; intro _; swap; subst z)
    | (extract_lets +onlyGivenNames z; clear_value z)
    | apply State.eventIf_moved
    | apply State.putBit_moved
    | apply Moved.chain (g := State.recCountIf_moved _ _ _)
    | apply State.event_moved
    | apply Moved.chain (g := State.setMon_moved _ _ _ _)
    | (apply inBlock_of 5; rotate_left; decide; first | omega | (simp only [Ev.SWP_OW_CONF, Ev.SWP_SPLIT_UNEX, F.SWP_EVT_CNT0_OW_CONF, F.SWP_EVT_CNT1_SPLIT_UNEX, F.SWP_EVT_OW_CONF, F.SWP_EVT_SPLIT_UNEX, F.SWP_OWL_LINES] <;> omega) | (simp only [Ev.SWP_OW_CONF, Ev.SWP_SPLIT_UNEX, F.SWP_EVT_CNT0_OW_CONF, F.SWP_EVT_CNT1_SPLIT_UNEX, F.SWP_EVT_OW_CONF, F.SWP_EVT_SPLIT_UNEX, F.SWP_OWL_LINES]; (repeat' split) <;> first | omega | decide | (dsimp only; omega)))
    | split

theorem State.diagResult_moved (s : State) (p : Nat) (d : Diag) (part : Nat) (data : List Byte) : Moved 0x2000200301 s (State.diagResult s p d part data) := by
  unfold State.diagResult
  with_reducible repeat' first
    | assumption
    | intro _
    | apply Moved.refl
    | decide
    | apply Moved.ite
    | (extract_lets +onlyGivenNames z; apply Moved.use z; swap; clear_value z; intro _; swap; subst z)
    | (extract_lets +onlyGivenNames z; clear_value z)
    | apply Moved.forUpTo
    | apply Moved.foldl
    | apply Moved.chain (g := State.setPort_moved _ _ _)
    | apply Moved.chain (g := State.endDiag_moved _ _ _)
    | apply Moved.chain (g := State.crossResult_moved _ _ _ _)
    | apply Moved.chain (g := State.queueTxn_moved _ _ _)
    | apply Moved.chain (g := State.lineVerdict_moved _ _ _ _ _)
    | split

theorem State.storeBurst_moved (s : State) (p : Nat) (m : Nat) (i : Nat) (data : List Byte) : Moved 0x100 s (State.storeBurst s p m i data) := by
  unfold State.storeBurst
  with_reducible repeat' first
    | assumption
    | intro _
    | apply Moved.refl
    | decide
    | apply Moved.ite
    | (extract_lets +onlyGivenNames z; apply Moved.use z; swap; clear_value z; intro _; swap; subst z)
    | (extract_lets +onlyGivenNames z; clear_value z)
    | apply Moved.foldl
    | apply Moved.getD
    | apply Moved.chain (g := State.setPort_moved _ _ _)
    | split

theorem State.deliverEnum_moved (s : State) (p : Nat) (t : Txn) (r : TxnResult) (data : List Byte) (roundTrip : Nat) (tc : Tc) : Moved 0x1008000101 s (State.deliverEnum s p t r data roundTrip tc) := by
  unfold State.deliverEnum
  with_reducible repeat' first
    | assumption
    | intro _
    | apply Moved.refl
    | decide
    | apply Moved.ite
    | apply Moved.chain (g := State.enumTaken_moved _ _ _ _ _)
    | apply Moved.chain (g := State.enumTimedOut_moved _ _ _)
    | apply Moved.chain (g := State.enumOpened_moved _ _ _ _ _)
    | apply Moved.chain (g := State.pinged_moved _ _ _ _ _)
    | apply Moved.chain (g := State.enumStop_moved _ _)
    | apply Moved.chain (g := State.enumThrough_moved _ _ _)
    | split

theorem State.deliver_moved (s : State) (p : Nat) (t : Txn) (r : TxnResult) (data : List Byte) (roundTrip : Nat) (tc : Tc) : Moved 0x3008200303 s (State.deliver s p t r data roundTrip tc) := by
  unfold State.deliver
  with_reducible repeat' first
    | assumption
    | intro _
    | apply Moved.refl
    | decide
    | apply Moved.ite
    | apply Moved.chain (g := State.splitCheck_moved _ _ _)
    | apply Moved.chain (g := State.setPort_moved _ _ _)
    | apply Moved.chain (g := State.endDiag_moved _ _ _)
    | apply Moved.chain (g := State.markRead_moved _ _ _ _ _)
    | apply Moved.chain (g := State.storeBurst_moved _ _ _ _ _)
    | apply Moved.chain (g := State.remeasured_moved _ _ _ _ _)
    | apply Moved.chain (g := State.acceptBlock_moved _ _ _ _ _ _)
    | apply Moved.chain (g := State.diagResult_moved _ _ _ _ _)
    | apply Moved.chain (g := State.deliverEnum_moved _ _ _ _ _ _ _)
    | apply Moved.chain (g := State.setMon_moved _ _ _ _)
    | split

theorem State.endTxn_moved (s : State) (p : Nat) (t : Txn) (r : TxnResult) (data : List Byte) (roundTrip : Nat) (tc : Tc) : Moved 0x3008200303 s (State.endTxn s p t r data roundTrip tc) := by
  unfold State.endTxn
  with_reducible repeat' first
    | assumption
    | intro _
    | apply Moved.refl
    | decide
    | apply Moved.ite
    | (extract_lets +onlyGivenNames z; apply Moved.use z; swap; clear_value z; intro _; swap; subst z)
    | (extract_lets +onlyGivenNames z; clear_value z)
    | apply State.bump_moved
    | apply Moved.chain (g := State.dropTxn_moved _ _ _)
    | apply Moved.chain (g := State.deliver_moved _ _ _ _ _ _ _)
    | (apply inBlock_of 4; rotate_left; decide; first | omega | (simp only [F.DLK_P_CNT_FAIL_FAILED] <;> omega) | (simp only [F.DLK_P_CNT_FAIL_FAILED]; (repeat' split) <;> first | omega | decide | (dsimp only; omega)))
    | split

theorem State.endAll_moved (s : State) (p : Nat) (r : TxnResult) : Moved 0x3008200303 s (State.endAll s p r) := by
  unfold State.endAll
  with_reducible repeat' first
    | assumption
    | intro _
    | apply Moved.refl
    | decide
    | apply Moved.ite
    | (extract_lets +onlyGivenNames z; apply Moved.use z; swap; clear_value z; intro _; swap; subst z)
    | (extract_lets +onlyGivenNames z; clear_value z)
    | apply Moved.foldl
    | apply Moved.chain (g := State.deliver_moved _ _ _ _ _ _ _)
    | apply Moved.chain (g := State.clearTxns_moved _ _)

theorem State.apertureOn_moved (s : State) (p : Nat) (tc : Tc) (lead : Nat) (seq : Nat) (hold : Bool) (burst : Bool) : Moved 0x8000100 s (State.apertureOn s p tc lead seq hold burst) := by
  unfold State.apertureOn
  with_reducible repeat' first
    | assumption
    | intro _
    | apply Moved.refl
    | decide
    | apply Moved.ite
    | (extract_lets +onlyGivenNames z; apply Moved.use z; swap; clear_value z; intro _; swap; subst z)
    | (extract_lets +onlyGivenNames z; clear_value z)
    | apply Moved.chain (g := State.sendAperture_moved _ _ _ _ _)
    | split

theorem State.queueSweep_moved (s : State) (p : Nat) (epoch : Word) (tc : Tc) : Moved 0x100 s (State.queueSweep s p epoch tc) := by
  unfold State.queueSweep
  with_reducible repeat' first
    | assumption
    | intro _
    | apply Moved.refl
    | decide
    | apply Moved.ite
    | (extract_lets +onlyGivenNames z; apply Moved.use z; swap; clear_value z; intro _; swap; subst z)
    | (extract_lets +onlyGivenNames z; clear_value z)
    | apply Moved.chain (g := State.setPort_moved _ _ _)
    | split

theorem State.broadcastPort_moved (s : State) (p : Nat) (tc : Tc) (hold : Tc) (lead : Nat) (epoch : Word) : Moved 0x8000100 s (State.broadcastPort s p tc hold lead epoch) := by
  unfold State.broadcastPort
  with_reducible repeat' first
    | assumption
    | intro _
    | apply Moved.refl
    | decide
    | apply Moved.ite
    | (extract_lets +onlyGivenNames z; apply Moved.use z; swap; clear_value z; intro _; swap; subst z)
    | (extract_lets +onlyGivenNames z; clear_value z)
    | apply Moved.chain (g := State.setPort_moved _ _ _)
    | apply Moved.chain (g := State.apertureOn_moved _ _ _ _ _ _ _)
    | apply Moved.chain (g := State.queueSweep_moved _ _ _ _)
    | split

theorem State.balPause_moved (s : State) (tc : Tc) : Moved 0x8000300 s (State.balPause s tc) := by
  unfold State.balPause
  simp -zeta only [State.withSwp_eq]
  with_reducible repeat' first
    | assumption
    | intro _
    | apply Moved.refl
    | decide
    | apply Moved.ite
    | (extract_lets +onlyGivenNames z; apply Moved.use z; swap; clear_value z; intro _; swap; subst z)
    | (extract_lets +onlyGivenNames z; (have t9 : Swp := z); clear t9; subst z)
    | (extract_lets +onlyGivenNames z; clear_value z)
    | apply Moved.forUpTo
    | apply Moved.chain (g := State.sendAperture_moved _ _ _ _ _)
    | apply Moved.chain (g := State.withSwp_moved _ _ ?_ )
    | split
    | (have h_swp := State.Inv.swp (by assumption); simp_all only [Swp.Sized, length_setAt]; done)
    | (have h_swp := State.Inv.swp (by assumption); simp_all [Swp.Sized, Swp.reset, length_setAt]; done)

theorem State.noteMissed_moved (s : State) (w : Sweep) (p : Nat) : Moved 0x200 s (State.noteMissed s w p) := by
  unfold State.noteMissed
  with_reducible repeat' first
    | assumption
    | intro _
    | apply Moved.refl
    | decide
    | apply Moved.ite
    | apply Moved.forUpTo
    | apply Moved.getD
    | apply Moved.chain (g := State.setMon_moved _ _ _ _)

theorem State.dropReads_moved (s : State) (p : Nat) : Moved 0x100 s (State.dropReads s p) := by
  unfold State.dropReads
  with_reducible repeat' first
    | assumption
    | intro _
    | apply Moved.refl
    | decide
    | apply Moved.ite
    | (extract_lets +onlyGivenNames z; apply Moved.use z; swap; clear_value z; intro _; swap; subst z)
    | (extract_lets +onlyGivenNames z; clear_value z)
    | apply Moved.chain (g := State.setPort_moved _ _ _)
    | split

theorem State.rearmBurst_moved (s : State) (p : Nat) : Moved 0x100 s (State.rearmBurst s p) := by
  unfold State.rearmBurst
  with_reducible repeat' first
    | assumption
    | intro _
    | apply Moved.refl
    | decide
    | apply Moved.ite
    | (extract_lets +onlyGivenNames z; apply Moved.use z; swap; clear_value z; intro _; swap; subst z)
    | (extract_lets +onlyGivenNames z; clear_value z)
    | apply Moved.chain (g := State.setPort_moved _ _ _)

/-! Operations of Machine/Afe.lean. -/

theorem State.setChan_moved (s : State) (n : Nat) (c : AfeChan) : Moved 0x800 s (State.setChan s n c) := by
  unfold State.setChan
  simp -zeta only [State.withAfe_eq]
  with_reducible repeat' first
    | assumption
    | intro _
    | apply Moved.refl
    | decide
    | apply Moved.ite
    | apply Moved.chain (g := State.withAfe_moved _ _ ?_ )
    | (have h_afe := State.Inv.afe (by assumption); simp_all only [Afe.Sized, length_setAt]; done)
    | (have h_afe := State.Inv.afe (by assumption); simp_all [Afe.Sized, Afe.reset, length_setAt]; done)

theorem State.startConversion_moved (s : State) : Moved 0x4000000000801 s (State.startConversion s) := by
  unfold State.startConversion
  simp -zeta only [State.withAfe_eq]
  with_reducible repeat' first
    | assumption
    | intro _
    | apply Moved.refl
    | decide
    | apply Moved.ite
    | (extract_lets +onlyGivenNames z; apply Moved.use z; swap; clear_value z; intro _; swap; subst z)
    | (extract_lets +onlyGivenNames z; subst z)
    | apply State.put_moved
    | apply Moved.chain (g := State.withAfe_moved _ _ ?_ )
    | (apply inBlock_of 18; rotate_left; decide; first | omega | (simp only [F.AFE_STAT_B_BUSY] <;> omega) | (simp only [F.AFE_STAT_B_BUSY]; (repeat' split) <;> first | omega | decide | (dsimp only; omega)))
    | split
    | (have h_afe := State.Inv.afe (by assumption); simp_all only [Afe.Sized, length_setAt]; done)
    | (have h_afe := State.Inv.afe (by assumption); simp_all [Afe.Sized, Afe.reset, length_setAt]; done)

theorem State.triggerGroup_moved (s : State) (g : Nat) (t : Option Tc) : Moved 0x4000000000801 s (State.triggerGroup s g t) := by
  unfold State.triggerGroup
  simp -zeta only [State.withAfe_eq]
  with_reducible repeat' first
    | assumption
    | intro _
    | apply Moved.refl
    | decide
    | apply Moved.ite
    | (extract_lets +onlyGivenNames z; apply Moved.use z; swap; clear_value z; intro _; swap; subst z)
    | (extract_lets +onlyGivenNames z; (have t9 : Afe := z); clear t9; subst z)
    | (extract_lets +onlyGivenNames z; clear_value z)
    | apply Moved.getD
    | apply Moved.chain (g := State.startConversion_moved _)
    | apply State.event_moved
    | apply Moved.chain (g := State.withAfe_moved _ _ ?_ )
    | (apply inBlock_of 18; rotate_left; decide; first | omega | (simp only [Ev.AFE_MERGED, F.AFE_EVT_CNT1_MERGED, F.AFE_EVT_MERGED] <;> omega) | (simp only [Ev.AFE_MERGED, F.AFE_EVT_CNT1_MERGED, F.AFE_EVT_MERGED]; (repeat' split) <;> first | omega | decide | (dsimp only; omega)))
    | split
    | (have h_afe := State.Inv.afe (by assumption); simp_all only [Afe.Sized, length_setAt]; done)
    | (have h_afe := State.Inv.afe (by assumption); simp_all [Afe.Sized, Afe.reset, length_setAt]; done)

theorem State.burstTrigger_moved (s : State) (n : Nat) (tc : Tc) : Moved 0x100 s (State.burstTrigger s n tc) := by
  unfold State.burstTrigger
  with_reducible repeat' first
    | assumption
    | intro _
    | apply Moved.refl
    | decide
    | apply Moved.ite
    | (extract_lets +onlyGivenNames z; apply Moved.use z; swap; clear_value z; intro _; swap; subst z)
    | (extract_lets +onlyGivenNames z; clear_value z)
    | apply Moved.chain (g := State.setPort_moved _ _ _)
    | split

theorem State.crossing_moved (s : State) (r : AfeRound) (n : Nat) (tc : Tc) : Moved 0x4000000000901 s (State.crossing s r n tc) := by
  unfold State.crossing
  with_reducible repeat' first
    | assumption
    | intro _
    | apply Moved.refl
    | decide
    | apply Moved.ite
    | (extract_lets +onlyGivenNames z; apply Moved.use z; swap; clear_value z; intro _; swap; subst z)
    | (extract_lets +onlyGivenNames z; clear_value z)
    | apply Moved.chain (g := State.burstTrigger_moved _ _ _)
    | apply Moved.chain (g := State.triggerGroup_moved _ _ _)
    | apply State.event_moved
    | (apply inBlock_of 18; rotate_left; decide; first | omega | (simp only [Ev.AFE_WIN, F.AFE_EVT_CNT0_WIN, F.AFE_EVT_WIN] <;> omega) | (simp only [Ev.AFE_WIN, F.AFE_EVT_CNT0_WIN, F.AFE_EVT_WIN]; (repeat' split) <;> first | omega | decide | (dsimp only; omega)))
    | split

theorem State.compare_moved (s : State) (r : AfeRound) (n : Nat) (x : Int) (hold : Nat) (tc : Tc) : Moved 0x4000000000901 s (State.compare s r n x hold tc) := by
  unfold State.compare
  with_reducible repeat' first
    | assumption
    | intro _
    | apply Moved.refl
    | decide
    | apply Moved.ite
    | (extract_lets +onlyGivenNames z; apply Moved.use z; swap; clear_value z; intro _; swap; subst z)
    | (extract_lets +onlyGivenNames z; clear_value z)
    | apply Moved.chain (g := State.setChan_moved _ _ _)
    | apply Moved.chain (g := State.crossing_moved _ _ _ _)
    | split

theorem State.average_moved (s : State) (r : AfeRound) (n : Nat) (x : Int) (invalid : Bool) : Moved 0x4000000000801 s (State.average s r n x invalid) := by
  unfold State.average
  with_reducible repeat' first
    | assumption
    | intro _
    | apply Moved.refl
    | decide
    | apply Moved.ite
    | (extract_lets +onlyGivenNames z; apply Moved.use z; swap; clear_value z; intro _; swap; subst z)
    | (extract_lets +onlyGivenNames z; clear_value z)
    | apply State.bump_moved
    | apply Moved.chain (g := State.setChan_moved _ _ _)
    | apply State.putS_moved
    | apply State.putFlag_moved
    | (apply inBlock_of 18; rotate_left; decide; first | omega | (simp only [F.AFE_S_AVG_STAT_INV, F.AFE_S_AVG_STAT_SETTLE, F.AFE_S_AVG_STAT_WINDOWS, F.AFE_S_AVG_VALUE] <;> omega) | (simp only [F.AFE_S_AVG_STAT_INV, F.AFE_S_AVG_STAT_SETTLE, F.AFE_S_AVG_STAT_WINDOWS, F.AFE_S_AVG_VALUE]; (repeat' split) <;> first | omega | decide | (dsimp only; omega)))
    | split

theorem State.freezeBurst_moved (s : State) (n : Nat) : Moved 0x4000000000001 s (State.freezeBurst s n) := by
  unfold State.freezeBurst
  with_reducible repeat' first
    | assumption
    | intro _
    | apply Moved.refl
    | decide
    | apply Moved.ite
    | (extract_lets +onlyGivenNames z; apply Moved.use z; swap; clear_value z; intro _; swap; subst z)
    | (extract_lets +onlyGivenNames z; clear_value z)
    | apply Moved.forUpTo
    | apply Moved.foldl
    | apply Moved.getD
    | apply State.putS_moved
    | apply State.put_moved
    | (apply inBlock_of 18; rotate_left; decide; first | omega | (simp only [F.AFE_B_VALUE, F.AFE_S_BINV_HI_MASK, F.AFE_S_BINV_LO_MASK] <;> omega) | (simp only [F.AFE_B_VALUE, F.AFE_S_BINV_HI_MASK, F.AFE_S_BINV_LO_MASK]; (repeat' split) <;> first | omega | decide | (dsimp only; omega)))
    | split

theorem State.burstSample_moved (s : State) (n : Nat) (x : Int) (valid : Bool) (tc : Tc) : Moved 0x4000000000801 s (State.burstSample s n x valid tc) := by
  unfold State.burstSample
  with_reducible repeat' first
    | assumption
    | intro _
    | apply Moved.refl
    | decide
    | apply Moved.ite
    | (extract_lets +onlyGivenNames z; apply Moved.use z; swap; clear_value z; intro _; swap; subst z)
    | (extract_lets +onlyGivenNames z; clear_value z)
    | apply Moved.chain (g := State.setChan_moved _ _ _)
    | apply Moved.chain (g := State.freezeBurst_moved _ _)
    | split

theorem State.latchAperture_moved (s : State) (n : Nat) (x : Int) (subst : Bool) (ref : Bool) (gain : Bool) (ovr : Bool) : Moved 0x4000000000002 s (State.latchAperture s n x subst ref gain ovr) := by
  unfold State.latchAperture
  with_reducible repeat' first
    | assumption
    | intro _
    | apply Moved.refl
    | decide
    | apply Moved.ite
    | (extract_lets +onlyGivenNames z; apply Moved.use z; swap; clear_value z; intro _; swap; subst z)
    | (extract_lets +onlyGivenNames z; clear_value z)
    | apply Moved.chain (g := State.putAsm_moved _ _ _)
    | split

theorem State.roundSample_moved (s : State) (r : AfeRound) (tc : Tc) (n : Nat) : Moved 0x4000000000903 s (State.roundSample s r tc n) := by
  unfold State.roundSample
  with_reducible repeat' first
    | assumption
    | intro _
    | apply Moved.refl
    | decide
    | apply Moved.ite
    | (extract_lets +onlyGivenNames z; apply Moved.use z; swap; clear_value z; intro _; swap; subst z)
    | (extract_lets +onlyGivenNames z; clear_value z)
    | apply Moved.getD
    | apply Moved.chain (g := State.compare_moved _ _ _ _ _ _)
    | apply Moved.chain (g := State.burstSample_moved _ _ _ _ _)
    | apply Moved.chain (g := State.average_moved _ _ _ _ _)
    | apply State.eventIf_moved
    | apply Moved.chain (g := State.setChan_moved _ _ _)
    | apply State.putS_moved
    | apply Moved.chain (g := State.latchAperture_moved _ _ _ _ _ _ _)
    | (apply inBlock_of 18; rotate_left; decide; first | omega | (simp only [Ev.AFE_OVR, F.AFE_EVT_CNT0_OVR, F.AFE_EVT_OVR, F.AFE_S_LIVE_VALUE] <;> omega) | (simp only [Ev.AFE_OVR, F.AFE_EVT_CNT0_OVR, F.AFE_EVT_OVR, F.AFE_S_LIVE_VALUE]; (repeat' split) <;> first | omega | decide | (dsimp only; omega)))
    | split

theorem State.afeSwTrig_moved (s : State) (v : Word) (t : Option Tc) : Moved 0x4000000000801 s (State.afeSwTrig s v t) := by
  unfold State.afeSwTrig
  with_reducible repeat' first
    | assumption
    | intro _
    | apply Moved.refl
    | decide
    | apply Moved.ite
    | apply Moved.forUpTo
    | apply Moved.chain (g := State.triggerGroup_moved _ _ _)
    | split

theorem State.ntcResult_moved (s : State) (k : Nat) (v : Int) : Moved 0x4000000000001 s (State.ntcResult s k v) := by
  unfold State.ntcResult
  with_reducible repeat' first
    | assumption
    | intro _
    | apply Moved.refl
    | decide
    | apply Moved.ite
    | (extract_lets +onlyGivenNames z; apply Moved.use z; swap; clear_value z; intro _; swap; subst z)
    | (extract_lets +onlyGivenNames z; clear_value z)
    | apply State.putS_moved
    | apply State.put_moved
    | (apply inBlock_of 18; rotate_left; decide; first | omega | (simp only [F.AFE_NTC_TEMP, F.AFE_NTC_VALID] <;> omega) | (simp only [F.AFE_NTC_TEMP, F.AFE_NTC_VALID]; (repeat' split) <;> first | omega | decide | (dsimp only; omega)))
    | split

theorem State.checkRefs_moved (s : State) (bad : Bool) : Moved 0x4000000000801 s (State.checkRefs s bad) := by
  unfold State.checkRefs
  simp -zeta only [State.withAfe_eq]
  with_reducible repeat' first
    | assumption
    | intro _
    | apply Moved.refl
    | decide
    | apply Moved.ite
    | (extract_lets +onlyGivenNames z; apply Moved.use z; swap; clear_value z; intro _; swap; subst z)
    | (extract_lets +onlyGivenNames z; (have t9 : Afe := z); clear t9; subst z)
    | (extract_lets +onlyGivenNames z; clear_value z)
    | apply State.put_moved
    | apply State.event_moved
    | apply Moved.chain (g := State.withAfe_moved _ _ ?_ )
    | (apply inBlock_of 18; rotate_left; decide; first | omega | (simp only [Ev.AFE_REF_FAULT, F.AFE_EVT_CNT1_REF_FAULT, F.AFE_EVT_REF_FAULT, F.AFE_STAT_REF_FAULT] <;> omega) | (simp only [Ev.AFE_REF_FAULT, F.AFE_EVT_CNT1_REF_FAULT, F.AFE_EVT_REF_FAULT, F.AFE_STAT_REF_FAULT]; (repeat' split) <;> first | omega | decide | (dsimp only; omega)))
    | split
    | (have h_afe := State.Inv.afe (by assumption); simp_all only [Afe.Sized, length_setAt]; done)
    | (have h_afe := State.Inv.afe (by assumption); simp_all [Afe.Sized, Afe.reset, length_setAt]; done)

theorem State.putResult_moved (s : State) (r : Nat × Int × Bool × Bool) : Moved 0x4000000000001 s (State.putResult s r) := by
  unfold State.putResult
  with_reducible repeat' first
    | assumption
    | intro _
    | apply Moved.refl
    | decide
    | apply Moved.ite
    | (extract_lets +onlyGivenNames z; apply Moved.use z; swap; clear_value z; intro _; swap; subst z)
    | (extract_lets +onlyGivenNames z; clear_value z)
    | apply State.putS_moved
    | apply State.putFlag_moved
    | (apply inBlock_of 18; rotate_left; decide; first | omega | (simp only [F.AFE_CH_RES_OVR, F.AFE_CH_RES_REF, F.AFE_CH_RES_SETTLE, F.AFE_CH_RES_VALUE] <;> omega) | (simp only [F.AFE_CH_RES_OVR, F.AFE_CH_RES_REF, F.AFE_CH_RES_SETTLE, F.AFE_CH_RES_VALUE]; (repeat' split) <;> first | omega | decide | (dsimp only; omega)))
    | split

theorem State.endSeq_moved (s : State) (w : AfeWork) (q : AfeSeq) : Moved 0x4000000000801 s (State.endSeq s w q) := by
  unfold State.endSeq
  simp -zeta only [State.withAfe_eq]
  with_reducible repeat' first
    | assumption
    | intro _
    | apply Moved.refl
    | decide
    | apply Moved.ite
    | (extract_lets +onlyGivenNames z; apply Moved.use z; swap; clear_value z; intro _; swap; subst z)
    | (extract_lets +onlyGivenNames z; (have t9 : Afe := z); clear t9; subst z)
    | (extract_lets +onlyGivenNames z; clear_value z)
    | apply Moved.foldl
    | apply Moved.chain (g := State.checkRefs_moved _ _)
    | apply Moved.chain (g := State.ntcResult_moved _ _ _)
    | apply Moved.chain (g := State.putResult_moved _ _)
    | apply Moved.chain (g := State.withAfe_moved _ _ ?_ )
    | split
    | (have h_afe := State.Inv.afe (by assumption); simp_all only [Afe.Sized, length_setAt]; done)
    | (have h_afe := State.Inv.afe (by assumption); simp_all [Afe.Sized, Afe.reset, length_setAt]; done)

theorem State.settled_moved (s : State) (w : AfeWork) (g : Nat) (i : Nat) : Moved 0x800 s (State.settled s w g i) := by
  unfold State.settled
  simp -zeta only [State.withAfe_eq]
  with_reducible repeat' first
    | assumption
    | intro _
    | apply Moved.refl
    | decide
    | apply Moved.ite
    | apply Moved.getD
    | apply Moved.chain (g := State.withAfe_moved _ _ ?_ )
    | split
    | (have h_afe := State.Inv.afe (by assumption); simp_all only [Afe.Sized, length_setAt]; done)
    | (have h_afe := State.Inv.afe (by assumption); simp_all [Afe.Sized, Afe.reset, length_setAt]; done)

theorem State.seqSample_moved (s : State) (w : AfeWork) (q : AfeSeq) (r : AfeResult) : Moved 0x4000000000801 s (State.seqSample s w q r) := by
  unfold State.seqSample
  simp -zeta only [State.withAfe_eq]
  with_reducible repeat' first
    | assumption
    | intro _
    | apply Moved.refl
    | decide
    | apply Moved.ite
    | (extract_lets +onlyGivenNames z; apply Moved.use z; swap; clear_value z; intro _; swap; subst z)
    | (extract_lets +onlyGivenNames z; (have t9 : Afe := z); clear t9; subst z)
    | (extract_lets +onlyGivenNames z; clear_value z)
    | apply Moved.chain (g := State.settled_moved _ _ _ _)
    | apply Moved.chain (g := State.endSeq_moved _ _ _)
    | apply Moved.chain (g := State.withAfe_moved _ _ ?_ )
    | split
    | (have h_afe := State.Inv.afe (by assumption); simp_all only [Afe.Sized, length_setAt]; done)
    | (have h_afe := State.Inv.afe (by assumption); simp_all [Afe.Sized, Afe.reset, length_setAt]; done)

theorem State.mainsSample_moved (s : State) (r : AfeResult) : Moved 0x4000000000801 s (State.mainsSample s r) := by
  unfold State.mainsSample
  simp -zeta only [State.withAfe_eq]
  with_reducible repeat' first
    | assumption
    | intro _
    | apply Moved.refl
    | decide
    | apply Moved.ite
    | (extract_lets +onlyGivenNames z; apply Moved.use z; swap; clear_value z; intro _; swap; subst z)
    | (extract_lets +onlyGivenNames z; (have t9 : Afe := z); clear t9; subst z)
    | (extract_lets +onlyGivenNames z; clear_value z)
    | apply State.putFlag_moved
    | apply State.put_moved
    | apply Moved.chain (g := State.withAfe_moved _ _ ?_ )
    | (apply inBlock_of 18; rotate_left; decide; first | omega | (simp only [F.AFE_MAINS_AMP, F.AFE_MAINS_LOCK] <;> omega) | (simp only [F.AFE_MAINS_AMP, F.AFE_MAINS_LOCK]; (repeat' split) <;> first | omega | decide | (dsimp only; omega)))
    | (have h_afe := State.Inv.afe (by assumption); simp_all only [Afe.Sized, length_setAt]; done)
    | (have h_afe := State.Inv.afe (by assumption); simp_all [Afe.Sized, Afe.reset, length_setAt]; done)

theorem State.afeDisable_moved (s : State) : Moved 0x4000000000801 s (State.afeDisable s) := by
  unfold State.afeDisable
  simp -zeta only [State.withAfe_eq]
  with_reducible repeat' first
    | assumption
    | intro _
    | apply Moved.refl
    | decide
    | apply Moved.ite
    | (extract_lets +onlyGivenNames z; apply Moved.use z; swap; clear_value z; intro _; swap; subst z)
    | (extract_lets +onlyGivenNames z; (have t9 : Afe := z); clear t9; subst z)
    | (extract_lets +onlyGivenNames z; clear_value z)
    | apply State.put_moved
    | apply Moved.chain (g := State.withAfe_moved _ _ ?_ )
    | (apply inBlock_of 18; rotate_left; decide; first | omega | (simp only [F.AFE_ABANDON_CNT, F.AFE_STAT_RUN] <;> omega) | (simp only [F.AFE_ABANDON_CNT, F.AFE_STAT_RUN]; (repeat' split) <;> first | omega | decide | (dsimp only; omega)))
    | split
    | (have h_afe := State.Inv.afe (by assumption); simp_all only [Afe.Sized, length_setAt]; done)
    | (have h_afe := State.Inv.afe (by assumption); simp_all [Afe.Sized, Afe.reset, length_setAt]; done)

theorem State.afeEnable_moved (s : State) : Moved 0x4000000000001 s (State.afeEnable s) := by
  unfold State.afeEnable
  with_reducible repeat' first
    | assumption
    | intro _
    | apply Moved.refl
    | decide
    | apply Moved.ite
    | apply State.put_moved
    | (apply inBlock_of 18; rotate_left; decide; first | omega | (simp only [F.AFE_STAT_RUN] <;> omega) | (simp only [F.AFE_STAT_RUN]; (repeat' split) <;> first | omega | decide | (dsimp only; omega)))

theorem State.afeApplied_moved (old : State) (s : State) : Moved 0x800 s (State.afeApplied old s) := by
  unfold State.afeApplied
  simp -zeta only [State.withAfe_eq]
  with_reducible repeat' first
    | assumption
    | intro _
    | apply Moved.refl
    | decide
    | apply Moved.ite
    | (extract_lets +onlyGivenNames z; apply Moved.use z; swap; clear_value z; intro _; swap; subst z)
    | (extract_lets +onlyGivenNames z; (have t9 : Afe := z); clear t9; subst z)
    | (extract_lets +onlyGivenNames z; clear_value z)
    | apply Moved.forUpTo
    | apply Moved.chain (g := State.setChan_moved _ _ _)
    | apply Moved.chain (g := State.withAfe_moved _ _ ?_ )
    | split
    | (have h_afe := State.Inv.afe (by assumption); simp_all only [Afe.Sized, length_setAt]; done)
    | (have h_afe := State.Inv.afe (by assumption); simp_all [Afe.Sized, Afe.reset, length_setAt]; done)

theorem State.afeStart_moved (s : State) : Moved 0x800 s (State.afeStart s) := by
  unfold State.afeStart
  simp -zeta only [State.withAfe_eq]
  with_reducible repeat' first
    | assumption
    | intro _
    | apply Moved.refl
    | decide
    | apply Moved.ite
    | apply Moved.chain (g := State.withAfe_moved _ _ ?_ )
    | (have h_afe := State.Inv.afe (by assumption); simp_all only [Afe.Sized, length_setAt]; done)
    | (have h_afe := State.Inv.afe (by assumption); simp_all [Afe.Sized, Afe.reset, length_setAt]; done)

end Sys2Proof.Machine
end

