-- ==== Sys2Proof/Laws/MovedBank.lean ====
section
/-! SUPPORT. Laws/MovedBank.lean: what each operation may change. -/
namespace Sys2Proof.Machine

set_option linter.unreachableTactic false
set_option linter.unusedTactic false
set_option linter.unusedVariables false
set_option linter.unusedSimpArgs false
set_option linter.unnecessarySeqFocus false
set_option linter.style.nameCheck false

open Sys2Proof

/-! Operations of Machine/Lid.lean. -/

theorem State.staleTransfer_moved (s : State) (sink : Nat) : Moved 0x200000000001 s (State.staleTransfer s sink) := by
  unfold State.staleTransfer
  with_reducible repeat' first
    | assumption
    | intro _
    | apply Moved.refl
    | decide
    | apply Moved.ite
    | apply State.bump_moved
    | apply State.put_moved
    | apply State.event_moved
    | (apply inBlock_of 13; rotate_left; decide; first | omega | (simp only [Ev.LAN_STALE, F.LAN_EVT_CNT1_STALE, F.LAN_EVT_STALE, F.LAN_STALE_CNT_CNT, F.LAN_STALE_CNT_SINK] <;> omega) | (simp only [Ev.LAN_STALE, F.LAN_EVT_CNT1_STALE, F.LAN_EVT_STALE, F.LAN_STALE_CNT_CNT, F.LAN_STALE_CNT_SINK]; (repeat' split) <;> first | omega | decide | (dsimp only; omega)))

theorem State.noteStale_moved (s : State) (o : Origin) (sink : Nat) : Moved 0x200000000001 s (State.noteStale s o sink) := by
  unfold State.noteStale
  with_reducible repeat' first
    | assumption
    | intro _
    | apply Moved.refl
    | decide
    | apply Moved.ite
    | apply Moved.chain (g := State.staleTransfer_moved _ _)
    | split

/-! Operations of Machine/Est.lean. -/

theorem State.putCell_moved (s : State) (g : Nat) (f : CellField) (v : Nat) : Moved 0x10 s (State.putCell s g f v) := by
  unfold State.putCell
  simp -zeta only [State.withCst_eq]
  with_reducible repeat' first
    | assumption
    | intro _
    | apply Moved.refl
    | decide
    | apply Moved.ite
    | apply Moved.chain (g := State.withCst_moved _ _ ?_)
    | apply Cells.wf_set
    | apply Cells.wf_setLe
    | apply Cells.wf_filter
    | apply Cells.wf_foldl_set

theorem State.putCellS_moved (s : State) (g : Nat) (f : CellField) (v : Int) : Moved 0x10 s (State.putCellS s g f v) := by
  unfold State.putCellS
  with_reducible repeat' first
    | assumption
    | intro _
    | apply Moved.refl
    | decide
    | apply Moved.ite
    | apply Moved.chain (g := State.putCell_moved _ _ _ _)

theorem State.putStat_moved (s : State) (g : Nat) (i : Nat) (b : Bool) : Moved 0x10 s (State.putStat s g i b) := by
  unfold State.putStat
  with_reducible repeat' first
    | assumption
    | intro _
    | apply Moved.refl
    | decide
    | apply Moved.ite
    | apply Moved.chain (g := State.putCell_moved _ _ _ _)
    | split

theorem State.putSocSrc_moved (s : State) (g : Nat) (v : Nat) : Moved 0x10 s (State.putSocSrc s g v) := by
  unfold State.putSocSrc
  with_reducible repeat' first
    | assumption
    | intro _
    | apply Moved.refl
    | decide
    | apply Moved.ite
    | apply Moved.chain (g := State.putCell_moved _ _ _ _)

theorem State.putSoc_moved (s : State) (g : Nat) (acc : Nat) : Moved 0x10 s (State.putSoc s g acc) := by
  unfold State.putSoc
  with_reducible repeat' first
    | assumption
    | intro _
    | apply Moved.refl
    | decide
    | apply Moved.ite
    | apply Moved.chain (g := State.putCell_moved _ _ _ _)

theorem State.setDrift_moved (s : State) (g : Nat) : Moved 0x4000000011 s (State.setDrift s g) := by
  unfold State.setDrift
  with_reducible repeat' first
    | assumption
    | intro _
    | apply Moved.refl
    | decide
    | apply Moved.ite
    | apply Moved.chain (g := State.putStat_moved _ _ _ _)
    | apply State.event_moved
    | (apply inBlock_of 6; rotate_left; decide; first | omega | (simp only [Ev.EST_DRIFT, F.EST_EVT_CNT0_DRIFT, F.EST_EVT_DRIFT] <;> omega) | (simp only [Ev.EST_DRIFT, F.EST_EVT_CNT0_DRIFT, F.EST_EVT_DRIFT]; (repeat' split) <;> first | omega | decide | (dsimp only; omega)))
    | split

theorem State.addClamp_moved (s : State) (g : Nat) (n : Nat) : Moved 0x10 s (State.addClamp s g n) := by
  unfold State.addClamp
  with_reducible repeat' first
    | assumption
    | intro _
    | apply Moved.refl
    | decide
    | apply Moved.ite
    | apply Moved.chain (g := State.putCell_moved _ _ _ _)

theorem State.tookIf_moved (s : State) (b : Bool) : Moved 0x10000000 s (State.tookIf s b) := by
  unfold State.tookIf
  with_reducible repeat' first
    | assumption
    | intro _
    | apply Moved.refl
    | decide
    | apply Moved.ite
    | apply Moved.chain (g := State.took_moved _)
    | split

theorem State.trailStep_moved (s : State) (w : Sweep) (p : Nat) : Moved 0x400 s (State.trailStep s w p) := by
  unfold State.trailStep
  simp -zeta only [State.withEst_eq]
  with_reducible repeat' first
    | assumption
    | intro _
    | apply Moved.refl
    | decide
    | apply Moved.ite
    | (extract_lets +onlyGivenNames z; apply Moved.use z; swap; clear_value z; intro _; swap; subst z)
    | (extract_lets +onlyGivenNames z; clear_value z)
    | apply Moved.getD
    | apply Moved.chain (g := State.withEst_moved _ _ )
    | split

theorem State.evalRest_moved (s : State) (w : Sweep) : Moved 0x4000000402 s (State.evalRest s w) := by
  unfold State.evalRest
  simp -zeta only [State.withEst_eq]
  with_reducible repeat' first
    | assumption
    | intro _
    | apply Moved.refl
    | decide
    | apply Moved.ite
    | (extract_lets +onlyGivenNames z; apply Moved.use z; swap; clear_value z; intro _; swap; subst z)
    | (extract_lets +onlyGivenNames z; clear_value z)
    | apply Moved.forUpTo
    | apply Moved.chain (g := State.putAsm_moved _ _ _)
    | apply Moved.chain (g := State.trailStep_moved _ _ _)
    | apply Moved.chain (g := State.withEst_moved _ _ )
    | split

theorem State.countSoc_moved (s : State) (g : Nat) (dq : Int) : Moved 0x4000000011 s (State.countSoc s g dq) := by
  unfold State.countSoc
  with_reducible repeat' first
    | assumption
    | intro _
    | apply Moved.refl
    | decide
    | apply Moved.ite
    | (extract_lets +onlyGivenNames z; apply Moved.use z; swap; clear_value z; intro _; swap; subst z)
    | (extract_lets +onlyGivenNames z; clear_value z)
    | apply Moved.chain (g := State.setDrift_moved _ _)
    | apply Moved.chain (g := State.addClamp_moved _ _ _)
    | apply Moved.chain (g := State.putSoc_moved _ _ _)
    | split

theorem State.countPass_moved (s : State) (w : Sweep) (g : Nat) : MovedP 0x4000000411 s (State.countPass s w g) := by
  unfold State.countPass
  simp -zeta only [State.withEst_eq]
  with_reducible repeat' first
    | assumption
    | intro _
    | apply Moved.refl
    | decide
    | apply Moved.ite
    | apply MovedP.mk
    | apply MovedP.ite
    | (extract_lets +onlyGivenNames z; apply MovedP.use z; swap; clear_value z; intro _; swap; subst z)
    | (extract_lets +onlyGivenNames z; apply Moved.use z; swap; clear_value z; intro _; swap; subst z)
    | (extract_lets +onlyGivenNames z; clear_value z)
    | apply Moved.chain (g := State.putCell_moved _ _ _ _)
    | apply Moved.chain (g := State.countSoc_moved _ _ _)
    | apply Moved.chain (g := State.putCellS_moved _ _ _ _)
    | apply Moved.chain (g := State.withEst_moved _ _ )
    | split

theorem State.disqualify_moved (s : State) (g : Nat) (oc : Nat) : Moved 0x4000000011 s (State.disqualify s g oc) := by
  unfold State.disqualify
  with_reducible repeat' first
    | assumption
    | intro _
    | apply Moved.refl
    | decide
    | apply Moved.ite
    | apply Moved.chain (g := State.putCell_moved _ _ _ _)
    | apply State.event_moved
    | (apply inBlock_of 6; rotate_left; decide; first | omega | (simp only [Ev.EST_LEARN_REJ, F.EST_EVT_CNT1_LEARN_REJ, F.EST_EVT_LEARN_REJ] <;> omega) | (simp only [Ev.EST_LEARN_REJ, F.EST_EVT_CNT1_LEARN_REJ, F.EST_EVT_LEARN_REJ]; (repeat' split) <;> first | omega | decide | (dsimp only; omega)))

theorem State.segPass_moved (s : State) (g : Nat) (dt : Nat) : Moved 0x4000000411 s (State.segPass s g dt) := by
  unfold State.segPass
  simp -zeta only [State.withEst_eq]
  with_reducible repeat' first
    | assumption
    | intro _
    | apply Moved.refl
    | decide
    | apply Moved.ite
    | (extract_lets +onlyGivenNames z; apply Moved.use z; swap; clear_value z; intro _; swap; subst z)
    | (extract_lets +onlyGivenNames z; clear_value z)
    | apply Moved.chain (g := State.disqualify_moved _ _ _)
    | apply Moved.chain (g := State.putCell_moved _ _ _ _)
    | apply Moved.chain (g := State.putCellS_moved _ _ _ _)
    | apply Moved.chain (g := State.withEst_moved _ _ )
    | split

theorem State.tempPass_moved (s : State) (w : Sweep) (g : Nat) : Moved 0x10 s (State.tempPass s w g) := by
  unfold State.tempPass
  with_reducible repeat' first
    | assumption
    | intro _
    | apply Moved.refl
    | decide
    | apply Moved.ite
    | (extract_lets +onlyGivenNames z; apply Moved.use z; swap; clear_value z; intro _; swap; subst z)
    | (extract_lets +onlyGivenNames z; clear_value z)
    | apply Moved.chain (g := State.putStat_moved _ _ _ _)
    | apply Moved.chain (g := State.putCellS_moved _ _ _ _)
    | split

theorem State.ringSample_moved (s : State) (g : Nat) : Moved 0x10 s (State.ringSample s g) := by
  unfold State.ringSample
  with_reducible repeat' first
    | assumption
    | intro _
    | apply Moved.refl
    | decide
    | apply Moved.ite
    | (extract_lets +onlyGivenNames z; apply Moved.use z; swap; clear_value z; intro _; swap; subst z)
    | (extract_lets +onlyGivenNames z; clear_value z)
    | apply Moved.chain (g := State.putCell_moved _ _ _ _)

theorem State.restReading_moved (s : State) (w : Sweep) (g : Nat) : MovedP 0x10 s (State.restReading s w g) := by
  unfold State.restReading
  with_reducible repeat' first
    | assumption
    | intro _
    | apply Moved.refl
    | decide
    | apply Moved.ite
    | apply MovedP.mk
    | apply MovedP.ite
    | (extract_lets +onlyGivenNames z; apply MovedP.use z; swap; clear_value z; intro _; swap; subst z)
    | (extract_lets +onlyGivenNames z; apply Moved.use z; swap; clear_value z; intro _; swap; subst z)
    | (extract_lets +onlyGivenNames z; clear_value z)
    | apply Moved.chain (g := State.putCell_moved _ _ _ _)
    | split

theorem State.ringSamples_moved (s : State) (g : Nat) (n : Nat) : Moved 0x10 s (State.ringSamples s g n) := by
  unfold State.ringSamples
  with_reducible repeat' first
    | assumption
    | intro _
    | apply Moved.refl
    | decide
    | apply Moved.ite
    | (extract_lets +onlyGivenNames z; apply Moved.use z; swap; clear_value z; intro _; swap; subst z)
    | (extract_lets +onlyGivenNames z; clear_value z)
    | apply Moved.forUpTo
    | apply Moved.chain (g := State.putCell_moved _ _ _ _)
    | apply Moved.chain (g := State.ringSample_moved _ _)

theorem State.restPass_moved (s : State) (w : Sweep) (g : Nat) : MovedP 0x410 s (State.restPass s w g) := by
  unfold State.restPass
  simp -zeta only [State.withEst_eq]
  with_reducible repeat' first
    | assumption
    | intro _
    | apply Moved.refl
    | decide
    | apply Moved.ite
    | apply MovedP.mk
    | apply MovedP.ite
    | (extract_lets +onlyGivenNames z; apply MovedP.use z; swap; clear_value z; intro _; swap; subst z)
    | (extract_lets +onlyGivenNames z; apply MovedP.use z.1; swap; clear_value z; intro _; swap; subst z)
    | (extract_lets +onlyGivenNames z; apply Moved.use z; swap; clear_value z; intro _; swap; subst z)
    | (extract_lets +onlyGivenNames z; apply Moved.use z.1; swap; clear_value z; intro _; swap; subst z)
    | (extract_lets +onlyGivenNames z; clear_value z)
    | apply Moved.chain (g := State.putCell_moved _ _ _ _)
    | apply Moved.chain (g := State.putStat_moved _ _ _ _)
    | apply Moved.chain (g := MovedP.fst (State.restReading_moved _ _ _) (by assumption))
    | apply Moved.chain (g := MovedP.one (State.restReading_moved _ _ _))
    | apply MovedP.trans (g := State.restReading_moved _ _ _)
    | apply Moved.chain (g := State.ringSamples_moved _ _ _)
    | apply Moved.chain (g := State.withEst_moved _ _ )
    | split

theorem State.putOcv_moved (s : State) (g : Nat) (l : Lookup) : Moved 0x10 s (State.putOcv s g l) := by
  unfold State.putOcv
  with_reducible repeat' first
    | assumption
    | intro _
    | apply Moved.refl
    | decide
    | apply Moved.ite
    | apply Moved.chain (g := State.putStat_moved _ _ _ _)

theorem State.clampSoc_moved (s : State) (g : Nat) (edge : Nat) : Moved 0x4000000011 s (State.clampSoc s g edge) := by
  unfold State.clampSoc
  with_reducible repeat' first
    | assumption
    | intro _
    | apply Moved.refl
    | decide
    | apply Moved.ite
    | (extract_lets +onlyGivenNames z; apply Moved.use z; swap; clear_value z; intro _; swap; subst z)
    | (extract_lets +onlyGivenNames z; clear_value z)
    | apply Moved.chain (g := State.putCell_moved _ _ _ _)
    | apply Moved.chain (g := State.putStat_moved _ _ _ _)
    | apply Moved.chain (g := State.setDrift_moved _ _)
    | apply Moved.chain (g := State.addClamp_moved _ _ _)
    | apply Moved.chain (g := State.putSoc_moved _ _ _)

theorem State.corridor_moved (s : State) (g : Nat) (l : Lookup) (un : Int) (ud : Nat) (atOnce : Bool) : Moved 0x4000000011 s (State.corridor s g l un ud atOnce) := by
  unfold State.corridor
  with_reducible repeat' first
    | assumption
    | intro _
    | apply Moved.refl
    | decide
    | apply Moved.ite
    | (extract_lets +onlyGivenNames z; apply Moved.use z; swap; clear_value z; intro _; swap; subst z)
    | (extract_lets +onlyGivenNames z; clear_value z)
    | apply Moved.chain (g := State.clampSoc_moved _ _ _)
    | apply Moved.chain (g := State.putCell_moved _ _ _ _)
    | apply Moved.chain (g := State.putStat_moved _ _ _ _)
    | apply Moved.chain (g := State.putOcv_moved _ _ _)
    | split

theorem State.corridorPass_moved (s : State) (w : Sweep) (g : Nat) : Moved 0x4010000011 s (State.corridorPass s w g) := by
  unfold State.corridorPass
  with_reducible repeat' first
    | assumption
    | intro _
    | apply Moved.refl
    | decide
    | apply Moved.ite
    | (extract_lets +onlyGivenNames z; apply Moved.use z; swap; clear_value z; intro _; swap; subst z)
    | (extract_lets +onlyGivenNames z; clear_value z)
    | apply Moved.chain (g := State.putStat_moved _ _ _ _)
    | apply Moved.chain (g := State.corridor_moved _ _ _ _ _ _)
    | apply Moved.chain (g := State.tookIf_moved _ _)
    | split

theorem State.pendingSoc_moved (s : State) (w : Sweep) (g : Nat) : Moved 0x10 s (State.pendingSoc s w g) := by
  unfold State.pendingSoc
  with_reducible repeat' first
    | assumption
    | intro _
    | apply Moved.refl
    | decide
    | apply Moved.ite
    | (extract_lets +onlyGivenNames z; apply Moved.use z; swap; clear_value z; intro _; swap; subst z)
    | (extract_lets +onlyGivenNames z; clear_value z)
    | apply Moved.chain (g := State.putSocSrc_moved _ _ _)
    | apply Moved.chain (g := State.putOcv_moved _ _ _)
    | apply Moved.chain (g := State.putSoc_moved _ _ _)
    | split

theorem State.reanchor_moved (s : State) (g : Nat) (epoch : Word) : Moved 0x410 s (State.reanchor s g epoch) := by
  unfold State.reanchor
  simp -zeta only [State.withEst_eq]
  with_reducible repeat' first
    | assumption
    | intro _
    | apply Moved.refl
    | decide
    | apply Moved.ite
    | (extract_lets +onlyGivenNames z; apply Moved.use z; swap; clear_value z; intro _; swap; subst z)
    | (extract_lets +onlyGivenNames z; clear_value z)
    | apply Moved.chain (g := State.putCell_moved _ _ _ _)
    | apply Moved.chain (g := State.withEst_moved _ _ )
    | split

theorem State.learn_moved (s : State) (g : Nat) (epoch : Word) : Moved 0x10 s (State.learn s g epoch) := by
  unfold State.learn
  with_reducible repeat' first
    | assumption
    | intro _
    | apply Moved.refl
    | decide
    | apply Moved.ite
    | (extract_lets +onlyGivenNames z; apply Moved.use z; swap; clear_value z; intro _; swap; subst z)
    | (extract_lets +onlyGivenNames z; clear_value z)
    | apply Moved.chain (g := State.putCell_moved _ _ _ _)
    | apply Moved.chain (g := State.putStat_moved _ _ _ _)

theorem State.learnPass_moved (s : State) (g : Nat) (epoch : Word) : MovedP 0x4000200411 s (State.learnPass s g epoch) := by
  unfold State.learnPass
  with_reducible repeat' first
    | assumption
    | intro _
    | apply Moved.refl
    | decide
    | apply Moved.ite
    | apply MovedP.mk
    | apply MovedP.ite
    | (extract_lets +onlyGivenNames z; apply MovedP.use z; swap; clear_value z; intro _; swap; subst z)
    | (extract_lets +onlyGivenNames z; apply Moved.use z; swap; clear_value z; intro _; swap; subst z)
    | (extract_lets +onlyGivenNames z; clear_value z)
    | apply Moved.chain (g := State.reanchor_moved _ _ _)
    | apply Moved.chain (g := State.putCell_moved _ _ _ _)
    | apply Moved.chain (g := State.learn_moved _ _ _)
    | apply Moved.chain (g := State.recCount_moved _ _)
    | apply State.event_moved
    | (apply inBlock_of 6; rotate_left; decide; first | omega | (simp only [Ev.EST_LEARNED, Ev.EST_LEARN_REJ, F.EST_EVT_CNT0_LEARNED, F.EST_EVT_CNT1_LEARN_REJ, F.EST_EVT_LEARNED, F.EST_EVT_LEARN_REJ] <;> omega) | (simp only [Ev.EST_LEARNED, Ev.EST_LEARN_REJ, F.EST_EVT_CNT0_LEARNED, F.EST_EVT_CNT1_LEARN_REJ, F.EST_EVT_LEARNED, F.EST_EVT_LEARN_REJ]; (repeat' split) <;> first | omega | decide | (dsimp only; omega)))
    | split

theorem State.restPointPass_moved (s : State) (w : Sweep) (g : Nat) (disq : Bool) : MovedP 0x4000200411 s (State.restPointPass s w g disq) := by
  unfold State.restPointPass
  with_reducible repeat' first
    | assumption
    | intro _
    | apply Moved.refl
    | decide
    | apply Moved.ite
    | apply MovedP.mk
    | apply MovedP.ite
    | (extract_lets +onlyGivenNames z; apply MovedP.use z; swap; clear_value z; intro _; swap; subst z)
    | (extract_lets +onlyGivenNames z; apply MovedP.use z.1; swap; clear_value z; intro _; swap; subst z)
    | (extract_lets +onlyGivenNames z; apply Moved.use z; swap; clear_value z; intro _; swap; subst z)
    | (extract_lets +onlyGivenNames z; apply Moved.use z.1; swap; clear_value z; intro _; swap; subst z)
    | (extract_lets +onlyGivenNames z; clear_value z)
    | apply Moved.chain (g := MovedP.fst (State.learnPass_moved _ _ _) (by assumption))
    | apply Moved.chain (g := MovedP.one (State.learnPass_moved _ _ _))
    | apply MovedP.trans (g := State.learnPass_moved _ _ _)
    | apply Moved.chain (g := State.putCell_moved _ _ _ _)
    | apply Moved.chain (g := State.putStat_moved _ _ _ _)
    | apply Moved.chain (g := State.corridor_moved _ _ _ _ _ _)
    | split

theorem State.completePoint_moved (s : State) (g : Nat) (i : Nat) (dv : Int) (di : Int) (dvDen : Nat) (epoch : Word) : Moved 0x10000010 s (State.completePoint s g i dv di dvDen epoch) := by
  unfold State.completePoint
  with_reducible repeat' first
    | assumption
    | intro _
    | apply Moved.refl
    | decide
    | apply Moved.ite
    | (extract_lets +onlyGivenNames z; apply Moved.use z; swap; clear_value z; intro _; swap; subst z)
    | (extract_lets +onlyGivenNames z; clear_value z)
    | apply Moved.chain (g := State.putCell_moved _ _ _ _)
    | apply Moved.chain (g := State.putCellS_moved _ _ _ _)
    | apply Moved.chain (g := State.tookIf_moved _ _)
    | split

theorem State.dropPoint_moved (s : State) (g : Nat) (i : Nat) (rej : Nat) : Moved 0x10 s (State.dropPoint s g i rej) := by
  unfold State.dropPoint
  with_reducible repeat' first
    | assumption
    | intro _
    | apply Moved.refl
    | decide
    | apply Moved.ite
    | apply Moved.chain (g := State.putCell_moved _ _ _ _)

theorem State.laterPoint_moved (s : State) (w : Sweep) (g : Nat) (i : Nat) (target : Nat) (window : Nat) : MovedP 0x10000010 s (State.laterPoint s w g i target window) := by
  unfold State.laterPoint
  with_reducible repeat' first
    | assumption
    | intro _
    | apply Moved.refl
    | decide
    | apply Moved.ite
    | apply MovedP.mk
    | apply MovedP.ite
    | (extract_lets +onlyGivenNames z; apply MovedP.use z; swap; clear_value z; intro _; swap; subst z)
    | (extract_lets +onlyGivenNames z; apply Moved.use z; swap; clear_value z; intro _; swap; subst z)
    | (extract_lets +onlyGivenNames z; clear_value z)
    | apply Moved.getD
    | apply Moved.chain (g := State.dropPoint_moved _ _ _ _)
    | apply Moved.chain (g := State.completePoint_moved _ _ _ _ _ _ _)
    | split

theorem State.healthPass_moved (s : State) (g : Nat) : Moved 0x10000010 s (State.healthPass s g) := by
  unfold State.healthPass
  with_reducible repeat' first
    | assumption
    | intro _
    | apply Moved.refl
    | decide
    | apply Moved.ite
    | (extract_lets +onlyGivenNames z; apply Moved.use z; swap; clear_value z; intro _; swap; subst z)
    | (extract_lets +onlyGivenNames z; clear_value z)
    | apply Moved.chain (g := State.putCell_moved _ _ _ _)
    | apply Moved.chain (g := State.took_moved _)
    | split

theorem State.startWb_moved (s : State) (cause : Nat) (tc : Tc) : Moved 0x4000000401 s (State.startWb s cause tc) := by
  unfold State.startWb
  simp -zeta only [State.withEst_eq]
  with_reducible repeat' first
    | assumption
    | intro _
    | apply Moved.refl
    | decide
    | apply Moved.ite
    | (extract_lets +onlyGivenNames z; apply Moved.use z; swap; clear_value z; intro _; swap; subst z)
    | (extract_lets +onlyGivenNames z; clear_value z)
    | apply State.putFlag_moved
    | apply State.put_moved
    | apply Moved.chain (g := State.withEst_moved _ _ )
    | (apply inBlock_of 6; rotate_left; decide; first | omega | (simp only [F.EST_STAT_WB_BUSY, F.EST_WB_STAT_A_VALID, F.EST_WB_STAT_B_VALID, F.EST_WB_STAT_CAUSE] <;> omega) | (simp only [F.EST_STAT_WB_BUSY, F.EST_WB_STAT_A_VALID, F.EST_WB_STAT_B_VALID, F.EST_WB_STAT_CAUSE]; (repeat' split) <;> first | omega | decide | (dsimp only; omega)))
    | split

theorem State.triggerWb_moved (s : State) (cause : Nat) (tc : Tc) : Moved 0x4000000401 s (State.triggerWb s cause tc) := by
  unfold State.triggerWb
  simp -zeta only [State.withEst_eq]
  with_reducible repeat' first
    | assumption
    | intro _
    | apply Moved.refl
    | decide
    | apply Moved.ite
    | (extract_lets +onlyGivenNames z; apply Moved.use z; swap; clear_value z; intro _; swap; subst z)
    | (extract_lets +onlyGivenNames z; clear_value z)
    | apply Moved.chain (g := State.startWb_moved _ _ _)
    | apply Moved.chain (g := State.withEst_moved _ _ )
    | split

theorem State.finishWb_moved (s : State) (w : WriteBack) (good : Bool) : Moved 0x4000000401 s (State.finishWb s w good) := by
  unfold State.finishWb
  simp -zeta only [State.withEst_eq]
  with_reducible repeat' first
    | assumption
    | intro _
    | apply Moved.refl
    | decide
    | apply Moved.ite
    | (extract_lets +onlyGivenNames z; apply Moved.use z; swap; clear_value z; intro _; swap; subst z)
    | (extract_lets +onlyGivenNames z; clear_value z)
    | apply State.eventIf_moved
    | apply State.putFlag_moved
    | apply State.put_moved
    | apply Moved.chain (g := State.withEst_moved _ _ )
    | (apply inBlock_of 6; rotate_left; decide; first | omega | (simp only [Ev.EST_WB_FAIL, F.EST_EVT_CNT1_WB_FAIL, F.EST_EVT_WB_FAIL, F.EST_STAT_WB_BUSY, F.EST_WB_SEQ_SEQ, F.EST_WB_STAT_A_VALID, F.EST_WB_STAT_B_VALID, F.EST_WB_STAT_LAST, F.EST_WB_STAT_LAST_OK] <;> omega) | (simp only [Ev.EST_WB_FAIL, F.EST_EVT_CNT1_WB_FAIL, F.EST_EVT_WB_FAIL, F.EST_STAT_WB_BUSY, F.EST_WB_SEQ_SEQ, F.EST_WB_STAT_A_VALID, F.EST_WB_STAT_B_VALID, F.EST_WB_STAT_LAST, F.EST_WB_STAT_LAST_OK]; (repeat' split) <;> first | omega | decide | (dsimp only; omega)))
    | split

theorem State.putEstCell_moved (s : State) (g : Nat) (stale : Bool) (znew : Bool) (learned : Bool) : Moved 0x4000000002 s (State.putEstCell s g stale znew learned) := by
  unfold State.putEstCell
  with_reducible repeat' first
    | assumption
    | intro _
    | apply Moved.refl
    | decide
    | apply Moved.ite
    | (extract_lets +onlyGivenNames z; apply Moved.use z; swap; clear_value z; intro _; swap; subst z)
    | (extract_lets +onlyGivenNames z; clear_value z)
    | apply Moved.chain (g := State.putAsm_moved _ _ _)
    | split

theorem State.onePass_moved (s : State) (w : Sweep) (g : Nat) (tc : Tc) : Moved 0x4010200413 s (State.onePass s w g tc) := by
  unfold State.onePass
  with_reducible repeat' first
    | assumption
    | intro _
    | apply Moved.refl
    | decide
    | apply Moved.ite
    | (extract_lets +onlyGivenNames z; apply Moved.use z; swap; clear_value z; intro _; swap; subst z)
    | (extract_lets +onlyGivenNames z; apply Moved.use z.1; swap; clear_value z; intro _; swap; subst z)
    | (extract_lets +onlyGivenNames z; clear_value z)
    | apply Moved.chain (g := MovedP.fst (State.restPass_moved _ _ _) (by assumption))
    | apply Moved.chain (g := MovedP.one (State.restPass_moved _ _ _))
    | apply Moved.chain (g := State.putEstCell_moved _ _ _ _ _)
    | apply Moved.chain (g := State.corridorPass_moved _ _ _)
    | apply Moved.chain (g := State.healthPass_moved _ _)
    | apply Moved.chain (g := State.putCell_moved _ _ _ _)
    | apply Moved.chain (g := State.putStat_moved _ _ _ _)
    | apply Moved.chain (g := State.segPass_moved _ _ _)
    | apply Moved.chain (g := MovedP.fst (State.laterPoint_moved _ _ _ _ _ _) (by assumption))
    | apply Moved.chain (g := MovedP.one (State.laterPoint_moved _ _ _ _ _ _))
    | apply Moved.chain (g := MovedP.fst (State.restPointPass_moved _ _ _ _) (by assumption))
    | apply Moved.chain (g := MovedP.one (State.restPointPass_moved _ _ _ _))
    | apply Moved.chain (g := State.pendingSoc_moved _ _ _)
    | apply Moved.chain (g := State.evalRest_moved _ _)
    | apply Moved.chain (g := State.tempPass_moved _ _ _)
    | apply Moved.chain (g := State.triggerWb_moved _ _ _)
    | apply Moved.chain (g := MovedP.fst (State.countPass_moved _ _ _) (by assumption))
    | apply Moved.chain (g := MovedP.one (State.countPass_moved _ _ _))
    | split

theorem State.estDisable_moved (s : State) : Moved 0x4000000401 s (State.estDisable s) := by
  unfold State.estDisable
  simp -zeta only [State.withEst_eq]
  with_reducible repeat' first
    | assumption
    | intro _
    | apply Moved.refl
    | decide
    | apply Moved.ite
    | (extract_lets +onlyGivenNames z; apply Moved.use z; swap; clear_value z; intro _; swap; subst z)
    | (extract_lets +onlyGivenNames z; clear_value z)
    | apply State.put_moved
    | apply Moved.chain (g := State.withEst_moved _ _ )
    | (apply inBlock_of 6; rotate_left; decide; first | omega | (simp only [F.EST_ABANDON_CNT, F.EST_STAT_RUN] <;> omega) | (simp only [F.EST_ABANDON_CNT, F.EST_STAT_RUN]; (repeat' split) <;> first | omega | decide | (dsimp only; omega)))
    | split

theorem State.estEnable_moved (s : State) : Moved 0x4000000001 s (State.estEnable s) := by
  unfold State.estEnable
  with_reducible repeat' first
    | assumption
    | intro _
    | apply Moved.refl
    | decide
    | apply Moved.ite
    | apply State.put_moved
    | (apply inBlock_of 6; rotate_left; decide; first | omega | (simp only [F.EST_STAT_RUN] <;> omega) | (simp only [F.EST_STAT_RUN]; (repeat' split) <;> first | omega | decide | (dsimp only; omega)))

theorem State.recordAll_moved (s : State) (p : Nat) (b : Burst) (rej : Nat) : Moved 0x10 s (State.recordAll s p b rej) := by
  unfold State.recordAll
  with_reducible repeat' first
    | assumption
    | intro _
    | apply Moved.refl
    | decide
    | apply Moved.ite
    | apply Moved.foldl
    | apply Moved.chain (g := State.putCell_moved _ _ _ _)

theorem State.cellStep_moved (s : State) (b : Burst) (t : StepFound) (ts : Tc) (iPre : Int) (iPost : Int) (g : Nat) : Moved 0x10000010 s (State.cellStep s b t ts iPre iPost g) := by
  unfold State.cellStep
  with_reducible repeat' first
    | assumption
    | intro _
    | apply Moved.refl
    | decide
    | apply Moved.ite
    | (extract_lets +onlyGivenNames z; apply Moved.use z; swap; clear_value z; intro _; swap; subst z)
    | (extract_lets +onlyGivenNames z; clear_value z)
    | apply Moved.chain (g := State.putCell_moved _ _ _ _)
    | apply Moved.chain (g := State.putCellS_moved _ _ _ _)
    | apply Moved.chain (g := State.completePoint_moved _ _ _ _ _ _ _)
    | split

theorem State.dropPending_moved (s : State) (p : Nat) : Moved 0x10 s (State.dropPending s p) := by
  unfold State.dropPending
  with_reducible repeat' first
    | assumption
    | intro _
    | apply Moved.refl
    | decide
    | apply Moved.ite
    | apply Moved.foldl
    | apply Moved.chain (g := State.dropPoint_moved _ _ _ _)
    | split

theorem State.takeStep_moved (s : State) (b : Burst) (t : StepFound) : Moved 0x10000410 s (State.takeStep s b t) := by
  unfold State.takeStep
  simp -zeta only [State.withEst_eq]
  with_reducible repeat' first
    | assumption
    | intro _
    | apply Moved.refl
    | decide
    | apply Moved.ite
    | (extract_lets +onlyGivenNames z; apply Moved.use z; swap; clear_value z; intro _; swap; subst z)
    | (extract_lets +onlyGivenNames z; clear_value z)
    | apply Moved.foldl
    | apply Moved.getD
    | apply Moved.chain (g := State.dropPending_moved _ _)
    | apply Moved.chain (g := State.cellStep_moved _ _ _ _ _ _ _)
    | apply Moved.chain (g := State.withEst_moved _ _ )

theorem State.evalBurst_moved (s : State) (b : Burst) : Moved 0x4010000411 s (State.evalBurst s b) := by
  unfold State.evalBurst
  with_reducible repeat' first
    | assumption
    | intro _
    | apply Moved.refl
    | decide
    | apply Moved.ite
    | (extract_lets +onlyGivenNames z; apply Moved.use z; swap; clear_value z; intro _; swap; subst z)
    | (extract_lets +onlyGivenNames z; clear_value z)
    | apply State.bump_moved
    | apply Moved.chain (g := State.recordAll_moved _ _ _ _)
    | apply State.put_moved
    | apply Moved.chain (g := State.takeStep_moved _ _ _)
    | (apply inBlock_of 6; rotate_left; decide; first | omega | (simp only [F.EST_STEP_CNT, F.EST_STEP_LAST] <;> omega) | (simp only [F.EST_STEP_CNT, F.EST_STEP_LAST]; (repeat' split) <;> first | omega | decide | (dsimp only; omega)))
    | split

theorem State.handOver_moved (s : State) (p : Nat) : Moved 0x2000000501 s (State.handOver s p) := by
  unfold State.handOver
  simp -zeta only [State.withEst_eq]
  with_reducible repeat' first
    | assumption
    | intro _
    | apply Moved.refl
    | decide
    | apply Moved.ite
    | (extract_lets +onlyGivenNames z; apply Moved.use z; swap; clear_value z; intro _; swap; subst z)
    | (extract_lets +onlyGivenNames z; clear_value z)
    | apply Moved.chain (g := State.rearmBurst_moved _ _)
    | apply State.event_moved
    | apply Moved.chain (g := State.withEst_moved _ _ )
    | (apply inBlock_of 5; rotate_left; decide; first | omega | (simp only [Ev.SWP_BURST_DONE, F.SWP_EVT_BURST_DONE, F.SWP_EVT_CNT1_BURST_DONE] <;> omega) | (simp only [Ev.SWP_BURST_DONE, F.SWP_EVT_BURST_DONE, F.SWP_EVT_CNT1_BURST_DONE]; (repeat' split) <;> first | omega | decide | (dsimp only; omega)))
    | split

theorem State.clearEntry_moved (s : State) (g : Nat) : Moved 0x410 s (State.clearEntry s g) := by
  unfold State.clearEntry
  simp -zeta only [State.withCstEst_eq]
  with_reducible repeat' first
    | assumption
    | intro _
    | apply Moved.refl
    | decide
    | apply Moved.ite
    | apply Moved.chain (g := State.withCstEst_moved _ _ _ ?_)
    | apply Cells.wf_set
    | apply Cells.wf_setLe
    | apply Cells.wf_filter
    | apply Cells.wf_foldl_set

theorem State.restoreCell_moved (s : State) (g : Nat) (lost : Bool) : Moved 0x410 s (State.restoreCell s g lost) := by
  unfold State.restoreCell
  simp -zeta only [State.withEst_eq]
  with_reducible repeat' first
    | assumption
    | intro _
    | apply Moved.refl
    | decide
    | apply Moved.ite
    | (extract_lets +onlyGivenNames z; apply Moved.use z; swap; clear_value z; intro _; swap; subst z)
    | (extract_lets +onlyGivenNames z; clear_value z)
    | apply Moved.chain (g := State.putCell_moved _ _ _ _)
    | apply Moved.chain (g := State.putStat_moved _ _ _ _)
    | apply Moved.chain (g := State.putSocSrc_moved _ _ _)
    | apply Moved.chain (g := State.clearEntry_moved _ _)
    | apply Moved.chain (g := State.putSoc_moved _ _ _)
    | apply Moved.chain (g := State.withEst_moved _ _ )
    | split

theorem State.relearn_moved (s : State) (g : Nat) : Moved 0x10 s (State.relearn s g) := by
  unfold State.relearn
  simp -zeta only [State.withCst_eq]
  with_reducible repeat' first
    | assumption
    | intro _
    | apply Moved.refl
    | decide
    | apply Moved.ite
    | (extract_lets +onlyGivenNames z; apply Moved.use z; swap; clear_value z; intro _; swap; subst z)
    | (extract_lets +onlyGivenNames z; clear_value z)
    | apply Moved.chain (g := State.putCell_moved _ _ _ _)
    | apply Moved.chain (g := State.putStat_moved _ _ _ _)
    | apply Moved.chain (g := State.withCst_moved _ _ ?_)
    | apply Cells.wf_set
    | apply Cells.wf_setLe
    | apply Cells.wf_filter
    | apply Cells.wf_foldl_set
    | split

theorem State.relearnScope_moved (s : State) (scope : Nat) (g : Nat) : Moved 0x10 s (State.relearnScope s scope g) := by
  unfold State.relearnScope
  with_reducible repeat' first
    | assumption
    | intro _
    | apply Moved.refl
    | decide
    | apply Moved.ite
    | apply Moved.foldl
    | apply Moved.chain (g := State.relearn_moved _ _)
    | split

theorem State.estStart_moved (s : State) : Moved 0x4000000411 s (State.estStart s) := by
  unfold State.estStart
  simp -zeta only [State.withCstEst_eq]
  with_reducible repeat' first
    | assumption
    | intro _
    | apply Moved.refl
    | decide
    | apply Moved.ite
    | (extract_lets +onlyGivenNames z; apply Moved.use z; swap; clear_value z; intro _; swap; subst z)
    | (extract_lets +onlyGivenNames z; clear_value z)
    | apply Moved.forUpTo
    | apply State.eventIf_moved
    | apply Moved.chain (g := State.putStat_moved _ _ _ _)
    | apply State.putFlag_moved
    | apply State.put_moved
    | apply Moved.chain (g := State.withCstEst_moved _ _ _ ?_)
    | apply Cells.wf_set
    | apply Cells.wf_setLe
    | apply Cells.wf_filter
    | apply Cells.wf_foldl_set
    | (apply inBlock_of 6; rotate_left; decide; first | omega | (simp only [Ev.EST_CAP_LOST, F.EST_EVT_CAP_LOST, F.EST_EVT_CNT2_CAP_LOST, F.EST_STAT_CAP_LOST, F.EST_WB_SEQ_SEQ, F.EST_WB_STAT_A_VALID, F.EST_WB_STAT_B_VALID] <;> omega) | (simp only [Ev.EST_CAP_LOST, F.EST_EVT_CAP_LOST, F.EST_EVT_CNT2_CAP_LOST, F.EST_STAT_CAP_LOST, F.EST_WB_SEQ_SEQ, F.EST_WB_STAT_A_VALID, F.EST_WB_STAT_B_VALID]; (repeat' split) <;> first | omega | decide | (dsimp only; omega)))
    | split

theorem State.estWake_moved (s : State) : Moved 0x4000000411 s (State.estWake s) := by
  unfold State.estWake
  simp -zeta only [State.withEst_eq]
  with_reducible repeat' first
    | assumption
    | intro _
    | apply Moved.refl
    | decide
    | apply Moved.ite
    | (extract_lets +onlyGivenNames z; apply Moved.use z; swap; clear_value z; intro _; swap; subst z)
    | (extract_lets +onlyGivenNames z; clear_value z)
    | apply Moved.forUpTo
    | apply Moved.foldl
    | apply Moved.chain (g := State.disqualify_moved _ _ _)
    | apply Moved.chain (g := State.putCell_moved _ _ _ _)
    | apply Moved.chain (g := State.putStat_moved _ _ _ _)
    | apply Moved.chain (g := State.putSocSrc_moved _ _ _)
    | apply Moved.chain (g := State.withEst_moved _ _ )
    | split

/-! Operations of Machine/Trim.lean. -/

theorem State.setTrim_moved (s : State) (n : Nat) (x : Trim) : Moved 0x2000 s (State.setTrim s n x) := by
  unfold State.setTrim
  simp -zeta only [State.withCte_eq]
  with_reducible repeat' first
    | assumption
    | intro _
    | apply Moved.refl
    | decide
    | apply Moved.ite
    | apply Moved.chain (g := State.withCte_moved _ _ ?_ )
    | (have h_cte := State.Inv.cte (by assumption); simp_all only [Cte.Sized, length_setAt]; done)
    | (have h_cte := State.Inv.cte (by assumption); simp_all [Cte.Sized, Cte.reset, length_setAt]; done)

theorem State.toBypass_moved (s : State) (n : Nat) : Moved 0x20000002001 s (State.toBypass s n) := by
  unfold State.toBypass
  with_reducible repeat' first
    | assumption
    | intro _
    | apply Moved.refl
    | decide
    | apply Moved.ite
    | (extract_lets +onlyGivenNames z; apply Moved.use z; swap; clear_value z; intro _; swap; subst z)
    | (extract_lets +onlyGivenNames z; clear_value z)
    | apply Moved.chain (g := State.setTrim_moved _ _ _)
    | apply State.put_moved
    | (apply inBlock_of 9; rotate_left; decide; first | omega | (simp only [F.CTE_TRIM_M_M, F.CTE_TRIM_STAT_STATE] <;> omega) | (simp only [F.CTE_TRIM_M_M, F.CTE_TRIM_STAT_STATE]; (repeat' split) <;> first | omega | decide | (dsimp only; omega)))

theorem State.zeroNow_moved (s : State) (n : Nat) : Moved 0x2000 s (State.zeroNow s n) := by
  unfold State.zeroNow
  with_reducible repeat' first
    | assumption
    | intro _
    | apply Moved.refl
    | decide
    | apply Moved.ite
    | apply Moved.chain (g := State.setTrim_moved _ _ _)

theorem State.tripBypass_moved (s : State) (n : Nat) : Moved 0x20000002001 s (State.tripBypass s n) := by
  unfold State.tripBypass
  with_reducible repeat' first
    | assumption
    | intro _
    | apply Moved.refl
    | decide
    | apply Moved.ite
    | apply Moved.chain (g := State.zeroNow_moved _ _)
    | apply Moved.chain (g := State.toBypass_moved _ _)
    | apply State.event_moved
    | (apply inBlock_of 9; rotate_left; decide; first | omega | (simp only [Ev.CTE_TRIM_BYP, F.CTE_EVT_CNT2_TRIM_BYP, F.CTE_EVT_TRIM_BYP] <;> omega) | (simp only [Ev.CTE_TRIM_BYP, F.CTE_EVT_CNT2_TRIM_BYP, F.CTE_EVT_TRIM_BYP]; (repeat' split) <;> first | omega | decide | (dsimp only; omega)))

theorem State.trimTrip_moved (s : State) (n : Nat) : Moved 0x20000002001 s (State.trimTrip s n) := by
  unfold State.trimTrip
  with_reducible repeat' first
    | assumption
    | intro _
    | apply Moved.refl
    | decide
    | apply Moved.ite
    | (extract_lets +onlyGivenNames z; apply Moved.use z; swap; clear_value z; intro _; swap; subst z)
    | (extract_lets +onlyGivenNames z; clear_value z)
    | apply Moved.chain (g := State.tripBypass_moved _ _)
    | apply Moved.chain (g := State.zeroNow_moved _ _)
    | apply State.putFlag_moved
    | (apply inBlock_of 9; rotate_left; decide; first | omega | (simp only [F.CTE_TRIM_STAT_TRIP_IN] <;> omega) | (simp only [F.CTE_TRIM_STAT_TRIP_IN]; (repeat' split) <;> first | omega | decide | (dsimp only; omega)))
    | split

theorem State.trimTrips_moved (s : State) : Moved 0x20000002001 s (State.trimTrips s) := by
  unfold State.trimTrips
  with_reducible repeat' first
    | assumption
    | intro _
    | apply Moved.refl
    | decide
    | apply Moved.ite
    | apply Moved.forUpTo
    | apply Moved.chain (g := State.trimTrip_moved _ _)
    | split

/-! Operations of Machine/Prt.lean. -/

theorem State.setIsl_moved (s : State) (n : Nat) (x : IslandString) : Moved 0x1000 s (State.setIsl s n x) := by
  unfold State.setIsl
  simp -zeta only [State.withPrt_eq]
  with_reducible repeat' first
    | assumption
    | intro _
    | apply Moved.refl
    | decide
    | apply Moved.ite
    | apply Moved.chain (g := State.withPrt_moved _ _ ?_ )
    | (have h_prt := State.Inv.prt (by assumption); simp_all only [Prt.Sized, length_setAt]; done)
    | (have h_prt := State.Inv.prt (by assumption); simp_all [Prt.Sized, Prt.reset, length_setAt]; done)

theorem State.noteBits_moved (s : State) (n : Nat) (tc : Tc) : Moved 0x1000 s (State.noteBits s n tc) := by
  unfold State.noteBits
  with_reducible repeat' first
    | assumption
    | intro _
    | apply Moved.refl
    | decide
    | apply Moved.ite
    | (extract_lets +onlyGivenNames z; apply Moved.use z; swap; clear_value z; intro _; swap; subst z)
    | (extract_lets +onlyGivenNames z; clear_value z)
    | apply Moved.chain (g := State.setIsl_moved _ _ _)
    | split

theorem State.enableBrk_moved (s : State) (n : Nat) (b : Bool) : Moved 0x1000 s (State.enableBrk s n b) := by
  unfold State.enableBrk
  simp -zeta only [State.withPrt_eq]
  with_reducible repeat' first
    | assumption
    | intro _
    | apply Moved.refl
    | decide
    | apply Moved.ite
    | apply Moved.chain (g := State.withPrt_moved _ _ ?_ )
    | (have h_prt := State.Inv.prt (by assumption); simp_all only [Prt.Sized, length_setAt]; done)
    | (have h_prt := State.Inv.prt (by assumption); simp_all [Prt.Sized, Prt.reset, length_setAt]; done)

theorem State.enableCoil_moved (s : State) (k : Nat) (b : Bool) : Moved 0x1000 s (State.enableCoil s k b) := by
  unfold State.enableCoil
  simp -zeta only [State.withPrt_eq]
  with_reducible repeat' first
    | assumption
    | intro _
    | apply Moved.refl
    | decide
    | apply Moved.ite
    | apply Moved.chain (g := State.withPrt_moved _ _ ?_ )
    | (have h_prt := State.Inv.prt (by assumption); simp_all only [Prt.Sized, length_setAt]; done)
    | (have h_prt := State.Inv.prt (by assumption); simp_all [Prt.Sized, Prt.reset, length_setAt]; done)

theorem State.showPair_moved (s : State) (n : Nat) (d : Nat) (tc : Tc) : Moved 0x10000001001 s (State.showPair s n d tc) := by
  unfold State.showPair
  with_reducible repeat' first
    | assumption
    | intro _
    | apply Moved.refl
    | decide
    | apply Moved.ite
    | apply Moved.chain (g := State.noteBits_moved _ _ _)
    | apply State.put_moved
    | apply Moved.chain (g := State.setIsl_moved _ _ _)
    | (apply inBlock_of 8; rotate_left; decide; first | omega | (simp only [F.BRK_S_STAT_PAIR] <;> omega) | (simp only [F.BRK_S_STAT_PAIR]; (repeat' split) <;> first | omega | decide | (dsimp only; omega)))
    | split

theorem State.setPair_moved (s : State) (n : Nat) (d : Nat) (tc : Tc) : Moved 0x10000001001 s (State.setPair s n d tc) := by
  unfold State.setPair
  with_reducible repeat' first
    | assumption
    | intro _
    | apply Moved.refl
    | decide
    | apply Moved.ite
    | apply Moved.chain (g := State.showPair_moved _ _ _ _)
    | apply Moved.chain (g := State.enableBrk_moved _ _ _)
    | split

theorem State.cutPair_moved (s : State) (n : Nat) (path : DirectPath) (tc : Tc) : Moved 0x10000001001 s (State.cutPair s n path tc) := by
  unfold State.cutPair
  simp -zeta only [State.withPrt_eq]
  with_reducible repeat' first
    | assumption
    | intro _
    | apply Moved.refl
    | decide
    | apply Moved.ite
    | (extract_lets +onlyGivenNames z; apply Moved.use z; swap; clear_value z; intro _; swap; subst z)
    | (extract_lets +onlyGivenNames z; (have t9 : Prt := z); clear t9; subst z)
    | (extract_lets +onlyGivenNames z; clear_value z)
    | apply Moved.chain (g := State.showPair_moved _ _ _ _)
    | apply Moved.chain (g := State.withPrt_moved _ _ ?_ )
    | split
    | (have h_prt := State.Inv.prt (by assumption); simp_all only [Prt.Sized, length_setAt]; done)
    | (have h_prt := State.Inv.prt (by assumption); simp_all [Prt.Sized, Prt.reset, length_setAt]; done)

theorem State.openPair_moved (s : State) (n : Nat) (tc : Tc) : Moved 0x10000001001 s (State.openPair s n tc) := by
  unfold State.openPair
  with_reducible repeat' first
    | assumption
    | intro _
    | apply Moved.refl
    | decide
    | apply Moved.ite
    | apply Moved.chain (g := State.setPair_moved _ _ _ _)

theorem State.closePair_moved (s : State) (n : Nat) (tc : Tc) : Moved 0x10000001001 s (State.closePair s n tc) := by
  unfold State.closePair
  with_reducible repeat' first
    | assumption
    | intro _
    | apply Moved.refl
    | decide
    | apply Moved.ite
    | apply Moved.chain (g := State.setPair_moved _ _ _ _)
    | split

theorem State.updateVerified_moved (s : State) (k : Nat) : Moved 0x10000000001 s (State.updateVerified s k) := by
  unfold State.updateVerified
  with_reducible repeat' first
    | assumption
    | intro _
    | apply Moved.refl
    | decide
    | apply Moved.ite
    | apply State.putFlag_moved
    | (apply inBlock_of 8; rotate_left; decide; first | omega | (simp only [F.BRK_CON_VERIFIED] <;> omega) | (simp only [F.BRK_CON_VERIFIED]; (repeat' split) <;> first | omega | decide | (dsimp only; omega)))

theorem State.endFault_moved (s : State) (k : Nat) : Moved 0x10000001001 s (State.endFault s k) := by
  unfold State.endFault
  simp -zeta only [State.withPrt_eq]
  with_reducible repeat' first
    | assumption
    | intro _
    | apply Moved.refl
    | decide
    | apply Moved.ite
    | (extract_lets +onlyGivenNames z; apply Moved.use z; swap; clear_value z; intro _; swap; subst z)
    | (extract_lets +onlyGivenNames z; (have t9 : Prt := z); clear t9; subst z)
    | (extract_lets +onlyGivenNames z; clear_value z)
    | apply Moved.getD
    | apply State.put_moved
    | apply Moved.chain (g := State.withPrt_moved _ _ ?_ )
    | (apply inBlock_of 8; rotate_left; decide; first | omega | (simp only [F.BRK_CON_FAULT] <;> omega) | (simp only [F.BRK_CON_FAULT]; (repeat' split) <;> first | omega | decide | (dsimp only; omega)))
    | split
    | (have h_prt := State.Inv.prt (by assumption); simp_all only [Prt.Sized, length_setAt]; done)
    | (have h_prt := State.Inv.prt (by assumption); simp_all [Prt.Sized, Prt.reset, length_setAt]; done)

theorem State.pulseOver_moved (s : State) (p : TestPulse) (tc : Tc) : Moved 0x20000 s (State.pulseOver s p tc) := by
  unfold State.pulseOver
  simp -zeta only [State.withSaf_eq]
  with_reducible repeat' first
    | assumption
    | intro _
    | apply Moved.refl
    | decide
    | apply Moved.ite
    | apply Moved.chain (g := State.withSaf_moved _ _ ?_ )
    | split
    | (have h_saf := State.Inv.saf (by assumption); simp_all only [Saf.Sized, length_setAt]; done)
    | (have h_saf := State.Inv.saf (by assumption); simp_all [Saf.Sized, Saf.reset, length_setAt]; done)

theorem State.dropDue_moved (s : State) : Moved 0x20000 s (State.dropDue s) := by
  unfold State.dropDue
  simp -zeta only [State.withSaf_eq]
  with_reducible repeat' first
    | assumption
    | intro _
    | apply Moved.refl
    | decide
    | apply Moved.ite
    | apply Moved.chain (g := State.withSaf_moved _ _ ?_ )
    | (have h_saf := State.Inv.saf (by assumption); simp_all only [Saf.Sized, length_setAt]; done)
    | (have h_saf := State.Inv.saf (by assumption); simp_all [Saf.Sized, Saf.reset, length_setAt]; done)

theorem State.truncatePulse_moved (s : State) (on : Nat → Bool) (tc : Tc) : Moved 0x100000020001 s (State.truncatePulse s on tc) := by
  unfold State.truncatePulse
  with_reducible repeat' first
    | assumption
    | intro _
    | apply Moved.refl
    | decide
    | apply Moved.ite
    | apply Moved.chain (g := State.dropDue_moved _)
    | apply State.put_moved
    | apply Moved.chain (g := State.pulseOver_moved _ _ _)
    | apply State.event_moved
    | (apply inBlock_of 12; rotate_left; decide; first | omega | (simp only [Ev.SAF_TP_TRUNC, F.SAF_EVT_CNT3_TP_TRUNC, F.SAF_EVT_TP_TRUNC, F.SAF_TP_STAT_ACTIVE] <;> omega) | (simp only [Ev.SAF_TP_TRUNC, F.SAF_EVT_CNT3_TP_TRUNC, F.SAF_EVT_TP_TRUNC, F.SAF_TP_STAT_ACTIVE]; (repeat' split) <;> first | omega | decide | (dsimp only; omega)))
    | split

theorem State.energise_moved (s : State) (k : Nat) (on : Bool) (tc : Tc) : Moved 0x110000221001 s (State.energise s k on tc) := by
  unfold State.energise
  simp -zeta only [State.withPrt_eq, State.withSaf_eq]
  with_reducible repeat' first
    | assumption
    | intro _
    | apply Moved.refl
    | decide
    | apply Moved.ite
    | (extract_lets +onlyGivenNames z; apply Moved.use z; swap; clear_value z; intro _; swap; subst z)
    | (extract_lets +onlyGivenNames z; (have t9 : Prt := z); clear t9; subst z)
    | (extract_lets +onlyGivenNames z; (have t9 : Saf := z); clear t9; subst z)
    | (extract_lets +onlyGivenNames z; clear_value z)
    | apply Moved.chain (g := State.endFault_moved _ _)
    | apply Moved.chain (g := State.truncatePulse_moved _ _ _)
    | apply State.putFlag_moved
    | apply State.put_moved
    | apply Moved.chain (g := State.updateVerified_moved _ _)
    | apply Moved.chain (g := State.recCountIf_moved _ _ _)
    | apply Moved.chain (g := State.enableCoil_moved _ _ _)
    | apply Moved.chain (g := State.withPrt_moved _ _ ?_ )
    | apply Moved.chain (g := State.withSaf_moved _ _ ?_ )
    | (apply inBlock_of 8; rotate_left; decide; first | omega | (simp only [F.BRK_CON_ECONOMY, F.BRK_CON_ENERGISED] <;> omega) | (simp only [F.BRK_CON_ECONOMY, F.BRK_CON_ENERGISED]; (repeat' split) <;> first | omega | decide | (dsimp only; omega)))
    | split
    | (have h_prt := State.Inv.prt (by assumption); have h_saf := State.Inv.saf (by assumption); simp_all only [Prt.Sized, Saf.Sized, length_setAt]; done)
    | (have h_prt := State.Inv.prt (by assumption); have h_saf := State.Inv.saf (by assumption); simp_all [Prt.Sized, Saf.Sized, Prt.reset, Saf.reset, length_setAt]; done)

theorem State.dropContactors_moved (s : State) (n : Nat) (tc : Tc) : Moved 0x110000221001 s (State.dropContactors s n tc) := by
  unfold State.dropContactors
  with_reducible repeat' first
    | assumption
    | intro _
    | apply Moved.refl
    | decide
    | apply Moved.ite
    | apply Moved.foldl
    | apply Moved.chain (g := State.energise_moved _ _ _ _)

theorem State.dropAll_moved (s : State) (tc : Tc) : Moved 0x110000221001 s (State.dropAll s tc) := by
  unfold State.dropAll
  with_reducible repeat' first
    | assumption
    | intro _
    | apply Moved.refl
    | decide
    | apply Moved.ite
    | apply Moved.forUpTo
    | apply Moved.chain (g := State.energise_moved _ _ _ _)

theorem State.pruneLock_moved (s : State) (n : Nat) (tc : Tc) : Moved 0x8000001001 s (State.pruneLock s n tc) := by
  unfold State.pruneLock
  with_reducible repeat' first
    | assumption
    | intro _
    | apply Moved.refl
    | decide
    | apply Moved.ite
    | (extract_lets +onlyGivenNames z; apply Moved.use z; swap; clear_value z; intro _; swap; subst z)
    | (extract_lets +onlyGivenNames z; clear_value z)
    | apply State.put_moved
    | apply Moved.chain (g := State.setIsl_moved _ _ _)
    | (apply inBlock_of 7; rotate_left; decide; first | omega | (simp only [F.PRT_S_CAP_STAT_LOCK_CNT] <;> omega) | (simp only [F.PRT_S_CAP_STAT_LOCK_CNT]; (repeat' split) <;> first | omega | decide | (dsimp only; omega)))

theorem State.tripRecord_moved (s : State) (n : Nat) (at_ : Tc) (cause : BitVec 64) : Moved 0x8000001001 s (State.tripRecord s n at_ cause) := by
  unfold State.tripRecord
  with_reducible repeat' first
    | assumption
    | intro _
    | apply Moved.refl
    | decide
    | apply Moved.ite
    | (extract_lets +onlyGivenNames z; apply Moved.use z; swap; clear_value z; intro _; swap; subst z)
    | (extract_lets +onlyGivenNames z; clear_value z)
    | apply State.bump_moved
    | apply State.wr64_moved
    | apply State.put_moved
    | apply Moved.chain (g := State.setIsl_moved _ _ _)
    | apply Moved.chain (g := State.pruneLock_moved _ _ _)
    | (apply inBlock_of 7; rotate_left; decide; first | omega | (simp only [F.PRT_S_TRIP_CAUSE_LO_VALUE, F.PRT_S_TRIP_INFO_BRK_TIME, F.PRT_S_TRIP_INFO_CNT, F.PRT_S_TRIP_TC_LO_VALUE] <;> omega) | (simp only [F.PRT_S_TRIP_CAUSE_LO_VALUE, F.PRT_S_TRIP_INFO_BRK_TIME, F.PRT_S_TRIP_INFO_CNT, F.PRT_S_TRIP_TC_LO_VALUE]; (repeat' split) <;> first | omega | decide | (dsimp only; omega)))
    | split

theorem State.seeTrip_moved (s : State) (n : Nat) (tc : Tc) (cause : BitVec 64) : Moved 0x8000001001 s (State.seeTrip s n tc cause) := by
  unfold State.seeTrip
  with_reducible repeat' first
    | assumption
    | intro _
    | apply Moved.refl
    | decide
    | apply Moved.ite
    | (extract_lets +onlyGivenNames z; apply Moved.use z; swap; clear_value z; intro _; swap; subst z)
    | (extract_lets +onlyGivenNames z; clear_value z)
    | apply State.eventIf_moved
    | apply Moved.chain (g := State.setIsl_moved _ _ _)
    | (apply inBlock_of 7; rotate_left; decide; first | omega | (simp only [Ev.PRT_CAP_MISSED, F.PRT_EVT_CAP_MISSED, F.PRT_EVT_CNT2_CAP_MISSED] <;> omega) | (simp only [Ev.PRT_CAP_MISSED, F.PRT_EVT_CAP_MISSED, F.PRT_EVT_CNT2_CAP_MISSED]; (repeat' split) <;> first | omega | decide | (dsimp only; omega)))
    | split

theorem State.endDrop_moved (s : State) (n : Nat) (now : BitVec 20) : Moved 0x1000 s (State.endDrop s n now) := by
  unfold State.endDrop
  with_reducible repeat' first
    | assumption
    | intro _
    | apply Moved.refl
    | decide
    | apply Moved.ite
    | apply Moved.chain (g := State.setIsl_moved _ _ _)
    | split

theorem State.twillString_moved (s : State) (n : Nat) (before : BitVec 20) (now : BitVec 20) (x : BitVec 64) (tc : Tc) : Moved 0x118000221001 s (State.twillString s n before now x tc) := by
  unfold State.twillString
  with_reducible repeat' first
    | assumption
    | intro _
    | apply Moved.refl
    | decide
    | apply Moved.ite
    | (extract_lets +onlyGivenNames z; apply Moved.use z; swap; clear_value z; intro _; swap; subst z)
    | (extract_lets +onlyGivenNames z; clear_value z)
    | apply Moved.chain (g := State.dropContactors_moved _ _ _)
    | apply Moved.chain (g := State.truncatePulse_moved _ _ _)
    | apply Moved.chain (g := State.openPair_moved _ _ _)
    | apply Moved.chain (g := State.setIsl_moved _ _ _)
    | apply Moved.chain (g := State.seeTrip_moved _ _ _ _)
    | split

theorem State.faultCoils_moved (s : State) (tc : Tc) : Moved 0x110000221001 s (State.faultCoils s tc) := by
  unfold State.faultCoils
  with_reducible repeat' first
    | assumption
    | intro _
    | apply Moved.refl
    | decide
    | apply Moved.ite
    | apply Moved.chain (g := State.dropAll_moved _ _)
    | split

theorem State.islandFault_moved (s : State) (tc : Tc) : Moved 0x138000223001 s (State.islandFault s tc) := by
  unfold State.islandFault
  simp -zeta only [State.withPrt_eq]
  with_reducible repeat' first
    | assumption
    | intro _
    | apply Moved.refl
    | decide
    | apply Moved.ite
    | (extract_lets +onlyGivenNames z; apply Moved.use z; swap; clear_value z; intro _; swap; subst z)
    | (extract_lets +onlyGivenNames z; (have t9 : Prt := z); clear t9; subst z)
    | (extract_lets +onlyGivenNames z; clear_value z)
    | apply Moved.forUpTo
    | apply Moved.chain (g := State.faultCoils_moved _ _)
    | apply State.put_moved
    | apply Moved.chain (g := State.openPair_moved _ _ _)
    | apply Moved.chain (g := State.trimTrips_moved _)
    | apply Moved.chain (g := State.withPrt_moved _ _ ?_ )
    | (apply inBlock_of 7; rotate_left; decide; first | omega | (simp only [F.PRT_STAT_ISL_FAULT] <;> omega) | (simp only [F.PRT_STAT_ISL_FAULT]; (repeat' split) <;> first | omega | decide | (dsimp only; omega)))
    | (have h_prt := State.Inv.prt (by assumption); simp_all only [Prt.Sized, length_setAt]; done)
    | (have h_prt := State.Inv.prt (by assumption); simp_all [Prt.Sized, Prt.reset, length_setAt]; done)

theorem State.channelsAgree_moved (s : State) (short : Bool) (tc : Tc) : Moved 0x8000001001 s (State.channelsAgree s short tc) := by
  unfold State.channelsAgree
  simp -zeta only [State.withPrt_eq]
  with_reducible repeat' first
    | assumption
    | intro _
    | apply Moved.refl
    | decide
    | apply Moved.ite
    | apply Moved.forUpTo
    | apply State.eventIf_moved
    | apply Moved.chain (g := State.noteBits_moved _ _ _)
    | apply Moved.chain (g := State.withPrt_moved _ _ ?_ )
    | (apply inBlock_of 7; rotate_left; decide; first | omega | (simp only [Ev.PRT_DISC, F.PRT_EVT_CNT0_DISC, F.PRT_EVT_DISC] <;> omega) | (simp only [Ev.PRT_DISC, F.PRT_EVT_CNT0_DISC, F.PRT_EVT_DISC]; (repeat' split) <;> first | omega | decide | (dsimp only; omega)))
    | (have h_prt := State.Inv.prt (by assumption); simp_all only [Prt.Sized, length_setAt]; done)
    | (have h_prt := State.Inv.prt (by assumption); simp_all [Prt.Sized, Prt.reset, length_setAt]; done)

theorem State.compareChannels_moved (s : State) (tc : Tc) : Moved 0x138000223001 s (State.compareChannels s tc) := by
  unfold State.compareChannels
  simp -zeta only [State.withPrt_eq]
  with_reducible repeat' first
    | assumption
    | intro _
    | apply Moved.refl
    | decide
    | apply Moved.ite
    | (extract_lets +onlyGivenNames z; apply Moved.use z; swap; clear_value z; intro _; swap; subst z)
    | (extract_lets +onlyGivenNames z; (have t9 : Prt := z); clear t9; subst z)
    | (extract_lets +onlyGivenNames z; clear_value z)
    | apply Moved.forUpTo
    | apply Moved.chain (g := State.channelsAgree_moved _ _ _)
    | apply Moved.chain (g := State.islandFault_moved _ _)
    | apply Moved.chain (g := State.noteBits_moved _ _ _)
    | apply Moved.chain (g := State.withPrt_moved _ _ ?_ )
    | split
    | (have h_prt := State.Inv.prt (by assumption); simp_all only [Prt.Sized, length_setAt]; done)
    | (have h_prt := State.Inv.prt (by assumption); simp_all [Prt.Sized, Prt.reset, length_setAt]; done)

theorem State.twill_moved (s : State) (pulse : BitVec 64) (tc : Tc) : Moved 0x138000223001 s (State.twill s pulse tc) := by
  unfold State.twill
  simp -zeta only [State.withPrt_eq]
  with_reducible repeat' first
    | assumption
    | intro _
    | apply Moved.refl
    | decide
    | apply Moved.ite
    | (extract_lets +onlyGivenNames z; apply Moved.use z; swap; clear_value z; intro _; swap; subst z)
    | (extract_lets +onlyGivenNames z; (have t9 : Prt := z); clear t9; subst z)
    | (extract_lets +onlyGivenNames z; clear_value z)
    | apply Moved.forUpTo
    | apply Moved.foldl
    | apply Moved.chain (g := State.energise_moved _ _ _ _)
    | apply Moved.chain (g := State.compareChannels_moved _ _)
    | apply Moved.chain (g := State.twillString_moved _ _ _ _ _ _)
    | apply Moved.chain (g := State.endDrop_moved _ _ _)
    | apply State.put_moved
    | apply Moved.chain (g := State.trimTrips_moved _)
    | apply Moved.chain (g := State.withPrt_moved _ _ ?_ )
    | (apply inBlock_of 7; rotate_left; decide; first | omega | (simp only [F.PRT_TWILL_IN_HI_X, F.PRT_TWILL_IN_LO_X, F.PRT_TWILL_OUT_Y] <;> omega) | (simp only [F.PRT_TWILL_IN_HI_X, F.PRT_TWILL_IN_LO_X, F.PRT_TWILL_OUT_Y]; (repeat' split) <;> first | omega | decide | (dsimp only; omega)))
    | split
    | (have h_prt := State.Inv.prt (by assumption); simp_all only [Prt.Sized, length_setAt]; done)
    | (have h_prt := State.Inv.prt (by assumption); simp_all [Prt.Sized, Prt.reset, length_setAt]; done)

theorem State.giveInput_moved (s : State) (i : Nat) (b : Bool) (tc : Tc) : Moved 0x138000223001 s (State.giveInput s i b tc) := by
  unfold State.giveInput
  simp -zeta only [State.withPrt_eq]
  with_reducible repeat' first
    | assumption
    | intro _
    | apply Moved.refl
    | decide
    | apply Moved.ite
    | (extract_lets +onlyGivenNames z; apply Moved.use z; swap; clear_value z; intro _; swap; subst z)
    | (extract_lets +onlyGivenNames z; (have t9 : Prt := z); clear t9; subst z)
    | (extract_lets +onlyGivenNames z; clear_value z)
    | apply Moved.chain (g := State.twill_moved _ _ _)
    | apply Moved.chain (g := State.withPrt_moved _ _ ?_ )
    | split
    | (have h_prt := State.Inv.prt (by assumption); simp_all only [Prt.Sized, length_setAt]; done)
    | (have h_prt := State.Inv.prt (by assumption); simp_all [Prt.Sized, Prt.reset, length_setAt]; done)

theorem State.clearLatches_moved (s : State) (js : List Nat) (tc : Tc) : Moved 0x138000223001 s (State.clearLatches s js tc) := by
  unfold State.clearLatches
  simp -zeta only [State.withPrt_eq]
  with_reducible repeat' first
    | assumption
    | intro _
    | apply Moved.refl
    | decide
    | apply Moved.ite
    | (extract_lets +onlyGivenNames z; apply Moved.use z; swap; clear_value z; intro _; swap; subst z)
    | (extract_lets +onlyGivenNames z; (have t9 : Prt := z); clear t9; subst z)
    | (extract_lets +onlyGivenNames z; clear_value z)
    | apply Moved.foldl
    | apply Moved.chain (g := State.twill_moved _ _ _)
    | apply Moved.chain (g := State.withPrt_moved _ _ ?_ )
    | (have h_prt := State.Inv.prt (by assumption); simp_all only [Prt.Sized, length_setAt]; done)
    | (have h_prt := State.Inv.prt (by assumption); simp_all [Prt.Sized, Prt.reset, length_setAt]; done)

theorem State.brkFault_moved (s : State) (n : Nat) (c : Nat) (tc : Tc) : Moved 0x138000223001 s (State.brkFault s n c tc) := by
  unfold State.brkFault
  with_reducible repeat' first
    | assumption
    | intro _
    | apply Moved.refl
    | decide
    | apply Moved.ite
    | (extract_lets +onlyGivenNames z; apply Moved.use z; swap; clear_value z; intro _; swap; subst z)
    | (extract_lets +onlyGivenNames z; clear_value z)
    | apply Moved.chain (g := State.dropContactors_moved _ _ _)
    | apply Moved.chain (g := State.twill_moved _ _ _)
    | apply State.put_moved
    | apply Moved.chain (g := State.openPair_moved _ _ _)
    | apply Moved.chain (g := State.setIsl_moved _ _ _)
    | (apply inBlock_of 8; rotate_left; decide; first | omega | (simp only [F.BRK_S_STAT_FAULT] <;> omega) | (simp only [F.BRK_S_STAT_FAULT]; (repeat' split) <;> first | omega | decide | (dsimp only; omega)))
    | split

theorem State.allSafe_moved (s : State) (tc : Tc) : Moved 0x110000221001 s (State.allSafe s tc) := by
  unfold State.allSafe
  with_reducible repeat' first
    | assumption
    | intro _
    | apply Moved.refl
    | decide
    | apply Moved.ite
    | apply Moved.forUpTo
    | apply Moved.chain (g := State.dropAll_moved _ _)
    | apply Moved.chain (g := State.openPair_moved _ _ _)

theorem State.directTrip_moved (s : State) (n : Nat) (path : DirectPath) (i : BitVec 12) (tc : Tc) : Moved 0x138000223001 s (State.directTrip s n path i tc) := by
  unfold State.directTrip
  with_reducible repeat' first
    | assumption
    | intro _
    | apply Moved.refl
    | decide
    | apply Moved.ite
    | (extract_lets +onlyGivenNames z; apply Moved.use z; swap; clear_value z; intro _; swap; subst z)
    | (extract_lets +onlyGivenNames z; clear_value z)
    | apply Moved.chain (g := State.tripRecord_moved _ _ _ _)
    | apply Moved.chain (g := State.cutPair_moved _ _ _ _)
    | apply Moved.chain (g := State.twill_moved _ _ _)
    | apply Moved.chain (g := State.setIsl_moved _ _ _)
    | apply Moved.chain (g := State.seeTrip_moved _ _ _ _)
    | split

theorem State.setFiltered_moved (s : State) (n : Nat) (path : FilteredPath) (b : Bool) (tc : Tc) : Moved 0x138000223001 s (State.setFiltered s n path b tc) := by
  unfold State.setFiltered
  with_reducible repeat' first
    | assumption
    | intro _
    | apply Moved.refl
    | decide
    | apply Moved.ite
    | apply Moved.chain (g := State.twill_moved _ _ _)
    | apply Moved.chain (g := State.setIsl_moved _ _ _)
    | split

theorem State.restartCount_moved (s : State) (n : Nat) (path : FilteredPath) (tc : Tc) : Moved 0x1000 s (State.restartCount s n path tc) := by
  unfold State.restartCount
  with_reducible repeat' first
    | assumption
    | intro _
    | apply Moved.refl
    | decide
    | apply Moved.ite
    | apply Moved.chain (g := State.setIsl_moved _ _ _)
    | split

theorem State.brkOpened_moved (s : State) (n : Nat) (tc : Tc) : Moved 0x118000221001 s (State.brkOpened s n tc) := by
  unfold State.brkOpened
  with_reducible repeat' first
    | assumption
    | intro _
    | apply Moved.refl
    | decide
    | apply Moved.ite
    | (extract_lets +onlyGivenNames z; apply Moved.use z; swap; clear_value z; intro _; swap; subst z)
    | (extract_lets +onlyGivenNames z; clear_value z)
    | apply Moved.chain (g := State.dropContactors_moved _ _ _)
    | apply Moved.chain (g := State.faultCoils_moved _ _)
    | apply State.put_moved
    | apply Moved.chain (g := State.setIsl_moved _ _ _)
    | (apply inBlock_of 7; rotate_left; decide; first | omega | (simp only [F.PRT_S_TRIP_INFO_BRK_TIME] <;> omega) | (simp only [F.PRT_S_TRIP_INFO_BRK_TIME]; (repeat' split) <;> first | omega | decide | (dsimp only; omega)))
    | split

theorem State.dropAfter_moved (s : State) (n : Nat) (tc : Tc) : Moved 0x110000221001 s (State.dropAfter s n tc) := by
  unfold State.dropAfter
  with_reducible repeat' first
    | assumption
    | intro _
    | apply Moved.refl
    | decide
    | apply Moved.ite
    | apply Moved.chain (g := State.dropContactors_moved _ _ _)
    | apply Moved.chain (g := State.setIsl_moved _ _ _)
    | split

theorem State.rearmCapture_moved (s : State) (n : Nat) : Moved 0x8000000001 s (State.rearmCapture s n) := by
  unfold State.rearmCapture
  with_reducible repeat' first
    | assumption
    | intro _
    | apply Moved.refl
    | decide
    | apply Moved.ite
    | apply State.put_moved
    | (apply inBlock_of 7; rotate_left; decide; first | omega | (simp only [F.PRT_S_CAP_STAT_HELD] <;> omega) | (simp only [F.PRT_S_CAP_STAT_HELD]; (repeat' split) <;> first | omega | decide | (dsimp only; omega)))

theorem State.prtLoad_moved (s : State) : Moved 0x18000000001 s (State.prtLoad s) := by
  unfold State.prtLoad
  with_reducible repeat' first
    | assumption
    | intro _
    | apply Moved.refl
    | decide
    | apply Moved.ite
    | (extract_lets +onlyGivenNames z; apply Moved.use z; swap; clear_value z; intro _; swap; subst z)
    | (extract_lets +onlyGivenNames z; clear_value z)
    | apply Moved.forUpTo
    | apply State.put_moved
    | (apply inBlock_of 7; rotate_left; decide; first | omega | (simp only [F.BRK_CON_USED, F.PRT_IMD_STAT_ROLE, F.PRT_S_DIDT_DIDT_FILT, F.PRT_S_DIDT_FOC_FILT, F.PRT_S_DIDT_LEVEL, F.PRT_S_FOC_CHG, F.PRT_S_FOC_EFF_CHG, F.PRT_S_OC_CHG, F.PRT_S_OV_CODE, F.PRT_S_SC_CHG, F.PRT_S_TEMP_OT, F.PRT_S_TEMP_UT, F.PRT_S_UV_CODE] <;> omega) | (simp only [F.BRK_CON_USED, F.PRT_IMD_STAT_ROLE, F.PRT_S_DIDT_DIDT_FILT, F.PRT_S_DIDT_FOC_FILT, F.PRT_S_DIDT_LEVEL, F.PRT_S_FOC_CHG, F.PRT_S_FOC_EFF_CHG, F.PRT_S_OC_CHG, F.PRT_S_OV_CODE, F.PRT_S_SC_CHG, F.PRT_S_TEMP_OT, F.PRT_S_TEMP_UT, F.PRT_S_UV_CODE]; (repeat' split) <;> first | omega | decide | (dsimp only; omega)))
    | (apply inBlock_of 8; rotate_left; decide; first | omega | (simp only [F.BRK_CON_USED, F.PRT_IMD_STAT_ROLE, F.PRT_S_DIDT_DIDT_FILT, F.PRT_S_DIDT_FOC_FILT, F.PRT_S_DIDT_LEVEL, F.PRT_S_FOC_CHG, F.PRT_S_FOC_EFF_CHG, F.PRT_S_OC_CHG, F.PRT_S_OV_CODE, F.PRT_S_SC_CHG, F.PRT_S_TEMP_OT, F.PRT_S_TEMP_UT, F.PRT_S_UV_CODE] <;> omega) | (simp only [F.BRK_CON_USED, F.PRT_IMD_STAT_ROLE, F.PRT_S_DIDT_DIDT_FILT, F.PRT_S_DIDT_FOC_FILT, F.PRT_S_DIDT_LEVEL, F.PRT_S_FOC_CHG, F.PRT_S_FOC_EFF_CHG, F.PRT_S_OC_CHG, F.PRT_S_OV_CODE, F.PRT_S_SC_CHG, F.PRT_S_TEMP_OT, F.PRT_S_TEMP_UT, F.PRT_S_UV_CODE]; (repeat' split) <;> first | omega | decide | (dsimp only; omega)))

theorem State.prtArm_moved (s : State) (pass : Bool) (tc : Tc) : Moved 0x138000223001 s (State.prtArm s pass tc) := by
  unfold State.prtArm
  with_reducible repeat' first
    | assumption
    | intro _
    | apply Moved.refl
    | decide
    | apply Moved.ite
    | (extract_lets +onlyGivenNames z; apply Moved.use z; swap; clear_value z; intro _; swap; subst z)
    | (extract_lets +onlyGivenNames z; clear_value z)
    | apply Moved.forUpTo
    | apply Moved.chain (g := State.islandFault_moved _ _)
    | apply State.put_moved
    | apply Moved.chain (g := State.openPair_moved _ _ _)
    | apply Moved.chain (g := State.setIsl_moved _ _ _)
    | (apply inBlock_of 7; rotate_left; decide; first | omega | (simp only [F.PRT_STAT_ARMED] <;> omega) | (simp only [F.PRT_STAT_ARMED]; (repeat' split) <;> first | omega | decide | (dsimp only; omega)))
    | split

theorem State.focDynamic_moved (s : State) (n : Nat) (dyn : Nat) : Moved 0x8000000001 s (State.focDynamic s n dyn) := by
  unfold State.focDynamic
  with_reducible repeat' first
    | assumption
    | intro _
    | apply Moved.refl
    | decide
    | apply Moved.ite
    | apply State.put_moved
    | (apply inBlock_of 7; rotate_left; decide; first | omega | (simp only [F.PRT_S_FOC_EFF_CHG, F.PRT_S_FOC_EFF_DIS] <;> omega) | (simp only [F.PRT_S_FOC_EFF_CHG, F.PRT_S_FOC_EFF_DIS]; (repeat' split) <;> first | omega | decide | (dsimp only; omega)))

end Sys2Proof.Machine
end

