-- ==== Sys2Proof/Laws/MovedBreakers.lean ====
section
/-! SUPPORT. Laws/MovedBreakers.lean: what each operation may change. -/
namespace Sys2Proof.Machine

set_option linter.unreachableTactic false
set_option linter.unusedTactic false
set_option linter.unusedVariables false
set_option linter.unusedSimpArgs false
set_option linter.unnecessarySeqFocus false
set_option linter.style.nameCheck false

open Sys2Proof

/-! Operations of Machine/Brk.lean. -/

theorem State.refuseCmd_moved (s : State) (target : Nat) (c : Nat) : Moved 0x10000000001 s (State.refuseCmd s target c) := by
  unfold State.refuseCmd
  with_reducible repeat' first
    | assumption
    | intro _
    | apply Moved.refl
    | decide
    | apply Moved.ite
    | apply State.bump_moved
    | apply State.put_moved
    | (apply inBlock_of 8; rotate_left; decide; first | omega | (simp only [F.BRK_REFUSE_CNT, F.BRK_REFUSE_CODE, F.BRK_REFUSE_TARGET] <;> omega) | (simp only [F.BRK_REFUSE_CNT, F.BRK_REFUSE_CODE, F.BRK_REFUSE_TARGET]; (repeat' split) <;> first | omega | decide | (dsimp only; omega)))

theorem State.enter_moved (s : State) (n : Nat) (st : Nat) (tc : Tc) : Moved 0x38000203001 s (State.enter s n st tc) := by
  unfold State.enter
  with_reducible repeat' first
    | assumption
    | intro _
    | apply Moved.refl
    | decide
    | apply Moved.ite
    | (extract_lets +onlyGivenNames z; apply Moved.use z; swap; clear_value z; intro _; swap; subst z)
    | (extract_lets +onlyGivenNames z; clear_value z)
    | apply State.put_moved
    | apply Moved.chain (g := State.trimTrips_moved _)
    | apply Moved.chain (g := State.setIsl_moved _ _ _)
    | apply State.putBit_moved
    | apply Moved.chain (g := State.recCountIf_moved _ _ _)
    | (apply inBlock_of 7; rotate_left; decide; first | omega | (simp only [F.BRK_S_STAT_PC_MIN, F.BRK_S_STAT_STATE, F.PRT_STAT_LOCKOUT, F.PRT_STAT_TRIPPED] <;> omega) | (simp only [F.BRK_S_STAT_PC_MIN, F.BRK_S_STAT_STATE, F.PRT_STAT_LOCKOUT, F.PRT_STAT_TRIPPED]; (repeat' split) <;> first | omega | decide | (dsimp only; omega)))
    | (apply inBlock_of 8; rotate_left; decide; first | omega | (simp only [F.BRK_S_STAT_PC_MIN, F.BRK_S_STAT_STATE, F.PRT_STAT_LOCKOUT, F.PRT_STAT_TRIPPED] <;> omega) | (simp only [F.BRK_S_STAT_PC_MIN, F.BRK_S_STAT_STATE, F.PRT_STAT_LOCKOUT, F.PRT_STAT_TRIPPED]; (repeat' split) <;> first | omega | decide | (dsimp only; omega)))

theorem State.clearFault_moved (s : State) (n : Nat) (tc : Tc) : Moved 0x138000223001 s (State.clearFault s n tc) := by
  unfold State.clearFault
  with_reducible repeat' first
    | assumption
    | intro _
    | apply Moved.refl
    | decide
    | apply Moved.ite
    | apply Moved.chain (g := State.twill_moved _ _ _)
    | apply State.put_moved
    | apply Moved.chain (g := State.setIsl_moved _ _ _)
    | (apply inBlock_of 8; rotate_left; decide; first | omega | (simp only [F.BRK_S_STAT_FAULT] <;> omega) | (simp only [F.BRK_S_STAT_FAULT]; (repeat' split) <;> first | omega | decide | (dsimp only; omega)))

theorem State.withLid_moved {m : Nat} {r s : State} (h : Moved m r s) (n : Nat) {go : State → State} (hm : m ||| 0x1000 = m)
    (hgo : ∀ t, Moved m r t → Moved m r (go t)) : Moved m r (State.withLid s n go) := by
  unfold State.withLid
  exact Moved.ite (Moved.chain h (State.setIsl_moved _ _ _) hm) (Moved.ite h (hgo s h))

theorem State.tripString_moved (s : State) (n : Nat) (tc : Tc) : Moved 0x38000203001 s (State.tripString s n tc) := by
  unfold State.tripString
  with_reducible repeat' first
    | assumption
    | intro _
    | apply Moved.refl
    | decide
    | apply Moved.ite
    | (extract_lets +onlyGivenNames z; apply Moved.use z; swap; clear_value z; intro _; swap; subst z)
    | (extract_lets +onlyGivenNames z; clear_value z)
    | apply Moved.getD
    | apply Moved.chain (g := State.tripRecord_moved _ _ _ _)
    | apply Moved.chain (g := State.openPair_moved _ _ _)
    | apply Moved.chain (g := State.enter_moved _ _ _ _)
    | apply State.event_moved
    | (apply inBlock_of 7; rotate_left; decide; first | omega | (simp only [Ev.PRT_TRIP, F.PRT_EVT_CNT0_TRIP, F.PRT_EVT_TRIP] <;> omega) | (simp only [Ev.PRT_TRIP, F.PRT_EVT_CNT0_TRIP, F.PRT_EVT_TRIP]; (repeat' split) <;> first | omega | decide | (dsimp only; omega)))

theorem State.resetString_moved (s : State) (n : Nat) (tc : Tc) : Moved 0x138000223001 s (State.resetString s n tc) := by
  unfold State.resetString
  with_reducible repeat' first
    | assumption
    | intro _
    | apply Moved.refl
    | decide
    | apply Moved.ite
    | (extract_lets +onlyGivenNames z; apply Moved.use z; swap; clear_value z; intro _; swap; subst z)
    | (extract_lets +onlyGivenNames z; clear_value z)
    | apply Moved.chain (g := State.energise_moved _ _ _ _)
    | apply Moved.chain (g := State.clearFault_moved _ _ _)
    | apply Moved.chain (g := State.clearLatches_moved _ _ _)
    | apply Moved.chain (g := State.enter_moved _ _ _ _)
    | split

theorem State.enterPrecharge_moved (s : State) (n : Nat) (tc : Tc) : Moved 0x38000203001 s (State.enterPrecharge s n tc) := by
  unfold State.enterPrecharge
  with_reducible repeat' first
    | assumption
    | intro _
    | apply Moved.refl
    | decide
    | apply Moved.ite
    | (extract_lets +onlyGivenNames z; apply Moved.use z; swap; clear_value z; intro _; swap; subst z)
    | (extract_lets +onlyGivenNames z; clear_value z)
    | apply Moved.chain (g := State.setIsl_moved _ _ _)
    | apply Moved.chain (g := State.enter_moved _ _ _ _)
    | apply Moved.chain (g := State.closePair_moved _ _ _)
    | split

theorem State.sequenceRow_moved (s : State) (n : Nat) (cmd : Option Nat) (tc : Tc) : Moved 0x138000223001 s (State.sequenceRow s n cmd tc) := by
  unfold State.sequenceRow
  with_reducible repeat' first
    | assumption
    | intro _
    | apply Moved.refl
    | decide
    | apply Moved.ite
    | (extract_lets +onlyGivenNames z; apply Moved.use z; swap; clear_value z; intro _; swap; subst z)
    | (extract_lets +onlyGivenNames z; clear_value z)
    | apply Moved.chain (g := State.dropContactors_moved _ _ _)
    | apply Moved.chain (g := State.energise_moved _ _ _ _)
    | apply State.withLid_moved
    | apply Moved.chain (g := State.clearFault_moved _ _ _)
    | apply Moved.chain (g := State.enterPrecharge_moved _ _ _)
    | apply Moved.chain (g := State.openPair_moved _ _ _)
    | apply Moved.chain (g := State.enter_moved _ _ _ _)
    | apply Moved.chain (g := State.closePair_moved _ _ _)
    | split

theorem State.evalString_moved (s : State) (n : Nat) (cmd : Option Nat) (tc : Tc) : Moved 0x138000223001 s (State.evalString s n cmd tc) := by
  unfold State.evalString
  with_reducible repeat' first
    | assumption
    | intro _
    | apply Moved.refl
    | decide
    | apply Moved.ite
    | (extract_lets +onlyGivenNames z; apply Moved.use z; swap; clear_value z; intro _; swap; subst z)
    | (extract_lets +onlyGivenNames z; clear_value z)
    | apply Moved.chain (g := State.dropContactors_moved _ _ _)
    | apply Moved.chain (g := State.energise_moved _ _ _ _)
    | apply Moved.chain (g := State.twill_moved _ _ _)
    | apply Moved.chain (g := State.sequenceRow_moved _ _ _ _)
    | apply Moved.chain (g := State.tripString_moved _ _ _)
    | apply State.put_moved
    | apply Moved.chain (g := State.openPair_moved _ _ _)
    | apply Moved.chain (g := State.resetString_moved _ _ _)
    | apply Moved.chain (g := State.setIsl_moved _ _ _)
    | apply Moved.chain (g := State.enter_moved _ _ _ _)
    | apply Moved.chain (g := State.pruneLock_moved _ _ _)
    | (apply inBlock_of 8; rotate_left; decide; first | omega | (simp only [F.BRK_S_STAT_FAULT] <;> omega) | (simp only [F.BRK_S_STAT_FAULT]; (repeat' split) <;> first | omega | decide | (dsimp only; omega)))
    | split

theorem State.takeCmd_moved (s : State) (n : Nat) : MovedP 0x10000001001 s (State.takeCmd s n) := by
  unfold State.takeCmd
  with_reducible repeat' first
    | assumption
    | intro _
    | apply Moved.refl
    | decide
    | apply Moved.ite
    | apply MovedP.mk
    | apply MovedP.ite
    | (extract_lets +onlyGivenNames z; apply MovedP.use z; swap; clear_value z; intro _; swap; subst z)
    | (extract_lets +onlyGivenNames z; apply Moved.use z; swap; clear_value z; intro _; swap; subst z)
    | (extract_lets +onlyGivenNames z; clear_value z)
    | apply Moved.foldl
    | apply Moved.chain (g := State.refuseCmd_moved _ _ _)
    | apply Moved.chain (g := State.setIsl_moved _ _ _)
    | split

theorem State.tickString_moved (s : State) (n : Nat) (tc : Tc) : Moved 0x338000223001 s (State.tickString s n tc) := by
  unfold State.tickString
  with_reducible repeat' first
    | assumption
    | intro _
    | apply Moved.refl
    | decide
    | apply Moved.ite
    | (extract_lets +onlyGivenNames z; apply Moved.use z; swap; clear_value z; intro _; swap; subst z)
    | (extract_lets +onlyGivenNames z; apply Moved.use z.1; swap; clear_value z; intro _; swap; subst z)
    | (extract_lets +onlyGivenNames z; clear_value z)
    | apply Moved.chain (g := State.evalString_moved _ _ _ _)
    | apply Moved.chain (g := State.refuseCmd_moved _ _ _)
    | apply Moved.chain (g := MovedP.fst (State.takeCmd_moved _ _) (by assumption))
    | apply Moved.chain (g := MovedP.one (State.takeCmd_moved _ _))
    | apply Moved.chain (g := State.noteStale_moved _ _ _)
    | split

theorem State.takeRails_moved (s : State) (r : Rails) (tc : Tc) : Moved 0x8000001001 s (State.takeRails s r tc) := by
  unfold State.takeRails
  simp -zeta only [State.withPrt_eq]
  with_reducible repeat' first
    | assumption
    | intro _
    | apply Moved.refl
    | decide
    | apply Moved.ite
    | (extract_lets +onlyGivenNames z; apply Moved.use z; swap; clear_value z; intro _; swap; subst z)
    | (extract_lets +onlyGivenNames z; (have t9 : Prt := z); clear t9; subst z)
    | (extract_lets +onlyGivenNames z; clear_value z)
    | apply Moved.getD
    | apply State.put_moved
    | apply Moved.chain (g := State.withPrt_moved _ _ ?_ )
    | (apply inBlock_of 7; rotate_left; decide; first | omega | (simp only [F.PRT_IMD_U_U] <;> omega) | (simp only [F.PRT_IMD_U_U]; (repeat' split) <;> first | omega | decide | (dsimp only; omega)))
    | split
    | (have h_prt := State.Inv.prt (by assumption); simp_all only [Prt.Sized, length_setAt]; done)
    | (have h_prt := State.Inv.prt (by assumption); simp_all [Prt.Sized, Prt.reset, length_setAt]; done)

theorem State.timerString_moved (s : State) (n : Nat) (tc : Tc) : Moved 0x138000223001 s (State.timerString s n tc) := by
  unfold State.timerString
  with_reducible repeat' first
    | assumption
    | intro _
    | apply Moved.refl
    | decide
    | apply Moved.ite
    | apply Moved.chain (g := State.evalString_moved _ _ _ _)
    | split

theorem State.queueCmd_moved (s : State) (n : Nat) (c : Nat) (o : Origin) : Moved 0x210000001001 s (State.queueCmd s n c o) := by
  unfold State.queueCmd
  with_reducible repeat' first
    | assumption
    | intro _
    | apply Moved.refl
    | decide
    | apply Moved.ite
    | (extract_lets +onlyGivenNames z; apply Moved.use z; swap; clear_value z; intro _; swap; subst z)
    | (extract_lets +onlyGivenNames z; clear_value z)
    | apply Moved.chain (g := State.refuseCmd_moved _ _ _)
    | apply Moved.chain (g := State.setIsl_moved _ _ _)
    | apply Moved.chain (g := State.noteStale_moved _ _ _)
    | split

theorem State.brkCommand_moved (s : State) (n : Nat) (c : Nat) (o : Origin) : Moved 0x210000001001 s (State.brkCommand s n c o) := by
  unfold State.brkCommand
  with_reducible repeat' first
    | assumption
    | intro _
    | apply Moved.refl
    | decide
    | apply Moved.ite
    | apply Moved.chain (g := State.refuseCmd_moved _ _ _)
    | apply Moved.chain (g := State.queueCmd_moved _ _ _ _)
    | split

theorem State.autoMatch_moved (s : State) : Moved 0x210000001001 s (State.autoMatch s) := by
  unfold State.autoMatch
  with_reducible repeat' first
    | assumption
    | intro _
    | apply Moved.refl
    | decide
    | apply Moved.ite
    | (extract_lets +onlyGivenNames z; apply Moved.use z; swap; clear_value z; intro _; swap; subst z)
    | (extract_lets +onlyGivenNames z; clear_value z)
    | apply Moved.forUpTo
    | apply Moved.chain (g := State.queueCmd_moved _ _ _ _)
    | split

theorem State.conFault_moved (s : State) (k : Nat) (c : Nat) (tc : Tc) : Moved 0x138000223001 s (State.conFault s k c tc) := by
  unfold State.conFault
  simp -zeta only [State.withPrt_eq]
  with_reducible repeat' first
    | assumption
    | intro _
    | apply Moved.refl
    | decide
    | apply Moved.ite
    | (extract_lets +onlyGivenNames z; apply Moved.use z; swap; clear_value z; intro _; swap; subst z)
    | (extract_lets +onlyGivenNames z; (have t9 : Prt := z); clear t9; subst z)
    | (extract_lets +onlyGivenNames z; clear_value z)
    | apply Moved.chain (g := State.twill_moved _ _ _)
    | apply State.put_moved
    | apply Moved.chain (g := State.setIsl_moved _ _ _)
    | apply Moved.chain (g := State.withPrt_moved _ _ ?_ )
    | (apply inBlock_of 8; rotate_left; decide; first | omega | (simp only [F.BRK_CON_FAULT] <;> omega) | (simp only [F.BRK_CON_FAULT]; (repeat' split) <;> first | omega | decide | (dsimp only; omega)))
    | split
    | (have h_prt := State.Inv.prt (by assumption); simp_all only [Prt.Sized, length_setAt]; done)
    | (have h_prt := State.Inv.prt (by assumption); simp_all [Prt.Sized, Prt.reset, length_setAt]; done)

theorem State.auxTrip_moved (s : State) (tc : Tc) : Moved 0x138000223001 s (State.auxTrip s tc) := by
  unfold State.auxTrip
  with_reducible repeat' first
    | assumption
    | intro _
    | apply Moved.refl
    | decide
    | apply Moved.ite
    | apply Moved.chain (g := State.twill_moved _ _ _)

theorem State.auxReset_moved (s : State) (a : Nat) (tc : Tc) : Moved 0x138000223001 s (State.auxReset s a tc) := by
  unfold State.auxReset
  with_reducible repeat' first
    | assumption
    | intro _
    | apply Moved.refl
    | decide
    | apply Moved.ite
    | (extract_lets +onlyGivenNames z; apply Moved.use z; swap; clear_value z; intro _; swap; subst z)
    | (extract_lets +onlyGivenNames z; clear_value z)
    | apply Moved.getD
    | apply Moved.chain (g := State.refuseCmd_moved _ _ _)
    | apply Moved.chain (g := State.clearLatches_moved _ _ _)
    | split

theorem State.auxOff_moved (s : State) (a : Nat) (tc : Tc) : Moved 0x110000221001 s (State.auxOff s a tc) := by
  unfold State.auxOff
  with_reducible repeat' first
    | assumption
    | intro _
    | apply Moved.refl
    | decide
    | apply Moved.ite
    | apply Moved.chain (g := State.energise_moved _ _ _ _)

theorem State.auxOn_moved (s : State) (a : Nat) (tc : Tc) : Moved 0x110000221001 s (State.auxOn s a tc) := by
  unfold State.auxOn
  with_reducible repeat' first
    | assumption
    | intro _
    | apply Moved.refl
    | decide
    | apply Moved.ite
    | apply Moved.chain (g := State.energise_moved _ _ _ _)
    | apply Moved.chain (g := State.refuseCmd_moved _ _ _)
    | split

theorem State.auxCommand_moved {m : Nat} {r s : State} (h : Moved m r s) (o : Origin) {act : State → State} (hm : m ||| 0x210000000001 = m)
    (hact : ∀ t, Moved m r t → Moved m r (act t)) : Moved m r (State.auxCommand s o act) := by
  unfold State.auxCommand
  split
  · exact Moved.chain (Moved.chain h (State.noteStale_moved _ _ _) (maskLe hm (by decide))) (State.refuseCmd_moved _ _ _) (maskLe hm (by decide))
  · exact hact s h

theorem State.auxWrite_moved (s : State) (v : Word) (o : Origin) (tc : Tc) : Moved 0x338000223001 s (State.auxWrite s v o tc) := by
  unfold State.auxWrite
  with_reducible repeat' first
    | assumption
    | intro _
    | apply Moved.refl
    | decide
    | apply Moved.ite
    | (extract_lets +onlyGivenNames z; apply Moved.use z; swap; clear_value z; intro _; swap; subst z)
    | (extract_lets +onlyGivenNames z; clear_value z)
    | apply Moved.forUpTo
    | apply Moved.chain (g := State.auxTrip_moved _ _)
    | apply Moved.chain (g := State.auxReset_moved _ _ _)
    | apply Moved.chain (g := State.auxOn_moved _ _ _)
    | apply Moved.chain (g := State.auxOff_moved _ _ _)
    | apply State.auxCommand_moved
    | split

theorem State.lockRelease_moved (s : State) (strs : Nat) (o : Origin) : Moved 0x208000001001 s (State.lockRelease s strs o) := by
  unfold State.lockRelease
  with_reducible repeat' first
    | assumption
    | intro _
    | apply Moved.refl
    | decide
    | apply Moved.ite
    | apply Moved.forUpTo
    | apply State.put_moved
    | apply Moved.chain (g := State.setIsl_moved _ _ _)
    | apply Moved.chain (g := State.noteStale_moved _ _ _)
    | (apply inBlock_of 7; rotate_left; decide; first | omega | (simp only [F.PRT_S_CAP_STAT_LOCK_CNT] <;> omega) | (simp only [F.PRT_S_CAP_STAT_LOCK_CNT]; (repeat' split) <;> first | omega | decide | (dsimp only; omega)))
    | split

theorem State.putResultImd_moved (s : State) (r : Nat) : Moved 0x8000200001 s (State.putResultImd s r) := by
  unfold State.putResultImd
  with_reducible repeat' first
    | assumption
    | intro _
    | apply Moved.refl
    | decide
    | apply Moved.ite
    | (extract_lets +onlyGivenNames z; apply Moved.use z; swap; clear_value z; intro _; swap; subst z)
    | (extract_lets +onlyGivenNames z; clear_value z)
    | apply State.eventIf_moved
    | apply State.put_moved
    | apply Moved.chain (g := State.recCountIf_moved _ _ _)
    | (apply inBlock_of 7; rotate_left; decide; first | omega | (simp only [Ev.PRT_INS_FAULT, Ev.PRT_INS_WARN, F.PRT_EVT_CNT1_INS_FAULT, F.PRT_EVT_CNT1_INS_WARN, F.PRT_EVT_INS_FAULT, F.PRT_EVT_INS_WARN, F.PRT_IMD_STAT_RESULT] <;> omega) | (simp only [Ev.PRT_INS_FAULT, Ev.PRT_INS_WARN, F.PRT_EVT_CNT1_INS_FAULT, F.PRT_EVT_CNT1_INS_WARN, F.PRT_EVT_INS_FAULT, F.PRT_EVT_INS_WARN, F.PRT_IMD_STAT_RESULT]; (repeat' split) <;> first | omega | decide | (dsimp only; omega)))

theorem State.imdCycle_moved (s : State) (p : ImdPhase) (n : ImdPhase) (o : ImdPhase) : Moved 0x8010201001 s (State.imdCycle s p n o) := by
  unfold State.imdCycle
  simp -zeta only [State.withPrt_eq]
  with_reducible repeat' first
    | assumption
    | intro _
    | apply Moved.refl
    | decide
    | apply Moved.ite
    | (extract_lets +onlyGivenNames z; apply Moved.use z; swap; clear_value z; intro _; swap; subst z)
    | (extract_lets +onlyGivenNames z; (have t9 : Prt := z); clear t9; subst z)
    | (extract_lets +onlyGivenNames z; clear_value z)
    | apply State.bump_moved
    | apply Moved.chain (g := State.putResultImd_moved _ _)
    | apply State.put_moved
    | apply Moved.chain (g := State.tookIf_moved _ _)
    | apply Moved.chain (g := State.withPrt_moved _ _ ?_ )
    | (apply inBlock_of 7; rotate_left; decide; first | omega | (simp only [F.PRT_IMD_R_RN, F.PRT_IMD_R_RP, F.PRT_IMD_STAT_CYCLES] <;> omega) | (simp only [F.PRT_IMD_R_RN, F.PRT_IMD_R_RP, F.PRT_IMD_STAT_CYCLES]; (repeat' split) <;> first | omega | decide | (dsimp only; omega)))
    | split
    | (have h_prt := State.Inv.prt (by assumption); simp_all only [Prt.Sized, length_setAt]; done)
    | (have h_prt := State.Inv.prt (by assumption); simp_all [Prt.Sized, Prt.reset, length_setAt]; done)

theorem State.imdPhase_moved (s : State) (x : ImdMeasure) : Moved 0x8010201001 s (State.imdPhase s x) := by
  unfold State.imdPhase
  simp -zeta only [State.withPrt_eq]
  with_reducible repeat' first
    | assumption
    | intro _
    | apply Moved.refl
    | decide
    | apply Moved.ite
    | (extract_lets +onlyGivenNames z; apply Moved.use z; swap; clear_value z; intro _; swap; subst z)
    | (extract_lets +onlyGivenNames z; (have t9 : Prt := z); clear t9; subst z)
    | (extract_lets +onlyGivenNames z; clear_value z)
    | apply Moved.chain (g := State.imdCycle_moved _ _ _ _)
    | apply State.putFlag_moved
    | apply State.put_moved
    | apply State.event_moved
    | apply Moved.chain (g := State.withPrt_moved _ _ ?_ )
    | (apply inBlock_of 7; rotate_left; decide; first | omega | (simp only [Ev.PRT_FOREIGN, F.PRT_EVT_CNT2_FOREIGN, F.PRT_EVT_FOREIGN, F.PRT_IMD_STAT_FOREIGN, F.PRT_IMD_STAT_PHASE, F.PRT_IMD_STAT_RESULT, F.PRT_IMD_STAT_ROLE] <;> omega) | (simp only [Ev.PRT_FOREIGN, F.PRT_EVT_CNT2_FOREIGN, F.PRT_EVT_FOREIGN, F.PRT_IMD_STAT_FOREIGN, F.PRT_IMD_STAT_PHASE, F.PRT_IMD_STAT_RESULT, F.PRT_IMD_STAT_ROLE]; (repeat' split) <;> first | omega | decide | (dsimp only; omega)))
    | split
    | (have h_prt := State.Inv.prt (by assumption); simp_all only [Prt.Sized, length_setAt]; done)
    | (have h_prt := State.Inv.prt (by assumption); simp_all [Prt.Sized, Prt.reset, length_setAt]; done)

theorem State.imdStart_moved (s : State) (tc : Tc) : Moved 0x8000001001 s (State.imdStart s tc) := by
  unfold State.imdStart
  simp -zeta only [State.withPrt_eq]
  with_reducible repeat' first
    | assumption
    | intro _
    | apply Moved.refl
    | decide
    | apply Moved.ite
    | apply State.put_moved
    | apply Moved.chain (g := State.withPrt_moved _ _ ?_ )
    | (apply inBlock_of 7; rotate_left; decide; first | omega | (simp only [F.PRT_IMD_STAT_PHASE] <;> omega) | (simp only [F.PRT_IMD_STAT_PHASE]; (repeat' split) <;> first | omega | decide | (dsimp only; omega)))
    | split
    | (have h_prt := State.Inv.prt (by assumption); simp_all only [Prt.Sized, length_setAt]; done)
    | (have h_prt := State.Inv.prt (by assumption); simp_all [Prt.Sized, Prt.reset, length_setAt]; done)

/-! Operations of Machine/Publish.lean. -/

theorem State.publishStale_moved (s : State) (p : Nat) (m : Nat) (g : Nat) : Moved 0x2000000203 s (State.publishStale s p m g) := by
  unfold State.publishStale
  simp -zeta only [State.withSwp_eq]
  with_reducible repeat' first
    | assumption
    | intro _
    | apply Moved.refl
    | decide
    | apply Moved.ite
    | (extract_lets +onlyGivenNames z; apply Moved.use z; swap; clear_value z; intro _; swap; subst z)
    | (extract_lets +onlyGivenNames z; (have t9 : Swp := z); clear t9; subst z)
    | (extract_lets +onlyGivenNames z; clear_value z)
    | apply Moved.chain (g := State.putAsm_moved _ _ _)
    | apply State.eventIf_moved
    | apply Moved.chain (g := State.withSwp_moved _ _ ?_ )
    | (apply inBlock_of 5; rotate_left; decide; first | omega | (simp only [Ev.SWP_STALE_LIMIT, F.SWP_EVT_CNT2_STALE_LIMIT, F.SWP_EVT_STALE_LIMIT, F.SWP_V_ABSENT, F.SWP_V_AGE, F.SWP_V_BLEED, F.SWP_V_CODE, F.SWP_V_OWT, F.SWP_V_SETTLE, F.SWP_V_STALE] <;> omega) | (simp only [Ev.SWP_STALE_LIMIT, F.SWP_EVT_CNT2_STALE_LIMIT, F.SWP_EVT_STALE_LIMIT, F.SWP_V_ABSENT, F.SWP_V_AGE, F.SWP_V_BLEED, F.SWP_V_CODE, F.SWP_V_OWT, F.SWP_V_SETTLE, F.SWP_V_STALE]; (repeat' split) <;> first | omega | decide | (dsimp only; omega)))
    | (have h_swp := State.Inv.swp (by assumption); simp_all only [Swp.Sized, length_setAt]; done)
    | (have h_swp := State.Inv.swp (by assumption); simp_all [Swp.Sized, Swp.reset, length_setAt]; done)

theorem State.publishFresh_moved (s : State) (p : Nat) (m : Nat) (c : Nat) (g : Nat) : Moved 0x2000000202 s (State.publishFresh s p m c g) := by
  unfold State.publishFresh
  simp -zeta only [State.withSwp_eq]
  with_reducible repeat' first
    | assumption
    | intro _
    | apply Moved.refl
    | decide
    | apply Moved.ite
    | (extract_lets +onlyGivenNames z; apply Moved.use z; swap; clear_value z; intro _; swap; subst z)
    | (extract_lets +onlyGivenNames z; (have t9 : Swp := z); clear t9; subst z)
    | (extract_lets +onlyGivenNames z; clear_value z)
    | apply Moved.chain (g := State.putAsm_moved _ _ _)
    | apply Moved.chain (g := State.withSwp_moved _ _ ?_ )
    | split
    | (have h_swp := State.Inv.swp (by assumption); simp_all only [Swp.Sized, length_setAt]; done)
    | (have h_swp := State.Inv.swp (by assumption); simp_all [Swp.Sized, Swp.reset, length_setAt]; done)

theorem State.publishCell_moved (s : State) (w : Sweep) (p : Nat) (m : Nat) (c : Nat) : Moved 0x2000000203 s (State.publishCell s w p m c) := by
  unfold State.publishCell
  with_reducible repeat' first
    | assumption
    | intro _
    | apply Moved.refl
    | decide
    | apply Moved.ite
    | (extract_lets +onlyGivenNames z; apply Moved.use z; swap; clear_value z; intro _; swap; subst z)
    | (extract_lets +onlyGivenNames z; clear_value z)
    | apply Moved.chain (g := State.putAsm_moved _ _ _)
    | apply Moved.chain (g := State.publishStale_moved _ _ _ _)
    | apply Moved.chain (g := State.publishFresh_moved _ _ _ _ _)
    | split

theorem State.publishMon_moved (s : State) (w : Sweep) (p : Nat) (m : Nat) : Moved 0x2000000203 s (State.publishMon s w p m) := by
  unfold State.publishMon
  with_reducible repeat' first
    | assumption
    | intro _
    | apply Moved.refl
    | decide
    | apply Moved.ite
    | (extract_lets +onlyGivenNames z; apply Moved.use z; swap; clear_value z; intro _; swap; subst z)
    | (extract_lets +onlyGivenNames z; clear_value z)
    | apply Moved.forUpTo
    | apply Moved.getD
    | apply Moved.chain (g := State.putAsm_moved _ _ _)
    | apply Moved.chain (g := State.publishCell_moved _ _ _ _ _)
    | apply Moved.chain (g := State.setMon_moved _ _ _ _)
    | split

theorem State.publishPoint_moved (s : State) (w : Sweep) (p : Nat) (h : Nat) : Moved 0x2000000202 s (State.publishPoint s w p h) := by
  unfold State.publishPoint
  simp -zeta only [State.withSwp_eq]
  with_reducible repeat' first
    | assumption
    | intro _
    | apply Moved.refl
    | decide
    | apply Moved.ite
    | (extract_lets +onlyGivenNames z; apply Moved.use z; swap; clear_value z; intro _; swap; subst z)
    | (extract_lets +onlyGivenNames z; (have t9 : Swp := z); clear t9; subst z)
    | (extract_lets +onlyGivenNames z; clear_value z)
    | apply Moved.chain (g := State.putAsm_moved _ _ _)
    | apply Moved.chain (g := State.withSwp_moved _ _ ?_ )
    | split
    | (have h_swp := State.Inv.swp (by assumption); simp_all only [Swp.Sized, length_setAt]; done)
    | (have h_swp := State.Inv.swp (by assumption); simp_all [Swp.Sized, Swp.reset, length_setAt]; done)

theorem State.publishString_moved (s : State) (w : Sweep) (p : Nat) (tc : Tc) : Moved 0x2000000203 s (State.publishString s w p tc) := by
  unfold State.publishString
  with_reducible repeat' first
    | assumption
    | intro _
    | apply Moved.refl
    | decide
    | apply Moved.ite
    | (extract_lets +onlyGivenNames z; apply Moved.use z; swap; clear_value z; intro _; swap; subst z)
    | (extract_lets +onlyGivenNames z; clear_value z)
    | apply Moved.forUpTo
    | apply Moved.foldl
    | apply Moved.getD
    | apply Moved.chain (g := State.putAsm_moved _ _ _)
    | apply Moved.chain (g := State.wantMask_moved _ _ _ _ _)
    | apply Moved.chain (g := State.publishMon_moved _ _ _ _)
    | apply Moved.chain (g := State.publishPoint_moved _ _ _ _)
    | split

theorem State.publishEst_moved (s : State) (w : Sweep) : Moved 0x4000000402 s (State.publishEst s w) := by
  unfold State.publishEst
  with_reducible repeat' first
    | assumption
    | intro _
    | apply Moved.refl
    | decide
    | apply Moved.ite
    | (extract_lets +onlyGivenNames z; apply Moved.use z; swap; clear_value z; intro _; swap; subst z)
    | (extract_lets +onlyGivenNames z; clear_value z)
    | apply Moved.forUpTo
    | apply Moved.chain (g := State.putEstCell_moved _ _ _ _ _)
    | apply Moved.chain (g := State.putAsm_moved _ _ _)
    | apply Moved.chain (g := State.evalRest_moved _ _)
    | split

theorem State.switchSnapshot_moved (s : State) (w : Sweep) (tc : Tc) : Moved 0x13a20022330f s (State.switchSnapshot s w tc) := by
  unfold State.switchSnapshot
  simp -zeta only [State.withAssemblingLatestPreviousSwp_eq]
  extract_lets +onlyGivenNames src snap src2 a b c
  have ha : Moved 0x13a20022330f s a := ⟨⟨rfl, List.suffix_refl _, le_refl _, fun k => ⟨k.objs, k.cst, rfl, k.assembling, k.latest, k.cfg, k.ports, k.swp, k.afe, k.prt, k.cte, k.saf, k.can, k.tim, k.eth, k.seq, k.frames⟩⟩, fun i hi => by
    unfold State.sameAt
    split <;> first | rfl | exact absurd hi (by decide), fun _ _ _ => rfl⟩
  have hb : Moved 0x13a20022330f s b := State.put_moved (State.put_moved ha _ _ (inBlock_of 1 rfl (by decide))) _ _ (inBlock_of 5 rfl (by decide))
  have hc : Moved 0x13a20022330f s c := Moved.forUpTo hb fun i t _ ht => Moved.ite (Moved.chain ht (State.setPort_moved _ _ _) (by decide)) ht
  exact Moved.chain hc (State.twill_moved _ _ _) (by decide)

theorem State.dropSteps_moved (s : State) (p : Nat) : Moved 0x300 s (State.dropSteps s p) := by
  unfold State.dropSteps
  with_reducible repeat' first
    | assumption
    | intro _
    | apply Moved.refl
    | decide
    | apply Moved.ite
    | (extract_lets +onlyGivenNames z; apply Moved.use z; swap; clear_value z; intro _; swap; subst z)
    | (extract_lets +onlyGivenNames z; clear_value z)
    | apply Moved.chain (g := State.setPort_moved _ _ _)
    | apply Moved.chain (g := State.setMon_moved _ _ _ _)
    | split

theorem State.swpDisable_moved (s : State) : Moved 0x2000000301 s (State.swpDisable s) := by
  unfold State.swpDisable
  with_reducible repeat' first
    | assumption
    | intro _
    | apply Moved.refl
    | decide
    | apply Moved.ite
    | (extract_lets +onlyGivenNames z; apply Moved.use z; swap; clear_value z; intro _; swap; subst z)
    | (extract_lets +onlyGivenNames z; clear_value z)
    | apply Moved.forUpTo
    | apply Moved.foldl
    | apply Moved.chain (g := State.dropSteps_moved _ _)
    | apply State.put_moved
    | (apply inBlock_of 5; rotate_left; decide; first | omega | (simp only [F.SWP_ABANDON_CNT, F.SWP_STAT_RUN] <;> omega) | (simp only [F.SWP_ABANDON_CNT, F.SWP_STAT_RUN]; (repeat' split) <;> first | omega | decide | (dsimp only; omega)))

/-! Operations of Machine/Can.lean. -/

theorem State.setCanCh_moved (s : State) (c : Nat) (x : CanChan) : Moved 0x40000 s (State.setCanCh s c x) := by
  unfold State.setCanCh
  simp -zeta only [State.withCan_eq]
  with_reducible repeat' first
    | assumption
    | intro _
    | apply Moved.refl
    | decide
    | apply Moved.ite
    | apply Moved.chain (g := State.withCan_moved _ _ ?_ )
    | (have h_can := State.Inv.can (by assumption); simp_all only [length_setAt]; done)
    | (have h_can := State.Inv.can (by assumption); simp_all [length_setAt]; done)

theorem State.setBuf_moved (s : State) (c : Nat) (b : Nat) (x : CanBuf) : Moved 0x40000 s (State.setBuf s c b x) := by
  unfold State.setBuf
  with_reducible repeat' first
    | assumption
    | intro _
    | apply Moved.refl
    | decide
    | apply Moved.ite
    | (extract_lets +onlyGivenNames z; apply Moved.use z; swap; clear_value z; intro _; swap; subst z)
    | (extract_lets +onlyGivenNames z; clear_value z)
    | apply Moved.chain (g := State.setCanCh_moved _ _ _)

theorem State.showCan_moved (s : State) (c : Nat) : Moved 0x800000000001 s (State.showCan s c) := by
  unfold State.showCan
  with_reducible repeat' first
    | assumption
    | intro _
    | apply Moved.refl
    | decide
    | apply Moved.ite
    | (extract_lets +onlyGivenNames z; apply Moved.use z; swap; clear_value z; intro _; swap; subst z)
    | (extract_lets +onlyGivenNames z; clear_value z)
    | apply State.putFlag_moved
    | apply State.put_moved
    | (apply inBlock_of 15; rotate_left; decide; first | omega | (simp only [F.CAN_STAT_BUSY, F.CAN_TXQ_CUR, F.CAN_TXQ_PEAK] <;> omega) | (simp only [F.CAN_STAT_BUSY, F.CAN_TXQ_CUR, F.CAN_TXQ_PEAK]; (repeat' split) <;> first | omega | decide | (dsimp only; omega)))

theorem State.canFill_moved (s : State) (c : Nat) (b : Nat) (f : CanFrame) : Moved 0x800000040001 s (State.canFill s c b f) := by
  unfold State.canFill
  with_reducible repeat' first
    | assumption
    | intro _
    | apply Moved.refl
    | decide
    | apply Moved.ite
    | (extract_lets +onlyGivenNames z; apply Moved.use z; swap; clear_value z; intro _; swap; subst z)
    | (extract_lets +onlyGivenNames z; clear_value z)
    | apply Moved.chain (g := State.setCanCh_moved _ _ _)
    | apply State.wr_moved
    | apply Moved.chain (g := State.setBuf_moved _ _ _ _)
    | apply State.put_moved
    | (apply inBlock_of 15; rotate_left; decide; first | omega | (simp only [F.CAN_TX_ID_ID, F.CAN_TX_STAT_ATTEMPTS, F.CAN_TX_STAT_STATE] <;> omega) | (simp only [F.CAN_TX_ID_ID, F.CAN_TX_STAT_ATTEMPTS, F.CAN_TX_STAT_STATE]; (repeat' split) <;> first | omega | decide | (dsimp only; omega)))

theorem State.canFeedOne_moved (s : State) (c : Nat) : Moved 0x800000040001 s (State.canFeedOne s c) := by
  unfold State.canFeedOne
  with_reducible repeat' first
    | assumption
    | intro _
    | apply Moved.refl
    | decide
    | apply Moved.ite
    | (extract_lets +onlyGivenNames z; apply Moved.use z; swap; clear_value z; intro _; swap; subst z)
    | (extract_lets +onlyGivenNames z; clear_value z)
    | apply Moved.chain (g := State.setCanCh_moved _ _ _)
    | apply Moved.chain (g := State.canFill_moved _ _ _ _)
    | split

theorem State.canPick_moved (s : State) (c : Nat) : Moved 0x800000040001 s (State.canPick s c) := by
  unfold State.canPick
  with_reducible repeat' first
    | assumption
    | intro _
    | apply Moved.refl
    | decide
    | apply Moved.ite
    | (extract_lets +onlyGivenNames z; apply Moved.use z; swap; clear_value z; intro _; swap; subst z)
    | (extract_lets +onlyGivenNames z; clear_value z)
    | apply Moved.chain (g := State.setCanCh_moved _ _ _)
    | apply State.put_moved
    | (apply inBlock_of 15; rotate_left; decide; first | omega | (simp only [F.CAN_TX_STAT_STATE] <;> omega) | (simp only [F.CAN_TX_STAT_STATE]; (repeat' split) <;> first | omega | decide | (dsimp only; omega)))
    | split

theorem State.canGo_moved (s : State) (c : Nat) : Moved 0x800000040001 s (State.canGo s c) := by
  unfold State.canGo
  with_reducible repeat' first
    | assumption
    | intro _
    | apply Moved.refl
    | decide
    | apply Moved.ite
    | apply Moved.forUpTo
    | apply Moved.chain (g := State.canFeedOne_moved _ _)
    | apply Moved.chain (g := State.showCan_moved _ _)
    | apply Moved.chain (g := State.canPick_moved _ _)

theorem State.canSend_moved (s : State) (c : Nat) (f : CanFrame) : Moved 0x800000040001 s (State.canSend s c f) := by
  unfold State.canSend
  with_reducible repeat' first
    | assumption
    | intro _
    | apply Moved.refl
    | decide
    | apply Moved.ite
    | (extract_lets +onlyGivenNames z; apply Moved.use z; swap; clear_value z; intro _; swap; subst z)
    | (extract_lets +onlyGivenNames z; clear_value z)
    | apply Moved.getD
    | apply Moved.chain (g := State.setCanCh_moved _ _ _)
    | apply Moved.chain (g := State.canGo_moved _ _)
    | apply State.event_moved
    | (apply inBlock_of 15; rotate_left; decide; first | omega | (simp only [Ev.CAN_TXQ_OVF, F.CAN_EVT_CNT2_TXQ_OVF, F.CAN_EVT_TXQ_OVF] <;> omega) | (simp only [Ev.CAN_TXQ_OVF, F.CAN_EVT_CNT2_TXQ_OVF, F.CAN_EVT_TXQ_OVF]; (repeat' split) <;> first | omega | decide | (dsimp only; omega)))
    | split

theorem State.bufEnd_moved (s : State) (c : Nat) (b : Nat) (result : Nat) : Moved 0x800000040001 s (State.bufEnd s c b result) := by
  unfold State.bufEnd
  with_reducible repeat' first
    | assumption
    | intro _
    | apply Moved.refl
    | decide
    | apply Moved.ite
    | (extract_lets +onlyGivenNames z; apply Moved.use z; swap; clear_value z; intro _; swap; subst z)
    | (extract_lets +onlyGivenNames z; clear_value z)
    | apply State.bump_moved
    | apply Moved.chain (g := State.setCanCh_moved _ _ _)
    | apply Moved.chain (g := State.setBuf_moved _ _ _ _)
    | apply State.put_moved
    | apply State.event_moved
    | (apply inBlock_of 15; rotate_left; decide; first | omega | (simp only [Ev.CAN_TX_FAIL, F.CAN_EVT_CNT2_TX_FAIL, F.CAN_EVT_TX_FAIL, F.CAN_TX_CNT0_DONE, F.CAN_TX_CNT0_FAILED, F.CAN_TX_CNT1_CANCELLED, F.CAN_TX_STAT_STATE] <;> omega) | (simp only [Ev.CAN_TX_FAIL, F.CAN_EVT_CNT2_TX_FAIL, F.CAN_EVT_TX_FAIL, F.CAN_TX_CNT0_DONE, F.CAN_TX_CNT0_FAILED, F.CAN_TX_CNT1_CANCELLED, F.CAN_TX_STAT_STATE]; (repeat' split) <;> first | omega | decide | (dsimp only; omega)))
    | split

theorem State.canErrors_moved (s : State) (c : Nat) (tec : Nat) (recv : Nat) : Moved 0x800000040001 s (State.canErrors s c tec recv) := by
  unfold State.canErrors
  with_reducible repeat' first
    | assumption
    | intro _
    | apply Moved.refl
    | decide
    | apply Moved.ite
    | (extract_lets +onlyGivenNames z; apply Moved.use z; swap; clear_value z; intro _; swap; subst z)
    | (extract_lets +onlyGivenNames z; clear_value z)
    | apply State.eventIf_moved
    | apply Moved.chain (g := State.setCanCh_moved _ _ _)
    | apply State.putFlag_moved
    | apply State.put_moved
    | apply State.event_moved
    | (apply inBlock_of 15; rotate_left; decide; first | omega | (simp only [Ev.CAN_BUS_OFF, Ev.CAN_ERR_PASSIVE, Ev.CAN_ERR_WARN, F.CAN_EVT_BUS_OFF, F.CAN_EVT_CNT0_BUS_OFF, F.CAN_EVT_CNT0_ERR_PASSIVE, F.CAN_EVT_CNT1_ERR_WARN, F.CAN_EVT_ERR_PASSIVE, F.CAN_EVT_ERR_WARN, F.CAN_STAT_REC, F.CAN_STAT_RP, F.CAN_STAT_STATE, F.CAN_STAT_TEC, F.CAN_STAT_WARN, F.CAN_TX_STAT_STATE] <;> omega) | (simp only [Ev.CAN_BUS_OFF, Ev.CAN_ERR_PASSIVE, Ev.CAN_ERR_WARN, F.CAN_EVT_BUS_OFF, F.CAN_EVT_CNT0_BUS_OFF, F.CAN_EVT_CNT0_ERR_PASSIVE, F.CAN_EVT_CNT1_ERR_WARN, F.CAN_EVT_ERR_PASSIVE, F.CAN_EVT_ERR_WARN, F.CAN_STAT_REC, F.CAN_STAT_RP, F.CAN_STAT_STATE, F.CAN_STAT_TEC, F.CAN_STAT_WARN, F.CAN_TX_STAT_STATE]; (repeat' split) <;> first | omega | decide | (dsimp only; omega)))
    | split

theorem State.canLeave_moved (s : State) (c : Nat) : Moved 0x800000040001 s (State.canLeave s c) := by
  unfold State.canLeave
  with_reducible repeat' first
    | assumption
    | intro _
    | apply Moved.refl
    | decide
    | apply Moved.ite
    | (extract_lets +onlyGivenNames z; apply Moved.use z; swap; clear_value z; intro _; swap; subst z)
    | (extract_lets +onlyGivenNames z; clear_value z)
    | apply Moved.chain (g := State.setCanCh_moved _ _ _)
    | apply State.put_moved
    | (apply inBlock_of 15; rotate_left; decide; first | omega | (simp only [F.CAN_STAT_STATE] <;> omega) | (simp only [F.CAN_STAT_STATE]; (repeat' split) <;> first | omega | decide | (dsimp only; omega)))

theorem State.canNext_moved (s : State) (c : Nat) : Moved 0x800000040001 s (State.canNext s c) := by
  unfold State.canNext
  with_reducible repeat' first
    | assumption
    | intro _
    | apply Moved.refl
    | decide
    | apply Moved.ite
    | apply Moved.chain (g := State.canLeave_moved _ _)
    | apply Moved.chain (g := State.showCan_moved _ _)
    | apply Moved.chain (g := State.canGo_moved _ _)
    | split

theorem State.canDelay_moved (s : State) (c : Nat) (delay : Option (BitVec 7)) : Moved 0x800000000001 s (State.canDelay s c delay) := by
  unfold State.canDelay
  with_reducible repeat' first
    | assumption
    | intro _
    | apply Moved.refl
    | decide
    | apply Moved.ite
    | apply State.put_moved
    | (apply inBlock_of 15; rotate_left; decide; first | omega | (simp only [F.CAN_TDC_TDCV] <;> omega) | (simp only [F.CAN_TDC_TDCV]; (repeat' split) <;> first | omega | decide | (dsimp only; omega)))
    | split

theorem State.canReady_moved (s : State) (c : Nat) : Moved 0x800000040001 s (State.canReady s c) := by
  unfold State.canReady
  with_reducible repeat' first
    | assumption
    | intro _
    | apply Moved.refl
    | decide
    | apply Moved.ite
    | (extract_lets +onlyGivenNames z; apply Moved.use z; swap; clear_value z; intro _; swap; subst z)
    | (extract_lets +onlyGivenNames z; clear_value z)
    | apply Moved.chain (g := State.setCanCh_moved _ _ _)
    | apply Moved.chain (g := State.canPick_moved _ _)
    | split

theorem State.canDone_moved (s : State) (c : Nat) (b : Nat) (f : CanFrame) (delay : Option (BitVec 7)) (sof : Tc) : Moved 0x800008040001 s (State.canDone s c b f delay sof) := by
  unfold State.canDone
  with_reducible repeat' first
    | assumption
    | intro _
    | apply Moved.refl
    | decide
    | apply Moved.ite
    | (extract_lets +onlyGivenNames z; apply Moved.use z; swap; clear_value z; intro _; swap; subst z)
    | (extract_lets +onlyGivenNames z; clear_value z)
    | apply Moved.chain (g := State.bufEnd_moved _ _ _ _)
    | apply State.wr64_moved
    | apply Moved.chain (g := State.canNext_moved _ _)
    | apply Moved.chain (g := State.canErrors_moved _ _ _ _)
    | apply State.put_moved
    | apply Moved.chain (g := State.canDelay_moved _ _ _)
    | apply Moved.chain (g := State.emit_moved _ _)
    | (apply inBlock_of 15; rotate_left; decide; first | omega | (simp only [F.CAN_TM_TS_LO_VALUE, F.CAN_TX_TS_VALUE] <;> omega) | (simp only [F.CAN_TM_TS_LO_VALUE, F.CAN_TX_TS_VALUE]; (repeat' split) <;> first | omega | decide | (dsimp only; omega)))
    | split

theorem State.canAgain_moved (s : State) (c : Nat) (b : Nat) : Moved 0x800000040001 s (State.canAgain s c b) := by
  unfold State.canAgain
  with_reducible repeat' first
    | assumption
    | intro _
    | apply Moved.refl
    | decide
    | apply Moved.ite
    | (extract_lets +onlyGivenNames z; apply Moved.use z; swap; clear_value z; intro _; swap; subst z)
    | (extract_lets +onlyGivenNames z; clear_value z)
    | apply Moved.chain (g := State.bufEnd_moved _ _ _ _)
    | apply Moved.chain (g := State.setCanCh_moved _ _ _)
    | apply State.bumpSat_moved
    | apply State.put_moved
    | (apply inBlock_of 15; rotate_left; decide; first | omega | (simp only [F.CAN_ABANDON_CNT, F.CAN_TX_STAT_STATE] <;> omega) | (simp only [F.CAN_ABANDON_CNT, F.CAN_TX_STAT_STATE]; (repeat' split) <;> first | omega | decide | (dsimp only; omega)))
    | split

theorem State.canFail_moved (s : State) (c : Nat) (b : Nat) (e : CanError) (excepted : Bool) (more : Nat) : Moved 0x800000040001 s (State.canFail s c b e excepted more) := by
  unfold State.canFail
  with_reducible repeat' first
    | assumption
    | intro _
    | apply Moved.refl
    | decide
    | apply Moved.ite
    | (extract_lets +onlyGivenNames z; apply Moved.use z; swap; clear_value z; intro _; swap; subst z)
    | (extract_lets +onlyGivenNames z; clear_value z)
    | apply Moved.chain (g := State.bufEnd_moved _ _ _ _)
    | apply Moved.chain (g := State.canNext_moved _ _)
    | apply Moved.chain (g := State.canErrors_moved _ _ _ _)
    | apply Moved.chain (g := State.setBuf_moved _ _ _ _)
    | apply State.put_moved
    | apply Moved.chain (g := State.canAgain_moved _ _ _)
    | (apply inBlock_of 15; rotate_left; decide; first | omega | (simp only [F.CAN_STAT_LEC, F.CAN_TX_STAT_ATTEMPTS] <;> omega) | (simp only [F.CAN_STAT_LEC, F.CAN_TX_STAT_ATTEMPTS]; (repeat' split) <;> first | omega | decide | (dsimp only; omega)))
    | split

theorem State.canIdle_moved (s : State) (c : Nat) : Moved 0x800000040001 s (State.canIdle s c) := by
  unfold State.canIdle
  with_reducible repeat' first
    | assumption
    | intro _
    | apply Moved.refl
    | decide
    | apply Moved.ite
    | (extract_lets +onlyGivenNames z; apply Moved.use z; swap; clear_value z; intro _; swap; subst z)
    | (extract_lets +onlyGivenNames z; clear_value z)
    | apply Moved.chain (g := State.setCanCh_moved _ _ _)
    | apply Moved.chain (g := State.canGo_moved _ _)

theorem State.canCancel_moved (s : State) (c : Nat) (b : Nat) (won : Bool) : Moved 0x800000040001 s (State.canCancel s c b won) := by
  unfold State.canCancel
  with_reducible repeat' first
    | assumption
    | intro _
    | apply Moved.refl
    | decide
    | apply Moved.ite
    | apply Moved.chain (g := State.bufEnd_moved _ _ _ _)
    | apply Moved.chain (g := State.setBuf_moved _ _ _ _)
    | split

theorem State.txCancel_moved (s : State) (c : Nat) (bufs : Nat) (won : Bool) : Moved 0x800000040001 s (State.txCancel s c bufs won) := by
  unfold State.txCancel
  with_reducible repeat' first
    | assumption
    | intro _
    | apply Moved.refl
    | decide
    | apply Moved.ite
    | apply Moved.forUpTo
    | apply Moved.chain (g := State.canCancel_moved _ _ _ _)
    | apply Moved.chain (g := State.canNext_moved _ _)
    | split

theorem State.canRecover_moved (s : State) (c : Nat) : Moved 0x40000 s (State.canRecover s c) := by
  unfold State.canRecover
  with_reducible repeat' first
    | assumption
    | intro _
    | apply Moved.refl
    | decide
    | apply Moved.ite
    | (extract_lets +onlyGivenNames z; apply Moved.use z; swap; clear_value z; intro _; swap; subst z)
    | (extract_lets +onlyGivenNames z; clear_value z)
    | apply Moved.chain (g := State.setCanCh_moved _ _ _)
    | split

theorem State.canStore_moved (s : State) (c : Nat) (k : Nat) (f : CanRx) (sof : Tc) : Moved 0x800000000001 s (State.canStore s c k f sof) := by
  unfold State.canStore
  with_reducible repeat' first
    | assumption
    | intro _
    | apply Moved.refl
    | decide
    | apply Moved.ite
    | (extract_lets +onlyGivenNames z; apply Moved.use z; swap; clear_value z; intro _; swap; subst z)
    | (extract_lets +onlyGivenNames z; clear_value z)
    | apply Moved.forUpTo
    | apply State.eventIf_moved
    | apply State.putFlag_moved
    | apply State.put_moved
    | apply State.event_moved
    | (apply inBlock_of 15; rotate_left; decide; first | omega | (simp only [Ev.CAN_RXO_LOST, Ev.CAN_RXO_NEW, Ev.CAN_RX_LOST, F.CAN_EVT_CNT1_RX_LOST, F.CAN_EVT_RX_LOST, F.CAN_RX_CNT_LOST, F.CAN_RX_CNT_NEW, F.CAN_RX_D_VALUE, F.CAN_RX_HDR_BRS, F.CAN_RX_HDR_DLC, F.CAN_RX_HDR_ESI, F.CAN_RX_HDR_FDF, F.CAN_RX_HDR_LEN, F.CAN_RX_HDR_LOST, F.CAN_RX_HDR_NEW, F.CAN_RX_TS_VALUE] <;> omega) | (simp only [Ev.CAN_RXO_LOST, Ev.CAN_RXO_NEW, Ev.CAN_RX_LOST, F.CAN_EVT_CNT1_RX_LOST, F.CAN_EVT_RX_LOST, F.CAN_RX_CNT_LOST, F.CAN_RX_CNT_NEW, F.CAN_RX_D_VALUE, F.CAN_RX_HDR_BRS, F.CAN_RX_HDR_DLC, F.CAN_RX_HDR_ESI, F.CAN_RX_HDR_FDF, F.CAN_RX_HDR_LEN, F.CAN_RX_HDR_LOST, F.CAN_RX_HDR_NEW, F.CAN_RX_TS_VALUE]; (repeat' split) <;> first | omega | decide | (dsimp only; omega)))

theorem State.canGood_moved (s : State) (c : Nat) : Moved 0x800010040001 s (State.canGood s c) := by
  unfold State.canGood
  with_reducible repeat' first
    | assumption
    | intro _
    | apply Moved.refl
    | decide
    | apply Moved.ite
    | (extract_lets +onlyGivenNames z; apply Moved.use z; swap; clear_value z; intro _; swap; subst z)
    | (extract_lets +onlyGivenNames z; clear_value z)
    | apply Moved.chain (g := State.canErrors_moved _ _ _ _)
    | apply Moved.chain (g := State.took_moved _)
    | split

theorem State.canTake_moved (s : State) (c : Nat) (id : Nat) : Moved 0x800000000001 s (State.canTake s c id) := by
  unfold State.canTake
  with_reducible repeat' first
    | assumption
    | intro _
    | apply Moved.refl
    | decide
    | apply Moved.ite
    | apply State.put_moved
    | (apply inBlock_of 15; rotate_left; decide; first | omega | (simp only [F.CAN_RX_HDR_NEW] <;> omega) | (simp only [F.CAN_RX_HDR_NEW]; (repeat' split) <;> first | omega | decide | (dsimp only; omega)))
    | split

theorem State.takeRequestFrame_moved (s : State) : Moved 0x800000000001 s (State.takeRequestFrame s) := by
  unfold State.takeRequestFrame
  with_reducible repeat' first
    | assumption
    | intro _
    | apply Moved.refl
    | decide
    | apply Moved.ite
    | apply State.put_moved
    | (apply inBlock_of 15; rotate_left; decide; first | omega | (simp only [F.CAN_RX_HDR_NEW] <;> omega) | (simp only [F.CAN_RX_HDR_NEW]; (repeat' split) <;> first | omega | decide | (dsimp only; omega)))
    | split

theorem State.serviceOn_moved (s : State) : Moved 0x800000000021 s (State.serviceOn s) := by
  unfold State.serviceOn
  simp -zeta only [State.withObj_eq]
  with_reducible repeat' first
    | assumption
    | intro _
    | apply Moved.refl
    | decide
    | apply Moved.ite
    | (extract_lets +onlyGivenNames z; apply Moved.use z; swap; clear_value z; intro _; swap; subst z)
    | (extract_lets +onlyGivenNames z; clear_value z)
    | apply Moved.chain (g := State.takeRequestFrame_moved _)
    | apply Moved.chain (g := State.withObj_moved _ _ )

theorem State.rxHold_moved (s : State) (c : Nat) (k : Nat) : Moved 0x40000 s (State.rxHold s c k) := by
  unfold State.rxHold
  with_reducible repeat' first
    | assumption
    | intro _
    | apply Moved.refl
    | decide
    | apply Moved.ite
    | (extract_lets +onlyGivenNames z; apply Moved.use z; swap; clear_value z; intro _; swap; subst z)
    | (extract_lets +onlyGivenNames z; clear_value z)
    | apply Moved.foldl
    | apply Moved.chain (g := State.setCanCh_moved _ _ _)

theorem State.canEnable_moved (s : State) (c : Nat) : Moved 0x800000040001 s (State.canEnable s c) := by
  unfold State.canEnable
  with_reducible repeat' first
    | assumption
    | intro _
    | apply Moved.refl
    | decide
    | apply Moved.ite
    | (extract_lets +onlyGivenNames z; apply Moved.use z; swap; clear_value z; intro _; swap; subst z)
    | (extract_lets +onlyGivenNames z; clear_value z)
    | apply Moved.chain (g := State.setCanCh_moved _ _ _)
    | apply Moved.chain (g := State.canErrors_moved _ _ _ _)
    | apply State.put_moved
    | apply Moved.chain (g := State.canGo_moved _ _)
    | (apply inBlock_of 15; rotate_left; decide; first | omega | (simp only [F.CAN_CTRL_EN, F.CAN_STAT_STATE] <;> omega) | (simp only [F.CAN_CTRL_EN, F.CAN_STAT_STATE]; (repeat' split) <;> first | omega | decide | (dsimp only; omega)))

theorem State.canAbandon_moved (s : State) (c : Nat) : Moved 0x800000040001 s (State.canAbandon s c) := by
  unfold State.canAbandon
  with_reducible repeat' first
    | assumption
    | intro _
    | apply Moved.refl
    | decide
    | apply Moved.ite
    | (extract_lets +onlyGivenNames z; apply Moved.use z; swap; clear_value z; intro _; swap; subst z)
    | (extract_lets +onlyGivenNames z; clear_value z)
    | apply Moved.foldl
    | apply Moved.chain (g := State.bufEnd_moved _ _ _ _)
    | apply Moved.chain (g := State.setCanCh_moved _ _ _)
    | apply Moved.chain (g := State.setBuf_moved _ _ _ _)
    | apply Moved.chain (g := State.showCan_moved _ _)
    | apply State.put_moved
    | (apply inBlock_of 15; rotate_left; decide; first | omega | (simp only [F.CAN_ABANDON_CNT] <;> omega) | (simp only [F.CAN_ABANDON_CNT]; (repeat' split) <;> first | omega | decide | (dsimp only; omega)))
    | split

theorem State.canDisable_moved (s : State) (c : Nat) : Moved 0x800000040001 s (State.canDisable s c) := by
  unfold State.canDisable
  with_reducible repeat' first
    | assumption
    | intro _
    | apply Moved.refl
    | decide
    | apply Moved.ite
    | (extract_lets +onlyGivenNames z; apply Moved.use z; swap; clear_value z; intro _; swap; subst z)
    | (extract_lets +onlyGivenNames z; clear_value z)
    | apply Moved.chain (g := State.canAbandon_moved _ _)
    | apply Moved.chain (g := State.canLeave_moved _ _)
    | apply Moved.chain (g := State.showCan_moved _ _)
    | apply State.put_moved
    | (apply inBlock_of 15; rotate_left; decide; first | omega | (simp only [F.CAN_CTRL_EN] <;> omega) | (simp only [F.CAN_CTRL_EN]; (repeat' split) <;> first | omega | decide | (dsimp only; omega)))
    | split

theorem State.canCtrl_moved (s : State) (c : Nat) (v : Word) : Moved 0x800000040001 s (State.canCtrl s c v) := by
  unfold State.canCtrl
  with_reducible repeat' first
    | assumption
    | intro _
    | apply Moved.refl
    | decide
    | apply Moved.ite
    | (extract_lets +onlyGivenNames z; apply Moved.use z; swap; clear_value z; intro _; swap; subst z)
    | (extract_lets +onlyGivenNames z; clear_value z)
    | apply Moved.chain (g := State.canEnable_moved _ _)
    | apply Moved.chain (g := State.canNext_moved _ _)
    | apply Moved.chain (g := State.canDisable_moved _ _)
    | apply State.putFlag_moved
    | apply Moved.chain (g := State.canRecover_moved _ _)
    | (apply inBlock_of 15; rotate_left; decide; first | omega | (simp only [F.CAN_CTRL_LISTEN] <;> omega) | (simp only [F.CAN_CTRL_LISTEN]; (repeat' split) <;> first | omega | decide | (dsimp only; omega)))
    | split

theorem State.canWithdraw_moved (s : State) : Moved 0xa00000040001 s (State.canWithdraw s) := by
  unfold State.canWithdraw
  with_reducible repeat' first
    | assumption
    | intro _
    | apply Moved.refl
    | decide
    | apply Moved.ite
    | (extract_lets +onlyGivenNames z; apply Moved.use z; swap; clear_value z; intro _; swap; subst z)
    | (extract_lets +onlyGivenNames z; clear_value z)
    | apply Moved.forUpTo
    | apply Moved.foldl
    | apply Moved.chain (g := State.canAbandon_moved _ _)
    | apply Moved.chain (g := State.staleTransfer_moved _ _)
    | apply State.put_moved
    | (apply inBlock_of 15; rotate_left; decide; first | omega | (simp only [F.CAN_STAT_LID_HOLD] <;> omega) | (simp only [F.CAN_STAT_LID_HOLD]; (repeat' split) <;> first | omega | decide | (dsimp only; omega)))
    | split

theorem State.canResume_moved (s : State) : Moved 0x800000040001 s (State.canResume s) := by
  unfold State.canResume
  with_reducible repeat' first
    | assumption
    | intro _
    | apply Moved.refl
    | decide
    | apply Moved.ite
    | apply Moved.forUpTo
    | apply State.put_moved
    | apply Moved.chain (g := State.canGo_moved _ _)
    | (apply inBlock_of 15; rotate_left; decide; first | omega | (simp only [F.CAN_STAT_LID_HOLD] <;> omega) | (simp only [F.CAN_STAT_LID_HOLD]; (repeat' split) <;> first | omega | decide | (dsimp only; omega)))
    | split

theorem State.canCommit_moved (s : State) : Moved 0x40000 s (State.canCommit s) := by
  unfold State.canCommit
  with_reducible repeat' first
    | assumption
    | intro _
    | apply Moved.refl
    | decide
    | apply Moved.ite
    | (extract_lets +onlyGivenNames z; apply Moved.use z; swap; clear_value z; intro _; swap; subst z)
    | (extract_lets +onlyGivenNames z; clear_value z)
    | apply Moved.forUpTo
    | apply Moved.chain (g := State.setCanCh_moved _ _ _)
    | split

theorem State.canLoad_moved (s : State) (c : Nat) : Moved 0x800000040001 s (State.canLoad s c) := by
  unfold State.canLoad
  with_reducible repeat' first
    | assumption
    | intro _
    | apply Moved.refl
    | decide
    | apply Moved.ite
    | (extract_lets +onlyGivenNames z; apply Moved.use z; swap; clear_value z; intro _; swap; subst z)
    | (extract_lets +onlyGivenNames z; clear_value z)
    | apply Moved.forUpTo
    | apply Moved.chain (g := State.canEnable_moved _ _)
    | apply Moved.chain (g := State.setCanCh_moved _ _ _)
    | apply State.wr_moved
    | apply State.putFlag_moved
    | apply State.put_moved
    | (apply inBlock_of 15; rotate_left; decide; first | omega | (simp only [F.CAN_CTRL_LISTEN, F.CAN_DBT_DBRP, F.CAN_NBT_NBRP, F.CAN_RX_CFG_ID, F.CAN_RX_HDR_USE, F.CAN_TDC_TDCO, F.CAN_TM_CFG_EN, F.CAN_TM_ID_ID, F.CAN_TXCFG_ORDER, F.CAN_WAKE_CFG_MODE, F.CAN_WUF_DMASK_HI_VALUE, F.CAN_WUF_DMASK_LO_VALUE, F.CAN_WUF_ID_ID, F.CAN_WUF_MASK_MASK] <;> omega) | (simp only [F.CAN_CTRL_LISTEN, F.CAN_DBT_DBRP, F.CAN_NBT_NBRP, F.CAN_RX_CFG_ID, F.CAN_RX_HDR_USE, F.CAN_TDC_TDCO, F.CAN_TM_CFG_EN, F.CAN_TM_ID_ID, F.CAN_TXCFG_ORDER, F.CAN_WAKE_CFG_MODE, F.CAN_WUF_DMASK_HI_VALUE, F.CAN_WUF_DMASK_LO_VALUE, F.CAN_WUF_ID_ID, F.CAN_WUF_MASK_MASK]; (repeat' split) <;> first | omega | decide | (dsimp only; omega)))
    | split

theorem State.canSleep_moved (s : State) : Moved 0x800000040001 s (State.canSleep s) := by
  unfold State.canSleep
  with_reducible repeat' first
    | assumption
    | intro _
    | apply Moved.refl
    | decide
    | apply Moved.ite
    | (extract_lets +onlyGivenNames z; apply Moved.use z; swap; clear_value z; intro _; swap; subst z)
    | (extract_lets +onlyGivenNames z; clear_value z)
    | apply Moved.forUpTo
    | apply Moved.chain (g := State.setCanCh_moved _ _ _)
    | apply Moved.chain (g := State.canDisable_moved _ _)
    | split

end Sys2Proof.Machine
end

