-- ==== Sys2Proof/Laws/MovedSafety.lean ====
section
/-! SUPPORT. Laws/MovedSafety.lean: what each operation may change. -/
namespace Sys2Proof.Machine

set_option linter.unreachableTactic false
set_option linter.unusedTactic false
set_option linter.unusedVariables false
set_option linter.unusedSimpArgs false
set_option linter.unnecessarySeqFocus false
set_option linter.style.nameCheck false

open Sys2Proof

/-! Operations of Machine/Saf.lean. -/

theorem State.evalFunction_moved (s : State) (f : Nat) : Moved 0x100000000001 s (State.evalFunction s f) := by
  unfold State.evalFunction
  with_reducible repeat' first
    | assumption
    | intro _
    | apply Moved.refl
    | decide
    | apply Moved.ite
    | (extract_lets +onlyGivenNames z; apply Moved.use z; swap; clear_value z; intro _; swap; subst z)
    | (extract_lets +onlyGivenNames z; clear_value z)
    | apply State.eventIf_moved
    | apply State.putBit_moved
    | (apply inBlock_of 12; rotate_left; decide; first | omega | (simp only [Ev.SAF_DEMAND, F.SAF_EVT_CNT0_DEMAND, F.SAF_EVT_DEMAND, F.SAF_FN_DEMAND] <;> omega) | (simp only [Ev.SAF_DEMAND, F.SAF_EVT_CNT0_DEMAND, F.SAF_EVT_DEMAND, F.SAF_FN_DEMAND]; (repeat' split) <;> first | omega | decide | (dsimp only; omega)))

theorem State.driveGroups_moved (s : State) (tc : Tc) : Moved 0x138000223001 s (State.driveGroups s tc) := by
  unfold State.driveGroups
  with_reducible repeat' first
    | assumption
    | intro _
    | apply Moved.refl
    | decide
    | apply Moved.ite
    | (extract_lets +onlyGivenNames z; apply Moved.use z; swap; clear_value z; intro _; swap; subst z)
    | (extract_lets +onlyGivenNames z; clear_value z)
    | apply State.putFlag_moved
    | apply Moved.chain (g := State.giveInput_moved _ _ _ _)
    | (apply inBlock_of 12; rotate_left; decide; first | omega | (simp only [F.SAF_STAT_G0, F.SAF_STAT_G1] <;> omega) | (simp only [F.SAF_STAT_G0, F.SAF_STAT_G1]; (repeat' split) <;> first | omega | decide | (dsimp only; omega)))

theorem State.safEval_moved (s : State) (tc : Tc) : Moved 0x138000223001 s (State.safEval s tc) := by
  unfold State.safEval
  with_reducible repeat' first
    | assumption
    | intro _
    | apply Moved.refl
    | decide
    | apply Moved.ite
    | (extract_lets +onlyGivenNames z; apply Moved.use z; swap; clear_value z; intro _; swap; subst z)
    | (extract_lets +onlyGivenNames z; clear_value z)
    | apply Moved.forUpTo
    | apply Moved.chain (g := State.driveGroups_moved _ _)
    | apply Moved.chain (g := State.evalFunction_moved _ _)
    | apply State.putFlag_moved
    | (apply inBlock_of 12; rotate_left; decide; first | omega | (simp only [F.SAF_SI_STAT_DEMAND] <;> omega) | (simp only [F.SAF_SI_STAT_DEMAND]; (repeat' split) <;> first | omega | decide | (dsimp only; omega)))

theorem State.crossFault_moved (s : State) (k : Nat) : Moved 0x100000020001 s (State.crossFault s k) := by
  unfold State.crossFault
  simp -zeta only [State.withSaf_eq]
  with_reducible repeat' first
    | assumption
    | intro _
    | apply Moved.refl
    | decide
    | apply Moved.ite
    | apply State.put_moved
    | apply State.event_moved
    | apply Moved.chain (g := State.withSaf_moved _ _ ?_ )
    | (apply inBlock_of 12; rotate_left; decide; first | omega | (simp only [Ev.SAF_CROSS, F.SAF_EVT_CNT1_CROSS, F.SAF_EVT_CROSS, F.SAF_SI_STAT_CROSS] <;> omega) | (simp only [Ev.SAF_CROSS, F.SAF_EVT_CNT1_CROSS, F.SAF_EVT_CROSS, F.SAF_SI_STAT_CROSS]; (repeat' split) <;> first | omega | decide | (dsimp only; omega)))
    | (have h_saf := State.Inv.saf (by assumption); simp_all only [Saf.Sized, length_setAt]; done)
    | (have h_saf := State.Inv.saf (by assumption); simp_all [Saf.Sized, Saf.reset, length_setAt]; done)

theorem State.discFault_moved (s : State) (k : Nat) : Moved 0x100000020001 s (State.discFault s k) := by
  unfold State.discFault
  simp -zeta only [State.withSaf_eq]
  with_reducible repeat' first
    | assumption
    | intro _
    | apply Moved.refl
    | decide
    | apply Moved.ite
    | apply State.put_moved
    | apply State.event_moved
    | apply Moved.chain (g := State.withSaf_moved _ _ ?_ )
    | (apply inBlock_of 12; rotate_left; decide; first | omega | (simp only [Ev.SAF_DISC, F.SAF_EVT_CNT0_DISC, F.SAF_EVT_DISC, F.SAF_SI_STAT_DISC] <;> omega) | (simp only [Ev.SAF_DISC, F.SAF_EVT_CNT0_DISC, F.SAF_EVT_DISC, F.SAF_SI_STAT_DISC]; (repeat' split) <;> first | omega | decide | (dsimp only; omega)))
    | split
    | (have h_saf := State.Inv.saf (by assumption); simp_all only [Saf.Sized, length_setAt]; done)
    | (have h_saf := State.Inv.saf (by assumption); simp_all [Saf.Sized, Saf.reset, length_setAt]; done)

theorem State.discCount_moved (s : State) (k : Nat) : Moved 0x100000020001 s (State.discCount s k) := by
  unfold State.discCount
  with_reducible repeat' first
    | assumption
    | intro _
    | apply Moved.refl
    | decide
    | apply Moved.ite
    | apply State.bumpSat_moved
    | apply Moved.chain (g := State.discFault_moved _ _)
    | apply State.put_moved
    | (apply inBlock_of 12; rotate_left; decide; first | omega | (simp only [F.SAF_SI_STAT_DCNT] <;> omega) | (simp only [F.SAF_SI_STAT_DCNT]; (repeat' split) <;> first | omega | decide | (dsimp only; omega)))
    | split

theorem State.discRelease_moved (s : State) (k : Nat) : Moved 0x100000020001 s (State.discRelease s k) := by
  unfold State.discRelease
  simp -zeta only [State.withSaf_eq]
  with_reducible repeat' first
    | assumption
    | intro _
    | apply Moved.refl
    | decide
    | apply Moved.ite
    | (extract_lets +onlyGivenNames z; apply Moved.use z; swap; clear_value z; intro _; swap; subst z)
    | (extract_lets +onlyGivenNames z; (have t9 : Saf := z); clear t9; subst z)
    | (extract_lets +onlyGivenNames z; clear_value z)
    | apply State.putFlag_moved
    | apply Moved.chain (g := State.withSaf_moved _ _ ?_ )
    | (apply inBlock_of 12; rotate_left; decide; first | omega | (simp only [F.SAF_SI_STAT_CROSS, F.SAF_SI_STAT_DISC] <;> omega) | (simp only [F.SAF_SI_STAT_CROSS, F.SAF_SI_STAT_DISC]; (repeat' split) <;> first | omega | decide | (dsimp only; omega)))
    | split
    | (have h_saf := State.Inv.saf (by assumption); simp_all only [Saf.Sized, length_setAt]; done)
    | (have h_saf := State.Inv.saf (by assumption); simp_all [Saf.Sized, Saf.reset, length_setAt]; done)

theorem State.safReset_moved (s : State) (fns : Nat) (o : Origin) (tc : Tc) : Moved 0x338000223001 s (State.safReset s fns o tc) := by
  unfold State.safReset
  with_reducible repeat' first
    | assumption
    | intro _
    | apply Moved.refl
    | decide
    | apply Moved.ite
    | apply Moved.forUpTo
    | apply Moved.chain (g := State.driveGroups_moved _ _)
    | apply State.putBit_moved
    | apply Moved.chain (g := State.noteStale_moved _ _ _)
    | (apply inBlock_of 12; rotate_left; decide; first | omega | (simp only [F.SAF_FN_DEMAND] <;> omega) | (simp only [F.SAF_FN_DEMAND]; (repeat' split) <;> first | omega | decide | (dsimp only; omega)))
    | split

theorem State.putRotation_moved (s : State) (p : Nat) : Moved 0x100000000001 s (State.putRotation s p) := by
  unfold State.putRotation
  with_reducible repeat' first
    | assumption
    | intro _
    | apply Moved.refl
    | decide
    | apply Moved.ite
    | apply State.put_moved
    | (apply inBlock_of 12; rotate_left; decide; first | omega | (simp only [F.SAF_TP_STAT_DRIVER, F.SAF_TP_STAT_SWITCH] <;> omega) | (simp only [F.SAF_TP_STAT_DRIVER, F.SAF_TP_STAT_SWITCH]; (repeat' split) <;> first | omega | decide | (dsimp only; omega)))

theorem State.testFault_moved (s : State) (k : Nat) (c : Nat) (tc : Tc) : Moved 0x110000221001 s (State.testFault s k c tc) := by
  unfold State.testFault
  with_reducible repeat' first
    | assumption
    | intro _
    | apply Moved.refl
    | decide
    | apply Moved.ite
    | (extract_lets +onlyGivenNames z; apply Moved.use z; swap; clear_value z; intro _; swap; subst z)
    | (extract_lets +onlyGivenNames z; clear_value z)
    | apply Moved.chain (g := State.dropContactors_moved _ _ _)
    | apply Moved.chain (g := State.energise_moved _ _ _ _)
    | apply State.put_moved
    | apply Moved.chain (g := State.openPair_moved _ _ _)
    | apply Moved.chain (g := State.setIsl_moved _ _ _)
    | (apply inBlock_of 8; rotate_left; decide; first | omega | (simp only [F.BRK_CON_FAULT, F.SAF_STAT_TP_FAULT] <;> omega) | (simp only [F.BRK_CON_FAULT, F.SAF_STAT_TP_FAULT]; (repeat' split) <;> first | omega | decide | (dsimp only; omega)))
    | (apply inBlock_of 12; rotate_left; decide; first | omega | (simp only [F.BRK_CON_FAULT, F.SAF_STAT_TP_FAULT] <;> omega) | (simp only [F.BRK_CON_FAULT, F.SAF_STAT_TP_FAULT]; (repeat' split) <;> first | omega | decide | (dsimp only; omega)))
    | split

theorem State.energiseWaiting_moved (s : State) (tc : Tc) : Moved 0x110000221001 s (State.energiseWaiting s tc) := by
  unfold State.energiseWaiting
  with_reducible repeat' first
    | assumption
    | intro _
    | apply Moved.refl
    | decide
    | apply Moved.ite
    | (extract_lets +onlyGivenNames z; apply Moved.use z; swap; clear_value z; intro _; swap; subst z)
    | (extract_lets +onlyGivenNames z; clear_value z)
    | apply Moved.foldl
    | apply Moved.chain (g := State.energise_moved _ _ _ _)
    | apply Moved.chain (g := State.dropDue_moved _)
    | split

theorem State.showTestAges_moved (s : State) (tc : Tc) : Moved 0x100000000001 s (State.showTestAges s tc) := by
  unfold State.showTestAges
  with_reducible repeat' first
    | assumption
    | intro _
    | apply Moved.refl
    | decide
    | apply Moved.ite
    | (extract_lets +onlyGivenNames z; apply Moved.use z; swap; clear_value z; intro _; swap; subst z)
    | (extract_lets +onlyGivenNames z; clear_value z)
    | apply Moved.forUpTo
    | apply Moved.getD
    | apply State.put_moved
    | (apply inBlock_of 12; rotate_left; decide; first | omega | (simp only [F.SAF_TP_AGE_HS, F.SAF_TP_AGE_LS] <;> omega) | (simp only [F.SAF_TP_AGE_HS, F.SAF_TP_AGE_LS]; (repeat' split) <;> first | omega | decide | (dsimp only; omega)))
    | split

theorem State.setConn_moved (s : State) (c : Nat) (x : SdConn) : Moved 0x20000 s (State.setConn s c x) := by
  unfold State.setConn
  simp -zeta only [State.withSaf_eq]
  with_reducible repeat' first
    | assumption
    | intro _
    | apply Moved.refl
    | decide
    | apply Moved.ite
    | apply Moved.chain (g := State.withSaf_moved _ _ ?_ )
    | (have h_saf := State.Inv.saf (by assumption); simp_all only [Saf.Sized, length_setAt]; done)
    | (have h_saf := State.Inv.saf (by assumption); simp_all [Saf.Sized, Saf.reset, length_setAt]; done)

theorem State.sdAccepted_moved (s : State) (c : Nat) (q : BitVec 16) (tc : Tc) : Moved 0x100000020001 s (State.sdAccepted s c q tc) := by
  unfold State.sdAccepted
  with_reducible repeat' first
    | assumption
    | intro _
    | apply Moved.refl
    | decide
    | apply Moved.ite
    | apply Moved.chain (g := State.setConn_moved _ _ _)
    | apply State.put_moved
    | (apply inBlock_of 12; rotate_left; decide; first | omega | (simp only [F.SAF_SD_RX_STAT_SEQ] <;> omega) | (simp only [F.SAF_SD_RX_STAT_SEQ]; (repeat' split) <;> first | omega | decide | (dsimp only; omega)))

theorem State.sdToFault_moved (s : State) (c : Nat) : Moved 0x100000020001 s (State.sdToFault s c) := by
  unfold State.sdToFault
  with_reducible repeat' first
    | assumption
    | intro _
    | apply Moved.refl
    | decide
    | apply Moved.ite
    | apply Moved.chain (g := State.setConn_moved _ _ _)
    | apply State.put_moved
    | (apply inBlock_of 12; rotate_left; decide; first | omega | (simp only [F.SAF_SD_RX_STAT_STATE] <;> omega) | (simp only [F.SAF_SD_RX_STAT_STATE]; (repeat' split) <;> first | omega | decide | (dsimp only; omega)))

theorem State.sdSingle_moved (s : State) (c : Nat) (q : BitVec 16) (tc : Tc) : Moved 0x100000020001 s (State.sdSingle s c q tc) := by
  unfold State.sdSingle
  with_reducible repeat' first
    | assumption
    | intro _
    | apply Moved.refl
    | decide
    | apply Moved.ite
    | (extract_lets +onlyGivenNames z; apply Moved.use z; swap; clear_value z; intro _; swap; subst z)
    | (extract_lets +onlyGivenNames z; clear_value z)
    | apply State.bump_moved
    | apply Moved.chain (g := State.sdAccepted_moved _ _ _ _)
    | apply Moved.chain (g := State.sdToFault_moved _ _)
    | (apply inBlock_of 12; rotate_left; decide; first | omega | (simp only [F.SAF_SD_RX_CNT_SINGLE, F.SAF_SD_RX_STAT_SINGLE] <;> omega) | (simp only [F.SAF_SD_RX_CNT_SINGLE, F.SAF_SD_RX_STAT_SINGLE]; (repeat' split) <;> first | omega | decide | (dsimp only; omega)))
    | split

theorem State.sdDual_moved (s : State) (c : Nat) (q : BitVec 16) (d : Word) (tc : Tc) : Moved 0x100000020001 s (State.sdDual s c q d tc) := by
  unfold State.sdDual
  with_reducible repeat' first
    | assumption
    | intro _
    | apply Moved.refl
    | decide
    | apply Moved.ite
    | (extract_lets +onlyGivenNames z; apply Moved.use z; swap; clear_value z; intro _; swap; subst z)
    | (extract_lets +onlyGivenNames z; clear_value z)
    | apply State.bump_moved
    | apply Moved.chain (g := State.sdAccepted_moved _ _ _ _)
    | apply Moved.chain (g := State.setConn_moved _ _ _)
    | apply State.put_moved
    | (apply inBlock_of 12; rotate_left; decide; first | omega | (simp only [F.SAF_SD_RX_CNT_DUAL, F.SAF_SD_RX_STAT_SINGLE, F.SAF_SD_RX_STAT_STATE] <;> omega) | (simp only [F.SAF_SD_RX_CNT_DUAL, F.SAF_SD_RX_STAT_SINGLE, F.SAF_SD_RX_STAT_STATE]; (repeat' split) <;> first | omega | decide | (dsimp only; omega)))
    | split

theorem State.sdMismatch_moved (s : State) (c : Nat) : Moved 0x100000020001 s (State.sdMismatch s c) := by
  unfold State.sdMismatch
  with_reducible repeat' first
    | assumption
    | intro _
    | apply Moved.refl
    | decide
    | apply Moved.ite
    | (extract_lets +onlyGivenNames z; apply Moved.use z; swap; clear_value z; intro _; swap; subst z)
    | (extract_lets +onlyGivenNames z; clear_value z)
    | apply Moved.chain (g := State.setConn_moved _ _ _)
    | apply Moved.chain (g := State.sdToFault_moved _ _)
    | apply State.event_moved
    | (apply inBlock_of 12; rotate_left; decide; first | omega | (simp only [Ev.SAF_SD_MISMATCH, F.SAF_EVT_CNT1_SD_MISMATCH, F.SAF_EVT_SD_MISMATCH] <;> omega) | (simp only [Ev.SAF_SD_MISMATCH, F.SAF_EVT_CNT1_SD_MISMATCH, F.SAF_EVT_SD_MISMATCH]; (repeat' split) <;> first | omega | decide | (dsimp only; omega)))
    | split

theorem State.sdFirst_moved (s : State) (c : Nat) (x : SdOpen) : Moved 0x20000 s (State.sdFirst s c x) := by
  unfold State.sdFirst
  with_reducible repeat' first
    | assumption
    | intro _
    | apply Moved.refl
    | decide
    | apply Moved.ite
    | apply Moved.chain (g := State.setConn_moved _ _ _)

theorem State.sdLate_moved (s : State) (c : Nat) : Moved 0x100000000001 s (State.sdLate s c) := by
  unfold State.sdLate
  with_reducible repeat' first
    | assumption
    | intro _
    | apply Moved.refl
    | decide
    | apply Moved.ite
    | apply State.bump_moved
    | (apply inBlock_of 12; rotate_left; decide; first | omega | (simp only [F.SAF_SD_RX_ERR_LATE] <;> omega) | (simp only [F.SAF_SD_RX_ERR_LATE]; (repeat' split) <;> first | omega | decide | (dsimp only; omega)))

theorem State.sdFresh_moved (s : State) (c : Nat) (x : SdOpen) : Moved 0x100000020001 s (State.sdFresh s c x) := by
  unfold State.sdFresh
  with_reducible repeat' first
    | assumption
    | intro _
    | apply Moved.refl
    | decide
    | apply Moved.ite
    | apply Moved.chain (g := State.sdFirst_moved _ _ _)
    | apply Moved.chain (g := State.sdLate_moved _ _)
    | split

theorem State.sdCopy_moved (s : State) (c : Nat) (x : SdOpen) : Moved 0x100000020001 s (State.sdCopy s c x) := by
  unfold State.sdCopy
  with_reducible repeat' first
    | assumption
    | intro _
    | apply Moved.refl
    | decide
    | apply Moved.ite
    | (extract_lets +onlyGivenNames z; apply Moved.use z; swap; clear_value z; intro _; swap; subst z)
    | (extract_lets +onlyGivenNames z; clear_value z)
    | apply Moved.chain (g := State.sdFirst_moved _ _ _)
    | apply Moved.chain (g := State.sdDual_moved _ _ _ _ _)
    | apply Moved.chain (g := State.sdFresh_moved _ _ _)
    | apply Moved.chain (g := State.sdSingle_moved _ _ _ _)
    | apply Moved.chain (g := State.sdMismatch_moved _ _)
    | apply Moved.chain (g := State.sdLate_moved _ _)
    | split

theorem State.sdReceive_moved (s : State) (c : Nat) (eth : Bool) (l : List Byte) (tc : Tc) : Moved 0x100000020001 s (State.sdReceive s c eth l tc) := by
  unfold State.sdReceive
  with_reducible repeat' first
    | assumption
    | intro _
    | apply Moved.refl
    | decide
    | apply Moved.ite
    | apply State.bump_moved
    | apply Moved.chain (g := State.sdCopy_moved _ _ _)
    | (apply inBlock_of 12; rotate_left; decide; first | omega | (simp only [F.SAF_SD_RX_ERR_BAD] <;> omega) | (simp only [F.SAF_SD_RX_ERR_BAD]; (repeat' split) <;> first | omega | decide | (dsimp only; omega)))
    | split

theorem State.sdTimeout_moved (s : State) (c : Nat) (tc : Tc) : Moved 0x100000020001 s (State.sdTimeout s c tc) := by
  unfold State.sdTimeout
  with_reducible repeat' first
    | assumption
    | intro _
    | apply Moved.refl
    | decide
    | apply Moved.ite
    | apply Moved.chain (g := State.setConn_moved _ _ _)
    | apply State.put_moved
    | apply State.event_moved
    | (apply inBlock_of 12; rotate_left; decide; first | omega | (simp only [Ev.SAF_SD_TMO, F.SAF_EVT_CNT2_SD_TMO, F.SAF_EVT_SD_TMO, F.SAF_SD_RX_STAT_STATE] <;> omega) | (simp only [Ev.SAF_SD_TMO, F.SAF_EVT_CNT2_SD_TMO, F.SAF_EVT_SD_TMO, F.SAF_SD_RX_STAT_STATE]; (repeat' split) <;> first | omega | decide | (dsimp only; omega)))
    | split

theorem State.sdReset_moved (s : State) (conns : Nat) : Moved 0x100000020001 s (State.sdReset s conns) := by
  unfold State.sdReset
  with_reducible repeat' first
    | assumption
    | intro _
    | apply Moved.refl
    | decide
    | apply Moved.ite
    | apply Moved.forUpTo
    | apply Moved.chain (g := State.setConn_moved _ _ _)
    | apply State.put_moved
    | (apply inBlock_of 12; rotate_left; decide; first | omega | (simp only [F.SAF_SD_RX_STAT_SINGLE, F.SAF_SD_RX_STAT_STATE] <;> omega) | (simp only [F.SAF_SD_RX_STAT_SINGLE, F.SAF_SD_RX_STAT_STATE]; (repeat' split) <;> first | omega | decide | (dsimp only; omega)))
    | split

theorem State.sdWordWrite_moved (s : State) (c : Nat) (v : Word) (o : Origin) (tc : Tc) : Moved 0x338000223001 s (State.sdWordWrite s c v o tc) := by
  unfold State.sdWordWrite
  simp -zeta only [State.withSaf_eq]
  with_reducible repeat' first
    | assumption
    | intro _
    | apply Moved.refl
    | decide
    | apply Moved.ite
    | (extract_lets +onlyGivenNames z; apply Moved.use z; swap; clear_value z; intro _; swap; subst z)
    | (extract_lets +onlyGivenNames z; (have t9 : Saf := z); clear t9; subst z)
    | (extract_lets +onlyGivenNames z; clear_value z)
    | apply Moved.chain (g := State.safEval_moved _ _)
    | apply State.putFlag_moved
    | apply State.put_moved
    | apply Moved.chain (g := State.noteStale_moved _ _ _)
    | apply Moved.chain (g := State.withSaf_moved _ _ ?_ )
    | (apply inBlock_of 12; rotate_left; decide; first | omega | (simp only [F.SAF_SD_RX_DATA, F.SAF_STAT_SD_STALE] <;> omega) | (simp only [F.SAF_SD_RX_DATA, F.SAF_STAT_SD_STALE]; (repeat' split) <;> first | omega | decide | (dsimp only; omega)))
    | split
    | (have h_saf := State.Inv.saf (by assumption); simp_all only [Saf.Sized, length_setAt]; done)
    | (have h_saf := State.Inv.saf (by assumption); simp_all [Saf.Sized, Saf.reset, length_setAt]; done)

theorem State.sdRewrite_moved (s : State) (tc : Tc) : Moved 0x338000223001 s (State.sdRewrite s tc) := by
  unfold State.sdRewrite
  with_reducible repeat' first
    | assumption
    | intro _
    | apply Moved.refl
    | decide
    | apply Moved.ite
    | apply Moved.forUpTo
    | apply Moved.chain (g := State.sdWordWrite_moved _ _ _ _ _)

theorem State.safPowerUp_moved (s : State) (tc : Tc) : Moved 0x100000020001 s (State.safPowerUp s tc) := by
  unfold State.safPowerUp
  simp -zeta only [State.withSaf_eq]
  with_reducible repeat' first
    | assumption
    | intro _
    | apply Moved.refl
    | decide
    | apply Moved.ite
    | (extract_lets +onlyGivenNames z; apply Moved.use z; swap; clear_value z; intro _; swap; subst z)
    | (extract_lets +onlyGivenNames z; (have t9 : Saf := z); clear t9; subst z)
    | (extract_lets +onlyGivenNames z; clear_value z)
    | apply Moved.forUpTo
    | apply State.put_moved
    | apply Moved.chain (g := State.withSaf_moved _ _ ?_ )
    | (apply inBlock_of 12; rotate_left; decide; first | omega | (simp only [F.SAF_SI_STAT_FA, F.SAF_SI_STAT_FB] <;> omega) | (simp only [F.SAF_SI_STAT_FA, F.SAF_SI_STAT_FB]; (repeat' split) <;> first | omega | decide | (dsimp only; omega)))
    | (have h_saf := State.Inv.saf (by assumption); simp_all only [Saf.Sized, length_setAt]; done)
    | (have h_saf := State.Inv.saf (by assumption); simp_all [Saf.Sized, Saf.reset, length_setAt]; done)

theorem State.safStart_moved (s : State) (tc : Tc) : Moved 0x138000223001 s (State.safStart s tc) := by
  unfold State.safStart
  simp -zeta only [State.withSaf_eq]
  with_reducible repeat' first
    | assumption
    | intro _
    | apply Moved.refl
    | decide
    | apply Moved.ite
    | (extract_lets +onlyGivenNames z; apply Moved.use z; swap; clear_value z; intro _; swap; subst z)
    | (extract_lets +onlyGivenNames z; (have t9 : Saf := z); clear t9; subst z)
    | (extract_lets +onlyGivenNames z; clear_value z)
    | apply Moved.forUpTo
    | apply Moved.foldl
    | apply Moved.chain (g := State.safEval_moved _ _)
    | apply State.putFlag_moved
    | apply State.put_moved
    | apply Moved.chain (g := State.withSaf_moved _ _ ?_ )
    | (apply inBlock_of 12; rotate_left; decide; first | omega | (simp only [F.SAF_FN_USED, F.SAF_SI_STAT_USED] <;> omega) | (simp only [F.SAF_FN_USED, F.SAF_SI_STAT_USED]; (repeat' split) <;> first | omega | decide | (dsimp only; omega)))
    | split
    | (have h_saf := State.Inv.saf (by assumption); simp_all only [Saf.Sized, length_setAt]; done)
    | (have h_saf := State.Inv.saf (by assumption); simp_all [Saf.Sized, Saf.reset, length_setAt]; done)

/-! Operations of Machine/Schedule.lean. -/

/-! Operations of Machine/Pot.lean. -/

theorem State.potWrite_moved (s : State) (addr : Nat) (bytes : List Byte) (tc : Tc) : Moved 0x4000 s (State.potWrite s addr bytes tc) := by
  unfold State.potWrite
  simp -zeta only [State.withPot_eq]
  with_reducible repeat' first
    | assumption
    | intro _
    | apply Moved.refl
    | decide
    | apply Moved.ite
    | apply Moved.chain (g := State.withPot_moved _ _ )
    | split

theorem State.showImages_moved (s : State) : Moved 0x200000000001 s (State.showImages s) := by
  unfold State.showImages
  with_reducible repeat' first
    | assumption
    | intro _
    | apply Moved.refl
    | decide
    | apply Moved.ite
    | (extract_lets +onlyGivenNames z; apply Moved.use z; swap; clear_value z; intro _; swap; subst z)
    | (extract_lets +onlyGivenNames z; clear_value z)
    | apply State.putFlag_moved
    | (apply inBlock_of 13; rotate_left; decide; first | omega | (simp only [F.LAN_SP_STAT_IMG0, F.LAN_SP_STAT_IMG1] <;> omega) | (simp only [F.LAN_SP_STAT_IMG0, F.LAN_SP_STAT_IMG1]; (repeat' split) <;> first | omega | decide | (dsimp only; omega)))

theorem State.showFrames_moved (s : State) : Moved 0x200000000001 s (State.showFrames s) := by
  unfold State.showFrames
  with_reducible repeat' first
    | assumption
    | intro _
    | apply Moved.refl
    | decide
    | apply Moved.ite
    | (extract_lets +onlyGivenNames z; apply Moved.use z; swap; clear_value z; intro _; swap; subst z)
    | (extract_lets +onlyGivenNames z; clear_value z)
    | apply State.putFlag_moved
    | apply State.put_moved
    | (apply inBlock_of 13; rotate_left; decide; first | omega | (simp only [F.LAN_SP_STAT_F0, F.LAN_SP_STAT_F1, F.LAN_SP_STAT_LAST] <;> omega) | (simp only [F.LAN_SP_STAT_F0, F.LAN_SP_STAT_F1, F.LAN_SP_STAT_LAST]; (repeat' split) <;> first | omega | decide | (dsimp only; omega)))
    | split

theorem State.setArea_moved (s : State) (i : Nat) (f : Option Frame) (hf : s.Inv → ∀ x ∈ f, x.Sized) : Moved 0x200004000001 s (State.setArea s i f) := by
  unfold State.setArea
  refine Moved.chain (Moved.ite ?_ ?_) (State.showFrames_moved _) (by decide)
  · exact Moved.chain (Moved.refl _ s) (State.withFrames_moved s _ fun c => ⟨c.frames.1, hf c, c.frames.2.2⟩) (by decide)
  · exact Moved.chain (Moved.refl _ s) (State.withFrames_moved s _ fun c => ⟨c.frames.1, c.frames.2.1, hf c⟩) (by decide)

theorem State.potCommit_moved (s : State) (tc : Tc) : Moved 0x200000004001 s (State.potCommit s tc) := by
  unfold State.potCommit
  simp -zeta only [State.withPot_eq]
  with_reducible repeat' first
    | assumption
    | intro _
    | apply Moved.refl
    | decide
    | apply Moved.ite
    | (extract_lets +onlyGivenNames z; apply Moved.use z; swap; clear_value z; intro _; swap; subst z)
    | (extract_lets +onlyGivenNames z; clear_value z)
    | apply Moved.foldl
    | apply Moved.chain (g := State.showFrames_moved _)
    | apply Moved.chain (g := State.showImages_moved _)
    | apply Moved.chain (g := State.withPot_moved _ _ )

theorem State.potDiscard_moved (s : State) (l : Lane) : Moved 0x200000004001 s (State.potDiscard s l) := by
  unfold State.potDiscard
  simp -zeta only [State.withPot_eq]
  with_reducible repeat' first
    | assumption
    | intro _
    | apply Moved.refl
    | decide
    | apply Moved.ite
    | (extract_lets +onlyGivenNames z; apply Moved.use z; swap; clear_value z; intro _; swap; subst z)
    | (extract_lets +onlyGivenNames z; clear_value z)
    | apply Moved.foldl
    | apply Moved.chain (g := State.staleTransfer_moved _ _)
    | apply Moved.chain (g := State.withPot_moved _ _ )

theorem State.writeImage_moved (s : State) (i : Nat) (tc : Tc) : Moved 0x4000 s (State.writeImage s i tc) := by
  unfold State.writeImage
  with_reducible repeat' first
    | assumption
    | intro _
    | apply Moved.refl
    | decide
    | apply Moved.ite
    | apply Moved.chain (g := State.potWrite_moved _ _ _ _)

end Sys2Proof.Machine
end

