-- ==== Sys2Proof/Laws/MovedControl.lean ====
section
/-! SUPPORT. Laws/MovedControl.lean: what each operation may change. -/
namespace Sys2Proof.Machine

set_option linter.unreachableTactic false
set_option linter.unusedTactic false
set_option linter.unusedVariables false
set_option linter.unusedSimpArgs false
set_option linter.unnecessarySeqFocus false
set_option linter.style.nameCheck false

open Sys2Proof

/-! Operations of Machine/Cte.lean. -/

theorem State.setSlot_moved (s : State) (n : Nat) (x : Slot) : Moved 0x2000 s (State.setSlot s n x) := by
  unfold State.setSlot
  simp -zeta only [State.withCte_eq]
  with_reducible repeat' first
    | assumption
    | intro _
    | apply Moved.refl
    | decide
    | apply Moved.ite
    | apply Moved.chain (g := State.withCte_moved _ _ ?_ )
    | (have h_cte := State.Inv.cte (by assumption); simp_all only [Cte.Sized, length_setAt]; done)
    | (have h_cte := State.Inv.cte (by assumption); simp_all [Cte.Sized, Cte.reset, length_setAt]; done)

theorem State.showCte_moved (s : State) : Moved 0x20000000001 s (State.showCte s) := by
  unfold State.showCte
  with_reducible repeat' first
    | assumption
    | intro _
    | apply Moved.refl
    | decide
    | apply Moved.ite
    | apply State.putFlag_moved
    | (apply inBlock_of 9; rotate_left; decide; first | omega | (simp only [F.CTE_STAT_BUSY, F.CTE_STAT_HALF, F.CTE_STAT_RUN] <;> omega) | (simp only [F.CTE_STAT_BUSY, F.CTE_STAT_HALF, F.CTE_STAT_RUN]; (repeat' split) <;> first | omega | decide | (dsimp only; omega)))

theorem State.writeDue_moved (s : State) (bound : Nat) : Moved 0x20000002001 s (State.writeDue s bound) := by
  unfold State.writeDue
  simp -zeta only [State.withCte_eq]
  with_reducible repeat' first
    | assumption
    | intro _
    | apply Moved.refl
    | decide
    | apply Moved.ite
    | (extract_lets +onlyGivenNames z; apply Moved.use z; swap; clear_value z; intro _; swap; subst z)
    | (extract_lets +onlyGivenNames z; (have t9 : Cte := z); clear t9; subst z)
    | (extract_lets +onlyGivenNames z; clear_value z)
    | apply Moved.foldl
    | apply State.putS_moved
    | apply Moved.chain (g := State.withCte_moved _ _ ?_ )
    | (apply inBlock_of 9; rotate_left; decide; first | omega | (simp only [F.CTE_L_OUT_VALUE] <;> omega) | (simp only [F.CTE_L_OUT_VALUE]; (repeat' split) <;> first | omega | decide | (dsimp only; omega)))
    | (have h_cte := State.Inv.cte (by assumption); simp_all only [Cte.Sized, length_setAt]; done)
    | (have h_cte := State.Inv.cte (by assumption); simp_all [Cte.Sized, Cte.reset, length_setAt]; done)

theorem State.writeRecord_moved (s : State) (n : Nat) (tc : Tc) : Moved 0x4000 s (State.writeRecord s n tc) := by
  unfold State.writeRecord
  with_reducible repeat' first
    | assumption
    | intro _
    | apply Moved.refl
    | decide
    | apply Moved.ite
    | apply Moved.chain (g := State.potWrite_moved _ _ _ _)
    | split

theorem State.evalSlot_moved (s : State) (n : Nat) (r : Int) (y : Int) (tc : Tc) (out : Tc) : Moved 0x20000006001 s (State.evalSlot s n r y tc out) := by
  unfold State.evalSlot
  simp -zeta only [State.withCte_eq]
  with_reducible repeat' first
    | assumption
    | intro _
    | apply Moved.refl
    | decide
    | apply Moved.ite
    | (extract_lets +onlyGivenNames z; apply Moved.use z; swap; clear_value z; intro _; swap; subst z)
    | (extract_lets +onlyGivenNames z; (have t9 : Cte := z); clear t9; subst z)
    | (extract_lets +onlyGivenNames z; clear_value z)
    | apply Moved.chain (g := State.writeRecord_moved _ _ _)
    | apply State.bump_moved
    | apply Moved.chain (g := State.setSlot_moved _ _ _)
    | apply State.putS_moved
    | apply State.putFlag_moved
    | apply State.event_moved
    | apply Moved.chain (g := State.withCte_moved _ _ ?_ )
    | (apply inBlock_of 9; rotate_left; decide; first | omega | (simp only [Ev.CTE_SAT, F.CTE_EVT_CNT0_SAT, F.CTE_EVT_SAT, F.CTE_L_CNT0_SAT, F.CTE_L_MEAS_VALUE, F.CTE_L_REFE_VALUE, F.CTE_L_STAT_OVF, F.CTE_L_STAT_SAT, F.CTE_L_STAT_TRACKING] <;> omega) | (simp only [Ev.CTE_SAT, F.CTE_EVT_CNT0_SAT, F.CTE_EVT_SAT, F.CTE_L_CNT0_SAT, F.CTE_L_MEAS_VALUE, F.CTE_L_REFE_VALUE, F.CTE_L_STAT_OVF, F.CTE_L_STAT_SAT, F.CTE_L_STAT_TRACKING]; (repeat' split) <;> first | omega | decide | (dsimp only; omega)))
    | split
    | (have h_cte := State.Inv.cte (by assumption); simp_all only [Cte.Sized, length_setAt]; done)
    | (have h_cte := State.Inv.cte (by assumption); simp_all [Cte.Sized, Cte.reset, length_setAt]; done)

theorem State.divTick_moved (s : State) (n : Nat) : Moved 0x2000 s (State.divTick s n) := by
  unfold State.divTick
  with_reducible repeat' first
    | assumption
    | intro _
    | apply Moved.refl
    | decide
    | apply Moved.ite
    | (extract_lets +onlyGivenNames z; apply Moved.use z; swap; clear_value z; intro _; swap; subst z)
    | (extract_lets +onlyGivenNames z; clear_value z)
    | apply Moved.chain (g := State.setSlot_moved _ _ _)
    | split

theorem State.missSlot_moved (s : State) (n : Nat) : Moved 0x20000000001 s (State.missSlot s n) := by
  unfold State.missSlot
  with_reducible repeat' first
    | assumption
    | intro _
    | apply Moved.refl
    | decide
    | apply Moved.ite
    | apply State.bump_moved
    | apply State.event_moved
    | (apply inBlock_of 9; rotate_left; decide; first | omega | (simp only [Ev.CTE_MISS, F.CTE_EVT_CNT0_MISS, F.CTE_EVT_MISS, F.CTE_L_CNT0_MISS] <;> omega) | (simp only [Ev.CTE_MISS, F.CTE_EVT_CNT0_MISS, F.CTE_EVT_MISS, F.CTE_L_CNT0_MISS]; (repeat' split) <;> first | omega | decide | (dsimp only; omega)))

theorem State.skipSlot_moved (s : State) (n : Nat) : Moved 0x20000000001 s (State.skipSlot s n) := by
  unfold State.skipSlot
  with_reducible repeat' first
    | assumption
    | intro _
    | apply Moved.refl
    | decide
    | apply Moved.ite
    | apply State.bump_moved
    | apply State.event_moved
    | (apply inBlock_of 9; rotate_left; decide; first | omega | (simp only [Ev.CTE_SKIP, F.CTE_EVT_CNT1_SKIP, F.CTE_EVT_SKIP, F.CTE_L_CNT1_SKIP] <;> omega) | (simp only [Ev.CTE_SKIP, F.CTE_EVT_CNT1_SKIP, F.CTE_EVT_SKIP, F.CTE_L_CNT1_SKIP]; (repeat' split) <;> first | omega | decide | (dsimp only; omega)))

theorem State.issueSlot_moved (s : State) (n : Nat) (inp : Option (Int × Int)) (deadline : Nat) (tc : Tc) : Moved 0x20000006001 s (State.issueSlot s n inp deadline tc) := by
  unfold State.issueSlot
  simp -zeta only [State.withCte_eq]
  with_reducible repeat' first
    | assumption
    | intro _
    | apply Moved.refl
    | decide
    | apply Moved.ite
    | apply Moved.chain (g := State.skipSlot_moved _ _)
    | apply Moved.chain (g := State.evalSlot_moved _ _ _ _ _ _)
    | apply Moved.chain (g := State.withCte_moved _ _ ?_ )
    | split
    | (have h_cte := State.Inv.cte (by assumption); simp_all only [Cte.Sized, length_setAt]; done)
    | (have h_cte := State.Inv.cte (by assumption); simp_all [Cte.Sized, Cte.reset, length_setAt]; done)

theorem State.missGroup_moved (s : State) (group : Nat) : Moved 0x20000002001 s (State.missGroup s group) := by
  unfold State.missGroup
  simp -zeta only [State.withCte_eq]
  with_reducible repeat' first
    | assumption
    | intro _
    | apply Moved.refl
    | decide
    | apply Moved.ite
    | (extract_lets +onlyGivenNames z; apply Moved.use z; swap; clear_value z; intro _; swap; subst z)
    | (extract_lets +onlyGivenNames z; (have t9 : Cte := z); clear t9; subst z)
    | (extract_lets +onlyGivenNames z; clear_value z)
    | apply Moved.foldl
    | apply Moved.chain (g := State.missSlot_moved _ _)
    | apply Moved.chain (g := State.showCte_moved _)
    | apply Moved.chain (g := State.withCte_moved _ _ ?_ )
    | (have h_cte := State.Inv.cte (by assumption); simp_all only [Cte.Sized, length_setAt]; done)
    | (have h_cte := State.Inv.cte (by assumption); simp_all [Cte.Sized, Cte.reset, length_setAt]; done)

theorem State.freshSlot_moved (s : State) (n : Nat) : Moved 0x2000 s (State.freshSlot s n) := by
  unfold State.freshSlot
  with_reducible repeat' first
    | assumption
    | intro _
    | apply Moved.refl
    | decide
    | apply Moved.ite
    | (extract_lets +onlyGivenNames z; apply Moved.use z; swap; clear_value z; intro _; swap; subst z)
    | (extract_lets +onlyGivenNames z; clear_value z)
    | apply Moved.chain (g := State.setSlot_moved _ _ _)
    | split

theorem State.sampleGroup_moved (s : State) (group : Nat) (tc : Tc) : Moved 0x20000006001 s (State.sampleGroup s group tc) := by
  unfold State.sampleGroup
  with_reducible repeat' first
    | assumption
    | intro _
    | apply Moved.refl
    | decide
    | apply Moved.ite
    | (extract_lets +onlyGivenNames z; apply Moved.use z; swap; clear_value z; intro _; swap; subst z)
    | (extract_lets +onlyGivenNames z; clear_value z)
    | apply Moved.forUpTo
    | apply Moved.foldl
    | apply Moved.chain (g := State.showCte_moved _)
    | apply Moved.chain (g := State.missGroup_moved _ _)
    | apply State.putFlag_moved
    | apply Moved.chain (g := State.freshSlot_moved _ _)
    | apply Moved.chain (g := State.divTick_moved _ _)
    | apply Moved.chain (g := State.writeDue_moved _ _)
    | apply Moved.chain (g := State.issueSlot_moved _ _ _ _ _)
    | (apply inBlock_of 9; rotate_left; decide; first | omega | (simp only [F.CTE_TRIM_STAT_STREAM_OK] <;> omega) | (simp only [F.CTE_TRIM_STAT_STREAM_OK]; (repeat' split) <;> first | omega | decide | (dsimp only; omega)))
    | split

theorem State.streamBypass_moved (s : State) (n : Nat) : Moved 0x20000002001 s (State.streamBypass s n) := by
  unfold State.streamBypass
  with_reducible repeat' first
    | assumption
    | intro _
    | apply Moved.refl
    | decide
    | apply Moved.ite
    | apply Moved.chain (g := State.tripBypass_moved _ _)
    | split

theorem State.streamRecheck_moved (s : State) : Moved 0x20000002001 s (State.streamRecheck s) := by
  unfold State.streamRecheck
  with_reducible repeat' first
    | assumption
    | intro _
    | apply Moved.refl
    | decide
    | apply Moved.ite
    | apply Moved.forUpTo
    | apply Moved.chain (g := State.streamBypass_moved _ _)
    | split

theorem State.showLegs_moved (s : State) (n : Nat) : Moved 0x2000 s (State.showLegs s n) := by
  unfold State.showLegs
  with_reducible repeat' first
    | assumption
    | intro _
    | apply Moved.refl
    | decide
    | apply Moved.ite
    | (extract_lets +onlyGivenNames z; apply Moved.use z; swap; clear_value z; intro _; swap; subst z)
    | (extract_lets +onlyGivenNames z; clear_value z)
    | apply Moved.chain (g := State.setTrim_moved _ _ _)
    | split

theorem State.showDriving_moved (s : State) (n : Nat) : Moved 0x20000000001 s (State.showDriving s n) := by
  unfold State.showDriving
  with_reducible repeat' first
    | assumption
    | intro _
    | apply Moved.refl
    | decide
    | apply Moved.ite
    | (extract_lets +onlyGivenNames z; apply Moved.use z; swap; clear_value z; intro _; swap; subst z)
    | (extract_lets +onlyGivenNames z; clear_value z)
    | apply Moved.forUpTo
    | apply State.putFlag_moved
    | (apply inBlock_of 9; rotate_left; decide; first | omega | (simp only [F.CTE_L_STAT_DRIVING] <;> omega) | (simp only [F.CTE_L_STAT_DRIVING]; (repeat' split) <;> first | omega | decide | (dsimp only; omega)))
    | split

theorem State.updateTrim_moved (s : State) (n : Nat) : Moved 0x20000002001 s (State.updateTrim s n) := by
  unfold State.updateTrim
  with_reducible repeat' first
    | assumption
    | intro _
    | apply Moved.refl
    | decide
    | apply Moved.ite
    | (extract_lets +onlyGivenNames z; apply Moved.use z; swap; clear_value z; intro _; swap; subst z)
    | (extract_lets +onlyGivenNames z; clear_value z)
    | apply Moved.chain (g := State.setTrim_moved _ _ _)
    | apply Moved.chain (g := State.showDriving_moved _ _)
    | split

theorem State.startCarriers_moved (s : State) : Moved 0x2000 s (State.startCarriers s) := by
  unfold State.startCarriers
  simp -zeta only [State.withCte_eq]
  with_reducible repeat' first
    | assumption
    | intro _
    | apply Moved.refl
    | decide
    | apply Moved.ite
    | (extract_lets +onlyGivenNames z; apply Moved.use z; swap; clear_value z; intro _; swap; subst z)
    | (extract_lets +onlyGivenNames z; (have t9 : Cte := z); clear t9; subst z)
    | (extract_lets +onlyGivenNames z; clear_value z)
    | apply Moved.forUpTo
    | apply Moved.chain (g := State.setTrim_moved _ _ _)
    | apply Moved.chain (g := State.withCte_moved _ _ ?_ )
    | split
    | (have h_cte := State.Inv.cte (by assumption); simp_all only [Cte.Sized, length_setAt]; done)
    | (have h_cte := State.Inv.cte (by assumption); simp_all [Cte.Sized, Cte.reset, length_setAt]; done)

theorem State.refuseTrim_moved (s : State) (n : Nat) (c : Nat) : Moved 0x20000000001 s (State.refuseTrim s n c) := by
  unfold State.refuseTrim
  with_reducible repeat' first
    | assumption
    | intro _
    | apply Moved.refl
    | decide
    | apply Moved.ite
    | apply State.put_moved
    | (apply inBlock_of 9; rotate_left; decide; first | omega | (simp only [F.CTE_TRIM_STAT_REFUSE] <;> omega) | (simp only [F.CTE_TRIM_STAT_REFUSE]; (repeat' split) <;> first | omega | decide | (dsimp only; omega)))

theorem State.trimCommand_moved {m : Nat} {r s : State} (h : Moved m r s) (n : Nat) (o : Origin) {act : State → State} (hm : m ||| 0x220000000001 = m)
    (hact : ∀ t, Moved m r t → Moved m r (act t)) : Moved m r (State.trimCommand s n o act) := by
  unfold State.trimCommand
  split
  · exact h
  · split
    · exact Moved.chain (Moved.chain h (State.noteStale_moved _ _ _) (maskLe hm (by decide))) (State.refuseTrim_moved _ _ _) (maskLe hm (by decide))
    · split
      · exact hact s h
      · exact Moved.chain h (State.refuseTrim_moved _ _ _) (maskLe hm (by decide))

theorem State.trimEnable_moved (s : State) (n : Nat) : Moved 0x20000002001 s (State.trimEnable s n) := by
  unfold State.trimEnable
  with_reducible repeat' first
    | assumption
    | intro _
    | apply Moved.refl
    | decide
    | apply Moved.ite
    | apply Moved.chain (g := State.zeroNow_moved _ _)
    | apply Moved.chain (g := State.trimTrip_moved _ _)
    | apply State.put_moved
    | apply Moved.chain (g := State.refuseTrim_moved _ _ _)
    | (apply inBlock_of 9; rotate_left; decide; first | omega | (simp only [F.CTE_TRIM_STAT_STATE] <;> omega) | (simp only [F.CTE_TRIM_STAT_STATE]; (repeat' split) <;> first | omega | decide | (dsimp only; omega)))
    | split

theorem State.trimRunCmd_moved (s : State) (n : Nat) (tc : Tc) : Moved 0x20000002001 s (State.trimRunCmd s n tc) := by
  unfold State.trimRunCmd
  with_reducible repeat' first
    | assumption
    | intro _
    | apply Moved.refl
    | decide
    | apply Moved.ite
    | (extract_lets +onlyGivenNames z; apply Moved.use z; swap; clear_value z; intro _; swap; subst z)
    | (extract_lets +onlyGivenNames z; clear_value z)
    | apply Moved.chain (g := State.setTrim_moved _ _ _)
    | apply State.put_moved
    | apply Moved.chain (g := State.refuseTrim_moved _ _ _)
    | (apply inBlock_of 9; rotate_left; decide; first | omega | (simp only [F.CTE_TRIM_STAT_STATE] <;> omega) | (simp only [F.CTE_TRIM_STAT_STATE]; (repeat' split) <;> first | omega | decide | (dsimp only; omega)))
    | split

theorem State.trimStop_moved (s : State) (n : Nat) : Moved 0x20000002001 s (State.trimStop s n) := by
  unfold State.trimStop
  with_reducible repeat' first
    | assumption
    | intro _
    | apply Moved.refl
    | decide
    | apply Moved.ite
    | (extract_lets +onlyGivenNames z; apply Moved.use z; swap; clear_value z; intro _; swap; subst z)
    | (extract_lets +onlyGivenNames z; clear_value z)
    | apply Moved.chain (g := State.setTrim_moved _ _ _)
    | apply Moved.chain (g := State.toBypass_moved _ _)
    | apply Moved.chain (g := State.refuseTrim_moved _ _ _)
    | split

theorem State.trimDisable_moved (s : State) (n : Nat) : Moved 0x20000002001 s (State.trimDisable s n) := by
  unfold State.trimDisable
  with_reducible repeat' first
    | assumption
    | intro _
    | apply Moved.refl
    | decide
    | apply Moved.ite
    | (extract_lets +onlyGivenNames z; apply Moved.use z; swap; clear_value z; intro _; swap; subst z)
    | (extract_lets +onlyGivenNames z; clear_value z)
    | apply Moved.chain (g := State.setTrim_moved _ _ _)
    | apply State.put_moved
    | apply Moved.chain (g := State.refuseTrim_moved _ _ _)
    | (apply inBlock_of 9; rotate_left; decide; first | omega | (simp only [F.CTE_TRIM_STAT_STATE] <;> omega) | (simp only [F.CTE_TRIM_STAT_STATE]; (repeat' split) <;> first | omega | decide | (dsimp only; omega)))
    | split

theorem State.trimWrite_moved (s : State) (n : Nat) (c : Nat) (o : Origin) (tc : Tc) : Moved 0x220000002001 s (State.trimWrite s n c o tc) := by
  unfold State.trimWrite
  with_reducible repeat' first
    | assumption
    | intro _
    | apply Moved.refl
    | decide
    | apply Moved.ite
    | apply State.trimCommand_moved
    | apply Moved.chain (g := State.trimDisable_moved _ _)
    | apply Moved.chain (g := State.trimRunCmd_moved _ _ _)
    | apply Moved.chain (g := State.trimEnable_moved _ _)
    | apply Moved.chain (g := State.trimStop_moved _ _)
    | split

theorem State.directWrite_moved (s : State) (n : Nat) (i : Nat) (v : Word) (o : Origin) : Moved 0x220000000001 s (State.directWrite s n i v o) := by
  unfold State.directWrite
  with_reducible repeat' first
    | assumption
    | intro _
    | apply Moved.refl
    | decide
    | apply Moved.ite
    | apply State.wr_moved
    | apply Moved.chain (g := State.noteStale_moved _ _ _)
    | apply State.event_moved
    | (apply inBlock_of 9; rotate_left; decide; first | omega | (simp only [Ev.CTE_DWR_REJ, F.CTE_EVT_CNT2_DWR_REJ, F.CTE_EVT_DWR_REJ, coeffAddr] <;> omega) | (simp only [Ev.CTE_DWR_REJ, F.CTE_EVT_CNT2_DWR_REJ, F.CTE_EVT_DWR_REJ, coeffAddr]; (repeat' split) <;> first | omega | decide | (dsimp only; omega)))
    | split

theorem State.cteDisable_moved (s : State) : Moved 0x20000002001 s (State.cteDisable s) := by
  unfold State.cteDisable
  with_reducible repeat' first
    | assumption
    | intro _
    | apply Moved.refl
    | decide
    | apply Moved.ite
    | (extract_lets +onlyGivenNames z; apply Moved.use z; swap; clear_value z; intro _; swap; subst z)
    | (extract_lets +onlyGivenNames z; clear_value z)
    | apply Moved.forUpTo
    | apply Moved.chain (g := State.showCte_moved _)
    | apply Moved.chain (g := State.zeroNow_moved _ _)
    | apply State.put_moved
    | apply Moved.chain (g := State.toBypass_moved _ _)
    | (apply inBlock_of 9; rotate_left; decide; first | omega | (simp only [F.CTE_CTRL_EN] <;> omega) | (simp only [F.CTE_CTRL_EN]; (repeat' split) <;> first | omega | decide | (dsimp only; omega)))
    | split

theorem State.cteEnable_moved (s : State) : Moved 0x20000000001 s (State.cteEnable s) := by
  unfold State.cteEnable
  with_reducible repeat' first
    | assumption
    | intro _
    | apply Moved.refl
    | decide
    | apply Moved.ite
    | apply Moved.chain (g := State.showCte_moved _)
    | apply State.put_moved
    | (apply inBlock_of 9; rotate_left; decide; first | omega | (simp only [F.CTE_CTRL_EN] <;> omega) | (simp only [F.CTE_CTRL_EN]; (repeat' split) <;> first | omega | decide | (dsimp only; omega)))

theorem State.loadDiv_moved (s : State) (n : Nat) : Moved 0x2000 s (State.loadDiv s n) := by
  unfold State.loadDiv
  with_reducible repeat' first
    | assumption
    | intro _
    | apply Moved.refl
    | decide
    | apply Moved.ite
    | apply Moved.chain (g := State.setSlot_moved _ _ _)

theorem State.cteApplied_moved (s : State) (old : Nat → Word) : Moved 0x20000002001 s (State.cteApplied s old) := by
  unfold State.cteApplied
  simp -zeta only [State.withCte_eq]
  with_reducible repeat' first
    | assumption
    | intro _
    | apply Moved.refl
    | decide
    | apply Moved.ite
    | (extract_lets +onlyGivenNames z; apply Moved.use z; swap; clear_value z; intro _; swap; subst z)
    | (extract_lets +onlyGivenNames z; (have t9 : Cte := z); clear t9; subst z)
    | (extract_lets +onlyGivenNames z; clear_value z)
    | apply Moved.forUpTo
    | apply Moved.chain (g := State.showCte_moved _)
    | apply Moved.chain (g := State.setSlot_moved _ _ _)
    | apply State.put_moved
    | apply Moved.chain (g := State.loadDiv_moved _ _)
    | apply Moved.chain (g := State.withCte_moved _ _ ?_ )
    | (apply inBlock_of 9; rotate_left; decide; first | omega | (simp only [F.CTE_LOAD_EVALS, F.CTE_L_OUT_VALUE] <;> omega) | (simp only [F.CTE_LOAD_EVALS, F.CTE_L_OUT_VALUE]; (repeat' split) <;> first | omega | decide | (dsimp only; omega)))
    | split
    | (have h_cte := State.Inv.cte (by assumption); simp_all only [Cte.Sized, length_setAt]; done)
    | (have h_cte := State.Inv.cte (by assumption); simp_all [Cte.Sized, Cte.reset, length_setAt]; done)

theorem State.cteStart_moved (s : State) (tc : Tc) : Moved 0x20000006001 s (State.cteStart s tc) := by
  unfold State.cteStart
  simp -zeta only [State.withCte_eq]
  with_reducible repeat' first
    | assumption
    | intro _
    | apply Moved.refl
    | decide
    | apply Moved.ite
    | (extract_lets +onlyGivenNames z; apply Moved.use z; swap; clear_value z; intro _; swap; subst z)
    | (extract_lets +onlyGivenNames z; (have t9 : Cte := z); clear t9; subst z)
    | (extract_lets +onlyGivenNames z; clear_value z)
    | apply Moved.forUpTo
    | apply Moved.chain (g := State.showCte_moved _)
    | apply State.putFlag_moved
    | apply State.put_moved
    | apply Moved.chain (g := State.trimTrips_moved _)
    | apply Moved.chain (g := State.loadDiv_moved _ _)
    | apply Moved.chain (g := State.writeImage_moved _ _ _)
    | apply Moved.chain (g := State.withCte_moved _ _ ?_ )
    | (apply inBlock_of 9; rotate_left; decide; first | omega | (simp only [F.CTE_LOAD_EVALS, F.CTE_TRIM_STAT_PRESENT, F.CTE_TRIM_STAT_STATE] <;> omega) | (simp only [F.CTE_LOAD_EVALS, F.CTE_TRIM_STAT_PRESENT, F.CTE_TRIM_STAT_STATE]; (repeat' split) <;> first | omega | decide | (dsimp only; omega)))
    | (have h_cte := State.Inv.cte (by assumption); simp_all only [Cte.Sized, length_setAt]; done)
    | (have h_cte := State.Inv.cte (by assumption); simp_all [Cte.Sized, Cte.reset, length_setAt]; done)

theorem State.cteHalt_moved (s : State) : Moved 0x20000002001 s (State.cteHalt s) := by
  unfold State.cteHalt
  simp -zeta only [State.withCte_eq]
  with_reducible repeat' first
    | assumption
    | intro _
    | apply Moved.refl
    | decide
    | apply Moved.ite
    | apply Moved.chain (g := State.showCte_moved _)
    | apply Moved.chain (g := State.withCte_moved _ _ ?_ )
    | (have h_cte := State.Inv.cte (by assumption); simp_all only [Cte.Sized, length_setAt]; done)
    | (have h_cte := State.Inv.cte (by assumption); simp_all [Cte.Sized, Cte.reset, length_setAt]; done)

theorem State.restoreSlot_moved (s : State) (n : Nat) : Moved 0x20000002001 s (State.restoreSlot s n) := by
  unfold State.restoreSlot
  with_reducible repeat' first
    | assumption
    | intro _
    | apply Moved.refl
    | decide
    | apply Moved.ite
    | (extract_lets +onlyGivenNames z; apply Moved.use z; swap; clear_value z; intro _; swap; subst z)
    | (extract_lets +onlyGivenNames z; clear_value z)
    | apply Moved.forUpTo
    | apply State.wr_moved
    | apply Moved.chain (g := State.setSlot_moved _ _ _)
    | apply State.putS_moved
    | apply State.put_moved
    | apply State.event_moved
    | (apply inBlock_of 9; rotate_left; decide; first | omega | (simp only [Ev.CTE_COLD, F.CTE_EVT_CNT3_COLD, F.CTE_EVT_COLD, F.CTE_L_OUT_VALUE, coeffAddr] <;> omega) | (simp only [Ev.CTE_COLD, F.CTE_EVT_CNT3_COLD, F.CTE_EVT_COLD, F.CTE_L_OUT_VALUE, coeffAddr]; (repeat' split) <;> first | omega | decide | (dsimp only; omega)))
    | split

theorem State.cteRestore_moved (s : State) (l : List Byte) : Moved 0x20000002001 s (State.cteRestore s l) := by
  unfold State.cteRestore
  with_reducible repeat' first
    | assumption
    | intro _
    | apply Moved.refl
    | decide
    | apply Moved.ite
    | (extract_lets +onlyGivenNames z; apply Moved.use z; swap; clear_value z; intro _; swap; subst z)
    | (extract_lets +onlyGivenNames z; clear_value z)
    | apply Moved.forUpTo
    | apply State.wr_moved
    | apply Moved.chain (g := State.restoreSlot_moved _ _)
    | (apply inBlock_of 9; rotate_left; decide; first | omega | (simp only [F.CTE_TRIM_SEL_SW, slotImageAddr] <;> omega) | (simp only [F.CTE_TRIM_SEL_SW, slotImageAddr]; (repeat' split) <;> first | omega | decide | (dsimp only; omega)))
    | split

/-! Operations of Machine/Dsp.lean. -/

theorem State.dspStart_moved (s : State) (tc : Tc) : Moved 0x40000008001 s (State.dspStart s tc) := by
  unfold State.dspStart
  simp -zeta only [State.withDsp_eq]
  with_reducible repeat' first
    | assumption
    | intro _
    | apply Moved.refl
    | decide
    | apply Moved.ite
    | (extract_lets +onlyGivenNames z; apply Moved.use z; swap; clear_value z; intro _; swap; subst z)
    | (extract_lets +onlyGivenNames z; clear_value z)
    | apply State.put_moved
    | apply Moved.chain (g := State.withDsp_moved _ _ )
    | (apply inBlock_of 10; rotate_left; decide; first | omega | (simp only [F.DSP_STAT_HOST_TMO] <;> omega) | (simp only [F.DSP_STAT_HOST_TMO]; (repeat' split) <;> first | omega | decide | (dsimp only; omega)))
    | split

theorem State.dspPublished_moved (s : State) (tc : Tc) : Moved 0x40000008001 s (State.dspPublished s tc) := by
  unfold State.dspPublished
  simp -zeta only [State.withDsp_eq]
  with_reducible repeat' first
    | assumption
    | intro _
    | apply Moved.refl
    | decide
    | apply Moved.ite
    | apply Moved.chain (g := State.dspStart_moved _ _)
    | apply Moved.chain (g := State.withDsp_moved _ _ )
    | split

theorem State.hostWrite_moved (s : State) (v : Word) (tc : Tc) : Moved 0x40000008001 s (State.hostWrite s v tc) := by
  unfold State.hostWrite
  simp -zeta only [State.withDsp_eq]
  with_reducible repeat' first
    | assumption
    | intro _
    | apply Moved.refl
    | decide
    | apply Moved.ite
    | apply State.wr_moved
    | apply State.put_moved
    | apply Moved.chain (g := State.withDsp_moved _ _ )
    | (apply inBlock_of 10; rotate_left; decide; first | omega | (simp only [F.DSP_STAT_HOST_TMO] <;> omega) | (simp only [F.DSP_STAT_HOST_TMO]; (repeat' split) <;> first | omega | decide | (dsimp only; omega)))
    | split

theorem State.agedCheck_moved (s : State) (tc : Tc) : Moved 0x40000008001 s (State.agedCheck s tc) := by
  unfold State.agedCheck
  simp -zeta only [State.withDsp_eq]
  with_reducible repeat' first
    | assumption
    | intro _
    | apply Moved.refl
    | decide
    | apply Moved.ite
    | (extract_lets +onlyGivenNames z; apply Moved.use z; swap; clear_value z; intro _; swap; subst z)
    | (extract_lets +onlyGivenNames z; clear_value z)
    | apply State.put_moved
    | apply Moved.chain (g := State.withDsp_moved _ _ )
    | (apply inBlock_of 10; rotate_left; decide; first | omega | (simp only [F.DSP_STAT_AGED] <;> omega) | (simp only [F.DSP_STAT_AGED]; (repeat' split) <;> first | omega | decide | (dsimp only; omega)))
    | split

theorem State.applyContributions_moved (s : State) (d : Contribution) (t : Contribution) : Moved 0x48000000001 s (State.applyContributions s d t) := by
  unfold State.applyContributions
  with_reducible repeat' first
    | assumption
    | intro _
    | apply Moved.refl
    | decide
    | apply Moved.ite
    | (extract_lets +onlyGivenNames z; apply Moved.use z; swap; clear_value z; intro _; swap; subst z)
    | (extract_lets +onlyGivenNames z; clear_value z)
    | apply Moved.forUpTo
    | apply Moved.getD
    | apply Moved.chain (g := State.focDynamic_moved _ _ _)
    | apply State.put_moved
    | (apply inBlock_of 10; rotate_left; decide; first | omega | (simp only [F.DSP_LIM_EPOCH_EPOCH, F.DSP_LIM_P_CHG, F.DSP_LIM_P_DIS, F.DSP_LIM_STEP_STEP, F.DSP_S_LIM_I_CHG, F.DSP_S_LIM_I_DIS, F.DSP_S_LIM_X_DOC, F.DSP_S_LIM_X_W] <;> omega) | (simp only [F.DSP_LIM_EPOCH_EPOCH, F.DSP_LIM_P_CHG, F.DSP_LIM_P_DIS, F.DSP_LIM_STEP_STEP, F.DSP_S_LIM_I_CHG, F.DSP_S_LIM_I_DIS, F.DSP_S_LIM_X_DOC, F.DSP_S_LIM_X_W]; (repeat' split) <;> first | omega | decide | (dsimp only; omega)))
    | split

theorem State.showSop_moved (s : State) : Moved 0x40000008001 s (State.showSop s) := by
  unfold State.showSop
  simp -zeta only [State.withDsp_eq]
  with_reducible repeat' first
    | assumption
    | intro _
    | apply Moved.refl
    | decide
    | apply Moved.ite
    | (extract_lets +onlyGivenNames z; apply Moved.use z; swap; clear_value z; intro _; swap; subst z)
    | (extract_lets +onlyGivenNames z; clear_value z)
    | apply Moved.forUpTo
    | apply Moved.getD
    | apply State.put_moved
    | apply Moved.chain (g := State.withDsp_moved _ _ )
    | (apply inBlock_of 10; rotate_left; decide; first | omega | (simp only [F.DSP_BSOP_CHG, F.DSP_BSOP_DIS, F.DSP_S_SOP_CHG, F.DSP_S_SOP_DIS] <;> omega) | (simp only [F.DSP_BSOP_CHG, F.DSP_BSOP_DIS, F.DSP_S_SOP_CHG, F.DSP_S_SOP_DIS]; (repeat' split) <;> first | omega | decide | (dsimp only; omega)))
    | split

theorem State.applyLimits_moved (s : State) : Moved 0x48000008001 s (State.applyLimits s) := by
  unfold State.applyLimits
  simp -zeta only [State.withDsp_eq]
  with_reducible repeat' first
    | assumption
    | intro _
    | apply Moved.refl
    | decide
    | apply Moved.ite
    | (extract_lets +onlyGivenNames z; apply Moved.use z; swap; clear_value z; intro _; swap; subst z)
    | (extract_lets +onlyGivenNames z; clear_value z)
    | apply Moved.chain (g := State.applyContributions_moved _ _ _)
    | apply Moved.chain (g := State.showSop_moved _)
    | apply Moved.chain (g := State.withDsp_moved _ _ )
    | split

theorem State.dspBegin_moved (s : State) (tc : Tc) : Moved 0x40000008001 s (State.dspBegin s tc) := by
  unfold State.dspBegin
  simp -zeta only [State.withDsp_eq]
  with_reducible repeat' first
    | assumption
    | intro _
    | apply Moved.refl
    | decide
    | apply Moved.ite
    | (extract_lets +onlyGivenNames z; apply Moved.use z; swap; clear_value z; intro _; swap; subst z)
    | (extract_lets +onlyGivenNames z; clear_value z)
    | apply Moved.forUpTo
    | apply State.wr_moved
    | apply State.putFlag_moved
    | apply Moved.chain (g := State.withDsp_moved _ _ )
    | (apply inBlock_of 10; rotate_left; decide; first | omega | (simp only [F.DSP_STAT_RUN] <;> omega) | (simp only [F.DSP_STAT_RUN]; (repeat' split) <;> first | omega | decide | (dsimp only; omega)))

theorem State.dropStaged_moved (s : State) : Moved 0x240000008001 s (State.dropStaged s) := by
  unfold State.dropStaged
  simp -zeta only [State.withDsp_eq]
  with_reducible repeat' first
    | assumption
    | intro _
    | apply Moved.refl
    | decide
    | apply Moved.ite
    | (extract_lets +onlyGivenNames z; apply Moved.use z; swap; clear_value z; intro _; swap; subst z)
    | (extract_lets +onlyGivenNames z; clear_value z)
    | apply Moved.forUpTo
    | apply Moved.chain (g := State.staleTransfer_moved _ _)
    | apply State.put_moved
    | apply Moved.chain (g := State.withDsp_moved _ _ )
    | (apply inBlock_of 10; rotate_left; decide; first | omega | (simp only [F.DSP_STAT_RUN] <;> omega) | (simp only [F.DSP_STAT_RUN]; (repeat' split) <;> first | omega | decide | (dsimp only; omega)))

/-! Operations of Machine/Thm.lean. -/

theorem State.showCause_moved (s : State) : Moved 0x80000000001 s (State.showCause s) := by
  unfold State.showCause
  with_reducible repeat' first
    | assumption
    | intro _
    | apply Moved.refl
    | decide
    | apply Moved.ite
    | (extract_lets +onlyGivenNames z; apply Moved.use z; swap; clear_value z; intro _; swap; subst z)
    | (extract_lets +onlyGivenNames z; clear_value z)
    | apply State.putFlag_moved
    | apply State.put_moved
    | (apply inBlock_of 11; rotate_left; decide; first | omega | (simp only [F.THM_SD_WORD_WORD, F.THM_STAT_SD_PEND] <;> omega) | (simp only [F.THM_SD_WORD_WORD, F.THM_STAT_SD_PEND]; (repeat' split) <;> first | omega | decide | (dsimp only; omega)))
    | split

theorem State.writeCause_moved (s : State) (w : Word) : Moved 0x80000010001 s (State.writeCause s w) := by
  unfold State.writeCause
  simp -zeta only [State.withThm_eq]
  with_reducible repeat' first
    | assumption
    | intro _
    | apply Moved.refl
    | decide
    | apply Moved.ite
    | apply Moved.chain (g := State.showCause_moved _)
    | apply Moved.chain (g := State.withThm_moved _ _ )

theorem State.derate_moved (s : State) : Moved 0x80000010001 s (State.derate s) := by
  unfold State.derate
  simp -zeta only [State.withThm_eq]
  with_reducible repeat' first
    | assumption
    | intro _
    | apply Moved.refl
    | decide
    | apply Moved.ite
    | (extract_lets +onlyGivenNames z; apply Moved.use z; swap; clear_value z; intro _; swap; subst z)
    | (extract_lets +onlyGivenNames z; clear_value z)
    | apply State.put_moved
    | apply State.event_moved
    | apply Moved.chain (g := State.withThm_moved _ _ )
    | (apply inBlock_of 11; rotate_left; decide; first | omega | (simp only [Ev.THM_STEP_DOWN, Ev.THM_STEP_UP, F.THM_EVT_CNT0_STEP_DOWN, F.THM_EVT_CNT0_STEP_UP, F.THM_EVT_STEP_DOWN, F.THM_EVT_STEP_UP, F.THM_STAT_STEP] <;> omega) | (simp only [Ev.THM_STEP_DOWN, Ev.THM_STEP_UP, F.THM_EVT_CNT0_STEP_DOWN, F.THM_EVT_CNT0_STEP_UP, F.THM_EVT_STEP_DOWN, F.THM_EVT_STEP_UP, F.THM_STAT_STEP]; (repeat' split) <;> first | omega | decide | (dsimp only; omega)))
    | split

theorem State.coolRound_moved (s : State) : Moved 0x80000010001 s (State.coolRound s) := by
  unfold State.coolRound
  simp -zeta only [State.withThm_eq]
  with_reducible repeat' first
    | assumption
    | intro _
    | apply Moved.refl
    | decide
    | apply Moved.ite
    | (extract_lets +onlyGivenNames z; apply Moved.use z; swap; clear_value z; intro _; swap; subst z)
    | (extract_lets +onlyGivenNames z; clear_value z)
    | apply State.putFlag_moved
    | apply State.put_moved
    | apply Moved.chain (g := State.withThm_moved _ _ )
    | (apply inBlock_of 11; rotate_left; decide; first | omega | (simp only [F.THM_STAT_CHILL, F.THM_STAT_PUMP] <;> omega) | (simp only [F.THM_STAT_CHILL, F.THM_STAT_PUMP]; (repeat' split) <;> first | omega | decide | (dsimp only; omega)))
    | split

theorem State.putTemp_moved {m : Nat} {r s : State} (h : Moved m r s) (f : Field) (t : Option Int) (hf : inBlock m f.addr = true) (hm : m ||| 0x10000000 = m) :
    Moved m r (State.putTemp s f t) := by
  unfold State.putTemp
  split
  · exact State.putS_moved h f _ hf
  · exact Moved.chain (State.put_moved h f _ hf) (State.took_moved _) hm

theorem State.showTemps_moved (s : State) : Moved 0x80010000001 s (State.showTemps s) := by
  unfold State.showTemps
  with_reducible repeat' first
    | assumption
    | intro _
    | apply Moved.refl
    | decide
    | apply Moved.ite
    | (extract_lets +onlyGivenNames z; apply Moved.use z; swap; clear_value z; intro _; swap; subst z)
    | (extract_lets +onlyGivenNames z; clear_value z)
    | apply Moved.foldl
    | apply State.putTemp_moved
    | (apply inBlock_of 11; rotate_left; decide; first | omega | (simp only [F.THM_TCELL_COLD, F.THM_TCELL_HOT, F.THM_TNTC_BUS, F.THM_TNTC_OUTLET] <;> omega) | (simp only [F.THM_TCELL_COLD, F.THM_TCELL_HOT, F.THM_TNTC_BUS, F.THM_TNTC_OUTLET]; (repeat' split) <;> first | omega | decide | (dsimp only; omega)))
    | split

theorem State.thermalRound_moved (s : State) : Moved 0x80010018001 s (State.thermalRound s) := by
  unfold State.thermalRound
  simp -zeta only [State.withDsp_eq]
  with_reducible repeat' first
    | assumption
    | intro _
    | apply Moved.refl
    | decide
    | apply Moved.ite
    | (extract_lets +onlyGivenNames z; apply Moved.use z; swap; clear_value z; intro _; swap; subst z)
    | (extract_lets +onlyGivenNames z; clear_value z)
    | apply Moved.chain (g := State.showTemps_moved _)
    | apply Moved.chain (g := State.coolRound_moved _)
    | apply Moved.chain (g := State.derate_moved _)
    | apply Moved.chain (g := State.withDsp_moved _ _ )
    | split

theorem State.coolCommand_moved (s : State) : Moved 0x80000000001 s (State.coolCommand s) := by
  unfold State.coolCommand
  with_reducible repeat' first
    | assumption
    | intro _
    | apply Moved.refl
    | decide
    | apply Moved.ite
    | apply State.put_moved
    | (apply inBlock_of 11; rotate_left; decide; first | omega | (simp only [F.THM_STAT_CHILL, F.THM_STAT_PUMP] <;> omega) | (simp only [F.THM_STAT_CHILL, F.THM_STAT_PUMP]; (repeat' split) <;> first | omega | decide | (dsimp only; omega)))
    | split

theorem State.sdAck_moved (s : State) (key : Word) : Moved 0x80000010001 s (State.sdAck s key) := by
  unfold State.sdAck
  simp -zeta only [State.withThm_eq]
  with_reducible repeat' first
    | assumption
    | intro _
    | apply Moved.refl
    | decide
    | apply Moved.ite
    | apply State.event_moved
    | apply Moved.chain (g := State.withThm_moved _ _ )
    | (apply inBlock_of 11; rotate_left; decide; first | omega | (simp only [Ev.THM_ACK_REF, F.THM_EVT_ACK_REF, F.THM_EVT_CNT1_ACK_REF] <;> omega) | (simp only [Ev.THM_ACK_REF, F.THM_EVT_ACK_REF, F.THM_EVT_CNT1_ACK_REF]; (repeat' split) <;> first | omega | decide | (dsimp only; omega)))
    | split

end Sys2Proof.Machine
end

