-- ==== Sys2Proof/Laws/MovedRecords.lean ====
section
/-! SUPPORT. Laws/MovedRecords.lean: what each operation may change. -/
namespace Sys2Proof.Machine

set_option linter.unreachableTactic false
set_option linter.unusedTactic false
set_option linter.unusedVariables false
set_option linter.unusedSimpArgs false
set_option linter.unnecessarySeqFocus false
set_option linter.style.nameCheck false

open Sys2Proof

/-! Operations of Machine/Rec.lean. -/

theorem State.writeHealth_moved (s : State) (w : Word) (good : Bool) : Moved 0x8000000200001 s (State.writeHealth s w good) := by
  unfold State.writeHealth
  simp -zeta only [State.withRcd_eq]
  with_reducible repeat' first
    | assumption
    | intro _
    | apply Moved.refl
    | decide
    | apply Moved.ite
    | apply State.wr_moved
    | apply State.put_moved
    | apply Moved.chain (g := State.withRcd_moved _ _ )
    | (apply inBlock_of 19; rotate_left; decide; first | omega | (simp only [F.REC_HEALTH_MARK, F.REC_STAT_HW_LOST] <;> omega) | (simp only [F.REC_HEALTH_MARK, F.REC_STAT_HW_LOST]; (repeat' split) <;> first | omega | decide | (dsimp only; omega)))
    | split

theorem State.recFail_moved (s : State) (n : Nat) (k : Nat) (good : Bool) : Moved 0x8000000200001 s (State.recFail s n k good) := by
  unfold State.recFail
  with_reducible repeat' first
    | assumption
    | intro _
    | apply Moved.refl
    | decide
    | apply Moved.ite
    | (extract_lets +onlyGivenNames z; apply Moved.use z; swap; clear_value z; intro _; swap; subst z)
    | (extract_lets +onlyGivenNames z; clear_value z)
    | apply Moved.chain (g := State.writeHealth_moved _ _ _)
    | apply State.put_moved
    | (apply inBlock_of 19; rotate_left; decide; first | omega | (simp only [F.REC_HEALTH_RAM_FLASH, F.REC_HEALTH_RAM_FRAM] <;> omega) | (simp only [F.REC_HEALTH_RAM_FLASH, F.REC_HEALTH_RAM_FRAM]; (repeat' split) <;> first | omega | decide | (dsimp only; omega)))

theorem State.degrade_moved {m : Nat} {r s : State} (h : Moved m r s) (f : Field) (hf : inBlock m f.addr = true) (hm : inBlock m 0x130000 = true) :
    Moved m r (State.degrade s f) := by
  unfold State.degrade
  exact Moved.ite h (State.event_moved (State.put_moved h f 1 hf) _ hm hm)

theorem State.writeBlock_moved (s : State) (fails : Nat) (good : Bool) : Moved 0x8000000200001 s (State.writeBlock s fails good) := by
  unfold State.writeBlock
  simp -zeta only [State.withRcd_eq]
  with_reducible repeat' first
    | assumption
    | intro _
    | apply Moved.refl
    | decide
    | apply Moved.ite
    | (extract_lets +onlyGivenNames z; apply Moved.use z; swap; clear_value z; intro _; swap; subst z)
    | (extract_lets +onlyGivenNames z; clear_value z)
    | apply State.put_moved
    | apply State.degrade_moved
    | apply Moved.chain (g := State.recFail_moved _ _ _ _)
    | apply Moved.chain (g := State.withRcd_moved _ _ )
    | (apply inBlock_of 19; rotate_left; decide; first | omega | (simp only [F.REC_STAT_FRAM_DEG] <;> omega) | (simp only [F.REC_STAT_FRAM_DEG]; (repeat' split) <;> first | omega | decide | (dsimp only; omega)))
    | split

theorem State.retire_moved (s : State) (k : Nat) : Moved 0x200000 s (State.retire s k) := by
  unfold State.retire
  simp -zeta only [State.withRcd_eq]
  with_reducible repeat' first
    | assumption
    | intro _
    | apply Moved.refl
    | decide
    | apply Moved.ite
    | apply Moved.chain (g := State.withRcd_moved _ _ )

theorem State.writeRecord__moved (s : State) (bytes : List Byte) (m : RecMedia) : Moved 0x8000000200001 s (State.writeRecord_ s bytes m) := by
  unfold State.writeRecord_
  simp -zeta only [State.withRcd_eq]
  with_reducible repeat' first
    | assumption
    | intro _
    | apply Moved.refl
    | decide
    | apply Moved.ite
    | (extract_lets +onlyGivenNames z; apply Moved.use z; swap; clear_value z; intro _; swap; subst z)
    | (extract_lets +onlyGivenNames z; clear_value z)
    | apply Moved.chain (g := State.retire_moved _ _)
    | apply State.put_moved
    | apply State.degrade_moved
    | apply Moved.chain (g := State.recFail_moved _ _ _ _)
    | apply State.event_moved
    | apply Moved.chain (g := State.withRcd_moved _ _ )
    | (apply inBlock_of 19; rotate_left; decide; first | omega | (simp only [Ev.REC_FOLD, F.REC_EVT_CNT0_FOLD, F.REC_EVT_FOLD, F.REC_SEQ_BEGIN_VALUE, F.REC_SEQ_END_VALUE, F.REC_STAT_FLASH_DEG] <;> omega) | (simp only [Ev.REC_FOLD, F.REC_EVT_CNT0_FOLD, F.REC_EVT_FOLD, F.REC_SEQ_BEGIN_VALUE, F.REC_SEQ_END_VALUE, F.REC_STAT_FLASH_DEG]; (repeat' split) <;> first | omega | decide | (dsimp only; omega)))
    | split

theorem State.recFold_moved (s : State) (flags : Nat) (m : RecMedia) : Moved 0x8000000200001 s (State.recFold s flags m) := by
  unfold State.recFold
  simp -zeta only [State.withRcd_eq]
  with_reducible repeat' first
    | assumption
    | intro _
    | apply Moved.refl
    | decide
    | apply Moved.ite
    | (extract_lets +onlyGivenNames z; apply Moved.use z; swap; clear_value z; intro _; swap; subst z)
    | (extract_lets +onlyGivenNames z; clear_value z)
    | apply Moved.chain (g := State.writeBlock_moved _ _ _)
    | apply Moved.chain (g := State.writeRecord__moved _ _ _)
    | apply Moved.chain (g := State.withRcd_moved _ _ )
    | split

theorem State.recAdd_moved (s : State) (i : Nat) (n : Nat) : Moved 0x200000 s (State.recAdd s i n) := by
  unfold State.recAdd
  simp -zeta only [State.withRcd_eq]
  with_reducible repeat' first
    | assumption
    | intro _
    | apply Moved.refl
    | decide
    | apply Moved.ite
    | apply Moved.chain (g := State.withRcd_moved _ _ )

theorem State.binString_moved (s : State) (p : Nat) : Moved 0x200000 s (State.binString s p) := by
  unfold State.binString
  with_reducible repeat' first
    | assumption
    | intro _
    | apply Moved.refl
    | decide
    | apply Moved.ite
    | (extract_lets +onlyGivenNames z; apply Moved.use z; swap; clear_value z; intro _; swap; subst z)
    | (extract_lets +onlyGivenNames z; clear_value z)
    | apply Moved.foldl
    | apply Moved.chain (g := State.recAdd_moved _ _ _)
    | split

theorem State.recThroughput_moved (s : State) (p : Nat) : Moved 0x200000 s (State.recThroughput s p) := by
  unfold State.recThroughput
  simp -zeta only [State.withRcd_eq]
  with_reducible repeat' first
    | assumption
    | intro _
    | apply Moved.refl
    | decide
    | apply Moved.ite
    | (extract_lets +onlyGivenNames z; apply Moved.use z; swap; clear_value z; intro _; swap; subst z)
    | (extract_lets +onlyGivenNames z; clear_value z)
    | apply Moved.foldl
    | apply Moved.getD
    | apply Moved.chain (g := State.recAdd_moved _ _ _)
    | apply Moved.chain (g := State.withRcd_moved _ _ )
    | split

theorem State.recExtreme_moved (s : State) (i : Nat) (high : Bool) (v : Int) (index : Nat) : Moved 0x200000 s (State.recExtreme s i high v index) := by
  unfold State.recExtreme
  simp -zeta only [State.withRcd_eq]
  with_reducible repeat' first
    | assumption
    | intro _
    | apply Moved.refl
    | decide
    | apply Moved.ite
    | (extract_lets +onlyGivenNames z; apply Moved.use z; swap; clear_value z; intro _; swap; subst z)
    | (extract_lets +onlyGivenNames z; clear_value z)
    | apply Moved.getD
    | apply Moved.chain (g := State.withRcd_moved _ _ )
    | split

theorem State.extremeString_moved (s : State) (p : Nat) : Moved 0x200000 s (State.extremeString s p) := by
  unfold State.extremeString
  with_reducible repeat' first
    | assumption
    | intro _
    | apply Moved.refl
    | decide
    | apply Moved.ite
    | (extract_lets +onlyGivenNames z; apply Moved.use z; swap; clear_value z; intro _; swap; subst z)
    | (extract_lets +onlyGivenNames z; clear_value z)
    | apply Moved.foldl
    | apply Moved.chain (g := State.recExtreme_moved _ _ _ _ _)
    | split

theorem State.extremeBank_moved (s : State) : Moved 0x200000 s (State.extremeBank s) := by
  unfold State.extremeBank
  with_reducible repeat' first
    | assumption
    | intro _
    | apply Moved.refl
    | decide
    | apply Moved.ite
    | (extract_lets +onlyGivenNames z; apply Moved.use z; swap; clear_value z; intro _; swap; subst z)
    | (extract_lets +onlyGivenNames z; clear_value z)
    | apply Moved.chain (g := State.recExtreme_moved _ _ _ _ _)
    | split

theorem State.recAccumulate_moved (s : State) : Moved 0x200000 s (State.recAccumulate s) := by
  unfold State.recAccumulate
  simp -zeta only [State.withRcd_eq]
  with_reducible repeat' first
    | assumption
    | intro _
    | apply Moved.refl
    | decide
    | apply Moved.ite
    | (extract_lets +onlyGivenNames z; apply Moved.use z; swap; clear_value z; intro _; swap; subst z)
    | (extract_lets +onlyGivenNames z; clear_value z)
    | apply Moved.foldl
    | apply Moved.chain (g := State.extremeBank_moved _)
    | apply Moved.chain (g := State.binString_moved _ _)
    | apply Moved.chain (g := State.extremeString_moved _ _)
    | apply Moved.chain (g := State.recThroughput_moved _ _)
    | apply Moved.chain (g := State.recAdd_moved _ _ _)
    | apply Moved.chain (g := State.withRcd_moved _ _ )
    | split

theorem State.recLose_moved (s : State) : Moved 0x8000000200001 s (State.recLose s) := by
  unfold State.recLose
  simp -zeta only [State.withRcd_eq]
  with_reducible repeat' first
    | assumption
    | intro _
    | apply Moved.refl
    | decide
    | apply Moved.ite
    | (extract_lets +onlyGivenNames z; apply Moved.use z; swap; clear_value z; intro _; swap; subst z)
    | (extract_lets +onlyGivenNames z; clear_value z)
    | apply State.event_moved
    | apply Moved.chain (g := State.withRcd_moved _ _ )
    | (apply inBlock_of 19; rotate_left; decide; first | omega | (simp only [Ev.REC_LOST, F.REC_EVT_CNT1_LOST, F.REC_EVT_LOST] <;> omega) | (simp only [Ev.REC_LOST, F.REC_EVT_CNT1_LOST, F.REC_EVT_LOST]; (repeat' split) <;> first | omega | decide | (dsimp only; omega)))

theorem State.recRound_moved (s : State) (m : RecMedia) (tc : Tc) : Moved 0x8000000200001 s (State.recRound s m tc) := by
  unfold State.recRound
  simp -zeta only [State.withRcd_eq]
  with_reducible repeat' first
    | assumption
    | intro _
    | apply Moved.refl
    | decide
    | apply Moved.ite
    | (extract_lets +onlyGivenNames z; apply Moved.use z; swap; clear_value z; intro _; swap; subst z)
    | (extract_lets +onlyGivenNames z; clear_value z)
    | apply Moved.chain (g := State.writeBlock_moved _ _ _)
    | apply Moved.chain (g := State.recLose_moved _)
    | apply Moved.chain (g := State.recAccumulate_moved _)
    | apply Moved.chain (g := State.recFold_moved _ _ _)
    | apply Moved.chain (g := State.withRcd_moved _ _ )
    | split

theorem State.countRound_moved (s : State) : Moved 0x10000 s (State.countRound s) := by
  unfold State.countRound
  simp -zeta only [State.withThm_eq]
  with_reducible repeat' first
    | assumption
    | intro _
    | apply Moved.refl
    | decide
    | apply Moved.ite
    | (extract_lets +onlyGivenNames z; apply Moved.use z; swap; clear_value z; intro _; swap; subst z)
    | (extract_lets +onlyGivenNames z; clear_value z)
    | apply Moved.chain (g := State.withThm_moved _ _ )

theorem State.hoursSave_moved (s : State) (tc : Tc) : Moved 0x200000 s (State.hoursSave s tc) := by
  unfold State.hoursSave
  simp -zeta only [State.withRcd_eq]
  with_reducible repeat' first
    | assumption
    | intro _
    | apply Moved.refl
    | decide
    | apply Moved.ite
    | apply Moved.chain (g := State.withRcd_moved _ _ )

theorem State.recLoadFail_moved (s : State) (result : Nat) : Moved 0x8000000200001 s (State.recLoadFail s result) := by
  unfold State.recLoadFail
  simp -zeta only [State.withRcd_eq]
  with_reducible repeat' first
    | assumption
    | intro _
    | apply Moved.refl
    | decide
    | apply Moved.ite
    | (extract_lets +onlyGivenNames z; apply Moved.use z; swap; clear_value z; intro _; swap; subst z)
    | (extract_lets +onlyGivenNames z; clear_value z)
    | apply State.put_moved
    | apply Moved.chain (g := State.withRcd_moved _ _ )
    | (apply inBlock_of 19; rotate_left; decide; first | omega | (simp only [F.REC_RD_STAT_RESULT, F.REC_RD_STAT_STATE, F.REC_STAT_BUSY] <;> omega) | (simp only [F.REC_RD_STAT_RESULT, F.REC_RD_STAT_STATE, F.REC_STAT_BUSY]; (repeat' split) <;> first | omega | decide | (dsimp only; omega)))

theorem State.recLoad_moved (s : State) (v : Word) : Moved 0x8000000200001 s (State.recLoad s v) := by
  unfold State.recLoad
  simp -zeta only [State.withRcd_eq]
  with_reducible repeat' first
    | assumption
    | intro _
    | apply Moved.refl
    | decide
    | apply Moved.ite
    | (extract_lets +onlyGivenNames z; apply Moved.use z; swap; clear_value z; intro _; swap; subst z)
    | (extract_lets +onlyGivenNames z; clear_value z)
    | apply State.bump_moved
    | apply State.wr_moved
    | apply State.put_moved
    | apply Moved.chain (g := State.recLoadFail_moved _ _)
    | apply Moved.chain (g := State.withRcd_moved _ _ )
    | (apply inBlock_of 19; rotate_left; decide; first | omega | (simp only [F.REC_RD_BEG_VALUE, F.REC_RD_SEL_VALUE, F.REC_RD_STAT_STATE, F.REC_STAT_BUSY] <;> omega) | (simp only [F.REC_RD_BEG_VALUE, F.REC_RD_SEL_VALUE, F.REC_RD_STAT_STATE, F.REC_STAT_BUSY]; (repeat' split) <;> first | omega | decide | (dsimp only; omega)))
    | split

theorem State.recHold_moved (s : State) (key : Word) (tc : Tc) : Moved 0x8000000200001 s (State.recHold s key tc) := by
  unfold State.recHold
  simp -zeta only [State.withRcd_eq]
  with_reducible repeat' first
    | assumption
    | intro _
    | apply Moved.refl
    | decide
    | apply Moved.ite
    | apply State.put_moved
    | apply Moved.chain (g := State.withRcd_moved _ _ )
    | (apply inBlock_of 19; rotate_left; decide; first | omega | (simp only [F.REC_STAT_HOLD] <;> omega) | (simp only [F.REC_STAT_HOLD]; (repeat' split) <;> first | omega | decide | (dsimp only; omega)))
    | split

theorem State.newNonce_moved (s : State) : Moved 0x8000010000001 s (State.newNonce s) := by
  unfold State.newNonce
  with_reducible repeat' first
    | assumption
    | intro _
    | apply Moved.refl
    | decide
    | apply Moved.ite
    | apply Moved.chain (g := State.took_moved _)
    | apply State.put_moved
    | (apply inBlock_of 19; rotate_left; decide; first | omega | (simp only [F.REC_CLR_NONCE_VALUE] <;> omega) | (simp only [F.REC_CLR_NONCE_VALUE]; (repeat' split) <;> first | omega | decide | (dsimp only; omega)))

theorem State.clearScopes_moved (s : State) (scope : Nat) (good : Bool) : Moved 0x8000000200001 s (State.clearScopes s scope good) := by
  unfold State.clearScopes
  simp -zeta only [State.withRcd_eq]
  with_reducible repeat' first
    | assumption
    | intro _
    | apply Moved.refl
    | decide
    | apply Moved.ite
    | (extract_lets +onlyGivenNames z; apply Moved.use z; swap; clear_value z; intro _; swap; subst z)
    | (extract_lets +onlyGivenNames z; clear_value z)
    | apply Moved.chain (g := State.writeHealth_moved _ _ _)
    | apply Moved.chain (g := State.withRcd_moved _ _ )
    | split

theorem State.recClear_moved (s : State) (key : Word) (signed : Bool) (m : RecMedia) : Moved 0x8000010200001 s (State.recClear s key signed m) := by
  unfold State.recClear
  simp -zeta only [State.withRcd_eq]
  with_reducible repeat' first
    | assumption
    | intro _
    | apply Moved.refl
    | decide
    | apply Moved.ite
    | (extract_lets +onlyGivenNames z; apply Moved.use z; swap; clear_value z; intro _; swap; subst z)
    | (extract_lets +onlyGivenNames z; clear_value z)
    | apply Moved.chain (g := State.writeBlock_moved _ _ _)
    | apply Moved.chain (g := State.clearScopes_moved _ _ _)
    | apply State.put_moved
    | apply Moved.chain (g := State.recFold_moved _ _ _)
    | apply Moved.chain (g := State.writeRecord__moved _ _ _)
    | apply Moved.chain (g := State.newNonce_moved _)
    | apply State.event_moved
    | apply Moved.chain (g := State.withRcd_moved _ _ )
    | (apply inBlock_of 19; rotate_left; decide; first | omega | (simp only [Ev.REC_CLEARED, F.REC_CLR_STAT_COUNT, F.REC_CLR_STAT_REFUSE, F.REC_EVT_CLEARED, F.REC_EVT_CNT0_CLEARED] <;> omega) | (simp only [Ev.REC_CLEARED, F.REC_CLR_STAT_COUNT, F.REC_CLR_STAT_REFUSE, F.REC_EVT_CLEARED, F.REC_EVT_CNT0_CLEARED]; (repeat' split) <;> first | omega | decide | (dsimp only; omega)))
    | split

theorem State.recStart_moved (s : State) (cycle : Bool) (tc : Tc) : Moved 0x8000010200001 s (State.recStart s cycle tc) := by
  unfold State.recStart
  simp -zeta only [State.withRcd_eq]
  with_reducible repeat' first
    | assumption
    | intro _
    | apply Moved.refl
    | decide
    | apply Moved.ite
    | (extract_lets +onlyGivenNames z; apply Moved.use z; swap; clear_value z; intro _; swap; subst z)
    | (extract_lets +onlyGivenNames z; clear_value z)
    | apply Moved.foldl
    | apply Moved.getD
    | apply State.eventIf_moved
    | apply State.wr_moved
    | apply State.put_moved
    | apply Moved.chain (g := State.newNonce_moved _)
    | apply Moved.chain (g := State.withRcd_moved _ _ )
    | (apply inBlock_of 19; rotate_left; decide; first | omega | (simp only [Ev.REC_LOST, F.REC_CLR_STAT_COUNT, F.REC_CYCLES_VALUE, F.REC_EVT_CNT1_LOST, F.REC_EVT_LOST, F.REC_HEALTH_MARK, F.REC_HOURS_VALUE, F.REC_SEQ_BEGIN_VALUE, F.REC_SEQ_END_VALUE, F.REC_STAT_FLASH_DEG, F.REC_STAT_FRAM_DEG] <;> omega) | (simp only [Ev.REC_LOST, F.REC_CLR_STAT_COUNT, F.REC_CYCLES_VALUE, F.REC_EVT_CNT1_LOST, F.REC_EVT_LOST, F.REC_HEALTH_MARK, F.REC_HOURS_VALUE, F.REC_SEQ_BEGIN_VALUE, F.REC_SEQ_END_VALUE, F.REC_STAT_FLASH_DEG, F.REC_STAT_FRAM_DEG]; (repeat' split) <;> first | omega | decide | (dsimp only; omega)))
    | split

theorem State.recRun_moved (s : State) : Moved 0x8000000000001 s (State.recRun s) := by
  unfold State.recRun
  with_reducible repeat' first
    | assumption
    | intro _
    | apply Moved.refl
    | decide
    | apply Moved.ite
    | apply State.putFlag_moved
    | (apply inBlock_of 19; rotate_left; decide; first | omega | (simp only [F.REC_STAT_RUN] <;> omega) | (simp only [F.REC_STAT_RUN]; (repeat' split) <;> first | omega | decide | (dsimp only; omega)))

theorem State.recSleep_moved (s : State) (m : RecMedia) : Moved 0x8000000200001 s (State.recSleep s m) := by
  unfold State.recSleep
  with_reducible repeat' first
    | assumption
    | intro _
    | apply Moved.refl
    | decide
    | apply Moved.ite
    | apply State.put_moved
    | apply Moved.chain (g := State.recFold_moved _ _ _)
    | (apply inBlock_of 19; rotate_left; decide; first | omega | (simp only [F.REC_STAT_HOLD] <;> omega) | (simp only [F.REC_STAT_HOLD]; (repeat' split) <;> first | omega | decide | (dsimp only; omega)))
    | split

/-! Operations of Machine/Angle.lean. -/

/-! Operations of Machine/Eth.lean. -/

theorem State.setEthPort_moved (s : State) (p : Nat) (x : EthPort) : Moved 0x100000 s (State.setEthPort s p x) := by
  unfold State.setEthPort
  simp -zeta only [State.withEth_eq]
  with_reducible repeat' first
    | assumption
    | intro _
    | apply Moved.refl
    | decide
    | apply Moved.ite
    | apply Moved.chain (g := State.withEth_moved _ _ ?_ )
    | (have h_eth := State.Inv.eth (by assumption); simp_all only [Eth.Sized, length_setAt]; done)
    | (have h_eth := State.Inv.eth (by assumption); simp_all [Eth.Sized, Eth.reset, length_setAt]; done)

theorem State.pdlyLost_moved (s : State) (p : Nat) : Moved 0x1000000100001 s (State.pdlyLost s p) := by
  unfold State.pdlyLost
  with_reducible repeat' first
    | assumption
    | intro _
    | apply Moved.refl
    | decide
    | apply Moved.ite
    | apply Moved.chain (g := State.setEthPort_moved _ _ _)
    | apply State.put_moved
    | apply State.event_moved
    | (apply inBlock_of 16; rotate_left; decide; first | omega | (simp only [Ev.ETH_PDLY_LOST, F.ETH_EVT_CNT1_PDLY_LOST, F.ETH_EVT_PDLY_LOST, F.ETH_E_PDLY_VALID] <;> omega) | (simp only [Ev.ETH_PDLY_LOST, F.ETH_EVT_CNT1_PDLY_LOST, F.ETH_EVT_PDLY_LOST, F.ETH_E_PDLY_VALID]; (repeat' split) <;> first | omega | decide | (dsimp only; omega)))

theorem State.pdlyMeasured_moved (s : State) (p : Nat) (m : Int) : Moved 0x1000000100001 s (State.pdlyMeasured s p m) := by
  unfold State.pdlyMeasured
  with_reducible repeat' first
    | assumption
    | intro _
    | apply Moved.refl
    | decide
    | apply Moved.ite
    | (extract_lets +onlyGivenNames z; apply Moved.use z; swap; clear_value z; intro _; swap; subst z)
    | (extract_lets +onlyGivenNames z; clear_value z)
    | apply Moved.foldl
    | apply Moved.chain (g := State.setEthPort_moved _ _ _)
    | apply State.put_moved
    | (apply inBlock_of 16; rotate_left; decide; first | omega | (simp only [F.ETH_E_PDLY_DELAY, F.ETH_E_PDLY_VALID] <;> omega) | (simp only [F.ETH_E_PDLY_DELAY, F.ETH_E_PDLY_VALID]; (repeat' split) <;> first | omega | decide | (dsimp only; omega)))

theorem State.pdelayAnswer_moved (s : State) (p : Nat) (l : List Byte) (o : Nat) (t4 : Int) : Moved 0x1000000100001 s (State.pdelayAnswer s p l o t4) := by
  unfold State.pdelayAnswer
  with_reducible repeat' first
    | assumption
    | intro _
    | apply Moved.refl
    | decide
    | apply Moved.ite
    | (extract_lets +onlyGivenNames z; apply Moved.use z; swap; clear_value z; intro _; swap; subst z)
    | (extract_lets +onlyGivenNames z; clear_value z)
    | apply Moved.getD
    | apply Moved.chain (g := State.setEthPort_moved _ _ _)
    | apply Moved.chain (g := State.pdlyMeasured_moved _ _ _)
    | split

theorem State.ethForward_moved (s : State) (p : Nat) (e : Nat) (f : EthFrame) : Moved 0x1000008000001 s (State.ethForward s p e f) := by
  unfold State.ethForward
  with_reducible repeat' first
    | assumption
    | intro _
    | apply Moved.refl
    | decide
    | apply Moved.ite
    | apply Moved.getD
    | apply State.bump_moved
    | apply Moved.chain (g := State.emit_moved _ _)
    | (apply inBlock_of 16; rotate_left; decide; first | omega | (simp only [F.ETH_E_ERR_DROP, F.ETH_E_TX_VALUE] <;> omega) | (simp only [F.ETH_E_ERR_DROP, F.ETH_E_TX_VALUE]; (repeat' split) <;> first | omega | decide | (dsimp only; omega)))
    | split

theorem State.laneReceive_moved (s : State) (l : List Byte) : Moved 0x1000008000001 s (State.laneReceive s l) := by
  unfold State.laneReceive
  with_reducible repeat' first
    | assumption
    | intro _
    | apply Moved.refl
    | decide
    | apply Moved.ite
    | (extract_lets +onlyGivenNames z; apply Moved.use z; swap; clear_value z; intro _; swap; subst z)
    | (extract_lets +onlyGivenNames z; clear_value z)
    | apply State.bump_moved
    | apply Moved.chain (g := State.emit_moved _ _)
    | (apply inBlock_of 16; rotate_left; decide; first | omega | (simp only [F.ETH_LANE_DROP_CNT] <;> omega) | (simp only [F.ETH_LANE_DROP_CNT]; (repeat' split) <;> first | omega | decide | (dsimp only; omega)))
    | split

theorem State.ethSwitch_moved (s : State) (p : Nat) (f : EthFrame) (tc : Tc) : Moved 0x1000008100001 s (State.ethSwitch s p f tc) := by
  unfold State.ethSwitch
  simp -zeta only [State.withEth_eq]
  with_reducible repeat' first
    | assumption
    | intro _
    | apply Moved.refl
    | decide
    | apply Moved.ite
    | (extract_lets +onlyGivenNames z; apply Moved.use z; swap; clear_value z; intro _; swap; subst z)
    | (extract_lets +onlyGivenNames z; (have t9 : Eth := z); clear t9; subst z)
    | (extract_lets +onlyGivenNames z; clear_value z)
    | apply Moved.foldl
    | apply Moved.getD
    | apply State.bump_moved
    | apply Moved.chain (g := State.pdelayAnswer_moved _ _ _ _ _)
    | apply Moved.chain (g := State.ethForward_moved _ _ _ _)
    | apply Moved.chain (g := State.laneReceive_moved _ _)
    | apply Moved.chain (g := State.withEth_moved _ _ ?_ )
    | (apply inBlock_of 16; rotate_left; decide; first | omega | (simp only [F.ETH_E_RX_VALUE] <;> omega) | (simp only [F.ETH_E_RX_VALUE]; (repeat' split) <;> first | omega | decide | (dsimp only; omega)))
    | split
    | (have h_eth := State.Inv.eth (by assumption); simp_all only [Eth.Sized, length_setAt]; done)
    | (have h_eth := State.Inv.eth (by assumption); simp_all [Eth.Sized, Eth.reset, length_setAt]; done)

theorem State.ethLinkSet_moved (s : State) (p : Nat) (up : Bool) : Moved 0x1000000100001 s (State.ethLinkSet s p up) := by
  unfold State.ethLinkSet
  with_reducible repeat' first
    | assumption
    | intro _
    | apply Moved.refl
    | decide
    | apply Moved.ite
    | (extract_lets +onlyGivenNames z; apply Moved.use z; swap; clear_value z; intro _; swap; subst z)
    | (extract_lets +onlyGivenNames z; clear_value z)
    | apply Moved.chain (g := State.setEthPort_moved _ _ _)
    | apply Moved.chain (g := State.pdlyLost_moved _ _)
    | apply State.putFlag_moved
    | apply State.event_moved
    | (apply inBlock_of 16; rotate_left; decide; first | omega | (simp only [Ev.ETH_LINK0, Ev.ETH_LINK1, F.ETH_EVT_CNT0_LINK0, F.ETH_EVT_CNT0_LINK1, F.ETH_EVT_LINK0, F.ETH_EVT_LINK1, F.ETH_STAT_E0_LINK, F.ETH_STAT_E0_TC10, F.ETH_STAT_E1_LINK, F.ETH_STAT_E1_TC10, ethLink, ethLinkEv] <;> omega) | (simp only [Ev.ETH_LINK0, Ev.ETH_LINK1, F.ETH_EVT_CNT0_LINK0, F.ETH_EVT_CNT0_LINK1, F.ETH_EVT_LINK0, F.ETH_EVT_LINK1, F.ETH_STAT_E0_LINK, F.ETH_STAT_E0_TC10, F.ETH_STAT_E1_LINK, F.ETH_STAT_E1_TC10, ethLink, ethLinkEv]; (repeat' split) <;> first | omega | decide | (dsimp only; omega)))
    | split

theorem State.ethWithdraw_moved (s : State) : Moved 0x1000000000001 s (State.ethWithdraw s) := by
  unfold State.ethWithdraw
  with_reducible repeat' first
    | assumption
    | intro _
    | apply Moved.refl
    | decide
    | apply Moved.ite
    | apply State.put_moved
    | (apply inBlock_of 16; rotate_left; decide; first | omega | (simp only [F.ETH_STAT_LID_HOLD] <;> omega) | (simp only [F.ETH_STAT_LID_HOLD]; (repeat' split) <;> first | omega | decide | (dsimp only; omega)))
    | split

theorem State.ethResume_moved (s : State) : Moved 0x1000000000001 s (State.ethResume s) := by
  unfold State.ethResume
  with_reducible repeat' first
    | assumption
    | intro _
    | apply Moved.refl
    | decide
    | apply Moved.ite
    | apply State.put_moved
    | (apply inBlock_of 16; rotate_left; decide; first | omega | (simp only [F.ETH_STAT_LID_HOLD] <;> omega) | (simp only [F.ETH_STAT_LID_HOLD]; (repeat' split) <;> first | omega | decide | (dsimp only; omega)))

theorem State.ethLoad_moved (s : State) : Moved 0x3000000100001 s (State.ethLoad s) := by
  unfold State.ethLoad
  simp -zeta only [State.withEth_eq]
  with_reducible repeat' first
    | assumption
    | intro _
    | apply Moved.refl
    | decide
    | apply Moved.ite
    | (extract_lets +onlyGivenNames z; apply Moved.use z; swap; clear_value z; intro _; swap; subst z)
    | (extract_lets +onlyGivenNames z; (have t9 : Eth := z); clear t9; subst z)
    | (extract_lets +onlyGivenNames z; clear_value z)
    | apply State.wr_moved
    | apply State.putFlag_moved
    | apply State.put_moved
    | apply Moved.chain (g := State.withEth_moved _ _ ?_ )
    | (apply inBlock_of 16; rotate_left; decide; first | omega | (simp only [F.ETH_CFG_DEF_Q, F.ETH_IP_VALUE, F.ETH_WAKE_CFG_FWD, F.TIM_SERVO_CFG_DOMAIN, F.TIM_SERVO_CFG_SERVO_EN] <;> omega) | (simp only [F.ETH_CFG_DEF_Q, F.ETH_IP_VALUE, F.ETH_WAKE_CFG_FWD, F.TIM_SERVO_CFG_DOMAIN, F.TIM_SERVO_CFG_SERVO_EN]; (repeat' split) <;> first | omega | decide | (dsimp only; omega)))
    | (apply inBlock_of 17; rotate_left; decide; first | omega | (simp only [F.ETH_CFG_DEF_Q, F.ETH_IP_VALUE, F.ETH_WAKE_CFG_FWD, F.TIM_SERVO_CFG_DOMAIN, F.TIM_SERVO_CFG_SERVO_EN] <;> omega) | (simp only [F.ETH_CFG_DEF_Q, F.ETH_IP_VALUE, F.ETH_WAKE_CFG_FWD, F.TIM_SERVO_CFG_DOMAIN, F.TIM_SERVO_CFG_SERVO_EN]; (repeat' split) <;> first | omega | decide | (dsimp only; omega)))
    | split
    | (have h_eth := State.Inv.eth (by assumption); simp_all only [Eth.Sized, length_setAt]; done)
    | (have h_eth := State.Inv.eth (by assumption); simp_all [Eth.Sized, Eth.reset, length_setAt]; done)

/-! Operations of Machine/ObjMap.lean. -/

/-! Operations of Machine/Check.lean. -/

/-! Operations of Machine/LiveSet.lean. -/

theorem State.setStaging_moved (s : State) (l : List (Nat × Word)) : Moved 0x400000041 s (State.setStaging s l) := by
  unfold State.setStaging
  simp -zeta only [State.withCfg_eq]
  with_reducible repeat' first
    | assumption
    | intro _
    | apply Moved.refl
    | decide
    | apply Moved.ite
    | apply State.put_moved
    | apply Moved.chain (g := State.withCfg_moved _ _ ?_ )
    | (apply inBlock_of 2; rotate_left; decide; first | omega | (simp only [F.CFG_LS_STAT_OPEN_CNT] <;> omega) | (simp only [F.CFG_LS_STAT_OPEN_CNT]; (repeat' split) <;> first | omega | decide | (dsimp only; omega)))
    | (have h_cfg := State.Inv.cfg (by assumption); simp_all only [Cfg.Sized, length_setAt]; done)
    | (have h_cfg := State.Inv.cfg (by assumption); simp_all [Cfg.Sized, Cfg.reset, length_setAt]; done)

theorem State.stage_moved (s : State) (a : Nat) (v : Word) : Moved 0x400000041 s (State.stage s a v) := by
  unfold State.stage
  with_reducible repeat' first
    | assumption
    | intro _
    | apply Moved.refl
    | decide
    | apply Moved.ite
    | apply Moved.chain (g := State.setStaging_moved _ _)
    | apply State.put_moved
    | (apply inBlock_of 2; rotate_left; decide; first | omega | (simp only [F.CFG_LS_STAT_OVF] <;> omega) | (simp only [F.CFG_LS_STAT_OVF]; (repeat' split) <;> first | omega | decide | (dsimp only; omega)))
    | split

theorem State.postOutcome_moved (s : State) (c : Nat) (addr : Nat) : Moved 0x400000001 s (State.postOutcome s c addr) := by
  unfold State.postOutcome
  with_reducible repeat' first
    | assumption
    | intro _
    | apply Moved.refl
    | decide
    | apply Moved.ite
    | (extract_lets +onlyGivenNames z; apply Moved.use z; swap; clear_value z; intro _; swap; subst z)
    | (extract_lets +onlyGivenNames z; clear_value z)
    | apply State.put_moved
    | apply State.event_moved
    | (apply inBlock_of 2; rotate_left; decide; first | omega | (simp only [Ev.CFG_LS_DONE, F.CFG_EVT_CNT_LS_DONE, F.CFG_EVT_LS_DONE, F.CFG_LS_FAIL_ADDR_ADDR, F.CFG_LS_OUT_CODE, F.CFG_LS_OUT_SEQ] <;> omega) | (simp only [Ev.CFG_LS_DONE, F.CFG_EVT_CNT_LS_DONE, F.CFG_EVT_LS_DONE, F.CFG_LS_FAIL_ADDR_ADDR, F.CFG_LS_OUT_CODE, F.CFG_LS_OUT_SEQ]; (repeat' split) <;> first | omega | decide | (dsimp only; omega)))

theorem State.lsDiscard_moved (s : State) : Moved 0x400000041 s (State.lsDiscard s) := by
  unfold State.lsDiscard
  with_reducible repeat' first
    | assumption
    | intro _
    | apply Moved.refl
    | decide
    | apply Moved.ite
    | apply Moved.chain (g := State.setStaging_moved _ _)
    | apply State.put_moved
    | (apply inBlock_of 2; rotate_left; decide; first | omega | (simp only [F.CFG_LS_STAT_OVF] <;> omega) | (simp only [F.CFG_LS_STAT_OVF]; (repeat' split) <;> first | omega | decide | (dsimp only; omega)))

theorem State.lsSubmit_moved (s : State) : Moved 0x400000041 s (State.lsSubmit s) := by
  unfold State.lsSubmit
  simp -zeta only [State.withCfg_eq]
  with_reducible repeat' first
    | assumption
    | intro _
    | apply Moved.refl
    | decide
    | apply Moved.ite
    | (extract_lets +onlyGivenNames z; apply Moved.use z; swap; clear_value z; intro _; swap; subst z)
    | (extract_lets +onlyGivenNames z; (have t9 : Cfg := z); clear t9; subst z)
    | (extract_lets +onlyGivenNames z; clear_value z)
    | apply Moved.chain (g := State.setStaging_moved _ _)
    | apply State.bump_moved
    | apply Moved.chain (g := State.lsDiscard_moved _)
    | apply Moved.chain (g := State.postOutcome_moved _ _ _)
    | apply State.put_moved
    | apply Moved.chain (g := State.withCfg_moved _ _ ?_ )
    | (apply inBlock_of 2; rotate_left; decide; first | omega | (simp only [F.CFG_LS_CNT_SUB_IGN, F.CFG_LS_LOST_LOST_CNT, F.CFG_LS_STAT_SEQ, F.CFG_LS_STAT_STATE] <;> omega) | (simp only [F.CFG_LS_CNT_SUB_IGN, F.CFG_LS_LOST_LOST_CNT, F.CFG_LS_STAT_SEQ, F.CFG_LS_STAT_STATE]; (repeat' split) <;> first | omega | decide | (dsimp only; omega)))
    | split
    | (have h_cfg := State.Inv.cfg (by assumption); simp_all only [Cfg.Sized, length_setAt]; done)
    | (have h_cfg := State.Inv.cfg (by assumption); simp_all [Cfg.Sized, Cfg.reset, length_setAt]; done)

theorem State.lsCtrl_moved (s : State) (v : Word) : Moved 0x400000041 s (State.lsCtrl s v) := by
  unfold State.lsCtrl
  with_reducible repeat' first
    | assumption
    | intro _
    | apply Moved.refl
    | decide
    | apply Moved.ite
    | (extract_lets +onlyGivenNames z; apply Moved.use z; swap; clear_value z; intro _; swap; subst z)
    | (extract_lets +onlyGivenNames z; clear_value z)
    | apply Moved.chain (g := State.lsDiscard_moved _)
    | apply Moved.chain (g := State.lsSubmit_moved _)
    | split

theorem State.dropSubmitted_moved (s : State) : Moved 0x400000041 s (State.dropSubmitted s) := by
  unfold State.dropSubmitted
  simp -zeta only [State.withCfg_eq]
  with_reducible repeat' first
    | assumption
    | intro _
    | apply Moved.refl
    | decide
    | apply Moved.ite
    | apply State.put_moved
    | apply Moved.chain (g := State.withCfg_moved _ _ ?_ )
    | (apply inBlock_of 2; rotate_left; decide; first | omega | (simp only [F.CFG_LS_STAT_STATE] <;> omega) | (simp only [F.CFG_LS_STAT_STATE]; (repeat' split) <;> first | omega | decide | (dsimp only; omega)))
    | (have h_cfg := State.Inv.cfg (by assumption); simp_all only [Cfg.Sized, length_setAt]; done)
    | (have h_cfg := State.Inv.cfg (by assumption); simp_all [Cfg.Sized, Cfg.reset, length_setAt]; done)

theorem State.lsChecked_moved (s : State) : Moved 0x400000041 s (State.lsChecked s) := by
  unfold State.lsChecked
  with_reducible repeat' first
    | assumption
    | intro _
    | apply Moved.refl
    | decide
    | apply Moved.ite
    | apply Moved.chain (g := State.postOutcome_moved _ _ _)
    | apply Moved.chain (g := State.dropSubmitted_moved _)
    | apply State.put_moved
    | (apply inBlock_of 2; rotate_left; decide; first | omega | (simp only [F.CFG_LS_STAT_STATE] <;> omega) | (simp only [F.CFG_LS_STAT_STATE]; (repeat' split) <;> first | omega | decide | (dsimp only; omega)))
    | split

theorem State.putSet_moved (s : State) (set : List (Nat × Word)) : Moved 0x3fffff00000001 s (State.putSet s set) := by
  unfold State.putSet
  with_reducible repeat' first
    | assumption
    | intro _
    | apply Moved.refl
    | decide
    | apply Moved.ite
    | apply Moved.foldl
    | apply Moved.chain (g := State.wr_all _ _ _)

theorem State.applied_moved (s : State) (old : State) (set : List (Nat × Word)) (tc : Tc) : Moved 0x20000006881 s (State.applied s old set tc) := by
  unfold State.applied
  simp -zeta only [State.withPhb_eq]
  with_reducible repeat' first
    | assumption
    | intro _
    | apply Moved.refl
    | decide
    | apply Moved.ite
    | (extract_lets +onlyGivenNames z; apply Moved.use z; swap; clear_value z; intro _; swap; subst z)
    | (extract_lets +onlyGivenNames z; clear_value z)
    | apply Moved.chain (g := State.afeApplied_moved _ _)
    | apply Moved.chain (g := State.phbMoved_moved _ _)
    | apply Moved.chain (g := State.writeImage_moved _ _ _)
    | apply Moved.chain (g := State.cteApplied_moved _ _)
    | apply Moved.chain (g := State.withPhb_moved _ _ )
    | split

theorem State.lsApply_moved (s : State) (tc : Tc) : Moved 0x3fffff000068c1 s (State.lsApply s tc) := by
  unfold State.lsApply
  with_reducible repeat' first
    | assumption
    | intro _
    | apply Moved.refl
    | decide
    | apply Moved.ite
    | (extract_lets +onlyGivenNames z; apply Moved.use z; swap; clear_value z; intro _; swap; subst z)
    | (extract_lets +onlyGivenNames z; clear_value z)
    | apply State.bump_moved
    | apply Moved.chain (g := State.putSet_moved _ _)
    | apply Moved.chain (g := State.postOutcome_moved _ _ _)
    | apply Moved.chain (g := State.applied_moved _ _ _ _)
    | apply Moved.chain (g := State.dropSubmitted_moved _)
    | apply State.put_moved
    | (apply inBlock_of 2; rotate_left; decide; first | omega | (simp only [F.CFG_LS_APPLY_EPOCH_EPOCH, F.CFG_LS_APPLY_PH_PHASE, F.CFG_LS_CNT_APPLIED] <;> omega) | (simp only [F.CFG_LS_APPLY_EPOCH_EPOCH, F.CFG_LS_APPLY_PH_PHASE, F.CFG_LS_CNT_APPLIED]; (repeat' split) <;> first | omega | decide | (dsimp only; omega)))
    | split

theorem State.lsWithdraw_moved (s : State) : Moved 0x400000041 s (State.lsWithdraw s) := by
  unfold State.lsWithdraw
  simp -zeta only [State.withCfg_eq]
  with_reducible repeat' first
    | assumption
    | intro _
    | apply Moved.refl
    | decide
    | apply Moved.ite
    | (extract_lets +onlyGivenNames z; apply Moved.use z; swap; clear_value z; intro _; swap; subst z)
    | (extract_lets +onlyGivenNames z; (have t9 : Cfg := z); clear t9; subst z)
    | (extract_lets +onlyGivenNames z; clear_value z)
    | apply Moved.chain (g := State.lsDiscard_moved _)
    | apply Moved.chain (g := State.dropSubmitted_moved _)
    | apply Moved.chain (g := State.withCfg_moved _ _ ?_ )
    | split
    | (have h_cfg := State.Inv.cfg (by assumption); simp_all only [Cfg.Sized, length_setAt]; done)
    | (have h_cfg := State.Inv.cfg (by assumption); simp_all [Cfg.Sized, Cfg.reset, length_setAt]; done)

theorem State.lsReport_moved (s : State) : Moved 0x400000041 s (State.lsReport s) := by
  unfold State.lsReport
  simp -zeta only [State.withCfg_eq]
  with_reducible repeat' first
    | assumption
    | intro _
    | apply Moved.refl
    | decide
    | apply Moved.ite
    | (extract_lets +onlyGivenNames z; apply Moved.use z; swap; clear_value z; intro _; swap; subst z)
    | (extract_lets +onlyGivenNames z; (have t9 : Cfg := z); clear t9; subst z)
    | (extract_lets +onlyGivenNames z; clear_value z)
    | apply Moved.chain (g := State.postOutcome_moved _ _ _)
    | apply State.put_moved
    | apply Moved.chain (g := State.withCfg_moved _ _ ?_ )
    | (apply inBlock_of 2; rotate_left; decide; first | omega | (simp only [F.CFG_LS_LOST_LOST_CNT] <;> omega) | (simp only [F.CFG_LS_LOST_LOST_CNT]; (repeat' split) <;> first | omega | decide | (dsimp only; omega)))
    | split
    | (have h_cfg := State.Inv.cfg (by assumption); simp_all only [Cfg.Sized, length_setAt]; done)
    | (have h_cfg := State.Inv.cfg (by assumption); simp_all [Cfg.Sized, Cfg.reset, length_setAt]; done)

end Sys2Proof.Machine
end

