-- ==== Sys2Proof/Laws/MovedLoads.lean ====
section
/-! SUPPORT. Laws/MovedLoads.lean: what each operation may change. -/
namespace Sys2Proof.Machine

set_option linter.unreachableTactic false
set_option linter.unusedTactic false
set_option linter.unusedVariables false
set_option linter.unusedSimpArgs false
set_option linter.unnecessarySeqFocus false
set_option linter.style.nameCheck false

open Sys2Proof

/-! Operations of Machine/Load.lean. -/

theorem State.showDormant_moved (s : State) : Moved 0x100000001 s (State.showDormant s) := by
  unfold State.showDormant
  with_reducible repeat' first
    | assumption
    | intro _
    | apply Moved.refl
    | decide
    | apply Moved.ite
    | (extract_lets +onlyGivenNames z; apply Moved.use z; swap; clear_value z; intro _; swap; subst z)
    | (extract_lets +onlyGivenNames z; clear_value z)
    | apply Moved.forUpTo
    | apply Moved.foldl
    | apply State.putFlag_moved
    | apply State.putBit_moved
    | (apply inBlock_of 0; rotate_left; decide; first | omega | (simp only [F.INF_DORMANT_BLK, F.INF_DORMANT_UNIT_CAN0, F.INF_DORMANT_UNIT_CAN1, F.INF_DORMANT_UNIT_PORT] <;> omega) | (simp only [F.INF_DORMANT_BLK, F.INF_DORMANT_UNIT_CAN0, F.INF_DORMANT_UNIT_CAN1, F.INF_DORMANT_UNIT_PORT]; (repeat' split) <;> first | omega | decide | (dsimp only; omega)))

theorem State.phbLoad_moved (s : State) : Moved 0x800000001 s (State.phbLoad s) := by
  unfold State.phbLoad
  with_reducible repeat' first
    | assumption
    | intro _
    | apply Moved.refl
    | decide
    | apply Moved.ite
    | (extract_lets +onlyGivenNames z; apply Moved.use z; swap; clear_value z; intro _; swap; subst z)
    | (extract_lets +onlyGivenNames z; clear_value z)
    | apply State.wr_moved
    | (apply inBlock_of 3; rotate_left; decide; first | omega)

theorem State.estLoad_moved (s : State) : Moved 0x4000000001 s (State.estLoad s) := by
  unfold State.estLoad
  with_reducible repeat' first
    | assumption
    | intro _
    | apply Moved.refl
    | decide
    | apply Moved.ite
    | (extract_lets +onlyGivenNames z; apply Moved.use z; swap; clear_value z; intro _; swap; subst z)
    | (extract_lets +onlyGivenNames z; clear_value z)
    | apply Moved.forUpTo
    | apply State.put_moved
    | (apply inBlock_of 6; rotate_left; decide; first | omega | (simp only [F.EST_STR_A_R_BLEED, F.EST_STR_A_TABLE, F.EST_STR_Z_Z_REF] <;> omega) | (simp only [F.EST_STR_A_R_BLEED, F.EST_STR_A_TABLE, F.EST_STR_Z_Z_REF]; (repeat' split) <;> first | omega | decide | (dsimp only; omega)))

theorem State.afeLoad_moved (s : State) : Moved 0x4000000000001 s (State.afeLoad s) := by
  unfold State.afeLoad
  with_reducible repeat' first
    | assumption
    | intro _
    | apply Moved.refl
    | decide
    | apply Moved.ite
    | (extract_lets +onlyGivenNames z; apply Moved.use z; swap; clear_value z; intro _; swap; subst z)
    | (extract_lets +onlyGivenNames z; clear_value z)
    | apply Moved.forUpTo
    | apply State.putFlag_moved
    | apply State.put_moved
    | (apply inBlock_of 18; rotate_left; decide; first | omega | (simp only [F.AFE_MAINS_EN, F.AFE_S_CFG_TYPE] <;> omega) | (simp only [F.AFE_MAINS_EN, F.AFE_S_CFG_TYPE]; (repeat' split) <;> first | omega | decide | (dsimp only; omega)))

theorem State.cteFields_moved (s : State) : Moved 0x20000000001 s (State.cteFields s) := by
  unfold State.cteFields
  with_reducible repeat' first
    | assumption
    | intro _
    | apply Moved.refl
    | decide
    | apply Moved.ite
    | (extract_lets +onlyGivenNames z; apply Moved.use z; swap; clear_value z; intro _; swap; subst z)
    | (extract_lets +onlyGivenNames z; clear_value z)
    | apply Moved.forUpTo
    | apply State.wr_moved
    | apply State.put_moved
    | (apply inBlock_of 9; rotate_left; decide; first | omega | (simp only [F.CTE_SCALE_I_FS, F.CTE_TRIM_SEL_MODE] <;> omega) | (simp only [F.CTE_SCALE_I_FS, F.CTE_TRIM_SEL_MODE]; (repeat' split) <;> first | omega | decide | (dsimp only; omega)))
    | split

theorem State.seqFields_moved (s : State) : Moved 0x400000000001 s (State.seqFields s) := by
  unfold State.seqFields
  with_reducible repeat' first
    | assumption
    | intro _
    | apply Moved.refl
    | decide
    | apply Moved.ite
    | (extract_lets +onlyGivenNames z; apply Moved.use z; swap; clear_value z; intro _; swap; subst z)
    | (extract_lets +onlyGivenNames z; clear_value z)
    | apply State.put_moved
    | (apply inBlock_of 14; rotate_left; decide; first | omega | (simp only [F.SEQ_CFG_CYCLE, F.SEQ_CFG_WDT, F.SEQ_PROG_CV_CV] <;> omega) | (simp only [F.SEQ_CFG_CYCLE, F.SEQ_CFG_WDT, F.SEQ_PROG_CV_CV]; (repeat' split) <;> first | omega | decide | (dsimp only; omega)))
    | split

theorem State.liveLoad_moved (s : State) : Moved 0x3fffff00000001 s (State.liveLoad s) := by
  unfold State.liveLoad
  with_reducible repeat' first
    | assumption
    | intro _
    | apply Moved.refl
    | decide
    | apply Moved.ite
    | (extract_lets +onlyGivenNames z; apply Moved.use z; swap; clear_value z; intro _; swap; subst z)
    | (extract_lets +onlyGivenNames z; clear_value z)
    | apply Moved.foldl
    | apply Moved.chain (g := State.wr_all _ _ _)
    | apply State.put_moved
    | (apply inBlock_of 13; rotate_left; decide; first | omega | (simp only [F.LAN_CFG_PL_MIN] <;> omega) | (simp only [F.LAN_CFG_PL_MIN]; (repeat' split) <;> first | omega | decide | (dsimp only; omega)))
    | split

theorem State.startValues_moved (s : State) : Moved 0x4426000000001 s (State.startValues s) := by
  unfold State.startValues
  with_reducible repeat' first
    | assumption
    | intro _
    | apply Moved.refl
    | decide
    | apply Moved.ite
    | (extract_lets +onlyGivenNames z; apply Moved.use z; swap; clear_value z; intro _; swap; subst z)
    | (extract_lets +onlyGivenNames z; clear_value z)
    | apply State.putFlag_moved
    | (apply inBlock_of 5; rotate_left; decide; first | omega | (simp only [F.AFE_CTRL_EN, F.AFE_CTRL_LP, F.CTE_CTRL_EN, F.EST_CTRL_EN, F.SEQ_CTRL_EN, F.SWP_CTRL_BURST_EN, F.SWP_CTRL_DIAG_EN, F.SWP_CTRL_EN] <;> omega) | (simp only [F.AFE_CTRL_EN, F.AFE_CTRL_LP, F.CTE_CTRL_EN, F.EST_CTRL_EN, F.SEQ_CTRL_EN, F.SWP_CTRL_BURST_EN, F.SWP_CTRL_DIAG_EN, F.SWP_CTRL_EN]; (repeat' split) <;> first | omega | decide | (dsimp only; omega)))
    | (apply inBlock_of 6; rotate_left; decide; first | omega | (simp only [F.AFE_CTRL_EN, F.AFE_CTRL_LP, F.CTE_CTRL_EN, F.EST_CTRL_EN, F.SEQ_CTRL_EN, F.SWP_CTRL_BURST_EN, F.SWP_CTRL_DIAG_EN, F.SWP_CTRL_EN] <;> omega) | (simp only [F.AFE_CTRL_EN, F.AFE_CTRL_LP, F.CTE_CTRL_EN, F.EST_CTRL_EN, F.SEQ_CTRL_EN, F.SWP_CTRL_BURST_EN, F.SWP_CTRL_DIAG_EN, F.SWP_CTRL_EN]; (repeat' split) <;> first | omega | decide | (dsimp only; omega)))
    | (apply inBlock_of 9; rotate_left; decide; first | omega | (simp only [F.AFE_CTRL_EN, F.AFE_CTRL_LP, F.CTE_CTRL_EN, F.EST_CTRL_EN, F.SEQ_CTRL_EN, F.SWP_CTRL_BURST_EN, F.SWP_CTRL_DIAG_EN, F.SWP_CTRL_EN] <;> omega) | (simp only [F.AFE_CTRL_EN, F.AFE_CTRL_LP, F.CTE_CTRL_EN, F.EST_CTRL_EN, F.SEQ_CTRL_EN, F.SWP_CTRL_BURST_EN, F.SWP_CTRL_DIAG_EN, F.SWP_CTRL_EN]; (repeat' split) <;> first | omega | decide | (dsimp only; omega)))
    | (apply inBlock_of 14; rotate_left; decide; first | omega | (simp only [F.AFE_CTRL_EN, F.AFE_CTRL_LP, F.CTE_CTRL_EN, F.EST_CTRL_EN, F.SEQ_CTRL_EN, F.SWP_CTRL_BURST_EN, F.SWP_CTRL_DIAG_EN, F.SWP_CTRL_EN] <;> omega) | (simp only [F.AFE_CTRL_EN, F.AFE_CTRL_LP, F.CTE_CTRL_EN, F.EST_CTRL_EN, F.SEQ_CTRL_EN, F.SWP_CTRL_BURST_EN, F.SWP_CTRL_DIAG_EN, F.SWP_CTRL_EN]; (repeat' split) <;> first | omega | decide | (dsimp only; omega)))
    | (apply inBlock_of 18; rotate_left; decide; first | omega | (simp only [F.AFE_CTRL_EN, F.AFE_CTRL_LP, F.CTE_CTRL_EN, F.EST_CTRL_EN, F.SEQ_CTRL_EN, F.SWP_CTRL_BURST_EN, F.SWP_CTRL_DIAG_EN, F.SWP_CTRL_EN] <;> omega) | (simp only [F.AFE_CTRL_EN, F.AFE_CTRL_LP, F.CTE_CTRL_EN, F.EST_CTRL_EN, F.SEQ_CTRL_EN, F.SWP_CTRL_BURST_EN, F.SWP_CTRL_DIAG_EN, F.SWP_CTRL_EN]; (repeat' split) <;> first | omega | decide | (dsimp only; omega)))
    | split

theorem State.imageFields_moved (s : State) : Moved 0x3fffff00000001 s (State.imageFields s) := by
  unfold State.imageFields
  with_reducible repeat' first
    | assumption
    | intro _
    | apply Moved.refl
    | decide
    | apply Moved.ite
    | (extract_lets +onlyGivenNames z; apply Moved.use z; swap; clear_value z; intro _; swap; subst z)
    | (extract_lets +onlyGivenNames z; clear_value z)
    | apply Moved.chain (g := State.afeLoad_moved _)
    | apply Moved.chain (g := State.estLoad_moved _)
    | apply Moved.chain (g := State.showDormant_moved _)
    | apply State.putFlag_moved
    | apply Moved.chain (g := State.phbLoad_moved _)
    | apply Moved.chain (g := State.cteFields_moved _)
    | apply Moved.chain (g := State.liveLoad_moved _)
    | apply Moved.chain (g := State.seqFields_moved _)
    | (apply inBlock_of 11; rotate_left; decide; first | omega | (simp only [F.THM_STAT_OWNER] <;> omega) | (simp only [F.THM_STAT_OWNER]; (repeat' split) <;> first | omega | decide | (dsimp only; omega)))

theorem State.loadFailed_moved (s : State) (k : Nat) (c : Nat) : Moved 0x400000001 s (State.loadFailed s k c) := by
  unfold State.loadFailed
  with_reducible repeat' first
    | assumption
    | intro _
    | apply Moved.refl
    | decide
    | apply Moved.ite
    | apply State.put_moved
    | (apply inBlock_of 2; rotate_left; decide; first | omega | (simp only [F.CFG_SLOT_STAT_ERR, F.CFG_STAT_LOAD_ERR] <;> omega) | (simp only [F.CFG_SLOT_STAT_ERR, F.CFG_STAT_LOAD_ERR]; (repeat' split) <;> first | omega | decide | (dsimp only; omega)))

/-! Operations of Machine/Upd.lean. -/

theorem State.svcNonce_moved (s : State) : Moved 0x20000010000001 s (State.svcNonce s) := by
  unfold State.svcNonce
  with_reducible repeat' first
    | assumption
    | intro _
    | apply Moved.refl
    | decide
    | apply Moved.ite
    | apply Moved.chain (g := State.took_moved _)
    | apply State.put_moved
    | (apply inBlock_of 21; rotate_left; decide; first | omega | (simp only [F.UPD_SVC_NONCE_VALUE] <;> omega) | (simp only [F.UPD_SVC_NONCE_VALUE]; (repeat' split) <;> first | omega | decide | (dsimp only; omega)))

theorem State.showSession_moved (s : State) (tc : Tc) : Moved 0x20000000000001 s (State.showSession s tc) := by
  unfold State.showSession
  with_reducible repeat' first
    | assumption
    | intro _
    | apply Moved.refl
    | decide
    | apply Moved.ite
    | apply State.put_moved
    | (apply inBlock_of 21; rotate_left; decide; first | omega | (simp only [F.UPD_AUTH_STAT_MINUTES] <;> omega) | (simp only [F.UPD_AUTH_STAT_MINUTES]; (repeat' split) <;> first | omega | decide | (dsimp only; omega)))
    | split

theorem State.sessionOpen_moved (s : State) (src : BitVec 48) (signed : Bool) (tc : Tc) : Moved 0x20000012000001 s (State.sessionOpen s src signed tc) := by
  unfold State.sessionOpen
  simp -zeta only [State.withUpd_eq]
  with_reducible repeat' first
    | assumption
    | intro _
    | apply Moved.refl
    | decide
    | apply Moved.ite
    | (extract_lets +onlyGivenNames z; apply Moved.use z; swap; clear_value z; intro _; swap; subst z)
    | (extract_lets +onlyGivenNames z; clear_value z)
    | apply Moved.chain (g := State.showSession_moved _ _)
    | apply Moved.chain (g := State.svcNonce_moved _)
    | apply State.put_moved
    | apply State.event_moved
    | apply Moved.chain (g := State.withUpd_moved _ _ )
    | (apply inBlock_of 21; rotate_left; decide; first | omega | (simp only [Ev.UPD_AUTH_FAIL, F.UPD_AUTH_STAT_REFUSE, F.UPD_EVT_AUTH_FAIL, F.UPD_EVT_CNT1_AUTH_FAIL, F.UPD_STAT_SESSION] <;> omega) | (simp only [Ev.UPD_AUTH_FAIL, F.UPD_AUTH_STAT_REFUSE, F.UPD_EVT_AUTH_FAIL, F.UPD_EVT_CNT1_AUTH_FAIL, F.UPD_STAT_SESSION]; (repeat' split) <;> first | omega | decide | (dsimp only; omega)))
    | split

theorem State.putTarget_moved (s : State) (target : Nat) (k : Nat) (st : Nat) : Moved 0x20000402000001 s (State.putTarget s target k st) := by
  unfold State.putTarget
  simp -zeta only [State.withUpd_eq]
  with_reducible repeat' first
    | assumption
    | intro _
    | apply Moved.refl
    | decide
    | apply Moved.ite
    | apply State.put_moved
    | apply Moved.chain (g := State.withUpd_moved _ _ )
    | (apply inBlock_of 2; rotate_left; decide; first | omega | (simp only [F.CFG_SLOT_STAT_STATE, F.UPD_FW_STAT_STATE] <;> omega) | (simp only [F.CFG_SLOT_STAT_STATE, F.UPD_FW_STAT_STATE]; (repeat' split) <;> first | omega | decide | (dsimp only; omega)))
    | (apply inBlock_of 21; rotate_left; decide; first | omega | (simp only [F.CFG_SLOT_STAT_STATE, F.UPD_FW_STAT_STATE] <;> omega) | (simp only [F.CFG_SLOT_STAT_STATE, F.UPD_FW_STAT_STATE]; (repeat' split) <;> first | omega | decide | (dsimp only; omega)))
    | split

theorem State.putContent_moved (s : State) (target : Nat) (k : Nat) (l : List Byte) : Moved 0x402000041 s (State.putContent s target k l) := by
  unfold State.putContent
  simp -zeta only [State.withCfg_eq, State.withUpd_eq]
  with_reducible repeat' first
    | assumption
    | intro _
    | apply Moved.refl
    | decide
    | apply Moved.ite
    | (extract_lets +onlyGivenNames z; apply Moved.use z; swap; clear_value z; intro _; swap; subst z)
    | (extract_lets +onlyGivenNames z; (have t9 : Cfg := z); clear t9; subst z)
    | (extract_lets +onlyGivenNames z; clear_value z)
    | apply State.put_moved
    | apply Moved.chain (g := State.withCfg_moved _ _ ?_ )
    | apply Moved.chain (g := State.withUpd_moved _ _ )
    | (apply inBlock_of 2; rotate_left; decide; first | omega | (simp only [F.CFG_SLOT_ID_SERIAL, F.CFG_SLOT_STAT_CONFIRMED] <;> omega) | (simp only [F.CFG_SLOT_ID_SERIAL, F.CFG_SLOT_STAT_CONFIRMED]; (repeat' split) <;> first | omega | decide | (dsimp only; omega)))
    | split
    | (have h_cfg := State.Inv.cfg (by assumption); simp_all only [Cfg.Sized, length_setAt]; done)
    | (have h_cfg := State.Inv.cfg (by assumption); simp_all [Cfg.Sized, Cfg.reset, length_setAt]; done)

theorem State.putResultOf_moved (s : State) (x : Xfer) (c : Nat) : Moved 0x20000000000001 s (State.putResultOf s x c) := by
  unfold State.putResultOf
  with_reducible repeat' first
    | assumption
    | intro _
    | apply Moved.refl
    | decide
    | apply Moved.ite
    | (extract_lets +onlyGivenNames z; apply Moved.use z; swap; clear_value z; intro _; swap; subst z)
    | (extract_lets +onlyGivenNames z; clear_value z)
    | apply State.put_moved
    | (apply inBlock_of 21; rotate_left; decide; first | omega | (simp only [F.UPD_FW_STAT_RESULT, F.UPD_XFER_STAT_RESULT] <;> omega) | (simp only [F.UPD_FW_STAT_RESULT, F.UPD_XFER_STAT_RESULT]; (repeat' split) <;> first | omega | decide | (dsimp only; omega)))
    | split

theorem State.closeXfer_moved (s : State) : Moved 0x20000002000001 s (State.closeXfer s) := by
  unfold State.closeXfer
  simp -zeta only [State.withUpd_eq]
  with_reducible repeat' first
    | assumption
    | intro _
    | apply Moved.refl
    | decide
    | apply Moved.ite
    | apply State.put_moved
    | apply Moved.chain (g := State.withUpd_moved _ _ )
    | (apply inBlock_of 21; rotate_left; decide; first | omega | (simp only [F.UPD_STAT_XFER, F.UPD_XFER_STAT_STATE] <;> omega) | (simp only [F.UPD_STAT_XFER, F.UPD_XFER_STAT_STATE]; (repeat' split) <;> first | omega | decide | (dsimp only; omega)))

theorem State.abortXfer_moved (s : State) : Moved 0x20000402000001 s (State.abortXfer s) := by
  unfold State.abortXfer
  with_reducible repeat' first
    | assumption
    | intro _
    | apply Moved.refl
    | decide
    | apply Moved.ite
    | apply Moved.chain (g := State.closeXfer_moved _)
    | apply Moved.chain (g := State.putTarget_moved _ _ _ _)
    | apply Moved.chain (g := State.putResultOf_moved _ _ _)
    | split

theorem State.sessionEnd_moved (s : State) : Moved 0x20000402000001 s (State.sessionEnd s) := by
  unfold State.sessionEnd
  simp -zeta only [State.withUpd_eq]
  with_reducible repeat' first
    | assumption
    | intro _
    | apply Moved.refl
    | decide
    | apply Moved.ite
    | (extract_lets +onlyGivenNames z; apply Moved.use z; swap; clear_value z; intro _; swap; subst z)
    | (extract_lets +onlyGivenNames z; clear_value z)
    | apply Moved.chain (g := State.abortXfer_moved _)
    | apply State.put_moved
    | apply Moved.chain (g := State.withUpd_moved _ _ )
    | (apply inBlock_of 21; rotate_left; decide; first | omega | (simp only [F.UPD_AUTH_STAT_MINUTES, F.UPD_STAT_SESSION] <;> omega) | (simp only [F.UPD_AUTH_STAT_MINUTES, F.UPD_STAT_SESSION]; (repeat' split) <;> first | omega | decide | (dsimp only; omega)))
    | split

theorem State.updWithdraw_moved (s : State) : Moved 0x20000002000001 s (State.updWithdraw s) := by
  unfold State.updWithdraw
  simp -zeta only [State.withUpd_eq]
  with_reducible repeat' first
    | assumption
    | intro _
    | apply Moved.refl
    | decide
    | apply Moved.ite
    | (extract_lets +onlyGivenNames z; apply Moved.use z; swap; clear_value z; intro _; swap; subst z)
    | (extract_lets +onlyGivenNames z; clear_value z)
    | apply Moved.chain (g := State.closeXfer_moved _)
    | apply State.put_moved
    | apply Moved.chain (g := State.withUpd_moved _ _ )
    | (apply inBlock_of 21; rotate_left; decide; first | omega | (simp only [F.UPD_AUTH_STAT_MINUTES, F.UPD_STAT_SESSION] <;> omega) | (simp only [F.UPD_AUTH_STAT_MINUTES, F.UPD_STAT_SESSION]; (repeat' split) <;> first | omega | decide | (dsimp only; omega)))

theorem State.invalidateWriting_moved (s : State) : Moved 0x20000402000001 s (State.invalidateWriting s) := by
  unfold State.invalidateWriting
  with_reducible repeat' first
    | assumption
    | intro _
    | apply Moved.refl
    | decide
    | apply Moved.ite
    | (extract_lets +onlyGivenNames z; apply Moved.use z; swap; clear_value z; intro _; swap; subst z)
    | (extract_lets +onlyGivenNames z; clear_value z)
    | apply Moved.forUpTo
    | apply Moved.chain (g := State.putTarget_moved _ _ _ _)
    | split

theorem State.sessionClose_moved (s : State) (key : Word) : Moved 0x20000402000001 s (State.sessionClose s key) := by
  unfold State.sessionClose
  with_reducible repeat' first
    | assumption
    | intro _
    | apply Moved.refl
    | decide
    | apply Moved.ite
    | apply Moved.chain (g := State.sessionEnd_moved _)
    | split

theorem State.authCtrl_moved (s : State) (src : BitVec 48) (key : Word) (signed : Bool) (tc : Tc) : Moved 0x20000412000001 s (State.authCtrl s src key signed tc) := by
  unfold State.authCtrl
  with_reducible repeat' first
    | assumption
    | intro _
    | apply Moved.refl
    | decide
    | apply Moved.ite
    | apply Moved.chain (g := State.sessionClose_moved _ _)
    | apply Moved.chain (g := State.sessionOpen_moved _ _ _ _)
    | split

theorem State.startXfer_moved (s : State) (target : Nat) (k : Nat) (tc : Tc) : Moved 0x20000402000041 s (State.startXfer s target k tc) := by
  unfold State.startXfer
  simp -zeta only [State.withUpd_eq]
  with_reducible repeat' first
    | assumption
    | intro _
    | apply Moved.refl
    | decide
    | apply Moved.ite
    | (extract_lets +onlyGivenNames z; apply Moved.use z; swap; clear_value z; intro _; swap; subst z)
    | (extract_lets +onlyGivenNames z; clear_value z)
    | apply Moved.chain (g := State.putTarget_moved _ _ _ _)
    | apply State.put_moved
    | apply Moved.chain (g := State.putContent_moved _ _ _ _)
    | apply Moved.chain (g := State.withUpd_moved _ _ )
    | (apply inBlock_of 21; rotate_left; decide; first | omega | (simp only [F.UPD_STAT_XFER, F.UPD_XFER_DONE_VALUE, F.UPD_XFER_STAT_RESULT, F.UPD_XFER_STAT_STATE] <;> omega) | (simp only [F.UPD_STAT_XFER, F.UPD_XFER_DONE_VALUE, F.UPD_XFER_STAT_RESULT, F.UPD_XFER_STAT_STATE]; (repeat' split) <;> first | omega | decide | (dsimp only; omega)))
    | split

theorem State.xferCtrl_moved (s : State) (v : Word) (tc : Tc) : Moved 0x20000402000041 s (State.xferCtrl s v tc) := by
  unfold State.xferCtrl
  with_reducible repeat' first
    | assumption
    | intro _
    | apply Moved.refl
    | decide
    | apply Moved.ite
    | (extract_lets +onlyGivenNames z; apply Moved.use z; swap; clear_value z; intro _; swap; subst z)
    | (extract_lets +onlyGivenNames z; clear_value z)
    | apply Moved.chain (g := State.startXfer_moved _ _ _ _)
    | apply Moved.chain (g := State.abortXfer_moved _)
    | split

theorem State.xferBlock_moved (s : State) (x : Xfer) (off : Nat) (d : List Byte) (tc : Tc) : Moved 0x2000000a000001 s (State.xferBlock s x off d tc) := by
  unfold State.xferBlock
  simp -zeta only [State.withUpd_eq]
  with_reducible repeat' first
    | assumption
    | intro _
    | apply Moved.refl
    | decide
    | apply Moved.ite
    | (extract_lets +onlyGivenNames z; apply Moved.use z; swap; clear_value z; intro _; swap; subst z)
    | (extract_lets +onlyGivenNames z; clear_value z)
    | apply State.put_moved
    | apply Moved.chain (g := State.emit_moved _ _)
    | apply Moved.chain (g := State.withUpd_moved _ _ )
    | (apply inBlock_of 21; rotate_left; decide; first | omega | (simp only [F.UPD_XFER_DONE_VALUE, F.UPD_XFER_STAT_STATE] <;> omega) | (simp only [F.UPD_XFER_DONE_VALUE, F.UPD_XFER_STAT_STATE]; (repeat' split) <;> first | omega | decide | (dsimp only; omega)))
    | split

theorem State.provision_moved (s : State) (plain : List Byte) : Moved 0x20000412000041 s (State.provision s plain) := by
  unfold State.provision
  simp -zeta only [State.withUpd_eq]
  with_reducible repeat' first
    | assumption
    | intro _
    | apply Moved.refl
    | decide
    | apply Moved.ite
    | (extract_lets +onlyGivenNames z; apply Moved.use z; swap; clear_value z; intro _; swap; subst z)
    | (extract_lets +onlyGivenNames z; clear_value z)
    | apply Moved.forUpTo
    | apply Moved.chain (g := State.tookN_moved _ _)
    | apply Moved.chain (g := State.putTarget_moved _ _ _ _)
    | apply State.put_moved
    | apply Moved.chain (g := State.putContent_moved _ _ _ _)
    | apply State.event_moved
    | apply Moved.chain (g := State.withUpd_moved _ _ )
    | (apply inBlock_of 21; rotate_left; decide; first | omega | (simp only [Ev.UPD_PROVISIONED, F.UPD_EVT_CNT1_PROVISIONED, F.UPD_EVT_PROVISIONED, F.UPD_KS_STAT_KEYS, F.UPD_STAT_PROVISIONED] <;> omega) | (simp only [Ev.UPD_PROVISIONED, F.UPD_EVT_CNT1_PROVISIONED, F.UPD_EVT_PROVISIONED, F.UPD_KS_STAT_KEYS, F.UPD_STAT_PROVISIONED]; (repeat' split) <;> first | omega | decide | (dsimp only; omega)))

theorem State.takeXfer_moved (s : State) (x : Xfer) (plain : List Byte) : Moved 0x20000412000041 s (State.takeXfer s x plain) := by
  unfold State.takeXfer
  with_reducible repeat' first
    | assumption
    | intro _
    | apply Moved.refl
    | decide
    | apply Moved.ite
    | (extract_lets +onlyGivenNames z; apply Moved.use z; swap; clear_value z; intro _; swap; subst z)
    | (extract_lets +onlyGivenNames z; clear_value z)
    | apply Moved.chain (g := State.provision_moved _ _)
    | apply Moved.chain (g := State.putTarget_moved _ _ _ _)
    | apply State.put_moved
    | apply Moved.chain (g := State.putContent_moved _ _ _ _)
    | (apply inBlock_of 21; rotate_left; decide; first | omega | (simp only [F.UPD_FW_STAT_SECVER, F.UPD_FW_VER_VALUE] <;> omega) | (simp only [F.UPD_FW_STAT_SECVER, F.UPD_FW_VER_VALUE]; (repeat' split) <;> first | omega | decide | (dsimp only; omega)))
    | split

theorem State.writeBoot_moved (s : State) (w : Word) : Moved 0x20000002000001 s (State.writeBoot s w) := by
  unfold State.writeBoot
  simp -zeta only [State.withUpd_eq]
  with_reducible repeat' first
    | assumption
    | intro _
    | apply Moved.refl
    | decide
    | apply Moved.ite
    | (extract_lets +onlyGivenNames z; apply Moved.use z; swap; clear_value z; intro _; swap; subst z)
    | (extract_lets +onlyGivenNames z; clear_value z)
    | apply Moved.forUpTo
    | apply State.putFlag_moved
    | apply Moved.chain (g := State.withUpd_moved _ _ )
    | (apply inBlock_of 21; rotate_left; decide; first | omega | (simp only [F.UPD_FW_STAT_TRIAL] <;> omega) | (simp only [F.UPD_FW_STAT_TRIAL]; (repeat' split) <;> first | omega | decide | (dsimp only; omega)))

theorem State.putRunning_moved (s : State) (k : Nat) : Moved 0x20000000000001 s (State.putRunning s k) := by
  unfold State.putRunning
  with_reducible repeat' first
    | assumption
    | intro _
    | apply Moved.refl
    | decide
    | apply Moved.ite
    | apply Moved.forUpTo
    | apply State.putFlag_moved
    | (apply inBlock_of 21; rotate_left; decide; first | omega | (simp only [F.UPD_FW_STAT_RUNNING] <;> omega) | (simp only [F.UPD_FW_STAT_RUNNING]; (repeat' split) <;> first | omega | decide | (dsimp only; omega)))

theorem State.bootChoose_moved (s : State) : Moved 0x20000002000001 s (State.bootChoose s) := by
  unfold State.bootChoose
  with_reducible repeat' first
    | assumption
    | intro _
    | apply Moved.refl
    | decide
    | apply Moved.ite
    | apply Moved.chain (g := State.putRunning_moved _ _)
    | apply Moved.chain (g := State.writeBoot_moved _ _)
    | apply State.event_moved
    | (apply inBlock_of 21; rotate_left; decide; first | omega | (simp only [Ev.UPD_ROLLBACK, F.UPD_EVT_CNT0_ROLLBACK, F.UPD_EVT_ROLLBACK] <;> omega) | (simp only [Ev.UPD_ROLLBACK, F.UPD_EVT_CNT0_ROLLBACK, F.UPD_EVT_ROLLBACK]; (repeat' split) <;> first | omega | decide | (dsimp only; omega)))
    | split

theorem State.fwActivate_moved (s : State) (v : Word) : Moved 0x20000002000001 s (State.fwActivate s v) := by
  unfold State.fwActivate
  with_reducible repeat' first
    | assumption
    | intro _
    | apply Moved.refl
    | decide
    | apply Moved.ite
    | (extract_lets +onlyGivenNames z; apply Moved.use z; swap; clear_value z; intro _; swap; subst z)
    | (extract_lets +onlyGivenNames z; clear_value z)
    | apply Moved.chain (g := State.writeBoot_moved _ _)
    | split

theorem State.fwConfirm_moved (s : State) (v : Word) : Moved 0x20000002000001 s (State.fwConfirm s v) := by
  unfold State.fwConfirm
  with_reducible repeat' first
    | assumption
    | intro _
    | apply Moved.refl
    | decide
    | apply Moved.ite
    | (extract_lets +onlyGivenNames z; apply Moved.use z; swap; clear_value z; intro _; swap; subst z)
    | (extract_lets +onlyGivenNames z; clear_value z)
    | apply State.put_moved
    | apply Moved.chain (g := State.writeBoot_moved _ _)
    | (apply inBlock_of 21; rotate_left; decide; first | omega | (simp only [F.UPD_KS_STAT_SV_MIN] <;> omega) | (simp only [F.UPD_KS_STAT_SV_MIN]; (repeat' split) <;> first | omega | decide | (dsimp only; omega)))
    | split

/-! Operations of Machine/DlkCommands.lean. -/

theorem State.toLocate_moved (s : State) (p : Nat) (at4 : Nat) : Moved 0x1008000101 s (State.toLocate s p at4) := by
  unfold State.toLocate
  with_reducible repeat' first
    | assumption
    | intro _
    | apply Moved.refl
    | decide
    | apply Moved.ite
    | apply Moved.chain (g := State.pollBoth_moved _ _ _)
    | apply State.put_moved
    | (apply inBlock_of 4; rotate_left; decide; first | omega | (simp only [F.DLK_P_STAT_STATE] <;> omega) | (simp only [F.DLK_P_STAT_STATE]; (repeat' split) <;> first | omega | decide | (dsimp only; omega)))

theorem State.ringLost_moved (s : State) (p : Nat) : Moved 0x3008200303 s (State.ringLost s p) := by
  unfold State.ringLost
  with_reducible repeat' first
    | assumption
    | intro _
    | apply Moved.refl
    | decide
    | apply Moved.ite
    | (extract_lets +onlyGivenNames z; apply Moved.use z; swap; clear_value z; intro _; swap; subst z)
    | (extract_lets +onlyGivenNames z; clear_value z)
    | apply Moved.chain (g := State.showServe_moved _ _)
    | apply Moved.chain (g := State.endAll_moved _ _ _)
    | apply State.put_moved
    | apply State.event_moved
    | (apply inBlock_of 4; rotate_left; decide; first | omega | (simp only [Ev.DLK_P_RING_LOST, F.DLK_P_EVT_CNT1_RING_LOST, F.DLK_P_EVT_RING_LOST, F.DLK_P_STAT_STATE] <;> omega) | (simp only [Ev.DLK_P_RING_LOST, F.DLK_P_EVT_CNT1_RING_LOST, F.DLK_P_EVT_RING_LOST, F.DLK_P_STAT_STATE]; (repeat' split) <;> first | omega | decide | (dsimp only; omega)))

theorem State.endUnsent_moved (s : State) (p : Nat) (r : TxnResult) : Moved 0x3008200303 s (State.endUnsent s p r) := by
  unfold State.endUnsent
  with_reducible repeat' first
    | assumption
    | intro _
    | apply Moved.refl
    | decide
    | apply Moved.ite
    | (extract_lets +onlyGivenNames z; apply Moved.use z; swap; clear_value z; intro _; swap; subst z)
    | (extract_lets +onlyGivenNames z; clear_value z)
    | apply Moved.foldl
    | apply Moved.chain (g := State.clearUnsent_moved _ _)
    | apply Moved.chain (g := State.deliver_moved _ _ _ _ _ _ _)

theorem State.disablePort_moved (s : State) (p : Nat) : Moved 0x3008200303 s (State.disablePort s p) := by
  unfold State.disablePort
  with_reducible repeat' first
    | assumption
    | intro _
    | apply Moved.refl
    | decide
    | apply Moved.ite
    | (extract_lets +onlyGivenNames z; apply Moved.use z; swap; clear_value z; intro _; swap; subst z)
    | (extract_lets +onlyGivenNames z; clear_value z)
    | apply Moved.chain (g := State.showServe_moved _ _)
    | apply State.put_moved
    | apply State.putBit_moved
    | apply Moved.chain (g := State.endUnsent_moved _ _ _)
    | (apply inBlock_of 4; rotate_left; decide; first | omega | (simp only [F.DLK_ENABLE_EN, F.DLK_P_ABANDON_CNT, F.DLK_P_STAT_STATE] <;> omega) | (simp only [F.DLK_ENABLE_EN, F.DLK_P_ABANDON_CNT, F.DLK_P_STAT_STATE]; (repeat' split) <;> first | omega | decide | (dsimp only; omega)))
    | split

theorem State.portDark_moved (s : State) (p : Nat) : Moved 0x3008200303 s (State.portDark s p) := by
  unfold State.portDark
  with_reducible repeat' first
    | assumption
    | intro _
    | apply Moved.refl
    | decide
    | apply Moved.ite
    | (extract_lets +onlyGivenNames z; apply Moved.use z; swap; clear_value z; intro _; swap; subst z)
    | (extract_lets +onlyGivenNames z; clear_value z)
    | apply Moved.chain (g := State.setPort_moved _ _ _)
    | apply Moved.chain (g := State.disablePort_moved _ _)
    | apply Moved.chain (g := State.showOutstanding_moved _ _)

theorem State.enablePort_moved (s : State) (p : Nat) : Moved 0x1000000101 s (State.enablePort s p) := by
  unfold State.enablePort
  with_reducible repeat' first
    | assumption
    | intro _
    | apply Moved.refl
    | decide
    | apply Moved.ite
    | (extract_lets +onlyGivenNames z; apply Moved.use z; swap; clear_value z; intro _; swap; subst z)
    | (extract_lets +onlyGivenNames z; clear_value z)
    | apply Moved.chain (g := State.setPort_moved _ _ _)
    | apply State.put_moved
    | apply State.putBit_moved
    | (apply inBlock_of 4; rotate_left; decide; first | omega | (simp only [F.DLK_ENABLE_EN, F.DLK_P_STAT_STATE] <;> omega) | (simp only [F.DLK_ENABLE_EN, F.DLK_P_STAT_STATE]; (repeat' split) <;> first | omega | decide | (dsimp only; omega)))
    | split

theorem State.reenumPort_moved (s : State) (p : Nat) (tc : Tc) : Moved 0x3008200303 s (State.reenumPort s p tc) := by
  unfold State.reenumPort
  with_reducible repeat' first
    | assumption
    | intro _
    | apply Moved.refl
    | decide
    | apply Moved.ite
    | (extract_lets +onlyGivenNames z; apply Moved.use z; swap; clear_value z; intro _; swap; subst z)
    | (extract_lets +onlyGivenNames z; clear_value z)
    | apply Moved.chain (g := State.startEnum_moved _ _ _)
    | apply Moved.chain (g := State.endAll_moved _ _ _)
    | apply State.put_moved
    | (apply inBlock_of 4; rotate_left; decide; first | omega | (simp only [F.DLK_P_ABANDON_CNT] <;> omega) | (simp only [F.DLK_P_ABANDON_CNT]; (repeat' split) <;> first | omega | decide | (dsimp only; omega)))
    | split

theorem State.handSetup_moved (s : State) (p : Nat) : Moved 0x100 s (State.handSetup s p) := by
  unfold State.handSetup
  with_reducible repeat' first
    | assumption
    | intro _
    | apply Moved.refl
    | decide
    | apply Moved.ite
    | apply Moved.forUpTo
    | apply Moved.foldl
    | apply Moved.chain (g := State.queueTxn_moved _ _ _)
    | split

theorem State.enumResult_moved (s : State) (p : Nat) (fault : Bool) (closed : Bool) : Moved 0x3008200303 s (State.enumResult s p fault closed) := by
  unfold State.enumResult
  with_reducible repeat' first
    | assumption
    | intro _
    | apply Moved.refl
    | decide
    | apply Moved.ite
    | apply Moved.chain (g := State.endAll_moved _ _ _)
    | apply State.put_moved
    | apply State.event_moved
    | (apply inBlock_of 4; rotate_left; decide; first | omega | (simp only [Ev.DLK_P_BREAK, F.DLK_P_EVT_BREAK, F.DLK_P_EVT_CNT0_BREAK, F.DLK_P_STAT_STATE] <;> omega) | (simp only [Ev.DLK_P_BREAK, F.DLK_P_EVT_BREAK, F.DLK_P_EVT_CNT0_BREAK, F.DLK_P_STAT_STATE]; (repeat' split) <;> first | omega | decide | (dsimp only; omega)))
    | split

theorem State.enumerate_moved (s : State) (p : Nat) (at4 : Nat) : Moved 0x3008200303 s (State.enumerate s p at4) := by
  unfold State.enumerate
  with_reducible repeat' first
    | assumption
    | intro _
    | apply Moved.refl
    | decide
    | apply Moved.ite
    | (extract_lets +onlyGivenNames z; apply Moved.use z; swap; clear_value z; intro _; swap; subst z)
    | (extract_lets +onlyGivenNames z; clear_value z)
    | apply Moved.foldl
    | apply Moved.chain (g := State.setPort_moved _ _ _)
    | apply Moved.chain (g := State.startEnum_moved _ _ _)
    | apply Moved.chain (g := State.deliver_moved _ _ _ _ _ _ _)

theorem State.periodicPoll_moved (s : State) (p : Nat) (tc : Tc) : Moved 0x8000100 s (State.periodicPoll s p tc) := by
  unfold State.periodicPoll
  with_reducible repeat' first
    | assumption
    | intro _
    | apply Moved.refl
    | decide
    | apply Moved.ite
    | (extract_lets +onlyGivenNames z; apply Moved.use z; swap; clear_value z; intro _; swap; subst z)
    | (extract_lets +onlyGivenNames z; clear_value z)
    | apply Moved.chain (g := State.setPort_moved _ _ _)
    | apply Moved.chain (g := State.sendPoll_moved _ _ _ _)
    | split

theorem State.issueNew_moved (s : State) (p : Nat) (t : Txn) (endB : Bool) (at4 : Nat) : Moved 0x1008000101 s (State.issueNew s p t endB at4) := by
  unfold State.issueNew
  with_reducible repeat' first
    | assumption
    | intro _
    | apply Moved.refl
    | decide
    | apply Moved.ite
    | (extract_lets +onlyGivenNames z; apply Moved.use z; swap; clear_value z; intro _; swap; subst z)
    | (extract_lets +onlyGivenNames z; clear_value z)
    | apply Moved.chain (g := State.setPort_moved _ _ _)
    | apply Moved.chain (g := State.sendRequest_moved _ _ _ _)
    | apply Moved.chain (g := State.showOutstanding_moved _ _)
    | split

theorem State.retry_moved (s : State) (p : Nat) (t : Txn) (tc : Tc) : Moved 0x3008200303 s (State.retry s p t tc) := by
  unfold State.retry
  with_reducible repeat' first
    | assumption
    | intro _
    | apply Moved.refl
    | decide
    | apply Moved.ite
    | apply State.bump_moved
    | apply Moved.chain (g := State.sendAgain_moved _ _ _ _)
    | apply Moved.chain (g := State.endTxn_moved _ _ _ _ _ _ _)
    | (apply inBlock_of 4; rotate_left; decide; first | omega | (simp only [F.DLK_P_CNT_TXN_RETRY] <;> omega) | (simp only [F.DLK_P_CNT_TXN_RETRY]; (repeat' split) <;> first | omega | decide | (dsimp only; omega)))
    | split

theorem State.reissue_moved (s : State) (p : Nat) (tc : Tc) (t : Txn) : Moved 0x3008200303 s (State.reissue s p tc t) := by
  unfold State.reissue
  with_reducible repeat' first
    | assumption
    | intro _
    | apply Moved.refl
    | decide
    | apply Moved.ite
    | (extract_lets +onlyGivenNames z; apply Moved.use z; swap; clear_value z; intro _; swap; subst z)
    | (extract_lets +onlyGivenNames z; clear_value z)
    | apply Moved.chain (g := State.sendAgain_moved _ _ _ _)
    | apply Moved.chain (g := State.replaceTxn_moved _ _ _)
    | apply Moved.chain (g := State.endTxn_moved _ _ _ _ _ _ _)
    | split

theorem State.combinePolls_moved (s : State) (p : Nat) (a : PollBack) (b : PollBack) : Moved 0x1000000101 s (State.combinePolls s p a b) := by
  unfold State.combinePolls
  with_reducible repeat' first
    | assumption
    | intro _
    | apply Moved.refl
    | decide
    | apply Moved.ite
    | (extract_lets +onlyGivenNames z; apply Moved.use z; swap; clear_value z; intro _; swap; subst z)
    | (extract_lets +onlyGivenNames z; clear_value z)
    | apply Moved.forUpTo
    | apply Moved.chain (g := State.setPort_moved _ _ _)
    | apply State.eventIf_moved
    | apply State.put_moved
    | apply Moved.chain (g := State.queueTxn_moved _ _ _)
    | (apply inBlock_of 4; rotate_left; decide; first | omega | (simp only [Ev.DLK_P_ALERT, F.DLK_P_ALERT_MON, F.DLK_P_EDGE_MON, F.DLK_P_EVT_ALERT, F.DLK_P_EVT_CNT2_ALERT, F.DLK_P_REACH_MON, F.DLK_P_STAT_A_CNT, F.DLK_P_STAT_B_CNT] <;> omega) | (simp only [Ev.DLK_P_ALERT, F.DLK_P_ALERT_MON, F.DLK_P_EDGE_MON, F.DLK_P_EVT_ALERT, F.DLK_P_EVT_CNT2_ALERT, F.DLK_P_REACH_MON, F.DLK_P_STAT_A_CNT, F.DLK_P_STAT_B_CNT]; (repeat' split) <;> first | omega | decide | (dsimp only; omega)))
    | split

theorem State.toSplit_moved (s : State) (p : Nat) (tc : Tc) : Moved 0x3008200303 s (State.toSplit s p tc) := by
  unfold State.toSplit
  with_reducible repeat' first
    | assumption
    | intro _
    | apply Moved.refl
    | decide
    | apply Moved.ite
    | (extract_lets +onlyGivenNames z; apply Moved.use z; swap; clear_value z; intro _; swap; subst z)
    | (extract_lets +onlyGivenNames z; clear_value z)
    | apply Moved.foldl
    | apply Moved.chain (g := State.showServe_moved _ _)
    | apply Moved.chain (g := State.reissue_moved _ _ _ _)
    | apply State.put_moved
    | apply Moved.chain (g := State.recomputeLead_moved _)
    | apply State.event_moved
    | (apply inBlock_of 4; rotate_left; decide; first | omega | (simp only [Ev.DLK_P_BREAK, F.DLK_P_EVT_BREAK, F.DLK_P_EVT_CNT0_BREAK, F.DLK_P_STAT_STATE] <;> omega) | (simp only [Ev.DLK_P_BREAK, F.DLK_P_EVT_BREAK, F.DLK_P_EVT_CNT0_BREAK, F.DLK_P_STAT_STATE]; (repeat' split) <;> first | omega | decide | (dsimp only; omega)))

theorem State.toRing_moved (s : State) (p : Nat) (reclose : Bool) : Moved 0x1000000301 s (State.toRing s p reclose) := by
  unfold State.toRing
  with_reducible repeat' first
    | assumption
    | intro _
    | apply Moved.refl
    | decide
    | apply Moved.ite
    | (extract_lets +onlyGivenNames z; apply Moved.use z; swap; clear_value z; intro _; swap; subst z)
    | (extract_lets +onlyGivenNames z; clear_value z)
    | apply Moved.chain (g := State.setPort_moved _ _ _)
    | apply Moved.chain (g := State.showServe_moved _ _)
    | apply State.eventIf_moved
    | apply State.put_moved
    | apply Moved.chain (g := State.recomputeLead_moved _)
    | (apply inBlock_of 4; rotate_left; decide; first | omega | (simp only [Ev.DLK_P_RECLOSE, Ev.DLK_P_TRANSIENT, F.DLK_P_EVT_CNT1_RECLOSE, F.DLK_P_EVT_CNT2_TRANSIENT, F.DLK_P_EVT_RECLOSE, F.DLK_P_EVT_TRANSIENT, F.DLK_P_STAT_STATE] <;> omega) | (simp only [Ev.DLK_P_RECLOSE, Ev.DLK_P_TRANSIENT, F.DLK_P_EVT_CNT1_RECLOSE, F.DLK_P_EVT_CNT2_TRANSIENT, F.DLK_P_EVT_RECLOSE, F.DLK_P_EVT_TRANSIENT, F.DLK_P_STAT_STATE]; (repeat' split) <;> first | omega | decide | (dsimp only; omega)))

theorem State.pinAll_moved (s : State) (p : Nat) : Moved 0x100 s (State.pinAll s p) := by
  unfold State.pinAll
  with_reducible repeat' first
    | assumption
    | intro _
    | apply Moved.refl
    | decide
    | apply Moved.ite
    | (extract_lets +onlyGivenNames z; apply Moved.use z; swap; clear_value z; intro _; swap; subst z)
    | (extract_lets +onlyGivenNames z; clear_value z)
    | apply Moved.chain (g := State.setPort_moved _ _ _)

theorem State.pollRow_moved (s : State) (p : Nat) (through : Bool) (met : Bool) (before : BitVec 32) (reach : BitVec 32) (tc : Tc) : Moved 0x3008200303 s (State.pollRow s p through met before reach tc) := by
  unfold State.pollRow
  with_reducible repeat' first
    | assumption
    | intro _
    | apply Moved.refl
    | decide
    | apply Moved.ite
    | (extract_lets +onlyGivenNames z; apply Moved.use z; swap; clear_value z; intro _; swap; subst z)
    | (extract_lets +onlyGivenNames z; clear_value z)
    | apply Moved.chain (g := State.showServe_moved _ _)
    | apply Moved.chain (g := State.toLocate_moved _ _ _)
    | apply Moved.chain (g := State.toSplit_moved _ _ _)
    | apply Moved.chain (g := State.toRing_moved _ _ _)
    | apply Moved.chain (g := State.pinAll_moved _ _)
    | apply Moved.chain (g := State.ringLost_moved _ _)
    | apply Moved.chain (g := State.enumerate_moved _ _ _)
    | split

end Sys2Proof.Machine
end

