-- ==== Sys2Proof/Laws/MovedLanePower.lean ====
section
/-! SUPPORT. Laws/MovedLanePower.lean: what each operation may change. -/
namespace Sys2Proof.Machine

set_option linter.unreachableTactic false
set_option linter.unusedTactic false
set_option linter.unusedVariables false
set_option linter.unusedSimpArgs false
set_option linter.unnecessarySeqFocus false
set_option linter.style.nameCheck false

open Sys2Proof

/-! Operations of Machine/Lanes.lean. -/

theorem State.showStandby_moved (s : State) : Moved 0x200000000001 s (State.showStandby s) := by
  unfold State.showStandby
  with_reducible repeat' first
    | assumption
    | intro _
    | apply Moved.refl
    | decide
    | apply Moved.ite
    | (extract_lets +onlyGivenNames z; apply Moved.use z; swap; clear_value z; intro _; swap; subst z)
    | (extract_lets +onlyGivenNames z; clear_value z)
    | apply State.putFlag_moved
    | (apply inBlock_of 13; rotate_left; decide; first | omega | (simp only [F.LAN_STAT_STBY_OK] <;> omega) | (simp only [F.LAN_STAT_STBY_OK]; (repeat' split) <;> first | omega | decide | (dsimp only; omega)))

theorem State.setLane_moved (s : State) (l : Lane) (st : Nat) : Moved 0x200000400001 s (State.setLane s l st) := by
  unfold State.setLane
  simp -zeta only [State.withLan_eq]
  with_reducible repeat' first
    | assumption
    | intro _
    | apply Moved.refl
    | decide
    | apply Moved.ite
    | (extract_lets +onlyGivenNames z; apply Moved.use z; swap; clear_value z; intro _; swap; subst z)
    | (extract_lets +onlyGivenNames z; clear_value z)
    | apply Moved.chain (g := State.showStandby_moved _)
    | apply State.put_moved
    | apply Moved.chain (g := State.withLan_moved _ _ )
    | (apply inBlock_of 13; rotate_left; decide; first | omega | (simp only [F.LAN_FAULT_A, F.LAN_FAULT_B, F.LAN_STAT_A_STATE, F.LAN_STAT_B_STATE, laneField] <;> omega) | (simp only [F.LAN_FAULT_A, F.LAN_FAULT_B, F.LAN_STAT_A_STATE, F.LAN_STAT_B_STATE, laneField]; (repeat' split) <;> first | omega | decide | (dsimp only; omega)))

theorem State.faultLane_moved (s : State) (l : Lane) (cls : Nat) : Moved 0x200000400001 s (State.faultLane s l cls) := by
  unfold State.faultLane
  with_reducible repeat' first
    | assumption
    | intro _
    | apply Moved.refl
    | decide
    | apply Moved.ite
    | apply Moved.chain (g := State.setLane_moved _ _ _)
    | apply State.put_moved
    | (apply inBlock_of 13; rotate_left; decide; first | omega | (simp only [F.LAN_FAULT_A, F.LAN_FAULT_B, F.LAN_STAT_A_STATE, F.LAN_STAT_B_STATE, laneFaultField] <;> omega) | (simp only [F.LAN_FAULT_A, F.LAN_FAULT_B, F.LAN_STAT_A_STATE, F.LAN_STAT_B_STATE, laneFaultField]; (repeat' split) <;> first | omega | decide | (dsimp only; omega)))

theorem State.setLevel_moved (s : State) (pl : Nat) : Moved 0x200000400001 s (State.setLevel s pl) := by
  unfold State.setLevel
  simp -zeta only [State.withLan_eq]
  with_reducible repeat' first
    | assumption
    | intro _
    | apply Moved.refl
    | decide
    | apply Moved.ite
    | (extract_lets +onlyGivenNames z; apply Moved.use z; swap; clear_value z; intro _; swap; subst z)
    | (extract_lets +onlyGivenNames z; clear_value z)
    | apply State.put_moved
    | apply Moved.chain (g := State.withLan_moved _ _ )
    | (apply inBlock_of 13; rotate_left; decide; first | omega | (simp only [F.LAN_STAT_PL] <;> omega) | (simp only [F.LAN_STAT_PL]; (repeat' split) <;> first | omega | decide | (dsimp only; omega)))

theorem State.capture_sized (s : State) (tc : Tc) (h : s.Inv) : (s.capture tc).Sized := ⟨h.seq, h.saf.1⟩

theorem State.beginFrame_moved (s : State) (tc : Tc) : Moved 0x200014404001 s (State.beginFrame s tc) := by
  unfold State.beginFrame
  extract_lets a target f bytes x1 x2 b
  have ha : Moved 0x200014404001 s a := State.eventIf_moved (Moved.refl _ s) _ _ (inBlock_of 13 (by decide) (by decide)) (inBlock_of 13 (by decide) (by decide))
  have hf : a.Inv → f.Sized := State.capture_sized a tc
  clear_value f bytes target
  have hb : Moved 0x200014404001 s b := Moved.chain ha (State.withLanFrames_moved a _ _ fun k => ⟨fun g hg => Option.some.inj hg ▸ hf k, k.frames.2.1, k.frames.2.2⟩) (by decide)
  exact Moved.chain (Moved.chain (Moved.chain hb (State.setArea_moved b target none fun _ _ h => nomatch h) (by decide)) (State.potWrite_moved _ _ _ _) (by decide))
    (State.took_moved _) (by decide)

theorem State.silence_moved (s : State) : Moved 0x1803008340303 s (State.silence s) := by
  unfold State.silence
  with_reducible repeat' first
    | assumption
    | intro _
    | apply Moved.refl
    | decide
    | apply Moved.ite
    | (extract_lets +onlyGivenNames z; apply Moved.use z; swap; clear_value z; intro _; swap; subst z)
    | (extract_lets +onlyGivenNames z; clear_value z)
    | apply Moved.forUpTo
    | apply Moved.chain (g := State.ethLinkSet_moved _ _ _)
    | apply Moved.chain (g := State.canDisable_moved _ _)
    | apply Moved.chain (g := State.ethWithdraw_moved _)
    | apply Moved.chain (g := State.portDark_moved _ _)
    | split

theorem State.lanesOff_moved (s : State) : Moved 0x220004402021 s (State.lanesOff s) := by
  unfold State.lanesOff
  simp -zeta only [State.withObjLanFrames_eq]
  with_reducible repeat' first
    | assumption
    | intro _
    | apply Moved.refl
    | decide
    | apply Moved.ite
    | (extract_lets +onlyGivenNames z; apply Moved.use z; swap; clear_value z; intro _; swap; subst z)
    | (extract_lets +onlyGivenNames z; subst z)
    | apply Moved.chain (g := State.setLane_moved _ _ _)
    | apply Moved.chain (g := State.cteHalt_moved _)
    | apply Moved.chain (g := State.withObjLanFrames_moved _ _ _ _ ?_ )
    | split
    | (have h_frames := State.Inv.frames (by assumption); simp_all only [Frames.Sized, length_setAt]; done)
    | (have h_frames := State.Inv.frames (by assumption); simp_all [Frames.Sized, Frames.reset, length_setAt]; done)

theorem State.safeStop_moved (s : State) (cause : Nat) (cls : Nat) (tc : Tc) : Moved 0x21b3300f763323 s (State.safeStop s cause cls tc) := by
  unfold State.safeStop
  simp -zeta only [State.withLanPwr_eq]
  with_reducible repeat' first
    | assumption
    | intro _
    | apply Moved.refl
    | decide
    | apply Moved.ite
    | (extract_lets +onlyGivenNames z; apply Moved.use z; swap; clear_value z; intro _; swap; subst z)
    | (extract_lets +onlyGivenNames z; clear_value z)
    | apply Moved.chain (g := State.silence_moved _)
    | apply Moved.chain (g := State.allSafe_moved _ _)
    | apply Moved.chain (g := State.lanesOff_moved _)
    | apply Moved.chain (g := State.updWithdraw_moved _)
    | apply State.put_moved
    | apply Moved.chain (g := State.withLanPwr_moved _ _ _ )
    | (apply inBlock_of 13; rotate_left; decide; first | omega | (simp only [F.LAN_SS_CAUSE_CAUSE, F.LAN_SS_CAUSE_CLASS] <;> omega) | (simp only [F.LAN_SS_CAUSE_CAUSE, F.LAN_SS_CAUSE_CLASS]; (repeat' split) <;> first | omega | decide | (dsimp only; omega)))

theorem State.loseCopy_moved (s : State) : Moved 0x204000000401 s (State.loseCopy s) := by
  unfold State.loseCopy
  simp -zeta only [State.withEst_eq]
  with_reducible repeat' first
    | assumption
    | intro _
    | apply Moved.refl
    | decide
    | apply Moved.ite
    | apply Moved.chain (g := State.staleTransfer_moved _ _)
    | apply State.putFlag_moved
    | apply Moved.chain (g := State.withEst_moved _ _ )
    | (apply inBlock_of 6; rotate_left; decide; first | omega | (simp only [F.EST_STAT_WB_BUSY] <;> omega) | (simp only [F.EST_STAT_WB_BUSY]; (repeat' split) <;> first | omega | decide | (dsimp only; omega)))
    | split

theorem State.loseRecord_moved (s : State) : Moved 0x200000000041 s (State.loseRecord s) := by
  unfold State.loseRecord
  simp -zeta only [State.withCfg_eq]
  with_reducible repeat' first
    | assumption
    | intro _
    | apply Moved.refl
    | decide
    | apply Moved.ite
    | apply Moved.chain (g := State.staleTransfer_moved _ _)
    | apply Moved.chain (g := State.withCfg_moved _ _ ?_ )
    | split
    | (have h_cfg := State.Inv.cfg (by assumption); simp_all only [Cfg.Sized, length_setAt]; done)
    | (have h_cfg := State.Inv.cfg (by assumption); simp_all [Cfg.Sized, Cfg.reset, length_setAt]; done)

theorem State.loseCause_moved (s : State) : Moved 0x200000010001 s (State.loseCause s) := by
  unfold State.loseCause
  simp -zeta only [State.withThm_eq]
  with_reducible repeat' first
    | assumption
    | intro _
    | apply Moved.refl
    | decide
    | apply Moved.ite
    | apply Moved.chain (g := State.staleTransfer_moved _ _)
    | apply Moved.chain (g := State.withThm_moved _ _ )
    | split

theorem State.loseWrites_moved (s : State) : Moved 0x204000010441 s (State.loseWrites s) := by
  unfold State.loseWrites
  with_reducible repeat' first
    | assumption
    | intro _
    | apply Moved.refl
    | decide
    | apply Moved.ite
    | (extract_lets +onlyGivenNames z; apply Moved.use z; swap; clear_value z; intro _; swap; subst z)
    | (extract_lets +onlyGivenNames z; clear_value z)
    | apply Moved.chain (g := State.loseRecord_moved _)
    | apply Moved.chain (g := State.staleTransfer_moved _ _)
    | apply Moved.chain (g := State.loseCopy_moved _)
    | apply Moved.chain (g := State.loseCause_moved _)
    | split

theorem State.holdCoils_moved (s : State) : Moved 0x21000 s (State.holdCoils s) := by
  unfold State.holdCoils
  simp -zeta only [State.withSaf_eq]
  with_reducible repeat' first
    | assumption
    | intro _
    | apply Moved.refl
    | decide
    | apply Moved.ite
    | (extract_lets +onlyGivenNames z; apply Moved.use z; swap; clear_value z; intro _; swap; subst z)
    | (extract_lets +onlyGivenNames z; (have t9 : Saf := z); clear t9; subst z)
    | (extract_lets +onlyGivenNames z; clear_value z)
    | apply Moved.foldl
    | apply Moved.chain (g := State.setIsl_moved _ _ _)
    | apply Moved.chain (g := State.withSaf_moved _ _ ?_ )
    | split
    | (have h_saf := State.Inv.saf (by assumption); simp_all only [Saf.Sized, length_setAt]; done)
    | (have h_saf := State.Inv.saf (by assumption); simp_all [Saf.Sized, Saf.reset, length_setAt]; done)

theorem State.loseFrame_moved (s : State) (inFlight : Bool) : Moved 0x200004000001 s (State.loseFrame s inFlight) := by
  unfold State.loseFrame
  simp -zeta only [State.withFrames_eq]
  with_reducible repeat' first
    | assumption
    | intro _
    | apply Moved.refl
    | decide
    | apply Moved.ite
    | (extract_lets +onlyGivenNames z; apply Moved.use z; swap; clear_value z; intro _; swap; subst z)
    | (extract_lets +onlyGivenNames z; (have t9 : Frames := z); clear t9; subst z)
    | (extract_lets +onlyGivenNames z; clear_value z)
    | apply Moved.chain (g := State.staleTransfer_moved _ _)
    | apply Moved.chain (g := State.withFrames_moved _ _ ?_ )
    | split
    | (have h_frames := State.Inv.frames (by assumption); simp_all only [Frames.Sized, length_setAt]; done)
    | (have h_frames := State.Inv.frames (by assumption); simp_all [Frames.Sized, Frames.reset, length_setAt]; done)

theorem State.loseChange_moved (s : State) : Moved 0x400000800001 s (State.loseChange s) := by
  unfold State.loseChange
  simp -zeta only [State.withSeq_eq]
  with_reducible repeat' first
    | assumption
    | intro _
    | apply Moved.refl
    | decide
    | apply Moved.ite
    | apply State.put_moved
    | apply State.event_moved
    | apply Moved.chain (g := State.withSeq_moved _ _ ?_ )
    | (apply inBlock_of 14; rotate_left; decide; first | omega | (simp only [Ev.SEQ_OLC_DONE, F.SEQ_EVT_CNT2_OLC_DONE, F.SEQ_EVT_OLC_DONE, F.SEQ_OLC_STAT_CODE] <;> omega) | (simp only [Ev.SEQ_OLC_DONE, F.SEQ_EVT_CNT2_OLC_DONE, F.SEQ_EVT_OLC_DONE, F.SEQ_OLC_STAT_CODE]; (repeat' split) <;> first | omega | decide | (dsimp only; omega)))
    | split
    | (have h_seq := State.Inv.seq (by assumption); simp_all only [Seq.Sized, length_setAt]; done)
    | (have h_seq := State.Inv.seq (by assumption); simp_all [Seq.Sized, Seq.reset, length_setAt]; done)

theorem State.withdraw_moved (s : State) (l : Lane) : Moved 0x29e6440687f461 s (State.withdraw s l) := by
  unfold State.withdraw
  simp -zeta only [State.withObj_eq]
  with_reducible repeat' first
    | assumption
    | intro _
    | apply Moved.refl
    | decide
    | apply Moved.ite
    | (extract_lets +onlyGivenNames z; apply Moved.use z; swap; clear_value z; intro _; swap; subst z)
    | (extract_lets +onlyGivenNames z; clear_value z)
    | apply Moved.chain (g := State.potDiscard_moved _ _)
    | apply Moved.chain (g := State.loseChange_moved _)
    | apply Moved.chain (g := State.canWithdraw_moved _)
    | apply Moved.chain (g := State.lsWithdraw_moved _)
    | apply Moved.chain (g := State.holdCoils_moved _)
    | apply Moved.chain (g := State.dropStaged_moved _)
    | apply Moved.chain (g := State.loseFrame_moved _ _)
    | apply Moved.chain (g := State.updWithdraw_moved _)
    | apply State.put_moved
    | apply Moved.chain (g := State.loseWrites_moved _)
    | apply Moved.chain (g := State.ethWithdraw_moved _)
    | apply Moved.chain (g := State.cteHalt_moved _)
    | apply Moved.chain (g := State.withObj_moved _ _ )
    | (apply inBlock_of 19; rotate_left; decide; first | omega | (simp only [F.REC_STAT_HOLD] <;> omega) | (simp only [F.REC_STAT_HOLD]; (repeat' split) <;> first | omega | decide | (dsimp only; omega)))

theorem State.controlStep_moved (s : State) (l : Lane) (cls : Nat) (tc : Tc) : Moved 0x29f7740ff7f763 s (State.controlStep s l cls tc) := by
  unfold State.controlStep
  simp -zeta only [State.withLan_eq]
  with_reducible repeat' first
    | assumption
    | intro _
    | apply Moved.refl
    | decide
    | apply Moved.ite
    | (extract_lets +onlyGivenNames z; apply Moved.use z; swap; clear_value z; intro _; swap; subst z)
    | (extract_lets +onlyGivenNames z; clear_value z)
    | apply State.bump_moved
    | apply State.wr64_moved
    | apply Moved.chain (g := State.setLane_moved _ _ _)
    | apply Moved.chain (g := State.withdraw_moved _ _)
    | apply State.putFlag_moved
    | apply State.put_moved
    | apply Moved.chain (g := State.faultLane_moved _ _ _)
    | apply Moved.chain (g := State.writeDue_moved _ _)
    | apply Moved.chain (g := State.safeStop_moved _ _ _ _)
    | apply State.event_moved
    | apply Moved.chain (g := State.withLan_moved _ _ )
    | (apply inBlock_of 13; rotate_left; decide; first | omega | (simp only [Ev.LAN_TAKEOVER, F.LAN_CNT_TAKE, F.LAN_EVT_CNT0_TAKEOVER, F.LAN_EVT_TAKEOVER, F.LAN_LAST_CLASS, F.LAN_LAST_FROM, F.LAN_LAST_TC_LO_VALUE, F.LAN_STAT_MGMT_PEND] <;> omega) | (simp only [Ev.LAN_TAKEOVER, F.LAN_CNT_TAKE, F.LAN_EVT_CNT0_TAKEOVER, F.LAN_EVT_TAKEOVER, F.LAN_LAST_CLASS, F.LAN_LAST_FROM, F.LAN_LAST_TC_LO_VALUE, F.LAN_STAT_MGMT_PEND]; (repeat' split) <;> first | omega | decide | (dsimp only; omega)))
    | split

theorem State.takeover_moved (s : State) (l : Lane) (cls : Nat) (tc : Tc) : Moved 0x29f7740ff7f763 s (State.takeover s l cls tc) := by
  unfold State.takeover
  with_reducible repeat' first
    | assumption
    | intro _
    | apply Moved.refl
    | decide
    | apply Moved.ite
    | (extract_lets +onlyGivenNames z; apply Moved.use z; swap; clear_value z; intro _; swap; subst z)
    | (extract_lets +onlyGivenNames z; clear_value z)
    | apply State.bump_moved
    | apply Moved.chain (g := State.setLane_moved _ _ _)
    | apply State.put_moved
    | apply Moved.chain (g := State.controlStep_moved _ _ _ _)
    | (apply inBlock_of 13; rotate_left; decide; first | omega | (simp only [F.LAN_CNT_REQUAL, F.LAN_FAULT_A, F.LAN_FAULT_B, F.LAN_STAT_A_STATE, F.LAN_STAT_B_STATE, laneFaultField] <;> omega) | (simp only [F.LAN_CNT_REQUAL, F.LAN_FAULT_A, F.LAN_FAULT_B, F.LAN_STAT_A_STATE, F.LAN_STAT_B_STATE, laneFaultField]; (repeat' split) <;> first | omega | decide | (dsimp only; omega)))
    | split

theorem State.referee_moved (s : State) (l : Lane) (cls : Nat) (tc : Tc) : Moved 0x29f7740ff7f763 s (State.referee s l cls tc) := by
  unfold State.referee
  with_reducible repeat' first
    | assumption
    | intro _
    | apply Moved.refl
    | decide
    | apply Moved.ite
    | (extract_lets +onlyGivenNames z; apply Moved.use z; swap; clear_value z; intro _; swap; subst z)
    | (extract_lets +onlyGivenNames z; clear_value z)
    | apply Moved.chain (g := State.takeover_moved _ _ _ _)
    | apply Moved.chain (g := State.faultLane_moved _ _ _)
    | apply Moved.chain (g := State.safeStop_moved _ _ _ _)
    | apply State.event_moved
    | (apply inBlock_of 13; rotate_left; decide; first | omega | (simp only [Ev.LAN_STBY_LOST, F.LAN_EVT_CNT0_STBY_LOST, F.LAN_EVT_STBY_LOST] <;> omega) | (simp only [Ev.LAN_STBY_LOST, F.LAN_EVT_CNT0_STBY_LOST, F.LAN_EVT_STBY_LOST]; (repeat' split) <;> first | omega | decide | (dsimp only; omega)))
    | split

theorem State.recordLower_moved (s : State) : Moved 0x200000000001 s (State.recordLower s) := by
  unfold State.recordLower
  with_reducible repeat' first
    | assumption
    | intro _
    | apply Moved.refl
    | decide
    | apply Moved.ite
    | apply State.put_moved
    | (apply inBlock_of 13; rotate_left; decide; first | omega | (simp only [F.LAN_SS_CAUSE_CLASS] <;> omega) | (simp only [F.LAN_SS_CAUSE_CLASS]; (repeat' split) <;> first | omega | decide | (dsimp only; omega)))
    | split

theorem State.referee2_moved (s : State) (l : Lane) (c : Nat) (m : Lane) (d : Nat) (tc : Tc) : Moved 0x29f7740ff7f763 s (State.referee2 s l c m d tc) := by
  unfold State.referee2
  with_reducible repeat' first
    | assumption
    | intro _
    | apply Moved.refl
    | decide
    | apply Moved.ite
    | (extract_lets +onlyGivenNames z; apply Moved.use z; swap; clear_value z; intro _; swap; subst z)
    | (extract_lets +onlyGivenNames z; clear_value z)
    | apply Moved.chain (g := State.recordLower_moved _)
    | apply Moved.chain (g := State.faultLane_moved _ _ _)
    | apply Moved.chain (g := State.referee_moved _ _ _ _)
    | apply Moved.chain (g := State.safeStop_moved _ _ _ _)
    | split

theorem State.takeBack_moved (s : State) (back : LidPins) (tc : Tc) : Moved 0x400000 s (State.takeBack s back tc) := by
  unfold State.takeBack
  simp -zeta only [State.withLan_eq]
  with_reducible repeat' first
    | assumption
    | intro _
    | apply Moved.refl
    | decide
    | apply Moved.ite
    | apply Moved.getD
    | apply Moved.chain (g := State.withLan_moved _ _ )
    | split

theorem State.yield_moved (s : State) (o : Origin) (tc : Tc) : Moved 0x29f7740ff7f763 s (State.yield s o tc) := by
  unfold State.yield
  with_reducible repeat' first
    | assumption
    | intro _
    | apply Moved.refl
    | decide
    | apply Moved.ite
    | apply Moved.chain (g := State.referee_moved _ _ _ _)
    | split

theorem State.heartbeat_moved (s : State) (v : Nat) (o : Origin) : Moved 0x400000 s (State.heartbeat s v o) := by
  unfold State.heartbeat
  simp -zeta only [State.withLan_eq]
  with_reducible repeat' first
    | assumption
    | intro _
    | apply Moved.refl
    | decide
    | apply Moved.ite
    | apply Moved.chain (g := State.withLan_moved _ _ )
    | split

theorem State.watchHeartbeat_moved (s : State) (tc : Tc) : Moved 0x29f7740ff7f763 s (State.watchHeartbeat s tc) := by
  unfold State.watchHeartbeat
  simp -zeta only [State.withLan_eq]
  with_reducible repeat' first
    | assumption
    | intro _
    | apply Moved.refl
    | decide
    | apply Moved.ite
    | (extract_lets +onlyGivenNames z; apply Moved.use z; swap; clear_value z; intro _; swap; subst z)
    | (extract_lets +onlyGivenNames z; clear_value z)
    | apply State.put_moved
    | apply Moved.chain (g := State.referee_moved _ _ _ _)
    | apply Moved.chain (g := State.withLan_moved _ _ )
    | (apply inBlock_of 13; rotate_left; decide; first | omega | (simp only [F.LAN_HB_MISS] <;> omega) | (simp only [F.LAN_HB_MISS]; (repeat' split) <;> first | omega | decide | (dsimp only; omega)))
    | split

theorem State.plannedSwitch_moved (s : State) (tc : Tc) : Moved 0x400000 s (State.plannedSwitch s tc) := by
  unfold State.plannedSwitch
  simp -zeta only [State.withLan_eq]
  with_reducible repeat' first
    | assumption
    | intro _
    | apply Moved.refl
    | decide
    | apply Moved.ite
    | apply Moved.chain (g := State.withLan_moved _ _ )
    | split

theorem State.newHalf_lanes (y : State) (x : LidPins) (e : Word) (tc : Tc) : Moved 0x402000 y { y with
    lan := { y.lan with pins := x, back := x, clear := none, odd := none, control := none, restoring := some e, readyTc := tc }
    cte := { y.cte with ready := true } } := State.withCteLan_moved y _ _ fun k => ⟨k.cte.1, k.cte.2⟩

theorem State.newHalf_moved (s : State) (l : Lane) (cls : Nat) (at_ : Tc) (tc : Tc) : Moved 0x1a20200446001 s (State.newHalf s l cls at_ tc) := by
  unfold State.newHalf
  extract_lets n e x y lan cte a a2 b c
  have hx : Moved 0x1a20200446001 s x := by
    cases h : s.bestImage with
    | some v =>
      simp only [x, h]
      exact Moved.chain (Moved.refl _ s) (State.cteRestore_moved _ _) (by decide)
    | none =>
      simp only [x, h]
      exact Moved.refl _ s
  have hy : Moved 0x1a20200446001 s y := State.putFlag_moved (State.wr_moved hx _ _ (inBlock_of 1 (by omega) (by decide))) _ _ (inBlock_of 13 (by decide) (by decide))
  clear_value e y x
  have ha : Moved 0x1a20200446001 s a := Moved.chain hy (State.newHalf_lanes y (lidPins (some n)) e tc) (by decide)
  have ha2 : Moved 0x1a20200446001 s a2 := Moved.chain ha (State.streamRecheck_moved _) (by decide)
  have hb : Moved 0x1a20200446001 s b := Moved.chain (State.put_moved (State.put_moved (Moved.chain ha2 (State.showStandby_moved _) (by decide))
    _ _ (inBlock_of 13 (by decide) (by decide))) _ _ (inBlock_of 13 (by decide) (by decide))) (State.setLevel_moved _ _) (by decide)
  have hc : Moved 0x1a20200446001 s c := Moved.chain (Moved.chain (Moved.chain hb (State.canResume_moved _) (by decide)) (State.ethResume_moved _) (by decide)) (State.showCte_moved _) (by decide)
  exact Moved.chain (Moved.chain (Moved.chain hc (State.writeImage_moved _ _ _) (by decide)) (State.writeImage_moved _ _ _) (by decide)) (State.showImages_moved _) (by decide)

theorem State.takeHeld_moved (s : State) (f : Frame) (a : Nat) : Moved 0x3fffff00000001 s (State.takeHeld s f a) := by
  unfold State.takeHeld
  with_reducible repeat' first
    | assumption
    | intro _
    | apply Moved.refl
    | decide
    | apply Moved.ite
    | (extract_lets +onlyGivenNames z; apply Moved.use z; swap; clear_value z; intro _; swap; subst z)
    | (extract_lets +onlyGivenNames z; clear_value z)
    | apply Moved.chain (g := State.wr_all _ _ _)

theorem State.takeLive_moved (s : State) (f : Frame) : Moved 0x3fffff00000001 s (State.takeLive s f) := by
  unfold State.takeLive
  with_reducible repeat' first
    | assumption
    | intro _
    | apply Moved.refl
    | decide
    | apply Moved.ite
    | (extract_lets +onlyGivenNames z; apply Moved.use z; swap; clear_value z; intro _; swap; subst z)
    | (extract_lets +onlyGivenNames z; clear_value z)
    | apply Moved.foldl
    | apply Moved.chain (g := State.wr_all _ _ _)

theorem State.rebuild_moved (s : State) (f : Frame) (tc : Tc) (hf : f.Sized) : Moved 0x3fffff02efb401 s (State.rebuild s f tc) := by
  unfold State.rebuild
  simp -zeta only [State.withEstDspThmSafTimRcdSeq_eq, State.withLan_eq, State.withSaf_eq]
  with_reducible repeat' first
    | assumption
    | intro _
    | apply Moved.refl
    | decide
    | apply Moved.ite
    | (extract_lets +onlyGivenNames z; apply Moved.use z; swap; clear_value z; intro _; swap; subst z)
    | (extract_lets +onlyGivenNames z; (have t9 : Saf := z); clear t9; subst z)
    | (extract_lets +onlyGivenNames z; (have t9 : Seq := z); clear t9; subst z)
    | (extract_lets +onlyGivenNames z; (have t9 : Tim := z); clear t9; subst z)
    | (extract_lets +onlyGivenNames z; clear_value z)
    | apply Moved.forUpTo
    | apply Moved.foldl
    | apply Moved.chain (g := State.sdTimeout_moved _ _ _)
    | apply Moved.chain (g := State.invalidateWriting_moved _)
    | apply Moved.chain (g := State.canCtrl_moved _ _ _)
    | apply Moved.chain (g := State.takeRequestFrame_moved _)
    | apply Moved.chain (g := State.canTake_moved _ _ _)
    | apply Moved.chain (g := State.sdReceive_moved _ _ _ _ _)
    | apply State.wr_moved
    | apply Moved.chain (g := State.takeHeld_moved _ _ _)
    | apply Moved.chain (g := State.takeLive_moved _ _)
    | apply Moved.chain (g := State.sdRewrite_moved _ _)
    | apply State.put_moved
    | apply Moved.chain (g := State.recCount_moved _ _)
    | apply Moved.chain (g := State.withEstDspThmSafTimRcdSeq_moved _ _ _ _ _ _ _ _ ?_ ?_ ?_ )
    | apply Moved.chain (g := State.withLan_moved _ _ )
    | apply Moved.chain (g := State.withSaf_moved _ _ ?_ )
    | (apply inBlock_of 2; rotate_left; decide; first | omega | (simp only [F.CAN_CTRL_EN, F.CFG_LS_STAT_SEQ, F.REC_RD_STAT_STATE] <;> omega) | (simp only [F.CAN_CTRL_EN, F.CFG_LS_STAT_SEQ, F.REC_RD_STAT_STATE]; (repeat' split) <;> first | omega | decide | (dsimp only; omega)))
    | (apply inBlock_of 15; rotate_left; decide; first | omega | (simp only [F.CAN_CTRL_EN, F.CFG_LS_STAT_SEQ, F.REC_RD_STAT_STATE] <;> omega) | (simp only [F.CAN_CTRL_EN, F.CFG_LS_STAT_SEQ, F.REC_RD_STAT_STATE]; (repeat' split) <;> first | omega | decide | (dsimp only; omega)))
    | (apply inBlock_of 19; rotate_left; decide; first | omega | (simp only [F.CAN_CTRL_EN, F.CFG_LS_STAT_SEQ, F.REC_RD_STAT_STATE] <;> omega) | (simp only [F.CAN_CTRL_EN, F.CFG_LS_STAT_SEQ, F.REC_RD_STAT_STATE]; (repeat' split) <;> first | omega | decide | (dsimp only; omega)))
    | split
    | (have h_saf := State.Inv.saf (by assumption); have h_seq := State.Inv.seq (by assumption); have h_tim := State.Inv.tim (by assumption); simp_all only [Saf.Sized, Seq.Sized, Tim.Sized, Frame.Sized, length_setAt]; done)
    | (have h_saf := State.Inv.saf (by assumption); have h_seq := State.Inv.seq (by assumption); have h_tim := State.Inv.tim (by assumption); simp_all [Saf.Sized, Seq.Sized, Tim.Sized, Frame.Sized, Saf.reset, Seq.reset, Tim.reset, length_setAt]; done)

theorem State.restartWrites_moved (s : State) (tc : Tc) : Moved 0x4000000401 s (State.restartWrites s tc) := by
  unfold State.restartWrites
  simp -zeta only [State.withEst_eq]
  with_reducible repeat' first
    | assumption
    | intro _
    | apply Moved.refl
    | decide
    | apply Moved.ite
    | (extract_lets +onlyGivenNames z; apply Moved.use z; swap; clear_value z; intro _; swap; subst z)
    | (extract_lets +onlyGivenNames z; clear_value z)
    | apply Moved.foldl
    | apply Moved.chain (g := State.triggerWb_moved _ _ _)
    | apply Moved.chain (g := State.withEst_moved _ _ )

theorem State.abandonEntry_moved (s : State) (tc : Tc) : Moved 0x11807009240323 s (State.abandonEntry s tc) := by
  unfold State.abandonEntry
  simp -zeta only [State.withPwr_eq]
  with_reducible repeat' first
    | assumption
    | intro _
    | apply Moved.refl
    | decide
    | apply Moved.ite
    | (extract_lets +onlyGivenNames z; apply Moved.use z; swap; clear_value z; intro _; swap; subst z)
    | (extract_lets +onlyGivenNames z; clear_value z)
    | apply Moved.forUpTo
    | apply Moved.chain (g := State.setPort_moved _ _ _)
    | apply Moved.chain (g := State.reenumPort_moved _ _ _)
    | apply Moved.chain (g := State.canEnable_moved _ _)
    | apply Moved.chain (g := State.setCanCh_moved _ _ _)
    | apply Moved.chain (g := State.serviceOn_moved _)
    | apply Moved.chain (g := State.estEnable_moved _)
    | apply State.put_moved
    | apply Moved.chain (g := State.withPwr_moved _ _ )
    | (apply inBlock_of 5; rotate_left; decide; first | omega | (simp only [Ev.ETH_LINK0, Ev.ETH_LINK1, F.ETH_EVT_CNT0_LINK0, F.ETH_EVT_CNT0_LINK1, F.ETH_EVT_LINK0, F.ETH_EVT_LINK1, F.ETH_STAT_E0_LINK, F.ETH_STAT_E0_TC10, F.ETH_STAT_E1_LINK, F.ETH_STAT_E1_TC10, F.PWR_STAT_ENTRY, F.PWR_STAT_TARGET, F.SWP_STAT_RUN, ethTc10] <;> omega) | (simp only [Ev.ETH_LINK0, Ev.ETH_LINK1, F.ETH_EVT_CNT0_LINK0, F.ETH_EVT_CNT0_LINK1, F.ETH_EVT_LINK0, F.ETH_EVT_LINK1, F.ETH_STAT_E0_LINK, F.ETH_STAT_E0_TC10, F.ETH_STAT_E1_LINK, F.ETH_STAT_E1_TC10, F.PWR_STAT_ENTRY, F.PWR_STAT_TARGET, F.SWP_STAT_RUN, ethTc10]; (repeat' split) <;> first | omega | decide | (dsimp only; omega)))
    | (apply inBlock_of 16; rotate_left; decide; first | omega | (simp only [Ev.ETH_LINK0, Ev.ETH_LINK1, F.ETH_EVT_CNT0_LINK0, F.ETH_EVT_CNT0_LINK1, F.ETH_EVT_LINK0, F.ETH_EVT_LINK1, F.ETH_STAT_E0_LINK, F.ETH_STAT_E0_TC10, F.ETH_STAT_E1_LINK, F.ETH_STAT_E1_TC10, F.PWR_STAT_ENTRY, F.PWR_STAT_TARGET, F.SWP_STAT_RUN, ethTc10] <;> omega) | (simp only [Ev.ETH_LINK0, Ev.ETH_LINK1, F.ETH_EVT_CNT0_LINK0, F.ETH_EVT_CNT0_LINK1, F.ETH_EVT_LINK0, F.ETH_EVT_LINK1, F.ETH_STAT_E0_LINK, F.ETH_STAT_E0_TC10, F.ETH_STAT_E1_LINK, F.ETH_STAT_E1_TC10, F.PWR_STAT_ENTRY, F.PWR_STAT_TARGET, F.SWP_STAT_RUN, ethTc10]; (repeat' split) <;> first | omega | decide | (dsimp only; omega)))
    | (apply inBlock_of 20; rotate_left; decide; first | omega | (simp only [Ev.ETH_LINK0, Ev.ETH_LINK1, F.ETH_EVT_CNT0_LINK0, F.ETH_EVT_CNT0_LINK1, F.ETH_EVT_LINK0, F.ETH_EVT_LINK1, F.ETH_STAT_E0_LINK, F.ETH_STAT_E0_TC10, F.ETH_STAT_E1_LINK, F.ETH_STAT_E1_TC10, F.PWR_STAT_ENTRY, F.PWR_STAT_TARGET, F.SWP_STAT_RUN, ethTc10] <;> omega) | (simp only [Ev.ETH_LINK0, Ev.ETH_LINK1, F.ETH_EVT_CNT0_LINK0, F.ETH_EVT_CNT0_LINK1, F.ETH_EVT_LINK0, F.ETH_EVT_LINK1, F.ETH_STAT_E0_LINK, F.ETH_STAT_E0_TC10, F.ETH_STAT_E1_LINK, F.ETH_STAT_E1_TC10, F.PWR_STAT_ENTRY, F.PWR_STAT_TARGET, F.SWP_STAT_RUN, ethTc10]; (repeat' split) <;> first | omega | decide | (dsimp only; omega)))
    | split

theorem State.management_moved (s : State) (tc : Tc) : Moved 0x11a47409e48763 s (State.management s tc) := by
  unfold State.management
  simp -zeta only [State.withLan_eq, State.withSeq_eq]
  with_reducible repeat' first
    | assumption
    | intro _
    | apply Moved.refl
    | decide
    | apply Moved.ite
    | (extract_lets +onlyGivenNames z; apply Moved.use z; swap; clear_value z; intro _; swap; subst z)
    | (extract_lets +onlyGivenNames z; (have t9 : Seq := z); clear t9; subst z)
    | (extract_lets +onlyGivenNames z; clear_value z)
    | apply Moved.chain (g := State.lsReport_moved _)
    | apply Moved.chain (g := State.restartWrites_moved _ _)
    | apply Moved.chain (g := State.abandonEntry_moved _ _)
    | apply Moved.chain (g := State.setLane_moved _ _ _)
    | apply State.putFlag_moved
    | apply State.put_moved
    | apply Moved.chain (g := State.dspStart_moved _ _)
    | apply Moved.chain (g := State.setLevel_moved _ _)
    | apply Moved.chain (g := State.withLan_moved _ _ )
    | apply Moved.chain (g := State.withSeq_moved _ _ ?_ )
    | (apply inBlock_of 10; rotate_left; decide; first | omega | (simp only [F.DSP_STAT_RUN, F.LAN_HB_MISS, F.LAN_STAT_MGMT_PEND] <;> omega) | (simp only [F.DSP_STAT_RUN, F.LAN_HB_MISS, F.LAN_STAT_MGMT_PEND]; (repeat' split) <;> first | omega | decide | (dsimp only; omega)))
    | (apply inBlock_of 13; rotate_left; decide; first | omega | (simp only [F.DSP_STAT_RUN, F.LAN_HB_MISS, F.LAN_STAT_MGMT_PEND] <;> omega) | (simp only [F.DSP_STAT_RUN, F.LAN_HB_MISS, F.LAN_STAT_MGMT_PEND]; (repeat' split) <;> first | omega | decide | (dsimp only; omega)))
    | (have h_seq := State.Inv.seq (by assumption); simp_all only [Seq.Sized, length_setAt]; done)
    | (have h_seq := State.Inv.seq (by assumption); simp_all [Seq.Sized, Seq.reset, length_setAt]; done)

theorem State.showStandbyAge_moved (s : State) (tc : Tc) : Moved 0x200000000001 s (State.showStandbyAge s tc) := by
  unfold State.showStandbyAge
  with_reducible repeat' first
    | assumption
    | intro _
    | apply Moved.refl
    | decide
    | apply Moved.ite
    | apply State.put_moved
    | (apply inBlock_of 13; rotate_left; decide; first | omega | (simp only [F.LAN_STBY_AGE_S] <;> omega) | (simp only [F.LAN_STBY_AGE_S]; (repeat' split) <;> first | omega | decide | (dsimp only; omega)))
    | split

/-! Operations of Machine/Reply.lean. -/

theorem State.answer_moved (s : State) (r : Request) (status : Nat) (index : Nat) (epoch : Word) (values : List Word) : Moved 0x800208040001 s (State.answer s r status index epoch values) := by
  unfold State.answer
  with_reducible repeat' first
    | assumption
    | intro _
    | apply Moved.refl
    | decide
    | apply Moved.ite
    | (extract_lets +onlyGivenNames z; apply Moved.use z; swap; clear_value z; intro _; swap; subst z)
    | (extract_lets +onlyGivenNames z; clear_value z)
    | apply Moved.getD
    | apply State.bump_moved
    | apply Moved.chain (g := State.canSend_moved _ _ _)
    | apply Moved.chain (g := State.emit_moved _ _)
    | (apply inBlock_of 1; rotate_left; decide; first | omega | (simp only [F.OBJ_SVC_CNT_DONE, F.OBJ_SVC_CNT_REJECT] <;> omega) | (simp only [F.OBJ_SVC_CNT_DONE, F.OBJ_SVC_CNT_REJECT]; (repeat' split) <;> first | omega | decide | (dsimp only; omega)))
    | split

theorem State.answerStatus_moved (s : State) (r : Request) (status : Nat) : Moved 0x800208040001 s (State.answerStatus s r status) := by
  unfold State.answerStatus
  with_reducible repeat' first
    | assumption
    | intro _
    | apply Moved.refl
    | decide
    | apply Moved.ite
    | apply Moved.chain (g := State.answer_moved _ _ _ _ _ _)

theorem State.serviceOff_moved (s : State) : Moved 0x800208040021 s (State.serviceOff s) := by
  unfold State.serviceOff
  simp -zeta only [State.withObj_eq]
  with_reducible repeat' first
    | assumption
    | intro _
    | apply Moved.refl
    | decide
    | apply Moved.ite
    | (extract_lets +onlyGivenNames z; apply Moved.use z; swap; clear_value z; intro _; swap; subst z)
    | (extract_lets +onlyGivenNames z; clear_value z)
    | apply Moved.foldl
    | apply Moved.chain (g := State.answerStatus_moved _ _ _)
    | apply Moved.chain (g := State.withObj_moved _ _ )

/-! Operations of Machine/Power.lean. -/

theorem State.freshObjs_wf (s : State) (keep : Nat → Word) : (State.freshObjs s keep).wf = true := by
  unfold State.freshObjs
  generalize resetObjs.map (·.1) ++ s.objs.map (·.1) = l
  have h : Cells.wf (resetObjs : Cells 32) = true := by decide
  revert h
  generalize (resetObjs : Cells 32) = c
  intro h
  induction l generalizing c with
  | nil => exact h
  | cons a l ih =>
    refine ih _ ?_
    beta_reduce
    split
    · exact h
    · exact Cells.wf_set h _ _

theorem State.fresh_moved (s : State) (keep : Nat → Word) : Moved 0x3fffff07ffffff s (State.fresh s keep) :=
  ⟨⟨rfl, List.suffix_refl _, le_refl _, fun c => ⟨State.freshObjs_wf s keep, rfl, rfl, rfl, rfl, c.cfg, rfl, List.length_replicate .., rfl, ⟨rfl, rfl⟩, ⟨rfl, rfl⟩, ⟨rfl, rfl, rfl, rfl, rfl⟩, rfl, rfl, rfl, rfl, Frames.sized_reset⟩⟩, fun i hi => by
    unfold State.sameAt
    split <;> first | rfl | exact absurd hi (by decide), fun _ ha hi => (no_block (by decide) ha hi).elim⟩

theorem State.foundCause_moved (s : State) (cause : Nat) (cool : Bool) : Moved 0x80001001001 s (State.foundCause s cause cool) := by
  unfold State.foundCause
  simp -zeta only [State.withPrtPwr_eq]
  with_reducible repeat' first
    | assumption
    | intro _
    | apply Moved.refl
    | decide
    | apply Moved.ite
    | (extract_lets +onlyGivenNames z; apply Moved.use z; swap; clear_value z; intro _; swap; subst z)
    | (extract_lets +onlyGivenNames z; (have t9 : Prt := z); clear t9; subst z)
    | (extract_lets +onlyGivenNames z; clear_value z)
    | apply State.event_moved
    | apply Moved.chain (g := State.withPrtPwr_moved _ _ _ ?_ )
    | (apply inBlock_of 11; rotate_left; decide; first | omega | (simp only [Ev.THM_SD_FOUND, F.THM_EVT_CNT1_SD_FOUND, F.THM_EVT_SD_FOUND] <;> omega) | (simp only [Ev.THM_SD_FOUND, F.THM_EVT_CNT1_SD_FOUND, F.THM_EVT_SD_FOUND]; (repeat' split) <;> first | omega | decide | (dsimp only; omega)))
    | split
    | (have h_prt := State.Inv.prt (by assumption); simp_all only [Prt.Sized, length_setAt]; done)
    | (have h_prt := State.Inv.prt (by assumption); simp_all [Prt.Sized, Prt.reset, length_setAt]; done)

theorem State.startWith_moved (s : State) (keep : Nat → Word) (cause : Nat) (tc : Tc) : Moved 0x3fffff17ffffff s (State.startWith s keep cause tc) := by
  unfold State.startWith
  simp -zeta only [State.withPwr_eq]
  with_reducible repeat' first
    | assumption
    | intro _
    | apply Moved.refl
    | decide
    | apply Moved.ite
    | (extract_lets +onlyGivenNames z; apply Moved.use z; swap; clear_value z; intro _; swap; subst z)
    | (extract_lets +onlyGivenNames z; clear_value z)
    | apply Moved.chain (g := State.fresh_moved _ _)
    | apply Moved.chain (g := State.showCause_moved _)
    | apply Moved.chain (g := State.invalidateWriting_moved _)
    | apply Moved.chain (g := State.foundCause_moved _ _ _)
    | apply Moved.chain (g := State.svcNonce_moved _)
    | apply State.put_moved
    | apply Moved.chain (g := State.bootChoose_moved _)
    | apply Moved.chain (g := State.safPowerUp_moved _ _)
    | apply Moved.chain (g := State.withPwr_moved _ _ )
    | (apply inBlock_of 20; rotate_left; decide; first | omega | (simp only [F.PWR_STAT_HOLDUP_OK, F.PWR_STAT_START] <;> omega) | (simp only [F.PWR_STAT_HOLDUP_OK, F.PWR_STAT_START]; (repeat' split) <;> first | omega | decide | (dsimp only; omega)))

theorem State.beginStart_moved (s : State) (cause : Nat) (tc : Tc) : Moved 0x3fffff17ffffff s (State.beginStart s cause tc) := by
  unfold State.beginStart
  with_reducible repeat' first
    | assumption
    | intro _
    | apply Moved.refl
    | decide
    | apply Moved.ite
    | apply Moved.chain (g := State.startWith_moved _ _ _ _)

theorem State.beginSupply_moved (s : State) (cause : Nat) (wakeIn : Bool) (tc : Tc) : Moved 0x3fffff17ffffff s (State.beginSupply s cause wakeIn tc) := by
  unfold State.beginSupply
  with_reducible repeat' first
    | assumption
    | intro _
    | apply Moved.refl
    | decide
    | apply Moved.ite
    | (extract_lets +onlyGivenNames z; apply Moved.use z; swap; clear_value z; intro _; swap; subst z)
    | (extract_lets +onlyGivenNames z; clear_value z)
    | apply Moved.chain (g := State.startWith_moved _ _ _ _)
    | apply State.put_moved
    | (apply inBlock_of 20; rotate_left; decide; first | omega | (simp only [F.PWR_WAKE_REC_PENDING, F.PWR_WAKE_REC_SOURCE] <;> omega) | (simp only [F.PWR_WAKE_REC_PENDING, F.PWR_WAKE_REC_SOURCE]; (repeat' split) <;> first | omega | decide | (dsimp only; omega)))
    | split

theorem State.takeGiven_moved (s : State) (given : List (Nat × Word)) : Moved 0x3fffff00000001 s (State.takeGiven s given) := by
  unfold State.takeGiven
  with_reducible repeat' first
    | assumption
    | intro _
    | apply Moved.refl
    | decide
    | apply Moved.ite
    | (extract_lets +onlyGivenNames z; apply Moved.use z; swap; clear_value z; intro _; swap; subst z)
    | (extract_lets +onlyGivenNames z; clear_value z)
    | apply Moved.foldl
    | apply Moved.chain (g := State.wr_all _ _ _)

theorem State.clearStop_moved (s : State) : Moved 0x200000400001 s (State.clearStop s) := by
  unfold State.clearStop
  simp -zeta only [State.withLan_eq]
  with_reducible repeat' first
    | assumption
    | intro _
    | apply Moved.refl
    | decide
    | apply Moved.ite
    | (extract_lets +onlyGivenNames z; apply Moved.use z; swap; clear_value z; intro _; swap; subst z)
    | (extract_lets +onlyGivenNames z; clear_value z)
    | apply State.put_moved
    | apply Moved.chain (g := State.withLan_moved _ _ )
    | (apply inBlock_of 13; rotate_left; decide; first | omega | (simp only [F.LAN_SS_CAUSE_AUTO, F.LAN_SS_CAUSE_CAUSE, F.LAN_SS_CAUSE_CLASS] <;> omega) | (simp only [F.LAN_SS_CAUSE_AUTO, F.LAN_SS_CAUSE_CAUSE, F.LAN_SS_CAUSE_CLASS]; (repeat' split) <;> first | omega | decide | (dsimp only; omega)))

theorem State.cfgRestart_moved (s : State) (v : Word) (tc : Tc) : Moved 0x3fffff17ffffff s (State.cfgRestart s v tc) := by
  unfold State.cfgRestart
  with_reducible repeat' first
    | assumption
    | intro _
    | apply Moved.refl
    | decide
    | apply Moved.ite
    | apply Moved.chain (g := State.allSafe_moved _ _)
    | apply Moved.chain (g := State.beginStart_moved _ _ _)
    | split

theorem State.sleepRefused_moved (s : State) (code : Nat) : Moved 0x10000000000001 s (State.sleepRefused s code) := by
  unfold State.sleepRefused
  with_reducible repeat' first
    | assumption
    | intro _
    | apply Moved.refl
    | decide
    | apply Moved.ite
    | apply State.bump_moved
    | apply State.put_moved
    | (apply inBlock_of 20; rotate_left; decide; first | omega | (simp only [F.PWR_REFUSE_CNT, F.PWR_REFUSE_CODE] <;> omega) | (simp only [F.PWR_REFUSE_CNT, F.PWR_REFUSE_CODE]; (repeat' split) <;> first | omega | decide | (dsimp only; omega)))

theorem State.pwrCtrl_moved (s : State) (key : Nat) (target : Nat) : Moved 0x10000001000001 s (State.pwrCtrl s key target) := by
  unfold State.pwrCtrl
  simp -zeta only [State.withPwr_eq]
  with_reducible repeat' first
    | assumption
    | intro _
    | apply Moved.refl
    | decide
    | apply Moved.ite
    | apply Moved.chain (g := State.sleepRefused_moved _ _)
    | apply Moved.chain (g := State.withPwr_moved _ _ )
    | split

theorem State.putSources_moved (s : State) (m : Nat) : Moved 0x10000000000001 s (State.putSources s m) := by
  unfold State.putSources
  with_reducible repeat' first
    | assumption
    | intro _
    | apply Moved.refl
    | decide
    | apply Moved.ite
    | apply State.put_moved
    | (apply inBlock_of 20; rotate_left; decide; first | omega | (simp only [F.PWR_WAKE_REC_PENDING, F.PWR_WAKE_REC_SOURCE] <;> omega) | (simp only [F.PWR_WAKE_REC_PENDING, F.PWR_WAKE_REC_SOURCE]; (repeat' split) <;> first | omega | decide | (dsimp only; omega)))

theorem State.beginWake_moved (s : State) (sources : Nat) (tick : Nat) (tc : Tc) : Moved 0x3fffff1fffffff s (State.beginWake s sources tick tc) := by
  unfold State.beginWake
  simp -zeta only [State.withPwr_eq]
  with_reducible repeat' first
    | assumption
    | intro _
    | apply Moved.refl
    | decide
    | apply Moved.ite
    | (extract_lets +onlyGivenNames z; apply Moved.use z; swap; clear_value z; intro _; swap; subst z)
    | (extract_lets +onlyGivenNames z; clear_value z)
    | apply State.put_moved
    | apply Moved.chain (g := State.putSources_moved _ _)
    | apply Moved.chain (g := State.beginStart_moved _ _ _)
    | apply Moved.chain (g := State.emit_moved _ _)
    | apply State.event_moved
    | apply Moved.chain (g := State.withPwr_moved _ _ )
    | (apply inBlock_of 20; rotate_left; decide; first | omega | (simp only [Ev.PWR_WAKE, F.PWR_EVT_CNT0_WAKE, F.PWR_EVT_WAKE, F.PWR_WAKE_DUR_S, F.PWR_WAKE_REC_LEFT] <;> omega) | (simp only [Ev.PWR_WAKE, F.PWR_EVT_CNT0_WAKE, F.PWR_EVT_WAKE, F.PWR_WAKE_DUR_S, F.PWR_WAKE_REC_LEFT]; (repeat' split) <;> first | omega | decide | (dsimp only; omega)))
    | split

theorem State.wakeSeen_moved (s : State) (c : Nat) (t : WakeAt) (tc : Tc) : MovedO 0x3fffff1fffffff s (State.wakeSeen s c t tc) := by
  unfold State.wakeSeen
  simp -zeta only [State.withPwr_eq]
  with_reducible repeat' first
    | assumption
    | intro _
    | apply Moved.refl
    | decide
    | apply Moved.ite
    | apply MovedO.none
    | apply MovedO.some
    | apply MovedO.ite
    | apply Moved.chain (g := State.beginWake_moved _ _ _ _)
    | apply Moved.chain (g := State.putSources_moved _ _)
    | apply Moved.chain (g := State.withPwr_moved _ _ )
    | split

theorem State.takeJunctions_moved (s : State) (t1 : BitVec 16) (t2 : BitVec 16) : Moved 0x80000010001 s (State.takeJunctions s t1 t2) := by
  unfold State.takeJunctions
  simp -zeta only [State.withThm_eq]
  with_reducible repeat' first
    | assumption
    | intro _
    | apply Moved.refl
    | decide
    | apply Moved.ite
    | (extract_lets +onlyGivenNames z; apply Moved.use z; swap; clear_value z; intro _; swap; subst z)
    | (extract_lets +onlyGivenNames z; clear_value z)
    | apply State.putFlag_moved
    | apply State.put_moved
    | apply Moved.chain (g := State.withThm_moved _ _ )
    | (apply inBlock_of 11; rotate_left; decide; first | omega | (simp only [F.THM_STAT_JS_FAULT, F.THM_TJ_TJ1, F.THM_TJ_TJ2] <;> omega) | (simp only [F.THM_STAT_JS_FAULT, F.THM_TJ_TJ1, F.THM_TJ_TJ2]; (repeat' split) <;> first | omega | decide | (dsimp only; omega)))
    | split

theorem State.keysUnknown_moved (s : State) : Moved 0x20000012000001 s (State.keysUnknown s) := by
  unfold State.keysUnknown
  simp -zeta only [State.withUpd_eq]
  with_reducible repeat' first
    | assumption
    | intro _
    | apply Moved.refl
    | decide
    | apply Moved.ite
    | (extract_lets +onlyGivenNames z; apply Moved.use z; swap; clear_value z; intro _; swap; subst z)
    | (extract_lets +onlyGivenNames z; clear_value z)
    | apply Moved.chain (g := State.tookN_moved _ _)
    | apply State.putFlag_moved
    | apply State.put_moved
    | apply Moved.chain (g := State.withUpd_moved _ _ )
    | (apply inBlock_of 21; rotate_left; decide; first | omega | (simp only [F.UPD_KS_STAT_KEYS, F.UPD_STAT_PROVISIONED] <;> omega) | (simp only [F.UPD_KS_STAT_KEYS, F.UPD_STAT_PROVISIONED]; (repeat' split) <;> first | omega | decide | (dsimp only; omega)))

/-! Operations of Machine/Confirm.lean. -/

theorem State.showSelect_moved (s : State) : Moved 0x400000001 s (State.showSelect s) := by
  unfold State.showSelect
  with_reducible repeat' first
    | assumption
    | intro _
    | apply Moved.refl
    | decide
    | apply Moved.ite
    | apply Moved.forUpTo
    | apply State.putFlag_moved
    | (apply inBlock_of 2; rotate_left; decide; first | omega | (simp only [F.CFG_SLOT_STAT_FB_MARK, F.CFG_SLOT_STAT_PRI_MARK] <;> omega) | (simp only [F.CFG_SLOT_STAT_FB_MARK, F.CFG_SLOT_STAT_PRI_MARK]; (repeat' split) <;> first | omega | decide | (dsimp only; omega)))

theorem State.cfgSelect_moved (s : State) (v : Word) : Moved 0x400000001 s (State.cfgSelect s v) := by
  unfold State.cfgSelect
  with_reducible repeat' first
    | assumption
    | intro _
    | apply Moved.refl
    | decide
    | apply Moved.ite
    | (extract_lets +onlyGivenNames z; apply Moved.use z; swap; clear_value z; intro _; swap; subst z)
    | (extract_lets +onlyGivenNames z; clear_value z)
    | apply Moved.chain (g := State.showSelect_moved _)
    | apply State.putFlag_moved
    | apply State.put_moved
    | (apply inBlock_of 2; rotate_left; decide; first | omega | (simp only [F.CFG_SELECT_FALLBACK, F.CFG_SELECT_FB_EN, F.CFG_SELECT_PRIMARY] <;> omega) | (simp only [F.CFG_SELECT_FALLBACK, F.CFG_SELECT_FB_EN, F.CFG_SELECT_PRIMARY]; (repeat' split) <;> first | omega | decide | (dsimp only; omega)))
    | split

theorem State.confirmFail_moved (s : State) : Moved 0x400000001 s (State.confirmFail s) := by
  unfold State.confirmFail
  with_reducible repeat' first
    | assumption
    | intro _
    | apply Moved.refl
    | decide
    | apply Moved.ite
    | apply State.put_moved
    | apply State.event_moved
    | (apply inBlock_of 2; rotate_left; decide; first | omega | (simp only [Ev.CFG_CONF_FAIL, F.CFG_EVT_CNT_CONF_FAIL, F.CFG_EVT_CONF_FAIL, F.CFG_STAT_CONF_WIN] <;> omega) | (simp only [Ev.CFG_CONF_FAIL, F.CFG_EVT_CNT_CONF_FAIL, F.CFG_EVT_CONF_FAIL, F.CFG_STAT_CONF_WIN]; (repeat' split) <;> first | omega | decide | (dsimp only; omega)))

theorem State.cfgConfirm_moved (s : State) (v : Word) (tc : Tc) : Moved 0x400000041 s (State.cfgConfirm s v tc) := by
  unfold State.cfgConfirm
  simp -zeta only [State.withCfg_eq]
  with_reducible repeat' first
    | assumption
    | intro _
    | apply Moved.refl
    | decide
    | apply Moved.ite
    | apply State.put_moved
    | apply Moved.chain (g := State.confirmFail_moved _)
    | apply Moved.chain (g := State.withCfg_moved _ _ ?_ )
    | (apply inBlock_of 2; rotate_left; decide; first | omega | (simp only [F.CFG_STAT_CONF_WIN] <;> omega) | (simp only [F.CFG_STAT_CONF_WIN]; (repeat' split) <;> first | omega | decide | (dsimp only; omega)))
    | split
    | (have h_cfg := State.Inv.cfg (by assumption); simp_all only [Cfg.Sized, length_setAt]; done)
    | (have h_cfg := State.Inv.cfg (by assumption); simp_all [Cfg.Sized, Cfg.reset, length_setAt]; done)

theorem State.cfgConfirmInv_moved (s : State) (v : Word) (tc : Tc) : Moved 0x400000041 s (State.cfgConfirmInv s v tc) := by
  unfold State.cfgConfirmInv
  simp -zeta only [State.withCfg_eq]
  with_reducible repeat' first
    | assumption
    | intro _
    | apply Moved.refl
    | decide
    | apply Moved.ite
    | apply State.put_moved
    | apply Moved.chain (g := State.confirmFail_moved _)
    | apply Moved.chain (g := State.withCfg_moved _ _ ?_ )
    | (apply inBlock_of 2; rotate_left; decide; first | omega | (simp only [F.CFG_STAT_CONF_WIN] <;> omega) | (simp only [F.CFG_STAT_CONF_WIN]; (repeat' split) <;> first | omega | decide | (dsimp only; omega)))
    | split
    | (have h_cfg := State.Inv.cfg (by assumption); simp_all only [Cfg.Sized, length_setAt]; done)
    | (have h_cfg := State.Inv.cfg (by assumption); simp_all [Cfg.Sized, Cfg.reset, length_setAt]; done)

theorem State.takeConfirm_moved (s : State) : Moved 0x8000000041 s (State.takeConfirm s) := by
  unfold State.takeConfirm
  simp -zeta only [State.withCfg_eq]
  with_reducible repeat' first
    | assumption
    | intro _
    | apply Moved.refl
    | decide
    | apply Moved.ite
    | apply State.putFlag_moved
    | apply Moved.chain (g := State.withCfg_moved _ _ ?_ )
    | (apply inBlock_of 7; rotate_left; decide; first | omega | (simp only [F.PRT_STAT_CLOSE_BLOCK] <;> omega) | (simp only [F.PRT_STAT_CLOSE_BLOCK]; (repeat' split) <;> first | omega | decide | (dsimp only; omega)))
    | split
    | (have h_cfg := State.Inv.cfg (by assumption); simp_all only [Cfg.Sized, length_setAt]; done)
    | (have h_cfg := State.Inv.cfg (by assumption); simp_all [Cfg.Sized, Cfg.reset, length_setAt]; done)

end Sys2Proof.Machine
end

