-- ==== Sys2Proof/Laws/MovedProgram.lean ====
section
/-! SUPPORT. Laws/MovedProgram.lean: what each operation may change. -/
namespace Sys2Proof.Machine

set_option linter.unreachableTactic false
set_option linter.unusedTactic false
set_option linter.unusedVariables false
set_option linter.unusedSimpArgs false
set_option linter.unnecessarySeqFocus false
set_option linter.style.nameCheck false

open Sys2Proof

/-! Operations of Machine/SeqCore.lean. -/

theorem State.varPut_moved (s : State) (v : SeqVar) (x : Nat) : Moved 0x800000 s (State.varPut s v x) := by
  unfold State.varPut
  simp -zeta only [State.withSeq_eq]
  with_reducible repeat' first
    | assumption
    | intro _
    | apply Moved.refl
    | decide
    | apply Moved.ite
    | apply Moved.chain (g := State.withSeq_moved _ _ ?_ )
    | (have h_seq := State.Inv.seq (by assumption); simp_all only [Seq.Sized, length_setAt]; done)
    | (have h_seq := State.Inv.seq (by assumption); simp_all [Seq.Sized, Seq.reset, length_setAt]; done)

theorem State.showForces_moved (s : State) : Moved 0x400000000001 s (State.showForces s) := by
  unfold State.showForces
  with_reducible repeat' first
    | assumption
    | intro _
    | apply Moved.refl
    | decide
    | apply Moved.ite
    | apply State.putFlag_moved
    | apply State.put_moved
    | (apply inBlock_of 14; rotate_left; decide; first | omega | (simp only [F.SEQ_FORCE_STAT_COUNT, F.SEQ_STAT_FORCED] <;> omega) | (simp only [F.SEQ_FORCE_STAT_COUNT, F.SEQ_STAT_FORCED]; (repeat' split) <;> first | omega | decide | (dsimp only; omega)))

theorem State.setForces_moved (s : State) (l : List (Nat × Nat)) : Moved 0x400000800001 s (State.setForces s l) := by
  unfold State.setForces
  simp -zeta only [State.withSeq_eq]
  with_reducible repeat' first
    | assumption
    | intro _
    | apply Moved.refl
    | decide
    | apply Moved.ite
    | apply Moved.chain (g := State.showForces_moved _)
    | apply Moved.chain (g := State.withSeq_moved _ _ ?_ )
    | (have h_seq := State.Inv.seq (by assumption); simp_all only [Seq.Sized, length_setAt]; done)
    | (have h_seq := State.Inv.seq (by assumption); simp_all [Seq.Sized, Seq.reset, length_setAt]; done)

theorem State.forceCommand_moved (s : State) (c : Nat × Nat × Nat) : Moved 0x400000800001 s (State.forceCommand s c) := by
  unfold State.forceCommand
  with_reducible repeat' first
    | assumption
    | intro _
    | apply Moved.refl
    | decide
    | apply Moved.ite
    | (extract_lets +onlyGivenNames z; apply Moved.use z; swap; clear_value z; intro _; swap; subst z)
    | (extract_lets +onlyGivenNames z; clear_value z)
    | apply State.put_moved
    | apply Moved.chain (g := State.setForces_moved _ _)
    | (apply inBlock_of 14; rotate_left; decide; first | omega | (simp only [F.SEQ_FORCE_STAT_REFUSE] <;> omega) | (simp only [F.SEQ_FORCE_STAT_REFUSE]; (repeat' split) <;> first | omega | decide | (dsimp only; omega)))
    | split

theorem State.forceWrite_moved (s : State) (cmd : Nat) : Moved 0x800000 s (State.forceWrite s cmd) := by
  unfold State.forceWrite
  simp -zeta only [State.withSeq_eq]
  with_reducible repeat' first
    | assumption
    | intro _
    | apply Moved.refl
    | decide
    | apply Moved.ite
    | apply Moved.chain (g := State.withSeq_moved _ _ ?_ )
    | split
    | (have h_seq := State.Inv.seq (by assumption); simp_all only [Seq.Sized, length_setAt]; done)
    | (have h_seq := State.Inv.seq (by assumption); simp_all [Seq.Sized, Seq.reset, length_setAt]; done)

theorem State.seqTrig_moved (s : State) (bits : Nat) : Moved 0x800000 s (State.seqTrig s bits) := by
  unfold State.seqTrig
  simp -zeta only [State.withSeq_eq]
  with_reducible repeat' first
    | assumption
    | intro _
    | apply Moved.refl
    | decide
    | apply Moved.ite
    | apply Moved.chain (g := State.withSeq_moved _ _ ?_ )
    | split
    | (have h_seq := State.Inv.seq (by assumption); simp_all only [Seq.Sized, length_setAt]; done)
    | (have h_seq := State.Inv.seq (by assumption); simp_all [Seq.Sized, Seq.reset, length_setAt]; done)

theorem State.seqRestart_moved (s : State) : Moved 0x800000 s (State.seqRestart s) := by
  unfold State.seqRestart
  simp -zeta only [State.withSeq_eq]
  with_reducible repeat' first
    | assumption
    | intro _
    | apply Moved.refl
    | decide
    | apply Moved.ite
    | apply Moved.chain (g := State.withSeq_moved _ _ ?_ )
    | split
    | (have h_seq := State.Inv.seq (by assumption); simp_all only [Seq.Sized, length_setAt]; done)
    | (have h_seq := State.Inv.seq (by assumption); simp_all [Seq.Sized, Seq.reset, length_setAt]; done)

theorem State.olcEnd_moved (s : State) (c : Nat) : Moved 0x400000000001 s (State.olcEnd s c) := by
  unfold State.olcEnd
  with_reducible repeat' first
    | assumption
    | intro _
    | apply Moved.refl
    | decide
    | apply Moved.ite
    | apply State.put_moved
    | apply State.event_moved
    | (apply inBlock_of 14; rotate_left; decide; first | omega | (simp only [Ev.SEQ_OLC_DONE, F.SEQ_EVT_CNT2_OLC_DONE, F.SEQ_EVT_OLC_DONE, F.SEQ_OLC_STAT_CODE] <;> omega) | (simp only [Ev.SEQ_OLC_DONE, F.SEQ_EVT_CNT2_OLC_DONE, F.SEQ_EVT_OLC_DONE, F.SEQ_OLC_STAT_CODE]; (repeat' split) <;> first | omega | decide | (dsimp only; omega)))

theorem State.olcApply_moved (s : State) (x : OlcCheck) : Moved 0x400000800001 s (State.olcApply s x) := by
  unfold State.olcApply
  simp -zeta only [State.withSeq_eq]
  with_reducible repeat' first
    | assumption
    | intro _
    | apply Moved.refl
    | decide
    | apply Moved.ite
    | (extract_lets +onlyGivenNames z; apply Moved.use z; swap; clear_value z; intro _; swap; subst z)
    | (extract_lets +onlyGivenNames z; (have t9 : Seq := z); clear t9; subst z)
    | (extract_lets +onlyGivenNames z; clear_value z)
    | apply Moved.chain (g := State.olcEnd_moved _ _)
    | apply Moved.chain (g := State.withSeq_moved _ _ ?_ )
    | split
    | (have h_seq := State.Inv.seq (by assumption); simp_all only [Seq.Sized, length_setAt]; done)
    | (have h_seq := State.Inv.seq (by assumption); simp_all [Seq.Sized, Seq.reset, length_setAt]; done)

theorem State.applyChange_moved (s : State) : Moved 0x400000800001 s (State.applyChange s) := by
  unfold State.applyChange
  simp -zeta only [State.withSeq_eq]
  with_reducible repeat' first
    | assumption
    | intro _
    | apply Moved.refl
    | decide
    | apply Moved.ite
    | (extract_lets +onlyGivenNames z; apply Moved.use z; swap; clear_value z; intro _; swap; subst z)
    | (extract_lets +onlyGivenNames z; (have t9 : Seq := z); clear t9; subst z)
    | (extract_lets +onlyGivenNames z; clear_value z)
    | apply Moved.getD
    | apply State.bumpBy_moved
    | apply State.eventIf_moved
    | apply State.put_moved
    | apply Moved.chain (g := State.setForces_moved _ _)
    | apply Moved.chain (g := State.olcEnd_moved _ _)
    | apply Moved.chain (g := State.withSeq_moved _ _ ?_ )
    | (apply inBlock_of 14; rotate_left; decide; first | omega | (simp only [Ev.SEQ_FORCE_REL, F.SEQ_EVT_CNT2_FORCE_REL, F.SEQ_EVT_FORCE_REL, F.SEQ_FORCE_STAT_RELEASED, F.SEQ_PROG_CV_CV] <;> omega) | (simp only [Ev.SEQ_FORCE_REL, F.SEQ_EVT_CNT2_FORCE_REL, F.SEQ_EVT_FORCE_REL, F.SEQ_FORCE_STAT_RELEASED, F.SEQ_PROG_CV_CV]; (repeat' split) <;> first | omega | decide | (dsimp only; omega)))
    | split
    | (have h_seq := State.Inv.seq (by assumption); simp_all only [Seq.Sized, length_setAt]; done)
    | (have h_seq := State.Inv.seq (by assumption); simp_all [Seq.Sized, Seq.reset, length_setAt]; done)

theorem State.setStn_moved (s : State) (i : Nat) (x : Station) : Moved 0x800000 s (State.setStn s i x) := by
  unfold State.setStn
  simp -zeta only [State.withSeq_eq]
  with_reducible repeat' first
    | assumption
    | intro _
    | apply Moved.refl
    | decide
    | apply Moved.ite
    | apply Moved.chain (g := State.withSeq_moved _ _ ?_ )
    | (have h_seq := State.Inv.seq (by assumption); simp_all only [Seq.Sized, length_setAt]; done)
    | (have h_seq := State.Inv.seq (by assumption); simp_all [Seq.Sized, Seq.reset, length_setAt]; done)

theorem State.stnState_moved (s : State) (i : Nat) (st : Nat) : Moved 0x400000000001 s (State.stnState s i st) := by
  unfold State.stnState
  with_reducible repeat' first
    | assumption
    | intro _
    | apply Moved.refl
    | decide
    | apply Moved.ite
    | apply State.put_moved
    | apply State.putBit_moved
    | (apply inBlock_of 14; rotate_left; decide; first | omega | (simp only [F.SEQ_RIO_RUN_BITS, F.SEQ_STN_STAT_STATE] <;> omega) | (simp only [F.SEQ_RIO_RUN_BITS, F.SEQ_STN_STAT_STATE]; (repeat' split) <;> first | omega | decide | (dsimp only; omega)))

theorem State.sendOut_moved (s : State) (x : SeqStation) (run : Bool) (tc : Tc) : Moved 0x800000840001 s (State.sendOut s x run tc) := by
  unfold State.sendOut
  with_reducible repeat' first
    | assumption
    | intro _
    | apply Moved.refl
    | decide
    | apply Moved.ite
    | (extract_lets +onlyGivenNames z; apply Moved.use z; swap; clear_value z; intro _; swap; subst z)
    | (extract_lets +onlyGivenNames z; clear_value z)
    | apply Moved.getD
    | apply Moved.chain (g := State.setStn_moved _ _ _)
    | apply Moved.chain (g := State.canSend_moved _ _ _)
    | split

theorem State.sendOuts_moved (s : State) (run : Bool) (tc : Tc) : Moved 0x800000840001 s (State.sendOuts s run tc) := by
  unfold State.sendOuts
  with_reducible repeat' first
    | assumption
    | intro _
    | apply Moved.refl
    | decide
    | apply Moved.ite
    | apply Moved.foldl
    | apply Moved.chain (g := State.sendOut_moved _ _ _ _)

theorem State.seqLoad_moved (s : State) : Moved 0x400000800001 s (State.seqLoad s) := by
  unfold State.seqLoad
  simp -zeta only [State.withSeq_eq]
  with_reducible repeat' first
    | assumption
    | intro _
    | apply Moved.refl
    | decide
    | apply Moved.ite
    | (extract_lets +onlyGivenNames z; apply Moved.use z; swap; clear_value z; intro _; swap; subst z)
    | (extract_lets +onlyGivenNames z; (have t9 : Seq := z); clear t9; subst z)
    | (extract_lets +onlyGivenNames z; clear_value z)
    | apply Moved.foldl
    | apply Moved.chain (g := State.stnState_moved _ _ _)
    | apply Moved.chain (g := State.showForces_moved _)
    | apply State.put_moved
    | apply Moved.chain (g := State.withSeq_moved _ _ ?_ )
    | (apply inBlock_of 14; rotate_left; decide; first | omega | (simp only [F.SEQ_STAT_STATE] <;> omega) | (simp only [F.SEQ_STAT_STATE]; (repeat' split) <;> first | omega | decide | (dsimp only; omega)))
    | split
    | (have h_seq := State.Inv.seq (by assumption); simp_all only [Seq.Sized, length_setAt]; done)
    | (have h_seq := State.Inv.seq (by assumption); simp_all [Seq.Sized, Seq.reset, length_setAt]; done)

theorem State.seqResume_moved (s : State) : Moved 0x400000800001 s (State.seqResume s) := by
  unfold State.seqResume
  with_reducible repeat' first
    | assumption
    | intro _
    | apply Moved.refl
    | decide
    | apply Moved.ite
    | (extract_lets +onlyGivenNames z; apply Moved.use z; swap; clear_value z; intro _; swap; subst z)
    | (extract_lets +onlyGivenNames z; clear_value z)
    | apply Moved.chain (g := State.setForces_moved _ _)
    | apply Moved.chain (g := State.seqLoad_moved _)

/-! Operations of Machine/Access.lean. -/

theorem State.objRead_moved (s : State) (snap : Snapshot) (tc : Tc) (a : Nat) : MovedP 0x40020 s (State.objRead s snap tc a) := by
  unfold State.objRead
  simp -zeta only [State.withObj_eq]
  with_reducible repeat' first
    | assumption
    | intro _
    | apply Moved.refl
    | decide
    | apply Moved.ite
    | apply MovedP.mk
    | apply MovedP.ite
    | (extract_lets +onlyGivenNames z; apply MovedP.use z; swap; clear_value z; intro _; swap; subst z)
    | (extract_lets +onlyGivenNames z; apply Moved.use z; swap; clear_value z; intro _; swap; subst z)
    | (extract_lets +onlyGivenNames z; clear_value z)
    | apply Moved.chain (g := State.rxHold_moved _ _ _)
    | apply Moved.chain (g := State.withObj_moved _ _ )
    | split

theorem State.readAll_moved (s : State) (snap : Snapshot) (tc : Tc) (l : List Nat) : MovedP 0x40020 s (State.readAll s snap tc l) := by
  induction l generalizing s with
  | nil => exact Moved.refl _ s
  | cons a t ih => exact MovedP.trans (MovedP.one (State.objRead_moved s snap tc a)) (ih _) rfl

theorem State.plainWrite_moved (s : State) (a : Nat) (v : Word) (sets : Word) : Moved 0x3fffff00000001 s (State.plainWrite s a v sets) := by
  unfold State.plainWrite
  with_reducible repeat' first
    | assumption
    | intro _
    | apply Moved.refl
    | decide
    | apply Moved.ite
    | (extract_lets +onlyGivenNames z; apply Moved.use z; swap; clear_value z; intro _; swap; subst z)
    | (extract_lets +onlyGivenNames z; clear_value z)
    | apply Moved.chain (g := State.wr_all _ _ _)
    | split

theorem State.enableWrite_moved {m : Nat} {r s : State} (h : Moved m r s) (a : Nat) (v : Word) {on off : State → State} (hm : m ||| 0x3fffff00000001 = m)
    (hon : ∀ t, Moved m r t → Moved m r (on t)) (hoff : ∀ t, Moved m r t → Moved m r (off t)) : Moved m r (State.enableWrite s a v on off) := by
  unfold State.enableWrite
  have hp := Moved.chain h (State.plainWrite_moved s a v 0) hm
  exact Moved.ite (hon _ hp) (Moved.ite (hoff _ hp) hp)

theorem State.dlkEnable_moved (s : State) (v : Word) : Moved 0x3008200303 s (State.dlkEnable s v) := by
  unfold State.dlkEnable
  with_reducible repeat' first
    | assumption
    | intro _
    | apply Moved.refl
    | decide
    | apply Moved.ite
    | (extract_lets +onlyGivenNames z; apply Moved.use z; swap; clear_value z; intro _; swap; subst z)
    | (extract_lets +onlyGivenNames z; clear_value z)
    | apply Moved.forUpTo
    | apply Moved.chain (g := State.enablePort_moved _ _)
    | apply Moved.chain (g := State.disablePort_moved _ _)
    | split

theorem State.seqCtrl_moved (s : State) (v : Word) : Moved 0x400000800001 s (State.seqCtrl s v) := by
  unfold State.seqCtrl
  with_reducible repeat' first
    | assumption
    | intro _
    | apply Moved.refl
    | decide
    | apply Moved.ite
    | (extract_lets +onlyGivenNames z; apply Moved.use z; swap; clear_value z; intro _; swap; subst z)
    | (extract_lets +onlyGivenNames z; clear_value z)
    | apply State.putFlag_moved
    | apply Moved.chain (g := State.seqRestart_moved _)
    | (apply inBlock_of 14; rotate_left; decide; first | omega | (simp only [F.SEQ_CTRL_EN] <;> omega) | (simp only [F.SEQ_CTRL_EN]; (repeat' split) <;> first | omega | decide | (dsimp only; omega)))
    | split

theorem State.tpoCtrl_moved (s : State) (n : Nat) (v : Word) (tc : Tc) : Moved 0x2000000080001 s (State.tpoCtrl s n v tc) := by
  unfold State.tpoCtrl
  with_reducible repeat' first
    | assumption
    | intro _
    | apply Moved.refl
    | decide
    | apply Moved.ite
    | (extract_lets +onlyGivenNames z; apply Moved.use z; swap; clear_value z; intro _; swap; subst z)
    | (extract_lets +onlyGivenNames z; clear_value z)
    | apply Moved.chain (g := State.tpoDisarm_moved _ _)
    | apply Moved.chain (g := State.tpoArm_moved _ _ _)
    | split

theorem State.writeData_moved (s : State) (a : Nat) (v : Word) (tc : Tc) : MovedO 0x3fffff1fffffff s (State.writeData s a v tc) := by
  unfold State.writeData
  with_reducible repeat' first
    | assumption
    | intro _
    | apply Moved.refl
    | decide
    | apply Moved.ite
    | apply MovedO.none
    | apply MovedO.some
    | apply MovedO.ite
    | apply State.enableWrite_moved
    | apply Moved.chain (g := State.relearnScope_moved _ _ _)
    | apply Moved.chain (g := State.cfgRestart_moved _ _ _)
    | apply Moved.chain (g := State.reenumPort_moved _ _ _)
    | apply Moved.chain (g := State.swpDisable_moved _)
    | apply Moved.chain (g := State.cfgConfirmInv_moved _ _ _)
    | apply Moved.chain (g := State.cfgConfirm_moved _ _ _)
    | apply Moved.chain (g := State.estEnable_moved _)
    | apply State.put_moved
    | apply Moved.chain (g := State.lsCtrl_moved _ _)
    | apply Moved.chain (g := State.dlkEnable_moved _ _)
    | apply Moved.chain (g := State.estDisable_moved _)
    | apply Moved.chain (g := State.cfgSelect_moved _ _)
    | apply Moved.chain (g := State.triggerWb_moved _ _ _)
    | (apply inBlock_of 5; rotate_left; decide; first | omega | (simp only [F.SWP_STAT_RUN] <;> omega) | (simp only [F.SWP_STAT_RUN]; (repeat' split) <;> first | omega | decide | (dsimp only; omega)))
    | split

theorem State.writeControl_moved (s : State) (a : Nat) (v : Word) (o : Origin) (tc : Tc) : MovedO 0x3fffff0023b001 s (State.writeControl s a v o tc) := by
  unfold State.writeControl
  with_reducible repeat' first
    | assumption
    | intro _
    | apply Moved.refl
    | decide
    | apply Moved.ite
    | apply MovedO.none
    | apply MovedO.some
    | apply MovedO.ite
    | apply State.enableWrite_moved
    | apply Moved.chain (g := State.rearmCapture_moved _ _)
    | apply Moved.chain (g := State.sdAck_moved _ _)
    | apply Moved.chain (g := State.brkCommand_moved _ _ _ _)
    | apply Moved.chain (g := State.coolCommand_moved _)
    | apply Moved.chain (g := State.cteEnable_moved _)
    | apply Moved.chain (g := State.plainWrite_moved _ _ _ _)
    | apply Moved.chain (g := State.trimWrite_moved _ _ _ _ _)
    | apply Moved.chain (g := State.hostWrite_moved _ _ _)
    | apply Moved.chain (g := State.lockRelease_moved _ _ _)
    | apply Moved.chain (g := State.sdReset_moved _ _)
    | apply Moved.chain (g := State.cteDisable_moved _)
    | apply Moved.chain (g := State.sdWordWrite_moved _ _ _ _ _)
    | apply Moved.chain (g := State.auxWrite_moved _ _ _ _)
    | apply Moved.chain (g := State.directWrite_moved _ _ _ _ _)
    | apply Moved.chain (g := State.safReset_moved _ _ _ _)
    | split

theorem State.writeLanes_moved (s : State) (a : Nat) (v : Word) (lane : Bool) (o : Origin) (x : WriteAid) (tc : Tc) : MovedO 0x29f7740ff7f763 s (State.writeLanes s a v lane o x tc) := by
  unfold State.writeLanes
  with_reducible repeat' first
    | assumption
    | intro _
    | apply Moved.refl
    | decide
    | apply Moved.ite
    | apply MovedO.none
    | apply MovedO.some
    | apply MovedO.ite
    | apply Moved.chain (g := State.yield_moved _ _ _)
    | apply Moved.chain (g := State.canCtrl_moved _ _ _)
    | apply Moved.chain (g := State.plannedSwitch_moved _ _)
    | apply Moved.chain (g := State.heartbeat_moved _ _ _)
    | apply Moved.chain (g := State.txCancel_moved _ _ _ _)
    | apply Moved.chain (g := State.forceWrite_moved _ _)
    | apply Moved.chain (g := State.seqTrig_moved _ _)
    | apply Moved.chain (g := State.olcApply_moved _ _)
    | apply Moved.chain (g := State.seqCtrl_moved _ _)
    | split

theorem State.writeTime_moved (s : State) (a : Nat) (v : Word) (x : WriteAid) (tc : Tc) : MovedO 0x3fffff10280801 s (State.writeTime s a v x tc) := by
  unfold State.writeTime
  with_reducible repeat' first
    | assumption
    | intro _
    | apply Moved.refl
    | decide
    | apply Moved.ite
    | apply MovedO.none
    | apply MovedO.some
    | apply MovedO.ite
    | (extract_lets +onlyGivenNames z; apply MovedO.use z; swap; clear_value z; intro _; swap; subst z)
    | (extract_lets +onlyGivenNames z; apply Moved.use z; swap; clear_value z; intro _; swap; subst z)
    | (extract_lets +onlyGivenNames z; clear_value z)
    | apply Moved.chain (g := State.recClear_moved _ _ _ _)
    | apply State.enableWrite_moved
    | apply Moved.chain (g := State.recHold_moved _ _ _)
    | apply Moved.chain (g := State.tpoCtrl_moved _ _ _ _)
    | apply Moved.chain (g := State.timSet_moved _ _ _)
    | apply Moved.chain (g := State.wr_all _ _ _)
    | apply Moved.chain (g := State.timConvert_moved _ _)
    | apply Moved.chain (g := State.recLoad_moved _ _)
    | apply Moved.chain (g := State.timStep_moved _ _ _)
    | apply Moved.chain (g := State.afeSwTrig_moved _ _ _)
    | apply Moved.chain (g := State.timInc_moved _ _ _)
    | apply Moved.chain (g := State.afeDisable_moved _)
    | apply Moved.chain (g := State.afeEnable_moved _)
    | split

theorem State.writeSystem_moved (s : State) (a : Nat) (v : Word) (src : Option (BitVec 48)) (x : WriteAid) (tc : Tc) : MovedO 0x3fffff13000041 s (State.writeSystem s a v src x tc) := by
  unfold State.writeSystem
  with_reducible repeat' first
    | assumption
    | intro _
    | apply Moved.refl
    | decide
    | apply Moved.ite
    | apply MovedO.none
    | apply MovedO.some
    | apply MovedO.ite
    | apply Moved.chain (g := State.authCtrl_moved _ _ _ _ _)
    | apply Moved.chain (g := State.fwActivate_moved _ _)
    | apply Moved.chain (g := State.fwConfirm_moved _ _)
    | apply Moved.chain (g := State.xferCtrl_moved _ _ _)
    | apply Moved.chain (g := State.wr_all _ _ _)
    | apply Moved.chain (g := State.sessionClose_moved _ _)
    | apply Moved.chain (g := State.pwrCtrl_moved _ _ _)
    | split

theorem State.objWrite0_moved (s : State) (a : Nat) (v : Word) (w : Writer) (src : Option (BitVec 48)) (x : WriteAid) (tc : Tc) : Moved 0x3fffff1fffffff s (State.objWrite0 s a v w src x tc) := by
  unfold State.objWrite0
  with_reducible repeat' first
    | assumption
    | intro _
    | apply Moved.refl
    | decide
    | apply Moved.ite
    | (extract_lets +onlyGivenNames z; apply Moved.use z; swap; clear_value z; intro _; swap; subst z)
    | (extract_lets +onlyGivenNames z; clear_value z)
    | apply Moved.getD
    | apply MovedO.orElse
    | apply Moved.chain (g := MovedO.of (State.writeLanes_moved _ _ _ _ _ _ _ ) (by assumption))
    | apply MovedO.trans (g := State.writeLanes_moved _ _ _ _ _ _ _)
    | apply Moved.chain (g := State.stage_moved _ _ _)
    | apply Moved.chain (g := MovedO.of (State.writeData_moved _ _ _ _ ) (by assumption))
    | apply MovedO.trans (g := State.writeData_moved _ _ _ _)
    | apply Moved.chain (g := State.plainWrite_moved _ _ _ _)
    | apply Moved.chain (g := MovedO.of (State.writeControl_moved _ _ _ _ _ ) (by assumption))
    | apply MovedO.trans (g := State.writeControl_moved _ _ _ _ _)
    | apply Moved.chain (g := MovedO.of (State.writeSystem_moved _ _ _ _ _ _ ) (by assumption))
    | apply MovedO.trans (g := State.writeSystem_moved _ _ _ _ _ _)
    | apply Moved.chain (g := MovedO.of (State.writeTime_moved _ _ _ _ _ ) (by assumption))
    | apply MovedO.trans (g := State.writeTime_moved _ _ _ _ _)
    | split

/-! Operations of Machine/Seq.lean. -/

theorem State.dormantAccess_moved (s : State) (a : Nat) : Moved 0x400000000001 s (State.dormantAccess s a) := by
  unfold State.dormantAccess
  with_reducible repeat' first
    | assumption
    | intro _
    | apply Moved.refl
    | decide
    | apply Moved.ite
    | apply State.put_moved
    | apply State.event_moved
    | (apply inBlock_of 14; rotate_left; decide; first | omega | (simp only [Ev.SEQ_DORMANT, F.SEQ_DIAG_ADDR_ADDR, F.SEQ_EVT_CNT1_DORMANT, F.SEQ_EVT_DORMANT] <;> omega) | (simp only [Ev.SEQ_DORMANT, F.SEQ_DIAG_ADDR_ADDR, F.SEQ_EVT_CNT1_DORMANT, F.SEQ_EVT_DORMANT]; (repeat' split) <;> first | omega | decide | (dsimp only; omega)))

theorem State.progWrite_moved (s : State) (a : Nat) (v : Nat) (tc : Tc) : Moved 0x3fffff1fffffff s (State.progWrite s a v tc) := by
  unfold State.progWrite
  with_reducible repeat' first
    | assumption
    | intro _
    | apply Moved.refl
    | decide
    | apply Moved.ite
    | (extract_lets +onlyGivenNames z; apply Moved.use z; swap; clear_value z; intro _; swap; subst z)
    | (extract_lets +onlyGivenNames z; clear_value z)
    | apply Moved.chain (g := State.objWrite0_moved _ _ _ _ _ _ _)
    | apply Moved.chain (g := State.stage_moved _ _ _)
    | apply Moved.chain (g := State.dormantAccess_moved _ _)
    | split

theorem State.progRead_moved (s : State) (a : Nat) (tc : Tc) : MovedP 0x400000040021 s (State.progRead s a tc) := by
  unfold State.progRead
  with_reducible repeat' first
    | assumption
    | intro _
    | apply Moved.refl
    | decide
    | apply Moved.ite
    | apply MovedP.mk
    | apply MovedP.ite
    | (extract_lets +onlyGivenNames z; apply MovedP.use z; swap; clear_value z; intro _; swap; subst z)
    | (extract_lets +onlyGivenNames z; apply MovedP.use z.1; swap; clear_value z; intro _; swap; subst z)
    | (extract_lets +onlyGivenNames z; apply Moved.use z; swap; clear_value z; intro _; swap; subst z)
    | (extract_lets +onlyGivenNames z; apply Moved.use z.1; swap; clear_value z; intro _; swap; subst z)
    | (extract_lets +onlyGivenNames z; clear_value z)
    | apply Moved.chain (g := MovedP.fst (State.objRead_moved _ _ _ _) (by assumption))
    | apply Moved.chain (g := MovedP.one (State.objRead_moved _ _ _ _))
    | apply MovedP.trans (g := State.objRead_moved _ _ _ _)
    | apply Moved.chain (g := State.dormantAccess_moved _ _)
    | split

theorem State.safeOutputs_moved (s : State) (tc : Tc) : Moved 0x3fffff1fffffff s (State.safeOutputs s tc) := by
  unfold State.safeOutputs
  with_reducible repeat' first
    | assumption
    | intro _
    | apply Moved.refl
    | decide
    | apply Moved.ite
    | (extract_lets +onlyGivenNames z; apply Moved.use z; swap; clear_value z; intro _; swap; subst z)
    | (extract_lets +onlyGivenNames z; clear_value z)
    | apply Moved.foldl
    | apply Moved.chain (g := State.sendOuts_moved _ _ _)
    | apply Moved.chain (g := State.progWrite_moved _ _ _ _)
    | apply State.put_moved
    | (apply inBlock_of 14; rotate_left; decide; first | omega | (simp only [F.SEQ_STAT_SAFE_OUT] <;> omega) | (simp only [F.SEQ_STAT_SAFE_OUT]; (repeat' split) <;> first | omega | decide | (dsimp only; omega)))
    | split

theorem State.seqLeave_moved (s : State) (st : Nat) : Moved 0x400000800001 s (State.seqLeave s st) := by
  unfold State.seqLeave
  simp -zeta only [State.withSeq_eq]
  with_reducible repeat' first
    | assumption
    | intro _
    | apply Moved.refl
    | decide
    | apply Moved.ite
    | apply State.put_moved
    | apply Moved.chain (g := State.withSeq_moved _ _ ?_ )
    | (apply inBlock_of 14; rotate_left; decide; first | omega | (simp only [F.SEQ_STAT_BUSY, F.SEQ_STAT_STATE] <;> omega) | (simp only [F.SEQ_STAT_BUSY, F.SEQ_STAT_STATE]; (repeat' split) <;> first | omega | decide | (dsimp only; omega)))
    | (have h_seq := State.Inv.seq (by assumption); simp_all only [Seq.Sized, length_setAt]; done)
    | (have h_seq := State.Inv.seq (by assumption); simp_all [Seq.Sized, Seq.reset, length_setAt]; done)

theorem State.seqStopped_moved (s : State) (tc : Tc) : Moved 0x3fffff1fffffff s (State.seqStopped s tc) := by
  unfold State.seqStopped
  with_reducible repeat' first
    | assumption
    | intro _
    | apply Moved.refl
    | decide
    | apply Moved.ite
    | apply Moved.chain (g := State.seqLeave_moved _ _)
    | apply Moved.chain (g := State.safeOutputs_moved _ _)

theorem State.seqDisable_moved (s : State) (tc : Tc) : Moved 0x3fffff1fffffff s (State.seqDisable s tc) := by
  unfold State.seqDisable
  simp -zeta only [State.withSeq_eq]
  with_reducible repeat' first
    | assumption
    | intro _
    | apply Moved.refl
    | decide
    | apply Moved.ite
    | (extract_lets +onlyGivenNames z; apply Moved.use z; swap; clear_value z; intro _; swap; subst z)
    | (extract_lets +onlyGivenNames z; (have t9 : Seq := z); clear t9; subst z)
    | (extract_lets +onlyGivenNames z; clear_value z)
    | apply Moved.chain (g := State.seqStopped_moved _ _)
    | apply State.put_moved
    | apply Moved.chain (g := State.withSeq_moved _ _ ?_ )
    | (apply inBlock_of 14; rotate_left; decide; first | omega | (simp only [F.SEQ_ABANDON_CNT] <;> omega) | (simp only [F.SEQ_ABANDON_CNT]; (repeat' split) <;> first | omega | decide | (dsimp only; omega)))
    | split
    | (have h_seq := State.Inv.seq (by assumption); simp_all only [Seq.Sized, length_setAt]; done)
    | (have h_seq := State.Inv.seq (by assumption); simp_all [Seq.Sized, Seq.reset, length_setAt]; done)

theorem State.objWrite_moved (s : State) (a : Nat) (v : Word) (w : Writer) (src : Option (BitVec 48)) (x : WriteAid) (tc : Tc) : Moved 0x3fffff1fffffff s (State.objWrite s a v w src x tc) := by
  unfold State.objWrite
  with_reducible repeat' first
    | assumption
    | intro _
    | apply Moved.refl
    | decide
    | apply Moved.ite
    | (extract_lets +onlyGivenNames z; apply Moved.use z; swap; clear_value z; intro _; swap; subst z)
    | (extract_lets +onlyGivenNames z; clear_value z)
    | apply Moved.chain (g := State.objWrite0_moved _ _ _ _ _ _ _)
    | apply Moved.chain (g := State.seqDisable_moved _ _)
    | split

theorem State.coldRestart_moved (s : State) : Moved 0x400000800001 s (State.coldRestart s) := by
  unfold State.coldRestart
  simp -zeta only [State.withSeq_eq]
  with_reducible repeat' first
    | assumption
    | intro _
    | apply Moved.refl
    | decide
    | apply Moved.ite
    | (extract_lets +onlyGivenNames z; apply Moved.use z; swap; clear_value z; intro _; swap; subst z)
    | (extract_lets +onlyGivenNames z; (have t9 : Seq := z); clear t9; subst z)
    | (extract_lets +onlyGivenNames z; clear_value z)
    | apply Moved.getD
    | apply State.put_moved
    | apply Moved.chain (g := State.withSeq_moved _ _ ?_ )
    | (apply inBlock_of 14; rotate_left; decide; first | omega | (simp only [F.SEQ_STAT_STATE] <;> omega) | (simp only [F.SEQ_STAT_STATE]; (repeat' split) <;> first | omega | decide | (dsimp only; omega)))
    | (have h_seq := State.Inv.seq (by assumption); simp_all only [Seq.Sized, length_setAt]; done)
    | (have h_seq := State.Inv.seq (by assumption); simp_all [Seq.Sized, Seq.reset, length_setAt]; done)

theorem State.phase1_moved (s : State) (tc : Tc) : Moved 0x400000800001 s (State.phase1 s tc) := by
  unfold State.phase1
  simp -zeta only [State.withSeq_eq]
  with_reducible repeat' first
    | assumption
    | intro _
    | apply Moved.refl
    | decide
    | apply Moved.ite
    | (extract_lets +onlyGivenNames z; apply Moved.use z; swap; clear_value z; intro _; swap; subst z)
    | (extract_lets +onlyGivenNames z; (have t9 : Seq := z); clear t9; subst z)
    | (extract_lets +onlyGivenNames z; clear_value z)
    | apply Moved.foldl
    | apply State.put_moved
    | apply Moved.chain (g := State.applyChange_moved _)
    | apply Moved.chain (g := State.coldRestart_moved _)
    | apply Moved.chain (g := State.forceCommand_moved _ _)
    | apply Moved.chain (g := State.withSeq_moved _ _ ?_ )
    | (apply inBlock_of 14; rotate_left; decide; first | omega | (simp only [F.SEQ_STAT_SAFE_OUT] <;> omega) | (simp only [F.SEQ_STAT_SAFE_OUT]; (repeat' split) <;> first | omega | decide | (dsimp only; omega)))
    | split
    | (have h_seq := State.Inv.seq (by assumption); simp_all only [Seq.Sized, length_setAt]; done)
    | (have h_seq := State.Inv.seq (by assumption); simp_all [Seq.Sized, Seq.reset, length_setAt]; done)

theorem State.stationsBack_moved (s : State) : Moved 0x400000000001 s (State.stationsBack s) := by
  unfold State.stationsBack
  with_reducible repeat' first
    | assumption
    | intro _
    | apply Moved.refl
    | decide
    | apply Moved.ite
    | apply Moved.foldl
    | apply Moved.chain (g := State.stnState_moved _ _ _)
    | split

theorem State.inputVar_moved (s : State) (v : SeqVar) (tc : Tc) : Moved 0x400000840021 s (State.inputVar s v tc) := by
  unfold State.inputVar
  with_reducible repeat' first
    | assumption
    | intro _
    | apply Moved.refl
    | decide
    | apply Moved.ite
    | (extract_lets +onlyGivenNames z; apply Moved.use z; swap; clear_value z; intro _; swap; subst z)
    | (extract_lets +onlyGivenNames z; apply Moved.use z.1; swap; clear_value z; intro _; swap; subst z)
    | (extract_lets +onlyGivenNames z; clear_value z)
    | apply Moved.chain (g := State.varPut_moved _ _ _)
    | apply Moved.chain (g := MovedP.fst (State.progRead_moved _ _ _) (by assumption))
    | apply Moved.chain (g := MovedP.one (State.progRead_moved _ _ _))
    | split

theorem State.takeEdges_moved (s : State) : Moved 0x800000 s (State.takeEdges s) := by
  unfold State.takeEdges
  simp -zeta only [State.withSeq_eq]
  with_reducible repeat' first
    | assumption
    | intro _
    | apply Moved.refl
    | decide
    | apply Moved.ite
    | (extract_lets +onlyGivenNames z; apply Moved.use z; swap; clear_value z; intro _; swap; subst z)
    | (extract_lets +onlyGivenNames z; (have t9 : Seq := z); clear t9; subst z)
    | (extract_lets +onlyGivenNames z; clear_value z)
    | apply Moved.foldl
    | apply Moved.getD
    | apply Moved.chain (g := State.withSeq_moved _ _ ?_ )
    | split
    | (have h_seq := State.Inv.seq (by assumption); simp_all only [Seq.Sized, length_setAt]; done)
    | (have h_seq := State.Inv.seq (by assumption); simp_all [Seq.Sized, Seq.reset, length_setAt]; done)

theorem State.phase2_moved (s : State) (tc : Tc) : Moved 0x400000840021 s (State.phase2 s tc) := by
  unfold State.phase2
  simp -zeta only [State.withSeq_eq]
  with_reducible repeat' first
    | assumption
    | intro _
    | apply Moved.refl
    | decide
    | apply Moved.ite
    | (extract_lets +onlyGivenNames z; apply Moved.use z; swap; clear_value z; intro _; swap; subst z)
    | (extract_lets +onlyGivenNames z; (have t9 : Seq := z); clear t9; subst z)
    | (extract_lets +onlyGivenNames z; clear_value z)
    | apply Moved.foldl
    | apply Moved.getD
    | apply Moved.chain (g := State.stationsBack_moved _)
    | apply Moved.chain (g := State.inputVar_moved _ _ _)
    | apply Moved.chain (g := State.takeEdges_moved _)
    | apply Moved.chain (g := State.withSeq_moved _ _ ?_ )
    | split
    | (have h_seq := State.Inv.seq (by assumption); simp_all only [Seq.Sized, length_setAt]; done)
    | (have h_seq := State.Inv.seq (by assumption); simp_all [Seq.Sized, Seq.reset, length_setAt]; done)

theorem State.cycleStart_moved (s : State) (tc : Tc) : Moved 0x400000840021 s (State.cycleStart s tc) := by
  unfold State.cycleStart
  with_reducible repeat' first
    | assumption
    | intro _
    | apply Moved.refl
    | decide
    | apply Moved.ite
    | apply Moved.chain (g := State.phase1_moved _ _)
    | apply Moved.chain (g := State.phase2_moved _ _)

theorem State.taskWrite_moved (s : State) (e : Nat × Nat) : Moved 0x800000 s (State.taskWrite s e) := by
  unfold State.taskWrite
  with_reducible repeat' first
    | assumption
    | intro _
    | apply Moved.refl
    | decide
    | apply Moved.ite
    | apply Moved.chain (g := State.varPut_moved _ _ _)
    | split

theorem State.beginPhase4_moved (s : State) : Moved 0x800000 s (State.beginPhase4 s) := by
  unfold State.beginPhase4
  simp -zeta only [State.withSeq_eq]
  with_reducible repeat' first
    | assumption
    | intro _
    | apply Moved.refl
    | decide
    | apply Moved.ite
    | apply Moved.chain (g := State.withSeq_moved _ _ ?_ )
    | split
    | (have h_seq := State.Inv.seq (by assumption); simp_all only [Seq.Sized, length_setAt]; done)
    | (have h_seq := State.Inv.seq (by assumption); simp_all [Seq.Sized, Seq.reset, length_setAt]; done)

theorem State.taskDone_moved (s : State) (e : SeqTask × List (Nat × Nat)) : Moved 0x800000 s (State.taskDone s e) := by
  unfold State.taskDone
  simp -zeta only [State.withSeq_eq]
  with_reducible repeat' first
    | assumption
    | intro _
    | apply Moved.refl
    | decide
    | apply Moved.ite
    | apply Moved.foldl
    | apply Moved.chain (g := State.taskWrite_moved _ _)
    | apply Moved.chain (g := State.beginPhase4_moved _)
    | apply Moved.chain (g := State.withSeq_moved _ _ ?_ )
    | split
    | (have h_seq := State.Inv.seq (by assumption); simp_all only [Seq.Sized, length_setAt]; done)
    | (have h_seq := State.Inv.seq (by assumption); simp_all [Seq.Sized, Seq.reset, length_setAt]; done)

theorem State.outputVar_moved (s : State) (v : SeqVar) (tc : Tc) : Moved 0x3fffff1fffffff s (State.outputVar s v tc) := by
  unfold State.outputVar
  simp -zeta only [State.withSeq_eq]
  with_reducible repeat' first
    | assumption
    | intro _
    | apply Moved.refl
    | decide
    | apply Moved.ite
    | (extract_lets +onlyGivenNames z; apply Moved.use z; swap; clear_value z; intro _; swap; subst z)
    | (extract_lets +onlyGivenNames z; (have t9 : Seq := z); clear t9; subst z)
    | (extract_lets +onlyGivenNames z; clear_value z)
    | apply Moved.chain (g := State.varPut_moved _ _ _)
    | apply Moved.chain (g := State.progWrite_moved _ _ _ _)
    | apply Moved.chain (g := State.withSeq_moved _ _ ?_ )
    | split
    | (have h_seq := State.Inv.seq (by assumption); simp_all only [Seq.Sized, length_setAt]; done)
    | (have h_seq := State.Inv.seq (by assumption); simp_all [Seq.Sized, Seq.reset, length_setAt]; done)

theorem State.cycleEnd_moved (s : State) (time : Nat) (tc : Tc) : Moved 0x3fffff1fffffff s (State.cycleEnd s time tc) := by
  unfold State.cycleEnd
  simp -zeta only [State.withSeq_eq]
  with_reducible repeat' first
    | assumption
    | intro _
    | apply Moved.refl
    | decide
    | apply Moved.ite
    | (extract_lets +onlyGivenNames z; apply Moved.use z; swap; clear_value z; intro _; swap; subst z)
    | (extract_lets +onlyGivenNames z; (have t9 : Seq := z); clear t9; subst z)
    | (extract_lets +onlyGivenNames z; clear_value z)
    | apply Moved.foldl
    | apply State.bump_moved
    | apply Moved.chain (g := State.seqDisable_moved _ _)
    | apply Moved.chain (g := State.sendOuts_moved _ _ _)
    | apply State.put_moved
    | apply Moved.chain (g := State.outputVar_moved _ _ _)
    | apply Moved.chain (g := State.withSeq_moved _ _ ?_ )
    | (apply inBlock_of 14; rotate_left; decide; first | omega | (simp only [F.SEQ_CYCLE_COUNT, F.SEQ_STAT_STATE, F.SEQ_TIME_LAST, F.SEQ_TIME_MAX] <;> omega) | (simp only [F.SEQ_CYCLE_COUNT, F.SEQ_STAT_STATE, F.SEQ_TIME_LAST, F.SEQ_TIME_MAX]; (repeat' split) <;> first | omega | decide | (dsimp only; omega)))
    | split
    | (have h_seq := State.Inv.seq (by assumption); simp_all only [Seq.Sized, length_setAt]; done)
    | (have h_seq := State.Inv.seq (by assumption); simp_all [Seq.Sized, Seq.reset, length_setAt]; done)

theorem State.seqCommit_moved (s : State) (tc : Tc) : Moved 0xc00000840001 s (State.seqCommit s tc) := by
  unfold State.seqCommit
  simp -zeta only [State.withSeq_eq]
  with_reducible repeat' first
    | assumption
    | intro _
    | apply Moved.refl
    | decide
    | apply Moved.ite
    | (extract_lets +onlyGivenNames z; apply Moved.use z; swap; clear_value z; intro _; swap; subst z)
    | (extract_lets +onlyGivenNames z; (have t9 : Seq := z); clear t9; subst z)
    | (extract_lets +onlyGivenNames z; clear_value z)
    | apply Moved.chain (g := State.sendOuts_moved _ _ _)
    | apply State.event_moved
    | apply Moved.chain (g := State.withSeq_moved _ _ ?_ )
    | (apply inBlock_of 14; rotate_left; decide; first | omega | (simp only [Ev.SEQ_OVERRUN, F.SEQ_EVT_CNT0_OVERRUN, F.SEQ_EVT_OVERRUN] <;> omega) | (simp only [Ev.SEQ_OVERRUN, F.SEQ_EVT_CNT0_OVERRUN, F.SEQ_EVT_OVERRUN]; (repeat' split) <;> first | omega | decide | (dsimp only; omega)))
    | split
    | (have h_seq := State.Inv.seq (by assumption); simp_all only [Seq.Sized, length_setAt]; done)
    | (have h_seq := State.Inv.seq (by assumption); simp_all [Seq.Sized, Seq.reset, length_setAt]; done)

/-! Operations of Machine/Service.lean. -/

theorem State.touchSession_moved (s : State) (r : Request) (tc : Tc) : Moved 0x2000000 s (State.touchSession s r tc) := by
  unfold State.touchSession
  simp -zeta only [State.withUpd_eq]
  with_reducible repeat' first
    | assumption
    | intro _
    | apply Moved.refl
    | decide
    | apply Moved.ite
    | apply Moved.chain (g := State.withUpd_moved _ _ )
    | split

theorem State.arrive_moved (s : State) (r : Request) : Moved 0x800208040021 s (State.arrive s r) := by
  unfold State.arrive
  simp -zeta only [State.withObj_eq]
  with_reducible repeat' first
    | assumption
    | intro _
    | apply Moved.refl
    | decide
    | apply Moved.ite
    | apply Moved.chain (g := State.answerStatus_moved _ _ _)
    | apply Moved.chain (g := State.withObj_moved _ _ )
    | split

theorem State.takeRequest_moved (s : State) : Moved 0x20 s (State.takeRequest s) := by
  unfold State.takeRequest
  simp -zeta only [State.withObj_eq]
  with_reducible repeat' first
    | assumption
    | intro _
    | apply Moved.refl
    | decide
    | apply Moved.ite
    | apply Moved.chain (g := State.withObj_moved _ _ )

theorem State.answerOk_moved (s : State) (r : Request) (epoch : Word) (values : List Word) : Moved 0x800218040001 s (State.answerOk s r epoch values) := by
  unfold State.answerOk
  with_reducible repeat' first
    | assumption
    | intro _
    | apply Moved.refl
    | decide
    | apply Moved.ite
    | apply Moved.chain (g := State.answer_moved _ _ _ _ _ _)
    | apply Moved.chain (g := State.took_moved _)

theorem State.readRequest_moved (s : State) (r : Request) (tc : Tc) : Moved 0x800218040021 s (State.readRequest s r tc) := by
  unfold State.readRequest
  with_reducible repeat' first
    | assumption
    | intro _
    | apply Moved.refl
    | decide
    | apply Moved.ite
    | (extract_lets +onlyGivenNames z; apply Moved.use z; swap; clear_value z; intro _; swap; subst z)
    | (extract_lets +onlyGivenNames z; apply Moved.use z.1; swap; clear_value z; intro _; swap; subst z)
    | (extract_lets +onlyGivenNames z; clear_value z)
    | apply Moved.chain (g := State.answer_moved _ _ _ _ _ _)
    | apply Moved.chain (g := MovedP.fst (State.readAll_moved _ _ _ _) (by assumption))
    | apply Moved.chain (g := MovedP.one (State.readAll_moved _ _ _ _))
    | apply Moved.chain (g := State.takeRequest_moved _)
    | apply Moved.chain (g := State.answerOk_moved _ _ _ _)
    | apply Moved.chain (g := State.answerStatus_moved _ _ _)
    | split

theorem State.listWrite_moved (s : State) (r : Request) (x : WriteAid) (tc : Tc) (e : Nat × Word) : Moved 0x3fffff1fffffff s (State.listWrite s r x tc e) := by
  unfold State.listWrite
  with_reducible repeat' first
    | assumption
    | intro _
    | apply Moved.refl
    | decide
    | apply Moved.ite
    | apply Moved.chain (g := State.objWrite_moved _ _ _ _ _ _ _)
    | split

theorem State.writeRequest_moved (s : State) (r : Request) (x : WriteAid) (tc : Tc) : Moved 0x3fffff1fffffff s (State.writeRequest s r x tc) := by
  unfold State.writeRequest
  with_reducible repeat' first
    | assumption
    | intro _
    | apply Moved.refl
    | decide
    | apply Moved.ite
    | (extract_lets +onlyGivenNames z; apply Moved.use z; swap; clear_value z; intro _; swap; subst z)
    | (extract_lets +onlyGivenNames z; clear_value z)
    | apply Moved.foldl
    | apply Moved.chain (g := State.answer_moved _ _ _ _ _ _)
    | apply Moved.chain (g := State.listWrite_moved _ _ _ _ _)
    | apply Moved.chain (g := State.takeRequest_moved _)
    | apply Moved.chain (g := State.answerOk_moved _ _ _ _)
    | apply Moved.chain (g := State.answerStatus_moved _ _ _)
    | split

end Sys2Proof.Machine
end

