-- ==== Sys2Proof/Laws/MovedStarts.lean ====
section
/-! SUPPORT. Laws/MovedStarts.lean: what each operation may change. -/
namespace Sys2Proof.Machine

set_option linter.unreachableTactic false
set_option linter.unusedTactic false
set_option linter.unusedVariables false
set_option linter.unusedSimpArgs false
set_option linter.unnecessarySeqFocus false
set_option linter.style.nameCheck false

open Sys2Proof

/-! Operations of Machine/Start.lean. -/

theorem State.takeImage_moved (s : State) (k : Nat) (fallback : Bool) : Moved 0x8400000041 s (State.takeImage s k fallback) := by
  unfold State.takeImage
  simp -zeta only [State.withCfg_eq]
  with_reducible repeat' first
    | assumption
    | intro _
    | apply Moved.refl
    | decide
    | apply Moved.ite
    | (extract_lets +onlyGivenNames z; apply Moved.use z; swap; clear_value z; intro _; swap; subst z)
    | (extract_lets +onlyGivenNames z; (have t9 : Cfg := z); clear t9; subst z)
    | (extract_lets +onlyGivenNames z; clear_value z)
    | apply Moved.getD
    | apply State.putFlag_moved
    | apply State.put_moved
    | apply Moved.chain (g := State.withCfg_moved _ _ ?_ )
    | (apply inBlock_of 2; rotate_left; decide; first | omega | (simp only [F.CFG_IMAGE_ID_VALUE, F.CFG_SAFETY_CV_VALUE, F.CFG_SLOT_STAT_CONFIRMED, F.CFG_SLOT_STAT_IN_EFFECT, F.CFG_STAT_CONFIRMED, F.CFG_STAT_FALLBACK, F.CFG_STAT_SLOT, F.CFG_STAT_VALID, F.CFG_STRUCT_CV_VALUE, F.PRT_STAT_CLOSE_BLOCK] <;> omega) | (simp only [F.CFG_IMAGE_ID_VALUE, F.CFG_SAFETY_CV_VALUE, F.CFG_SLOT_STAT_CONFIRMED, F.CFG_SLOT_STAT_IN_EFFECT, F.CFG_STAT_CONFIRMED, F.CFG_STAT_FALLBACK, F.CFG_STAT_SLOT, F.CFG_STAT_VALID, F.CFG_STRUCT_CV_VALUE, F.PRT_STAT_CLOSE_BLOCK]; (repeat' split) <;> first | omega | decide | (dsimp only; omega)))
    | (apply inBlock_of 7; rotate_left; decide; first | omega | (simp only [F.CFG_IMAGE_ID_VALUE, F.CFG_SAFETY_CV_VALUE, F.CFG_SLOT_STAT_CONFIRMED, F.CFG_SLOT_STAT_IN_EFFECT, F.CFG_STAT_CONFIRMED, F.CFG_STAT_FALLBACK, F.CFG_STAT_SLOT, F.CFG_STAT_VALID, F.CFG_STRUCT_CV_VALUE, F.PRT_STAT_CLOSE_BLOCK] <;> omega) | (simp only [F.CFG_IMAGE_ID_VALUE, F.CFG_SAFETY_CV_VALUE, F.CFG_SLOT_STAT_CONFIRMED, F.CFG_SLOT_STAT_IN_EFFECT, F.CFG_STAT_CONFIRMED, F.CFG_STAT_FALLBACK, F.CFG_STAT_SLOT, F.CFG_STAT_VALID, F.CFG_STRUCT_CV_VALUE, F.PRT_STAT_CLOSE_BLOCK]; (repeat' split) <;> first | omega | decide | (dsimp only; omega)))
    | (have h_cfg := State.Inv.cfg (by assumption); simp_all only [Cfg.Sized, length_setAt]; done)
    | (have h_cfg := State.Inv.cfg (by assumption); simp_all [Cfg.Sized, Cfg.reset, length_setAt]; done)

theorem State.loadImage_moved (s : State) (x : BootCheck) : Moved 0x8400000041 s (State.loadImage s x) := by
  unfold State.loadImage
  with_reducible repeat' first
    | assumption
    | intro _
    | apply Moved.refl
    | decide
    | apply Moved.ite
    | (extract_lets +onlyGivenNames z; apply Moved.use z; swap; clear_value z; intro _; swap; subst z)
    | (extract_lets +onlyGivenNames z; clear_value z)
    | apply Moved.chain (g := State.loadFailed_moved _ _ _)
    | apply Moved.chain (g := State.takeImage_moved _ _ _)
    | split

theorem State.noImage_moved (s : State) : Moved 0x208000000001 s (State.noImage s) := by
  unfold State.noImage
  with_reducible repeat' first
    | assumption
    | intro _
    | apply Moved.refl
    | decide
    | apply Moved.ite
    | apply State.putFlag_moved
    | apply State.put_moved
    | (apply inBlock_of 7; rotate_left; decide; first | omega | (simp only [F.LAN_CFG_PL, F.LAN_CFG_REQUAL_MAX, F.LAN_CFG_STBY_CHK, F.PRT_STAT_CLOSE_BLOCK] <;> omega) | (simp only [F.LAN_CFG_PL, F.LAN_CFG_REQUAL_MAX, F.LAN_CFG_STBY_CHK, F.PRT_STAT_CLOSE_BLOCK]; (repeat' split) <;> first | omega | decide | (dsimp only; omega)))
    | (apply inBlock_of 13; rotate_left; decide; first | omega | (simp only [F.LAN_CFG_PL, F.LAN_CFG_REQUAL_MAX, F.LAN_CFG_STBY_CHK, F.PRT_STAT_CLOSE_BLOCK] <;> omega) | (simp only [F.LAN_CFG_PL, F.LAN_CFG_REQUAL_MAX, F.LAN_CFG_STBY_CHK, F.PRT_STAT_CLOSE_BLOCK]; (repeat' split) <;> first | omega | decide | (dsimp only; omega)))

theorem State.showRuns_moved (s : State) : Moved 0x4026000000001 s (State.showRuns s) := by
  unfold State.showRuns
  with_reducible repeat' first
    | assumption
    | intro _
    | apply Moved.refl
    | decide
    | apply Moved.ite
    | (extract_lets +onlyGivenNames z; apply Moved.use z; swap; clear_value z; intro _; swap; subst z)
    | (extract_lets +onlyGivenNames z; clear_value z)
    | apply Moved.chain (g := State.showCte_moved _)
    | apply Moved.chain (g := State.estEnable_moved _)
    | apply State.put_moved
    | apply Moved.chain (g := State.afeEnable_moved _)
    | (apply inBlock_of 5; rotate_left; decide; first | omega | (simp only [F.SWP_STAT_RUN] <;> omega) | (simp only [F.SWP_STAT_RUN]; (repeat' split) <;> first | omega | decide | (dsimp only; omega)))
    | split

theorem State.enablePorts_moved (s : State) : Moved 0x1000000101 s (State.enablePorts s) := by
  unfold State.enablePorts
  with_reducible repeat' first
    | assumption
    | intro _
    | apply Moved.refl
    | decide
    | apply Moved.ite
    | apply Moved.forUpTo
    | apply Moved.chain (g := State.enablePort_moved _ _)
    | split

theorem State.loadBlocks_moved {m : Nat} {r s : State} (h : Moved m r s) (live : List (Nat × Word)) {entries program : State → State} (tc : Tc)
    (hm : m ||| 0x3fffff001ce9c1 = m) (he : ∀ t, Moved m r t → Moved m r (entries t)) (hp : ∀ t, Moved m r t → Moved m r (program t)) :
    Moved m r (State.loadBlocks s live entries program tc) := by
  have sub : ∀ k, 0x3fffff001ce9c1 ||| k = 0x3fffff001ce9c1 → m ||| k = m := fun k hk => maskLe hm hk
  unfold State.loadBlocks
  extract_lets a b c d e src f
  have ha : Moved m r a := Moved.chain (Moved.chain h (State.imageFields_moved _) (sub _ (by decide))) (State.putSet_moved _ _) (sub _ (by decide))
  have hb : Moved m r b := he _ (Moved.chain (Moved.chain (Moved.chain ha (State.phbReset_moved _ _) (sub _ (by decide))) (State.timStart_moved _) (sub _ (by decide)))
    (State.afeStart_moved _) (sub _ (by decide)))
  have hc : Moved m r c := Moved.chain (Moved.chain (Moved.chain (Moved.chain hb (State.startValues_moved _) (sub _ (by decide))) (State.cteStart_moved _ _) (sub _ (by decide)))
    (State.dspBegin_moved _ _) (sub _ (by decide))) (State.showRuns_moved _) (sub _ (by decide))
  have hd : Moved m r d := hp c hc
  have he' : Moved m r e := Moved.chain (Moved.forUpTo hd fun i t _ ht => Moved.chain ht (State.canLoad_moved _ _) (sub _ (by decide))) (State.ethLoad_moved _) (sub _ (by decide))
  have hf : Moved m r f := Moved.chain he' (State.withCfg_moved e _ fun k => ⟨k.cfg.1, k.cfg.2⟩) (sub _ (by decide))
  exact Moved.chain (Moved.chain hf (State.recRun_moved _) (sub _ (by decide))) (State.enablePorts_moved _) (sub _ (by decide))

theorem State.distribute_moved (s : State) (x : BootCheck) (tc : Tc) : Moved 0x3fffff00befdd1 s (State.distribute s x tc) := by
  unfold State.distribute
  with_reducible repeat' first
    | assumption
    | intro _
    | apply Moved.refl
    | decide
    | apply Moved.ite
    | (extract_lets +onlyGivenNames z; apply Moved.use z; swap; clear_value z; intro _; swap; subst z)
    | (extract_lets +onlyGivenNames z; clear_value z)
    | apply Moved.chain (g := State.imdStart_moved _ _)
    | apply Moved.chain (g := State.prtLoad_moved _)
    | apply State.loadBlocks_moved
    | apply Moved.chain (g := State.estStart_moved _)
    | apply State.putFlag_moved
    | apply Moved.chain (g := State.seqLoad_moved _)
    | apply Moved.chain (g := State.prtArm_moved _ _ _)
    | apply Moved.chain (g := State.safStart_moved _ _)
    | (apply inBlock_of 18; rotate_left; decide; first | omega | (simp only [F.AFE_STAT_TRIM_BAD] <;> omega) | (simp only [F.AFE_STAT_TRIM_BAD]; (repeat' split) <;> first | omega | decide | (dsimp only; omega)))

theorem State.countStart_moved (s : State) : Moved 0x200000 s (State.countStart s) := by
  unfold State.countStart
  with_reducible repeat' first
    | assumption
    | intro _
    | apply Moved.refl
    | decide
    | apply Moved.ite
    | apply Moved.chain (g := State.recCount_moved _ _)
    | split

theorem State.takeLid_moved (s : State) (l : Lane) : Moved 0x200200400001 s (State.takeLid s l) := by
  unfold State.takeLid
  simp -zeta only [State.withLan_eq]
  with_reducible repeat' first
    | assumption
    | intro _
    | apply Moved.refl
    | decide
    | apply Moved.ite
    | (extract_lets +onlyGivenNames z; apply Moved.use z; swap; clear_value z; intro _; swap; subst z)
    | (extract_lets +onlyGivenNames z; clear_value z)
    | apply Moved.chain (g := State.setLane_moved _ _ _)
    | apply State.wr_moved
    | apply State.putFlag_moved
    | apply Moved.chain (g := State.setLevel_moved _ _)
    | apply Moved.chain (g := State.withLan_moved _ _ )
    | (apply inBlock_of 1; rotate_left; decide; first | omega | (simp only [F.LAN_STAT_ACTIVE] <;> omega) | (simp only [F.LAN_STAT_ACTIVE]; (repeat' split) <;> first | omega | decide | (dsimp only; omega)))
    | (apply inBlock_of 13; rotate_left; decide; first | omega | (simp only [F.LAN_STAT_ACTIVE] <;> omega) | (simp only [F.LAN_STAT_ACTIVE]; (repeat' split) <;> first | omega | decide | (dsimp only; omega)))

theorem State.bootDone_moved (s : State) (l : Lane) (x : BootCheck) (tc : Tc) : Moved 0x3fffff11fefdf1 s (State.bootDone s l x tc) := by
  unfold State.bootDone
  simp -zeta only [State.withRcdLanPwr_eq]
  with_reducible repeat' first
    | assumption
    | intro _
    | apply Moved.refl
    | decide
    | apply Moved.ite
    | (extract_lets +onlyGivenNames z; apply Moved.use z; swap; clear_value z; intro _; swap; subst z)
    | (extract_lets +onlyGivenNames z; clear_value z)
    | apply Moved.chain (g := State.recStart_moved _ _ _)
    | apply Moved.chain (g := State.phbReset_moved _ _)
    | apply Moved.chain (g := State.timStart_moved _)
    | apply Moved.chain (g := State.serviceOn_moved _)
    | apply Moved.chain (g := State.takeLid_moved _ _)
    | apply Moved.chain (g := State.loadImage_moved _ _)
    | apply Moved.chain (g := State.countStart_moved _)
    | apply Moved.chain (g := State.distribute_moved _ _ _)
    | apply Moved.chain (g := State.noImage_moved _)
    | apply Moved.chain (g := State.withRcdLanPwr_moved _ _ _ _ )
    | split

/-! Operations of Machine/Sleep.lean. -/

theorem State.networksOff_moved (s : State) : Moved 0x1800000040001 s (State.networksOff s) := by
  unfold State.networksOff
  with_reducible repeat' first
    | assumption
    | intro _
    | apply Moved.refl
    | decide
    | apply Moved.ite
    | apply Moved.forUpTo
    | apply Moved.chain (g := State.canDisable_moved _ _)
    | apply Moved.chain (g := State.ethWithdraw_moved _)
    | split

theorem State.dispatchOff_moved (s : State) : Moved 0x40000008001 s (State.dispatchOff s) := by
  unfold State.dispatchOff
  simp -zeta only [State.withDsp_eq]
  with_reducible repeat' first
    | assumption
    | intro _
    | apply Moved.refl
    | decide
    | apply Moved.ite
    | apply State.put_moved
    | apply Moved.chain (g := State.withDsp_moved _ _ )
    | (apply inBlock_of 10; rotate_left; decide; first | omega | (simp only [F.DSP_STAT_RUN] <;> omega) | (simp only [F.DSP_STAT_RUN]; (repeat' split) <;> first | omega | decide | (dsimp only; omega)))

theorem State.programOff_moved (s : State) (tc : Tc) : Moved 0x3fffff1fffffff s (State.programOff s tc) := by
  unfold State.programOff
  with_reducible repeat' first
    | assumption
    | intro _
    | apply Moved.refl
    | decide
    | apply Moved.ite
    | apply Moved.chain (g := State.seqDisable_moved _ _)
    | split

theorem State.failNotice_moved (s : State) (tc : Tc) : Moved 0x3fffff1fffffff s (State.failNotice s tc) := by
  unfold State.failNotice
  with_reducible repeat' first
    | assumption
    | intro _
    | apply Moved.refl
    | decide
    | apply Moved.ite
    | apply Moved.chain (g := State.programOff_moved _ _)
    | apply Moved.chain (g := State.dispatchOff_moved _)
    | apply Moved.chain (g := State.serviceOff_moved _)

theorem State.finishClearing_moved (s : State) (tc : Tc) : Moved 0x1b8000233001 s (State.finishClearing s tc) := by
  unfold State.finishClearing
  with_reducible repeat' first
    | assumption
    | intro _
    | apply Moved.refl
    | decide
    | apply Moved.ite
    | apply Moved.chain (g := State.writeCause_moved _ _)
    | apply Moved.chain (g := State.giveInput_moved _ _ _ _)
    | split

theorem State.powerFail_moved (s : State) (tc : Tc) : Moved 0x3fffff1fffffff s (State.powerFail s tc) := by
  unfold State.powerFail
  simp -zeta only [State.withPwr_eq]
  with_reducible repeat' first
    | assumption
    | intro _
    | apply Moved.refl
    | decide
    | apply Moved.ite
    | (extract_lets +onlyGivenNames z; apply Moved.use z; swap; clear_value z; intro _; swap; subst z)
    | (extract_lets +onlyGivenNames z; clear_value z)
    | apply Moved.chain (g := State.finishClearing_moved _ _)
    | apply Moved.chain (g := State.abortXfer_moved _)
    | apply State.put_moved
    | apply Moved.chain (g := State.failNotice_moved _ _)
    | apply Moved.chain (g := State.networksOff_moved _)
    | apply Moved.chain (g := State.estDisable_moved _)
    | apply Moved.chain (g := State.triggerWb_moved _ _ _)
    | apply State.event_moved
    | apply Moved.chain (g := State.withPwr_moved _ _ )
    | (apply inBlock_of 19; rotate_left; decide; first | omega | (simp only [Ev.PWR_PFAIL, F.PWR_EVT_CNT0_PFAIL, F.PWR_EVT_PFAIL, F.PWR_STAT_ENTRY, F.PWR_STAT_PFAIL, F.PWR_STAT_TARGET, F.REC_STAT_HOLD, F.REC_STAT_RUN] <;> omega) | (simp only [Ev.PWR_PFAIL, F.PWR_EVT_CNT0_PFAIL, F.PWR_EVT_PFAIL, F.PWR_STAT_ENTRY, F.PWR_STAT_PFAIL, F.PWR_STAT_TARGET, F.REC_STAT_HOLD, F.REC_STAT_RUN]; (repeat' split) <;> first | omega | decide | (dsimp only; omega)))
    | (apply inBlock_of 20; rotate_left; decide; first | omega | (simp only [Ev.PWR_PFAIL, F.PWR_EVT_CNT0_PFAIL, F.PWR_EVT_PFAIL, F.PWR_STAT_ENTRY, F.PWR_STAT_PFAIL, F.PWR_STAT_TARGET, F.REC_STAT_HOLD, F.REC_STAT_RUN] <;> omega) | (simp only [Ev.PWR_PFAIL, F.PWR_EVT_CNT0_PFAIL, F.PWR_EVT_PFAIL, F.PWR_STAT_ENTRY, F.PWR_STAT_PFAIL, F.PWR_STAT_TARGET, F.REC_STAT_HOLD, F.REC_STAT_RUN]; (repeat' split) <;> first | omega | decide | (dsimp only; omega)))
    | split

theorem State.thermalShutdown_moved (s : State) (cause : Nat) (t : Int) (tc : Tc) : Moved 0x3fffff1fffffff s (State.thermalShutdown s cause t tc) := by
  unfold State.thermalShutdown
  simp -zeta only [State.withLanPwr_eq]
  with_reducible repeat' first
    | assumption
    | intro _
    | apply Moved.refl
    | decide
    | apply Moved.ite
    | (extract_lets +onlyGivenNames z; apply Moved.use z; swap; clear_value z; intro _; swap; subst z)
    | (extract_lets +onlyGivenNames z; clear_value z)
    | apply Moved.chain (g := State.silence_moved _)
    | apply Moved.chain (g := State.allSafe_moved _ _)
    | apply Moved.chain (g := State.lanesOff_moved _)
    | apply Moved.chain (g := State.writeCause_moved _ _)
    | apply Moved.chain (g := State.updWithdraw_moved _)
    | apply State.putFlag_moved
    | apply State.put_moved
    | apply Moved.chain (g := State.failNotice_moved _ _)
    | apply Moved.chain (g := State.afeDisable_moved _)
    | apply Moved.chain (g := State.estDisable_moved _)
    | apply Moved.chain (g := State.triggerWb_moved _ _ _)
    | apply Moved.chain (g := State.giveInput_moved _ _ _ _)
    | apply Moved.chain (g := State.withLanPwr_moved _ _ _ )
    | (apply inBlock_of 11; rotate_left; decide; first | omega | (simp only [F.LAN_SS_CAUSE_CAUSE, F.LAN_SS_CAUSE_CLASS, F.THM_STAT_CHILL, F.THM_STAT_PUMP] <;> omega) | (simp only [F.LAN_SS_CAUSE_CAUSE, F.LAN_SS_CAUSE_CLASS, F.THM_STAT_CHILL, F.THM_STAT_PUMP]; (repeat' split) <;> first | omega | decide | (dsimp only; omega)))
    | (apply inBlock_of 13; rotate_left; decide; first | omega | (simp only [F.LAN_SS_CAUSE_CAUSE, F.LAN_SS_CAUSE_CLASS, F.THM_STAT_CHILL, F.THM_STAT_PUMP] <;> omega) | (simp only [F.LAN_SS_CAUSE_CAUSE, F.LAN_SS_CAUSE_CLASS, F.THM_STAT_CHILL, F.THM_STAT_PUMP]; (repeat' split) <;> first | omega | decide | (dsimp only; omega)))
    | split

theorem State.allDormant_moved (s : State) : Moved 0x100000001 s (State.allDormant s) := by
  unfold State.allDormant
  with_reducible repeat' first
    | assumption
    | intro _
    | apply Moved.refl
    | decide
    | apply Moved.ite
    | apply State.wr_moved
    | (apply inBlock_of 0; rotate_left; decide; first | omega)

theorem State.holdPads_moved (s : State) : Moved 0x10000000000001 s (State.holdPads s) := by
  unfold State.holdPads
  with_reducible repeat' first
    | assumption
    | intro _
    | apply Moved.refl
    | decide
    | apply Moved.ite
    | apply State.wr_moved
    | (apply inBlock_of 20; rotate_left; decide; first | omega)

theorem State.domainsOff_moved (s : State) (tc : Tc) : Moved 0x1453310ce23b23 s (State.domainsOff s tc) := by
  unfold State.domainsOff
  simp -zeta only [State.withObjLanFrames_eq]
  with_reducible repeat' first
    | assumption
    | intro _
    | apply Moved.refl
    | decide
    | apply Moved.ite
    | (extract_lets +onlyGivenNames z; apply Moved.use z; swap; clear_value z; intro _; swap; subst z)
    | (extract_lets +onlyGivenNames z; (have t9 : Frames := z); clear t9; subst z)
    | (extract_lets +onlyGivenNames z; clear_value z)
    | apply Moved.forUpTo
    | apply Moved.chain (g := State.seqLeave_moved _ _)
    | apply Moved.chain (g := State.holdPads_moved _)
    | apply Moved.chain (g := State.dropAll_moved _ _)
    | apply Moved.chain (g := State.openPair_moved _ _ _)
    | apply Moved.chain (g := State.allDormant_moved _)
    | apply Moved.chain (g := State.cteHalt_moved _)
    | apply Moved.chain (g := State.afeDisable_moved _)
    | apply Moved.chain (g := State.portDark_moved _ _)
    | apply Moved.chain (g := State.withObjLanFrames_moved _ _ _ _ ?_ )
    | split
    | (have h_frames := State.Inv.frames (by assumption); simp_all only [Frames.Sized, length_setAt]; done)
    | (have h_frames := State.Inv.frames (by assumption); simp_all [Frames.Sized, Frames.reset, length_setAt]; done)

theorem State.tc10End_moved (s : State) : Moved 0x1000000000001 s (State.tc10End s) := by
  unfold State.tc10End
  with_reducible repeat' first
    | assumption
    | intro _
    | apply Moved.refl
    | decide
    | apply Moved.ite
    | apply Moved.forUpTo
    | apply State.put_moved
    | apply State.event_moved
    | (apply inBlock_of 16; rotate_left; decide; first | omega | (simp only [Ev.ETH_LINK0, Ev.ETH_LINK1, Ev.ETH_SLEEP_FAIL, F.ETH_EVT_CNT0_LINK0, F.ETH_EVT_CNT0_LINK1, F.ETH_EVT_CNT1_SLEEP_FAIL, F.ETH_EVT_LINK0, F.ETH_EVT_LINK1, F.ETH_EVT_SLEEP_FAIL, F.ETH_STAT_E0_LINK, F.ETH_STAT_E0_TC10, F.ETH_STAT_E1_LINK, F.ETH_STAT_E1_TC10, ethTc10] <;> omega) | (simp only [Ev.ETH_LINK0, Ev.ETH_LINK1, Ev.ETH_SLEEP_FAIL, F.ETH_EVT_CNT0_LINK0, F.ETH_EVT_CNT0_LINK1, F.ETH_EVT_CNT1_SLEEP_FAIL, F.ETH_EVT_LINK0, F.ETH_EVT_LINK1, F.ETH_EVT_SLEEP_FAIL, F.ETH_STAT_E0_LINK, F.ETH_STAT_E0_TC10, F.ETH_STAT_E1_LINK, F.ETH_STAT_E1_TC10, ethTc10]; (repeat' split) <;> first | omega | decide | (dsimp only; omega)))
    | split

theorem State.staticFoc_moved (s : State) : Moved 0x8000000001 s (State.staticFoc s) := by
  unfold State.staticFoc
  with_reducible repeat' first
    | assumption
    | intro _
    | apply Moved.refl
    | decide
    | apply Moved.ite
    | apply Moved.forUpTo
    | apply State.put_moved
    | (apply inBlock_of 7; rotate_left; decide; first | omega | (simp only [F.PRT_S_FOC_EFF_CHG] <;> omega) | (simp only [F.PRT_S_FOC_EFF_CHG]; (repeat' split) <;> first | omega | decide | (dsimp only; omega)))

theorem State.dropLiveSet_moved (s : State) : Moved 0x400000041 s (State.dropLiveSet s) := by
  unfold State.dropLiveSet
  with_reducible repeat' first
    | assumption
    | intro _
    | apply Moved.refl
    | decide
    | apply Moved.ite
    | (extract_lets +onlyGivenNames z; apply Moved.use z; swap; clear_value z; intro _; swap; subst z)
    | (extract_lets +onlyGivenNames z; clear_value z)
    | apply Moved.chain (g := State.lsDiscard_moved _)
    | apply Moved.chain (g := State.postOutcome_moved _ _ _)
    | apply Moved.chain (g := State.dropSubmitted_moved _)
    | split

theorem State.loseBank_moved (s : State) (n : Nat) : Moved 0x4000000411 s (State.loseBank s n) := by
  unfold State.loseBank
  with_reducible repeat' first
    | assumption
    | intro _
    | apply Moved.refl
    | decide
    | apply Moved.ite
    | (extract_lets +onlyGivenNames z; apply Moved.use z; swap; clear_value z; intro _; swap; subst z)
    | (extract_lets +onlyGivenNames z; clear_value z)
    | apply Moved.forUpTo
    | apply Moved.chain (g := State.putStat_moved _ _ _ _)
    | apply Moved.chain (g := State.clearEntry_moved _ _)
    | apply State.event_moved
    | (apply inBlock_of 6; rotate_left; decide; first | omega | (simp only [Ev.EST_RET_LOST, F.EST_EVT_CNT2_RET_LOST, F.EST_EVT_RET_LOST] <;> omega) | (simp only [Ev.EST_RET_LOST, F.EST_EVT_CNT2_RET_LOST, F.EST_EVT_RET_LOST]; (repeat' split) <;> first | omega | decide | (dsimp only; omega)))
    | split

theorem State.wakeEntries_moved (lost : BitVec 12) (s : State) : Moved 0x4000000411 s (State.wakeEntries lost s) := by
  unfold State.wakeEntries
  with_reducible repeat' first
    | assumption
    | intro _
    | apply Moved.refl
    | decide
    | apply Moved.ite
    | apply Moved.forUpTo
    | apply Moved.chain (g := State.estWake_moved _)
    | apply Moved.chain (g := State.loseBank_moved _ _)
    | split

theorem State.resumed_moved (s : State) (tc : Tc) : Moved 0x3fffff07ffffff s (State.resumed s tc) :=
  ⟨⟨rfl, List.suffix_refl _, le_refl _, fun c => ⟨State.freshObjs_wf s _, c.cst, rfl, rfl, rfl, c.cfg, rfl, List.length_replicate .., rfl, c.prt, ⟨rfl, rfl⟩, c.saf, rfl, rfl, rfl, c.seq, Frames.sized_reset⟩⟩, fun i hi => by
    unfold State.sameAt
    split <;> first | rfl | exact absurd hi (by decide), fun _ ha hi => (no_block (by decide) ha hi).elim⟩

theorem State.loseLaneMem_moved (s : State) (l : Lane) : Moved 0x400000 s (State.loseLaneMem s l) := by
  unfold State.loseLaneMem
  simp -zeta only [State.withLan_eq]
  with_reducible repeat' first
    | assumption
    | intro _
    | apply Moved.refl
    | decide
    | apply Moved.ite
    | apply Moved.chain (g := State.withLan_moved _ _ )
    | split

theorem State.wakeOther_moved (s : State) (lost : Bool) : Moved 0x200000400001 s (State.wakeOther s lost) := by
  unfold State.wakeOther
  with_reducible repeat' first
    | assumption
    | intro _
    | apply Moved.refl
    | decide
    | apply Moved.ite
    | (extract_lets +onlyGivenNames z; apply Moved.use z; swap; clear_value z; intro _; swap; subst z)
    | (extract_lets +onlyGivenNames z; clear_value z)
    | apply Moved.chain (g := State.setLane_moved _ _ _)
    | apply Moved.chain (g := State.loseLaneMem_moved _ _)
    | split

theorem State.resume_moved (s : State) (lost : BitVec 12) (corrected : Nat) (tc : Tc) : Moved 0x3fffff17ffffff s (State.resume s lost corrected tc) := by
  unfold State.resume
  with_reducible repeat' first
    | assumption
    | intro _
    | apply Moved.refl
    | decide
    | apply Moved.ite
    | (extract_lets +onlyGivenNames z; apply Moved.use z; swap; clear_value z; intro _; swap; subst z)
    | (extract_lets +onlyGivenNames z; clear_value z)
    | apply Moved.forUpTo
    | apply Moved.chain (g := State.showCause_moved _)
    | apply State.eventIf_moved
    | apply Moved.chain (g := State.phbReset_moved _ _)
    | apply Moved.chain (g := State.timStart_moved _)
    | apply Moved.chain (g := State.invalidateWriting_moved _)
    | apply Moved.chain (g := State.dropLiveSet_moved _)
    | apply State.wr_moved
    | apply Moved.chain (g := State.serviceOn_moved _)
    | apply State.loadBlocks_moved
    | apply Moved.chain (g := State.staticFoc_moved _)
    | apply Moved.chain (g := State.svcNonce_moved _)
    | apply State.put_moved
    | apply Moved.chain (g := State.seqResume_moved _)
    | apply Moved.chain (g := State.wakeOther_moved _ _)
    | apply Moved.chain (g := State.setLevel_moved _ _)
    | apply Moved.chain (g := State.wakeEntries_moved _ _)
    | apply Moved.chain (g := State.sessionEnd_moved _)
    | apply Moved.chain (g := State.resumed_moved _ _)
    | apply State.event_moved
    | apply Moved.chain (g := State.noImage_moved _)
    | (apply inBlock_of 1; rotate_left; decide; first | omega | (simp only [Ev.PWR_RET_LOST, Ev.THM_SD_FOUND, F.LAN_STAT_MGMT_PEND, F.PWR_EVT_CNT1_RET_LOST, F.PWR_EVT_RET_LOST, F.PWR_RET_CORR, F.PWR_RET_LOST, F.PWR_STAT_HOLDUP_OK, F.THM_EVT_CNT1_SD_FOUND, F.THM_EVT_SD_FOUND] <;> omega) | (simp only [Ev.PWR_RET_LOST, Ev.THM_SD_FOUND, F.LAN_STAT_MGMT_PEND, F.PWR_EVT_CNT1_RET_LOST, F.PWR_EVT_RET_LOST, F.PWR_RET_CORR, F.PWR_RET_LOST, F.PWR_STAT_HOLDUP_OK, F.THM_EVT_CNT1_SD_FOUND, F.THM_EVT_SD_FOUND]; (repeat' split) <;> first | omega | decide | (dsimp only; omega)))
    | (apply inBlock_of 11; rotate_left; decide; first | omega | (simp only [Ev.PWR_RET_LOST, Ev.THM_SD_FOUND, F.LAN_STAT_MGMT_PEND, F.PWR_EVT_CNT1_RET_LOST, F.PWR_EVT_RET_LOST, F.PWR_RET_CORR, F.PWR_RET_LOST, F.PWR_STAT_HOLDUP_OK, F.THM_EVT_CNT1_SD_FOUND, F.THM_EVT_SD_FOUND] <;> omega) | (simp only [Ev.PWR_RET_LOST, Ev.THM_SD_FOUND, F.LAN_STAT_MGMT_PEND, F.PWR_EVT_CNT1_RET_LOST, F.PWR_EVT_RET_LOST, F.PWR_RET_CORR, F.PWR_RET_LOST, F.PWR_STAT_HOLDUP_OK, F.THM_EVT_CNT1_SD_FOUND, F.THM_EVT_SD_FOUND]; (repeat' split) <;> first | omega | decide | (dsimp only; omega)))
    | (apply inBlock_of 13; rotate_left; decide; first | omega | (simp only [Ev.PWR_RET_LOST, Ev.THM_SD_FOUND, F.LAN_STAT_MGMT_PEND, F.PWR_EVT_CNT1_RET_LOST, F.PWR_EVT_RET_LOST, F.PWR_RET_CORR, F.PWR_RET_LOST, F.PWR_STAT_HOLDUP_OK, F.THM_EVT_CNT1_SD_FOUND, F.THM_EVT_SD_FOUND] <;> omega) | (simp only [Ev.PWR_RET_LOST, Ev.THM_SD_FOUND, F.LAN_STAT_MGMT_PEND, F.PWR_EVT_CNT1_RET_LOST, F.PWR_EVT_RET_LOST, F.PWR_RET_CORR, F.PWR_RET_LOST, F.PWR_STAT_HOLDUP_OK, F.THM_EVT_CNT1_SD_FOUND, F.THM_EVT_SD_FOUND]; (repeat' split) <;> first | omega | decide | (dsimp only; omega)))
    | (apply inBlock_of 20; rotate_left; decide; first | omega | (simp only [Ev.PWR_RET_LOST, Ev.THM_SD_FOUND, F.LAN_STAT_MGMT_PEND, F.PWR_EVT_CNT1_RET_LOST, F.PWR_EVT_RET_LOST, F.PWR_RET_CORR, F.PWR_RET_LOST, F.PWR_STAT_HOLDUP_OK, F.THM_EVT_CNT1_SD_FOUND, F.THM_EVT_SD_FOUND] <;> omega) | (simp only [Ev.PWR_RET_LOST, Ev.THM_SD_FOUND, F.LAN_STAT_MGMT_PEND, F.PWR_EVT_CNT1_RET_LOST, F.PWR_EVT_RET_LOST, F.PWR_RET_CORR, F.PWR_RET_LOST, F.PWR_STAT_HOLDUP_OK, F.THM_EVT_CNT1_SD_FOUND, F.THM_EVT_SD_FOUND]; (repeat' split) <;> first | omega | decide | (dsimp only; omega)))
    | split

/-! Operations of Machine/Commit.lean. -/

theorem State.trackNoRing_moved (s : State) (tc : Tc) : Moved 0x1000000 s (State.trackNoRing s tc) := by
  unfold State.trackNoRing
  simp -zeta only [State.withPwr_eq]
  with_reducible repeat' first
    | assumption
    | intro _
    | apply Moved.refl
    | decide
    | apply Moved.ite
    | apply Moved.getD
    | apply Moved.chain (g := State.withPwr_moved _ _ )
    | split

theorem State.programStart_moved (s : State) (tc : Tc) : Moved 0x3fffff1fffffff s (State.programStart s tc) := by
  unfold State.programStart
  simp -zeta only [State.withSeq_eq]
  with_reducible repeat' first
    | assumption
    | intro _
    | apply Moved.refl
    | decide
    | apply Moved.ite
    | (extract_lets +onlyGivenNames z; apply Moved.use z; swap; clear_value z; intro _; swap; subst z)
    | (extract_lets +onlyGivenNames z; (have t9 : Seq := z); clear t9; subst z)
    | (extract_lets +onlyGivenNames z; clear_value z)
    | apply State.put_moved
    | apply Moved.chain (g := State.safeOutputs_moved _ _)
    | apply Moved.chain (g := State.withSeq_moved _ _ ?_ )
    | (apply inBlock_of 14; rotate_left; decide; first | omega | (simp only [F.SEQ_STAT_STATE] <;> omega) | (simp only [F.SEQ_STAT_STATE]; (repeat' split) <;> first | omega | decide | (dsimp only; omega)))
    | split
    | (have h_seq := State.Inv.seq (by assumption); simp_all only [Seq.Sized, length_setAt]; done)
    | (have h_seq := State.Inv.seq (by assumption); simp_all [Seq.Sized, Seq.reset, length_setAt]; done)

theorem State.readyCheck_moved (s : State) (tc : Tc) : Moved 0x3fffff1fffffff s (State.readyCheck s tc) := by
  unfold State.readyCheck
  simp -zeta only [State.withLan_eq]
  with_reducible repeat' first
    | assumption
    | intro _
    | apply Moved.refl
    | decide
    | apply Moved.ite
    | (extract_lets +onlyGivenNames z; apply Moved.use z; swap; clear_value z; intro _; swap; subst z)
    | (extract_lets +onlyGivenNames z; clear_value z)
    | apply Moved.chain (g := State.programStart_moved _ _)
    | apply State.wr_moved
    | apply State.put_moved
    | apply Moved.chain (g := State.setLevel_moved _ _)
    | apply Moved.chain (g := State.withLan_moved _ _ )
    | (apply inBlock_of 20; rotate_left; decide; first | omega | (simp only [F.PWR_STAT_READY] <;> omega) | (simp only [F.PWR_STAT_READY]; (repeat' split) <;> first | omega | decide | (dsimp only; omega)))
    | split

theorem State.sleepPort_moved (s : State) (p : Nat) (at4 : Nat) : Moved 0x18000300 s (State.sleepPort s p at4) := by
  unfold State.sleepPort
  with_reducible repeat' first
    | assumption
    | intro _
    | apply Moved.refl
    | decide
    | apply Moved.ite
    | (extract_lets +onlyGivenNames z; apply Moved.use z; swap; clear_value z; intro _; swap; subst z)
    | (extract_lets +onlyGivenNames z; clear_value z)
    | apply Moved.forUpTo
    | apply Moved.chain (g := State.setPort_moved _ _ _)
    | apply Moved.chain (g := State.took_moved _)
    | apply Moved.chain (g := State.sendBroadcast_moved _ _ _ _ _ _)
    | apply Moved.chain (g := State.setMon_moved _ _ _ _)
    | split

theorem State.sleepEth_moved (s : State) : Moved 0x1000008000001 s (State.sleepEth s) := by
  unfold State.sleepEth
  with_reducible repeat' first
    | assumption
    | intro _
    | apply Moved.refl
    | decide
    | apply Moved.ite
    | apply Moved.forUpTo
    | apply State.put_moved
    | apply Moved.chain (g := State.emit_moved _ _)
    | (apply inBlock_of 16; rotate_left; decide; first | omega | (simp only [Ev.ETH_LINK0, Ev.ETH_LINK1, F.ETH_EVT_CNT0_LINK0, F.ETH_EVT_CNT0_LINK1, F.ETH_EVT_LINK0, F.ETH_EVT_LINK1, F.ETH_STAT_E0_LINK, F.ETH_STAT_E0_TC10, F.ETH_STAT_E1_LINK, F.ETH_STAT_E1_TC10, ethTc10] <;> omega) | (simp only [Ev.ETH_LINK0, Ev.ETH_LINK1, F.ETH_EVT_CNT0_LINK0, F.ETH_EVT_CNT0_LINK1, F.ETH_EVT_LINK0, F.ETH_EVT_LINK1, F.ETH_STAT_E0_LINK, F.ETH_STAT_E0_TC10, F.ETH_STAT_E1_LINK, F.ETH_STAT_E1_TC10, ethTc10]; (repeat' split) <;> first | omega | decide | (dsimp only; omega)))
    | split

theorem State.enterSleep_moved (s : State) (target : Nat) (m : RecMedia) (tc : Tc) : Moved 0x3fffff1fffffff s (State.enterSleep s target m tc) := by
  unfold State.enterSleep
  simp -zeta only [State.withPwr_eq]
  with_reducible repeat' first
    | assumption
    | intro _
    | apply Moved.refl
    | decide
    | apply Moved.ite
    | (extract_lets +onlyGivenNames z; apply Moved.use z; swap; clear_value z; intro _; swap; subst z)
    | (extract_lets +onlyGivenNames z; clear_value z)
    | apply Moved.forUpTo
    | apply Moved.chain (g := State.recSleep_moved _ _)
    | apply Moved.chain (g := State.programOff_moved _ _)
    | apply Moved.chain (g := State.canSleep_moved _)
    | apply Moved.chain (g := State.abortXfer_moved _)
    | apply Moved.chain (g := State.trimDisable_moved _ _)
    | apply State.put_moved
    | apply Moved.chain (g := State.sleepEth_moved _)
    | apply Moved.chain (g := State.dispatchOff_moved _)
    | apply Moved.chain (g := State.sleepPort_moved _ _ _)
    | apply Moved.chain (g := State.serviceOff_moved _)
    | apply Moved.chain (g := State.hoursSave_moved _ _)
    | apply Moved.chain (g := State.triggerWb_moved _ _ _)
    | apply Moved.chain (g := State.withPwr_moved _ _ )
    | (apply inBlock_of 20; rotate_left; decide; first | omega | (simp only [F.PWR_STAT_ENTRY, F.PWR_STAT_TARGET] <;> omega) | (simp only [F.PWR_STAT_ENTRY, F.PWR_STAT_TARGET]; (repeat' split) <;> first | omega | decide | (dsimp only; omega)))
    | split

theorem State.takeSleep_moved (s : State) (m : RecMedia) (tc : Tc) : Moved 0x3fffff1fffffff s (State.takeSleep s m tc) := by
  unfold State.takeSleep
  simp -zeta only [State.withPwr_eq]
  with_reducible repeat' first
    | assumption
    | intro _
    | apply Moved.refl
    | decide
    | apply Moved.ite
    | (extract_lets +onlyGivenNames z; apply Moved.use z; swap; clear_value z; intro _; swap; subst z)
    | (extract_lets +onlyGivenNames z; clear_value z)
    | apply Moved.chain (g := State.enterSleep_moved _ _ _ _)
    | apply Moved.chain (g := State.sleepRefused_moved _ _)
    | apply Moved.chain (g := State.withPwr_moved _ _ )
    | split

theorem State.judgeHeartbeat_moved (s : State) (managed : Bool) (tc : Tc) : Moved 0x29f7740ff7f763 s (State.judgeHeartbeat s managed tc) := by
  unfold State.judgeHeartbeat
  simp -zeta only [State.withLan_eq]
  with_reducible repeat' first
    | assumption
    | intro _
    | apply Moved.refl
    | decide
    | apply Moved.ite
    | (extract_lets +onlyGivenNames z; apply Moved.use z; swap; clear_value z; intro _; swap; subst z)
    | (extract_lets +onlyGivenNames z; clear_value z)
    | apply Moved.chain (g := State.watchHeartbeat_moved _ _)
    | apply Moved.chain (g := State.withLan_moved _ _ )
    | split

theorem State.commitSteps_moved (s : State) (tc : Tc) : Moved 0x3fffff09e5efe3 s (State.commitSteps s tc) := by
  unfold State.commitSteps
  with_reducible repeat' first
    | assumption
    | intro _
    | apply Moved.refl
    | decide
    | apply Moved.ite
    | (extract_lets +onlyGivenNames z; apply Moved.use z; swap; clear_value z; intro _; swap; subst z)
    | (extract_lets +onlyGivenNames z; clear_value z)
    | apply Moved.chain (g := State.countRound_moved _)
    | apply Moved.chain (g := State.lsApply_moved _ _)
    | apply State.bump_moved
    | apply Moved.chain (g := State.applyLimits_moved _)
    | apply Moved.chain (g := State.management_moved _ _)
    | apply Moved.chain (g := State.setLevel_moved _ _)
    | (apply inBlock_of 13; rotate_left; decide; first | omega | (simp only [F.LAN_COMMIT_COUNT] <;> omega) | (simp only [F.LAN_COMMIT_COUNT]; (repeat' split) <;> first | omega | decide | (dsimp only; omega)))
    | split

theorem State.commitCycle_moved (s : State) (tc : Tc) : Moved 0x20f58014c4d041 s (State.commitCycle s tc) := by
  unfold State.commitCycle
  with_reducible repeat' first
    | assumption
    | intro _
    | apply Moved.refl
    | decide
    | apply Moved.ite
    | (extract_lets +onlyGivenNames z; apply Moved.use z; swap; clear_value z; intro _; swap; subst z)
    | (extract_lets +onlyGivenNames z; clear_value z)
    | apply Moved.chain (g := State.autoMatch_moved _)
    | apply Moved.chain (g := State.showSession_moved _ _)
    | apply Moved.chain (g := State.seqCommit_moved _ _)
    | apply Moved.chain (g := State.takeConfirm_moved _)
    | apply Moved.chain (g := State.beginFrame_moved _ _)
    | apply Moved.chain (g := State.showStandbyAge_moved _ _)
    | apply Moved.chain (g := State.agedCheck_moved _ _)
    | apply Moved.chain (g := State.showTestAges_moved _ _)

theorem State.commitPoint_moved (s : State) (m : RecMedia) (tc : Tc) : Moved 0x3fffff1fffffff s (State.commitPoint s m tc) := by
  unfold State.commitPoint
  with_reducible repeat' first
    | assumption
    | intro _
    | apply Moved.refl
    | decide
    | apply Moved.ite
    | (extract_lets +onlyGivenNames z; apply Moved.use z; swap; clear_value z; intro _; swap; subst z)
    | (extract_lets +onlyGivenNames z; clear_value z)
    | apply Moved.chain (g := State.takeSleep_moved _ _ _)
    | apply Moved.chain (g := State.judgeHeartbeat_moved _ _ _)
    | apply Moved.chain (g := State.canCommit_moved _)
    | apply Moved.chain (g := State.commitSteps_moved _ _)
    | apply Moved.chain (g := State.readyCheck_moved _ _)
    | apply Moved.chain (g := State.commitCycle_moved _ _)
    | apply Moved.chain (g := State.trackNoRing_moved _ _)
    | split

end Sys2Proof.Machine
end

