-- ==== Sys2Proof/Laws/PerInstr.lean ====
section
/-! SUPPORT. Laws/PerInstr.lean: a fact of each command, one lemma for each: no two scopes name it. -/
namespace Sys2Proof.Laws

open Sys2Proof Sys2Proof.Machine

/-- The scopes that name a command. -/
def Scoped.named (i : Instr) : List Scope :=
  [scopeTime i, scopeLink i, scopeBank i, scopeIsland i, scopeSafety i, scopeControl i, scopeService i, scopeSystem i].filterMap id

/-- At most one scope names the command, so that no two frames speak of it. -/
def Scoped.Statement (i : Instr) : Prop := (Scoped.named i).length ≤ 1

theorem Scoped.commitPoint (k : Fin 64) (m : RecMedia) (tc : Tc) : Scoped.Statement (.commitPoint k m tc) := Nat.le_of_ble_eq_true rfl
theorem Scoped.snapshotPublication (tc : Tc) : Scoped.Statement (.snapshotPublication tc) := Nat.le_of_ble_eq_true rfl
theorem Scoped.dispatchComplete (tc : Tc) : Scoped.Statement (.dispatchComplete tc) := Nat.le_of_ble_eq_true rfl
theorem Scoped.sweepDeadline (tc : Tc) : Scoped.Statement (.sweepDeadline tc) := Nat.le_of_ble_eq_true rfl
theorem Scoped.objRequestArrival (path : Path) (src : BitVec 48) (pdu : List Byte) (tc : Tc) : Scoped.Statement (.objRequestArrival path src pdu tc) := Nat.le_of_ble_eq_true rfl
theorem Scoped.readRange (tc : Tc) : Scoped.Statement (.readRange tc) := Nat.le_of_ble_eq_true rfl
theorem Scoped.readList (tc : Tc) : Scoped.Statement (.readList tc) := Nat.le_of_ble_eq_true rfl
theorem Scoped.writeList (x : WriteAid) (tc : Tc) : Scoped.Statement (.writeList x tc) := Nat.le_of_ble_eq_true rfl
theorem Scoped.epochQuery (tc : Tc) : Scoped.Statement (.epochQuery tc) := Nat.le_of_ble_eq_true rfl
theorem Scoped.registerWrite (a : BitVec 32) (v : Word) (w : Writer) (x : WriteAid) (tc : Tc) : Scoped.Statement (.registerWrite a v w x tc) := Nat.le_of_ble_eq_true rfl
theorem Scoped.rwsWrite (a : BitVec 32) (v : Word) (w : Writer) : Scoped.Statement (.rwsWrite a v w) := Nat.le_of_ble_eq_true rfl
theorem Scoped.pairLoRead (a : BitVec 32) (tc : Tc) : Scoped.Statement (.pairLoRead a tc) := Nat.le_of_ble_eq_true rfl
theorem Scoped.cfgSelectWrite (v : Word) : Scoped.Statement (.cfgSelectWrite v) := Nat.le_of_ble_eq_true rfl
theorem Scoped.cfgRestart (v : Word) (tc : Tc) : Scoped.Statement (.cfgRestart v tc) := Nat.le_of_ble_eq_true rfl
theorem Scoped.cfgConfirm (v : Word) (tc : Tc) : Scoped.Statement (.cfgConfirm v tc) := Nat.le_of_ble_eq_true rfl
theorem Scoped.cfgConfirmInv (v : Word) (tc : Tc) : Scoped.Statement (.cfgConfirmInv v tc) := Nat.le_of_ble_eq_true rfl
theorem Scoped.confirmWindowExpiry (tc : Tc) : Scoped.Statement (.confirmWindowExpiry tc) := Nat.le_of_ble_eq_true rfl
theorem Scoped.confirmationRecordWritten : Scoped.Statement .confirmationRecordWritten := Nat.le_of_ble_eq_true rfl
theorem Scoped.lsSubmit : Scoped.Statement .lsSubmit := Nat.le_of_ble_eq_true rfl
theorem Scoped.lsDiscard : Scoped.Statement .lsDiscard := Nat.le_of_ble_eq_true rfl
theorem Scoped.lsChecksDone : Scoped.Statement .lsChecksDone := Nat.le_of_ble_eq_true rfl
theorem Scoped.referenceEvent (tc : Tc) : Scoped.Statement (.referenceEvent tc) := Nat.le_of_ble_eq_true rfl
theorem Scoped.referenceMissing (tc : Tc) : Scoped.Statement (.referenceMissing tc) := Nat.le_of_ble_eq_true rfl
theorem Scoped.phaseWrap (tc : Tc) : Scoped.Statement (.phaseWrap tc) := Nat.le_of_ble_eq_true rfl
theorem Scoped.testWindow (k : Fin 64) (tc : Tc) : Scoped.Statement (.testWindow k tc) := Nat.le_of_ble_eq_true rfl
theorem Scoped.balPause (k : Fin 64) (tc : Tc) : Scoped.Statement (.balPause k tc) := Nat.le_of_ble_eq_true rfl
theorem Scoped.apertureNotice (k : Fin 64) (tc : Tc) : Scoped.Statement (.apertureNotice k tc) := Nat.le_of_ble_eq_true rfl
theorem Scoped.apertureBroadcast (tc : Tc) : Scoped.Statement (.apertureBroadcast tc) := Nat.le_of_ble_eq_true rfl
theorem Scoped.adcTrigger (k : Fin 64) (tc : Tc) : Scoped.Statement (.adcTrigger k tc) := Nat.le_of_ble_eq_true rfl
theorem Scoped.ctlSample (k : Fin 64) (tc : Tc) : Scoped.Statement (.ctlSample k tc) := Nat.le_of_ble_eq_true rfl
theorem Scoped.trimUpdate (k : Fin 64) (tc : Tc) : Scoped.Statement (.trimUpdate k tc) := Nat.le_of_ble_eq_true rfl
theorem Scoped.mark (k : Fin 64) (tc : Tc) : Scoped.Statement (.mark k tc) := Nat.le_of_ble_eq_true rfl
theorem Scoped.angleMessageSend (tc : Tc) : Scoped.Statement (.angleMessageSend tc) := Nat.le_of_ble_eq_true rfl
theorem Scoped.angleMessageReceive (payload : List Byte) (tc : Tc) : Scoped.Statement (.angleMessageReceive payload tc) := Nat.le_of_ble_eq_true rfl
theorem Scoped.portEnable (p : Fin 8) : Scoped.Statement (.portEnable p) := Nat.le_of_ble_eq_true rfl
theorem Scoped.portDisable (p : Fin 8) : Scoped.Statement (.portDisable p) := Nat.le_of_ble_eq_true rfl
theorem Scoped.reenum (x : PortAt) : Scoped.Statement (.reenum x) := Nat.le_of_ble_eq_true rfl
theorem Scoped.enumerationEnd (p : Fin 8) : Scoped.Statement (.enumerationEnd p) := Nat.le_of_ble_eq_true rfl
theorem Scoped.transactionIssue (p : Fin 8) (endB : Bool) (tc : Tc) : Scoped.Statement (.transactionIssue p endB tc) := Nat.le_of_ble_eq_true rfl
theorem Scoped.responseReceive (p : Fin 8) (bytes : List Byte) (lineError : Bool) (roundTrip : Nat) (tc : Tc) : Scoped.Statement (.responseReceive p bytes lineError roundTrip tc) := Nat.le_of_ble_eq_true rfl
theorem Scoped.noTarget (p : Fin 8) (tag : Fin 16) : Scoped.Statement (.noTarget p tag) := Nat.le_of_ble_eq_true rfl
theorem Scoped.transactionTimeout (p : Fin 8) (tag : Fin 16) (tc : Tc) : Scoped.Statement (.transactionTimeout p tag tc) := Nat.le_of_ble_eq_true rfl
theorem Scoped.lossOfSignal (x : PortAt) (endB : Bool) : Scoped.Statement (.lossOfSignal x endB) := Nat.le_of_ble_eq_true rfl
theorem Scoped.validSignalHeld (x : PortAt) : Scoped.Statement (.validSignalHeld x) := Nat.le_of_ble_eq_true rfl
theorem Scoped.noSignalTimeout (p : Fin 8) : Scoped.Statement (.noSignalTimeout p) := Nat.le_of_ble_eq_true rfl
theorem Scoped.pollDecision (p : Fin 8) (fromA : PollBack) (fromB : PollBack) (tc : Tc) : Scoped.Statement (.pollDecision p fromA fromB tc) := Nat.le_of_ble_eq_true rfl
theorem Scoped.periodicPoll (x : PortAt) : Scoped.Statement (.periodicPoll x) := Nat.le_of_ble_eq_true rfl
theorem Scoped.dRemeasure (p : Fin 8) (m : Fin 32) (endB : Bool) (tc : Tc) : Scoped.Statement (.dRemeasure p m endB tc) := Nat.le_of_ble_eq_true rfl
theorem Scoped.derturWakeEvent (p : Fin 8) (endB : Bool) (t : WakeAt) (tc : Tc) : Scoped.Statement (.derturWakeEvent p endB t tc) := Nat.le_of_ble_eq_true rfl
theorem Scoped.burstReadComplete (p : Fin 8) : Scoped.Statement (.burstReadComplete p) := Nat.le_of_ble_eq_true rfl
theorem Scoped.burstReadTimeout (x : PortAt) : Scoped.Statement (.burstReadTimeout x) := Nat.le_of_ble_eq_true rfl
theorem Scoped.cellPass (g : Fin 4096) (tc : Tc) : Scoped.Statement (.cellPass g tc) := Nat.le_of_ble_eq_true rfl
theorem Scoped.burstEvaluation (p : Fin 8) : Scoped.Statement (.burstEvaluation p) := Nat.le_of_ble_eq_true rfl
theorem Scoped.cellRestore (g : Fin 4096) : Scoped.Statement (.cellRestore g) := Nat.le_of_ble_eq_true rfl
theorem Scoped.relearnCell (g : Fin 4096) : Scoped.Statement (.relearnCell g) := Nat.le_of_ble_eq_true rfl
theorem Scoped.relearnMonitor (g : Fin 4096) : Scoped.Statement (.relearnMonitor g) := Nat.le_of_ble_eq_true rfl
theorem Scoped.relearnString (g : Fin 4096) : Scoped.Statement (.relearnString g) := Nat.le_of_ble_eq_true rfl
theorem Scoped.wbWrite (tc : Tc) : Scoped.Statement (.wbWrite tc) := Nat.le_of_ble_eq_true rfl
theorem Scoped.writeBackTimer (tc : Tc) : Scoped.Statement (.writeBackTimer tc) := Nat.le_of_ble_eq_true rfl
theorem Scoped.writeBackComplete (good : Bool) (tc : Tc) : Scoped.Statement (.writeBackComplete good tc) := Nat.le_of_ble_eq_true rfl
theorem Scoped.scOcCrossing (n : Fin 8) (path : DirectPath) (x : SensedAt) : Scoped.Statement (.scOcCrossing n path x) := Nat.le_of_ble_eq_true rfl
theorem Scoped.directLatchClear (n : Fin 8) (path : DirectPath) (tc : Tc) : Scoped.Statement (.directLatchClear n path tc) := Nat.le_of_ble_eq_true rfl
theorem Scoped.filteredPathExpiry (n : Fin 8) (path : FilteredPath) (x : SensedAt) : Scoped.Statement (.filteredPathExpiry n path x) := Nat.le_of_ble_eq_true rfl
theorem Scoped.islandFault (x : SkewAt) : Scoped.Statement (.islandFault x) := Nat.le_of_ble_eq_true rfl
theorem Scoped.islandFaultCoilTimeout (tc : Tc) : Scoped.Statement (.islandFaultCoilTimeout tc) := Nat.le_of_ble_eq_true rfl
theorem Scoped.breakerStatusChange (n : Fin 8) (closed : Bool) (tc : Tc) : Scoped.Statement (.breakerStatusChange n closed tc) := Nat.le_of_ble_eq_true rfl
theorem Scoped.bfltChange (n : Fin 8) (active : Bool) (tc : Tc) : Scoped.Statement (.bfltChange n active tc) := Nat.le_of_ble_eq_true rfl
theorem Scoped.brkOpenTimer (n : Fin 8) (tc : Tc) : Scoped.Statement (.brkOpenTimer n tc) := Nat.le_of_ble_eq_true rfl
theorem Scoped.brkCloseTimer (n : Fin 8) (tc : Tc) : Scoped.Statement (.brkCloseTimer n tc) := Nat.le_of_ble_eq_true rfl
theorem Scoped.sequencerTick (bus : Option Rails) (tc : Tc) : Scoped.Statement (.sequencerTick bus tc) := Nat.le_of_ble_eq_true rfl
theorem Scoped.close (n : Fin 8) (o : Origin) : Scoped.Statement (.close n o) := Nat.le_of_ble_eq_true rfl
theorem Scoped.match (n : Fin 8) (o : Origin) : Scoped.Statement (.match n o) := Nat.le_of_ble_eq_true rfl
theorem Scoped.open (n : Fin 8) (o : Origin) : Scoped.Statement (.open n o) := Nat.le_of_ble_eq_true rfl
theorem Scoped.reset (n : Fin 8) (o : Origin) : Scoped.Statement (.reset n o) := Nat.le_of_ble_eq_true rfl
theorem Scoped.prechargeTimeout (n : Fin 8) (tc : Tc) : Scoped.Statement (.prechargeTimeout n tc) := Nat.le_of_ble_eq_true rfl
theorem Scoped.prechargeMinReached (n : Fin 8) (tc : Tc) : Scoped.Statement (.prechargeMinReached n tc) := Nat.le_of_ble_eq_true rfl
theorem Scoped.contactorCloseTimer (k : Fin 28) (tc : Tc) : Scoped.Statement (.contactorCloseTimer k tc) := Nat.le_of_ble_eq_true rfl
theorem Scoped.contactorOpenTimer (k : Fin 28) (tc : Tc) : Scoped.Statement (.contactorOpenTimer k tc) := Nat.le_of_ble_eq_true rfl
theorem Scoped.dropTimer (n : Fin 8) (tc : Tc) : Scoped.Statement (.dropTimer n tc) := Nat.le_of_ble_eq_true rfl
theorem Scoped.coilCheckTimer (k : Fin 28) (tc : Tc) : Scoped.Statement (.coilCheckTimer k tc) := Nat.le_of_ble_eq_true rfl
theorem Scoped.pullInTimer (k : Fin 28) (tc : Tc) : Scoped.Statement (.pullInTimer k tc) := Nat.le_of_ble_eq_true rfl
theorem Scoped.driverVerifyChange (k : Fin 28) (ma : BitVec 16) (high : Bool) (tc : Tc) : Scoped.Statement (.driverVerifyChange k ma high tc) := Nat.le_of_ble_eq_true rfl
theorem Scoped.coilSupplyMeasure (v : BitVec 16) : Scoped.Statement (.coilSupplyMeasure v) := Nat.le_of_ble_eq_true rfl
theorem Scoped.auxTrip (o : Origin) (tc : Tc) : Scoped.Statement (.auxTrip o tc) := Nat.le_of_ble_eq_true rfl
theorem Scoped.auxReset (a : Fin 4) (o : Origin) (tc : Tc) : Scoped.Statement (.auxReset a o tc) := Nat.le_of_ble_eq_true rfl
theorem Scoped.auxOff (a : Fin 4) (o : Origin) (tc : Tc) : Scoped.Statement (.auxOff a o tc) := Nat.le_of_ble_eq_true rfl
theorem Scoped.auxOn (a : Fin 4) (o : Origin) (tc : Tc) : Scoped.Statement (.auxOn a o tc) := Nat.le_of_ble_eq_true rfl
theorem Scoped.lockoutRelease (strs : BitVec 8) (o : Origin) : Scoped.Statement (.lockoutRelease strs o) := Nat.le_of_ble_eq_true rfl
theorem Scoped.captureFreeze (n : Fin 8) (samples : List Byte) : Scoped.Statement (.captureFreeze n samples) := Nat.le_of_ble_eq_true rfl
theorem Scoped.captureRearm (n : Fin 8) : Scoped.Statement (.captureRearm n) := Nat.le_of_ble_eq_true rfl
theorem Scoped.imdPhaseEnd (x : ImdMeasure) (tc : Tc) : Scoped.Statement (.imdPhaseEnd x tc) := Nat.le_of_ble_eq_true rfl
theorem Scoped.collapseDetect (tc : Tc) : Scoped.Statement (.collapseDetect tc) := Nat.le_of_ble_eq_true rfl
theorem Scoped.removalLoopOpen (tc : Tc) : Scoped.Statement (.removalLoopOpen tc) := Nat.le_of_ble_eq_true rfl
theorem Scoped.classSEvaluation (tc : Tc) : Scoped.Statement (.classSEvaluation tc) := Nat.le_of_ble_eq_true rfl
theorem Scoped.senseFrame (n : Fin 8) (sync : BitVec 16) (bytes : List Byte) (tc : Tc) : Scoped.Statement (.senseFrame n sync bytes tc) := Nat.le_of_ble_eq_true rfl
theorem Scoped.streamLost (n : Fin 8) (tc : Tc) : Scoped.Statement (.streamLost n tc) := Nat.le_of_ble_eq_true rfl
theorem Scoped.carrierPeriodStart (n : Fin 8) : Scoped.Statement (.carrierPeriodStart n) := Nat.le_of_ble_eq_true rfl
theorem Scoped.trimEnable (n : Fin 8) (o : Origin) : Scoped.Statement (.trimEnable n o) := Nat.le_of_ble_eq_true rfl
theorem Scoped.trimRun (n : Fin 8) (o : Origin) (tc : Tc) : Scoped.Statement (.trimRun n o tc) := Nat.le_of_ble_eq_true rfl
theorem Scoped.trimStop (n : Fin 8) (o : Origin) : Scoped.Statement (.trimStop n o) := Nat.le_of_ble_eq_true rfl
theorem Scoped.trimDisable (n : Fin 8) (o : Origin) : Scoped.Statement (.trimDisable n o) := Nat.le_of_ble_eq_true rfl
theorem Scoped.directCoeffWrite (l : Fin 32) (c : Coeff) (v : Word) (o : Origin) : Scoped.Statement (.directCoeffWrite l c v o) := Nat.le_of_ble_eq_true rfl
theorem Scoped.hostPWrite (v : Word) (tc : Tc) : Scoped.Statement (.hostPWrite v tc) := Nat.le_of_ble_eq_true rfl
theorem Scoped.hostTimeout (tc : Tc) : Scoped.Statement (.hostTimeout tc) := Nat.le_of_ble_eq_true rfl
theorem Scoped.housekeepingRound (m : RecMedia) (tc : Tc) : Scoped.Statement (.housekeepingRound m tc) := Nat.le_of_ble_eq_true rfl
theorem Scoped.junctionReading (t1 : BitVec 16) (t2 : BitVec 16) (tc : Tc) : Scoped.Statement (.junctionReading t1 t2 tc) := Nat.le_of_ble_eq_true rfl
theorem Scoped.thermalStopEnd (tc : Tc) : Scoped.Statement (.thermalStopEnd tc) := Nat.le_of_ble_eq_true rfl
theorem Scoped.sdAck (key : Word) : Scoped.Statement (.sdAck key) := Nat.le_of_ble_eq_true rfl
theorem Scoped.causeWordCleared (tc : Tc) : Scoped.Statement (.causeWordCleared tc) := Nat.le_of_ble_eq_true rfl
theorem Scoped.siFilterChange (n : Fin 6) (chB : Bool) (demand : Bool) (tc : Tc) : Scoped.Statement (.siFilterChange n chB demand tc) := Nat.le_of_ble_eq_true rfl
theorem Scoped.darkPulse (sp2 : Bool) (high : BitVec 6) (tc : Tc) : Scoped.Statement (.darkPulse sp2 high tc) := Nat.le_of_ble_eq_true rfl
theorem Scoped.discrepancyTick (tc : Tc) : Scoped.Statement (.discrepancyTick tc) := Nat.le_of_ble_eq_true rfl
theorem Scoped.discFault (n : Fin 6) (tc : Tc) : Scoped.Statement (.discFault n tc) := Nat.le_of_ble_eq_true rfl
theorem Scoped.safReset (fns : BitVec 16) (o : Origin) (tc : Tc) : Scoped.Statement (.safReset fns o tc) := Nat.le_of_ble_eq_true rfl
theorem Scoped.testPulseStart (tc : Tc) : Scoped.Statement (.testPulseStart tc) := Nat.le_of_ble_eq_true rfl
theorem Scoped.testPulseEnd (readback : Bool) (ma : BitVec 16) (tc : Tc) : Scoped.Statement (.testPulseEnd readback ma tc) := Nat.le_of_ble_eq_true rfl
theorem Scoped.testOverdue (k : Fin 28) (low : Bool) (tc : Tc) : Scoped.Statement (.testOverdue k low tc) := Nat.le_of_ble_eq_true rfl
theorem Scoped.safeDataCopy (c : Fin 4) (eth : Bool) (bytes : List Byte) (tc : Tc) : Scoped.Statement (.safeDataCopy c eth bytes tc) := Nat.le_of_ble_eq_true rfl
theorem Scoped.sdWindowClose (c : Fin 4) (tc : Tc) : Scoped.Statement (.sdWindowClose c tc) := Nat.le_of_ble_eq_true rfl
theorem Scoped.sdTimeout (c : Fin 4) (tc : Tc) : Scoped.Statement (.sdTimeout c tc) := Nat.le_of_ble_eq_true rfl
theorem Scoped.sdReset (conns : BitVec 4) : Scoped.Statement (.sdReset conns) := Nat.le_of_ble_eq_true rfl
theorem Scoped.sdWordWrite (c : Fin 4) (v : Word) (o : Origin) (tc : Tc) : Scoped.Statement (.sdWordWrite c v o tc) := Nat.le_of_ble_eq_true rfl
theorem Scoped.sdRenewalTimeout (c : Fin 4) (tc : Tc) : Scoped.Statement (.sdRenewalTimeout c tc) := Nat.le_of_ble_eq_true rfl
theorem Scoped.sdRewriteTimer (tc : Tc) : Scoped.Statement (.sdRewriteTimer tc) := Nat.le_of_ble_eq_true rfl
theorem Scoped.sdTxSend : Scoped.Statement .sdTxSend := Nat.le_of_ble_eq_true rfl
theorem Scoped.laneBootDone (l : Lane) (x : BootCheck) (tc : Tc) : Scoped.Statement (.laneBootDone l x tc) := Nat.le_of_ble_eq_true rfl
theorem Scoped.bootTimeout (l : Lane) (tc : Tc) : Scoped.Statement (.bootTimeout l tc) := Nat.le_of_ble_eq_true rfl
theorem Scoped.standbyLoadDone (l : Lane) (ids : LaneIds) (check : Word × Word) (tc : Tc) : Scoped.Statement (.standbyLoadDone l ids check tc) := Nat.le_of_ble_eq_true rfl
theorem Scoped.standbyCheckStart (tc : Tc) : Scoped.Statement (.standbyCheckStart tc) := Nat.le_of_ble_eq_true rfl
theorem Scoped.standbyCheckDone (x : LaneCheck) (tc : Tc) : Scoped.Statement (.standbyCheckDone x tc) := Nat.le_of_ble_eq_true rfl
theorem Scoped.checkTimeout (tc : Tc) : Scoped.Statement (.checkTimeout tc) := Nat.le_of_ble_eq_true rfl
theorem Scoped.laneFault (x : FaultSignal) (also : Option FaultSignal) (tc : Tc) : Scoped.Statement (.laneFault x also tc) := Nat.le_of_ble_eq_true rfl
theorem Scoped.lidReadbackFault (x : LidReadAt) : Scoped.Statement (.lidReadbackFault x) := Nat.le_of_ble_eq_true rfl
theorem Scoped.newHalfReady (tc : Tc) : Scoped.Statement (.newHalfReady tc) := Nat.le_of_ble_eq_true rfl
theorem Scoped.rebuildComplete (tc : Tc) : Scoped.Statement (.rebuildComplete tc) := Nat.le_of_ble_eq_true rfl
theorem Scoped.restoreTimeout (tc : Tc) : Scoped.Statement (.restoreTimeout tc) := Nat.le_of_ble_eq_true rfl
theorem Scoped.requalDone (x : LaneCheck) (tc : Tc) : Scoped.Statement (.requalDone x tc) := Nat.le_of_ble_eq_true rfl
theorem Scoped.requalTimeout (tc : Tc) : Scoped.Statement (.requalTimeout tc) := Nat.le_of_ble_eq_true rfl
theorem Scoped.heartbeatWrite (x : Heartbeat) : Scoped.Statement (.heartbeatWrite x) := Nat.le_of_ble_eq_true rfl
theorem Scoped.plannedSwitch (tc : Tc) : Scoped.Statement (.plannedSwitch tc) := Nat.le_of_ble_eq_true rfl
theorem Scoped.yield (x : OriginAt) : Scoped.Statement (.yield x) := Nat.le_of_ble_eq_true rfl
theorem Scoped.mgmtFrameComplete (tc : Tc) : Scoped.Statement (.mgmtFrameComplete tc) := Nat.le_of_ble_eq_true rfl
theorem Scoped.stockpotCommit (tc : Tc) : Scoped.Statement (.stockpotCommit tc) := Nat.le_of_ble_eq_true rfl
theorem Scoped.autoRestart (sec : Nat) (tc : Tc) : Scoped.Statement (.autoRestart sec tc) := Nat.le_of_ble_eq_true rfl
theorem Scoped.wakeInAssert (t : WakeAt) (low : Bool) (tc : Tc) : Scoped.Statement (.wakeInAssert t low tc) := Nat.le_of_ble_eq_true rfl
theorem Scoped.programCycle (x : CycleWork) (tc : Tc) : Scoped.Statement (.programCycle x tc) := Nat.le_of_ble_eq_true rfl
theorem Scoped.programWatchdog (tc : Tc) : Scoped.Statement (.programWatchdog tc) := Nat.le_of_ble_eq_true rfl
theorem Scoped.seqRestart : Scoped.Statement .seqRestart := Nat.le_of_ble_eq_true rfl
theorem Scoped.seqTrig (bits : BitVec 8) : Scoped.Statement (.seqTrig bits) := Nat.le_of_ble_eq_true rfl
theorem Scoped.rioInFrame (n : Fin 16) (bytes : List Byte) (tc : Tc) : Scoped.Statement (.rioInFrame n bytes tc) := Nat.le_of_ble_eq_true rfl
theorem Scoped.rioResponseMissed (n : Fin 16) (tc : Tc) : Scoped.Statement (.rioResponseMissed n tc) := Nat.le_of_ble_eq_true rfl
theorem Scoped.forceSet : Scoped.Statement .forceSet := Nat.le_of_ble_eq_true rfl
theorem Scoped.forceRelease : Scoped.Statement .forceRelease := Nat.le_of_ble_eq_true rfl
theorem Scoped.forceReleaseAll : Scoped.Statement .forceReleaseAll := Nat.le_of_ble_eq_true rfl
theorem Scoped.olcApply (x : OlcCheck) : Scoped.Statement (.olcApply x) := Nat.le_of_ble_eq_true rfl
theorem Scoped.canFrameReceive (c : Fin 2) (f : CanRx) (delay : Option (BitVec 7)) (tc : Tc) : Scoped.Statement (.canFrameReceive c f delay tc) := Nat.le_of_ble_eq_true rfl
theorem Scoped.rxHdrRead (c : Fin 2) (k : Fin 64) : Scoped.Statement (.rxHdrRead c k) := Nat.le_of_ble_eq_true rfl
theorem Scoped.canTxDone (c : Fin 2) (delay : Option (BitVec 7)) (tc : Tc) : Scoped.Statement (.canTxDone c delay tc) := Nat.le_of_ble_eq_true rfl
theorem Scoped.canArbitrationLost (c : Fin 2) : Scoped.Statement (.canArbitrationLost c) := Nat.le_of_ble_eq_true rfl
theorem Scoped.canTxError (c : Fin 2) (e : CanError) (excepted : Bool) (more : Nat) : Scoped.Statement (.canTxError c e excepted more) := Nat.le_of_ble_eq_true rfl
theorem Scoped.txCancel (c : Fin 2) (bufs : BitVec 3) (won : Bool) : Scoped.Statement (.txCancel c bufs won) := Nat.le_of_ble_eq_true rfl
theorem Scoped.canRecover (c : Fin 2) : Scoped.Statement (.canRecover c) := Nat.le_of_ble_eq_true rfl
theorem Scoped.busOffRecoveryDone (c : Fin 2) : Scoped.Statement (.busOffRecoveryDone c) := Nat.le_of_ble_eq_true rfl
theorem Scoped.canReferenceDue (c : Fin 2) : Scoped.Statement (.canReferenceDue c) := Nat.le_of_ble_eq_true rfl
theorem Scoped.canWake (c : Fin 2) (e : CanWakeEvent) (t : WakeAt) (tc : Tc) : Scoped.Statement (.canWake c e t tc) := Nat.le_of_ble_eq_true rfl
theorem Scoped.ethFrameReceive (p : Fin 3) (f : EthFrame) (tc : Tc) : Scoped.Statement (.ethFrameReceive p f tc) := Nat.le_of_ble_eq_true rfl
theorem Scoped.pdelayReqTimer (p : Fin 2) (stamp : Nat) : Scoped.Statement (.pdelayReqTimer p stamp) := Nat.le_of_ble_eq_true rfl
theorem Scoped.pdelayReqReceive (p : Fin 2) (seq : BitVec 16) (ingress : Nat) (egress : Nat) : Scoped.Statement (.pdelayReqReceive p seq ingress egress) := Nat.le_of_ble_eq_true rfl
theorem Scoped.addressAgeOut (mac : BitVec 48) (tc : Tc) : Scoped.Statement (.addressAgeOut mac tc) := Nat.le_of_ble_eq_true rfl
theorem Scoped.ptpSyncReceive (m : PtpSync) (tc : Tc) : Scoped.Statement (.ptpSyncReceive m tc) := Nat.le_of_ble_eq_true rfl
theorem Scoped.syncTimeout (change : Bool) (tc : Tc) : Scoped.Statement (.syncTimeout change tc) := Nat.le_of_ble_eq_true rfl
theorem Scoped.holdoverTimeout (tc : Tc) : Scoped.Statement (.holdoverTimeout tc) := Nat.le_of_ble_eq_true rfl
theorem Scoped.timIncWrite (v : Word) (w : Writer) (tc : Tc) : Scoped.Statement (.timIncWrite v w tc) := Nat.le_of_ble_eq_true rfl
theorem Scoped.timStep (v : Word) (w : Writer) (tc : Tc) : Scoped.Statement (.timStep v w tc) := Nat.le_of_ble_eq_true rfl
theorem Scoped.timSet (w : Writer) (tc : Tc) : Scoped.Statement (.timSet w tc) := Nat.le_of_ble_eq_true rfl
theorem Scoped.timConvert (v : Word) : Scoped.Statement (.timConvert v) := Nat.le_of_ble_eq_true rfl
theorem Scoped.tpoArm (n : Fin 4) (tc : Tc) : Scoped.Statement (.tpoArm n tc) := Nat.le_of_ble_eq_true rfl
theorem Scoped.tpoDisarm (n : Fin 4) : Scoped.Statement (.tpoDisarm n) := Nat.le_of_ble_eq_true rfl
theorem Scoped.tpoEdge (n : Fin 4) (tc : Tc) : Scoped.Statement (.tpoEdge n tc) := Nat.le_of_ble_eq_true rfl
theorem Scoped.tpoPulseEnd (n : Fin 4) (tc : Tc) : Scoped.Statement (.tpoPulseEnd n tc) := Nat.le_of_ble_eq_true rfl
theorem Scoped.tc10SleepRequest (p : Fin 2) : Scoped.Statement (.tc10SleepRequest p) := Nat.le_of_ble_eq_true rfl
theorem Scoped.ethWake (p : Fin 2) (t : WakeAt) (tc : Tc) : Scoped.Statement (.ethWake p t tc) := Nat.le_of_ble_eq_true rfl
theorem Scoped.ethLinkChange (p : Fin 2) (up : Bool) : Scoped.Statement (.ethLinkChange p up) := Nat.le_of_ble_eq_true rfl
theorem Scoped.currentRoundHold (codes : List (BitVec 16)) (tc : Tc) : Scoped.Statement (.currentRoundHold codes tc) := Nat.le_of_ble_eq_true rfl
theorem Scoped.roundConversionDone (tc : Tc) : Scoped.Statement (.roundConversionDone tc) := Nat.le_of_ble_eq_true rfl
theorem Scoped.mainsSlot : Scoped.Statement .mainsSlot := Nat.le_of_ble_eq_true rfl
theorem Scoped.conversionBDone (c : AfeResult) : Scoped.Statement (.conversionBDone c) := Nat.le_of_ble_eq_true rfl
theorem Scoped.afeHousekeeping : Scoped.Statement .afeHousekeeping := Nat.le_of_ble_eq_true rfl
theorem Scoped.afeSwTrig (v : Word) : Scoped.Statement (.afeSwTrig v) := Nat.le_of_ble_eq_true rfl
theorem Scoped.hoursIncrement (tc : Tc) : Scoped.Statement (.hoursIncrement tc) := Nat.le_of_ble_eq_true rfl
theorem Scoped.foldDue (m : RecMedia) : Scoped.Statement (.foldDue m) := Nat.le_of_ble_eq_true rfl
theorem Scoped.recordLoad (v : Word) : Scoped.Statement (.recordLoad v) := Nat.le_of_ble_eq_true rfl
theorem Scoped.recordLoadDone (error : Bool) : Scoped.Statement (.recordLoadDone error) := Nat.le_of_ble_eq_true rfl
theorem Scoped.holdStart (key : Word) (tc : Tc) : Scoped.Statement (.holdStart key tc) := Nat.le_of_ble_eq_true rfl
theorem Scoped.holdRelease (key : Word) : Scoped.Statement (.holdRelease key) := Nat.le_of_ble_eq_true rfl
theorem Scoped.holdTimeout (tc : Tc) : Scoped.Statement (.holdTimeout tc) := Nat.le_of_ble_eq_true rfl
theorem Scoped.recordClear (key : Word) (signed : Bool) (m : RecMedia) : Scoped.Statement (.recordClear key signed m) := Nat.le_of_ble_eq_true rfl
theorem Scoped.supplyStart (x : SupplyFound) (wakeIn : Bool) (tc : Tc) : Scoped.Statement (.supplyStart x wakeIn tc) := Nat.le_of_ble_eq_true rfl
theorem Scoped.supplyLow (vin : BitVec 16) : Scoped.Statement (.supplyLow vin) := Nat.le_of_ble_eq_true rfl
theorem Scoped.powerFailDetect (vin : BitVec 16) (tc : Tc) : Scoped.Statement (.powerFailDetect vin tc) := Nat.le_of_ble_eq_true rfl
theorem Scoped.powerFailShutdown (good : Bool) (tc : Tc) : Scoped.Statement (.powerFailShutdown good tc) := Nat.le_of_ble_eq_true rfl
theorem Scoped.standbyRequest (key : BitVec 16) : Scoped.Statement (.standbyRequest key) := Nat.le_of_ble_eq_true rfl
theorem Scoped.deepStandbyRequest (key : BitVec 16) : Scoped.Statement (.deepStandbyRequest key) := Nat.le_of_ble_eq_true rfl
theorem Scoped.offRequest (key : BitVec 16) : Scoped.Statement (.offRequest key) := Nat.le_of_ble_eq_true rfl
theorem Scoped.entryComplete (wakeIn : Bool) (tc : Tc) : Scoped.Statement (.entryComplete wakeIn tc) := Nat.le_of_ble_eq_true rfl
theorem Scoped.wakeTimerExpiry (t : WakeAt) (tc : Tc) : Scoped.Statement (.wakeTimerExpiry t tc) := Nat.le_of_ble_eq_true rfl
theorem Scoped.scrubComplete (lost : BitVec 12) (corrected : Nat) (tc : Tc) : Scoped.Statement (.scrubComplete lost corrected tc) := Nat.le_of_ble_eq_true rfl
theorem Scoped.sessionOpen (src : BitVec 48) (key : Word) (signed : Bool) (tc : Tc) : Scoped.Statement (.sessionOpen src key signed tc) := Nat.le_of_ble_eq_true rfl
theorem Scoped.sessionClose (key : Word) : Scoped.Statement (.sessionClose key) := Nat.le_of_ble_eq_true rfl
theorem Scoped.sessionTimeout (tc : Tc) : Scoped.Statement (.sessionTimeout tc) := Nat.le_of_ble_eq_true rfl
theorem Scoped.xferStart (v : Word) (tc : Tc) : Scoped.Statement (.xferStart v tc) := Nat.le_of_ble_eq_true rfl
theorem Scoped.xferAbort (v : Word) : Scoped.Statement (.xferAbort v) := Nat.le_of_ble_eq_true rfl
theorem Scoped.xferDatagram (src : BitVec 48) (bytes : List Byte) (tc : Tc) : Scoped.Statement (.xferDatagram src bytes tc) := Nat.le_of_ble_eq_true rfl
theorem Scoped.xferVerifyDone (x : XferVerdict) : Scoped.Statement (.xferVerifyDone x) := Nat.le_of_ble_eq_true rfl
theorem Scoped.xferTimeout (tc : Tc) : Scoped.Statement (.xferTimeout tc) := Nat.le_of_ble_eq_true rfl
theorem Scoped.fwActivate (v : Word) : Scoped.Statement (.fwActivate v) := Nat.le_of_ble_eq_true rfl
theorem Scoped.fwConfirm (v : Word) : Scoped.Statement (.fwConfirm v) := Nat.le_of_ble_eq_true rfl
theorem Scoped.tamperOpen (erased : Bool) (tc : Tc) : Scoped.Statement (.tamperOpen erased tc) := Nat.le_of_ble_eq_true rfl
theorem Scoped.canRxError (c : Fin 2) (e : CanError) (more : Nat) : Scoped.Statement (.canRxError c e more) := Nat.le_of_ble_eq_true rfl
theorem Scoped.encoderCount (e : EncoderEdge) : Scoped.Statement (.encoderCount e) := Nat.le_of_ble_eq_true rfl
theorem Scoped.filteredPathInactive (n : Fin 8) (path : FilteredPath) (tc : Tc) : Scoped.Statement (.filteredPathInactive n path tc) := Nat.le_of_ble_eq_true rfl
theorem Scoped.coilFault (k : Fin 28) (ma : BitVec 16) (limit : Bool) (tc : Tc) : Scoped.Statement (.coilFault k ma limit tc) := Nat.le_of_ble_eq_true rfl
theorem Scoped.collapseClear (tc : Tc) : Scoped.Statement (.collapseClear tc) := Nat.le_of_ble_eq_true rfl

end Sys2Proof.Laws
end

