-- ==== Sys2Proof/WellFormed.lean ====
section
/-! DEFINITION. WellFormed.lean: operands that can reach the module. The widths of most operands stand in their types; what is left is checked here, each check by a name of its own. -/
namespace Sys2Proof

/-- A request PDU fits the frame of its path (R67, R68): 64 bytes on CAN FD, a UDP datagram otherwise. -/
def pduFits (p : Path) (l : List Byte) : Bool :=
  match p with
  | .can0 => decide (l.length ≤ 64)
  | _ => decide (l.length ≤ 1472)

/-- A port link frame: four bytes, a payload of at most 255, two bytes of CRC (R132). -/
def dertFits (l : List Byte) : Bool := decide (l.length ≤ 261)

/-- The capture buffer holds 128 samples (R262). -/
def fullCapture (l : List Byte) : Bool := l.length == 128

/-- A sense frame has eight bytes after its synchronisation (R273). -/
def senseFits (l : List Byte) : Bool := l.length == 8

/-- A safe-data message has sixteen bytes (R331). -/
def safeFits (l : List Byte) : Bool := l.length == 16

/-- A CAN FD frame carries at most 64 data bytes (R382). -/
def canFits (f : CanRx) : Bool := decide (f.data.length ≤ 64)

/-- A frame of the switch begins with two addresses and a type (R402). -/
def ethFits (f : EthFrame) : Bool := decide (14 ≤ f.bytes.length)

/-- An IN frame of a station is a CAN FD frame (R370). -/
def rioFits (l : List Byte) : Bool := decide (l.length ≤ 64)

/-- A round of the current converter has eight codes (R420). -/
def eightCodes (l : List (BitVec 16)) : Bool := l.length == 8

/-- A fault signal has one of the classes 1 to 13 (R346). -/
def faultClass (c : Fin 16) : Bool := decide (1 ≤ c.val) && decide (c.val ≤ 13)

/-- A transfer datagram has its header of eight bytes and at most 1,024 bytes of data (R477). -/
def xferFits (l : List Byte) : Bool := decide (8 ≤ l.length) && decide (l.length ≤ 1032)

/-- Addresses of objects are multiples of 4 (R15). -/
def aligned4 (l : List (Nat × Word)) : Bool := l.all fun e => e.1 % 4 == 0

/-- A command whose operands can reach the module. -/
def Instr.wf : Instr → Bool
  | .commitPoint _ _ _ => true
  | .snapshotPublication _ => true
  | .dispatchComplete _ => true
  | .sweepDeadline _ => true
  | .objRequestArrival path _ pdu _ => pduFits path pdu
  | .readRange _ => true
  | .readList _ => true
  | .writeList _ _ => true
  | .epochQuery _ => true
  | .registerWrite _ _ _ _ _ => true
  | .rwsWrite _ _ _ => true
  | .pairLoRead _ _ => true
  | .cfgSelectWrite _ => true
  | .cfgRestart _ _ => true
  | .cfgConfirm _ _ => true
  | .cfgConfirmInv _ _ => true
  | .confirmWindowExpiry _ => true
  | .confirmationRecordWritten => true
  | .lsSubmit => true
  | .lsDiscard => true
  | .lsChecksDone => true
  | .referenceEvent _ => true
  | .referenceMissing _ => true
  | .phaseWrap _ => true
  | .testWindow _ _ => true
  | .balPause _ _ => true
  | .apertureNotice _ _ => true
  | .apertureBroadcast _ => true
  | .adcTrigger _ _ => true
  | .ctlSample _ _ => true
  | .trimUpdate _ _ => true
  | .mark _ _ => true
  | .angleMessageSend _ => true
  | .angleMessageReceive _ _ => true
  | .portEnable _ => true
  | .portDisable _ => true
  | .reenum _ => true
  | .enumerationEnd _ => true
  | .transactionIssue _ _ _ => true
  | .responseReceive _ bytes _ _ _ => dertFits bytes
  | .noTarget _ _ => true
  | .transactionTimeout _ _ _ => true
  | .lossOfSignal _ _ => true
  | .validSignalHeld _ => true
  | .noSignalTimeout _ => true
  | .pollDecision _ _ _ _ => true
  | .periodicPoll _ => true
  | .dRemeasure _ _ _ _ => true
  | .derturWakeEvent _ _ _ _ => true
  | .burstReadComplete _ => true
  | .burstReadTimeout _ => true
  | .cellPass _ _ => true
  | .burstEvaluation _ => true
  | .cellRestore _ => true
  | .relearnCell _ => true
  | .relearnMonitor _ => true
  | .relearnString _ => true
  | .wbWrite _ => true
  | .writeBackTimer _ => true
  | .writeBackComplete _ _ => true
  | .scOcCrossing _ _ _ => true
  | .directLatchClear _ _ _ => true
  | .filteredPathExpiry _ _ _ => true
  | .islandFault _ => true
  | .islandFaultCoilTimeout _ => true
  | .breakerStatusChange _ _ _ => true
  | .bfltChange _ _ _ => true
  | .brkOpenTimer _ _ => true
  | .brkCloseTimer _ _ => true
  | .sequencerTick _ _ => true
  | .close _ _ => true
  | .match _ _ => true
  | .open _ _ => true
  | .reset _ _ => true
  | .prechargeTimeout _ _ => true
  | .prechargeMinReached _ _ => true
  | .contactorCloseTimer _ _ => true
  | .contactorOpenTimer _ _ => true
  | .dropTimer _ _ => true
  | .coilCheckTimer _ _ => true
  | .pullInTimer _ _ => true
  | .driverVerifyChange _ _ _ _ => true
  | .coilSupplyMeasure _ => true
  | .auxTrip _ _ => true
  | .auxReset _ _ _ => true
  | .auxOff _ _ _ => true
  | .auxOn _ _ _ => true
  | .lockoutRelease _ _ => true
  | .captureFreeze _ samples => fullCapture samples
  | .captureRearm _ => true
  | .imdPhaseEnd _ _ => true
  | .collapseDetect _ => true
  | .removalLoopOpen _ => true
  | .classSEvaluation _ => true
  | .senseFrame _ _ bytes _ => senseFits bytes
  | .streamLost _ _ => true
  | .carrierPeriodStart _ => true
  | .trimEnable _ _ => true
  | .trimRun _ _ _ => true
  | .trimStop _ _ => true
  | .trimDisable _ _ => true
  | .directCoeffWrite _ _ _ _ => true
  | .hostPWrite _ _ => true
  | .hostTimeout _ => true
  | .housekeepingRound _ _ => true
  | .junctionReading _ _ _ => true
  | .thermalStopEnd _ => true
  | .sdAck _ => true
  | .causeWordCleared _ => true
  | .siFilterChange _ _ _ _ => true
  | .darkPulse _ _ _ => true
  | .discrepancyTick _ => true
  | .discFault _ _ => true
  | .safReset _ _ _ => true
  | .testPulseStart _ => true
  | .testPulseEnd _ _ _ => true
  | .testOverdue _ _ _ => true
  | .safeDataCopy _ _ bytes _ => safeFits bytes
  | .sdWindowClose _ _ => true
  | .sdTimeout _ _ => true
  | .sdReset _ => true
  | .sdWordWrite _ _ _ _ => true
  | .sdRenewalTimeout _ _ => true
  | .sdRewriteTimer _ => true
  | .sdTxSend => true
  | .laneBootDone _ _ _ => true
  | .bootTimeout _ _ => true
  | .standbyLoadDone _ _ _ _ => true
  | .standbyCheckStart _ => true
  | .standbyCheckDone _ _ => true
  | .checkTimeout _ => true
  | .laneFault x also _ => faultClass x.cls && also.all fun y => faultClass y.cls
  | .lidReadbackFault _ => true
  | .newHalfReady _ => true
  | .rebuildComplete _ => true
  | .restoreTimeout _ => true
  | .requalDone _ _ => true
  | .requalTimeout _ => true
  | .heartbeatWrite _ => true
  | .plannedSwitch _ => true
  | .yield _ => true
  | .mgmtFrameComplete _ => true
  | .stockpotCommit _ => true
  | .autoRestart _ _ => true
  | .wakeInAssert _ _ _ => true
  | .programCycle _ _ => true
  | .programWatchdog _ => true
  | .seqRestart => true
  | .seqTrig _ => true
  | .rioInFrame _ bytes _ => rioFits bytes
  | .rioResponseMissed _ _ => true
  | .forceSet => true
  | .forceRelease => true
  | .forceReleaseAll => true
  | .olcApply _ => true
  | .canFrameReceive _ f _ _ => canFits f
  | .rxHdrRead _ _ => true
  | .canTxDone _ _ _ => true
  | .canArbitrationLost _ => true
  | .canTxError _ _ _ _ => true
  | .txCancel _ _ _ => true
  | .canRecover _ => true
  | .busOffRecoveryDone _ => true
  | .canReferenceDue _ => true
  | .canWake _ _ _ _ => true
  | .ethFrameReceive _ f _ => ethFits f
  | .pdelayReqTimer _ _ => true
  | .pdelayReqReceive _ _ _ _ => true
  | .addressAgeOut _ _ => true
  | .ptpSyncReceive _ _ => true
  | .syncTimeout _ _ => true
  | .holdoverTimeout _ => true
  | .timIncWrite _ _ _ => true
  | .timStep _ _ _ => true
  | .timSet _ _ => true
  | .timConvert _ => true
  | .tpoArm _ _ => true
  | .tpoDisarm _ => true
  | .tpoEdge _ _ => true
  | .tpoPulseEnd _ _ => true
  | .tc10SleepRequest _ => true
  | .ethWake _ _ _ => true
  | .ethLinkChange _ _ => true
  | .currentRoundHold codes _ => eightCodes codes
  | .roundConversionDone _ => true
  | .mainsSlot => true
  | .conversionBDone _ => true
  | .afeHousekeeping => true
  | .afeSwTrig _ => true
  | .hoursIncrement _ => true
  | .foldDue _ => true
  | .recordLoad _ => true
  | .recordLoadDone _ => true
  | .holdStart _ _ => true
  | .holdRelease _ => true
  | .holdTimeout _ => true
  | .recordClear _ _ _ => true
  | .supplyStart x _ _ => aligned4 x.given
  | .supplyLow _ => true
  | .powerFailDetect _ _ => true
  | .powerFailShutdown _ _ => true
  | .standbyRequest _ => true
  | .deepStandbyRequest _ => true
  | .offRequest _ => true
  | .entryComplete _ _ => true
  | .wakeTimerExpiry _ _ => true
  | .scrubComplete _ _ _ => true
  | .sessionOpen _ _ _ _ => true
  | .sessionClose _ => true
  | .sessionTimeout _ => true
  | .xferStart _ _ => true
  | .xferAbort _ => true
  | .xferDatagram _ bytes _ => xferFits bytes
  | .xferVerifyDone _ => true
  | .xferTimeout _ => true
  | .fwActivate _ => true
  | .fwConfirm _ => true
  | .tamperOpen _ _ => true
  | .canRxError _ _ _ => true
  | .encoderCount _ => true
  | .filteredPathInactive _ _ _ => true
  | .coilFault _ _ _ _ => true
  | .collapseClear _ => true

end Sys2Proof
end

