-- ==== Sys2Proof/Tests/Slice0.lean ====
section
/-! SUPPORT. Slice0.lean: the model's own tests: ill-formed commands that the checks refuse, single steps on small states, and for every statement a state and operands that meet its hypotheses, clause by clause. -/
set_option linter.unusedVariables false
set_option Elab.async false

namespace Sys2Proof.Machine

/-- A section of the image in effect. -/
def State.withSec (s : State) (t : Nat) (l : List Byte) : State := { s with cfg := { s.cfg with sections := (t, l) :: s.cfg.sections } }

end Sys2Proof.Machine

namespace Sys2Proof.Tests

open Sys2Proof Sys2Proof.Machine

/-! Small states. -/

/-- Right after reset, with fields given values. -/
def base (l : List (Field × Nat)) : State := l.foldl (fun s e => s.put e.1 e.2) State.reset

/-- Every block and port awake, lane A active under epoch 1 with its firmware running, lane B in STANDBY, the services running, the phase base one step into cycle 0; then fields given values. -/
def live (l : List (Field × Nat)) : State :=
  let s := (((State.reset.wr 0x10 0).wr 0x14 0).wr 0x10008 1).wr 0xd0000 0x240000
  let s : State := { s with
    lan := { Lan.reset with pins := lidPins (some .a), back := lidPins (some .a), fw := true }
    phb := { Phb.reset with incBefore := 1 }
    obj := { Obj.reset with running := true }
    pwr := { Pwr.reset with state := .running } }
  l.foldl (fun s e => s.put e.1 e.2) s

def own : Origin := ⟨.a, 1⟩
def stale : Origin := ⟨.a, 0⟩
def ones (n : Nat) : List Byte := List.replicate n 0xFF

/-- Every string, monitor and cell declared. -/
def wired (l : List (Field × Nat)) : State := (live l).withSec 2 (ones 1200)

/-- Every string of the island as given. -/
def strings (x : IslandString) (l : List (Field × Nat)) : State := { wired l with prt := { Prt.reset with strs := List.replicate 8 x } }

/-- The open staging holds n objects. -/
def filled (n : Nat) : State := { live [] with cfg := { Cfg.reset with staging := (List.range n).map fun i => (i, 0) } }

/-- A request is at the front of its queue. -/
def asks (r : Request) : State := { live [] with obj := { Obj.reset with running := true, queue := [r] }, upd := { Upd.reset with session := some ⟨0, 0, 0⟩ } }

def aid : WriteAid := ⟨false, ⟨0, 0, true, false⟩, false, ⟨false, 0⟩, []⟩

/-- A PING of monitor 0 from end A with tag 3. -/
def txn : Txn := ⟨.ping 0 false, 0, 7, [], 2, 3, 0, 0, false, 0, 0, 0, false, false⟩

/-- A transaction is outstanding on every port, and it is the third of a run. -/
def carries (x : Txn) (l : List (Field × Nat)) : State := { live l with ports := List.replicate 8 { Port.reset with outstanding := [x], consecutive := if l.length = 2 ∧ l.head?.map (·.2) = some portRing then 2 else 0 } }

/-- Every port transmits idle, otherwise as given. -/
def linked (x : Port) (l : List (Field × Nat)) : State := { live l with ports := List.replicate 8 { x with idle := true } }

def sweep : Sweep := ⟨1, 0, 0, true, List.replicate 8 0, List.replicate 8 0, [], true⟩
def sweeps (s : State) : State := { s with swp := { Swp.reset with sweep := some sweep } }

/-- A safe-data message with sequence 1 and data 0, right for the identifier 0xFFFFFFFF. -/
def safeBody : List Byte := [1, 0, 1, 0, 0, 0, 0, 0, 0xFF, 0xFF, 0xFF, 0xFF]
def safeMessage : List Byte := safeBody ++ bytesLe 4 (crc32c (bytesLe 4 0xFFFFFFFF ++ safeBody)).toNat
def connected (x : SdConn) (l : List (Field × Nat)) : State := { live l with saf := { Saf.reset with conns := List.replicate 4 x } }

def held : CanBuf := { CanBuf.reset with frame := some ⟨0, [], 0⟩ }
def frame : CanRx := ⟨0, false, false, false, false, false, 0, []⟩
def channels (x : CanChan) (l : List (Field × Nat)) : State := { live l with can := List.replicate 2 x }

/-- A record of 68 bytes with number 1. -/
def record : List Byte := recClose ([0x50, 0x48, 0x55, 0x52, 0, 0, 0, 0, 1, 0, 0, 0] ++ List.replicate 16 0 ++ [68, 0, 0, 0] ++ List.replicate 32 0)

def xfer : Xfer := ⟨1, 3, 1, [], none, 0⟩
def session (x : Option Xfer) (l : List (Field × Nat)) : State := { live l with upd := { Upd.reset with session := some ⟨0, 0, 0⟩, xfer := x } }

def station : SeqStation := ⟨15, 0, 0, 0, 1, 0, []⟩
def stations (x : Station) : State := { live [] with seq := { Seq.reset with prog := some { (default : SeqProgram) with stations := [station] }, stations := List.replicate 16 x } }

/-- A sleeping module, or one in another power state. -/
def asleep (p : PowerState) (l : List (Field × Nat)) : State := { live l with pwr := { Pwr.reset with state := p } }

/-- A register image of epoch 1, and a memory that holds it as the first copy. -/
def imageBody : List Byte := [0, 0, 0, 0, 1, 0, 0, 0] ++ List.replicate 2036 0
def imaged (l : List (Field × Nat)) : State := { live l with pot := { Pot.reset with mem := storeBytes [] 0x1000 (withCrc imageBody) } }

/-- Entry 63 fires a COMMIT. -/
def commits (l : List (Field × Nat)) : State := live ([(F.PHB_STAT_SCHED_RUN, 1), (F.PHB_SCHED_A_ACTION 63, 1)] ++ l)

/-- Values that pass the check: the phase base on its internal source at 1 kHz, a COMMIT, an APERTURE and a BAL_PAUSE in each cycle, the control engine dormant. -/
def configured : State :=
  ([(0x10, 0x200), (0x30040, 0), (0x30048, 1000000), (0x3004c, 1000000), (0x30050, 1000000), (0x30400, 0x18000), (0x30410, 0x40000), (0x30420, 0x3E000),
    (0x5000c, 200), (0x50014, 0xA007D), (0xa0004, 0xA0000), (0xa0008, 0x10000), (0xb0024, 0x100), (0xb0028, 0x100)] : List (Nat × Word)).foldl
    (fun s e => s.wr e.1 e.2) (live [(F.CFG_LS_STAT_STATE, lsChecking)])

def mgmtFrame : Frame := (live []).capture 0


theorem filled_length (n : Nat) : (filled n).cfg.staging.length = n := by simp [filled]

theorem filled_form (n : Nat) (h : n ≤ 1024) : (filled n).StagingForm := by
  refine ⟨?_, Nat.le_trans (Nat.le_of_eq (filled_length n)) h⟩
  exact List.pairwise_map.mpr List.pairwise_lt_range

theorem filled_lacks (n : Nat) (h : n ≤ 0xd0004) (x : Word) : (0xd0004, x) ∉ (filled n).cfg.staging := by
  intro k
  obtain ⟨i, hi, he⟩ := List.mem_map.mp k
  have h1 := List.mem_range.mp hi
  have h2 : i = 0xd0004 := congrArg Prod.fst he
  omega


theorem storeBytes_below (l : List Byte) (c : Cells 8) (a k : Nat) (h : k < a) : Cells.get (storeBytes c a l) k = Cells.get c k := by
  induction l generalizing c a with
  | nil => rfl
  | cons b l ih => rw [storeBytes, ih _ _ (by omega), Cells.get_set_other _ _ (by omega)]

theorem get_storeBytes (l : List Byte) (c : Cells 8) (a i : Nat) (h : i < l.length) : Cells.get (storeBytes c a l) (a + i) = l[i] := by
  induction l generalizing c a i with
  | nil => simp at h
  | cons b l ih =>
    cases i with
    | zero => simp [storeBytes, storeBytes_below]
    | succ i =>
      have := ih (c.set a b) (a + 1) i (by simpa using h)
      simpa [storeBytes, Nat.add_assoc, Nat.add_comm 1 i] using this

/-- What is stored is loaded. -/
theorem loadBytes_storeBytes (l : List Byte) (c : Cells 8) (a n : Nat) (h : n = l.length) : loadBytes (storeBytes c a l) a n = l := by
  subst h
  apply List.ext_getElem
  · simp [loadBytes]
  · intro i h1 h2
    simpa [loadBytes] using get_storeBytes l c a i h2

theorem bytesLe_length (n v : Nat) : (bytesLe n v).length = n := by
  induction n generalizing v with
  | zero => rfl
  | succ n ih => simp [bytesLe, ih]

theorem natLe_bytesLe (n v : Nat) : natLe (bytesLe n v) = v % 256 ^ n := by
  induction n generalizing v with
  | zero => simp [bytesLe, natLe, Nat.mod_one]
  | succ n ih =>
    simp only [bytesLe, natLe, ih, BitVec.toNat_ofNat]
    rw [show (256 : Nat) ^ (n + 1) = 256 * 256 ^ n by rw [Nat.pow_succ, Nat.mul_comm], Nat.mod_mul]

/-- A block closed with its CRC is good. -/
theorem crcGood_withCrc (l : List Byte) : crcGood (withCrc l) = true := by
  have h : (withCrc l).length - 4 = l.length := by simp [withCrc, bytesLe_length]
  simp only [crcGood, h]
  have h1 : (withCrc l).take l.length = l := by simp [withCrc]
  have h2 : leAt (withCrc l) l.length 4 = (crc32c l).toNat := by
    have : ((withCrc l).drop l.length).take 4 = bytesLe 4 (crc32c l).toNat := by simp [withCrc, bytesLe_length]
    rw [leAt, this, natLe_bytesLe]
    exact Nat.mod_eq_of_lt (by have := (crc32c l).isLt; omega)
  simp [h1, h2]

theorem imageBody_length : imageBody.length = 2044 := by
  rw [imageBody, List.length_append, List.length_replicate]
  rfl

theorem withCrc_length (l : List Byte) : (withCrc l).length = l.length + 4 := by simp [withCrc, bytesLe_length]

theorem image_epoch : leAt (withCrc imageBody) 4 4 = 1 := by
  generalize h : bytesLe 4 (crc32c imageBody).toNat = e
  have : withCrc imageBody = [0, 0, 0, 0, 1, 0, 0, 0] ++ (List.replicate 2036 0 ++ e) := by
    rw [withCrc, h, imageBody, List.append_assoc]
  rw [this]
  rfl

theorem imaged_bestImage (s : State) (hm : s.pot.mem = storeBytes [] 0x1000 (withCrc imageBody)) (hp : s.placement = 1) : s.bestImage.isSome = true := by
  have hc : s.imageCopy 0 = withCrc imageBody := by
    simp only [State.imageCopy, hm]
    exact loadBytes_storeBytes _ _ _ _ (by rw [withCrc_length, imageBody_length])
  have hu : imageUsable (s.imageCopy 0) s.placement = true := by
    rw [hc, imageUsable, crcGood_withCrc, image_epoch, hp]
    rfl
  unfold State.bestImage
  simp only [hu]
  split
  · rfl
  · split
    · rfl
    · simp_all

theorem imaged_mem (l : List (Field × Nat)) : (imaged l).pot.mem = storeBytes [] 0x1000 (withCrc imageBody) := by rw [imaged]

theorem placement_putFlag (s : State) (f : Field) (b : Bool) (h : 0x10008 ≠ f.addr) : (s.putFlag f b).placement = s.placement := State.rd_putFlag_other s b h

theorem showImages_placement (s : State) : s.showImages.placement = s.placement :=
  (placement_putFlag _ _ _ (by decide)).trans (placement_putFlag _ _ _ (by decide))

theorem showFrames_placement (s : State) : s.showFrames.placement = s.placement := by
  have h : ∀ (x : State) (n : Nat), (x.put F.LAN_SP_STAT_LAST n).placement = x.placement := fun x n => State.rd_put_other x n (by decide)
  have g : ∀ (x : State) (b c : Bool), ((x.putFlag F.LAN_SP_STAT_F0 b).putFlag F.LAN_SP_STAT_F1 c).placement = x.placement := fun x b c =>
    (placement_putFlag _ _ _ (by decide)).trans (placement_putFlag _ _ _ (by decide))
  unfold State.showFrames
  generalize s.newestFrame = n
  cases n with
  | none => exact (h _ _).trans (g _ _ _)
  | some x => exact (h _ _).trans (g _ _ _)

/-- Without the Lid a frame is not written, and the commit leaves the register image as it is. -/
theorem committed_bestImage (s : State) (a : Nat) (l : List Byte) (u v : Tc) (h : s.lan.lid = none) (hb : s.pot.buffer = [])
    (hm : s.pot.mem = storeBytes [] 0x1000 (withCrc imageBody)) (hp : s.placement = 1) : ((s.potWrite a l u).potCommit v).bestImage.isSome = true := by
  have hw : s.potWrite a l u = s := by simp only [State.potWrite, h]
  rw [hw]
  apply imaged_bestImage
  · unfold State.potCommit State.showFrames
    simp only [hb, List.filter_nil, List.foldl_nil]
    split <;> exact hm
  · rw [State.potCommit, showFrames_placement, showImages_placement]
    exact hp

/-! Ill-formed commands, one for each check. -/

theorem test_wf_pdu : Instr.wf (.objRequestArrival .can0 0 (ones 65) 0) = false := by decide +kernel
theorem test_wf_pdu_eth : Instr.wf (.objRequestArrival .eth 0 (ones 1473) 0) = false := by decide +kernel
theorem test_wf_dertur : Instr.wf (.responseReceive 0 (ones 262) 0 0 0) = false := by decide +kernel
theorem test_wf_capture : Instr.wf (.captureFreeze 0 (ones 127)) = false := by decide +kernel
theorem test_wf_sense : Instr.wf (.senseFrame 0 0xF0C3 (ones 9) 0) = false := by decide +kernel
theorem test_wf_safe : Instr.wf (.safeDataCopy 0 false (ones 15) 0) = false := by decide +kernel
theorem test_wf_can : Instr.wf (.canFrameReceive 0 { frame with data := ones 65 } none 0) = false := by decide +kernel
theorem test_wf_eth : Instr.wf (.ethFrameReceive 0 ⟨ones 13, true, 0, [], []⟩ 0) = false := by decide +kernel
theorem test_wf_rio : Instr.wf (.rioInFrame 0 (ones 65) 0) = false := by decide +kernel
theorem test_wf_codes : Instr.wf (.currentRoundHold [] 0) = false := by decide +kernel
theorem test_wf_class_zero : Instr.wf (.laneFault ⟨.a, 0⟩ none 0) = false := by decide +kernel
theorem test_wf_class_high : Instr.wf (.laneFault ⟨.a, 14⟩ none 0) = false := by decide +kernel
theorem test_wf_xfer : Instr.wf (.xferDatagram 0 (ones 7) 0) = false := by decide +kernel
theorem test_wf_xfer_long : Instr.wf (.xferDatagram 0 (ones 1033) 0) = false := by decide +kernel
theorem test_wf_aligned : Instr.wf (.supplyStart ⟨[(6, 0)], (0, 0)⟩ false 0) = false := by decide +kernel

/-! Values that the manual works out. -/

/-- "123456789". -/
def digits : List Byte := [0x31, 0x32, 0x33, 0x34, 0x35, 0x36, 0x37, 0x38, 0x39]
theorem test_crc32c : crc32c digits = 0xE3069283 := by decide +kernel
theorem test_crc16 : crc16 digits = 0xD0DB := by decide +kernel
theorem test_crc8 : crc8 digits = 0xDF := by decide +kernel

/-- n bytes: zeros but for the little-endian 16-bit values given at their offsets. -/
def halves (n : Nat) (l : List (Nat × Nat)) : List Byte :=
  l.foldl (fun b e => b.take e.1 ++ bytesLe 2 e.2 ++ b.drop (e.1 + 2)) (List.replicate n 0)

/-- S0 with 28 monitors, nominal capacity 280 Ah (R82). -/
def bank28 : State := (live []).withSec 2 (halves 200 [(0, 1), (4, 28), (10, 280)])

/-- D_A(5) of the example under R147. -/
theorem test_delay_a : (bank28.storeDelay 0 5 false (16 * 28208)).fld (F.DLK_P_DLY_A 0 5) = 0x1E18 ∧
    (bank28.storeDelay 0 5 false (16 * 28208)).fld (F.DLK_P_STAT_DLY_ERR 0) = 0 := by decide +kernel
/-- D_B(5) of the example under R147. -/
theorem test_delay_b : (bank28.storeDelay 0 5 true (16 * 71832)).fld (F.DLK_P_DLY_B 0 5) = 0x734C ∧
    (bank28.storeDelay 0 5 true (16 * 71832)).fld (F.DLK_P_STAT_DLY_ERR 0) = 0 := by decide +kernel
/-- The readback times of the example under R168: 21 monitors take 587.7 us, and 5 us are to be left. -/
theorem test_deadline : deadlineLong 593 42 = true ∧ deadlineLong 592 42 = false := by decide +kernel

/-- M9 of S3 with readings of C6, C7 and the stack now, and C6 3.412 V, C7 3.415 V, stack 54.620 V before (the example under R190). -/
def split (c6 c7 stack : Nat) : State :=
  let s := ((wired []).put F.SWP_OW_CFG_SPLIT_MIN 50).put F.SWP_OW_CFG_SUM_TOL 20
  let g := cellIndex 3 9 6
  let s := s.setMon 3 9 { Mon.reset with stackLast := 546200 }
  { s with
    assembling := { s.assembling with objs := [((F.SWP_STACK_VOLT 105).addr, BitVec.ofNat 32 stack), ((F.SWP_V_CODE g).addr, BitVec.ofNat 32 c6), ((F.SWP_V_CODE (g + 1)).addr, BitVec.ofNat 32 c7)] }
    swp := { s.swp with lastCode := [(g, 136480), (g + 1, 136600)] } }
theorem test_line_breaks : (split 127920 145160 546170).splitAt 3 9 7 = true := by decide +kernel
theorem test_cell_drops : (split 127920 136600 544060).splitAt 3 9 7 = false := by decide +kernel

/-- OCV table 0 with columns at 15 and 25 °C and the points of the example under R206. -/
def ocv : List Byte := halves 800 [(176, 2), (180, 1920), (182, 3200), (234, 36120), (236, 36250), (300, 36180), (302, 36320), (260, 41000), (326, 41000)]
theorem test_lookup : (ocvLookup ocv 0 2688 36210 1).soc = 0x9B2D ∧ (ocvLookup ocv 0 2688 36210 1).slopeNum = 136 * (ocvLookup ocv 0 2688 36210 1).slopeDen := by decide +kernel
/-- The corridor of the example under R210 clamps the cell and keeps DRIFT. -/
def clamped : State :=
  ((base [(F.EST_CORR_CFG_W0, 10)]).putSoc 0 (42074 * 2 ^ 32)).corridor 0 ⟨39725, false, false, 136, 1⟩ 50 1 true
theorem test_corridor : clamped.cell 0 C.CORR_W = 1408 ∧ clamped.cell 0 C.SOC = 41133 ∧ clamped.cell 0 C.CLAMP_SUM = 941 ∧ clamped.stat 0 stDrift = true := by decide +kernel
/-- The segment of the example under R220. -/
def segment : State :=
  let s := bank28.put F.EST_LEARN_CFG_LEARN_EN 1 |>.put F.EST_LEARN_CFG_WEIGHT 20
  let s := (s.putCell 0 C.ANCHOR_SOC 60293).putCell 0 C.LAST_REST_SOC 22938
  let s := (s.putCellS 0 C.Q_SEG (-555120 * 2 ^ 24)).putCell 0 C.Q_LEARN (276 * 65536)
  (s.putCell 0 C.SEG_TIME 11160).putCell 0 C.SEG_HIRATE 450
theorem test_learns : segment.learnOutcome 0 = ocLearned := by decide +kernel
/-- The manual works with rounded decimals and gets 0x0112_E7F0. -/
theorem test_learned : (segment.learn 0 1).cell 0 C.Q_LEARN - 0x0112E7F0 ≤ 1 := by decide +kernel

/-- Three trimmers in RUN with 410, 390 and 180 A, and slot 0 as the example after R299 gives it. -/
def trimming : State :=
  let s := live [(F.CTE_CTRL_EN, 1), (F.PHB_STAT_SCHED_RUN, 1), (F.PHB_SCHED_A_ACTION 0, 6), (F.CTE_L_IO_EXISTS 0, 1), (F.CTE_L_CFG_EN 0, 1), (F.CTE_L_IO_RSRC 0, 2), (F.CTE_L_IO_MSTR 0, 2),
    (F.DSP_S_LIM_X_W 0, 0x8000), (F.DSP_S_LIM_X_W 1, 0x8000), (F.DSP_S_LIM_X_W 2, 0x4000), (F.CTE_TRIM_MEAS_I 0, 13120), (F.CTE_TRIM_MEAS_I 1, 12480), (F.CTE_TRIM_MEAS_I 2, 5760),
    (F.CTE_TRIM_PWM_PER 2, 4000)]
  let s := [0, 1, 2].foldl (fun s n => ((s.put (F.CTE_TRIM_STAT_PRESENT n) 1).put (F.CTE_TRIM_STAT_STATE n) trimRun).put (F.BRK_S_STAT_STATE n) ssClosed) s
  let s := ((((s.wr 0x91014 0x1C1C).wr 0x91018 0x1C).wr 0x91020 0x65400000).wr 0x91024 0x9C000000).wr 0x91030 0x10000000
  let s := (s.putS (F.CTE_L_UMIN_VALUE 0) (-1717986918)).putS (F.CTE_L_UMAX_VALUE 0) 1717986918
  { s with cte := { Cte.reset with ready := true, trims := List.replicate 8 { Trim.reset with good := some 0, per := 4000 },
                                   slots := List.replicate 32 { Slot.reset with e := [50331648, 0, 0], u := [536870912, 0, 0] } } }
theorem test_share : trimming.share 2 (trimming.sharing 0) = 411041792 := by decide +kernel
theorem test_slot : (match exec (.ctlSample 0 0) trimming with
    | .next t => t.cte.outs == [(60, 0, 434634752)] && t.fldS (F.CTE_L_MEAS_VALUE 0) == 377487360
    | _ => false) = true := by decide +kernel
theorem test_legs : trimming.compares 2 434634752 = (434634752, 38477, 25523) := by decide +kernel

/-- The limits of the example after R311 at thermal step 3, from 0.1 A and 1/1600 of it. -/
theorem test_derated : fromUnits (5000 * 13 * 100) = 4062 ∧ fromUnits (3000 * 13 * 100) = 2437 := by decide +kernel

/-- Case 2 of the example under R325: at the tick of 20 ms the counter reaches DISC_T. -/
def disagreeing : State := (live [(F.SAF_SI_STAT_FA 0, 1), (F.SAF_SI_STAT_DCNT 0, 19)]).withSec 5 [1, 0, 20, 0]
theorem test_discrepancy : (match exec (.discrepancyTick 0) disagreeing with
    | .next t => t.flag (F.SAF_SI_STAT_DISC 0) && t.fld (F.SAF_SI_STAT_DCNT 0) == 20
    | _ => false) = true := by decide +kernel

/-- The 16th ACK error of the example under R395: TEC 128 and error passive. -/
def unplugged : State := channels { CanChan.reset with onBus := some 0, bufs := List.replicate 3 held } [(F.CAN_CTRL_EN 1, 1), (F.CAN_STAT_STATE 1, canActive), (F.CAN_STAT_TEC 1, 120)]
theorem test_ack : (match exec (.canTxError 1 .ack false 0) unplugged with
    | .next t => t.fld (F.CAN_STAT_TEC 1) == 128 && t.canState 1 == canPassive
    | _ => false) = true := by decide +kernel

/-- The segment and the aperture of the example under R412, in 2^-32 ns. -/
theorem test_network_time : (ntBy ⟨80000000000, 1700000000000000000 * 2 ^ 32, 0, 0x80000A7C⟩ 80250000000 + 2 ^ 31) / 2 ^ 32 = 1700000001000001250 := by decide +kernel

/-- S3 of the example under R422: type 2 with G = 2. -/
theorem test_current : currentOf 2 1 (400 * 65536) (-32768) (-12288) = -24608768 := by decide +kernel
theorem test_charge : chargeStep (-24608768) (-24739840) 3125 = -78958 := by decide +kernel

/-- No row of the table has bits. -/
theorem test_no_words : decodeTableWord 32 0 = none := rfl


/-! Every statement has states and operands that meet its hypotheses: one line per clause. -/

theorem meets_StepRunsTheFrontCommand : ∃ (s : State) (c : Instr) (rest : List Instr), s.pending = c :: rest :=
  ⟨{ live [] with pending := [.lsDiscard] }, .lsDiscard, [], by decide +kernel⟩

theorem meets_AnEmptyQueueIdles : ∃ s : State, s.pending = [] :=
  ⟨State.reset, by decide +kernel⟩

theorem meets_EveryStepKeepsTheForm : ∃ (s t : State), s.Inv ∧ step s = .next t :=
  ⟨{ live [] with pending := [.lsDiscard] }, _, ⟨⟨by decide +kernel, by decide +kernel, rfl, rfl, rfl, ⟨rfl, rfl⟩, rfl, List.length_replicate, rfl, ⟨rfl, rfl⟩, ⟨List.length_replicate, rfl⟩, ⟨rfl, rfl, List.length_replicate, rfl, List.length_replicate⟩, rfl, rfl, rfl, rfl, ⟨fun _ h => (by cases h), fun _ h => (by cases h), fun _ h => (by cases h)⟩⟩, rfl⟩⟩

theorem meets_EveryStepKeepsTheRecord : ∃ (s t : State), step s = .next t :=
  ⟨{ live [] with pending := [.lsDiscard] }, _, rfl⟩

theorem meets_OnlyUnmappedAccessesStop : ∃ (c : Instr) (s : State) (f : Fault), exec c s = .fault f :=
  ⟨.pairLoRead 0x160000 0, State.reset, .unmappedAddress, rfl⟩

theorem meets_SenseFrameCrc : ∃ (s : State) (n : Fin 8) (sync : BitVec 16) (l : List Byte) (tc : Tc), s.cteDormant = false ∧ s.flag (F.CTE_TRIM_STAT_PRESENT n) = true ∧ (sync ≠ 0xF0C3 ∨ crc8 (l.take 7) ≠ l.getD 7 0) :=
  ⟨live [(F.CTE_TRIM_STAT_PRESENT 7, 1)], 7, 0, [], 0, by decide +kernel⟩

theorem meets_OneOpenStaging :
    (∃ (s t : State), s.StagingForm ∧ step s = .next t) ∧
    (∃ (s : State) (a : BitVec 32) (v : Word) (w : Writer), s.StagingForm ∧ rwsMask a.toNat ≠ 0 ∧ s.dormantAt a.toNat = false ∧ ((∃ p, w = .path p ∧ s.serviceUp = true ∧ s.accessStatus p s.upd.session.isSome true a.toNat = stOk) ∨ (∃ o, w = .lane o ∧ mapped a.toNat = true ∧ s.currentEpoch o = true ∧ s.holdsLid o.lane = true ∧ s.stagingOpen = true)) ∧ ((∃ x, (a.toNat, x) ∈ s.cfg.staging) ∨ s.cfg.staging.length < 1024)) ∧
    (∃ (s : State) (a : BitVec 32) (v : Word) (w : Writer), s.StagingForm ∧ rwsMask a.toNat ≠ 0 ∧ s.dormantAt a.toNat = false ∧ ((∃ p, w = .path p ∧ s.serviceUp = true ∧ s.accessStatus p s.upd.session.isSome true a.toNat = stOk) ∨ (∃ o, w = .lane o ∧ mapped a.toNat = true ∧ s.currentEpoch o = true ∧ s.holdsLid o.lane = true ∧ s.stagingOpen = true)) ∧ (∀ x, (a.toNat, x) ∉ s.cfg.staging) ∧ s.cfg.staging.length = 1024) :=
  ⟨⟨{ live [] with pending := [.lsDiscard] }, _, ⟨⟨by decide, by decide⟩, rfl⟩⟩,
   ⟨live [], 0xd0004, 5, .lane own, ⟨⟨by decide, by decide⟩, by decide +kernel, by decide +kernel, .inr ⟨own, rfl, by decide +kernel⟩, .inr (by decide)⟩⟩,
   ⟨{ filled 1024 with upd := { Upd.reset with session := some ⟨0, 0, 0⟩ } }, 0xd0004, 5, .path .service, ⟨filled_form 1024 (by decide), by decide +kernel, by decide +kernel, .inl ⟨.service, rfl, by decide +kernel⟩, filled_lacks 1024 (by decide), filled_length 1024⟩⟩⟩

theorem meets_EpochSelectors :
    (∃ (s : State) (tc : Tc) (r : Request) (c : State → Host.Outcome State Fault Refusal), ∃ i st, ((s.frontRequest 1 = some r ∧ c = exec (.readRange tc)) ∨ (s.frontRequest 2 = some r ∧ c = exec (.readList tc))) ∧ r.countOk = true ∧ r.lengthOk = true ∧ s.firstBad r false r.reads 0 = some (i, st)) ∧
    (∃ (s : State) (tc : Tc) (r : Request) (c : State → Host.Outcome State Fault Refusal), ((s.frontRequest 1 = some r ∧ c = exec (.readRange tc)) ∨ (s.frontRequest 2 = some r ∧ c = exec (.readList tc))) ∧ r.countOk = true ∧ r.lengthOk = true ∧ s.firstBad r false r.reads 0 = none ∧ s.latest.epoch = 0 ∧ (∃ a ∈ r.reads, kindAt a = .snapshot)) ∧
    (∃ (s : State) (tc : Tc) (r : Request) (c : State → Host.Outcome State Fault Refusal), ((s.frontRequest 1 = some r ∧ c = exec (.readRange tc)) ∨ (s.frontRequest 2 = some r ∧ c = exec (.readList tc))) ∧ r.countOk = true ∧ r.lengthOk = true ∧ s.firstBad r false r.reads 0 = none ∧ s.latest.epoch = 0 ∧ (∀ a ∈ r.reads, kindAt a ≠ .snapshot)) ∧
    (∃ (s : State) (tc : Tc) (r : Request) (c : State → Host.Outcome State Fault Refusal), ((s.frontRequest 1 = some r ∧ c = exec (.readRange tc)) ∨ (s.frontRequest 2 = some r ∧ c = exec (.readList tc))) ∧ r.countOk = true ∧ r.lengthOk = true ∧ s.firstBad r false r.reads 0 = none ∧ s.latest.epoch ≠ 0 ∧ (∃ a ∈ r.reads, kindAt a = .snapshot ∨ kindAt a = .mixed) ∧ r.selector ≠ 0 ∧ r.selector ≠ s.latest.epoch.toNat ∧ r.selector ≠ s.previous.epoch.toNat ∧ r.selector < 2 ^ 32) :=
  ⟨⟨asks ⟨.service, 0, [2, 0, 1, 0, 0, 0, 0, 0, 1, 0, 0, 0]⟩, 0, _, _, 0, stAlignment, ⟨.inr ⟨rfl, rfl⟩, by decide +kernel⟩⟩,
   ⟨asks ⟨.service, 0, [2, 0, 1, 0, 7, 0, 0, 0, 0, 1, 5, 0]⟩, 0, _, _, ⟨.inr ⟨rfl, rfl⟩, by decide +kernel⟩⟩,
   ⟨asks ⟨.service, 0, [1, 0, 1, 0, 7, 0, 0, 0, 4, 0, 5, 0]⟩, 0, _, _, ⟨.inl ⟨rfl, rfl⟩, by decide +kernel⟩⟩,
   ⟨{ asks ⟨.service, 0, [1, 0, 1, 0, 0, 0, 0, 0x80, 4, 0, 5, 0]⟩ with latest := { Snapshot.empty with epoch := 1 } }, 0, _, _, ⟨.inl ⟨rfl, rfl⟩, by decide +kernel⟩⟩⟩

theorem meets_PhaseBaseFollowsItsSource :
    (∃ (s : State) (tc : Tc) (l : Nat), s.phbOn = true ∧ (s.fld F.PHB_SRC_SOURCE = 1 ∨ s.fld F.PHB_SRC_SOURCE = 2 ∨ s.fld F.PHB_SRC_SOURCE = 3 ∧ s.phb.encDue = true) ∧ s.fld F.PHB_STAT_STATE = phbInternal ∧ s.phb.lastRef = some l) ∧
    (∃ (s : State) (tc : Tc) (l : Nat), s.phbOn = true ∧ (s.fld F.PHB_SRC_SOURCE = 1 ∨ s.fld F.PHB_SRC_SOURCE = 2 ∨ s.fld F.PHB_SRC_SOURCE = 3 ∧ s.phb.encDue = true) ∧ s.fld F.PHB_STAT_STATE = phbLocked ∧ s.phb.lastRef = some l ∧ s.freqOk (64 * tc.toNat - l) = false) ∧
    (∃ (s : State) (tc : Tc) (l : Nat), s.phbOn = true ∧ (s.fld F.PHB_SRC_SOURCE = 1 ∨ s.fld F.PHB_SRC_SOURCE = 2 ∨ s.fld F.PHB_SRC_SOURCE = 3) ∧ s.phb.lastRef = some l ∧ 5 * 16 * 10 ^ 12 ≤ 4 * s.fld F.PHB_FMIN_MHZ * (64 * tc.toNat - l) ∧ s.fld F.PHB_STAT_STATE = phbLocked) ∧
    (∃ (s : State) (tc : Tc) (l : Nat), s.phbOn = true ∧ (s.fld F.PHB_SRC_SOURCE = 1 ∨ s.fld F.PHB_SRC_SOURCE = 2 ∨ s.fld F.PHB_SRC_SOURCE = 3) ∧ s.phb.lastRef = some l ∧ 4 * s.fld F.PHB_FMIN_MHZ * (64 * tc.toNat - l) < 5 * 16 * 10 ^ 12) ∧
    (∃ (s : State) (tc : Tc), s.wrapsAt tc = true) ∧
    (∃ (s : State) (tc : Tc), s.wrapsAt tc = false) ∧
    (∃ s : State, s.phbOn = true) ∧
    (∃ s : State, s.phbOn = true ∧ s.fld F.PHB_SRC_SOURCE ≠ 3) ∧
    (∃ s : State, s.phbOn = true ∧ s.flag F.PHB_SRC_Z_EN = true) :=
  ⟨⟨{ live [(F.PHB_SRC_SOURCE, 1)] with phb := { Phb.reset with lastRef := some 0 } }, 100, 0, by decide +kernel⟩,
   ⟨{ live [(F.PHB_SRC_SOURCE, 3), (F.PHB_STAT_STATE, phbLocked)] with phb := { Phb.reset with encDue := true, lastRef := some 64 } }, 1, 64, by decide +kernel⟩,
   ⟨{ live [(F.PHB_SRC_SOURCE, 1), (F.PHB_STAT_STATE, phbLocked), (F.PHB_FMIN_MHZ, 1000000)] with phb := { Phb.reset with lastRef := some 0 } }, 1000000, 0, by decide +kernel⟩,
   ⟨{ live [(F.PHB_SRC_SOURCE, 1), (F.PHB_FMIN_MHZ, 1000000)] with phb := { Phb.reset with lastRef := some 0 } }, 0, 0, by decide +kernel⟩,
   ⟨{ live [] with phb := { Phb.reset with incBefore := 1, carries := 1 } }, 0, by decide +kernel⟩,
   ⟨live [], 0, by decide +kernel⟩,
   ⟨live [], by decide +kernel⟩,
   ⟨live [], by decide +kernel⟩,
   ⟨live [(F.PHB_SRC_Z_EN, 1)], by decide +kernel⟩⟩

theorem meets_FiringsOfOneTick :
    (∃ (s : State) (k j : Fin 64) (a : Nat) (tc : Tc), a ≠ 0 ∧ a ≠ 4 ∧ s.fires k a tc = true) ∧
    (∃ (s : State) (k j : Fin 64) (a : Nat) (tc : Tc), a ≠ 0 ∧ a ≠ 4 ∧ s.fires k a tc = true ∧ s.fld (F.PHB_SCHED_A_ACTION j) ≠ 0 ∧ s.fld (F.PHB_SCHED_A_ACTION j) ≠ 4 ∧ (schedEntry s.rd j).due s.phb.startCycle (s.positionAt tc) (s.phbStep tc) = true ∧ s.unfired tc (64 * s.fld (F.PHB_SCHED_A_ACTION j) + j) = true) ∧
    (∃ (s : State) (k j : Fin 64) (a b : Nat) (tc : Tc), (s.acted (64 * a + k) tc).fires j b tc = true) :=
  ⟨⟨commits [], 63, 0, 1, 0, by decide +kernel⟩,
   ⟨commits [(F.PHB_SCHED_A_ACTION 0, 1)], 0, 63, 1, 0, by decide +kernel⟩,
   ⟨commits [(F.PHB_SCHED_A_ACTION 0, 1)], 0, 63, 1, 1, 0, by decide +kernel⟩⟩

theorem meets_AngleMessagesAndMarks :
    (∃ (s : State) (k : Fin 64) (tc : Tc), s.fires k 8 tc = true) ∧
    (∃ (s : State) (tc : Tc), s.phbOn = true ∧ s.lan.fw = true ∧ s.flag F.PHB_SRC_PUBLISH = true ∧ s.flag F.PHB_STAT_SCHED_RUN = true ∧ s.angleDue tc = true ∧ (s.rd64 0x30028).toNat ≤ tc.toNat) ∧
    (∃ (s : State) (payload : List Byte) (tc : Tc), s.phbOn = true ∧ s.fld F.PHB_SRC_SOURCE = 4 ∧ s.angleOk payload = true ∧ s.fld F.PHB_STAT_STATE = phbInternal) :=
  ⟨⟨live [(F.PHB_STAT_SCHED_RUN, 1), (F.PHB_SCHED_A_ACTION 63, 8)], 63, 0, by decide +kernel⟩,
   ⟨live [(F.PHB_SRC_PUBLISH, 1), (F.PHB_STAT_SCHED_RUN, 1)], 0, by decide +kernel⟩,
   ⟨live [(F.PHB_SRC_SOURCE, 4)], [0x41, 0x50, 1] ++ List.replicate 29 0, 0, by decide +kernel⟩⟩

theorem meets_PulseOutputs :
    (∃ (s : State) (n : Fin 4) (tc : Tc), s.tim.Sized ∧ 8 ≤ s.fld (F.TIM_TPO_WIDTH_VALUE n) ∧ (s.fld (F.TIM_TPO_CFG_MODE n) = 0 ∧ s.tpoTime (s.flag (F.TIM_TPO_CFG_BASE n)) tc < (((s.rd64 (F.TIM_TPO_START_LO_VALUE n).addr).toNat * 2 ^ 32 : Nat) : Int) ∨ s.fld (F.TIM_TPO_CFG_MODE n) = 1 ∧ max (s.fld (F.TIM_TPO_WIDTH_VALUE n) + 8) 100 * 2 ^ 32 ≤ (if s.flag (F.TIM_TPO_CFG_BASE n) then 4 else 1) * (s.fld (F.TIM_TPO_PERIOD_VALUE n) * 2 ^ 32 + s.fld (F.TIM_TPO_PERIOD_FRAC_VALUE n)))) ∧
    (∃ (s : State) (n : Fin 4) (tc : Tc), s.fld (F.TIM_TPO_WIDTH_VALUE n) < 8) ∧
    (∃ (s : State) (n : Fin 4) (tc : Tc), 8 ≤ s.fld (F.TIM_TPO_WIDTH_VALUE n) ∧ s.fld (F.TIM_TPO_CFG_MODE n) = 0 ∧ (((s.rd64 (F.TIM_TPO_START_LO_VALUE n).addr).toNat * 2 ^ 32 : Nat) : Int) ≤ s.tpoTime (s.flag (F.TIM_TPO_CFG_BASE n)) tc) ∧
    (∃ (s : State) (n : Fin 4), s.tim.Sized) ∧
    (∃ (s : State) (n : Fin 4) (tc : Tc), s.tim.Sized ∧ s.fld (F.TIM_TPO_STAT_STATE n) = tpoArmed ∧ (s.tpo n).pending = true ∧ (s.tpo n).target ≤ s.tpoTime (s.tpo n).raw tc) ∧
    (∃ (s : State) (n : Fin 4) (tc : Tc), s.fld (F.TIM_TPO_STAT_STATE n) = tpoPulse ∧ (s.tpo n).pulseEnd.toNat ≤ tc.toNat) :=
  ⟨⟨live [(F.TIM_TPO_WIDTH_VALUE 3, 8), (F.TIM_TPO_CFG_MODE 3, 1), (F.TIM_TPO_PERIOD_VALUE 3, 100)], 3, 0, ⟨rfl, by decide +kernel, by decide +kernel⟩⟩,
   ⟨live [(F.TIM_TPO_WIDTH_VALUE 0, 7)], 0, 0, by decide +kernel⟩,
   ⟨live [(F.TIM_TPO_WIDTH_VALUE 0, 8), (F.TIM_TPO_CFG_BASE 0, 1)], 0, 0, by decide +kernel⟩,
   ⟨live [], 3, rfl⟩,
   ⟨{ live [(F.TIM_TPO_STAT_STATE 3, tpoArmed)] with tim := { Tim.reset with tpos := List.replicate 4 { Tpo.reset with pending := true } } }, 3, 0, ⟨rfl, by decide +kernel, by decide +kernel, by decide +kernel⟩⟩,
   ⟨live [(F.TIM_TPO_STAT_STATE 0, tpoPulse)], 0, 0, by decide +kernel⟩⟩

theorem meets_NetworkTimeWrites :
    (∃ (s : State) (v : Word) (w : Writer) (tc : Tc), s.servoDenies w = false ∧ 0x7FEF9DB2 ≤ v.toNat ∧ v.toNat ≤ 0x8010624E) ∧
    (∃ (s : State) (v : Word) (w : Writer) (tc : Tc), s.servoDenies w = false ∧ (v.toNat < 0x7FEF9DB2 ∨ 0x8010624E < v.toNat)) ∧
    (∃ (s : State) (v : Word) (w : Writer) (tc : Tc), s.servoDenies w = false ∧ s.tim.cur.raw ≠ tc + 1) ∧
    (∃ (s : State) (w : Writer) (tc : Tc), s.servoDenies w = false) ∧
    (∃ (s : State) (v : Word) (p : Path) (tc : Tc), s.flag F.TIM_SERVO_CFG_SERVO_EN = true) :=
  ⟨⟨live [], 0x7FEF9DB2, .lane own, 0, by decide +kernel⟩,
   ⟨live [], 0x7FEF9DB1, .path .eth, 0, by decide +kernel⟩,
   ⟨live [], 0, .lane own, 0, by decide +kernel⟩,
   ⟨live [], .path .service, 0, by decide +kernel⟩,
   ⟨live [(F.TIM_SERVO_CFG_SERVO_EN, 1)], 0, .eth, 0, by decide +kernel⟩⟩

theorem meets_ServoStates :
    (∃ (s : State) (m : PtpSync) (tc : Tc), s.lan.fw = true ∧ s.flag F.TIM_SERVO_CFG_SERVO_EN = true ∧ m.domain.toNat = s.fld F.TIM_SERVO_CFG_DOMAIN ∧ -7 ≤ m.interval.toInt ∧ m.interval.toInt ≤ 1 ∧ (s.fld F.TIM_STAT_SERVO = servoFree ∨ s.fld F.TIM_STAT_SERVO = servoHoldover)) ∧
    (∃ (s : State) (m : PtpSync) (tc : Tc), s.lan.fw = true ∧ s.flag F.TIM_SERVO_CFG_SERVO_EN = true ∧ m.domain.toNat = s.fld F.TIM_SERVO_CFG_DOMAIN ∧ -7 ≤ m.interval.toInt ∧ m.interval.toInt ≤ 1 ∧ s.fld F.TIM_STAT_SERVO = servoAcquire ∧ 7 ≤ s.tim.good ∧ (s.syncOffset m).natAbs ≤ 100 * 2 ^ 36 ∧ 1 ≤ s.fld F.TIM_SERVO_CFG_STEP_THR) ∧
    (∃ (s : State) (change : Bool) (tc : Tc), s.lan.fw = true ∧ s.flag F.TIM_SERVO_CFG_SERVO_EN = true ∧ (s.fld F.TIM_STAT_SERVO = servoAcquire ∨ s.fld F.TIM_STAT_SERVO = servoLocked) ∧ (change = true ∨ s.syncLate tc = true)) ∧
    (∃ (s : State) (tc : Tc), s.lan.fw = true ∧ s.flag F.TIM_SERVO_CFG_SERVO_EN = true ∧ s.fld F.TIM_STAT_SERVO = servoHoldover ∧ s.fld F.TIM_SERVO_CFG_HOLD_TMO * 250000000 ≤ (tc - s.tim.holdTc).toNat) :=
  ⟨⟨live [(F.TIM_SERVO_CFG_SERVO_EN, 1), (F.TIM_STAT_SERVO, servoFree)], ⟨0, 0xF9, 0, 0, 0, 0⟩, 0, by decide +kernel⟩,
   ⟨{ live [(F.TIM_SERVO_CFG_SERVO_EN, 1), (F.TIM_STAT_SERVO, servoAcquire), (F.TIM_SERVO_CFG_STEP_THR, 1)] with tim := { Tim.reset with good := 7 } }, ⟨0, 1, 0, 0, 0, 0⟩, 0, by decide +kernel⟩,
   ⟨live [(F.TIM_SERVO_CFG_SERVO_EN, 1), (F.TIM_STAT_SERVO, servoLocked)], true, 0, by decide +kernel⟩,
   ⟨live [(F.TIM_SERVO_CFG_SERVO_EN, 1), (F.TIM_STAT_SERVO, servoHoldover), (F.TIM_SERVO_CFG_HOLD_TMO, 1)], 250000000, by decide +kernel⟩⟩

theorem meets_PortsTurnOnAndOff :
    (∃ (s : State) (p : Fin 8), s.ports.length = 8 ∧ s.bit F.INF_DORMANT_UNIT_PORT p = false) ∧
    (∃ (s : State) (p : Fin 8), s.bit F.INF_DORMANT_UNIT_PORT p = true) ∧
    (∃ (s : State) (p : Fin 8), s.ports.length = 8 ∧ s.portState p ≠ portOff) ∧
    (∃ (s : State) (p : Fin 8), s.portState p = portOff) ∧
    (∃ (s : State) (p : Fin 8) (tc : Tc), s.portState p ≠ portOff) ∧
    (∃ (s : State) (p : Fin 8) (tc : Tc), s.portState p = portNoRing) ∧
    (∃ (s : State) (p : Fin 8), s.portState p = portRing ∨ s.portState p = portSplit ∨ s.portState p = portFault) :=
  ⟨⟨live [], 7, by decide +kernel⟩,
   ⟨base [], 0, by decide +kernel⟩,
   ⟨live [(F.DLK_P_STAT_STATE 7, portRing)], 7, by decide +kernel⟩,
   ⟨live [], 0, by decide +kernel⟩,
   ⟨live [(F.DLK_P_STAT_STATE 7, portFault)], 7, 0, by decide +kernel⟩,
   ⟨live [(F.DLK_P_STAT_STATE 0, portNoRing)], 0, by decide +kernel⟩,
   ⟨live [(F.DLK_P_STAT_STATE 7, portFault)], 7, by decide +kernel⟩⟩

theorem meets_RingStates :
    (∃ (s : State) (p : Fin 8), s.portState p = portEnum ∧ enumOver (s.port p) = true) ∧
    (∃ (s : State) (p : Fin 8), enumOver (s.port p) = false) ∧
    (∃ (s : State) (p : Fin 8) (e : Bool) (tc : Tc), (s.portState p = portRing ∨ s.portState p = portSplit) ∧ (s.port p).idle = true) ∧
    (∃ (s : State) (p : Fin 8) (a b : PollBack) (tc : Tc), s.portState p = portLocate ∧ (s.port p).pollA.isSome = true ∧ (s.port p).pollB.isSome = true ∧ a.opposite = true ∧ b.opposite = true) ∧
    (∃ (s : State) (p : Fin 8) (a b : PollBack) (tc : Tc), s.portState p = portLocate ∧ (s.port p).pollA.isSome = true ∧ (s.port p).pollB.isSome = true ∧ pollsDue (s.port p) (heard a) (heard b) (tcQuarter tc) = true ∧ (a.opposite = false ∨ b.opposite = false) ∧ a.unaddressed = false ∧ b.unaddressed = false ∧ a.reach = 0 ∧ b.reach = 0) ∧
    (∃ (s : State) (p : Fin 8) (a b : PollBack) (tc : Tc), s.portState p = portRing ∧ (s.port p).pollA.isSome = true ∧ (s.port p).pollB.isSome = true ∧ pollsDue (s.port p) (heard a) (heard b) (tcQuarter tc) = true ∧ (a.opposite = false ∨ b.opposite = false)) ∧
    (∃ (s : State) (p : Fin 8) (a b : PollBack) (tc : Tc), pollsDue (s.port p) (heard a) (heard b) (tcQuarter tc) = false) ∧
    (∃ (s : State) (p : Fin 8) (tc : Tc), (s.portState p = portRing ∨ s.portState p = portSplit) ∧ (s.port p).idle = true ∧ (∀ l, (s.port p).pollTc = some l → 250000 * s.fld (F.DLK_P_CFG_POLL_MS p) ≤ (tc - l).toNat)) ∧
    (∃ (s : State) (p : Fin 8) (tc l : Tc), (s.port p).pollTc = some l ∧ (tc - l).toNat < 250000 * s.fld (F.DLK_P_CFG_POLL_MS p)) ∧
    (∃ (s : State) (p : Fin 8) (m : Fin 32) (endB : Bool) (tc : Tc), s.ports.length = 8 ∧ (s.portState p = portRing ∨ s.portState p = portSplit) ∧ (s.port p).addressed.getLsbD m = true ∧ (if endB then (s.port p).reachB else (s.port p).reachA).getLsbD m = true ∧ m < s.monCount p ∧ (∀ x ∈ (s.port p).mgmt ++ (s.port p).outstanding, x.purpose ≠ .remeasure m endB) ∧ s.sweepReadsDone p endB = true) ∧
    (∃ (s : State) (p : Fin 8) (m : Fin 32) (endB : Bool) (bytes : List Byte) (sum rt : Nat) (tc : Tc) (x : Txn), s.ports.length = 8 ∧ bytes.length = leAt bytes 3 1 + 6 ∧ crc16 bytes = 0 ∧ (leAt bytes 0 1).testBit 4 = true ∧ (leAt bytes 0 1).testBit 7 = false ∧ s.txnOf p (leAt bytes 2 1 % 16) = some x ∧ x.waits = false ∧ x.attempt % 4 = leAt bytes 2 1 / 16 % 4 ∧ x.purpose = .remeasure m endB ∧ (s.port p).pings.getD (2 * m + bitN endB) (0, 0) = (sum, 15)) :=
  ⟨⟨linked { Port.reset with enumStep := 6 } [(F.DLK_P_STAT_STATE 7, portEnum)], 7, by decide +kernel⟩,
   ⟨live [], 0, by decide +kernel⟩,
   ⟨linked Port.reset [(F.DLK_P_STAT_STATE 0, portSplit)], 0, true, 0, by decide +kernel⟩,
   ⟨linked { Port.reset with pollA := some 0, pollB := some 0 } [(F.DLK_P_STAT_STATE 0, portLocate)], 0, ⟨true, false, 0, 0, 0, false⟩, ⟨true, false, 0, 0, 0, false⟩, 0, by decide +kernel⟩,
   ⟨linked { Port.reset with pollA := some 0, pollB := some 0 } [(F.DLK_P_STAT_STATE 0, portLocate)], 0, ⟨false, false, 0, 0, 0, false⟩, ⟨false, false, 0, 0, 0, false⟩, 15000, by decide +kernel⟩,
   ⟨linked { Port.reset with pollA := some 0, pollB := some 0 } [(F.DLK_P_STAT_STATE 7, portRing)], 7, ⟨false, false, 0, 0, 0, false⟩, ⟨true, false, 0, 0, 0, false⟩, 15000, by decide +kernel⟩,
   ⟨live [], 0, ⟨false, false, 0, 0, 0, false⟩, ⟨true, false, 0, 0, 0, false⟩, 0, by decide +kernel⟩,
   ⟨linked Port.reset [(F.DLK_P_STAT_STATE 7, portSplit)], 7, 0, ⟨by decide +kernel, by decide +kernel, fun _ h => nomatch h⟩⟩,
   ⟨linked { Port.reset with pollTc := some 0 } [(F.DLK_P_CFG_POLL_MS 0, 1)], 0, 0, 0, by decide +kernel⟩,
   ⟨{ wired [(F.DLK_P_STAT_STATE 7, portSplit)] with ports := List.replicate 8 { Port.reset with addressed := 0xFFFFFFFF, reachA := 0xFFFFFFFF } }, 7, 31, false, 0, by decide +kernel⟩,
   ⟨{ live [] with ports := List.replicate 8 { Port.reset with outstanding := [{ txn with tag := 0, purpose := .remeasure 0 false }], pings := [(0, 15)] } }, 7, 0, false, frameBytes 16 0 0 [], 0, 0, 0, { txn with tag := 0, purpose := .remeasure 0 false }, by decide +kernel⟩⟩

theorem meets_TransactionsIssueAndEnd :
    (∃ (s : State) (p : Fin 8) (endB : Bool) (tc : Tc) (x : Txn) (rest : List Txn) (g : Nat), s.ports.length = 8 ∧ s.unserved p = false ∧ (s.port p).idle = true ∧ (s.port p).freeAt endB (tcQuarter tc) = tcQuarter tc ∧ (∀ o ∈ (s.port p).outstanding, o.waits = false) ∧ (s.port p).mgmt = x :: rest ∧ x.waits = false ∧ s.txnEnd p x = some endB ∧ s.mayGo p endB x = true ∧ freeTag (s.port p) = some g ∧ fits (s.port p) (s.timed p { x with tag := g, endB := endB } (tcQuarter tc)) = true ∧ aloneOk (s.port p) (s.timed p { x with tag := g, endB := endB } (tcQuarter tc)) = true) ∧
    (∃ (s : State) (p : Fin 8) (bytes : List Byte) (rt : Nat) (tc : Tc), bytes.length = leAt bytes 3 1 + 6 ∧ crc16 bytes ≠ 0) ∧
    (∃ (s : State) (p : Fin 8) (bytes : List Byte) (rt : Nat) (tc : Tc), bytes.length = leAt bytes 3 1 + 6 ∧ crc16 bytes = 0 ∧ (leAt bytes 0 1).testBit 4 = true ∧ s.txnOf p (leAt bytes 2 1 % 16) = none) ∧
    (∃ (s : State) (p : Fin 8) (bytes : List Byte) (rt : Nat) (tc : Tc) (x : Txn), s.ports.length = 8 ∧ bytes.length = leAt bytes 3 1 + 6 ∧ crc16 bytes = 0 ∧ (leAt bytes 0 1).testBit 4 = true ∧ s.txnOf p (leAt bytes 2 1 % 16) = some x ∧ x.waits = false ∧ x.attempt % 4 = leAt bytes 2 1 / 16 % 4) ∧
    (∃ (s : State) (p : Fin 8) (g : Fin 16) (x : Txn), s.ports.length = 8 ∧ s.txnOf p g = some x) ∧
    (∃ (s : State) (p : Fin 8) (g : Fin 16) (tc : Tc) (x : Txn), s.txnOf p g = some x ∧ (x.waits = true ∨ tcQuarter tc < x.respEnd + 4000 * s.fld (F.DLK_P_CFG_MARGIN p))) ∧
    (∃ (s : State) (p : Fin 8) (g : Fin 16) (tc : Tc) (x y : Txn) (b : Bool), s.ports.length = 8 ∧ (s.portState p = portSplit ∨ s.portState p = portRing ∧ (s.port p).consecutive < 2) ∧ s.txnOf p g = some x ∧ x.waits = false ∧ x.respEnd + 4000 * s.fld (F.DLK_P_CFG_MARGIN p) ≤ tcQuarter tc ∧ x.retries < s.fld (F.DLK_P_CFG_RETRY p) ∧ s.txnEnd p x = some b ∧ y = s.timed p { x with attempt := x.attempt + 1, retries := x.retries + 1, endB := b } (tcQuarter tc)) ∧
    (∃ (s : State) (p : Fin 8) (g : Fin 16) (tc : Tc) (x : Txn), s.portState p = portRing ∧ 2 ≤ (s.port p).consecutive ∧ s.txnOf p g = some x ∧ x.waits = false ∧ x.respEnd + 4000 * s.fld (F.DLK_P_CFG_MARGIN p) ≤ tcQuarter tc) ∧
    (∃ (s : State) (p : Fin 8) (g : Fin 16) (tc : Tc) (x : Txn), s.ports.length = 8 ∧ s.txnOf p g = some x ∧ x.waits = false ∧ x.respEnd + 4000 * s.fld (F.DLK_P_CFG_MARGIN p) ≤ tcQuarter tc ∧ s.fld (F.DLK_P_CFG_RETRY p) ≤ x.retries) :=
  ⟨⟨linked { Port.reset with mgmt := [txn] } [(F.DLK_P_STAT_STATE 7, portRing)], 7, false, 0, txn, [], 0, by decide +kernel⟩,
   ⟨live [], 0, [0, 0, 0, 0, 0, 1], 0, 0, by decide +kernel⟩,
   ⟨live [], 0, frameBytes 16 0 0 [], 0, 0, by decide +kernel⟩,
   ⟨carries { txn with tag := 0 } [], 7, frameBytes 16 0 0 [], 0, 0, { txn with tag := 0 }, by decide +kernel⟩,
   ⟨carries txn [], 7, 3, txn, by decide +kernel⟩,
   ⟨carries { txn with waits := true } [], 0, 3, 0, { txn with waits := true }, by decide +kernel⟩,
   ⟨carries txn [(F.DLK_P_STAT_STATE 7, portSplit), (F.DLK_P_CFG_RETRY 7, 1)], 7, 3, 0, txn, (carries txn [(F.DLK_P_STAT_STATE 7, portSplit), (F.DLK_P_CFG_RETRY 7, 1)]).timed 7 { txn with attempt := 1, retries := 1, endB := false } 0, false, by decide +kernel⟩,
   ⟨carries txn [(F.DLK_P_STAT_STATE 7, portRing), (F.DLK_P_CFG_RETRY 7, 1)], 7, 3, 0, txn, by decide +kernel⟩,
   ⟨carries txn [], 7, 3, 0, txn, by decide +kernel⟩⟩

theorem meets_SweepSequence :
    (∃ (s : State) (k : Fin 64) (tc : Tc) (pos : Nat), s.phbOn = true ∧ s.flag F.PHB_STAT_SCHED_RUN = true ∧ s.phb.accTc ≤ tc ∧ s.fld (F.PHB_SCHED_A_ACTION k) = 4 ∧ s.unnoticed k tc = some pos ∧ (s.ticksTo pos tc = 4000 ∨ s.ticksTo pos tc < 4000 ∧ s.phb.moveTc = some tc)) ∧
    (∃ (s : State) (k : Fin 64) (tc : Tc) (pos : Nat), s.phbOn = true ∧ s.flag F.PHB_STAT_SCHED_RUN = true ∧ s.phb.accTc ≤ tc ∧ s.fld (F.PHB_SCHED_A_ACTION k) = 4 ∧ s.unnoticed k tc = some pos ∧ 4000 < s.ticksTo pos tc) ∧
    (∃ (s : State) (tc hold : Tc) (lead : Nat), s.phbOn = true ∧ s.phb.noticed.find? (fun x => x.1 == tc + BitVec.ofNat 64 x.2) = some (hold, lead) ∧ s.flag F.SWP_CTRL_EN = true) ∧
    (∃ (s : State) (k : Fin 64) (tc : Tc), s.fires k 3 tc = true ∧ s.flag F.SWP_CTRL_EN = true) ∧
    (∃ (s : State) (tc : Tc) (w : Sweep), s.swp.sweep = some w ∧ s.swp.Sized ∧ w.tc.toNat + 250 * s.fld F.SWP_DEADLINE_US ≤ tc.toNat) ∧
    (∃ (s : State) (tc : Tc) (w : Sweep), s.swp.sweep = some w ∧ s.swp.Sized ∧ tc.toNat < w.tc.toNat + 250 * s.fld F.SWP_DEADLINE_US) ∧
    (∃ (s : State) (tc : Tc) (w : Sweep), s.swp.sweep = some w ∧ w.closed = true) :=
  ⟨⟨{ live [(F.PHB_STAT_SCHED_RUN, 1), (F.PHB_SCHED_A_ACTION 63, 4)] with phb := { Phb.reset with incBefore := 1, moveTc := some 0 } }, 63, 0, 281474976710656, by decide +kernel⟩,
   ⟨{ (live [(F.PHB_STAT_SCHED_RUN, 1), (F.PHB_SCHED_A_ACTION 63, 4)]).wr 0x30020 1 with phb := { Phb.reset with incBefore := 1 } }, 63, 0, 281474976710656, by decide +kernel⟩,
   ⟨{ live [(F.SWP_CTRL_EN, 1)] with phb := { Phb.reset with noticed := [(5, 5)] } }, 0, 5, 5, by decide +kernel⟩,
   ⟨live [(F.SWP_CTRL_EN, 1), (F.PHB_STAT_SCHED_RUN, 1), (F.PHB_SCHED_A_ACTION 0, 3)], 0, 0, by decide +kernel⟩,
   ⟨sweeps (live []), 0, sweep, ⟨by decide +kernel, List.length_replicate, by decide +kernel⟩⟩,
   ⟨sweeps (live [(F.SWP_DEADLINE_US, 1)]), 0, sweep, ⟨by decide +kernel, List.length_replicate, by decide +kernel⟩⟩,
   ⟨sweeps (live []), 0, sweep, by decide +kernel⟩⟩

theorem meets_CurrentRounds :
    (∃ (s : State) (codes : List (BitVec 16)) (tc : Tc), s.blockDormant 0x12 = false ∧ (∀ a ∈ s.afe.aperture, a ≠ tc ∧ 2125 ≤ (a - tc).toNat)) ∧
    (∃ (s : State) (codes : List (BitVec 16)) (tc : Tc), s.blockDormant 0x12 = false ∧ tc ∉ s.afe.aperture ∧ (∃ a ∈ s.afe.aperture, (a - tc).toNat < 2125)) ∧
    (∃ (s : State) (codes : List (BitVec 16)) (tc : Tc), s.blockDormant 0x12 = false ∧ tc ∈ s.afe.aperture ∧ s.turn tc = some apertureKey) ∧
    (∃ (s : State) (tc : Tc) (r : AfeRound), s.afe.round = some r) :=
  ⟨⟨live [], [], 0, ⟨by decide +kernel, fun a h => absurd h List.not_mem_nil⟩⟩,
   ⟨{ live [] with afe := { Afe.reset with aperture := [5] } }, [], 4, ⟨by decide +kernel, by decide +kernel, ⟨5, List.mem_singleton.mpr rfl, by decide +kernel⟩⟩⟩,
   ⟨{ live [] with afe := { Afe.reset with aperture := [4] } }, [], 4, by decide +kernel⟩,
   ⟨{ live [] with afe := { Afe.reset with round := some ⟨[], 0, false, false, false, [], []⟩ } }, 0, ⟨[], 0, false, false, false, [], []⟩, by decide +kernel⟩⟩

theorem meets_ConverterB :
    (∃ (s : State) (k : Fin 64) (tc : Tc), s.fires k 5 tc = true ∧ s.afeOn = true ∧ s.afe.groupsDue.getLsbD (s.fld (F.PHB_SCHED_A_TARGET k)) = true ∧ s.afe.trigTc.getD (s.fld (F.PHB_SCHED_A_TARGET k)) none ≠ some tc) ∧
    (∃ (s : State) (k : Fin 64) (tc : Tc), s.fires k 5 tc = true ∧ s.afe.trigTc.getD (s.fld (F.PHB_SCHED_A_TARGET k)) none = some tc) ∧
    (∃ (s : State) (k : Fin 64) (tc : Tc) (c : AfeWork × Nat × Bool), s.fires k 5 tc = true ∧ s.afeOn = true ∧ s.afe.conv = some c ∧ s.afe.groupsDue.getLsbD (s.fld (F.PHB_SCHED_A_TARGET k)) = false ∧ s.afe.trigTc.getD (s.fld (F.PHB_SCHED_A_TARGET k)) none ≠ some tc) ∧
    (∃ (s : State) (v : Word) (c : AfeWork × Nat × Bool), s.afeOn = true ∧ s.afe.conv = some c) ∧
    (∃ s : State, s.flag F.AFE_MAINS_EN = true ∧ s.afeOn = true ∧ s.afe.conv = none) ∧
    (∃ (s : State) (c : AfeWork × Nat × Bool), s.afeOn = true ∧ s.afe.conv = some c) ∧
    (∃ s : State, s.afeOn = true ∧ s.afe.conv = none ∧ s.afe.mainsDue = false ∧ s.afe.groupSeq = none ∧ s.afe.groupsDue = 0 ∧ s.afe.hkSeq = none) ∧
    (∃ (s : State) (r : AfeResult) (i : Nat), s.afe.conv = some (.mains, i, false)) ∧
    (∃ (s : State) (r : AfeResult), s.afe.conv = some (.mains, 10, true) ∧ s.afe.mainsDue = true ∧ s.afeOn = true) :=
  ⟨⟨{ live [(F.AFE_CTRL_EN, 1), (F.PHB_STAT_SCHED_RUN, 1), (F.PHB_SCHED_A_ACTION 63, 5)] with afe := { Afe.reset with groupsDue := 1 } }, 63, 0, by decide +kernel⟩,
   ⟨{ live [(F.PHB_STAT_SCHED_RUN, 1), (F.PHB_SCHED_A_ACTION 63, 5)] with afe := { Afe.reset with trigTc := [some 0] } }, 63, 0, by decide +kernel⟩,
   ⟨{ live [(F.AFE_CTRL_EN, 1), (F.PHB_STAT_SCHED_RUN, 1), (F.PHB_SCHED_A_ACTION 0, 5)] with afe := { Afe.reset with conv := some (.mains, 10, false) } }, 0, 0, (.mains, 10, false), by decide +kernel⟩,
   ⟨{ live [(F.AFE_CTRL_EN, 1)] with afe := { Afe.reset with conv := some (.mains, 10, false) } }, 1, (.mains, 10, false), by decide +kernel⟩,
   ⟨live [(F.AFE_CTRL_EN, 1), (F.AFE_MAINS_EN, 1)], by decide +kernel⟩,
   ⟨{ live [(F.AFE_CTRL_EN, 1)] with afe := { Afe.reset with conv := some (.mains, 10, false) } }, (.mains, 10, false), by decide +kernel⟩,
   ⟨live [(F.AFE_CTRL_EN, 1)], by decide +kernel⟩,
   ⟨{ live [] with afe := { Afe.reset with conv := some (.mains, 10, false) } }, ⟨0, false, 0, false⟩, 10, by decide +kernel⟩,
   ⟨{ live [(F.AFE_CTRL_EN, 1)] with afe := { Afe.reset with mainsDue := true, conv := some (.mains, 10, true) } }, ⟨0, false, 0, false⟩, by decide +kernel⟩⟩

theorem meets_BurstsAndCells :
    (∃ (s : State) (p : Fin 8) (e : Word), s.ports.length = 8 ∧ (s.port p).burstEpoch = some e ∧ (s.port p).burstRead &&& ((s.port p).addressed &&& ((s.port p).reachA ||| (s.port p).reachB)) = (s.port p).addressed &&& ((s.port p).reachA ||| (s.port p).reachB)) ∧
    (∃ (s : State) (p : Fin 8) (e : Word) (tc : Tc), s.ports.length = 8 ∧ (s.port p).burstEpoch = some e ∧ (s.port p).burstTc.toNat + 62500000 ≤ tc.toNat) ∧
    (∃ (s : State) (p : Fin 8) (tc : Tc), tc.toNat < (s.port p).burstTc.toNat + 62500000) ∧
    (∃ (s : State) (p : Fin 8) (b : Burst), s.est.bursts.find? (fun b => b.port == p.val) = some b ∧ s.flag F.EST_LEARN_CFG_STEP_EN = false) ∧
    (∃ (s : State) (p : Fin 8) (b : Burst), s.est.bursts.find? (fun b => b.port == p.val) = some b ∧ s.flag F.EST_LEARN_CFG_STEP_EN = true ∧ s.estRuns = true ∧ b.aligned = false) ∧
    (∃ (s : State) (g : Fin 4096) (tc : Tc) (w : Sweep), s.swp.sweep = some w ∧ s.nextPass w = some g.val) ∧
    (∃ (s : State) (g : Fin 4096), s.cellDeclared (strOf g) (monOf g) (celOf g) = true ∧ s.est.restored.get g = 0 ∧ (s.portState (strOf g) = portRing ∨ s.portState (strOf g) = portSplit ∨ s.portState (strOf g) = portFault) ∧ s.newestCopy = none) :=
  ⟨⟨{ live [] with ports := List.replicate 8 { Port.reset with burstEpoch := some 1 } }, 7, 1, by decide +kernel⟩,
   ⟨{ live [] with ports := List.replicate 8 { Port.reset with burstEpoch := some 1 } }, 0, 1, 62500000, by decide +kernel⟩,
   ⟨live [], 0, 0, by decide +kernel⟩,
   ⟨{ live [] with est := { Est.reset with bursts := [⟨7, 1, 0, true, 0, []⟩] } }, 7, ⟨7, 1, 0, true, 0, []⟩, by decide +kernel⟩,
   ⟨{ live [(F.EST_CTRL_EN, 1), (F.EST_STAT_RUN, 1), (F.EST_LEARN_CFG_STEP_EN, 1)] with est := { Est.reset with bursts := [⟨0, 1, 0, false, 0, []⟩] } }, 0, ⟨0, 1, 0, false, 0, []⟩, by decide +kernel⟩,
   ⟨{ (live [(F.EST_CTRL_EN, 1), (F.EST_STAT_RUN, 1)]).putStat 4095 stDeclared true with est := { Est.reset with restored := [(4095, 1)] }, swp := { Swp.reset with sweep := some { sweep with order := [255] } } }, 4095, 0, { sweep with order := [255] }, by decide +kernel⟩,
   ⟨wired [(F.DLK_P_STAT_STATE 7, portRing)], 4095, by decide +kernel⟩⟩

theorem meets_RelearnAndWriteBack :
    (∃ (s : State) (g : Fin 4096), s.blockDormant 6 = false ∧ s.stat g stDeclared = true) ∧
    (∃ (s : State) (g : Fin 4096) (c : Nat), s.blockDormant 6 = false ∧ c < 16 ∧ s.stat (g / 16 * 16 + c) stDeclared = true) ∧
    (∃ (s : State) (g : Fin 4096) (c : Nat), s.blockDormant 6 = false ∧ c < 512 ∧ s.stat (g / 512 * 512 + c) stDeclared = true) ∧
    (∃ (s : State) (tc : Tc), s.blockDormant 6 = false ∧ s.est.wb = none ∧ s.lidHeld = true) ∧
    (∃ (s : State) (tc : Tc), s.blockDormant 6 = false ∧ (s.est.wb.isSome = true ∨ s.lidHeld = false) ∧ s.est.held = []) ∧
    (∃ (s : State) (tc : Tc), s.blockDormant 6 = false ∧ s.est.wb = none ∧ s.lidHeld = true ∧ 10 * minuteTicks ≤ (tc - s.est.lastWb).toNat) ∧
    (∃ (s : State) (tc : Tc) (good : Bool) (w : WriteBack), s.est.wb = some w ∧ s.est.held = []) ∧
    (∃ (s : State) (tc : Tc) (good : Bool) (w : WriteBack) (c : Nat) (rest : List Nat), s.est.wb = some w ∧ s.est.held = c :: rest ∧ (s.lidHeld = true ∨ c = 4)) :=
  ⟨⟨(live []).putStat 4095 stDeclared true, 4095, by decide +kernel⟩,
   ⟨(live []).putStat 4095 stDeclared true, 4080, 15, by decide +kernel⟩,
   ⟨(live []).putStat 4095 stDeclared true, 3584, 511, by decide +kernel⟩,
   ⟨live [], 0, by decide +kernel⟩,
   ⟨{ live [] with est := { Est.reset with wb := some ⟨5, 0, []⟩ } }, 0, by decide +kernel⟩,
   ⟨live [], 150000000000, by decide +kernel⟩,
   ⟨{ live [] with est := { Est.reset with wb := some ⟨1, 0, []⟩ } }, 0, false, ⟨1, 0, []⟩, by decide +kernel⟩,
   ⟨{ live [] with est := { Est.reset with wb := some ⟨1, 0, []⟩, held := [2] } }, 0, true, ⟨1, 0, []⟩, 2, [], by decide +kernel⟩⟩

theorem meets_IslandPathsAndFault :
    (∃ (s : State) (n : Fin 8) (i : BitVec 12) (tc : Tc), s.prt.Sized ∧ s.armed = true ∧ s.declared n = true ∧ s.directActive n .sc i = true) ∧
    (∃ (s : State) (n : Fin 8) (i : BitVec 12) (tc : Tc), s.prt.Sized ∧ s.armed = true ∧ s.declared n = true ∧ s.directActive n .oc i = true) ∧
    (∃ (s : State) (n : Fin 8) (path : DirectPath) (i : BitVec 12) (tc : Tc), s.directActive n path i = false) ∧
    (∃ (s : State) (n : Fin 8) (tc t0 : Tc), s.prt.Sized ∧ (s.isl n).sc = some t0 ∧ passed tc t0 10 = true) ∧
    (∃ (s : State) (n : Fin 8) (tc t0 : Tc), s.prt.Sized ∧ (s.isl n).oc = some t0 ∧ passed tc t0 10 = true) ∧
    (∃ (s : State) (n : Fin 8) (i : BitVec 12) (tc : Tc), s.prt.Sized ∧ s.armed = true ∧ s.declared n = true ∧ s.filteredActive n .foc i = true ∧ s.fld (F.PRT_S_DIDT_FOC_FILT n) ≤ 2 * (tc - (s.isl n).focTc).toNat / 5) ∧
    (∃ (s : State) (n : Fin 8) (i : BitVec 12) (tc : Tc), s.prt.Sized ∧ s.armed = true ∧ s.declared n = true ∧ s.filteredActive n .didt i = true ∧ s.fld (F.PRT_S_DIDT_DIDT_FILT n) ≤ 2 * (tc - (s.isl n).didtTc).toNat / 5) ∧
    (∃ (s : State) (n : Fin 8) (path : FilteredPath) (i : BitVec 12) (tc : Tc), s.filteredActive n path i = false ∨ s.filterCount n path tc < s.filterLen n path) ∧
    (∃ (s : State) (n : Fin 8) (tc : Tc), s.prt.Sized ∧ s.armed = true ∧ s.declared n = true) ∧
    (∃ (s : State) (skew : BitVec 64) (tc : Tc), skew ≠ 0 ∧ s.prt.diffTc = none) ∧
    (∃ (s : State) (skew : BitVec 64) (tc t0 : Tc), s.prt.diffTc = some t0 ∧ passed tc t0 250 = true ∧ s.flag F.PRT_STAT_ISL_FAULT = false) ∧
    (∃ (s : State) (tc t0 : Tc), s.armed = true ∧ s.prt.ch1.latch = s.prt.ch2.latch ∧ s.prt.diffTc = some t0 ∧ passed tc t0 250 = false) ∧
    (∃ (s : State) (tc : Tc), s.flag F.PRT_STAT_ISL_FAULT = true ∧ passed tc s.prt.faultTc 1250000 = true) :=
  ⟨⟨wired [(F.PRT_STAT_ARMED, 1)], 7, 1, 0, ⟨⟨rfl, rfl⟩, by decide +kernel, by decide +kernel, by decide +kernel⟩⟩,
   ⟨wired [(F.PRT_STAT_ARMED, 1)], 0, 1, 0, ⟨⟨rfl, rfl⟩, by decide +kernel, by decide +kernel, by decide +kernel⟩⟩,
   ⟨live [], 0, .sc, 0, 0, by decide +kernel⟩,
   ⟨strings { IslandString.reset with sc := some 0 } [], 7, 10, 0, ⟨⟨rfl, rfl⟩, by decide +kernel, by decide +kernel⟩⟩,
   ⟨strings { IslandString.reset with oc := some 0 } [], 0, 10, 0, ⟨⟨rfl, rfl⟩, by decide +kernel, by decide +kernel⟩⟩,
   ⟨wired [(F.PRT_STAT_ARMED, 1)], 7, 1, 0, ⟨⟨rfl, rfl⟩, by decide +kernel, by decide +kernel, by decide +kernel, by decide +kernel⟩⟩,
   ⟨wired [(F.PRT_STAT_ARMED, 1)], 0, 1, 0, ⟨⟨rfl, rfl⟩, by decide +kernel, by decide +kernel, by decide +kernel, by decide +kernel⟩⟩,
   ⟨live [], 0, .foc, 0, 0, by decide +kernel⟩,
   ⟨wired [(F.PRT_STAT_ARMED, 1)], 7, 0, ⟨⟨rfl, rfl⟩, by decide +kernel, by decide +kernel⟩⟩,
   ⟨live [], 1, 0, by decide +kernel⟩,
   ⟨{ live [] with prt := { Prt.reset with diffTc := some 0 } }, 1, 250, 0, by decide +kernel⟩,
   ⟨{ live [(F.PRT_STAT_ARMED, 1)] with prt := { Prt.reset with diffTc := some 0 } }, 0, 0, by decide +kernel⟩,
   ⟨live [(F.PRT_STAT_ISL_FAULT, 1)], 1250000, by decide +kernel⟩⟩

theorem meets_BreakerStatusAndFaults :
    (∃ (s : State) (n : Fin 8) (closed : Bool) (tc : Tc), s.flag (F.BRK_S_STAT_BST n) ≠ closed ∧ s.declared n = true) ∧
    (∃ (s : State) (n : Fin 8) (tc : Tc), s.declared n = true) ∧
    (∃ (s : State) (n : Fin 8) (tc : Tc), s.fld (F.BRK_S_STAT_PAIR n) = pairOpen ∧ passed tc (s.isl n).pairSince (s.tBrkOpen n) = true ∧ s.flag (F.BRK_S_STAT_BST n) = true) ∧
    (∃ (s : State) (n : Fin 8) (tc : Tc), s.armed = true ∧ s.fld (F.BRK_S_STAT_PAIR n) = pairClose ∧ passed tc (s.isl n).pairSince (s.tBrkClose n) = true ∧ s.flag (F.BRK_S_STAT_BST n) = false) :=
  ⟨⟨wired [], 7, true, 0, by decide +kernel⟩,
   ⟨wired [], 0, 0, by decide +kernel⟩,
   ⟨wired [(F.BRK_S_STAT_PAIR 7, pairOpen), (F.BRK_S_STAT_BST 7, 1)], 7, 0, by decide +kernel⟩,
   ⟨wired [(F.PRT_STAT_ARMED, 1), (F.BRK_S_STAT_PAIR 0, pairClose)], 0, 0, by decide +kernel⟩⟩

theorem meets_StringCommandsArrive :
    (∃ (s : State) (n : Fin 8) (o : Origin), s.arrivalRefusal o = none ∧ (s.isl n).queue.length < 4) ∧
    (∃ (s : State) (n : Fin 8) (o : Origin), s.arrivalRefusal o = none ∧ (s.isl n).queue.length < 4 ∧ (s.matchChecked n = false ∨ s.matchGood n = true)) ∧
    (∃ (s : State) (n : Fin 8) (o : Origin), s.arrivalRefusal o = none) ∧
    (∃ (s : State) (n : Fin 8) (o : Origin), s.arrivalRefusal o = none ∧ 4 ≤ (s.isl n).queue.length) ∧
    (∃ (s : State) (n : Fin 8) (o : Origin), s.islBlocked = true) ∧
    (∃ (s : State) (n : Fin 8) (o : Origin), s.matchChecked n = true ∧ s.matchGood n = false) :=
  ⟨⟨live [], 7, own, by decide +kernel⟩,
   ⟨live [], 0, own, by decide +kernel⟩,
   ⟨live [], 7, own, by decide +kernel⟩,
   ⟨strings { IslandString.reset with queue := List.replicate 4 (1, own) } [], 7, own, by decide +kernel⟩,
   ⟨live [(F.PRT_STAT_REMOVE, 1)], 0, own, by decide +kernel⟩,
   ⟨live [(F.BRK_S_STAT_STATE 7, ssHold)], 7, own, by decide +kernel⟩⟩

theorem meets_StringsMove :
    (∃ (s : State) (n : Fin 8) (o : Origin) (tc : Tc), s.prt.Sized ∧ s.armed = true ∧ s.islBlocked = false ∧ s.declared n = true ∧ (∀ m, m < 8 → m ≠ n.val → s.declared m = false ∧ (s.isl m).queue = [] ∧ (s.isl m).openDue = none) ∧ s.strState n = ssClosed ∧ (s.isl n).openDue = some o ∧ s.portRefusal o = none ∧ (s.isl n).seen = false ∧ s.strLatched n = false ∧ (s.isl n).stateSince ≠ tc) ∧
    (∃ (s : State) (n : Fin 8) (o : Origin) (tc : Tc) (r : Nat), s.prt.Sized ∧ s.armed = true ∧ s.islBlocked = false ∧ s.declared n = true ∧ (∀ m, m < 8 → m ≠ n.val → s.declared m = false ∧ (s.isl m).queue = [] ∧ (s.isl m).openDue = none) ∧ s.strState n = ssClosed ∧ (s.isl n).openDue = some o ∧ s.portRefusal o = some r ∧ (s.isl n).queue = [] ∧ (s.isl n).seen = false ∧ s.strLatched n = false ∧ (s.isl n).stateSince ≠ tc) ∧
    (∃ (s : State) (r : Rails) (tc : Tc), s.armed = false ∧ s.islBlocked = false ∧ (∀ m, m < 8 → s.declared m = false → (s.isl m).queue = [] ∧ (s.isl m).openDue = none)) ∧
    (∃ (s : State) (n : Fin 8) (tc t0 : Tc), s.prt.Sized ∧ s.armed = true ∧ s.declared n = true ∧ s.strState n = ssPrecharge ∧ (s.isl n).preStart = some t0 ∧ passed tc t0 (250000 * s.prtStr n 40 2) = true ∧ (s.isl n).arose = false ∧ (s.isl n).seen = false ∧ s.strLatched n = false ∧ (s.isl n).stateSince ≠ tc) ∧
    (∃ (s : State) (n : Fin 8) (tc : Tc), s.strState n = ssPrecharge ∧ s.pcMin n tc = true) ∧
    (∃ (s : State) (n : Fin 8) (tc : Tc), s.prt.Sized ∧ s.armed = true ∧ s.declared n = true ∧ s.strState n = ssDrop ∧ (s.isl n).seen = false ∧ s.strLatched n = false ∧ (s.isl n).stateSince ≠ tc ∧ passed tc (s.isl n).stateSince (s.longestOpen n) = true) :=
  ⟨⟨{ (live [(F.PRT_STAT_ARMED, 1), (F.BRK_S_STAT_STATE 7, ssClosed)]).withSec 2 [0x80, 0, 0, 0] with prt := { Prt.reset with strs := List.replicate 7 IslandString.reset ++ [{ IslandString.reset with openDue := some own }] } }, 7, own, 1, ⟨⟨rfl, rfl⟩, by decide +kernel, by decide +kernel, by decide +kernel, by decide +kernel, by decide +kernel, by decide +kernel, by decide +kernel, by decide +kernel, by decide +kernel, by decide +kernel⟩⟩,
   ⟨{ (live [(F.PRT_STAT_ARMED, 1), (F.BRK_S_STAT_STATE 7, ssClosed)]).withSec 2 [0x80, 0, 0, 0] with prt := { Prt.reset with strs := List.replicate 7 IslandString.reset ++ [{ IslandString.reset with openDue := some stale }] } }, 7, stale, 1, 2, ⟨⟨rfl, rfl⟩, by decide +kernel, by decide +kernel, by decide +kernel, by decide +kernel, by decide +kernel, by decide +kernel, by decide +kernel, by decide +kernel, by decide +kernel, by decide +kernel, by decide +kernel⟩⟩,
   ⟨live [], ⟨0, 0⟩, 0, by decide +kernel⟩,
   ⟨strings { IslandString.reset with preStart := some 0 } [(F.PRT_STAT_ARMED, 1), (F.BRK_S_STAT_STATE 7, ssPrecharge)], 7, 1, 0, ⟨⟨rfl, rfl⟩, by decide +kernel, by decide +kernel, by decide +kernel, by decide +kernel, by decide +kernel, by decide +kernel, by decide +kernel, by decide +kernel, by decide +kernel⟩⟩,
   ⟨strings { IslandString.reset with preStart := some 0 } [(F.BRK_S_STAT_STATE 0, ssPrecharge)], 0, 0, by decide +kernel⟩,
   ⟨wired [(F.PRT_STAT_ARMED, 1), (F.BRK_S_STAT_STATE 7, ssDrop)], 7, 1, ⟨⟨rfl, rfl⟩, by decide +kernel, by decide +kernel, by decide +kernel, by decide +kernel, by decide +kernel, by decide +kernel, by decide +kernel⟩⟩⟩

theorem meets_ContactorDrivers :
    (∃ (s : State) (k : Fin 28) (tc : Tc), s.flag (F.BRK_CON_ENERGISED k) = true ∧ passed tc (s.driverSince k) (s.tClose k) = true ∧ s.verified k true = false ∧ s.fld (F.BRK_CON_FAULT k) < 9) ∧
    (∃ (s : State) (k : Fin 28) (tc : Tc), s.prt.Sized ∧ s.conUsed k = true ∧ s.flag (F.BRK_CON_ENERGISED k) = false ∧ passed tc (s.driverSince k) (s.tOpen k) = true ∧ s.verified k false = false ∧ s.fld (F.BRK_CON_FAULT k) < 9) ∧
    (∃ (s : State) (k : Fin 28) (tc : Tc), s.flag (F.BRK_CON_ENERGISED k) = true ∧ passed tc (s.driverSince k) 5000000 = true ∧ s.coilSuspended k tc = false ∧ s.fld (F.BRK_CON_IMA k) < s.prtBank 14 2 ∧ s.fld (F.BRK_CON_FAULT k) < 9) ∧
    (∃ (s : State) (k : Fin 28) (ma : BitVec 16) (tc : Tc), s.conUsed k = true ∧ s.fld (F.BRK_CON_FAULT k) < 9) ∧
    (∃ (s : State) (k : Fin 28) (tc : Tc), s.flag (F.BRK_CON_ENERGISED k) = true ∧ passed tc (s.driverSince k) (250000 * s.prtDrv k 2 2) = true) ∧
    (∃ (s : State) (k : Fin 28) (ma : BitVec 16) (high : Bool) (tc : Tc), s.conUsed k = true) :=
  ⟨⟨(live [(F.BRK_CON_ENERGISED 27, 1), (F.BRK_CON_FAULT 27, 8)]).withSec 4 (ones 1024), 27, 637500000, by decide +kernel⟩,
   ⟨live [(F.BRK_CON_USED 27, 1), (F.BRK_CON_IMA 27, 10)], 27, 0, ⟨⟨rfl, rfl⟩, by decide +kernel, by decide +kernel, by decide +kernel, by decide +kernel, by decide +kernel⟩⟩,
   ⟨(live [(F.BRK_CON_ENERGISED 0, 1)]).withSec 4 (ones 1024), 0, 5000000, by decide +kernel⟩,
   ⟨live [(F.BRK_CON_USED 27, 1), (F.BRK_CON_FAULT 27, 8)], 27, 1, 0, by decide +kernel⟩,
   ⟨live [(F.BRK_CON_ENERGISED 27, 1)], 27, 0, by decide +kernel⟩,
   ⟨live [(F.BRK_CON_USED 0, 1)], 0, 9, true, 0, by decide +kernel⟩⟩

theorem meets_AuxiliaryDrivers :
    (∃ (s : State) (a : Fin 4) (o : Origin) (tc : Tc), s.arrivalRefusal o = none ∧ s.bit F.PRT_TWILL_OUT_Y (16 + a) = false ∧ s.conUsed (24 + a) = true ∧ s.flag F.BRK_COIL_LOW = false ∧ s.armed = true ∧ s.testHeld (24 + a) = false ∧ s.onPulse (24 + a) = false ∧ s.flag (F.BRK_CON_ENERGISED (24 + a)) = false ∧ s.prt.Sized) ∧
    (∃ (s : State) (a : Fin 4) (o : Origin) (tc : Tc), s.arrivalRefusal o = none ∧ s.conUsed (24 + a) = true) ∧
    (∃ (s : State) (o : Origin) (tc : Tc) (a : Fin 4), s.arrivalRefusal o = none ∧ s.armed = true ∧ s.latchClass.getLsbD 63 = true ∧ (s.outMask (16 + a)).getLsbD 63 = true ∧ s.conUsed (24 + a) = true) ∧
    (∃ (s : State) (a : Fin 4) (o : Origin) (tc : Tc), s.arrivalRefusal o = none ∧ s.conUsed (24 + a) = false) ∧
    (∃ (s : State) (a : Fin 4) (o : Origin) (tc : Tc), s.arrivalRefusal o = none ∧ s.conUsed (24 + a) = true ∧ s.prt.skew = 0 ∧ s.causeActive (16 + a) = false ∧ passed tc (s.prt.auxTc.getD a 0) (25000000 * s.prtBank 16 1) = true ∧ s.prt.latchTc.getD (16 + a) 0 ≠ tc) ∧
    (∃ (s : State) (strs : BitVec 8) (o : Origin) (n : Fin 8), s.portRefusal o = none ∧ s.prt.Sized ∧ strs.getLsbD n = true ∧ s.declared n = true) ∧
    (∃ (s : State) (a : Fin 4) (o : Origin) (tc : Tc), s.islBlocked = true) :=
  ⟨⟨live [(F.PRT_STAT_ARMED, 1), (F.BRK_CON_USED 27, 1)], 3, own, 0, ⟨by decide +kernel, by decide +kernel, by decide +kernel, by decide +kernel, by decide +kernel, by decide +kernel, by decide +kernel, by decide +kernel, ⟨rfl, rfl⟩⟩⟩,
   ⟨live [(F.BRK_CON_USED 24, 1)], 0, own, 0, by decide +kernel⟩,
   ⟨(live [(F.PRT_STAT_ARMED, 1), (F.BRK_CON_USED 27, 1)]).withSec 4 (ones 1024), own, 0, 3, by decide +kernel⟩,
   ⟨live [], 3, own, 0, by decide +kernel⟩,
   ⟨live [(F.BRK_CON_USED 24, 1)], 0, own, 1, by decide +kernel⟩,
   ⟨wired [], 0x80, own, 7, ⟨by decide +kernel, ⟨rfl, rfl⟩, by decide +kernel, by decide +kernel⟩⟩,
   ⟨live [(F.PRT_STAT_REMOVE, 1)], 0, own, 0, by decide +kernel⟩⟩

theorem meets_CaptureAndInsulation :
    (∃ (s : State) (n : Fin 8) (l : List Byte), s.prt.Sized ∧ (s.isl n).capDue = true ∧ s.flag (F.PRT_S_CAP_STAT_HELD n) = false) ∧
    (∃ (s : State) (x : ImdMeasure) (tc : Tc), s.fld F.PRT_IMD_STAT_ROLE = roleInjector ∧ passed tc s.prt.imdTc (250000 * s.prtBank 2 2) = true ∧ s.fld F.PRT_IMD_STAT_PHASE < 2) ∧
    (∃ (s : State) (x : ImdMeasure) (tc : Tc), passed tc s.prt.imdTc (250000 * s.prtBank 2 2) = false) ∧
    (∃ (s : State) (x : ImdMeasure) (tc : Tc), s.fld F.PRT_IMD_STAT_ROLE = roleInjector ∧ passed tc s.prt.imdTc (250000 * s.prtBank 2 2) = true ∧ 2 ≤ s.fld F.PRT_IMD_STAT_PHASE ∧ 100 * s.prtBank 10 1 < x.drift) ∧
    (∃ (s : State) (x : ImdMeasure) (tc : Tc) (p n : ImdPhase), s.fld F.PRT_IMD_STAT_ROLE = roleInjector ∧ passed tc s.prt.imdTc (250000 * s.prtBank 2 2) = true ∧ 2 ≤ s.fld F.PRT_IMD_STAT_PHASE ∧ x.drift ≤ 100 * s.prtBank 10 1 ∧ s.prt.imd = [p, n] ∧ 1000 * s.prtBank 8 2 ≤ x.low.vp + x.low.vn ∧ p.low = false ∧ n.low = false ∧ p.drift = false ∧ n.drift = false ∧ p.vp * n.vn < p.vn * n.vp) ∧
    (∃ (s : State) (tc t0 : Tc), s.fld F.PRT_IMD_STAT_ROLE ≠ 0 ∧ s.prt.collapseFrom = some t0 ∧ passed tc t0 250000000 = true) ∧
    (∃ (s : State) (tc : Tc), s.collapsed tc = false) ∧
    (∃ (s : State) (tc : Tc), s.prt.collapseFrom = none) ∧
    (∃ (s : State) (tc t0 : Tc), s.prt.collapseFrom = some t0) :=
  ⟨⟨strings { IslandString.reset with capDue := true } [], 7, List.replicate 128 0, ⟨⟨rfl, rfl⟩, by decide +kernel, by decide +kernel⟩⟩,
   ⟨live [(F.PRT_IMD_STAT_ROLE, roleInjector), (F.PRT_IMD_STAT_PHASE, 1)], ⟨⟨0, 0⟩, ⟨0, 0⟩, 0⟩, 0, by decide +kernel⟩,
   ⟨(live []).withSec 4 (ones 1024), ⟨⟨0, 0⟩, ⟨0, 0⟩, 0⟩, 0, by decide +kernel⟩,
   ⟨live [(F.PRT_IMD_STAT_ROLE, roleInjector), (F.PRT_IMD_STAT_PHASE, 2)], ⟨⟨0, 0⟩, ⟨0, 0⟩, 1⟩, 0, by decide +kernel⟩,
   ⟨{ live [(F.PRT_IMD_STAT_ROLE, roleInjector), (F.PRT_IMD_STAT_PHASE, 2)] with prt := { Prt.reset with imd := [⟨0, 1, false, false⟩, ⟨1, 0, false, false⟩] } }, ⟨⟨0, 0⟩, ⟨0, 0⟩, 0⟩, 0, ⟨0, 1, false, false⟩, ⟨1, 0, false, false⟩, by decide +kernel⟩,
   ⟨{ live [(F.PRT_IMD_STAT_ROLE, roleInjector)] with prt := { Prt.reset with collapseFrom := some 0 } }, 250000000, 0, by decide +kernel⟩,
   ⟨live [], 0, by decide +kernel⟩,
   ⟨live [], 0, by decide +kernel⟩,
   ⟨{ live [] with prt := { Prt.reset with collapseFrom := some 0 } }, 0, 0, by decide +kernel⟩⟩

theorem meets_SafetyFunctionsFollowInputs :
    (∃ (s : State) (i : Fin 6) (d : Bool) (tc : Tc), s.saf.Sized ∧ s.flag (F.SAF_SI_STAT_FA i) = !d ∧ passed tc (s.saf.siTc.getD (2 * i) 0) 750000 = true) ∧
    (∃ (s : State) (i : Fin 6) (d : Bool) (tc : Tc), s.saf.Sized ∧ s.flag (F.SAF_SI_STAT_FB i) = !d ∧ passed tc (s.saf.siTc.getD (2 * i + 1) 0) 750000 = true) ∧
    (∃ (s : State) (i : Fin 6) (chB d : Bool) (tc : Tc), passed tc (s.saf.siTc.getD (2 * i + bitN chB) 0) 750000 = false ∨ (if chB then s.flag (F.SAF_SI_STAT_FB i) else s.flag (F.SAF_SI_STAT_FA i)) = d) ∧
    (∃ (s : State) (fns : BitVec 16) (o : Origin) (tc : Tc), s.portRefusal o = none) ∧
    (∃ (s : State) (fns : BitVec 16) (o : Origin) (tc : Tc), s.holdsLid o.lane = false ∧ s.currentEpoch o = true ∧ s.lan.control = none) ∧
    (∃ (s : State) (fns : BitVec 16) (o : Origin) (tc : Tc), s.currentEpoch o = false) :=
  ⟨⟨live [], 0, true, 750000, ⟨⟨rfl, rfl, rfl, rfl, rfl⟩, by decide +kernel, by decide +kernel⟩⟩,
   ⟨live [], 5, true, 750000, ⟨⟨rfl, rfl, rfl, rfl, rfl⟩, by decide +kernel, by decide +kernel⟩⟩,
   ⟨live [], 0, false, false, 750000, by decide +kernel⟩,
   ⟨live [], 0, own, 0, by decide +kernel⟩,
   ⟨live [], 0, ⟨.b, 1⟩, 0, by decide +kernel⟩,
   ⟨live [], 0, stale, 0, by decide +kernel⟩⟩

theorem meets_InputFaults :
    (∃ (s : State) (k : Fin 6) (tc : Tc), (s.siFlags k).testBit 0 = true) ∧
    (∃ (s : State) (k : Fin 6) (tc : Tc), (s.siFlags k).testBit 0 = true ∧ s.disagrees k = true ∧ s.fld (F.SAF_SI_STAT_DCNT k) = s.siDiscT k ∧ s.flag (F.SAF_SI_STAT_DISC k) = false) ∧
    (∃ (s : State) (k : Fin 6) (sp2 : Bool) (high : BitVec 6) (tc : Tc), s.darkDue sp2 tc = true) ∧
    (∃ (s : State) (sp2 : Bool) (high : BitVec 6) (tc : Tc), s.armed = false) ∧
    (∃ (s : State) (high : BitVec 6) (tc t0 : Tc), s.saf.dark1 = some t0 ∧ passed tc t0 2500000 = false) ∧
    (∃ (s : State) (high : BitVec 6) (tc t0 : Tc), s.saf.dark1 = some t0 ∧ passed tc t0 1250000 = false) :=
  ⟨⟨(live []).withSec 5 (ones 300), 5, 0, by decide +kernel⟩,
   ⟨(live [(F.SAF_SI_STAT_FA 0, 1)]).withSec 5 [1], 0, 0, by decide +kernel⟩,
   ⟨live [(F.PRT_STAT_ARMED, 1)], 5, false, 0, 0, by decide +kernel⟩,
   ⟨live [], false, 0, 0, by decide +kernel⟩,
   ⟨{ live [] with saf := { Saf.reset with dark1 := some 0 } }, 0, 0, 0, by decide +kernel⟩,
   ⟨{ live [] with saf := { Saf.reset with dark1 := some 0 } }, 0, 0, 0, by decide +kernel⟩⟩

theorem meets_DriverTests :
    (∃ (s : State) (k : Fin 64) (tc : Tc), s.fires k 2 tc = true ∧ s.armed = true) ∧
    (∃ (s : State) (tc : Tc) (w : TestWindow) (p : Nat), s.saf.window = some w ∧ passed tc w.tc 1250 = true ∧ s.saf.pulse = none ∧ s.testPulse + 10 ≤ w.len ∧ (tc - w.tc).toNat + 250 * s.testPulse ≤ 250 * w.len ∧ s.nextSwitch w.drivers = some p) ∧
    (∃ (s : State) (tc : Tc) (w : TestWindow), s.saf.window = some w ∧ (w.len < s.testPulse + 10 ∨ passed tc w.tc 1250 = false ∨ 250 * w.len < (tc - w.tc).toNat + 250 * s.testPulse)) ∧
    (∃ (s : State) (ma : BitVec 16) (tc : Tc) (p : TestPulse), s.saf.Sized ∧ s.saf.pulse = some p ∧ p.driver < 28 ∧ passed tc p.tc (250 * s.testPulse) = true ∧ (p.off = true ∨ ma.toNat < 10)) ∧
    (∃ (s : State) (ok : Bool) (ma : BitVec 16) (tc : Tc) (p : TestPulse), s.saf.pulse = some p ∧ p.driver < 28 ∧ passed tc p.tc (250 * s.testPulse) = true ∧ (ok = false ∨ p.off = false ∧ 10 ≤ ma.toNat)) ∧
    (∃ (s : State) (k : Fin 28) (low : Bool) (tc : Tc), s.armed = true ∧ s.conUsed k = true ∧ s.fld (F.BRK_CON_FAULT k) < 9 ∧ passed tc (s.saf.passTc.getD (switchPlace k low) 0) (msT (1000 * s.testMax)) = true) :=
  ⟨⟨live [(F.PRT_STAT_ARMED, 1), (F.PHB_STAT_SCHED_RUN, 1), (F.PHB_SCHED_A_ACTION 0, 2)], 0, 0, by decide +kernel⟩,
   ⟨{ live [] with saf := { Saf.reset with window := some ⟨[27], 0, 10⟩ } }, 1250, ⟨[27], 0, 10⟩, 54, by decide +kernel⟩,
   ⟨{ live [] with saf := { Saf.reset with window := some ⟨[27], 0, 9⟩ } }, 0, ⟨[27], 0, 9⟩, by decide +kernel⟩,
   ⟨{ live [] with saf := { Saf.reset with pulse := some ⟨27, true, 0, false⟩ } }, 9, 0, ⟨27, true, 0, false⟩, ⟨⟨rfl, rfl, rfl, rfl, rfl⟩, by decide +kernel, by decide +kernel, by decide +kernel, by decide +kernel⟩⟩,
   ⟨{ live [] with saf := { Saf.reset with pulse := some ⟨27, true, 0, false⟩ } }, true, 10, 0, ⟨27, true, 0, false⟩, by decide +kernel⟩,
   ⟨live [(F.PRT_STAT_ARMED, 1), (F.BRK_CON_USED 27, 1), (F.BRK_CON_FAULT 27, 8)], 27, true, 0, by decide +kernel⟩⟩

theorem meets_SafeDataReceived :
    (∃ (s : State) (c : Fin 4) (l : List Byte) (tc : Tc), s.lan.fw = true ∧ s.sdUsed c = true ∧ sdCopyValid (s.rxField c 0 4) l = false) ∧
    (∃ (s : State) (c : Fin 4) (l : List Byte) (tc : Tc) (k : Nat), s.lan.fw = true ∧ s.sdUsed c = true ∧ sdCopyValid (s.rxField c 0 4) l = false ∧ s.rxMatch 1 (s.rxField c 4 4 % 2 ^ 29) ((s.rxField c 4 4).testBit 29) = some k) ∧
    (∃ (s : State) (c : Fin 4) (eth : Bool) (l : List Byte) (tc : Tc), s.saf.Sized ∧ s.lan.fw = true ∧ s.sdUsed c = true ∧ sdCopyValid (s.rxField c 0 4) l = true ∧ (s.conn c).first = none ∧ (∀ q, (s.conn c).last = some q → seqNewer16 (BitVec.ofNat 16 (leAt l 2 2)) q = true)) ∧
    (∃ (s : State) (c : Fin 4) (eth : Bool) (l : List Byte) (tc : Tc) (w : SdOpen), s.saf.Sized ∧ s.lan.fw = true ∧ s.sdUsed c = true ∧ sdCopyValid (s.rxField c 0 4) l = true ∧ (s.conn c).first = some w ∧ w.seq = BitVec.ofNat 16 (leAt l 2 2) ∧ w.eth = !eth ∧ (tc - w.tc).toNat ≤ s.sdWin c ∧ s.sdState c ≠ sdFault) ∧
    (∃ (s : State) (c : Fin 4) (eth : Bool) (l : List Byte) (tc : Tc), s.lan.fw = false ∧ s.lidHeld = true) ∧
    (∃ (s : State) (c : Fin 4) (tc : Tc) (w : SdOpen), s.saf.Sized ∧ s.lan.fw = true ∧ (s.conn c).first = some w ∧ s.sdWin c < (tc - w.tc).toNat ∧ s.sdState c = sdRun) :=
  ⟨⟨(live []).withSec 5 (ones 300), 3, [], 0, by decide +kernel⟩,
   ⟨(live [(F.CAN_RX_CFG_USED 1 63, 1), (F.CAN_RX_CFG_ID 1 63, 0x1FFFFFFF), (F.CAN_RX_CFG_IDE 1 63, 1)]).withSec 5 (ones 300), 3, [], 0, 63, by decide +kernel⟩,
   ⟨(live []).withSec 5 (ones 300), 3, false, safeMessage, 0, ⟨⟨rfl, rfl, rfl, rfl, rfl⟩, by decide +kernel, by decide +kernel, by decide +kernel, by decide +kernel, fun q h => by cases h⟩⟩,
   ⟨(connected { SdConn.reset with first := some ⟨1, 0, false, 0⟩ } []).withSec 5 (ones 300), 3, true, safeMessage, 0, ⟨1, 0, false, 0⟩, ⟨⟨rfl, rfl, rfl, rfl, rfl⟩, by decide +kernel, by decide +kernel, by decide +kernel, by decide +kernel, by decide +kernel, by decide +kernel, by decide +kernel, by decide +kernel⟩⟩,
   ⟨{ live [] with lan := { Lan.reset with pins := lidPins (some .b), back := lidPins (some .b) } }, 0, true, safeMessage, 0, by decide +kernel⟩,
   ⟨connected { SdConn.reset with first := some ⟨1, 0, false, 0⟩ } [(F.SAF_SD_RX_STAT_STATE 3, sdRun)], 3, 1, ⟨1, 0, false, 0⟩, ⟨⟨rfl, rfl, rfl, rfl, rfl⟩, by decide +kernel, by decide +kernel, by decide +kernel, by decide +kernel⟩⟩⟩

theorem meets_SafeDataKept :
    (∃ (s : State) (c : Fin 4) (tc : Tc), s.saf.Sized ∧ s.lan.fw = true ∧ s.sdState c = sdRun ∧ passed tc (s.conn c).acceptTc (msT (s.rxField c 8 2)) = true) ∧
    (∃ (s : State) (conns : BitVec 4), s.saf.Sized ∧ s.lan.fw = true) ∧
    (∃ (s : State) (c : Fin 4) (v : Word) (o : Origin) (tc : Tc), s.saf.Sized ∧ s.portRefusal o = none) ∧
    (∃ (s : State) (c : Fin 4) (v : Word) (o : Origin) (tc : Tc), s.currentEpoch o = false) ∧
    (∃ (s : State) (c : Fin 4) (tc : Tc), s.hasSec 5 = true ∧ passed tc (s.saf.renewed.getD c 0) (msT s.sdRen) = true) ∧
    (∃ (s : State) (tc : Tc), s.saf.Sized ∧ s.lan.fw = true ∧ s.lidHeld = true) ∧
    (∃ s : State, s.lan.fw = true ∧ (s.txField 4 4).testBit 30 = true) :=
  ⟨⟨live [(F.SAF_SD_RX_STAT_STATE 3, sdRun)], 3, 0, ⟨⟨rfl, rfl, rfl, rfl, rfl⟩, by decide +kernel, by decide +kernel, by decide +kernel⟩⟩,
   ⟨live [], 0xF, ⟨⟨rfl, rfl, rfl, rfl, rfl⟩, by decide +kernel⟩⟩,
   ⟨live [], 3, 7, own, 0, ⟨⟨rfl, rfl, rfl, rfl, rfl⟩, by decide +kernel⟩⟩,
   ⟨live [], 0, 7, stale, 0, by decide +kernel⟩,
   ⟨(live []).withSec 5 [], 3, 0, by decide +kernel⟩,
   ⟨live [], 0, ⟨⟨rfl, rfl, rfl, rfl, rfl⟩, by decide +kernel, by decide +kernel⟩⟩,
   ⟨(live []).withSec 5 (ones 300), by decide +kernel⟩⟩

theorem meets_CanTransmits :
    (∃ (s : State) (c : Fin 2) (tc : Tc) (b : Nat) (f : CanFrame), s.can.length = 2 ∧ (s.canCh c).bufs.length = 3 ∧ b < 3 ∧ (s.canCh c).onBus = some b ∧ (s.txBuf c b).frame = some f) ∧
    (∃ (s : State) (c : Fin 2) (b : Nat), s.can.length = 2 ∧ b < 3 ∧ (s.canCh c).onBus = some b ∧ s.bufHeld c b = true ∧ s.flag (F.CAN_CTRL_EN c) = true) ∧
    (∃ (s : State) (c : Fin 2) (e : CanError) (b : Nat), s.can.length = 2 ∧ b < 3 ∧ (s.canCh c).onBus = some b ∧ s.flag (F.CAN_CTRL_EN c) = true) ∧
    (∃ (s : State) (c : Fin 2) (bufs : BitVec 3) (won : Bool) (b : Nat), s.can.length = 2 ∧ (s.canCh c).bufs.length = 3 ∧ (s.canCh c).queue = [] ∧ s.canState c ≠ canOff ∧ b < 3 ∧ bufs = BitVec.ofNat 3 (2 ^ b) ∧ s.bufHeld c b = true ∧ ((s.canCh c).onBus ≠ some b ∨ won = false)) ∧
    (∃ (s : State) (c : Fin 2) (b : Nat), s.can.length = 2 ∧ (s.canCh c).bufs.length = 3 ∧ s.canState c ≠ canOff ∧ s.flag (F.CAN_CTRL_EN c) = true ∧ b < 3 ∧ s.bufHeld c b = true ∧ (s.canCh c).onBus = some b) :=
  ⟨⟨channels { CanChan.reset with onBus := some 2, bufs := List.replicate 3 held } [], 1, 0, 2, ⟨0, [], 0⟩, by decide +kernel⟩,
   ⟨channels { CanChan.reset with onBus := some 0, bufs := List.replicate 3 held } [(F.CAN_CTRL_EN 1, 1)], 1, 0, by decide +kernel⟩,
   ⟨channels { CanChan.reset with onBus := some 2 } [(F.CAN_CTRL_EN 0, 1)], 0, .ack, 2, by decide +kernel⟩,
   ⟨channels { CanChan.reset with bufs := List.replicate 3 held } [(F.CAN_STAT_STATE 1, canActive)], 1, 4, false, 2, by decide +kernel⟩,
   ⟨channels { CanChan.reset with onBus := some 2, bufs := List.replicate 3 held } [(F.CAN_CTRL_EN 1, 1), (F.CAN_STAT_STATE 1, canActive)], 1, 2, by decide +kernel⟩⟩

theorem meets_CanReceives :
    (∃ (s : State) (c : Fin 2) (f : CanRx) (tc : Tc) (k : Nat), s.can.length = 2 ∧ s.canOn c = true ∧ f.rtr = false ∧ s.rxMatch c f.id.toNat f.ide = some k) ∧
    (∃ (s : State) (c : Fin 2) (f : CanRx) (tc : Tc), s.canOn c = true ∧ f.rtr = false ∧ s.rxMatch c f.id.toNat f.ide = none) ∧
    (∃ (s : State) (c : Fin 2) (f : CanRx) (tc : Tc), s.canOn c = true ∧ f.rtr = true) ∧
    (∃ (s : State) (c : Fin 2) (k : Fin 64), s.can.length = 2) ∧
    (∃ (s : State) (c : Fin 2) (e : CanError), s.can.length = 2 ∧ s.canOn c = true) ∧
    (∃ (s : State) (c : Fin 2), s.canState c = canBusOff) ∧
    (∃ (s : State) (c : Fin 2), s.canState c ≠ canBusOff) ∧
    (∃ (s : State) (c : Fin 2), s.can.length = 2 ∧ s.canState c = canBusOff ∧ (s.canCh c).recovering = true ∧ s.flag (F.CAN_CTRL_EN c) = true) ∧
    (∃ (s : State) (c : Fin 2) (n : Nat), s.can.length = 2 ∧ (s.canCh c).bufs.length = 3 ∧ s.timeMaster c = true ∧ s.flag (F.CAN_CTRL_EN c) = true ∧ s.canState c ≠ canOff ∧ (s.canCh c).commits ≠ (s.canCh c).refDone ∧ (s.canCh c).commits % s.fld (F.CAN_TM_CFG_DIV c) = 0 ∧ n = (if s.fld (F.CAN_TM_STAT_CYC c) < s.fld (F.CAN_TM_CFG_CYC_MAX c) then s.fld (F.CAN_TM_STAT_CYC c) + 1 else 0)) :=
  ⟨⟨live [(F.CAN_STAT_STATE 1, canActive), (F.CAN_RX_CFG_USED 1 63, 1)], 1, frame, 0, 63, by decide +kernel⟩,
   ⟨live [(F.CAN_STAT_STATE 0, canPassive)], 0, frame, 0, by decide +kernel⟩,
   ⟨live [(F.CAN_STAT_STATE 0, canActive)], 0, { frame with rtr := true }, 0, by decide +kernel⟩,
   ⟨live [], 1, 63, by decide +kernel⟩,
   ⟨live [(F.CAN_STAT_STATE 1, canPassive)], 1, .crc, by decide +kernel⟩,
   ⟨live [(F.CAN_STAT_STATE 1, canBusOff)], 1, by decide +kernel⟩,
   ⟨live [], 0, by decide +kernel⟩,
   ⟨channels { CanChan.reset with recovering := true } [(F.CAN_STAT_STATE 1, canBusOff), (F.CAN_CTRL_EN 1, 1)], 1, by decide +kernel⟩,
   ⟨channels { CanChan.reset with commits := 1 } [(F.CAN_STAT_STATE 1, canActive), (F.CAN_CTRL_EN 1, 1), (F.CAN_TM_CFG_EN 1, 1), (F.CAN_TM_CFG_DIV 1, 1)], 1, 0, by decide +kernel⟩⟩

theorem meets_SlotsEvaluate :
    (∃ (s i : State) (k : Fin 64) (tc : Tc), s.cte.Sized ∧ s.fires k 6 tc = true ∧ s.cteRuns = true ∧ i = s.writeDue tc.toNat) ∧
    (∃ (s : State) (tc : Tc) (w : ClassS) (v : Int) (l : Lane), s.cte.Sized ∧ firstS s.cte.waiting = some w ∧ w.slot < 32 ∧ s.cteDormant = false ∧ s.cte.ready = true ∧ s.lan.lid = some l ∧ s.positionAt tc < w.deadline ∧ v = s.lawValue w.slot (satQ31 (if s.flag (F.CTE_L_IO_INV w.slot) then w.y - w.r else w.r - w.y))) ∧
    (∃ (s : State) (tc : Tc) (w : ClassS), firstS s.cte.waiting = some w ∧ s.cteDormant = false ∧ s.cte.ready = true ∧ w.deadline ≤ s.positionAt tc) :=
  ⟨⟨{ live [(F.CTE_CTRL_EN, 1), (F.PHB_STAT_SCHED_RUN, 1), (F.PHB_SCHED_A_ACTION 63, 6)] with cte := { Cte.reset with ready := true } }, State.writeDue ({ live [(F.CTE_CTRL_EN, 1), (F.PHB_STAT_SCHED_RUN, 1), (F.PHB_SCHED_A_ACTION 63, 6)] with cte := { Cte.reset with ready := true } }) 0, 63, 0, ⟨⟨rfl, rfl⟩, by decide +kernel, by decide +kernel, rfl⟩⟩,
   ⟨{ live [] with cte := { Cte.reset with ready := true, waiting := [⟨31, 0, 0, 1⟩] } }, 0, ⟨31, 0, 0, 1⟩, _, .a, ⟨⟨rfl, rfl⟩, by decide +kernel, by decide +kernel, by decide +kernel, by decide +kernel, by decide +kernel, by decide +kernel, rfl⟩⟩,
   ⟨{ live [] with cte := { Cte.reset with ready := true, waiting := [⟨31, 0, 0, 0⟩] } }, 0, ⟨31, 0, 0, 0⟩, by decide +kernel⟩⟩

theorem meets_TrimmersFollowStreams :
    (∃ (s : State) (n : Fin 8) (sync : BitVec 16) (l : List Byte) (tc : Tc), s.cteDormant = false ∧ s.flag (F.CTE_TRIM_STAT_PRESENT n) = true ∧ (sync ≠ 0xF0C3 ∨ crc8 (l.take 7) ≠ l.getD 7 0)) ∧
    (∃ (s : State) (n : Fin 8) (l : List Byte) (tc : Tc), s.cte.Sized ∧ s.cteDormant = false ∧ s.flag (F.CTE_TRIM_STAT_PRESENT n) = true ∧ crc8 (l.take 7) = l.getD 7 0) ∧
    (∃ (s : State) (n : Fin 8) (tc : Tc), s.cte.Sized ∧ s.cteDormant = false ∧ s.flag (F.CTE_TRIM_STAT_PRESENT n) = true ∧ (s.trim n).lost = false ∧ (∀ t0, (s.trim n).good = some t0 → 2700 ≤ (tc - t0).toNat)) ∧
    (∃ (s v : State) (k : Fin 64) (tc : Tc), s.cte.Sized ∧ s.fires k 7 tc = true ∧ s.cteRuns = true ∧ v = ((s.acted (448 + k) tc).writeDue (tc.toNat + 1)).startCarriers) ∧
    (∃ (s : State) (n : Fin 8), s.cte.Sized ∧ s.cte.carriers = true ∧ s.cte.ready = true) ∧
    (∃ (s : State) (n : Fin 8), s.cte.carriers = false ∨ s.cte.ready = false) :=
  ⟨⟨live [(F.CTE_TRIM_STAT_PRESENT 7, 1)], 7, 0, [], 0, by decide +kernel⟩,
   ⟨live [(F.CTE_TRIM_STAT_PRESENT 0, 1)], 0, [], 0, ⟨⟨rfl, rfl⟩, by decide +kernel, by decide +kernel, by decide +kernel⟩⟩,
   ⟨live [(F.CTE_TRIM_STAT_PRESENT 7, 1)], 7, 0, ⟨⟨rfl, rfl⟩, by decide +kernel, by decide +kernel, by decide +kernel, fun t h => by cases h⟩⟩,
   ⟨{ live [(F.CTE_CTRL_EN, 1), (F.PHB_STAT_SCHED_RUN, 1), (F.PHB_SCHED_A_ACTION 63, 7)] with cte := { Cte.reset with ready := true } }, State.startCarriers (State.writeDue (State.acted ({ live [(F.CTE_CTRL_EN, 1), (F.PHB_STAT_SCHED_RUN, 1), (F.PHB_SCHED_A_ACTION 63, 7)] with cte := { Cte.reset with ready := true } }) 511 0) 1), 63, 0, ⟨⟨rfl, rfl⟩, by decide +kernel, by decide +kernel, rfl⟩⟩,
   ⟨{ live [] with cte := { Cte.reset with ready := true, carriers := true } }, 7, ⟨⟨rfl, rfl⟩, by decide +kernel, by decide +kernel⟩⟩,
   ⟨live [], 0, by decide +kernel⟩⟩

theorem meets_TrimmerCommands :
    (∃ (s : State) (n : Fin 8) (o : Origin), s.cte.Sized ∧ s.cteDormant = false ∧ s.portRefusal o = none ∧ s.trimState n = trimOff ∧ s.flag (F.CTE_TRIM_STAT_PRESENT n) = true) ∧
    (∃ (s : State) (n : Fin 8) (o : Origin) (tc : Tc), s.cte.Sized ∧ s.cteDormant = false ∧ s.portRefusal o = none ∧ s.flag (F.CTE_TRIM_STAT_PRESENT n) = true ∧ s.trimState n = trimBypass ∧ s.tripInput n = false ∧ s.streamValid n tc = true ∧ (s.fld (F.CTE_TRIM_STAT_STATUS n)) % 4 = 1) ∧
    (∃ (s : State) (n : Fin 8) (o : Origin) (tc : Tc), s.cteDormant = false ∧ s.portRefusal o = none ∧ s.flag (F.CTE_TRIM_STAT_PRESENT n) = true ∧ s.trimState n = trimBypass ∧ s.tripInput n = true) ∧
    (∃ (s : State) (n : Fin 8) (o : Origin), s.cte.Sized ∧ s.cteDormant = false ∧ s.portRefusal o = none ∧ s.flag (F.CTE_TRIM_STAT_PRESENT n) = true ∧ s.trimState n = trimRun) ∧
    (∃ (s : State) (n : Fin 8) (o : Origin), s.cte.Sized ∧ s.cteDormant = false ∧ s.portRefusal o = none ∧ s.flag (F.CTE_TRIM_STAT_PRESENT n) = true ∧ s.trimState n = trimBypass ∧ (s.strState n = ssOpen ∨ s.strState n = ssTripped ∨ s.strState n = ssLockout)) ∧
    (∃ (s : State) (n : Fin 8) (o : Origin) (tc : Tc), s.cteDormant = false ∧ s.portRefusal o = none ∧ s.flag (F.CTE_TRIM_STAT_PRESENT n) = true ∧ s.trimState n ≠ trimBypass) ∧
    (∃ (s : State) (n : Fin 8) (o : Origin) (tc : Tc), s.cteDormant = false ∧ s.portRefusal o = none ∧ s.flag (F.CTE_TRIM_STAT_PRESENT n) = false) ∧
    (∃ (s : State) (n : Fin 8) (o : Origin) (tc : Tc), s.cteDormant = false ∧ s.holdsLid o.lane = false ∧ s.currentEpoch o = true ∧ s.lan.control = none) ∧
    (∃ (s : State) (l : Fin 32) (c : Coeff) (v : Word) (o : Origin), s.cteDormant = false ∧ s.portRefusal o = none ∧ s.flag (F.CTE_L_CFG_DWR_EN l) = true ∧ (s.flag (F.CTE_L_CFG_FMT l) = false ∨ mantissaOk v = true)) ∧
    (∃ (s : State) (l : Fin 32) (c : Coeff) (v : Word) (o : Origin), s.cteDormant = false ∧ s.portRefusal o = none ∧ s.flag (F.CTE_L_CFG_DWR_EN l) = false) :=
  ⟨⟨live [(F.CTE_TRIM_STAT_PRESENT 7, 1)], 7, own, ⟨⟨rfl, rfl⟩, by decide +kernel, by decide +kernel, by decide +kernel, by decide +kernel⟩⟩,
   ⟨{ live [(F.CTE_TRIM_STAT_PRESENT 7, 1), (F.CTE_TRIM_STAT_STATE 7, trimBypass), (F.CTE_TRIM_STAT_STATUS 7, 1), (F.BRK_S_STAT_STATE 7, 6)] with cte := { Cte.reset with trims := List.replicate 8 { Trim.reset with good := some 0 } } }, 7, own, 200, ⟨⟨rfl, rfl⟩, by decide +kernel, by decide +kernel, by decide +kernel, by decide +kernel, by decide +kernel, by decide +kernel, by decide +kernel⟩⟩,
   ⟨live [(F.CTE_TRIM_STAT_PRESENT 0, 1), (F.CTE_TRIM_STAT_STATE 0, trimBypass)], 0, own, 0, by decide +kernel⟩,
   ⟨live [(F.CTE_TRIM_STAT_PRESENT 7, 1), (F.CTE_TRIM_STAT_STATE 7, trimRun)], 7, own, ⟨⟨rfl, rfl⟩, by decide +kernel, by decide +kernel, by decide +kernel, by decide +kernel⟩⟩,
   ⟨live [(F.CTE_TRIM_STAT_PRESENT 7, 1), (F.CTE_TRIM_STAT_STATE 7, trimBypass), (F.BRK_S_STAT_STATE 7, ssTripped)], 7, own, ⟨⟨rfl, rfl⟩, by decide +kernel, by decide +kernel, by decide +kernel, by decide +kernel, by decide +kernel⟩⟩,
   ⟨live [(F.CTE_TRIM_STAT_PRESENT 0, 1), (F.CTE_TRIM_STAT_STATE 0, trimRun)], 0, own, 0, by decide +kernel⟩,
   ⟨live [], 0, own, 0, by decide +kernel⟩,
   ⟨live [], 0, ⟨.b, 1⟩, 0, by decide +kernel⟩,
   ⟨live [(F.CTE_L_CFG_DWR_EN 31, 1), (F.CTE_L_CFG_FMT 31, 1)], 31, .a3, 0x007FFFFF, own, by decide +kernel⟩,
   ⟨live [], 31, .b0, 0, own, by decide +kernel⟩⟩

theorem meets_DispatchAndThermal :
    (∃ (s : State) (tc : Tc) (snap : Snapshot) (host : Word), s.dsp.work = some (snap, host)) ∧
    (∃ (s : State) (v : Word) (tc : Tc), s.blockDormant 10 = false) ∧
    (∃ (s : State) (tc : Tc), s.blockDormant 10 = false ∧ s.fld F.DSP_HOST_TMO_TMO ≠ 0 ∧ passed tc s.dsp.hostTc (msTicks (s.fld F.DSP_HOST_TMO_TMO)) = true) ∧
    (∃ (s : State) (m : RecMedia) (tc : Tc), s.roundDue = true ∧ s.blockDormant 11 = false) ∧
    (∃ s : State, s.blockDormant 11 = false ∧ s.causeSet = true ∧ s.junctionsCool = true) ∧
    (∃ s : State, s.blockDormant 11 = false ∧ s.causeSet = true ∧ s.junctionsCool = false) ∧
    (∃ (s : State) (key : Word), key ≠ 0x5A3C) ∧
    (∃ (s : State) (tc : Tc), s.thm.clearing = true ∧ s.lidHeld = true) ∧
    (∃ (s : State) (tc : Tc), s.thm.clearing = false ∨ s.lidHeld = false) :=
  ⟨⟨{ live [] with dsp := { Dsp.reset with work := some (Snapshot.empty, 0) } }, 0, Snapshot.empty, 0, by decide +kernel⟩,
   ⟨live [], 5, 0, by decide +kernel⟩,
   ⟨live [(F.DSP_HOST_TMO_TMO, 1)], 250000, by decide +kernel⟩,
   ⟨{ live [] with thm := { Thm.reset with due := true } }, ⟨0, 0, true, false⟩, 0, by decide +kernel⟩,
   ⟨{ live [(F.THM_STAT_SD_PEND, 1)] with thm := { Thm.reset with ok1 := true, ok2 := true } }, by decide +kernel⟩,
   ⟨live [(F.THM_STAT_SD_PEND, 1)], by decide +kernel⟩,
   ⟨live [], 0, by decide +kernel⟩,
   ⟨{ live [] with thm := { Thm.reset with clearing := true } }, 0, by decide +kernel⟩,
   ⟨live [], 0, by decide +kernel⟩⟩

theorem meets_RecorderCommands :
    (∃ (s : State) (tc : Tc), s.lidHeld = true) ∧
    (∃ (s : State) (m : RecMedia), s.recRuns = true ∧ s.rcd.lastFold + s.fld F.REC_CFG_FOLD ≤ s.fld F.REC_HOURS_VALUE ∧ s.flag F.REC_STAT_HOLD = true) ∧
    (∃ (s : State) (m : RecMedia), s.recRuns = true ∧ s.rcd.lastFold + s.fld F.REC_CFG_FOLD ≤ s.fld F.REC_HOURS_VALUE ∧ s.flag F.REC_STAT_HOLD = false ∧ s.flashUsable = true ∧ s.flag F.REC_STAT_FRAM_DEG = false ∧ m.flash = 0 ∧ m.fram = 0 ∧ s.fld F.REC_SEQ_END_VALUE + 1 < 2 ^ 32) ∧
    (∃ (s : State) (v : Word), s.recRuns = true ∧ v.toNat ≠ 0 ∧ (v.toNat < s.fld F.REC_SEQ_BEGIN_VALUE ∨ s.fld F.REC_SEQ_END_VALUE < v.toNat)) ∧
    (∃ (s : State) (v : Word), s.recRuns = true ∧ (v.toNat = 0 ∨ 0 < s.fld F.REC_SEQ_BEGIN_VALUE ∧ s.fld F.REC_SEQ_BEGIN_VALUE ≤ v.toNat ∧ v.toNat ≤ s.fld F.REC_SEQ_END_VALUE)) ∧
    (∃ (s : State) (q : Nat) (l : List Byte), s.rcd.loading = some q ∧ q ≠ 0 ∧ s.recordOf q = some l ∧ recordValid l = true) ∧
    (∃ (s : State) (tc : Tc), s.recRuns = true) ∧
    (∃ (s : State) (tc : Tc), s.recRuns = true ∧ s.flag F.REC_STAT_HOLD = true ∧ passed tc s.rcd.holdTc (s.fld F.REC_CFG_HOLD_MAX * minuteTicks) = true) ∧
    (∃ (s : State) (sg : Bool) (m : RecMedia), s.recRuns = true ∧ s.clrRefusal sg ≠ 0) ∧
    (∃ (s : State) (sg : Bool) (m : RecMedia), s.recRuns = true ∧ s.clrRefusal sg = 0) :=
  ⟨⟨live [], 0, by decide +kernel⟩,
   ⟨live [(F.REC_STAT_RUN, 1), (F.REC_STAT_HOLD, 1)], ⟨0, 0, true, false⟩, by decide +kernel⟩,
   ⟨live [(F.REC_STAT_RUN, 1)], ⟨0, 0, true, false⟩, by decide +kernel⟩,
   ⟨live [(F.REC_STAT_RUN, 1)], 1, by decide +kernel⟩,
   ⟨live [(F.REC_STAT_RUN, 1), (F.REC_SEQ_BEGIN_VALUE, 1), (F.REC_SEQ_END_VALUE, 1)], 1, by decide +kernel⟩,
   ⟨{ live [] with rcd := { Rec.reset with loading := some 1, flash := [(0, record)] } }, 1, record, by decide +kernel⟩,
   ⟨live [(F.REC_STAT_RUN, 1)], 0, by decide +kernel⟩,
   ⟨live [(F.REC_STAT_RUN, 1), (F.REC_STAT_HOLD, 1), (F.REC_CFG_HOLD_MAX, 1)], 15000000000, by decide +kernel⟩,
   ⟨live [(F.REC_STAT_RUN, 1)], true, ⟨0, 0, true, false⟩, by decide +kernel⟩,
   ⟨live [(F.REC_STAT_RUN, 1), (F.REC_CLR_TOKEN_BYTES 0, 0x15243)], true, ⟨0, 0, true, false⟩, by decide +kernel⟩⟩

theorem meets_EthernetPorts :
    (∃ (s : State) (p : Fin 2) (stamp : Nat), s.eth.Sized ∧ s.ethUp p = true) ∧
    (∃ (s : State) (p : Fin 2) (q : BitVec 16) (i e : Nat), s.ethUp p = true) ∧
    (∃ (s : State) (p : Fin 3) (f : EthFrame) (tc : Tc), s.ethUp p = true ∧ s.blockDormant 16 = false ∧ (p = 2 → s.lidHeld = true) ∧ (f.fcs = false ∨ 1518 < f.bytes.length)) ∧
    (∃ (s : State) (f : EthFrame) (tc : Tc), s.blockDormant 16 = false ∧ s.lidHeld = false) ∧
    (∃ (s : State) (f : EthFrame) (tc : Tc) (e : Nat × Nat × Tc), s.ethUp 0 = true ∧ s.ethUp 1 = true ∧ s.blockDormant 16 = false ∧ f.fcs = true ∧ f.bytes.length ≤ 1518 ∧ ptpAt f.bytes = none ∧ macGroup (beAt f.bytes 0 6) = false ∧ beAt f.bytes 0 6 ≠ s.macOwn ∧ s.flag F.ETH_CFG_ISOLATE = false ∧ (ethLearn s.eth.table (beAt f.bytes 6 6) 0 tc).find? (fun x => x.1 == beAt f.bytes 0 6) = some e ∧ e.2.1 = 1 ∧ (f.full.getD 1 0).getLsbD (s.ethQueue f.bytes) = false) ∧
    (∃ (s : State) (p : Fin 2) (up : Bool), s.blockDormant 16 = false ∧ s.flag (ethLink p) ≠ up ∧ (up = true → s.fld (ethTc10 p) ≠ tc10Asleep)) ∧
    (∃ (s : State) (p : Fin 2), s.fld (ethTc10 p) = tc10Asleep) ∧
    (∃ (s : State) (p : Fin 2), s.blockDormant 16 = false ∧ s.flag (ethLink p) = true ∧ s.flag F.ETH_CFG_ACCEPT_SLEEP = true) ∧
    (∃ (s : State) (p : Fin 2), s.blockDormant 16 = false ∧ s.flag (ethLink p) = true ∧ s.flag F.ETH_CFG_ACCEPT_SLEEP = false) :=
  ⟨⟨live [(ethLink 1, 1)], 1, 0, ⟨rfl, by decide +kernel⟩⟩,
   ⟨live [(ethLink 0, 1)], 0, 0, 0, 0, by decide +kernel⟩,
   ⟨live [], 2, ⟨List.replicate 14 0, false, 0, [], []⟩, 0, by decide +kernel⟩,
   ⟨{ live [] with lan := Lan.reset }, ⟨List.replicate 14 0, true, 0, [], []⟩, 0, by decide +kernel⟩,
   ⟨{ live [(ethLink 0, 1), (ethLink 1, 1)] with eth := { Eth.reset with table := [(0x020000000001, 1, 0)] } }, ⟨[2, 0, 0, 0, 0, 1, 2, 0, 0, 0, 0, 2, 8, 0], true, 0, [], []⟩, 0, (0x020000000001, 1, 0), by decide +kernel⟩,
   ⟨live [], 1, true, by decide +kernel⟩,
   ⟨live [(ethTc10 1, tc10Asleep)], 1, by decide +kernel⟩,
   ⟨live [(ethLink 1, 1), (F.ETH_CFG_ACCEPT_SLEEP, 1)], 1, by decide +kernel⟩,
   ⟨live [(ethLink 0, 1)], 0, by decide +kernel⟩⟩

theorem meets_LiveSetAndConfirmation :
    (∃ s : State, s.stagingOpen = true ∧ s.fld F.CFG_LS_STAT_STATE = lsIdle ∧ s.flag F.CFG_LS_STAT_OVF = false ∧ s.cfg.staging ≠ []) ∧
    (∃ s : State, s.stagingOpen = true ∧ s.fld F.CFG_LS_STAT_STATE = lsIdle ∧ s.flag F.CFG_LS_STAT_OVF = true) ∧
    (∃ s : State, s.stagingOpen = true ∧ s.fld F.CFG_LS_STAT_STATE = lsIdle ∧ s.flag F.CFG_LS_STAT_OVF = false ∧ s.cfg.staging = []) ∧
    (∃ s : State, s.stagingOpen = true ∧ s.fld F.CFG_LS_STAT_STATE ≠ lsIdle) ∧
    (∃ s : State, s.stagingOpen = false) ∧
    (∃ s : State, s.stagingOpen = true) ∧
    (∃ s : State, s.fld F.CFG_LS_STAT_STATE = lsChecking ∧ s.checkSet s.cfg.submitted = none) ∧
    (∃ (s : State) (c a : Nat), s.fld F.CFG_LS_STAT_STATE = lsChecking ∧ s.checkSet s.cfg.submitted = some (c, a)) ∧
    (∃ (s : State) (v : Word), s.fld (F.CFG_SLOT_STAT_STATE (fieldOf v 0 2)) = slVerified ∧ fieldOf v 0 2 ≠ fieldOf v 4 2 ∧ (v.getLsbD 8 = true → s.fld (F.CFG_SLOT_STAT_STATE (fieldOf v 4 2)) = slVerified)) ∧
    (∃ (s : State) (v : Word), s.fld (F.CFG_SLOT_STAT_STATE (fieldOf v 0 2)) ≠ slVerified ∨ fieldOf v 0 2 = fieldOf v 4 2) ∧
    (∃ (s : State) (v : Word) (tc : Tc), s.flag F.CFG_STAT_CONFIRMED = false ∧ s.flag F.CFG_STAT_VALID = true ∧ v.toNat = s.fld F.CFG_SAFETY_CV_VALUE) ∧
    (∃ (s : State) (v : Word) (tc : Tc), s.flag F.CFG_STAT_CONFIRMED = false ∧ v.toNat ≠ s.fld F.CFG_SAFETY_CV_VALUE) ∧
    (∃ (s : State) (v : Word) (tc : Tc), s.flag F.CFG_STAT_CONFIRMED = false ∧ s.flag F.CFG_STAT_CONF_WIN = true ∧ (tc - s.cfg.windowTc).toNat ≤ confirmWindow ∧ (~~~v).toNat = s.fld F.CFG_SAFETY_CV_VALUE) ∧
    (∃ (s : State) (v : Word) (tc : Tc), s.flag F.CFG_STAT_CONFIRMED = true) ∧
    (∃ (s : State) (tc : Tc), s.flag F.CFG_STAT_CONF_WIN = true ∧ confirmWindow ≤ (tc - s.cfg.windowTc).toNat) ∧
    (∃ s : State, s.cfg.Sized ∧ s.cfg.confirmWriting = true ∧ s.lidHeld = true) ∧
    (∃ s : State, s.cfg.confirmWriting = false ∨ s.lidHeld = false) :=
  ⟨⟨{ live [] with cfg := { Cfg.reset with staging := [(0xd0004, 0)] } }, by decide +kernel⟩,
   ⟨live [(F.CFG_LS_STAT_OVF, 1)], by decide +kernel⟩,
   ⟨live [], by decide +kernel⟩,
   ⟨live [(F.CFG_LS_STAT_STATE, lsPassed)], by decide +kernel⟩,
   ⟨base [], by decide +kernel⟩,
   ⟨live [], by decide +kernel⟩,
   ⟨configured, by decide +kernel⟩,
   ⟨{ live [(F.CFG_LS_STAT_STATE, lsChecking)] with cfg := { Cfg.reset with submitted := [(0xd0004, 0xFFFFFFFF)] } }, 20, 0xd0004, by decide +kernel⟩,
   ⟨live [(F.CFG_SLOT_STAT_STATE 3, slVerified), (F.CFG_SLOT_STAT_STATE 0, slVerified)], 0x103, by decide +kernel⟩,
   ⟨live [], 0x10, by decide +kernel⟩,
   ⟨live [(F.CFG_STAT_VALID, 1)], 0, 0, by decide +kernel⟩,
   ⟨live [], 1, 0, by decide +kernel⟩,
   ⟨live [(F.CFG_STAT_CONF_WIN, 1)], 0xFFFFFFFF, 2500000000, by decide +kernel⟩,
   ⟨live [(F.CFG_STAT_CONFIRMED, 1)], 0, 0, by decide +kernel⟩,
   ⟨live [(F.CFG_STAT_CONF_WIN, 1)], 2500000000, by decide +kernel⟩,
   ⟨{ live [] with cfg := { Cfg.reset with confirmWriting := true } }, ⟨⟨rfl, rfl⟩, by decide +kernel, by decide +kernel⟩⟩,
   ⟨live [], by decide +kernel⟩⟩

theorem meets_SessionsAndUpdates :
    (∃ (s : State) (src : BitVec 48) (sg : Bool) (tc : Tc), s.serviceUp = true ∧ s.authRefusal sg = 0) ∧
    (∃ (s : State) (src : BitVec 48) (sg : Bool) (tc : Tc), s.serviceUp = true ∧ s.authRefusal sg ≠ 0) ∧
    (∃ (s : State) (x : Session), s.serviceUp = true ∧ s.upd.session = some x) ∧
    (∃ (s : State) (tc : Tc) (x : Session), s.upd.session = some x ∧ (x.endTc.toNat ≤ tc.toNat ∨ passed tc x.lastTc (minTicks 10) = true)) ∧
    (∃ (s : State) (v : Word) (tc : Tc) (k n : Nat), s.serviceUp = true ∧ fieldOf v 0 2 = 1 ∧ k = fieldOf v 4 2 ∧ n = fieldOf v 8 2 ∧ s.mayTransfer k = true ∧ s.upd.xfer = none ∧ s.slotRefused k n = false ∧ s.fld F.UPD_XFER_LEN_VALUE ≤ targetLimit k) ∧
    (∃ (s : State) (v : Word) (tc : Tc), s.serviceUp = true ∧ fieldOf v 0 2 = 1 ∧ s.mayTransfer (fieldOf v 4 2) = true ∧ s.upd.xfer.isSome = true) ∧
    (∃ (s : State) (v : Word) (x : Xfer), s.serviceUp = true ∧ fieldOf v 0 2 = 2 ∧ s.upd.session.isSome = true ∧ s.upd.xfer = some x) ∧
    (∃ (s : State) (tc : Tc) (x : Xfer), s.upd.xfer = some x ∧ s.fld F.UPD_XFER_STAT_STATE = 1 ∧ passed tc x.lastTc 7500000000 = true) ∧
    (∃ (s : State) (src : BitVec 48) (l : List Byte) (tc : Tc) (x : Xfer) (n off : Nat), s.hearsXfer src = true ∧ n = leAt l 4 2 ∧ off = leAt l 0 4 ∧ 1 ≤ n ∧ n ≤ 1024 ∧ l.length = 8 + n ∧ s.upd.xfer = some x ∧ off = x.data.length ∧ s.fld F.UPD_XFER_STAT_STATE = 1 ∧ blockFits x n = true) ∧
    (∃ (s : State) (src : BitVec 48) (l : List Byte) (tc : Tc) (x : Xfer) (n off : Nat), s.hearsXfer src = true ∧ n = leAt l 4 2 ∧ off = leAt l 0 4 ∧ 1 ≤ n ∧ n ≤ 1024 ∧ l.length = 8 + n ∧ s.upd.xfer = some x ∧ off ≠ x.data.length) ∧
    (∃ (s : State) (v : XferVerdict) (x : Xfer), s.cfg.Sized ∧ s.upd.xfer = some x ∧ s.fld F.UPD_XFER_STAT_STATE = 2 ∧ x.target = 1 ∧ x.slot < 4) ∧
    (∃ (s : State) (v : XferVerdict) (x : Xfer), s.upd.xfer = some x ∧ s.fld F.UPD_XFER_STAT_STATE = 2 ∧ x.target = 3 ∧ s.xferCode x v = 0) ∧
    (∃ (s : State) (v : Word) (k : Nat), s.serviceUp = true ∧ s.upd.session.isSome = true ∧ k = fieldOf v 0 1 ∧ fieldOf v 16 16 = 0x5A17 ∧ s.bootable k = true ∧ s.flag (F.UPD_FW_STAT_RUNNING k) = false) ∧
    (∃ s : State, s.serviceUp = true ∧ s.upd.session.isSome = true ∧ s.bootTrial = true ∧ s.bootTrialSlot = s.runningSlot ∧ s.flag F.PWR_STAT_READY = true) :=
  ⟨⟨live [(F.UPD_AUTH_BYTES 0, 0x15353), (F.UPD_KS_STAT_KEYS, 4)], 0, true, 0, by decide +kernel⟩,
   ⟨live [], 0, true, 0, by decide +kernel⟩,
   ⟨session none [], ⟨0, 0, 0⟩, by decide +kernel⟩,
   ⟨session none [], 0, ⟨0, 0, 0⟩, by decide +kernel⟩,
   ⟨session none [], 0x11, 0, 1, 0, by decide +kernel⟩,
   ⟨session (some xfer) [], 0x11, 0, by decide +kernel⟩,
   ⟨session (some xfer) [], 2, xfer, by decide +kernel⟩,
   ⟨session (some xfer) [(F.UPD_XFER_STAT_STATE, 1)], 7500000000, xfer, by decide +kernel⟩,
   ⟨session (some xfer) [(F.UPD_XFER_STAT_STATE, 1)], 0, [0, 0, 0, 0, 1, 0, 0, 0, 0xAA], 0, xfer, 1, 0, by decide +kernel⟩,
   ⟨session (some xfer) [], 0, [1, 0, 0, 0, 1, 0, 0, 0, 0xAA], 0, xfer, 1, 1, by decide +kernel⟩,
   ⟨session (some xfer) [(F.UPD_XFER_STAT_STATE, 2)], ⟨false, [], false, false⟩, xfer, ⟨⟨rfl, rfl⟩, by decide +kernel, by decide +kernel, by decide +kernel, by decide +kernel⟩⟩,
   ⟨session (some { xfer with target := 3, data := [0x50, 0x48, 0x58, 0x43, 1, 0, 4, 0] ++ List.replicate 16 0 ++ [0x96, 0x40, 0, 0] }) [(F.UPD_XFER_STAT_STATE, 2)], ⟨true, [], true, true⟩, { xfer with target := 3, data := [0x50, 0x48, 0x58, 0x43, 1, 0, 4, 0] ++ List.replicate 16 0 ++ [0x96, 0x40, 0, 0] }, by decide +kernel⟩,
   ⟨session none [(F.UPD_FW_STAT_STATE 1, slVerified)], 0x5A170001, 1, by decide +kernel⟩,
   ⟨{ session none [(F.PWR_STAT_READY, 1)] with upd := { Upd.reset with session := some ⟨0, 0, 0⟩, boot := 2 } }, by decide +kernel⟩⟩

theorem meets_SequenceProgram :
    (∃ (s : State), s.inSession = true ∧ s.blockDormant 14 = false) ∧
    (∃ (s : State) (b : BitVec 8), s.blockDormant 14 = false) ∧
    (∃ (s : State) (x : OlcCheck), s.blockDormant 14 = false ∧ (s.upd.areaState ≠ slVerified ∨ x.base.toNat ≠ s.fld F.SEQ_PROG_CV_CV)) ∧
    (∃ (s : State) (x : OlcCheck), s.blockDormant 14 = false ∧ s.upd.areaState = slVerified ∧ x.base.toNat = s.fld F.SEQ_PROG_CV_CV) ∧
    (∃ (s : State) (i : Fin 16) (l : List Byte) (tc : Tc) (x : SeqStation), s.seq.Sized ∧ s.seqStations.find? (fun x => x.index == i.val) = some x ∧ s.inValid x l = false) ∧
    (∃ (s : State) (i : Fin 16) (l : List Byte) (tc : Tc) (x : SeqStation), s.seq.Sized ∧ s.seqStations.find? (fun x => x.index == i.val) = some x ∧ s.inValid x l = true ∧ (s.stn i).waiting = true) ∧
    (∃ (s : State) (i : Fin 16) (tc : Tc) (x : SeqStation), s.seq.Sized ∧ s.seqStations.find? (fun x => x.index == i.val) = some x ∧ (s.stn i).waiting = true ∧ msTicks x.respTmo ≤ (tc - (s.stn i).sentTc).toNat) ∧
    (∃ (s : State) (n : Nat) (tc : Tc), s.inCharge = true ∧ s.blockDormant 14 = false ∧ s.seq.cycleDue = true ∧ s.seq.running = false) ∧
    (∃ (s : State) (n : Nat) (tc : Tc), s.inCharge = true ∧ s.blockDormant 14 = false ∧ s.seq.running = true ∧ s.seq.stopping = false ∧ s.seq.todo = [] ∧ (s.seq.phase4 = some false ∨ (s.seq.phase4 = none ∧ s.errorDue = false)) ∧ s.outputVars = []) ∧
    (∃ (s : State) (tc : Tc), s.inCharge = true ∧ s.seq.running = true ∧ passed tc s.seq.startTc (msTicks (s.fld F.SEQ_CFG_WDT * s.fld F.SEQ_CFG_CYCLE)) = true ∧ (∀ v ∈ s.seqVars, v.binding = none)) :=
  ⟨⟨session none [], by decide +kernel⟩,
   ⟨live [], 1, by decide +kernel⟩,
   ⟨live [], ⟨true, 0⟩, by decide +kernel⟩,
   ⟨{ live [] with upd := { Upd.reset with areaState := slVerified } }, ⟨true, 0⟩, by decide +kernel⟩,
   ⟨stations Station.reset, 15, [], 0, station, ⟨rfl, by decide +kernel, by decide +kernel⟩⟩,
   ⟨stations { Station.reset with waiting := true }, 15, [0, 0], 0, station, ⟨rfl, by decide +kernel, by decide +kernel, by decide +kernel⟩⟩,
   ⟨stations { Station.reset with waiting := true }, 15, 0, station, ⟨rfl, by decide +kernel, by decide +kernel, by decide +kernel⟩⟩,
   ⟨{ live [] with seq := { Seq.reset with cycleDue := true } }, 0, 0, by decide +kernel⟩,
   ⟨{ live [] with seq := { Seq.reset with running := true } }, 0, 0, by decide +kernel⟩,
   ⟨{ live [] with seq := { Seq.reset with running := true } }, 0, by decide +kernel⟩⟩

theorem meets_RequestsAreAnswered :
    (∃ (s : State) (p : Path) (src : BitVec 48) (pdu : List Byte) (tc : Tc) (r : Request), r = { path := p, src := src, pdu := pdu } ∧ s.lidHeld = true ∧ s.obj.running = true ∧ s.pathUp p = true ∧ s.flag F.LAN_STAT_MGMT_PEND = false ∧ (s.obj.queue.filter fun q => q.path == p).length < 4 ∧ 1 ≤ r.service ∧ r.service ≤ 4) ∧
    (∃ (s : State) (p : Path) (src : BitVec 48) (pdu : List Byte) (tc : Tc) (r : Request), ∃ c, r = { path := p, src := src, pdu := pdu } ∧ s.lidHeld = true ∧ s.obj.running = true ∧ s.pathUp p = true ∧ c = (if s.flag F.LAN_STAT_MGMT_PEND then stLaneChange else if 4 ≤ (s.obj.queue.filter fun q => q.path == p).length then stBusy else stUnknown) ∧ (s.flag F.LAN_STAT_MGMT_PEND = true ∨ 4 ≤ (s.obj.queue.filter fun q => q.path == p).length ∨ r.service = 0 ∨ 4 < r.service)) ∧
    (∃ (s : State) (tc : Tc) (r : Request) (k : Nat), (k = 1 ∨ k = 2) ∧ s.frontRequest k = some r ∧ (r.countOk && r.lengthOk) = false) ∧
    (∃ (s : State) (tc : Tc) (r : Request) (k i c : Nat), (k = 1 ∨ k = 2) ∧ s.frontRequest k = some r ∧ (r.countOk && r.lengthOk) = true ∧ s.firstBad r false r.reads 0 = some (i, c)) ∧
    (∃ (s : State) (tc : Tc) (r : Request) (k : Nat) (snap : Snapshot) (e : Word), (k = 1 ∨ k = 2) ∧ s.frontRequest k = some r ∧ (r.countOk && r.lengthOk) = true ∧ s.firstBad r false r.reads 0 = none ∧ s.chooseSnapshot r.reads r.selector = .inr (snap, e)) ∧
    (∃ (s : State) (y : WriteAid) (tc : Tc) (r : Request) (i c : Nat), s.frontRequest 3 = some r ∧ (r.countOk && r.lengthOk) = true ∧ s.firstBad r true (r.writes.map (·.1)) 0 = some (i, c)) ∧
    (∃ (s : State) (y : WriteAid) (tc : Tc) (r : Request) (a : Nat) (v : Word), s.frontRequest 3 = some r ∧ (r.countOk && r.lengthOk) = true ∧ s.firstBad r true (r.writes.map (·.1)) 0 = none ∧ r.writes = [(a, v)] ∧ rwsMask a ≠ 0 ∧ s.cfg.staging.length < 1024) ∧
    (∃ (s : State) (tc : Tc) (r : Request), s.frontRequest 4 = some r ∧ (r.countOk && r.lengthOk) = true) :=
  ⟨⟨live [], .service, 0, [4, 0, 0, 0, 0, 0, 0, 0], 0, ⟨.service, 0, [4, 0, 0, 0, 0, 0, 0, 0]⟩, by decide +kernel⟩,
   ⟨live [], .service, 0, [], 0, ⟨.service, 0, []⟩, stUnknown, by decide +kernel⟩,
   ⟨asks ⟨.service, 0, [1]⟩, 0, ⟨.service, 0, [1]⟩, 1, by decide +kernel⟩,
   ⟨asks ⟨.service, 0, [2, 0, 1, 0, 0, 0, 0, 0, 1, 0, 0, 0]⟩, 0, ⟨.service, 0, [2, 0, 1, 0, 0, 0, 0, 0, 1, 0, 0, 0]⟩, 2, 0, stAlignment, by decide +kernel⟩,
   ⟨asks ⟨.service, 0, [1, 0, 1, 0, 0, 0, 0, 0, 0, 0, 0, 0]⟩, 0, ⟨.service, 0, [1, 0, 1, 0, 0, 0, 0, 0, 0, 0, 0, 0]⟩, 1, Snapshot.empty, 0, by decide +kernel⟩,
   ⟨asks ⟨.eth, 0, [3, 0, 1, 0, 0, 0, 0, 0, 1, 0, 0, 0, 0, 0, 0, 0]⟩, aid, 0, ⟨.eth, 0, [3, 0, 1, 0, 0, 0, 0, 0, 1, 0, 0, 0, 0, 0, 0, 0]⟩, 0, stAlignment, by decide +kernel⟩,
   ⟨asks ⟨.service, 0, [3, 0, 1, 0, 0, 0, 0, 0, 4, 0, 0xd, 0, 5, 0, 0, 0]⟩, aid, 0, ⟨.service, 0, [3, 0, 1, 0, 0, 0, 0, 0, 4, 0, 0xd, 0, 5, 0, 0, 0]⟩, 0xd0004, 5, by decide +kernel⟩,
   ⟨asks ⟨.eth, 0, [4, 0, 0, 0, 0, 0, 0, 0]⟩, 0, ⟨.eth, 0, [4, 0, 0, 0, 0, 0, 0, 0]⟩, by decide +kernel⟩⟩

theorem meets_SingleAccesses :
    (∃ (s : State) (a : BitVec 32) (v : Word) (o : Origin) (x : WriteAid) (tc : Tc), mapped a.toNat = false) ∧
    (∃ (s : State) (a : BitVec 32) (tc : Tc), mapped a.toNat = true ∧ isPairLo a.toNat = true) ∧
    (∃ (s : State) (a : BitVec 32) (v : Word) (o : Origin), mapped a.toNat = true ∧ rwsMask a.toNat ≠ 0 ∧ s.dormantAt a.toNat = false ∧ s.currentEpoch o = true ∧ s.holdsLid o.lane = true ∧ s.stagingOpen = true ∧ s.cfg.staging.length < 1024) ∧
    (∃ (s : State) (a : BitVec 32) (v : Word) (o : Origin), mapped a.toNat = true ∧ rwsMask a.toNat ≠ 0 ∧ s.dormantAt a.toNat = false ∧ s.currentEpoch o = true ∧ s.holdsLid o.lane = true ∧ s.stagingOpen = true ∧ 1024 ≤ s.cfg.staging.length ∧ (∀ e ∈ s.cfg.staging, e.1 ≠ a.toNat)) ∧
    (∃ (s : State) (a : BitVec 32) (v : Word) (o : Origin), mapped a.toNat = true ∧ rwsMask a.toNat ≠ 0 ∧ s.dormantAt a.toNat = false ∧ s.currentEpoch o = false) ∧
    (∃ (s : State) (a : BitVec 32) (v : Word) (p : Path) (x : WriteAid) (tc : Tc), s.serviceUp = false ∨ s.accessStatus p s.upd.session.isSome true a.toNat ≠ stOk) ∧
    (∃ (s : State) (v : Word) (o : Origin) (x : WriteAid) (tc : Tc), s.holdsLid o.lane = true ∧ s.currentEpoch o = true ∧ s.dormantAt 0xc0030 = false ∧ s.declaredObj 0xc0030 = true) ∧
    (∃ (s : State) (a : BitVec 32) (v : Word) (o : Origin) (x : WriteAid) (tc : Tc) (r : ObjRow), mapped a.toNat = true ∧ s.laneMay o a.toNat = true ∧ s.dormantAt a.toNat = false ∧ rwsMask a.toNat = 0 ∧ s.declaredObj a.toNat = true ∧ objRowAt a.toNat = some r ∧ s.writeData a.toNat v tc = none ∧ s.writeControl a.toNat v o tc = none ∧ s.writeLanes a.toNat v true o x tc = none ∧ s.writeTime a.toNat v x tc = none ∧ s.writeSystem a.toNat v none x tc = none) :=
  ⟨⟨live [], 0x160000, 0, own, aid, 0, by decide +kernel⟩,
   ⟨live [], 0x30028, 0, by decide +kernel⟩,
   ⟨live [], 0xd0004, 5, own, by decide +kernel⟩,
   ⟨filled 1024, 0xd0004, 5, own, ⟨by decide +kernel, by decide +kernel, by decide +kernel, by decide +kernel, by decide +kernel, by decide +kernel, Nat.le_of_eq (filled_length 1024).symm, fun e h k => filled_lacks 1024 (by decide) e.2 (by rw [← show e.1 = 0xd0004 from k]; exact h)⟩⟩,
   ⟨live [], 0xd0004, 5, stale, by decide +kernel⟩,
   ⟨base [], 0xd0004, 5, .eth, aid, 0, by decide +kernel⟩,
   ⟨live [], 0x7F, own, aid, 0, by decide +kernel⟩,
   ⟨live [], 0xd0014, 1, own, aid, 0, ⟨0xd0014, [], .plain, [fr 0 1 .w1c, fr 1 1 .w1c, fr 2 1 .w1c, fr 3 1 .w1c, fr 4 1 .w1c]⟩, by decide +kernel⟩⟩

theorem meets_LaneFaults :
    (∃ (s : State) (l : Lane) (cls : Fin 16) (tc : Tc), s.lanesPowered = true ∧ 1 ≤ cls.val ∧ cls.val ≤ 10 ∧ s.laneState l = lnActive ∧ (s.laneState (otherLane l) = lnStandby ∨ s.laneState (otherLane l) = lnCheck) ∧ s.bestImage.isSome = true) ∧
    (∃ (s : State) (l : Lane) (cls : Fin 16) (tc : Tc), s.lanesPowered = true ∧ 1 ≤ cls.val ∧ cls.val ≤ 10 ∧ s.laneState l = lnActive ∧ s.laneState (otherLane l) ≠ lnStandby ∧ s.laneState (otherLane l) ≠ lnCheck) ∧
    (∃ (s : State) (l : Lane) (cls : Fin 16) (tc : Tc), s.lanesPowered = true ∧ 1 ≤ cls.val ∧ cls.val ≤ 10 ∧ (s.laneState l = lnStandby ∨ s.laneState l = lnBoot ∨ s.laneState l = lnRequal) ∧ s.laneState (otherLane l) ≠ lnFaulted) ∧
    (∃ (s : State) (l : Lane) (cls : Fin 16) (tc : Tc), s.lanesPowered = true ∧ 1 ≤ cls.val ∧ cls.val ≤ 10 ∧ s.laneState l = lnCheck) ∧
    (∃ (s : State) (l : Lane) (cls : Fin 16) (tc : Tc), s.lanesPowered = true ∧ 11 ≤ cls.val ∧ cls.val ≤ 13 ∧ s.laneState l ≠ lnOff ∧ s.laneState l ≠ lnFaulted) ∧
    (∃ (s : State) (l : Lane) (c d : Fin 16) (tc : Tc), s.lanesPowered = true ∧ 1 ≤ c.val ∧ c.val ≤ 10 ∧ 1 ≤ d.val ∧ d.val ≤ 10 ∧ s.laneState l ≠ lnOff ∧ s.laneState l ≠ lnFaulted) ∧
    (∃ (s : State) (l : Lane) (c d : Fin 16) (tc : Tc), s.lanesPowered = true ∧ 1 ≤ c.val ∧ c.val ≤ 10 ∧ 1 ≤ d.val ∧ d.val ≤ 10 ∧ s.laneState l = lnActive ∧ s.laneState (otherLane l) = lnStandby) ∧
    (∃ (s : State) (back : LidPins) (tc t0 : Tc), s.lanesPowered = true ∧ back ≠ s.lan.pins ∧ s.lan.odd = some t0 ∧ passed tc t0 50 = true) ∧
    (∃ (s : State) (back : LidPins) (tc : Tc), s.lanesPowered = true ∧ (back = s.lan.pins ∨ (∀ t0, s.lan.odd = some t0 → passed tc t0 50 = false))) ∧
    (∃ (s : State) (o : Origin) (tc : Tc), s.portRefusal o ≠ none ∨ s.lan.fw = false) ∧
    (∃ (s : State) (o : Origin) (l : Lane) (tc : Tc), s.portRefusal o = none ∧ l = o.lane ∧ s.lan.fw = true ∧ s.laneState l = lnActive ∧ (s.laneState (otherLane l) = lnStandby ∨ s.laneState (otherLane l) = lnCheck) ∧ s.bestImage.isSome = true) :=
  ⟨⟨imaged [], .a, 10, 0, ⟨by decide +kernel, by decide +kernel, by decide +kernel, by decide +kernel, .inl (by decide +kernel), imaged_bestImage _ (imaged_mem []) (by decide +kernel)⟩⟩,
   ⟨live [(F.LAN_STAT_B_STATE, lnFaulted)], .a, 1, 0, by decide +kernel⟩,
   ⟨live [], .b, 10, 0, by decide +kernel⟩,
   ⟨live [(F.LAN_STAT_B_STATE, lnCheck)], .b, 1, 0, by decide +kernel⟩,
   ⟨live [], .a, 11, 0, by decide +kernel⟩,
   ⟨live [], .a, 1, 2, 0, by decide +kernel⟩,
   ⟨live [], .a, 1, 2, 0, by decide +kernel⟩,
   ⟨{ live [] with lan := { Lan.reset with odd := some 0 } }, lidPins (some .a), 50, 0, by decide +kernel⟩,
   ⟨live [], lidPins (some .a), 0, ⟨by decide +kernel, .inl rfl⟩⟩,
   ⟨live [], stale, 0, by decide +kernel⟩,
   ⟨imaged [], own, .a, 0, ⟨by decide +kernel, rfl, by decide +kernel, by decide +kernel, .inl (by decide +kernel), imaged_bestImage _ (imaged_mem []) (by decide +kernel)⟩⟩⟩

theorem meets_NewLaneTakesOver :
    (∃ (s : State) (v : BitVec 16) (o : Origin), s.portRefusal o = none ∧ s.lan.fw = true) ∧
    (∃ (s : State) (v : BitVec 16) (o : Origin), s.portRefusal o ≠ none ∨ s.lan.fw = false) ∧
    (∃ (s : State) (tc : Tc), s.serviceUp = true ∧ s.upd.session.isSome = true ∧ s.inCharge = true ∧ s.laneState (otherLane s.activeLane) = lnStandby ∧ (s.flag F.PWR_STAT_READY = true ∨ s.lan.managed = true) ∧ passed tc s.lan.mgmtTc 250000000 = true) ∧
    (∃ (s : State) (tc : Tc), s.upd.session = none ∨ passed tc s.lan.mgmtTc 250000000 = false ∨ s.laneState (otherLane s.activeLane) ≠ lnStandby) ∧
    (∃ (s : State) (f : Frame) (bytes : List Byte) (tc t0 : Tc) (k : Nat), s.frames.due = some (f, bytes, t0) ∧ passed tc t0 640 = true ∧ s.lan.final = false ∧ k = s.frameTarget) ∧
    (∃ (s : State) (f : Frame) (bytes : List Byte) (tc t0 : Tc), s.frames.due = some (f, bytes, t0) ∧ passed tc t0 640 = false) ∧
    (∃ (s : State) (f : Frame) (bytes : List Byte) (tc t0 : Tc), s.frames.due = some (f, bytes, t0) ∧ passed tc t0 640 = true ∧ s.lan.final = true ∧ (s.laneState (otherLane s.activeLane) = lnStandby ∨ s.laneState (otherLane s.activeLane) = lnCheck) ∧ ((s.potWrite (areaBase s.frameTarget + bytes.length) (bytesLe 4 (crc32c bytes).toNat) (tc - 640)).potCommit tc).bestImage.isSome = true) ∧
    (∃ (s : State) (l : Lane) (cls : Nat) (since tc : Tc), s.lan.control = some (l, cls, since) ∧ cls < 16 ∧ heldFor s.lan.clear 25 tc = true) ∧
    (∃ (s : State) (tc : Tc), heldFor s.lan.clear 25 tc = false) ∧
    (∃ (s : State) (e : Word) (f : Frame) (tc : Tc), s.lan.restoring = some e ∧ s.lan.rebuilt = false ∧ s.restoreFrame e = some f) ∧
    (∃ (s : State) (e : Word) (tc : Tc), s.lan.restoring = some e ∧ s.lan.rebuilt = false ∧ s.restoreFrame e = none) ∧
    (∃ (s : State) (e : Word) (tc : Tc), s.lan.restoring = some e ∧ s.lan.rebuilt = false ∧ passed tc s.lan.readyTc 2000000 = true) :=
  ⟨⟨live [], 5, own, by decide +kernel⟩,
   ⟨live [], 5, stale, by decide +kernel⟩,
   ⟨session none [(F.PWR_STAT_READY, 1)], 250000000, by decide +kernel⟩,
   ⟨live [], 0, by decide +kernel⟩,
   ⟨{ live [] with frames := { Frames.reset with due := some (mgmtFrame, [], 0) } }, mgmtFrame, [], 640, 0, 0, ⟨rfl, by decide +kernel, by decide +kernel, rfl⟩⟩,
   ⟨{ live [] with frames := { Frames.reset with due := some (mgmtFrame, [], 0) } }, mgmtFrame, [], 0, 0, ⟨rfl, by decide +kernel⟩⟩,
   ⟨{ imaged [] with frames := { Frames.reset with due := some (mgmtFrame, [], 0) }, lan := { Lan.reset with final := true } }, mgmtFrame, [], 640, 0, ⟨rfl, by decide +kernel, rfl, .inl (by decide +kernel), committed_bestImage _ _ _ _ _ rfl rfl (imaged_mem []) (by decide +kernel)⟩⟩,
   ⟨{ live [] with lan := { Lan.reset with control := some (.a, 15, 0), clear := some 0 } }, .a, 15, 0, 25, by decide +kernel⟩,
   ⟨live [], 0, by decide +kernel⟩,
   ⟨{ live [] with lan := { Lan.reset with pins := lidPins (some .b), back := lidPins (some .b), restoring := some 1 }, frames := { Frames.reset with f0 := some mgmtFrame }, pot := { Pot.reset with mem := storeBytes [] 0x10000 (withCrc ([0x53, 0x4B, 0x50, 0x46, 68, 0, 0, 0] ++ List.replicate 56 0)) } }, 1, mgmtFrame, 0, by decide +kernel⟩,
   ⟨{ live [] with lan := { Lan.reset with pins := lidPins (some .b), back := lidPins (some .b), restoring := some 1 } }, 1, 0, by decide +kernel⟩,
   ⟨{ live [] with lan := { Lan.reset with pins := lidPins (some .b), back := lidPins (some .b), restoring := some 1 } }, 1, 2000000, by decide +kernel⟩⟩

theorem meets_StandbyLane :
    (∃ (s : State) (l k : Lane) (x : BootCheck) (tc : Tc), k = (if x.both && s.laneState (otherLane l) == lnBoot then .a else l) ∧ s.pwr.state = .starting ∧ s.lanesPowered = true ∧ s.laneState l = lnBoot ∧ s.lidHeld = false ∧ s.booted = true) ∧
    (∃ (s : State) (l : Lane) (tc : Tc), s.laneState l = lnBoot ∧ s.lanesPowered = true ∧ s.laneState (otherLane l) ≠ lnFaulted) ∧
    (∃ (s : State) (l : Lane) (tc : Tc), s.laneState l = lnBoot ∧ s.lanesPowered = true ∧ s.laneState (otherLane l) = lnFaulted) ∧
    (∃ (s : State) (l : Lane) (v n fw im : Word) (tc : Tc), s.laneState l = lnBoot ∧ s.lanesPowered = true ∧ s.laneState (otherLane l) = lnActive ∧ (v.toNat = s.runningVersion ∧ n.toNat = s.fld F.CFG_IMAGE_ID_VALUE)) ∧
    (∃ (s : State) (l : Lane) (v n fw im : Word) (tc : Tc), s.laneState l = lnBoot ∧ s.lanesPowered = true ∧ s.laneState (otherLane l) = lnActive ∧ (v.toNat ≠ s.runningVersion ∨ n.toNat ≠ s.fld F.CFG_IMAGE_ID_VALUE)) ∧
    (∃ (s : State) (tc : Tc), s.lidHeld = true ∧ s.laneState (otherLane s.activeLane) = lnStandby ∧ passed tc s.lan.passTc (250000000 * s.fld F.LAN_CFG_STBY_CHK) = true) ∧
    (∃ (s : State) (x : LaneCheck) (tc : Tc), s.laneState (otherLane s.activeLane) = lnCheck ∧ s.checkPasses (otherLane s.activeLane) x = true) ∧
    (∃ (s : State) (x : LaneCheck) (tc : Tc), s.laneState (otherLane s.activeLane) = lnCheck ∧ s.checkPasses (otherLane s.activeLane) x = false) ∧
    (∃ (s : State) (x : LaneCheck) (tc : Tc), s.laneState (otherLane s.activeLane) = lnCheck ∧ passed tc s.lan.checkTc 10000000 = true) ∧
    (∃ (s : State) (x : LaneCheck) (tc : Tc), s.laneState (otherLane s.activeLane) = lnRequal ∧ s.flag F.LAN_STAT_MGMT_PEND = false ∧ s.checkPasses (otherLane s.activeLane) x = true) ∧
    (∃ (s : State) (x : LaneCheck) (tc : Tc), s.laneState (otherLane s.activeLane) = lnRequal ∧ s.flag F.LAN_STAT_MGMT_PEND = false ∧ s.checkPasses (otherLane s.activeLane) x = false) ∧
    (∃ (s : State) (x : LaneCheck) (tc : Tc), s.laneState (otherLane s.activeLane) = lnRequal ∧ s.flag F.LAN_STAT_MGMT_PEND = false ∧ passed tc s.lan.requalTc 10000000 = true) :=
  ⟨⟨{ base [(F.LAN_STAT_B_STATE, lnBoot), (F.UPD_FW_STAT_RUNNING 1, 1)] with pwr := { Pwr.reset with state := .starting } }, .b, .b, ⟨⟨true, true, true⟩, ⟨true, true, true⟩, true, true, 0, 0, false⟩, 0, by decide +kernel⟩,
   ⟨live [(F.LAN_STAT_B_STATE, lnBoot)], .b, 0, by decide +kernel⟩,
   ⟨live [(F.LAN_STAT_A_STATE, lnBoot), (F.LAN_STAT_B_STATE, lnFaulted)], .a, 0, by decide +kernel⟩,
   ⟨live [(F.LAN_STAT_B_STATE, lnBoot)], .b, 0, 0, 0, 0, 0, by decide +kernel⟩,
   ⟨live [(F.LAN_STAT_B_STATE, lnBoot)], .b, 0, 1, 0, 0, 0, by decide +kernel⟩,
   ⟨live [(F.LAN_CFG_STBY_CHK, 1)], 250000000, by decide +kernel⟩,
   ⟨live [(F.LAN_STAT_B_STATE, lnCheck)], ⟨true, false, 0, 0, 0⟩, 0, by decide +kernel⟩,
   ⟨live [(F.LAN_STAT_B_STATE, lnCheck)], ⟨false, false, 0, 0, 0⟩, 0, by decide +kernel⟩,
   ⟨live [(F.LAN_STAT_B_STATE, lnCheck)], ⟨true, false, 0, 0, 0⟩, 10000000, by decide +kernel⟩,
   ⟨live [(F.LAN_STAT_B_STATE, lnRequal)], ⟨true, false, 0, 0, 0⟩, 0, by decide +kernel⟩,
   ⟨live [(F.LAN_STAT_B_STATE, lnRequal)], ⟨false, false, 0, 0, 0⟩, 0, by decide +kernel⟩,
   ⟨live [(F.LAN_STAT_B_STATE, lnRequal)], ⟨true, false, 0, 0, 0⟩, 10000000, by decide +kernel⟩⟩

theorem meets_StartsAndShutdowns :
    (∃ (s : State) (given : List (Nat × Word)) (cause : Word × Word) (w : Bool) (tc : Tc), s.pwr.state.supplied = true) ∧
    (∃ (s : State) (v : BitVec 16), (s.pwr.state = .starting ∨ s.pwr.state = .running) ∧ v.toNat < 800) ∧
    (∃ (s : State) (tc : Tc), s.lidHeld = true) ∧
    (∃ (s : State) (v : Word) (tc : Tc), v ≠ 0xA55A ∨ s.lidHeld = false) ∧
    (∃ (s : State) (sec : Nat) (since tc : Tc), s.pwr.state = .safeStop ∧ s.flag F.LAN_CFG_AUTO_RST = true ∧ s.lan.stopTc = some since ∧ passed tc since 500000000 = true ∧ (s.lan.autos.filter fun a => decide (sec - a < 86400)).length < 3) ∧
    (∃ (s : State) (sec : Nat) (tc : Tc), s.flag F.LAN_CFG_AUTO_RST = false ∨ 3 ≤ (s.lan.autos.filter fun a => decide (sec - a < 86400)).length) ∧
    (∃ (s : State) (v : BitVec 16) (tc : Tc), (s.pwr.state = .starting ∨ s.pwr.state = .running ∨ s.pwr.state = .waking) ∧ v.toNat < 720 ∧ s.flag F.PWR_STAT_PFAIL = false ∧ (∀ x ∈ s.seqVars, x.binding = none)) ∧
    (∃ (s : State) (good : Bool) (tc : Tc), s.flag F.PWR_STAT_PFAIL = true ∧ passed tc s.pwr.failTc 1000000 = true) ∧
    (∃ (s : State) (a b : BitVec 16) (tc : Tc), s.pwr.state.sensed = true ∧ s.pwr.state ≠ .thermalStop ∧ s.pwr.state ≠ .debug ∧ ((junctionValid a = true ∧ 17280 ≤ a.toInt ∧ 1 ≤ s.thm.hot1) ∨ (junctionValid b = true ∧ 17280 ≤ b.toInt ∧ 1 ≤ s.thm.hot2) ∨ (junctionValid a = false ∧ junctionValid b = false ∧ 1 ≤ s.thm.bad))) ∧
    (∃ (s : State) (a b : BitVec 16) (tc : Tc), s.pwr.state.sensed = true ∧ junctionValid a = true ∧ a.toInt < 17280 ∧ junctionValid b = true ∧ b.toInt < 17280) ∧
    (∃ (s : State) (tc : Tc), s.junctionsCool = true ∧ s.pwr.state = .thermalStop) ∧
    (∃ (s : State) (tc : Tc), s.junctionsCool = true ∧ s.pwr.state ≠ .thermalStop) ∧
    (∃ (s : State) (tc : Tc), s.junctionsCool = false) ∧
    (∃ (s : State) (erased : Bool) (tc : Tc), s.pwr.state.sampled = true) :=
  ⟨⟨base [], [], (0, 0), true, 0, by decide +kernel⟩,
   ⟨live [], 799, by decide +kernel⟩,
   ⟨live [], 0, by decide +kernel⟩,
   ⟨live [], 0, 0, by decide +kernel⟩,
   ⟨{ base [(F.LAN_CFG_AUTO_RST, 1)] with pwr := { Pwr.reset with state := .safeStop }, lan := { Lan.reset with stopTc := some 0, autos := [1, 2] } }, 86400, 0, 500000000, by decide +kernel⟩,
   ⟨live [], 0, 0, by decide +kernel⟩,
   ⟨live [], 719, 0, by decide +kernel⟩,
   ⟨live [(F.PWR_STAT_PFAIL, 1)], true, 1000000, by decide +kernel⟩,
   ⟨{ live [] with thm := { Thm.reset with hot1 := 1 } }, 17280, 0x8000, 0, by decide +kernel⟩,
   ⟨live [], 17279, 0, 0, by decide +kernel⟩,
   ⟨{ base [] with pwr := { Pwr.reset with state := .thermalStop }, thm := { Thm.reset with ok1 := true, ok2 := true } }, 0, by decide +kernel⟩,
   ⟨{ base [(F.THM_TJ_TJ1, 12159)] with pwr := { Pwr.reset with state := .starting, held := some 1 }, thm := { Thm.reset with ok1 := true, ok2 := true } }, 0, by decide +kernel⟩,
   ⟨base [(F.THM_TJ_TJ1, 12160)], 0, by decide +kernel⟩,
   ⟨live [], true, 0, by decide +kernel⟩⟩

theorem meets_SleepAndWake :
    (∃ (s : State) (n : Nat) (key : BitVec 16) (c : State → Host.Outcome State Fault Refusal), ((n = 1 ∧ c = exec (.standbyRequest key)) ∨ (n = 2 ∧ c = exec (.deepStandbyRequest key)) ∨ (n = 3 ∧ c = exec (.offRequest key))) ∧ key = 0x51EE ∧ s.lidHeld = true ∧ s.sleepRefusal n = 0) ∧
    (∃ (s : State) (n : Nat) (key : BitVec 16) (c : State → Host.Outcome State Fault Refusal), ((n = 1 ∧ c = exec (.standbyRequest key)) ∨ (n = 2 ∧ c = exec (.deepStandbyRequest key)) ∨ (n = 3 ∧ c = exec (.offRequest key))) ∧ key = 0x51EE ∧ s.lidHeld = true ∧ s.sleepRefusal n ≠ 0) ∧
    (∃ (s : State) (n : Nat) (key : BitVec 16) (c : State → Host.Outcome State Fault Refusal), ((n = 1 ∧ c = exec (.standbyRequest key)) ∨ (n = 2 ∧ c = exec (.deepStandbyRequest key)) ∨ (n = 3 ∧ c = exec (.offRequest key))) ∧ key = 0x51EE ∧ s.lidHeld = true ∧ (∃ p < 8, s.strState p = ssClosed)) ∧
    (∃ (s : State) (n : Nat) (key : BitVec 16) (c : State → Host.Outcome State Fault Refusal), ((n = 1 ∧ c = exec (.standbyRequest key)) ∨ (n = 2 ∧ c = exec (.deepStandbyRequest key)) ∨ (n = 3 ∧ c = exec (.offRequest key))) ∧ (key ≠ 0x51EE ∨ s.lidHeld = false)) ∧
    (∃ (s : State) (w : Bool) (tc : Tc), s.flag F.PWR_STAT_ENTRY = true ∧ s.pwr.state = .running ∧ s.est.wb = none ∧ s.fld F.PWR_STAT_TARGET = 1) ∧
    (∃ (s : State) (tc : Tc), s.flag F.PWR_STAT_ENTRY = true ∧ s.pwr.state = .running ∧ s.est.wb = none ∧ s.fld F.PWR_STAT_TARGET = 3) ∧
    (∃ (s : State) (a : WakeAt) (low : Bool) (tc : Tc), s.pwr.state = .standby) ∧
    (∃ (s : State) (a : WakeAt) (low : Bool) (tc : Tc), s.pwr.state = .deep) ∧
    (∃ (s : State) (a : WakeAt) (low : Bool) (tc : Tc), s.pwr.state = .off) ∧
    (∃ (s : State) (a : WakeAt) (since tc : Tc), s.pwr.state = .safeStop ∧ s.lan.stopTc = some since ∧ passed tc since 25000000 = true) ∧
    (∃ (s : State) (a : WakeAt) (tc : Tc), s.pwr.state = .standby ∧ s.wakeOn 2 = true ∧ s.fld F.PWR_WAKE_TIMER_S ≠ 0 ∧ 32768 * s.fld F.PWR_WAKE_TIMER_S ≤ a.tick) ∧
    (∃ (s : State) (c : Fin 2) (e : CanWakeEvent) (a : WakeAt) (tc : Tc), s.pwr.state = .standby ∧ s.wakeOn (3 + c) = true ∧ s.canUsed c = true ∧ s.canWakeCause c e ≠ 0) ∧
    (∃ (s : State) (p : Fin 2) (a : WakeAt) (tc : Tc), s.pwr.state = .standby ∧ s.wakeOn (5 + p) = true ∧ s.flag (if p = 0 then F.ETH_WAKE_CFG_E0 else F.ETH_WAKE_CFG_E1) = true) ∧
    (∃ (s : State) (p : Fin 2) (a : WakeAt) (tc : Tc), s.pwr.state = .running ∧ s.flag F.PWR_STAT_ENTRY = false ∧ s.fld (ethTc10 p) = tc10Asleep) ∧
    (∃ (s : State) (p : Fin 8) (endB : Bool) (a : WakeAt) (tc : Tc), s.pwr.state = .standby ∧ s.wakeOn 7 = true) ∧
    (∃ (s : State) (lost : BitVec 12) (n : Nat) (tc : Tc), s.pwr.state = .waking ∧ s.flag F.PWR_STAT_PFAIL = false ∧ s.causeSet = false ∧ (if s.activeLane = .a then lost.getLsbD 8 else lost.getLsbD 9) = true) ∧
    (∃ (s : State) (lost : BitVec 12) (n : Nat) (tc : Tc), s.pwr.state = .waking ∧ s.flag F.PWR_STAT_PFAIL = false ∧ s.causeSet = false ∧ (if s.activeLane = .a then lost.getLsbD 8 else lost.getLsbD 9) = false) :=
  ⟨⟨live [(F.PWR_WAKE_CFG_EN, 1)], 1, 0x51EE, _, ⟨.inl ⟨rfl, rfl⟩, by decide +kernel⟩⟩,
   ⟨live [], 2, 0x51EE, _, ⟨.inr (.inl ⟨rfl, rfl⟩), by decide +kernel⟩⟩,
   ⟨live [(F.BRK_S_STAT_STATE 7, ssClosed)], 3, 0x51EE, _, ⟨.inr (.inr ⟨rfl, rfl⟩), by decide +kernel⟩⟩,
   ⟨live [], 1, 0x51EF, _, ⟨.inl ⟨rfl, rfl⟩, by decide +kernel⟩⟩,
   ⟨live [(F.PWR_STAT_ENTRY, 1), (F.PWR_STAT_TARGET, 1)], true, 0, by decide +kernel⟩,
   ⟨live [(F.PWR_STAT_ENTRY, 1), (F.PWR_STAT_TARGET, 3)], 0, by decide +kernel⟩,
   ⟨asleep .standby [], ⟨0, false⟩, true, 0, by decide +kernel⟩,
   ⟨asleep .deep [], ⟨0, false⟩, true, 0, by decide +kernel⟩,
   ⟨asleep .off [], ⟨0, false⟩, true, 0, by decide +kernel⟩,
   ⟨{ asleep .safeStop [] with lan := { Lan.reset with stopTc := some 0 } }, ⟨0, false⟩, 0, 25000000, by decide +kernel⟩,
   ⟨asleep .standby [(F.PWR_WAKE_CFG_EN, 1), (F.PWR_WAKE_TIMER_S, 1)], ⟨32768, false⟩, 0, by decide +kernel⟩,
   ⟨(asleep .standby [(F.PWR_WAKE_CFG_EN, 4), (F.CAN_WAKE_CFG_MODE 1, 1)]).withSec 10 (ones 300), 1, .pattern, ⟨0, false⟩, 0, by decide +kernel⟩,
   ⟨asleep .standby [(F.PWR_WAKE_CFG_EN, 16), (F.ETH_WAKE_CFG_E1, 1)], 1, ⟨0, false⟩, 0, by decide +kernel⟩,
   ⟨live [(ethTc10 1, tc10Asleep)], 1, ⟨0, false⟩, 0, by decide +kernel⟩,
   ⟨asleep .standby [(F.PWR_WAKE_CFG_EN, 32)], 7, true, ⟨0, false⟩, 0, by decide +kernel⟩,
   ⟨asleep .waking [], 0x100, 0, 0, by decide +kernel⟩,
   ⟨asleep .waking [], 0x200, 0, 0, by decide +kernel⟩⟩

theorem meets_CommitPoints :
    (∃ (s : State) (k : Fin 64) (m : RecMedia) (tc : Tc), s.fires k 1 tc = false) ∧
    (∃ (s : State) (k : Fin 64) (m : RecMedia) (tc : Tc), s.fires k 1 tc = true ∧ s.pwr.request = none ∧ (∀ x ∈ s.seqVars, x.binding = none)) :=
  ⟨⟨live [], 0, ⟨0, 0, true, false⟩, 0, by decide +kernel⟩,
   ⟨live [(F.PHB_STAT_SCHED_RUN, 1), (F.PHB_SCHED_A_ACTION 63, 1)], 63, ⟨0, 0, true, false⟩, 0, by decide +kernel⟩⟩

theorem meets_FrameTimeAndLink : ∃ (c : Instr) (s t : State) (x : Scope), (scopeTime c = some x ∨ scopeLink c = some x) ∧ exec c s = .next t :=
  ⟨.holdoverTimeout 0, live [], _, _, ⟨.inl rfl, rfl⟩⟩

theorem meets_FrameBankAndIsland : ∃ (c : Instr) (s t : State) (x : Scope), (scopeBank c = some x ∨ scopeIsland c = some x) ∧ exec c s = .next t :=
  ⟨.auxOff 3 own 0, live [], _, _, ⟨.inr rfl, rfl⟩⟩

theorem meets_FrameSafetyAndControl : ∃ (c : Instr) (s t : State) (x : Scope), (scopeSafety c = some x ∨ scopeControl c = some x) ∧ exec c s = .next t :=
  ⟨.canRecover 1, live [], _, _, ⟨.inl rfl, rfl⟩⟩

theorem meets_FrameServiceAndSystem : ∃ (c : Instr) (s t : State) (x : Scope), (scopeService c = some x ∨ scopeSystem c = some x) ∧ exec c s = .next t :=
  ⟨.heartbeatWrite ⟨5, own⟩, live [], _, _, ⟨.inr rfl, rfl⟩⟩

theorem meets_inner_ServoStates : ∃ (s : State) (change : Bool) (tc : Tc), s.lan.fw = true ∧ s.flag F.TIM_SERVO_CFG_SERVO_EN = true ∧ (s.fld F.TIM_STAT_SERVO = servoAcquire ∨ s.fld F.TIM_STAT_SERVO = servoLocked) ∧ (change = true ∨ s.syncLate tc = true) ∧ change = true :=
  ⟨live [(F.TIM_SERVO_CFG_SERVO_EN, 1), (F.TIM_STAT_SERVO, servoLocked)], true, 0, by decide +kernel⟩

theorem meets_inner_BreakerStatusAndFaults :
    (∃ (s : State) (n : Fin 8) (closed : Bool) (tc : Tc), s.flag (F.BRK_S_STAT_BST n) ≠ closed ∧ s.declared n = true ∧ s.bstExpected n tc = false) ∧
    (∃ (s : State) (n : Fin 8) (tc : Tc), s.declared n = true ∧ s.flag (F.BRK_S_STAT_BFLT n) = false) :=
  ⟨⟨wired [], 7, true, 0xFFFFFFFFFF, by decide +kernel⟩,
   ⟨wired [], 0, 0, by decide +kernel⟩⟩

theorem meets_inner_InputFaults :
    (∃ (s : State) (k : Fin 6) (tc : Tc), (s.siFlags k).testBit 0 = true ∧ s.disagrees k = false) ∧
    (∃ (s : State) (k : Fin 6) (tc : Tc), (s.siFlags k).testBit 0 = true ∧ s.disagrees k = true ∧ s.fld (F.SAF_SI_STAT_DCNT k) = s.siDiscT k ∧ s.flag (F.SAF_SI_STAT_DISC k) = false ∧ s.fld (F.SAF_SI_STAT_DCNT k) < 2047) ∧
    (∃ (s : State) (k : Fin 6) (tc : Tc), (s.siFlags k).testBit 0 = true ∧ s.disagrees k = true ∧ s.fld (F.SAF_SI_STAT_DCNT k) < 2047 ∧ s.fld (F.SAF_SI_STAT_DCNT k) + 1 = s.siDiscT k) ∧
    (∃ (s : State) (k : Fin 6) (tc : Tc), (s.siFlags k).testBit 0 = true ∧ s.flag (F.SAF_SI_STAT_DISC k) = true ∧ s.flag (F.SAF_SI_STAT_FA k) = true ∧ s.flag (F.SAF_SI_STAT_FB k) = true) :=
  ⟨⟨(live []).withSec 5 (ones 300), 5, 0, by decide +kernel⟩,
   ⟨(live [(F.SAF_SI_STAT_FA 0, 1)]).withSec 5 [1], 0, 0, by decide +kernel⟩,
   ⟨(live [(F.SAF_SI_STAT_FA 0, 1)]).withSec 5 [1, 0, 1, 0], 0, 0, by decide +kernel⟩,
   ⟨(live [(F.SAF_SI_STAT_DISC 5, 1), (F.SAF_SI_STAT_FA 5, 1), (F.SAF_SI_STAT_FB 5, 1)]).withSec 5 (ones 300), 5, 0, by decide +kernel⟩⟩

theorem meets_inner_DriverTests :
    (∃ (s : State) (ok : Bool) (ma : BitVec 16) (tc : Tc) (p : TestPulse), s.saf.pulse = some p ∧ p.driver < 28 ∧ passed tc p.tc (250 * s.testPulse) = true ∧ (ok = false ∨ p.off = false ∧ 10 ≤ ma.toNat) ∧ p.driver < 24 ∧ s.armed = true) ∧
    (∃ (s : State) (k : Fin 28) (low : Bool) (tc : Tc), s.armed = true ∧ s.conUsed k = true ∧ s.fld (F.BRK_CON_FAULT k) < 9 ∧ passed tc (s.saf.passTc.getD (switchPlace k low) 0) (msT (1000 * s.testMax)) = true ∧ 24 ≤ k.val) ∧
    (∃ (s : State) (k : Fin 28) (low : Bool) (tc : Tc), s.armed = true ∧ s.conUsed k = true ∧ s.fld (F.BRK_CON_FAULT k) < 9 ∧ passed tc (s.saf.passTc.getD (switchPlace k low) 0) (msT (1000 * s.testMax)) = true ∧ k.val < 24) :=
  ⟨⟨{ live [(F.PRT_STAT_ARMED, 1)] with saf := { Saf.reset with pulse := some ⟨23, true, 0, false⟩ } }, false, 0, 0, ⟨23, true, 0, false⟩, by decide +kernel⟩,
   ⟨live [(F.PRT_STAT_ARMED, 1), (F.BRK_CON_USED 27, 1), (F.BRK_CON_FAULT 27, 8)], 27, true, 0, by decide +kernel⟩,
   ⟨live [(F.PRT_STAT_ARMED, 1), (F.BRK_CON_USED 23, 1), (F.BRK_CON_FAULT 23, 8)], 23, false, 0, by decide +kernel⟩⟩

theorem meets_inner_SafeDataKept : ∃ (s : State) (conns : BitVec 4), ∃ (c : Nat), s.saf.Sized ∧ s.lan.fw = true ∧ c < 4 ∧ conns.getLsbD c = true ∧ s.sdState c = sdFault :=
  ⟨live [(F.SAF_SD_RX_STAT_STATE 3, sdFault)], 8, 3, ⟨⟨rfl, rfl, rfl, rfl, rfl⟩, by decide +kernel, by decide +kernel, by decide +kernel, by decide +kernel⟩⟩

theorem meets_inner_CanTransmits :
    (∃ (s : State) (c : Fin 2) (tc : Tc) (b : Nat) (f : CanFrame), s.can.length = 2 ∧ (s.canCh c).bufs.length = 3 ∧ b < 3 ∧ (s.canCh c).onBus = some b ∧ (s.txBuf c b).frame = some f ∧ (s.canCh c).queue = []) ∧
    (∃ (s : State) (c : Fin 2) (b : Nat), s.can.length = 2 ∧ b < 3 ∧ (s.canCh c).onBus = some b ∧ s.bufHeld c b = true ∧ s.flag (F.CAN_CTRL_EN c) = true ∧ (s.txBuf c b).cancel = false ∧ (s.txBuf c b).last = false) ∧
    (∃ (s : State) (c : Fin 2) (e : CanError) (b : Nat), s.can.length = 2 ∧ b < 3 ∧ (s.canCh c).onBus = some b ∧ s.flag (F.CAN_CTRL_EN c) = true ∧ s.fld (F.CAN_STAT_TEC c) + 8 < 256) ∧
    (∃ (s : State) (c : Fin 2) (e : CanError) (b : Nat), s.can.length = 2 ∧ b < 3 ∧ (s.canCh c).onBus = some b ∧ s.flag (F.CAN_CTRL_EN c) = true ∧ 256 ≤ s.fld (F.CAN_STAT_TEC c) + 8) :=
  ⟨⟨channels { CanChan.reset with onBus := some 2, bufs := List.replicate 3 held } [], 1, 0, 2, ⟨0, [], 0⟩, by decide +kernel⟩,
   ⟨channels { CanChan.reset with onBus := some 0, bufs := List.replicate 3 held } [(F.CAN_CTRL_EN 1, 1)], 1, 0, by decide +kernel⟩,
   ⟨channels { CanChan.reset with onBus := some 2 } [(F.CAN_CTRL_EN 0, 1), (F.CAN_STAT_TEC 0, 247)], 0, .ack, 2, by decide +kernel⟩,
   ⟨channels { CanChan.reset with onBus := some 2 } [(F.CAN_CTRL_EN 0, 1), (F.CAN_STAT_TEC 0, 248)], 0, .ack, 2, by decide +kernel⟩⟩

theorem meets_inner_CanReceives :
    (∃ (s : State) (c : Fin 2) (f : CanRx) (tc : Tc) (k : Nat), s.can.length = 2 ∧ s.canOn c = true ∧ f.rtr = false ∧ s.rxMatch c f.id.toNat f.ide = some k ∧ s.flag (F.CAN_RX_HDR_NEW c k) = true) ∧
    (∃ (s : State) (c : Fin 2) (n : Nat), s.can.length = 2 ∧ (s.canCh c).bufs.length = 3 ∧ s.timeMaster c = true ∧ s.flag (F.CAN_CTRL_EN c) = true ∧ s.canState c ≠ canOff ∧ (s.canCh c).commits ≠ (s.canCh c).refDone ∧ (s.canCh c).commits % s.fld (F.CAN_TM_CFG_DIV c) = 0 ∧ n = (if s.fld (F.CAN_TM_STAT_CYC c) < s.fld (F.CAN_TM_CFG_CYC_MAX c) then s.fld (F.CAN_TM_STAT_CYC c) + 1 else 0) ∧ s.bufHeld c 0 = true) :=
  ⟨⟨live [(F.CAN_STAT_STATE 1, canActive), (F.CAN_RX_CFG_USED 1 63, 1), (F.CAN_RX_HDR_NEW 1 63, 1)], 1, frame, 0, 63, by decide +kernel⟩,
   ⟨channels { CanChan.reset with commits := 1, bufs := List.replicate 3 held } [(F.CAN_STAT_STATE 1, canActive), (F.CAN_CTRL_EN 1, 1), (F.CAN_TM_CFG_EN 1, 1), (F.CAN_TM_CFG_DIV 1, 1)], 1, 0, by decide +kernel⟩⟩

theorem meets_inner_TrimmerCommands : ∃ (s : State) (tc : Tc) (w : PotWrite) (i : Nat), s.pot.buffer = [w] ∧ 640 ≤ (tc - w.tc).toNat ∧ i < w.bytes.length :=
  ⟨{ live [] with pot := { Pot.reset with buffer := [⟨.a, 0, 64, [7]⟩] } }, 640, ⟨.a, 0, 64, [7]⟩, 0, by decide +kernel⟩

theorem meets_inner_RecorderCommands :
    (∃ (s : State) (sg : Bool) (m : RecMedia), s.recRuns = true ∧ s.clrRefusal sg = 0 ∧ (leAt s.clrToken 2 2).testBit 0 = true) ∧
    (∃ (s : State) (sg : Bool) (m : RecMedia), s.recRuns = true ∧ s.clrRefusal sg = 0 ∧ (leAt s.clrToken 2 2).testBit 2 = true) :=
  ⟨⟨live [(F.REC_STAT_RUN, 1), (F.REC_CLR_TOKEN_BYTES 0, 0x15243)], true, ⟨0, 0, true, false⟩, by decide +kernel⟩,
   ⟨live [(F.REC_STAT_RUN, 1), (F.REC_CLR_TOKEN_BYTES 0, 0x45243)], true, ⟨0, 0, true, false⟩, by decide +kernel⟩⟩

theorem meets_inner_EthernetPorts :
    (∃ (s : State) (p : Fin 2) (stamp : Nat), s.eth.Sized ∧ s.ethUp p = true ∧ (s.ethPort p).req.isSome = true ∧ (s.ethPort p).missed = 2) ∧
    (∃ (s : State) (p : Fin 2) (stamp : Nat), s.eth.Sized ∧ s.ethUp p = true ∧ (s.ethPort p).req = none) ∧
    (∃ (s : State) (p : Fin 2) (up : Bool), s.blockDormant 16 = false ∧ s.flag (ethLink p) ≠ up ∧ (up = true → s.fld (ethTc10 p) ≠ tc10Asleep) ∧ up = false ∧ s.fld (ethTc10 p) = tc10Wait) :=
  ⟨⟨{ live [(ethLink 1, 1)] with eth := { Eth.reset with ports := List.replicate 2 { EthPort.reset with req := some (1, 0), missed := 2 } } }, 1, 0, ⟨rfl, by decide +kernel, by decide +kernel, by decide +kernel⟩⟩,
   ⟨live [(ethLink 1, 1)], 1, 0, ⟨rfl, by decide +kernel, by decide +kernel⟩⟩,
   ⟨live [(ethLink 0, 1), (ethTc10 0, tc10Wait)], 0, false, by decide +kernel⟩⟩

theorem meets_inner_SessionsAndUpdates :
    (∃ (s : State) (v : Word) (tc : Tc) (k n : Nat), s.serviceUp = true ∧ fieldOf v 0 2 = 1 ∧ k = fieldOf v 4 2 ∧ n = fieldOf v 8 2 ∧ s.mayTransfer k = true ∧ s.upd.xfer = none ∧ s.slotRefused k n = false ∧ s.fld F.UPD_XFER_LEN_VALUE ≤ targetLimit k ∧ k ≠ 3) ∧
    (∃ (s : State) (v : Word) (x : Xfer), s.serviceUp = true ∧ fieldOf v 0 2 = 2 ∧ s.upd.session.isSome = true ∧ s.upd.xfer = some x ∧ x.target < 3) ∧
    (∃ (s : State) (tc : Tc) (x : Xfer), s.upd.xfer = some x ∧ s.fld F.UPD_XFER_STAT_STATE = 1 ∧ passed tc x.lastTc 7500000000 = true ∧ x.target < 3) ∧
    (∃ (s : State) (v : XferVerdict) (x : Xfer), s.cfg.Sized ∧ s.upd.xfer = some x ∧ s.fld F.UPD_XFER_STAT_STATE = 2 ∧ x.target = 1 ∧ x.slot < 4 ∧ s.xferCode x v ≠ 0) :=
  ⟨⟨session none [], 0x11, 0, 1, 0, by decide +kernel⟩,
   ⟨session (some xfer) [], 2, xfer, by decide +kernel⟩,
   ⟨session (some xfer) [(F.UPD_XFER_STAT_STATE, 1)], 7500000000, xfer, by decide +kernel⟩,
   ⟨session (some xfer) [(F.UPD_XFER_STAT_STATE, 2)], ⟨false, [], false, false⟩, xfer, ⟨⟨rfl, rfl⟩, by decide +kernel, by decide +kernel, by decide +kernel, by decide +kernel, by decide +kernel⟩⟩⟩

theorem meets_inner_SequenceProgram :
    (∃ (s : State) (i : Fin 16) (tc : Tc) (x : SeqStation), s.seq.Sized ∧ s.seqStations.find? (fun x => x.index == i.val) = some x ∧ (s.stn i).waiting = true ∧ msTicks x.respTmo ≤ (tc - (s.stn i).sentTc).toNat ∧ s.fld (F.SEQ_STN_STAT_STATE i) = stnRun ∧ x.missMax ≤ s.fld (F.SEQ_STN_STAT_MISS_RUN i) + 1) ∧
    (∃ (s : State) (i : Fin 16) (tc : Tc) (x : SeqStation), s.seq.Sized ∧ s.seqStations.find? (fun x => x.index == i.val) = some x ∧ (s.stn i).waiting = true ∧ msTicks x.respTmo ≤ (tc - (s.stn i).sentTc).toNat ∧ s.fld (F.SEQ_STN_STAT_MISS_RUN i) + 1 < x.missMax) :=
  ⟨⟨{ stations { Station.reset with waiting := true } with objs := ((live []).put (F.SEQ_STN_STAT_STATE 15) stnRun).objs }, 15, 0, station, ⟨rfl, by decide +kernel, by decide +kernel, by decide +kernel, by decide +kernel, by decide +kernel⟩⟩,
   ⟨{ live [] with seq := { Seq.reset with prog := some { (default : SeqProgram) with stations := [{ station with missMax := 2 }] }, stations := List.replicate 16 { Station.reset with waiting := true } } }, 15, 0, { station with missMax := 2 }, ⟨rfl, by decide +kernel, by decide +kernel, by decide +kernel, by decide +kernel⟩⟩⟩

theorem meets_inner_StartsAndShutdowns :
    (∃ (s : State) (erased : Bool) (tc : Tc), s.pwr.state.sampled = true ∧ erased = true) ∧
    (∃ (s : State) (a b : BitVec 16) (tc : Tc), s.pwr.state.sensed = true ∧ s.pwr.state ≠ .thermalStop ∧ s.pwr.state ≠ .debug ∧ ((junctionValid a = true ∧ 17280 ≤ a.toInt ∧ 1 ≤ s.thm.hot1) ∨ (junctionValid b = true ∧ 17280 ≤ b.toInt ∧ 1 ≤ s.thm.hot2) ∨ (junctionValid a = false ∧ junctionValid b = false ∧ 1 ≤ s.thm.bad)) ∧ s.blockDormant 0x12 = false) :=
  ⟨⟨live [], true, 0, by decide +kernel⟩,
   ⟨{ live [] with thm := { Thm.reset with hot1 := 1 } }, 17280, 0x8000, 0, by decide +kernel⟩⟩

theorem meets_inner_SleepAndWake :
    (∃ (s : State) (w : Bool) (tc : Tc), s.flag F.PWR_STAT_ENTRY = true ∧ s.pwr.state = .running ∧ s.est.wb = none ∧ s.fld F.PWR_STAT_TARGET = 1 ∧ s.pwr.latched = 0 ∧ w = true) ∧
    (∃ (s : State) (w : Bool) (tc : Tc), s.flag F.PWR_STAT_ENTRY = true ∧ s.pwr.state = .running ∧ s.est.wb = none ∧ s.fld F.PWR_STAT_TARGET = 1 ∧ s.pwr.latched = 0 ∧ w = false) :=
  ⟨⟨live [(F.PWR_STAT_ENTRY, 1), (F.PWR_STAT_TARGET, 1)], true, 0, by decide +kernel⟩,
   ⟨live [(F.PWR_STAT_ENTRY, 1), (F.PWR_STAT_TARGET, 1)], false, 0, by decide +kernel⟩⟩

theorem meets_inner_CommitPoints :
    (∃ (s : State) (k : Fin 64) (m : RecMedia) (tc : Tc), s.fires k 1 tc = true ∧ s.pwr.request = none ∧ (∀ x ∈ s.seqVars, x.binding = none) ∧ s.fld F.CFG_LS_STAT_STATE = lsPassed) ∧
    (∃ (s : State) (k : Fin 64) (m : RecMedia) (tc : Tc), ∃ (c d : Contribution), s.fires k 1 tc = true ∧ s.pwr.request = none ∧ (∀ x ∈ s.seqVars, x.binding = none) ∧ s.dsp.stagedD = some c ∧ s.dsp.stagedT = some d) ∧
    (∃ (s : State) (k : Fin 64) (m : RecMedia) (tc : Tc), ∃ (l : Lane), s.fires k 1 tc = true ∧ s.pwr.request = none ∧ (∀ x ∈ s.seqVars, x.binding = none) ∧ s.lan.lid = some l ∧ s.lan.fw = true ∧ s.lan.watched = true ∧ s.lan.rebuilt = false ∧ s.lan.beats = 1 ∧ s.lan.wrong = false) ∧
    (∃ (s : State) (k : Fin 64) (m : RecMedia) (tc : Tc), ∃ (l : Lane), s.fires k 1 tc = true ∧ s.pwr.request = none ∧ (∀ x ∈ s.seqVars, x.binding = none) ∧ s.lan.lid = some l ∧ s.lan.fw = true ∧ s.lan.watched = true ∧ s.lan.rebuilt = false ∧ s.lan.beats ≠ 1 ∧ s.fld F.LAN_HB_MISS = 0) ∧
    (∃ (s : State) (k : Fin 64) (m : RecMedia) (tc : Tc), ∃ (l : Lane), s.fires k 1 tc = true ∧ s.pwr.request = none ∧ (∀ x ∈ s.seqVars, x.binding = none) ∧ s.lan.lid = some l ∧ s.lan.fw = true ∧ s.lan.watched = true ∧ s.lan.rebuilt = false ∧ s.lan.wrong = true ∧ s.fld F.LAN_HB_MISS = 1 ∧ s.fld F.CFG_LS_STAT_STATE ≠ lsPassed ∧ s.laneState l = lnActive ∧ s.laneState (otherLane l) = lnStandby ∧ s.bestImage.isSome = true) :=
  ⟨⟨commits [(F.CFG_LS_STAT_STATE, lsPassed)], 63, ⟨0, 0, true, false⟩, 0, by decide +kernel⟩,
   ⟨{ commits [] with dsp := { Dsp.reset with stagedD := some ⟨[], [], [], [], 0, 0, 0, 0⟩, stagedT := some ⟨[], [], [], [], 0, 0, 0, 0⟩ } }, 63, ⟨0, 0, true, false⟩, 0, ⟨[], [], [], [], 0, 0, 0, 0⟩, ⟨[], [], [], [], 0, 0, 0, 0⟩, by decide +kernel⟩,
   ⟨{ commits [(F.LAN_HB_MISS, 1)] with lan := { Lan.reset with pins := lidPins (some .a), back := lidPins (some .a), fw := true, watched := true, beats := 1 } }, 63, ⟨0, 0, true, false⟩, 0, .a, by decide +kernel⟩,
   ⟨{ commits [] with lan := { Lan.reset with pins := lidPins (some .a), back := lidPins (some .a), fw := true, watched := true } }, 63, ⟨0, 0, true, false⟩, 0, .a, by decide +kernel⟩,
   ⟨{ commits [(F.LAN_HB_MISS, 1)] with lan := { Lan.reset with pins := lidPins (some .a), back := lidPins (some .a), fw := true, watched := true, beats := 1, wrong := true }, pot := (imaged []).pot }, 63, ⟨0, 0, true, false⟩, 0, .a, ⟨by decide +kernel, rfl, by decide +kernel, rfl, rfl, rfl, rfl, rfl, by decide +kernel, by decide +kernel, by decide +kernel, by decide +kernel, imaged_bestImage _ (imaged_mem []) (by decide +kernel)⟩⟩⟩

theorem meets_inner_PhaseBaseFollowsItsSource :
    (∃ (s : State) (tc : Tc), s.wrapsAt tc = true ∧ s.fld F.PHB_STAT_STATE = phbRealign) ∧
    (∃ (s : State) (tc : Tc), s.wrapsAt tc = true ∧ s.fld F.PHB_STAT_STATE = phbFlywheel ∧ s.phb.flywheel = 19) :=
  ⟨⟨{ live [(F.PHB_STAT_STATE, phbRealign)] with phb := { Phb.reset with incBefore := 1, carries := 1 } }, 0, by decide +kernel⟩,
   ⟨{ live [(F.PHB_STAT_STATE, phbFlywheel)] with phb := { Phb.reset with incBefore := 1, carries := 1, flywheel := 19 } }, 0, by decide +kernel⟩⟩

theorem meets_inner_PortsTurnOnAndOff : ∃ (s : State) (p : Fin 8), s.ports.length = 8 ∧ s.bit F.INF_DORMANT_UNIT_PORT p = false ∧ s.portState p = portOff :=
  ⟨live [], 7, by decide +kernel⟩

theorem meets_inner_TransactionsIssueAndEnd :
    (∃ (s : State) (p : Fin 8) (g : Fin 16) (tc : Tc) (x y : Txn) (b : Bool), s.ports.length = 8 ∧ (s.portState p = portSplit ∨ s.portState p = portRing ∧ (s.port p).consecutive < 2) ∧ s.txnOf p g = some x ∧ x.waits = false ∧ x.respEnd + 4000 * s.fld (F.DLK_P_CFG_MARGIN p) ≤ tcQuarter tc ∧ x.retries < s.fld (F.DLK_P_CFG_RETRY p) ∧ s.txnEnd p x = some b ∧ y = s.timed p { x with attempt := x.attempt + 1, retries := x.retries + 1, endB := b } (tcQuarter tc) ∧ (s.port p).freeAt b (tcQuarter tc) = tcQuarter tc ∧ fits (s.port p) y = true ∧ (s.port p).idle = true) ∧
    (∃ (s : State) (p : Fin 8) (g : Fin 16) (tc : Tc) (x y : Txn) (b : Bool), s.ports.length = 8 ∧ (s.portState p = portSplit ∨ s.portState p = portRing ∧ (s.port p).consecutive < 2) ∧ s.txnOf p g = some x ∧ x.waits = false ∧ x.respEnd + 4000 * s.fld (F.DLK_P_CFG_MARGIN p) ≤ tcQuarter tc ∧ x.retries < s.fld (F.DLK_P_CFG_RETRY p) ∧ s.txnEnd p x = some b ∧ y = s.timed p { x with attempt := x.attempt + 1, retries := x.retries + 1, endB := b } (tcQuarter tc) ∧ (s.port p).freeAt b (tcQuarter tc) ≠ tcQuarter tc) :=
  ⟨⟨linked { Port.reset with outstanding := [txn] } [(F.DLK_P_STAT_STATE 7, portSplit), (F.DLK_P_CFG_RETRY 7, 1)], 7, 3, 0, txn, State.timed (linked { Port.reset with outstanding := [txn] } [(F.DLK_P_STAT_STATE 7, portSplit), (F.DLK_P_CFG_RETRY 7, 1)]) 7 { txn with attempt := 1, retries := 1, endB := false } 0, false, by decide +kernel⟩,
   ⟨linked { Port.reset with outstanding := [txn], wireA := some ⟨[], none, 0, 100⟩ } [(F.DLK_P_STAT_STATE 7, portSplit), (F.DLK_P_CFG_RETRY 7, 1)], 7, 3, 0, txn, State.timed (linked { Port.reset with outstanding := [txn], wireA := some ⟨[], none, 0, 100⟩ } [(F.DLK_P_STAT_STATE 7, portSplit), (F.DLK_P_CFG_RETRY 7, 1)]) 7 { txn with attempt := 1, retries := 1, endB := false } 0, false, by decide +kernel⟩⟩

theorem meets_inner_SweepSequence :
    (∃ (s : State) (k : Fin 64) (tc : Tc) (pos : Nat), s.phbOn = true ∧ s.flag F.PHB_STAT_SCHED_RUN = true ∧ s.phb.accTc ≤ tc ∧ s.fld (F.PHB_SCHED_A_ACTION k) = 4 ∧ s.unnoticed k tc = some pos ∧ (s.ticksTo pos tc = 4000 ∨ s.ticksTo pos tc < 4000 ∧ s.phb.moveTc = some tc) ∧ s.blockDormant 0x12 = false ∧ s.flag F.SWP_CTRL_EN = true) ∧
    (∃ (s : State) (tc : Tc) (w : Sweep), ∃ (p m : Nat), s.swp.sweep = some w ∧ s.swp.Sized ∧ w.tc.toNat + 250 * s.fld F.SWP_DEADLINE_US ≤ tc.toNat ∧ p < 8 ∧ m < s.monCount p ∧ m < 32) :=
  ⟨⟨{ live [(F.PHB_STAT_SCHED_RUN, 1), (F.PHB_SCHED_A_ACTION 63, 4), (F.SWP_CTRL_EN, 1)] with phb := { Phb.reset with incBefore := 1, moveTc := some 0 } }, 63, 0, 281474976710656, by decide +kernel⟩,
   ⟨sweeps (wired []), 0, sweep, 7, 31, ⟨by decide +kernel, List.length_replicate, by decide +kernel, by decide +kernel, by decide +kernel, by decide +kernel⟩⟩⟩

theorem meets_inner_IslandPathsAndFault :
    (∃ (s : State) (n : Fin 8) (tc : Tc), s.prt.Sized ∧ s.armed = true ∧ s.declared n = true ∧ s.armed = true) ∧
    (∃ (s : State) (skew : BitVec 64) (tc t0 : Tc), ∃ (n : Nat), s.prt.diffTc = some t0 ∧ passed tc t0 250 = true ∧ s.flag F.PRT_STAT_ISL_FAULT = false ∧ n < 8 ∧ s.armed = true) ∧
    (∃ (s : State) (tc : Tc), ∃ (k : Nat), s.flag F.PRT_STAT_ISL_FAULT = true ∧ passed tc s.prt.faultTc 1250000 = true ∧ k < 28 ∧ s.conUsed k = true) :=
  ⟨⟨wired [(F.PRT_STAT_ARMED, 1)], 7, 0, ⟨⟨rfl, rfl⟩, by decide +kernel, by decide +kernel, by decide +kernel⟩⟩,
   ⟨{ live [(F.PRT_STAT_ARMED, 1)] with prt := { Prt.reset with diffTc := some 0 } }, 1, 250, 0, 7, by decide +kernel⟩,
   ⟨live [(F.PRT_STAT_ISL_FAULT, 1), (F.BRK_CON_USED 27, 1)], 1250000, 27, by decide +kernel⟩⟩

theorem meets_inner_StringsMove : ∃ (s : State) (r : Rails) (tc : Tc), s.armed = false ∧ s.islBlocked = false ∧ (∀ m, m < 8 → s.declared m = false → (s.isl m).queue = [] ∧ (s.isl m).openDue = none) ∧ s.railLow r = true ∧ s.prt.collapseFrom = none :=
  ⟨(live []).withSec 4 (halves 1024 [(970, 0x3200)]), ⟨1, 99⟩, 0, by decide +kernel⟩

theorem meets_inner_ContactorDrivers :
    (∃ (s : State) (k : Fin 28) (ma : BitVec 16) (high : Bool) (tc : Tc), s.conUsed k = true ∧ s.prt.conFaults.getD k 0 ≠ 0 ∧ s.fld (F.BRK_CON_FAULT k) < 9) ∧
    (∃ (s : State) (k : Fin 28) (ma : BitVec 16) (high : Bool) (tc : Tc), s.conUsed k = true ∧ 9 ≤ s.fld (F.BRK_CON_FAULT k)) :=
  ⟨⟨{ live [(F.BRK_CON_USED 0, 1), (F.BRK_CON_FAULT 0, 5)] with prt := { Prt.reset with conFaults := 5 :: List.replicate 27 0 } }, 0, 9, true, 0, by decide +kernel⟩,
   ⟨live [(F.BRK_CON_USED 27, 1), (F.BRK_CON_FAULT 27, 9)], 27, 9, false, 0, by decide +kernel⟩⟩

theorem meets_inner_SafeDataReceived :
    (∃ (s : State) (c : Fin 4) (eth : Bool) (l : List Byte) (tc : Tc) (w : SdOpen), s.saf.Sized ∧ s.lan.fw = true ∧ s.sdUsed c = true ∧ sdCopyValid (s.rxField c 0 4) l = true ∧ (s.conn c).first = some w ∧ w.seq = BitVec.ofNat 16 (leAt l 2 2) ∧ w.eth = !eth ∧ (tc - w.tc).toNat ≤ s.sdWin c ∧ s.sdState c ≠ sdFault ∧ w.data = BitVec.ofNat 32 (leAt l 4 4)) ∧
    (∃ (s : State) (c : Fin 4) (eth : Bool) (l : List Byte) (tc : Tc) (w : SdOpen), s.saf.Sized ∧ s.lan.fw = true ∧ s.sdUsed c = true ∧ sdCopyValid (s.rxField c 0 4) l = true ∧ (s.conn c).first = some w ∧ w.seq = BitVec.ofNat 16 (leAt l 2 2) ∧ w.eth = !eth ∧ (tc - w.tc).toNat ≤ s.sdWin c ∧ s.sdState c ≠ sdFault ∧ w.data ≠ BitVec.ofNat 32 (leAt l 4 4)) ∧
    (∃ (s : State) (c : Fin 4) (tc : Tc) (w : SdOpen), s.saf.Sized ∧ s.lan.fw = true ∧ (s.conn c).first = some w ∧ s.sdWin c < (tc - w.tc).toNat ∧ s.sdState c = sdRun ∧ s.fld (F.SAF_SD_RX_STAT_SINGLE c) = s.rxField c 11 1) ∧
    (∃ (s : State) (c : Fin 4) (tc : Tc) (w : SdOpen), s.saf.Sized ∧ s.lan.fw = true ∧ (s.conn c).first = some w ∧ s.sdWin c < (tc - w.tc).toNat ∧ s.sdState c = sdRun ∧ s.fld (F.SAF_SD_RX_STAT_SINGLE c) ≠ s.rxField c 11 1) :=
  ⟨⟨(connected { SdConn.reset with first := some ⟨1, 0, false, 0⟩ } []).withSec 5 (ones 300), 3, true, safeMessage, 0, ⟨1, 0, false, 0⟩, ⟨⟨rfl, rfl, rfl, rfl, rfl⟩, by decide +kernel, by decide +kernel, by decide +kernel, by decide +kernel, by decide +kernel, by decide +kernel, by decide +kernel, by decide +kernel, by decide +kernel⟩⟩,
   ⟨(connected { SdConn.reset with first := some ⟨1, 9, false, 0⟩ } []).withSec 5 (ones 300), 3, true, safeMessage, 0, ⟨1, 9, false, 0⟩, ⟨⟨rfl, rfl, rfl, rfl, rfl⟩, by decide +kernel, by decide +kernel, by decide +kernel, by decide +kernel, by decide +kernel, by decide +kernel, by decide +kernel, by decide +kernel, by decide +kernel⟩⟩,
   ⟨connected { SdConn.reset with first := some ⟨1, 0, false, 0⟩ } [(F.SAF_SD_RX_STAT_STATE 3, sdRun)], 3, 1, ⟨1, 0, false, 0⟩, ⟨⟨rfl, rfl, rfl, rfl, rfl⟩, by decide +kernel, by decide +kernel, by decide +kernel, by decide +kernel, by decide +kernel⟩⟩,
   ⟨connected { SdConn.reset with first := some ⟨1, 0, false, 0⟩ } [(F.SAF_SD_RX_STAT_STATE 0, sdRun), (F.SAF_SD_RX_STAT_SINGLE 0, 1)], 0, 1, ⟨1, 0, false, 0⟩, ⟨⟨rfl, rfl, rfl, rfl, rfl⟩, by decide +kernel, by decide +kernel, by decide +kernel, by decide +kernel, by decide +kernel⟩⟩⟩

theorem meets_inner_SlotsEvaluate :
    (∃ (s i : State) (k : Fin 64) (tc : Tc), ∃ (n : Nat), s.cte.Sized ∧ s.fires k 6 tc = true ∧ s.cteRuns = true ∧ i = s.writeDue tc.toNat ∧ n < 32 ∧ s.slotOn n = true ∧ s.fld (F.CTE_L_CFG_GROUP n) = s.fld (F.PHB_SCHED_A_TARGET k) ∧ (s.slot n).div ≠ 0) ∧
    (∃ (s i : State) (k : Fin 64) (tc : Tc), ∃ (n : Nat), s.cte.Sized ∧ s.fires k 6 tc = true ∧ s.cteRuns = true ∧ i = s.writeDue tc.toNat ∧ n < 32 ∧ s.slotOn n = true ∧ s.fld (F.CTE_L_CFG_GROUP n) = s.fld (F.PHB_SCHED_A_TARGET k) ∧ (s.slot n).div = 0 ∧ i.slotInputs n (i.sharing tc) tc = none) ∧
    (∃ (s i : State) (k : Fin 64) (tc : Tc), ∃ (n : Nat) (r y : Int), s.cte.Sized ∧ s.fires k 6 tc = true ∧ s.cteRuns = true ∧ i = s.writeDue tc.toNat ∧ n < 32 ∧ s.slotOn n = true ∧ s.fld (F.CTE_L_CFG_GROUP n) = s.fld (F.PHB_SCHED_A_TARGET k) ∧ (s.slot n).div = 0 ∧ i.slotInputs n (i.sharing tc) tc = some (r, y) ∧ s.flag (F.CTE_L_CFG_CLASS n) = true) ∧
    (∃ (s i : State) (k : Fin 64) (tc : Tc), ∃ (n : Nat) (r y : Int), s.cte.Sized ∧ s.fires k 6 tc = true ∧ s.cteRuns = true ∧ i = s.writeDue tc.toNat ∧ n < 32 ∧ s.slotOn n = true ∧ s.fld (F.CTE_L_CFG_GROUP n) = s.fld (F.PHB_SCHED_A_TARGET k) ∧ (s.slot n).div = 0 ∧ i.slotInputs n (i.sharing tc) tc = some (r, y) ∧ s.flag (F.CTE_L_CFG_CLASS n) = false) :=
  ⟨⟨{ live [(F.CTE_CTRL_EN, 1), (F.PHB_STAT_SCHED_RUN, 1), (F.PHB_SCHED_A_ACTION 63, 6), (F.CTE_L_IO_EXISTS 31, 1), (F.CTE_L_CFG_EN 31, 1)] with cte := { Cte.reset with ready := true, slots := List.replicate 32 { Slot.reset with div := 1 } } }, State.writeDue ({ live [(F.CTE_CTRL_EN, 1), (F.PHB_STAT_SCHED_RUN, 1), (F.PHB_SCHED_A_ACTION 63, 6), (F.CTE_L_IO_EXISTS 31, 1), (F.CTE_L_CFG_EN 31, 1)] with cte := { Cte.reset with ready := true, slots := List.replicate 32 { Slot.reset with div := 1 } } }) 0, 63, 0, 31, ⟨⟨rfl, rfl⟩, by decide +kernel, by decide +kernel, rfl, by decide +kernel, by decide +kernel, by decide +kernel, by decide +kernel⟩⟩,
   ⟨{ live [(F.CTE_CTRL_EN, 1), (F.PHB_STAT_SCHED_RUN, 1), (F.PHB_SCHED_A_ACTION 63, 6), (F.CTE_L_IO_EXISTS 31, 1), (F.CTE_L_CFG_EN 31, 1)] with cte := { Cte.reset with ready := true } }, State.writeDue ({ live [(F.CTE_CTRL_EN, 1), (F.PHB_STAT_SCHED_RUN, 1), (F.PHB_SCHED_A_ACTION 63, 6), (F.CTE_L_IO_EXISTS 31, 1), (F.CTE_L_CFG_EN 31, 1)] with cte := { Cte.reset with ready := true } }) 0, 63, 0, 31, ⟨⟨rfl, rfl⟩, by decide +kernel, by decide +kernel, rfl, by decide +kernel, by decide +kernel, by decide +kernel, by decide +kernel, by decide +kernel⟩⟩,
   ⟨{ live [(F.CTE_CTRL_EN, 1), (F.PHB_STAT_SCHED_RUN, 1), (F.PHB_SCHED_A_ACTION 63, 6), (F.CTE_L_IO_EXISTS 31, 1), (F.CTE_L_CFG_EN 31, 1), (F.CTE_L_IO_MSRC 31, 3), (F.CTE_L_CFG_CLASS 31, 1)] with cte := { Cte.reset with ready := true } }, State.writeDue ({ live [(F.CTE_CTRL_EN, 1), (F.PHB_STAT_SCHED_RUN, 1), (F.PHB_SCHED_A_ACTION 63, 6), (F.CTE_L_IO_EXISTS 31, 1), (F.CTE_L_CFG_EN 31, 1), (F.CTE_L_IO_MSRC 31, 3), (F.CTE_L_CFG_CLASS 31, 1)] with cte := { Cte.reset with ready := true } }) 0, 63, 0, 31, 0, 0, ⟨⟨rfl, rfl⟩, by decide +kernel, by decide +kernel, rfl, by decide +kernel, by decide +kernel, by decide +kernel, by decide +kernel, by decide +kernel, by decide +kernel⟩⟩,
   ⟨{ live [(F.CTE_CTRL_EN, 1), (F.PHB_STAT_SCHED_RUN, 1), (F.PHB_SCHED_A_ACTION 63, 6), (F.CTE_L_IO_EXISTS 0, 1), (F.CTE_L_CFG_EN 0, 1), (F.CTE_L_IO_MSRC 0, 3)] with cte := { Cte.reset with ready := true } }, State.writeDue ({ live [(F.CTE_CTRL_EN, 1), (F.PHB_STAT_SCHED_RUN, 1), (F.PHB_SCHED_A_ACTION 63, 6), (F.CTE_L_IO_EXISTS 0, 1), (F.CTE_L_CFG_EN 0, 1), (F.CTE_L_IO_MSRC 0, 3)] with cte := { Cte.reset with ready := true } }) 0, 63, 0, 0, 0, 0, ⟨⟨rfl, rfl⟩, by decide +kernel, by decide +kernel, rfl, by decide +kernel, by decide +kernel, by decide +kernel, by decide +kernel, by decide +kernel, by decide +kernel⟩⟩⟩

theorem meets_inner_TrimmersFollowStreams :
    (∃ (s : State) (n : Fin 8) (l : List Byte) (tc : Tc), s.cte.Sized ∧ s.cteDormant = false ∧ s.flag (F.CTE_TRIM_STAT_PRESENT n) = true ∧ crc8 (l.take 7) = l.getD 7 0 ∧ s.cte.ready = true ∧ s.trimState n = trimRun ∧ (l.getD 6 0).getLsbD 1 = true) ∧
    (∃ (s : State) (n : Fin 8) (l : List Byte) (tc : Tc), s.cte.Sized ∧ s.cteDormant = false ∧ s.flag (F.CTE_TRIM_STAT_PRESENT n) = true ∧ crc8 (l.take 7) = l.getD 7 0 ∧ ((l.getD 6 0).getLsbD 1 = false ∨ s.cte.ready = false)) ∧
    (∃ (s : State) (n : Fin 8) (tc : Tc), s.cte.Sized ∧ s.cteDormant = false ∧ s.flag (F.CTE_TRIM_STAT_PRESENT n) = true ∧ (s.trim n).lost = false ∧ (∀ t0, (s.trim n).good = some t0 → 2700 ≤ (tc - t0).toNat) ∧ s.cte.ready = true ∧ s.trimState n = trimRun) ∧
    (∃ (s : State) (n : Fin 8) (tc : Tc), s.cte.Sized ∧ s.cteDormant = false ∧ s.flag (F.CTE_TRIM_STAT_PRESENT n) = true ∧ (s.trim n).lost = false ∧ (∀ t0, (s.trim n).good = some t0 → 2700 ≤ (tc - t0).toNat) ∧ s.cte.ready = false) ∧
    (∃ (s v : State) (k : Fin 64) (tc : Tc), ∃ (n : Nat), s.cte.Sized ∧ s.fires k 7 tc = true ∧ s.cteRuns = true ∧ v = ((s.acted (448 + k) tc).writeDue (tc.toNat + 1)).startCarriers ∧ n < 8 ∧ (s.fld (F.PHB_SCHED_A_TARGET k)).testBit n = true ∧ s.flag (F.CTE_TRIM_STAT_PRESENT n) = true ∧ s.trimState n = trimRun) ∧
    (∃ (s : State) (n : Fin 8), ∃ (m : Int) (a b : Nat), s.cte.Sized ∧ s.cte.carriers = true ∧ s.cte.ready = true ∧ s.flag (F.CTE_TRIM_PWM_INTERLEAVE n) = true ∧ (s.trim n).shadow = some (m, a, b)) :=
  ⟨⟨{ live [(F.CTE_TRIM_STAT_PRESENT 7, 1), (F.CTE_TRIM_STAT_STATE 7, trimRun)] with cte := { Cte.reset with ready := true } }, 7, [0, 0, 0, 0, 0, 0, 2, crc8 [0, 0, 0, 0, 0, 0, 2]], 0, ⟨⟨rfl, rfl⟩, by decide +kernel, by decide +kernel, by decide +kernel, by decide +kernel, by decide +kernel, by decide +kernel⟩⟩,
   ⟨live [(F.CTE_TRIM_STAT_PRESENT 0, 1)], 0, [], 0, ⟨⟨rfl, rfl⟩, by decide +kernel, by decide +kernel, by decide +kernel, by decide +kernel⟩⟩,
   ⟨{ live [(F.CTE_TRIM_STAT_PRESENT 7, 1), (F.CTE_TRIM_STAT_STATE 7, trimRun)] with cte := { Cte.reset with ready := true } }, 7, 0, ⟨⟨rfl, rfl⟩, by decide +kernel, by decide +kernel, by decide +kernel, fun t h => (by cases h), by decide +kernel, by decide +kernel⟩⟩,
   ⟨live [(F.CTE_TRIM_STAT_PRESENT 7, 1)], 7, 0, ⟨⟨rfl, rfl⟩, by decide +kernel, by decide +kernel, by decide +kernel, fun t h => (by cases h), by decide +kernel⟩⟩,
   ⟨{ live [(F.CTE_CTRL_EN, 1), (F.PHB_STAT_SCHED_RUN, 1), (F.PHB_SCHED_A_ACTION 63, 7), (F.PHB_SCHED_A_TARGET 63, 0x80), (F.CTE_TRIM_STAT_PRESENT 7, 1), (F.CTE_TRIM_STAT_STATE 7, trimRun)] with cte := { Cte.reset with ready := true } }, State.startCarriers (State.writeDue (State.acted ({ live [(F.CTE_CTRL_EN, 1), (F.PHB_STAT_SCHED_RUN, 1), (F.PHB_SCHED_A_ACTION 63, 7), (F.PHB_SCHED_A_TARGET 63, 0x80), (F.CTE_TRIM_STAT_PRESENT 7, 1), (F.CTE_TRIM_STAT_STATE 7, trimRun)] with cte := { Cte.reset with ready := true } }) 511 0) 1), 63, 0, 7, ⟨⟨rfl, rfl⟩, by decide +kernel, by decide +kernel, rfl, by decide +kernel, by decide +kernel, by decide +kernel, by decide +kernel⟩⟩,
   ⟨{ live [(F.CTE_TRIM_PWM_INTERLEAVE 7, 1)] with cte := { Cte.reset with ready := true, carriers := true, trims := List.replicate 8 { Trim.reset with shadow := some (3, 1, 2) } } }, 7, 3, 1, 2, ⟨⟨rfl, rfl⟩, by decide +kernel, by decide +kernel, by decide +kernel, by decide +kernel⟩⟩⟩

theorem meets_inner_DispatchAndThermal :
    (∃ (s : State) (tc : Tc) (snap : Snapshot) (host : Word), s.dsp.work = some (snap, host) ∧ s.dsp.again = false) ∧
    (∃ (s : State) (tc : Tc) (snap : Snapshot) (host : Word), s.dsp.work = some (snap, host) ∧ s.dsp.again = true ∧ s.dspRuns = true ∧ s.latest.epoch ≠ 0 ∧ s.hostLate tc = true) ∧
    (∃ (s : State) (tc : Tc) (snap : Snapshot) (host : Word), s.dsp.work = some (snap, host) ∧ s.dsp.again = true ∧ s.dspRuns = true ∧ s.latest.epoch ≠ 0 ∧ s.hostLate tc = false) ∧
    (∃ (s : State) (m : RecMedia) (tc : Tc), s.roundDue = true ∧ s.blockDormant 11 = false ∧ s.fld F.THM_STAT_STEP < s.derateMax 0) ∧
    (∃ (s : State) (m : RecMedia) (tc : Tc), s.roundDue = true ∧ s.blockDormant 11 = false ∧ s.derateMax 0 ≤ s.fld F.THM_STAT_STEP ∧ s.fld F.THM_STAT_STEP ≤ s.derateMax 1) ∧
    (∃ (s : State) (m : RecMedia) (tc : Tc), s.roundDue = true ∧ s.blockDormant 11 = false ∧ s.recRuns = true ∧ m.ecc = true) :=
  ⟨⟨{ live [] with dsp := { Dsp.reset with work := some (Snapshot.empty, 0) } }, 0, Snapshot.empty, 0, by decide +kernel⟩,
   ⟨{ live [(F.DSP_HOST_TMO_TMO, 1)] with dsp := { Dsp.reset with work := some (Snapshot.empty, 0), again := true }, latest := { Snapshot.empty with epoch := 1 } }, 250000, Snapshot.empty, 0, by decide +kernel⟩,
   ⟨{ live [(F.DSP_HOST_TMO_TMO, 1)] with dsp := { Dsp.reset with work := some (Snapshot.empty, 0), again := true }, latest := { Snapshot.empty with epoch := 1 } }, 0, Snapshot.empty, 0, by decide +kernel⟩,
   ⟨{ live [(F.THM_DR_STEP 3, 1)] with thm := { Thm.reset with due := true, ok1 := true } }, ⟨0, 0, true, false⟩, 0, by decide +kernel⟩,
   ⟨{ live [] with thm := { Thm.reset with due := true } }, ⟨0, 0, true, false⟩, 0, by decide +kernel⟩,
   ⟨{ live [(F.REC_STAT_RUN, 1)] with thm := { Thm.reset with due := true } }, ⟨0, 0, true, true⟩, 0, by decide +kernel⟩⟩

theorem meets_inner_NewLaneTakesOver : ∃ (s : State) (f : Frame) (bytes : List Byte) (tc t0 : Tc) (k : Nat), s.frames.due = some (f, bytes, t0) ∧ passed tc t0 640 = true ∧ s.lan.final = false ∧ k = s.frameTarget ∧ s.lidHeld = true ∧ s.pot.buffer = [] :=
  ⟨{ live [] with frames := { Frames.reset with due := some (mgmtFrame, [], 0) } }, mgmtFrame, [], 640, 0, 0, ⟨rfl, by decide +kernel, by decide +kernel, rfl, by decide +kernel, rfl⟩⟩

end Sys2Proof.Tests
end

section
/-! Moves: each command changes what its scope names and nothing else, keeps the record of the model and keeps the invariant: one lemma per command, in the order of the families. A proof follows the definition of its command: Moved.andThen where it does one operation after another, ite where it decides. -/
namespace Sys2Proof.Machine

open Sys2Proof

-- The proofs below are many and short: begun all at once they would need a thread, and its stack, for each.
set_option Elab.async false

/-- What changes within some parts changes within more parts. -/
theorem Moved.widen {m k : Nat} {s t : State} (g : Moved k s t) (hk : m ||| k = m := by rfl) : Moved m s t := (Moved.refl m s).chain g hk

/-- One operation after another. -/
theorem Moved.andThen {m k : Nat} {r s t : State} (h : Moved m r s) (g : Moved k s t) (hk : m ||| k = m := by rfl) : Moved m r t := h.chain g hk

/-- An operation that is done on a condition only. -/
theorem Moved.andThenIf {m k : Nat} {r s t : State} {c : Prop} [Decidable c] (h : Moved m r s) (g : Moved k s t) (hk : m ||| k = m := by rfl) :
    Moved m r (if c then t else s) := .ite (h.chain g hk) h

theorem Moved.andThenUnless {m k : Nat} {r s t : State} {c : Prop} [Decidable c] (h : Moved m r s) (g : Moved k s t) (hk : m ||| k = m := by rfl) :
    Moved m r (if c then s else t) := .ite h (h.chain g hk)

/-- The same of a command: where it answers a next state, only the parts of m have changed. -/
def MovedBy (m : Nat) (r : State) (o : Host.Outcome State Fault Refusal) : Prop := ∀ t, o = .next t → Moved m r t

namespace MovedBy

variable {m k : Nat} {r t : State} {o p : Host.Outcome State Fault Refusal} {c : Prop} [Decidable c]

theorem next (h : Moved m r t) : MovedBy m r (.next t) := fun _ e => Host.Outcome.next.inj e ▸ h

theorem same : MovedBy m r (.next r) := next (Moved.refl m r)

theorem fault (f : Fault) : MovedBy m r (.fault f) := fun _ e => nomatch e

theorem ite (h : MovedBy m r o) (g : MovedBy m r p) : MovedBy m r (if c then o else p) := by
  split
  · exact h
  · exact g

theorem op (g : Moved k r t) (hk : m ||| k = m := by rfl) : MovedBy m r (.next t) := next (g.widen hk)

theorem opIf (g : Moved k r t) (hk : m ||| k = m := by rfl) : MovedBy m r (.next (if c then t else r)) := next (.ite (g.widen hk) (.refl m r))

theorem opUnless (g : Moved k r t) (hk : m ||| k = m := by rfl) : MovedBy m r (.next (if c then r else t)) := next (.ite (.refl m r) (g.widen hk))

end MovedBy

/-! Commands of the phase base and of network time. -/

theorem execReferenceEvent_moved (tc : Tc) (s : State) : MovedBy 0x800000081 s (execReferenceEvent tc s) := by
  unfold execReferenceEvent
  refine .ite .same ?_
  split
  · exact .op (State.refEvent_moved ..)
  · exact .op (State.refEvent_moved ..)
  · exact .ite (.next ((State.withPhb_moved ..).widen.andThen (State.refEvent_moved ..))) .same
  · exact .same

theorem execReferenceMissing_moved (tc : Tc) (s : State) : MovedBy 0x800000081 s (execReferenceMissing tc s) :=
  .ite (.op (State.refMissing_moved ..)) .same

theorem execPhaseWrap_moved (tc : Tc) (s : State) : MovedBy 0x800000081 s (execPhaseWrap tc s) :=
  .opIf (State.wrap_moved ..)

theorem execEncoderCount_moved (e : EncoderEdge) (s : State) : MovedBy 0x80 s (execEncoderCount e s) := by
  unfold execEncoderCount
  refine .ite .same ?_
  cases e with
  | up => exact .ite (.op (State.withPhb_moved ..)) (.op (State.withPhb_moved ..))
  | down => exact .op (State.withPhb_moved ..)
  | z => exact .ite (.op (State.withPhb_moved ..)) .same

theorem execMark_moved (k : Fin 64) (tc : Tc) (s : State) : MovedBy 0x800000081 s (execMark k tc s) :=
  .ite (.next (State.wr_moved (State.wr64_moved (State.acted_moved ..).widen _ _ (inBlock_of 3 (by omega) rfl) (inBlock_of 3 (by omega) rfl)) _ _
    (inBlock_of 3 (by omega) rfl))) .same

theorem execAngleMessageSend_moved (tc : Tc) (s : State) : MovedBy 0x8000080 s (execAngleMessageSend tc s) :=
  .ite (.next ((State.withPhb_moved ..).widen.andThen (State.emit_moved ..))) .same

theorem execAngleMessageReceive_moved (payload : List Byte) (tc : Tc) (s : State) : MovedBy 0x800000081 s (execAngleMessageReceive payload tc s) :=
  .ite (.next ((State.withPhb_moved ..).widen.andThen (State.refEvent_moved ..))) .same

theorem execTpoArm_moved (n : Fin 4) (tc : Tc) (s : State) : MovedBy 0x2000000080001 s (execTpoArm n tc s) :=
  .op (State.tpoArm_moved ..)

theorem execTpoDisarm_moved (n : Fin 4) (s : State) : MovedBy 0x2000000080001 s (execTpoDisarm n s) :=
  .op (State.tpoDisarm_moved ..)

theorem execTpoEdge_moved (n : Fin 4) (tc : Tc) (s : State) : MovedBy 0x2000000080001 s (execTpoEdge n tc s) :=
  .ite (.next (State.put_moved (State.bump_moved (State.setTpo_moved ..).widen _ (inBlock_of 17 (by simp only [F.TIM_TPO_STAT_PULSES]; omega) rfl)) _ _
    (inBlock_of 17 (by simp only [F.TIM_TPO_STAT_STATE]; omega) rfl))) .same

theorem execTpoPulseEnd_moved (n : Fin 4) (tc : Tc) (s : State) : MovedBy 0x2000000000001 s (execTpoPulseEnd n tc s) :=
  .ite (.next (State.put_moved (.refl ..) _ _ (inBlock_of 17 (by simp only [F.TIM_TPO_STAT_STATE]; omega) rfl))) .same

theorem execTimIncWrite_moved (v : Word) (w : Writer) (tc : Tc) (s : State) : MovedBy 0x2000000080001 s (execTimIncWrite v w tc s) :=
  .opUnless (State.timInc_moved ..)

theorem execTimStep_moved (v : Word) (w : Writer) (tc : Tc) (s : State) : MovedBy 0x2000000080001 s (execTimStep v w tc s) :=
  .opUnless (State.timStep_moved ..)

theorem execTimSet_moved (w : Writer) (tc : Tc) (s : State) : MovedBy 0x2000000080001 s (execTimSet w tc s) :=
  .opUnless (State.timSet_moved ..)

theorem execTimConvert_moved (v : Word) (s : State) : MovedBy 0x2000000000001 s (execTimConvert v s) :=
  .op (State.timConvert_moved ..)

theorem execPtpSyncReceive_moved (m : PtpSync) (tc : Tc) (s : State) : MovedBy 0x2000000080001 s (execPtpSyncReceive m tc s) :=
  .ite (.op (State.servoSync_moved ..)) .same

theorem execSyncTimeout_moved (change : Bool) (tc : Tc) (s : State) : MovedBy 0x2000000080001 s (execSyncTimeout change tc s) :=
  .ite (.next (State.eventIf_moved (State.servoHold_moved ..).widen _ _ rfl rfl)) .same

theorem execHoldoverTimeout_moved (tc : Tc) (s : State) : MovedBy 0x2000000000001 s (execHoldoverTimeout tc s) :=
  .ite (.next (State.put_moved (.refl ..) _ _ rfl)) .same

/-! Commands of the port engine and of the sweep. -/

theorem execSnapshotPublication_moved (tc : Tc) (s : State) : MovedBy 0x17e20022b70f s (execSnapshotPublication tc s) := by
  unfold execSnapshotPublication
  split
  · exact .same
  · refine .ite (.next ?_) .same
    exact (((Moved.forUpTo (.refl ..) fun _ _ _ h => h.andThen (State.publishString_moved ..)).andThen (State.publishEst_moved ..)).andThen
      (State.switchSnapshot_moved ..)).andThen (State.dspPublished_moved ..)

theorem execSweepDeadline_moved (tc : Tc) (s : State) : MovedBy 0x300 s (execSweepDeadline tc s) := by
  unfold execSweepDeadline
  split
  · exact .same
  · exact .ite .same (.next (.forUpTo (State.withSwp_moved s _ fun h => by exact h.swp).widen
      fun _ _ _ h => (h.andThen (State.dropReads_moved ..)).andThen (State.noteMissed_moved ..)))

theorem execBalPause_moved (k : Fin 64) (tc : Tc) (s : State) : MovedBy 0x8000380 s (execBalPause k tc s) :=
  .ite (.next (.ite ((State.acted_moved ..).widen.andThen (State.balPause_moved ..)) (State.acted_moved ..).widen)) .same

theorem execApertureNotice_moved (k : Fin 64) (tc : Tc) (s : State) : MovedBy 0x2000000b81 s (execApertureNotice k tc s) := by
  unfold execApertureNotice
  split
  · exact .same
  · extract_lets lead t _ u
    have ht : Moved 0x2000000b81 s t := (State.noticed_moved ..).widen
    have hu : Moved 0x2000000b81 s u := ht.andThenUnless (State.withAfe_moved _ _ fun h => by exact h.afe)
    exact .ite (.next (.forUpTo (State.put_moved hu _ _ rfl) fun _ _ _ h => h.andThen (State.diagAtNotice_moved ..))) (.next hu)

theorem execApertureBroadcast_moved (tc : Tc) (s : State) : MovedBy 0x2008000383 s (execApertureBroadcast tc s) := by
  unfold execApertureBroadcast
  split
  · exact .same
  · refine .ite .same (.ite (.next (.forUpTo (State.put_moved (State.put_moved ?_ _ _ rfl) _ _ rfl)
      fun _ _ _ h => h.andThen (State.broadcastPort_moved ..))) (.op (State.withPhb_moved ..)))
    exact (State.withPhb_moved ..).widen.andThen (State.withAssemblingSwp_moved _ _ _ (fun _ => rfl) fun h => by exact h.swp)

theorem execPortEnable_moved (p : Fin 8) (s : State) : MovedBy 0x1000000101 s (execPortEnable p s) :=
  .op (State.enablePort_moved ..)

theorem execPortDisable_moved (p : Fin 8) (s : State) : MovedBy 0x3008200303 s (execPortDisable p s) :=
  .op (State.disablePort_moved ..)

theorem execReenum_moved (x : PortAt) (s : State) : MovedBy 0x3008200303 s (execReenum x s) :=
  .op (State.reenumPort_moved ..)

theorem execEnumerationEnd_moved (p : Fin 8) (s : State) : MovedBy 0x3008200303 s (execEnumerationEnd p s) := by
  unfold execEnumerationEnd
  refine .ite (.next ?_) .same
  have counted : Moved 0x3008200303 s ((s.putFlag (F.DLK_P_STAT_COUNT_ERR p) (s.fld (F.DLK_P_STAT_FOUND p) != s.monCount p)).event (Ev.DLK_P_ENUM_DONE p)) :=
    State.event_moved (State.putFlag_moved (.refl ..) _ _ (inBlock_of 4 (by simp only [F.DLK_P_STAT_COUNT_ERR]; omega) rfl)) _
      (inBlock_of 4 (by simp only [Ev.DLK_P_ENUM_DONE, F.DLK_P_EVT_ENUM_DONE]; omega) rfl)
      (inBlock_of 4 (by simp only [Ev.DLK_P_ENUM_DONE, F.DLK_P_EVT_CNT0_ENUM_DONE]; omega) rfl)
  exact ((State.put_moved (((counted.andThen (State.setPort_moved ..)).andThenIf (State.handSetup_moved ..)).andThen (State.enumResult_moved ..)) _ _
    (inBlock_of 4 (by simp only [F.DLK_P_REACH_MON]; omega) rfl)).andThen (State.showServe_moved ..)).andThen (State.recomputeLead_moved ..)

theorem execTransactionIssue_moved (p : Fin 8) (endB : Bool) (tc : Tc) (s : State) : MovedBy 0x3008200303 s (execTransactionIssue p endB tc s) := by
  unfold execTransactionIssue
  dsimp only
  split
  · exact .same
  · rename_i t _
    have dropped : Moved 0x3008200303 s (if t.waits then s.dropTxn p t.tag else s.setPort p ((s.port p).take t)) := .ite (State.dropTxn_moved ..).widen (State.setPort_moved ..).widen
    refine .ite (.next (dropped.andThen (State.deliver_moved ..))) (.ite .same ?_)
    split
    · exact .next ((State.bump_moved dropped _ (inBlock_of 4 (by simp only [F.DLK_P_CNT_FAIL_FAILED]; omega) rfl)).andThen (State.deliver_moved ..))
    · exact .next (.ite (State.sendAgain_moved ..).widen (State.issueNew_moved ..).widen)

theorem execResponseReceive_moved (p : Fin 8) (bytes : List Byte) (lineError : Bool) (roundTrip : Nat) (tc : Tc) (s : State) :
    MovedBy 0x3008200303 s (execResponseReceive p bytes lineError roundTrip tc s) := by
  unfold execResponseReceive
  refine .ite (.next (State.bump_moved (.refl ..) _ (inBlock_of 4 (by simp only [F.DLK_P_CNT_LINE_LINE]; omega) rfl)))
    (.ite (.next (State.bump_moved (.refl ..) _ (inBlock_of 4 (by simp only [F.DLK_P_CNT_LINE_CRC]; omega) rfl))) (.ite .same ?_))
  have late : Moved 0x3008200303 s (s.bump (F.DLK_P_CNT_FAIL_LATE p)) :=
    State.bump_moved (.refl ..) _ (inBlock_of 4 (by simp only [F.DLK_P_CNT_FAIL_LATE]; omega) rfl)
  dsimp only
  split
  · exact .next late
  · exact .ite (.next late) (.next ((State.setPort_moved ..).widen.andThen (State.endTxn_moved ..)))

theorem execNoTarget_moved (p : Fin 8) (tag : Fin 16) (s : State) : MovedBy 0x3008200303 s (execNoTarget p tag s) := by
  unfold execNoTarget
  split
  · exact .same
  · exact .op (State.endTxn_moved ..)

theorem execTransactionTimeout_moved (p : Fin 8) (tag : Fin 16) (tc : Tc) (s : State) : MovedBy 0x3008200303 s (execTransactionTimeout p tag tc s) := by
  unfold execTransactionTimeout
  split
  · exact .same
  · refine .ite .same (.ite (.next (.andThen (.andThen ?retried (State.setPort_moved ..)) (State.toLocate_moved ..))) (.next ?retried))
    exact ((State.bump_moved (.refl ..) _ (inBlock_of 4 (by simp only [F.DLK_P_CNT_TXN_TIMEOUT]; omega) rfl)).andThen (State.setPort_moved ..)).andThen
      (State.retry_moved ..)

theorem execLossOfSignal_moved (x : PortAt) (_endB : Bool) (s : State) : MovedBy 0x1008000101 s (execLossOfSignal x _endB s) :=
  .ite (.op (State.toLocate_moved ..)) .same

theorem execValidSignalHeld_moved (x : PortAt) (s : State) : MovedBy 0x3008200303 s (execValidSignalHeld x s) :=
  .ite (.op (State.enumerate_moved ..)) .same

theorem execNoSignalTimeout_moved (p : Fin 8) (s : State) : MovedBy 0x3008200303 s (execNoSignalTimeout p s) :=
  .ite (.op (State.ringLost_moved ..)) .same

theorem execPollDecision_moved (p : Fin 8) (fromA fromB : PollBack) (tc : Tc) (s : State) :
    MovedBy 0x3008200303 s (execPollDecision p fromA fromB tc s) := by
  unfold execPollDecision
  have idle := (State.setPort_moved s p { s.port p with pollA := none, pollB := none }).widen (m := 0x3008200303)
  exact .ite .same (.ite (.next (.ite (idle.andThen (State.enumPollBack_moved ..)) idle))
    (.ite (.next ((idle.andThen (State.combinePolls_moved ..)).andThen (State.pollRow_moved ..))) (.next idle)))

theorem execPeriodicPoll_moved (x : PortAt) (s : State) : MovedBy 0x8000100 s (execPeriodicPoll x s) :=
  .op (State.periodicPoll_moved ..)

theorem execDRemeasure_moved (p : Fin 8) (m : Fin 32) (endB : Bool) (_tc : Tc) (s : State) : MovedBy 0x100 s (execDRemeasure p m endB _tc s) :=
  .ite (.op (State.setPort_moved ..)) .same

/-! Commands of the analog front end and of estimation. -/

theorem execAdcTrigger_moved (k : Fin 64) (tc : Tc) (s : State) : MovedBy 0x4000000000881 s (execAdcTrigger k tc s) :=
  .next (.ite ((State.acted_moved ..).widen.andThen (State.triggerGroup_moved ..)) (.refl ..))

theorem execMainsSlot_moved (s : State) : MovedBy 0x4000000000801 s (execMainsSlot s) :=
  .next (.ite ((State.withAfe_moved s _ fun h => by exact h.afe).widen.andThen (State.startConversion_moved ..)) (.refl ..))

theorem execAfeHousekeeping_moved (s : State) : MovedBy 0x4000000000801 s (execAfeHousekeeping s) :=
  .next (.ite ((State.withAfe_moved s _ fun h => by exact h.afe).widen.andThen (State.startConversion_moved ..)) (.refl ..))

theorem execAfeSwTrig_moved (v : Word) (s : State) : MovedBy 0x4000000000801 s (execAfeSwTrig v s) :=
  .op (State.afeSwTrig_moved ..)

theorem execConversionBDone_moved (c : AfeResult) (s : State) : MovedBy 0x4000000000801 s (execConversionBDone c s) := by
  unfold execConversionBDone
  split
  · exact .same
  · refine .ite (.next (((State.withAfe_moved s _ fun h => by exact h.afe).widen.andThen (State.withAfe_moved _ _ fun h => by exact h.afe)).andThen
      (State.startConversion_moved ..))) (.next (.andThen (.andThenUnless ?taken (State.withAfe_moved _ _ fun h => by exact h.afe)) (State.startConversion_moved ..)))
    have free := (State.withAfe_moved s { s.afe with conv := none } fun h => h.afe).widen (m := 0x4000000000801)
    split
    · exact free.andThen (State.mainsSample_moved ..)
    · exact free.andThen (State.seqSample_moved ..)
    · exact free.andThen (State.seqSample_moved ..)
    · exact free

theorem execCurrentRoundHold_moved (codes : List (BitVec 16)) (tc : Tc) (s : State) : MovedBy 0x4000000000a81 s (execCurrentRoundHold codes tc s) := by
  unfold execCurrentRoundHold
  refine .ite .same (.ite (.next (.ite (.forUpTo ?begun fun _ _ _ h => h.andThen (State.burstSample_moved ..)) ?begun))
    (.next (.andThen ?begun (State.withAfe_moved _ _ fun h => by simpa [Afe.Sized] using h.afe))))
  refine .ite (.andThen (State.put_moved (.andThen (State.acted_moved ..).widen (State.withAfe_moved _ _ fun h => by exact h.afe)) _ _ rfl)
    (State.withSwp_moved _ _ fun h => by exact h.swp)) (.refl ..)

theorem execRoundConversionDone_moved (tc : Tc) (s : State) : MovedBy 0x4000000000903 s (execRoundConversionDone tc s) := by
  unfold execRoundConversionDone
  split
  · exact .same
  · exact .next (.forUpTo (State.withAfe_moved s _ fun h => by exact h.afe).widen fun _ _ _ h => h.andThen (State.roundSample_moved ..))

theorem execBurstReadComplete_moved (p : Fin 8) (s : State) : MovedBy 0x2000000501 s (execBurstReadComplete p s) :=
  .next (.ite (State.handOver_moved ..).widen (.refl ..))

theorem execBurstReadTimeout_moved (x : PortAt) (s : State) : MovedBy 0x2000000501 s (execBurstReadTimeout x s) :=
  .next (.ite ((State.event_moved (.refl ..) _ rfl rfl).andThen (State.handOver_moved ..)) (.refl ..))

theorem execCellPass_moved (g : Fin 4096) (tc : Tc) (s : State) : MovedBy 0x4010200413 s (execCellPass g tc s) := by
  unfold execCellPass
  split
  · exact .same
  · exact .opIf (State.onePass_moved ..)

theorem execBurstEvaluation_moved (p : Fin 8) (s : State) : MovedBy 0x4010000411 s (execBurstEvaluation p s) := by
  unfold execBurstEvaluation
  split
  · exact .same
  · exact .next (.ite ((State.withEst_moved ..).widen.andThen (State.evalBurst_moved ..)) (State.withEst_moved ..).widen)

theorem execCellRestore_moved (g : Fin 4096) (s : State) : MovedBy 0x410 s (execCellRestore g s) :=
  .opIf (State.restoreCell_moved ..)

theorem execRelearnCell_moved (g : Fin 4096) (s : State) : MovedBy 0x10 s (execRelearnCell g s) :=
  .op (State.relearnScope_moved ..)

theorem execRelearnMonitor_moved (g : Fin 4096) (s : State) : MovedBy 0x10 s (execRelearnMonitor g s) :=
  .op (State.relearnScope_moved ..)

theorem execRelearnString_moved (g : Fin 4096) (s : State) : MovedBy 0x10 s (execRelearnString g s) :=
  .op (State.relearnScope_moved ..)

theorem execWbWrite_moved (tc : Tc) (s : State) : MovedBy 0x4000000401 s (execWbWrite tc s) :=
  .opUnless (State.triggerWb_moved ..)

theorem execWriteBackTimer_moved (tc : Tc) (s : State) : MovedBy 0x4000000401 s (execWriteBackTimer tc s) :=
  .opIf (State.triggerWb_moved ..)

theorem execWriteBackComplete_moved (good : Bool) (tc : Tc) (s : State) : MovedBy 0x4000000401 s (execWriteBackComplete good tc s) := by
  unfold execWriteBackComplete
  split
  · exact .same
  · have finished := fun w => (State.finishWb_moved s w good).widen (m := 0x4000000401)
    extract_lets t
    split
    · exact .next (finished _)
    · exact .next (((finished _).andThen (State.withEst_moved ..)).andThen (State.triggerWb_moved ..))

/-! Commands of the protection island. -/

theorem execScOcCrossing_moved (n : Fin 8) (path : DirectPath) (x : SensedAt) (s : State) : MovedBy 0x138000223001 s (execScOcCrossing n path x s) :=
  .op (State.directTrip_moved ..)

theorem execDirectLatchClear_moved (n : Fin 8) (path : DirectPath) (tc : Tc) (s : State) :
    MovedBy 0x138000223001 s (execDirectLatchClear n path tc s) := by
  unfold execDirectLatchClear
  cases path with
  | sc => exact .next (.ite ((State.setIsl_moved ..).widen.andThen (State.twill_moved ..)) (.refl ..))
  | oc => exact .next (.ite ((State.setIsl_moved ..).widen.andThen (State.twill_moved ..)) (.refl ..))

theorem execFilteredPathExpiry_moved (n : Fin 8) (path : FilteredPath) (x : SensedAt) (s : State) :
    MovedBy 0x138000223001 s (execFilteredPathExpiry n path x s) :=
  .opIf (State.setFiltered_moved ..)

theorem execFilteredPathInactive_moved (n : Fin 8) (path : FilteredPath) (tc : Tc) (s : State) :
    MovedBy 0x138000223001 s (execFilteredPathInactive n path tc s) :=
  .next ((State.restartCount_moved ..).widen.andThen (State.setFiltered_moved ..))

theorem execIslandFault_moved (x : SkewAt) (s : State) : MovedBy 0x138000223001 s (execIslandFault x s) := by
  have seen := (State.withPrt_moved s { s.prt with skew := x.skew } fun h => h.prt).widen (m := 0x138000223001)
  exact .next (.ite (seen.andThen (State.twill_moved ..)) (seen.andThen (State.compareChannels_moved ..)))

theorem execIslandFaultCoilTimeout_moved (tc : Tc) (s : State) : MovedBy 0x110000221001 s (execIslandFaultCoilTimeout tc s) :=
  .opIf (State.dropAll_moved ..)

theorem execBreakerStatusChange_moved (n : Fin 8) (closed : Bool) (tc : Tc) (s : State) :
    MovedBy 0x138000223001 s (execBreakerStatusChange n closed tc s) := by
  unfold execBreakerStatusChange
  refine .ite .same (.next (.ite (.andThen ?changed (State.twill_moved ..)) (.andThen ?changed (State.brkFault_moved ..))))
  have noted : Moved 0x138000223001 s ((s.putFlag (F.BRK_S_STAT_BST n) closed).noteBits n tc) :=
    (State.putFlag_moved (.refl ..) _ _ (inBlock_of 8 (by simp only [F.BRK_S_STAT_BST]; omega) rfl)).andThen (State.noteBits_moved ..)
  exact .ite (noted.andThenIf (State.setIsl_moved ..)) (noted.andThen (State.brkOpened_moved ..))

theorem execBfltChange_moved (n : Fin 8) (active : Bool) (tc : Tc) (s : State) : MovedBy 0x138000223001 s (execBfltChange n active tc s) := by
  have noted : Moved 0x138000223001 s ((s.putFlag (F.BRK_S_STAT_BFLT n) active).noteBits n tc) :=
    (State.putFlag_moved (.refl ..) _ _ (inBlock_of 8 (by simp only [F.BRK_S_STAT_BFLT]; omega) rfl)).andThen (State.noteBits_moved ..)
  exact .ite .same (.next (.ite (noted.andThen (State.brkFault_moved ..)) (noted.andThen (State.twill_moved ..))))

theorem execBrkOpenTimer_moved (n : Fin 8) (tc : Tc) (s : State) : MovedBy 0x138000223001 s (execBrkOpenTimer n tc s) := by
  have timed := (State.dropAfter_moved s n tc).widen (m := 0x138000223001)
  refine .ite (.next (.ite (.andThen ?dropped (State.brkFault_moved ..)) ?dropped)) (.next timed)
  exact .ite ((timed.andThen (State.setIsl_moved ..)).andThen (State.dropContactors_moved ..)) timed

theorem execBrkCloseTimer_moved (n : Fin 8) (tc : Tc) (s : State) : MovedBy 0x138000223001 s (execBrkCloseTimer n tc s) :=
  .opIf (State.brkFault_moved ..)

theorem execCaptureFreeze_moved (n : Fin 8) (samples : List Byte) (s : State) : MovedBy 0x8000001001 s (execCaptureFreeze n samples s) :=
  .ite (.next (State.event_moved (.forUpTo (State.setIsl_moved ..).widen fun _ _ _ h =>
      State.put_moved h _ _ (inBlock_of 7 (by simp only [F.PRT_CAP_SAMPLES]; omega) rfl)) _
    (inBlock_of 7 (by simp only [Ev.PRT_HELD, F.PRT_S_CAP_STAT_HELD]; omega) rfl)
    (inBlock_of 7 (by simp only [Ev.PRT_HELD, F.PRT_S_CAP_STAT_HELD_CNT]; omega) rfl))) .same

theorem execCaptureRearm_moved (n : Fin 8) (s : State) : MovedBy 0x8000000001 s (execCaptureRearm n s) :=
  .op (State.rearmCapture_moved ..)

theorem execRemovalLoopOpen_moved (tc : Tc) (s : State) : MovedBy 0x38000003001 s (execRemovalLoopOpen tc s) :=
  .next ((State.put_moved (.forUpTo (.refl ..) fun _ _ _ h => h.andThen (State.openPair_moved ..)) _ _ rfl).andThen (State.trimTrips_moved ..))

theorem execSequencerTick_moved (bus : Option Rails) (tc : Tc) (s : State) : MovedBy 0x338000223001 s (execSequencerTick bus tc s) := by
  refine .next (.andThen (.forUpTo ?rails fun _ _ _ h => h.andThenIf (State.tickString_moved ..)) (State.twill_moved ..))
  cases bus with
  | some r => exact (State.takeRails_moved ..).widen
  | none => exact .refl ..

theorem execClose_moved (n : Fin 8) (o : Origin) (s : State) : MovedBy 0x210000001001 s (execClose n o s) :=
  .op (State.brkCommand_moved ..)

theorem execMatch_moved (n : Fin 8) (o : Origin) (s : State) : MovedBy 0x210000001001 s (execMatch n o s) :=
  .op (State.brkCommand_moved ..)

theorem execOpen_moved (n : Fin 8) (o : Origin) (s : State) : MovedBy 0x210000001001 s (execOpen n o s) :=
  .op (State.brkCommand_moved ..)

theorem execReset_moved (n : Fin 8) (o : Origin) (s : State) : MovedBy 0x210000001001 s (execReset n o s) :=
  .op (State.brkCommand_moved ..)

theorem execPrechargeTimeout_moved (n : Fin 8) (tc : Tc) (s : State) : MovedBy 0x138000223001 s (execPrechargeTimeout n tc s) :=
  .op (State.timerString_moved ..)

theorem execPrechargeMinReached_moved (n : Fin 8) (tc : Tc) (s : State) : MovedBy 0x10000000001 s (execPrechargeMinReached n tc s) :=
  .next (.ite (State.put_moved (.refl ..) _ _ (inBlock_of 8 (by simp only [F.BRK_S_STAT_PC_MIN]; omega) rfl)) (.refl ..))

theorem execDropTimer_moved (n : Fin 8) (tc : Tc) (s : State) : MovedBy 0x138000223001 s (execDropTimer n tc s) :=
  .op (State.timerString_moved ..)

theorem execContactorCloseTimer_moved (k : Fin 28) (tc : Tc) (s : State) : MovedBy 0x138000223001 s (execContactorCloseTimer k tc s) := by
  refine .ite (.next (.ite (.andThen ?judged (State.timerString_moved ..)) ?judged)) .same
  exact .ite (.refl ..) (State.conFault_moved ..).widen

theorem execContactorOpenTimer_moved (k : Fin 28) (tc : Tc) (s : State) : MovedBy 0x138000223001 s (execContactorOpenTimer k tc s) := by
  refine .ite (.next (.ite (.andThen ?judged (State.timerString_moved ..)) ?judged)) .same
  exact .ite (.refl ..) (State.conFault_moved ..).widen

theorem execCoilCheckTimer_moved (k : Fin 28) (tc : Tc) (s : State) : MovedBy 0x138000223001 s (execCoilCheckTimer k tc s) :=
  .opIf (State.conFault_moved ..)

theorem execCoilFault_moved (k : Fin 28) (ma : BitVec 16) (limit : Bool) (tc : Tc) (s : State) :
    MovedBy 0x138000223001 s (execCoilFault k ma limit tc s) :=
  .ite (.next (.andThenIf ((State.put_moved (.refl ..) _ _ (inBlock_of 8 (by simp only [F.BRK_CON_IMA]; omega) rfl)).andThen (State.updateVerified_moved ..))
    (State.conFault_moved ..))) .same

theorem execPullInTimer_moved (k : Fin 28) (tc : Tc) (s : State) : MovedBy 0x10000000001 s (execPullInTimer k tc s) :=
  .next (.ite (State.put_moved (.refl ..) _ _ (inBlock_of 8 (by simp only [F.BRK_CON_ECONOMY]; omega) rfl)) (.refl ..))

theorem execDriverVerifyChange_moved (k : Fin 28) (ma : BitVec 16) (high : Bool) (tc : Tc) (s : State) :
    MovedBy 0x138000223001 s (execDriverVerifyChange k ma high tc s) := by
  have read : Moved 0x138000223001 s ((s.put (F.BRK_CON_IMA k) ma.toNat).putFlag (F.BRK_CON_MIRROR k) (high == (s.prtDrv k 0 1).testBit 2)) :=
    State.putFlag_moved (State.put_moved (.refl ..) _ _ (inBlock_of 8 (by simp only [F.BRK_CON_IMA]; omega) rfl)) _ _
      (inBlock_of 8 (by simp only [F.BRK_CON_MIRROR]; omega) rfl)
  exact .ite (.next (((read.andThen (State.updateVerified_moved ..)).andThen (State.endFault_moved ..)).andThen (State.twill_moved ..))) .same

theorem execCoilSupplyMeasure_moved (v : BitVec 16) (s : State) : MovedBy 0x10000000001 s (execCoilSupplyMeasure v s) :=
  .next (State.putFlag_moved (State.put_moved (.refl ..) _ _ rfl) _ _ rfl)

theorem execAuxTrip_moved (o : Origin) (tc : Tc) (s : State) : MovedBy 0x338000223001 s (execAuxTrip o tc s) :=
  .next (State.auxCommand_moved (.refl ..) _ rfl fun _ h => h.andThen (State.auxTrip_moved ..))

theorem execAuxReset_moved (a : Fin 4) (o : Origin) (tc : Tc) (s : State) : MovedBy 0x338000223001 s (execAuxReset a o tc s) :=
  .next (State.auxCommand_moved (.refl ..) _ rfl fun _ h => h.andThen (State.auxReset_moved ..))

theorem execAuxOn_moved (a : Fin 4) (o : Origin) (tc : Tc) (s : State) : MovedBy 0x310000221001 s (execAuxOn a o tc s) :=
  .next (State.auxCommand_moved (.refl ..) _ rfl fun _ h => h.andThen (State.auxOn_moved ..))

theorem execAuxOff_moved (a : Fin 4) (o : Origin) (tc : Tc) (s : State) : MovedBy 0x310000221001 s (execAuxOff a o tc s) :=
  .next (State.auxCommand_moved (.refl ..) _ rfl fun _ h => h.andThen (State.auxOff_moved ..))

theorem execLockoutRelease_moved (strs : BitVec 8) (o : Origin) (s : State) : MovedBy 0x208000001001 s (execLockoutRelease strs o s) :=
  .op (State.lockRelease_moved ..)

theorem execImdPhaseEnd_moved (x : ImdMeasure) (tc : Tc) (s : State) : MovedBy 0x138010223001 s (execImdPhaseEnd x tc s) :=
  .ite (.next (((State.imdPhase_moved ..).widen.andThen (State.withPrt_moved _ _ fun h => by exact h.prt)).andThen (State.twill_moved ..))) .same

theorem execCollapseDetect_moved (tc : Tc) (s : State) : MovedBy 0x138000223001 s (execCollapseDetect tc s) :=
  .next (.ite ((State.putFlag_moved (.refl ..) _ _ rfl).andThen (State.twill_moved ..)) (.refl ..))

theorem execCollapseClear_moved (tc : Tc) (s : State) : MovedBy 0x138000223001 s (execCollapseClear tc s) :=
  .next (.ite ((State.putFlag_moved (.refl ..) _ _ rfl).andThen (State.twill_moved ..)) (.refl ..))

/-! Commands of the safety functions and of the CAN channels. -/

theorem execTestWindow_moved (k : Fin 64) (tc : Tc) (s : State) : MovedBy 0x20080 s (execTestWindow k tc s) :=
  .ite (.next (.ite ((State.acted_moved ..).widen.andThen (State.withSaf_moved _ _ fun h => by exact h.saf)) (State.acted_moved ..).widen)) .same

theorem execSiFilterChange_moved (i : Fin 6) (chB demand : Bool) (tc : Tc) (s : State) :
    MovedBy 0x138000223001 s (execSiFilterChange i chB demand tc s) := by
  refine .ite .same (.next (.andThen (.ite (State.putFlag_moved (State.putFlag_moved ?timed _ _ ?_) _ _ ?_) (State.putFlag_moved (State.putFlag_moved ?timed _ _ ?_) _ _ ?_))
    (State.safEval_moved ..)))
  case timed =>
    refine (State.withSaf_moved s _ fun h => ?_).widen
    obtain ⟨conns, renewed, passTc, siTc, offEnds⟩ := h.saf
    exact ⟨conns, renewed, passTc, (length_setAt ..).trans siTc, offEnds⟩
  all_goals exact inBlock_of 12 (by simp only [F.SAF_SI_STAT_FB, F.SAF_SI_STAT_RAW_B, F.SAF_SI_STAT_FA, F.SAF_SI_STAT_RAW_A]; omega) rfl

theorem execDarkPulse_moved (sp2 : Bool) (high : BitVec 6) (tc : Tc) (s : State) : MovedBy 0x138000223001 s (execDarkPulse sp2 high tc s) := by
  refine .ite .same (.next (.andThen (.forUpTo ?seen fun _ _ _ h => h.andThenIf (State.crossFault_moved ..)) (State.safEval_moved ..)))
  exact .ite (State.withSaf_moved s _ fun h => by exact h.saf).widen (State.withSaf_moved s _ fun h => by exact h.saf).widen

theorem execDiscrepancyTick_moved (tc : Tc) (s : State) : MovedBy 0x138000223001 s (execDiscrepancyTick tc s) :=
  .next (.andThen (.forUpTo (.refl ..) fun _ _ _ h => .ite ((h.andThen (State.discRelease_moved ..)).andThen (State.discCount_moved ..)) h) (State.safEval_moved ..))

theorem execDiscFault_moved (i : Fin 6) (tc : Tc) (s : State) : MovedBy 0x138000223001 s (execDiscFault i tc s) :=
  .next ((State.discFault_moved ..).widen.andThen (State.safEval_moved ..))

theorem execSafReset_moved (fns : BitVec 16) (o : Origin) (tc : Tc) (s : State) : MovedBy 0x338000223001 s (execSafReset fns o tc s) :=
  .op (State.safReset_moved ..)

theorem execTestPulseStart_moved (tc : Tc) (s : State) : MovedBy 0x100000020001 s (execTestPulseStart tc s) := by
  unfold execTestPulseStart
  split
  · exact .same
  · refine .ite .same ?_
    split
    · exact .same
    · exact .next (State.put_moved ((State.withSaf_moved s _ fun h => by exact h.saf).widen.andThen (State.putRotation_moved ..)) _ _ rfl)

theorem execTestPulseEnd_moved (readback : Bool) (ma : BitVec 16) (tc : Tc) (s : State) :
    MovedBy 0x110000221001 s (execTestPulseEnd readback ma tc s) := by
  unfold execTestPulseEnd
  split
  · exact .same
  · rename_i p _
    refine .ite .same (.next (.andThen (.ite (State.put_moved (.andThen ?ended (State.withSaf_moved _ _ fun h => ?_)) _ _ ?_)
      (State.event_moved (.andThen ?ended (State.testFault_moved ..)) _ rfl rfl)) (State.energiseWaiting_moved ..)))
    case ended => exact (State.put_moved (State.pulseOver_moved ..).widen _ _ rfl).andThen (State.putRotation_moved ..)
    · obtain ⟨conns, renewed, passTc, siTc, offEnds⟩ := h.saf
      exact ⟨conns, renewed, (length_setAt ..).trans passTc, siTc, offEnds⟩
    · split
      · exact inBlock_of 12 (by simp only [F.SAF_TP_AGE_LS]; omega) rfl
      · exact inBlock_of 12 (by simp only [F.SAF_TP_AGE_HS]; omega) rfl

theorem execTestOverdue_moved (k : Fin 28) (low : Bool) (tc : Tc) (s : State) : MovedBy 0x110000221001 s (execTestOverdue k low tc s) :=
  .opIf (State.testFault_moved ..)

theorem execSafeDataCopy_moved (c : Fin 4) (eth : Bool) (bytes : List Byte) (tc : Tc) (s : State) :
    MovedBy 0x900000020001 s (execSafeDataCopy c eth bytes tc s) :=
  .ite (.next ((Moved.ite (.refl ..) (State.canTake_moved ..).widen).andThen (State.sdReceive_moved ..)))
    (.ite (.op (State.withSaf_moved s _ fun h => by exact h.saf)) .same)

theorem execSdWindowClose_moved (c : Fin 4) (tc : Tc) (s : State) : MovedBy 0x100000020001 s (execSdWindowClose c tc s) := by
  unfold execSdWindowClose
  split
  · exact .opIf (State.sdSingle_moved ..)
  · exact .same

theorem execSdTimeout_moved (c : Fin 4) (tc : Tc) (s : State) : MovedBy 0x100000020001 s (execSdTimeout c tc s) :=
  .opIf (State.sdTimeout_moved ..)

theorem execSdReset_moved (conns : BitVec 4) (s : State) : MovedBy 0x100000020001 s (execSdReset conns s) :=
  .opIf (State.sdReset_moved ..)

theorem execSdWordWrite_moved (c : Fin 4) (v : Word) (o : Origin) (tc : Tc) (s : State) : MovedBy 0x338000223001 s (execSdWordWrite c v o tc s) :=
  .op (State.sdWordWrite_moved ..)

theorem execSdRenewalTimeout_moved (c : Fin 4) (tc : Tc) (s : State) : MovedBy 0x138000223001 s (execSdRenewalTimeout c tc s) :=
  .ite (.next ((State.put_moved (State.put_moved (State.withSaf_moved s _ fun h => by exact h.saf).widen _ _
    (inBlock_of 12 (by simp only [F.SAF_SD_RX_DATA]; omega) rfl)) _ _ rfl).andThen (State.safEval_moved ..))) .same

theorem execSdRewriteTimer_moved (tc : Tc) (s : State) : MovedBy 0x338000223001 s (execSdRewriteTimer tc s) :=
  .opIf (State.sdRewrite_moved ..)

theorem execSdTxSend_moved (s : State) : MovedBy 0x900008040001 s (execSdTxSend s) :=
  .ite (.next (((State.bump_moved (State.put_moved (.refl ..) _ _ rfl) _ rfl).andThen (State.canSend_moved ..)).andThen (State.emit_moved ..))) .same

theorem execCanFrameReceive_moved (c : Fin 2) (f : CanRx) (delay : Option (BitVec 7)) (tc : Tc) (s : State) :
    MovedBy 0x800010040001 s (execCanFrameReceive c f delay tc s) := by
  refine .ite (.next (.andThen (.ite (State.bump_moved ?good _ (inBlock_of 15 (by simp only [F.CAN_RX_MISS_RTR]; omega) rfl)) ?kept) (State.canIdle_moved ..))) .same
  case good => exact (State.canDelay_moved ..).widen.andThen (State.canGood_moved ..)
  have good := ((State.canDelay_moved s c delay).widen (m := 0x800010040001)).andThen (State.canGood_moved _ c)
  split
  · exact good.andThen (State.canStore_moved ..)
  · exact State.bump_moved good _ (inBlock_of 15 (by simp only [F.CAN_RX_MISS_NO_MATCH]; omega) rfl)

theorem execRxHdrRead_moved (c : Fin 2) (k : Fin 64) (s : State) : MovedBy 0x8040000 s (execRxHdrRead c k s) :=
  .next ((State.rxHold_moved ..).widen.andThen (State.emit_moved ..))

theorem execCanTxDone_moved (c : Fin 2) (delay : Option (BitVec 7)) (tc : Tc) (s : State) : MovedBy 0x800008040001 s (execCanTxDone c delay tc s) := by
  unfold execCanTxDone
  dsimp only
  split
  · split
    · exact .next ((State.canReady_moved ..).widen.andThen (State.canDone_moved ..))
    · exact .same
  · exact .same

theorem execCanArbitrationLost_moved (c : Fin 2) (s : State) : MovedBy 0x800000040001 s (execCanArbitrationLost c s) := by
  unfold execCanArbitrationLost
  dsimp only
  split
  · have counted := State.bump_moved ((State.canReady_moved s c).widen (m := 0x800000040001)) (F.CAN_TX_CNT1_ARB_LOST c)
      (inBlock_of 15 (by simp only [F.CAN_TX_CNT1_ARB_LOST]; omega) rfl)
    exact .next (((counted.andThen (State.canAgain_moved ..)).andThen (State.setCanCh_moved ..)).andThen (State.canNext_moved ..))
  · exact .same

theorem execCanTxError_moved (c : Fin 2) (e : CanError) (excepted : Bool) (more : Nat) (s : State) :
    MovedBy 0x800000040001 s (execCanTxError c e excepted more s) := by
  unfold execCanTxError
  dsimp only
  split
  · exact .next ((State.canReady_moved ..).widen.andThen (State.canFail_moved ..))
  · exact .same

theorem execCanRxError_moved (c : Fin 2) (e : CanError) (more : Nat) (s : State) : MovedBy 0x800000040001 s (execCanRxError c e more s) :=
  .ite (.next (((State.put_moved (.refl ..) _ _ (inBlock_of 15 (by simp only [F.CAN_STAT_LEC]; omega) rfl)).andThen (State.canErrors_moved ..)).andThen
    (State.canIdle_moved ..))) .same

theorem execTxCancel_moved (c : Fin 2) (bufs : BitVec 3) (won : Bool) (s : State) : MovedBy 0x800000040001 s (execTxCancel c bufs won s) :=
  .op (State.txCancel_moved ..)

theorem execCanRecover_moved (c : Fin 2) (s : State) : MovedBy 0x40000 s (execCanRecover c s) :=
  .op (State.canRecover_moved ..)

theorem execBusOffRecoveryDone_moved (c : Fin 2) (s : State) : MovedBy 0x800000040001 s (execBusOffRecoveryDone c s) :=
  .ite (.next (((State.put_moved (State.setCanCh_moved ..).widen _ _ (inBlock_of 15 (by simp only [F.CAN_STAT_STATE]; omega) rfl)).andThen
    (State.canErrors_moved ..)).andThen (State.canNext_moved ..))) .same

theorem execCanReferenceDue_moved (c : Fin 2) (s : State) : MovedBy 0x800000040001 s (execCanReferenceDue c s) := by
  have block {a : Nat} (h : a / 0x10000 = 15) : inBlock 0x800000040001 a = true := inBlock_of 15 h rfl
  have missed := State.eventIf_moved (.refl 0x800000040001 s) (s.bufHeld c 0) (Ev.CAN_REF_MISS c)
    (block (by simp only [Ev.CAN_REF_MISS, F.CAN_EVT_REF_MISS]; omega)) (block (by simp only [Ev.CAN_REF_MISS, F.CAN_EVT_CNT3_REF_MISS]; omega))
  exact .ite (.next (((State.put_moved (missed.andThen (State.setCanCh_moved ..)) _ _ (block (by simp only [F.CAN_TM_STAT_CYC]; omega))).andThen
    (State.canFill_moved ..)).andThen (State.canGo_moved ..))) .same

/-! Commands of the control engine, dispatch, the thermal strategy and the recorder. -/

theorem execDispatchComplete_moved (tc : Tc) (s : State) : MovedBy 0x40010008001 s (execDispatchComplete tc s) := by
  unfold execDispatchComplete
  split
  · exact .same
  · refine .next (.andThenIf (.andThen (.ite (State.put_moved ?shown _ _ rfl) ?shown) (State.withDspFreeCount_moved ..)) (State.dspStart_moved ..))
    exact State.putFlag_moved (.refl ..) _ _ rfl

theorem execCtlSample_moved (k : Fin 64) (tc : Tc) (s : State) : MovedBy 0x20000006081 s (execCtlSample k tc s) :=
  .ite (.next (.ite ((State.acted_moved ..).widen.andThen (State.sampleGroup_moved ..)) ((State.acted_moved ..).widen.andThenIf (State.missGroup_moved ..)))) .same

theorem execClassSEvaluation_moved (tc : Tc) (s : State) : MovedBy 0x20000006001 s (execClassSEvaluation tc s) := by
  unfold execClassSEvaluation
  split
  · exact .same
  · rename_i w _
    have taken := (State.withCte_moved s { s.cte with waiting := s.cte.waiting.filter fun v => v.slot != w.slot } fun h => h.cte).widen (m := 0x20000006001)
    exact .ite .same (.next (.andThen (.ite (taken.andThen (State.missSlot_moved ..)) (taken.andThen (State.evalSlot_moved ..))) (State.showCte_moved ..)))

theorem execSenseFrame_moved (n : Fin 8) (sync : BitVec 16) (bytes : List Byte) (tc : Tc) (s : State) :
    MovedBy 0x20000002001 s (execSenseFrame n sync bytes tc s) := by
  have block {a : Nat} (h : a / 0x10000 = 9) : inBlock 0x20000002001 a = true := inBlock_of 9 h rfl
  refine .ite .same (.ite (.next (State.bump_moved (.refl ..) _ (block (by simp only [F.CTE_TRIM_ERR_CRC]; omega)))) (.next (.andThenIf ?taken (State.streamBypass_moved ..))))
  have measured := State.put_moved (State.put_moved (.refl 0x20000002001 s) (F.CTE_TRIM_MEAS_I n) (leAt bytes 0 2) (block (by simp only [F.CTE_TRIM_MEAS_I]; omega)))
    (F.CTE_TRIM_MEAS_V_TRIM n) (leAt bytes 2 2) (block (by simp only [F.CTE_TRIM_MEAS_V_TRIM]; omega))
  have bus := State.put_moved (State.put_moved (State.put_moved measured
    (F.CTE_TRIM_BUS_V_BUS n) (leAt bytes 4 2) (block (by simp only [F.CTE_TRIM_BUS_V_BUS]; omega)))
    (F.CTE_TRIM_BUS_STATUS n) (bytes.getD 6 0).toNat (block (by simp only [F.CTE_TRIM_BUS_STATUS]; omega)))
    (F.CTE_TRIM_BUS_SEQ n) ((bytes.getD 6 0).toNat / 16) (block (by simp only [F.CTE_TRIM_BUS_SEQ]; omega))
  exact (State.put_moved (State.put_moved bus (F.CTE_TRIM_STAT_STATUS n) _ (block (by simp only [F.CTE_TRIM_STAT_STATUS]; omega)))
    (F.CTE_TRIM_STAT_STREAM_OK n) 1 (block (by simp only [F.CTE_TRIM_STAT_STREAM_OK]; omega))).andThen (State.setTrim_moved ..)

theorem execStreamLost_moved (n : Fin 8) (tc : Tc) (s : State) : MovedBy 0x20000002001 s (execStreamLost n tc s) := by
  have block {a : Nat} (h : a / 0x10000 = 9) : inBlock 0x20000002001 a = true := inBlock_of 9 h rfl
  refine .ite .same (.next (.andThen (State.event_moved (State.bump_moved ?lost _ (block (by simp only [F.CTE_TRIM_ERR_LOST]; omega))) _ rfl rfl)
    (State.streamBypass_moved ..)))
  exact State.put_moved (State.setTrim_moved ..).widen _ _ (block (by simp only [F.CTE_TRIM_STAT_STREAM_OK]; omega))

theorem execTrimUpdate_moved (k : Fin 64) (tc : Tc) (s : State) : MovedBy 0x20000002081 s (execTrimUpdate k tc s) := by
  have acted := (State.acted_moved s (firingKey k 7) tc).widen (m := 0x20000002081)
  refine .ite (.ite (.next (.forUpTo ?_ fun _ _ _ h => h.andThenIf (State.updateTrim_moved ..))) (.next acted)) .same
  exact (acted.andThen (State.writeDue_moved ..)).andThen (State.startCarriers_moved ..)

theorem execCarrierPeriodStart_moved (n : Fin 8) (s : State) : MovedBy 0x20000002001 s (execCarrierPeriodStart n s) := by
  unfold execCarrierPeriodStart
  refine .ite .same ?_
  dsimp only
  split
  · exact .next ((State.setTrim_moved ..).widen.andThen (State.showLegs_moved ..))
  · exact .next (State.putS_moved (((State.setTrim_moved ..).widen.andThen (State.setTrim_moved ..)).andThen (State.showLegs_moved ..)) _ _
      (inBlock_of 9 (by simp only [F.CTE_TRIM_M_M]; omega) rfl))

theorem execTrimEnable_moved (n : Fin 8) (o : Origin) (s : State) : MovedBy 0x220000002001 s (execTrimEnable n o s) :=
  .next (State.trimCommand_moved (.refl ..) _ _ rfl fun _ h => h.andThen (State.trimEnable_moved ..))

theorem execTrimRun_moved (n : Fin 8) (o : Origin) (tc : Tc) (s : State) : MovedBy 0x220000002001 s (execTrimRun n o tc s) :=
  .next (State.trimCommand_moved (.refl ..) _ _ rfl fun _ h => h.andThen (State.trimRunCmd_moved ..))

theorem execTrimStop_moved (n : Fin 8) (o : Origin) (s : State) : MovedBy 0x220000002001 s (execTrimStop n o s) :=
  .next (State.trimCommand_moved (.refl ..) _ _ rfl fun _ h => h.andThen (State.trimStop_moved ..))

theorem execTrimDisable_moved (n : Fin 8) (o : Origin) (s : State) : MovedBy 0x220000002001 s (execTrimDisable n o s) :=
  .next (State.trimCommand_moved (.refl ..) _ _ rfl fun _ h => h.andThen (State.trimDisable_moved ..))

theorem execDirectCoeffWrite_moved (l : Fin 32) (c : Coeff) (v : Word) (o : Origin) (s : State) :
    MovedBy 0x220000000001 s (execDirectCoeffWrite l c v o s) :=
  .op (State.directWrite_moved ..)

theorem execHostPWrite_moved (v : Word) (tc : Tc) (s : State) : MovedBy 0x40000008001 s (execHostPWrite v tc s) :=
  .op (State.hostWrite_moved ..)

theorem execHostTimeout_moved (tc : Tc) (s : State) : MovedBy 0x40000000001 s (execHostTimeout tc s) :=
  .next (.ite (State.put_moved (.refl ..) _ _ rfl) (.refl ..))

theorem execStockpotCommit_moved (tc : Tc) (s : State) : MovedBy 0x200000004001 s (execStockpotCommit tc s) :=
  .op (State.potCommit_moved ..)

theorem execHousekeepingRound_moved (m : RecMedia) (tc : Tc) (s : State) : MovedBy 0x8080010218001 s (execHousekeepingRound m tc s) :=
  .ite (.next (.andThenIf (.andThenUnless (State.withThm_moved ..).widen (State.thermalRound_moved ..)) (State.recRound_moved ..))) .same

theorem execSdAck_moved (key : Word) (s : State) : MovedBy 0x80000010001 s (execSdAck key s) :=
  .opUnless (State.sdAck_moved ..)

theorem execCauseWordCleared_moved (tc : Tc) (s : State) : MovedBy 0x1b8000233001 s (execCauseWordCleared tc s) :=
  .ite (.next ((State.writeCause_moved ..).widen.andThen (State.giveInput_moved ..))) .same

theorem execHoursIncrement_moved (tc : Tc) (s : State) : MovedBy 0x8000000200001 s (execHoursIncrement tc s) :=
  .ite (.next (State.put_moved (State.withRcd_moved ..).widen _ _ rfl)) .same

theorem execFoldDue_moved (m : RecMedia) (s : State) : MovedBy 0x8000000200001 s (execFoldDue m s) :=
  .ite (.next (.ite (State.withRcd_moved ..).widen (State.recFold_moved ..).widen)) .same

theorem execRecordLoad_moved (v : Word) (s : State) : MovedBy 0x8000000200001 s (execRecordLoad v s) :=
  .opIf (State.recLoad_moved ..)

theorem execRecordLoadDone_moved (error : Bool) (s : State) : MovedBy 0x8000000200001 s (execRecordLoadDone error s) := by
  unfold execRecordLoadDone
  split
  · exact .same
  · refine .ite (.op (State.recLoadFail_moved ..)) (.ite (.next ?_) (.op (State.recLoadFail_moved ..)))
    exact State.put_moved (State.put_moved (State.put_moved (State.put_moved (State.withRcd_moved ..).widen _ _ rfl) _ _ rfl) _ _ rfl) _ _ rfl

theorem execHoldStart_moved (key : Word) (tc : Tc) (s : State) : MovedBy 0x8000000200001 s (execHoldStart key tc s) :=
  .opIf (State.recHold_moved ..)

theorem execHoldRelease_moved (key : Word) (s : State) : MovedBy 0x8000000200001 s (execHoldRelease key s) :=
  .opIf (State.recHold_moved ..)

theorem execHoldTimeout_moved (tc : Tc) (s : State) : MovedBy 0x8000000000001 s (execHoldTimeout tc s) :=
  .next (.ite (State.put_moved (.refl ..) _ _ rfl) (.refl ..))

theorem execRecordClear_moved (key : Word) (signed : Bool) (m : RecMedia) (s : State) : MovedBy 0x8000010200001 s (execRecordClear key signed m s) :=
  .opIf (State.recClear_moved ..)

/-! Commands of object access, configuration, update, the Ethernet switch and the sequence program. -/

/-- A write from outside the queue of the object access service stays within m where its effect does; its other effect is a stale transfer (R43). -/
theorem State.writeFrom_moved {m : Nat} {s : State} (a : Nat) (w : Writer) {go : State → State} (hm : m ||| 0x200000000001 = m)
    (hgo : ∀ t, Moved m s t → Moved m s (go t)) : MovedBy m s (s.writeFrom a w go) := by
  have done := hgo s (.refl m s)
  unfold State.writeFrom
  cases w with
  | path p => exact .next (.ite done (.refl ..))
  | lane o =>
    exact .ite (.fault _) (.ite (.next (.ite (.refl ..) (.ite ((State.staleTransfer_moved ..).widen hm) (.ite done (.refl ..)))))
      (.next (.ite done (.refl ..))))

theorem ethTc10_block (p : Nat) : (ethTc10 p).addr / 0x10000 = 16 := by
  unfold ethTc10
  split <;> rfl

theorem execObjRequestArrival_moved (path : Path) (src : BitVec 48) (pdu : List Byte) (tc : Tc) (s : State) :
    MovedBy 0x80020a040021 s (execObjRequestArrival path src pdu tc s) :=
  .ite .same (.next ((Moved.andThen (.ite (State.takeRequestFrame_moved ..).widen (.refl ..)) (State.touchSession_moved ..)).andThen (State.arrive_moved ..)))

theorem execReadRange_moved (tc : Tc) (s : State) : MovedBy 0x800218040021 s (execReadRange tc s) := by
  unfold execReadRange
  split
  · exact .op (State.readRequest_moved ..)
  · exact .same

theorem execReadList_moved (tc : Tc) (s : State) : MovedBy 0x800218040021 s (execReadList tc s) := by
  unfold execReadList
  split
  · exact .op (State.readRequest_moved ..)
  · exact .same

theorem execWriteList_moved (x : WriteAid) (tc : Tc) (s : State) : MovedBy 0x3fffff1fffffff s (execWriteList x tc s) := by
  unfold execWriteList
  split
  · exact .op (State.writeRequest_moved ..)
  · exact .same

theorem execEpochQuery_moved (tc : Tc) (s : State) : MovedBy 0x800218040021 s (execEpochQuery tc s) := by
  unfold execEpochQuery
  dsimp only
  split
  · exact .ite (.next ((State.takeRequest_moved ..).widen.andThen (State.answerStatus_moved ..)))
      (.next ((State.takeRequest_moved ..).widen.andThen (State.answerOk_moved ..)))
  · exact .same

theorem execRegisterWrite_moved (a : BitVec 32) (v : Word) (w : Writer) (x : WriteAid) (tc : Tc) (s : State) :
    MovedBy 0x3fffff1fffffff s (execRegisterWrite a v w x tc s) :=
  State.writeFrom_moved _ _ rfl fun _ h => h.andThen (State.objWrite_moved ..)

theorem execRwsWrite_moved (a : BitVec 32) (v : Word) (w : Writer) (s : State) : MovedBy 0x200400000041 s (execRwsWrite a v w s) :=
  State.writeFrom_moved _ _ rfl fun _ h => h.andThenIf (State.stage_moved ..)

theorem execPairLoRead_moved (a : BitVec 32) (tc : Tc) (s : State) : MovedBy 0x8040020 s (execPairLoRead a tc s) :=
  .ite (.fault _) (.next ((State.objRead_moved ..).one.widen.andThen (State.emit_moved ..)))

theorem execCfgSelectWrite_moved (v : Word) (s : State) : MovedBy 0x400000001 s (execCfgSelectWrite v s) :=
  .op (State.cfgSelect_moved ..)

theorem execCfgRestart_moved (v : Word) (tc : Tc) (s : State) : MovedBy 0x3fffff1fffffff s (execCfgRestart v tc s) :=
  .op (State.cfgRestart_moved ..)

theorem execCfgConfirm_moved (v : Word) (tc : Tc) (s : State) : MovedBy 0x400000041 s (execCfgConfirm v tc s) :=
  .op (State.cfgConfirm_moved ..)

theorem execCfgConfirmInv_moved (v : Word) (tc : Tc) (s : State) : MovedBy 0x400000041 s (execCfgConfirmInv v tc s) :=
  .op (State.cfgConfirmInv_moved ..)

theorem execConfirmWindowExpiry_moved (tc : Tc) (s : State) : MovedBy 0x400000001 s (execConfirmWindowExpiry tc s) :=
  .next (.ite (State.put_moved (.refl ..) _ _ rfl) (.refl ..))

theorem execConfirmationRecordWritten_moved (s : State) : MovedBy 0x400000041 s (execConfirmationRecordWritten s) := by
  refine .ite (.next (State.put_moved (State.put_moved (State.withCfg_moved s _ fun h => ?_).widen _ _ rfl) _ _
    (inBlock_of 2 (by simp only [F.CFG_SLOT_STAT_CONFIRMED]; omega) rfl))) .same
  exact ⟨h.cfg.1, (length_setAt ..).trans h.cfg.2⟩

theorem execLsSubmit_moved (s : State) : MovedBy 0x400000041 s (execLsSubmit s) :=
  .opIf (State.lsSubmit_moved ..)

theorem execLsDiscard_moved (s : State) : MovedBy 0x400000041 s (execLsDiscard s) :=
  .opIf (State.lsDiscard_moved ..)

theorem execLsChecksDone_moved (s : State) : MovedBy 0x400000041 s (execLsChecksDone s) :=
  .opIf (State.lsChecked_moved ..)

theorem execSessionOpen_moved (src : BitVec 48) (key : Word) (signed : Bool) (tc : Tc) (s : State) :
    MovedBy 0x20000012000001 s (execSessionOpen src key signed tc s) :=
  .opIf (State.sessionOpen_moved ..)

theorem execSessionClose_moved (key : Word) (s : State) : MovedBy 0x20000402000001 s (execSessionClose key s) :=
  .opIf (State.sessionClose_moved ..)

theorem execSessionTimeout_moved (tc : Tc) (s : State) : MovedBy 0x20000402000001 s (execSessionTimeout tc s) := by
  unfold execSessionTimeout
  split
  · exact .opIf (State.sessionEnd_moved ..)
  · exact .same

theorem execXferStart_moved (v : Word) (tc : Tc) (s : State) : MovedBy 0x20000402000041 s (execXferStart v tc s) :=
  .opIf (State.xferCtrl_moved ..)

theorem execXferAbort_moved (v : Word) (s : State) : MovedBy 0x20000402000041 s (execXferAbort v s) :=
  .opIf (State.xferCtrl_moved ..)

theorem execXferDatagram_moved (src : BitVec 48) (bytes : List Byte) (tc : Tc) (s : State) :
    MovedBy 0x2000000a000001 s (execXferDatagram src bytes tc s) := by
  refine .ite .same ?_
  split
  · exact .op (State.xferBlock_moved ..)
  · exact .op (State.emit_moved ..)

theorem execXferVerifyDone_moved (v : XferVerdict) (s : State) : MovedBy 0x20000412000041 s (execXferVerifyDone v s) := by
  unfold execXferVerifyDone
  split
  · exact .same
  · refine .ite .same (.ite (.next ?_) (.next ?_))
    · exact State.event_moved (((State.takeXfer_moved ..).widen.andThen (State.putResultOf_moved ..)).andThen (State.closeXfer_moved ..)) _ rfl rfl
    · refine State.event_moved (.andThen (.ite (State.put_moved ?failed _ _ (inBlock_of 2 (by simp only [F.CFG_SLOT_STAT_ERR]; omega) rfl)) ?failed)
        (State.closeXfer_moved ..)) _ rfl rfl
      exact (State.putTarget_moved ..).widen.andThen (State.putResultOf_moved ..)

theorem execXferTimeout_moved (tc : Tc) (s : State) : MovedBy 0x20000402000001 s (execXferTimeout tc s) := by
  unfold execXferTimeout
  split
  · exact .opIf (State.abortXfer_moved ..)
  · exact .same

theorem execFwActivate_moved (v : Word) (s : State) : MovedBy 0x20000002000001 s (execFwActivate v s) :=
  .opIf (State.fwActivate_moved ..)

theorem execFwConfirm_moved (v : Word) (s : State) : MovedBy 0x20000002000001 s (execFwConfirm v s) :=
  .opIf (State.fwConfirm_moved ..)

theorem execPdelayReqTimer_moved (p : Fin 2) (stamp : Nat) (s : State) : MovedBy 0x1000008100001 s (execPdelayReqTimer p stamp s) := by
  refine .ite (.next (.andThen (State.bump_moved (.andThen (.andThenIf ?counted (State.pdlyLost_moved ..)) (State.setEthPort_moved ..)) _
    (inBlock_of 16 (by simp only [F.ETH_E_TX_VALUE]; omega) rfl)) (State.emit_moved ..))) .same
  exact (State.setEthPort_moved ..).widen

theorem execPdelayReqReceive_moved (p : Fin 2) (seq : BitVec 16) (ingress egress : Nat) (s : State) :
    MovedBy 0x1000008000001 s (execPdelayReqReceive p seq ingress egress s) :=
  .ite (.next ((State.bump_moved (.refl ..) _ (inBlock_of 16 (by simp only [F.ETH_E_TX_VALUE]; omega) rfl)).andThen (State.emit_moved ..))) .same

theorem execAddressAgeOut_moved (mac : BitVec 48) (tc : Tc) (s : State) : MovedBy 0x100000 s (execAddressAgeOut mac tc s) :=
  .op (State.withEth_moved s _ fun h => by exact h.eth)

theorem execEthFrameReceive_moved (p : Fin 3) (f : EthFrame) (tc : Tc) (s : State) : MovedBy 0x1200008100001 s (execEthFrameReceive p f tc s) :=
  .ite .same (.ite (.opIf (State.staleTransfer_moved ..)) (.ite
    (.next (State.bump_moved (.refl ..) _ (inBlock_of 16 (by simp only [F.ETH_E_ERR_DISCARD]; omega) rfl))) (.op (State.ethSwitch_moved ..))))

theorem execEthLinkChange_moved (p : Fin 2) (up : Bool) (s : State) : MovedBy 0x1000000100001 s (execEthLinkChange p up s) :=
  .ite .same (.next ((Moved.ite (State.put_moved (.refl ..) _ _ (inBlock_of 16 (ethTc10_block p) rfl)) (.refl ..)).andThen (State.ethLinkSet_moved ..)))

theorem execTc10SleepRequest_moved (p : Fin 2) (s : State) : MovedBy 0x1000008100001 s (execTc10SleepRequest p s) :=
  .ite .same (.ite (.next ((State.put_moved (State.emit_moved ..).widen _ _ (inBlock_of 16 (ethTc10_block p) rfl)).andThen (State.ethLinkSet_moved ..))) (.op (State.emit_moved ..)))

theorem execSeqRestart_moved (s : State) : MovedBy 0x800000 s (execSeqRestart s) :=
  .op (State.seqRestart_moved ..)

theorem execSeqTrig_moved (bits : BitVec 8) (s : State) : MovedBy 0x800000 s (execSeqTrig bits s) :=
  .op (State.seqTrig_moved ..)

theorem execForceSet_moved (s : State) : MovedBy 0x800000 s (execForceSet s) :=
  .opIf (State.forceWrite_moved ..)

theorem execForceRelease_moved (s : State) : MovedBy 0x800000 s (execForceRelease s) :=
  .opIf (State.forceWrite_moved ..)

theorem execForceReleaseAll_moved (s : State) : MovedBy 0x800000 s (execForceReleaseAll s) :=
  .opIf (State.forceWrite_moved ..)

theorem execOlcApply_moved (x : OlcCheck) (s : State) : MovedBy 0x400000800001 s (execOlcApply x s) :=
  .op (State.olcApply_moved ..)

theorem execRioInFrame_moved (i : Fin 16) (bytes : List Byte) (tc : Tc) (s : State) : MovedBy 0xc00000800001 s (execRioInFrame i bytes tc s) := by
  unfold execRioInFrame
  extract_lets +onlyGivenNames now
  split
  · exact .same
  · have block {a : Nat} (h : a / 0x10000 = 14) : inBlock 0xc00000800001 a = true := inBlock_of 14 h rfl
    have taken := (State.canTake_moved s 1 ((s.seq.prog.map (·.rioBase)).getD 0 + 0x11 + i)).widen (m := 0xc00000800001)
    refine .ite (.next (State.bump_moved taken _ (block (by simp only [F.SEQ_STN_CNT_BAD]; omega)))) (.ite (.next ?_) (.next (taken.andThen (State.setStn_moved ..))))
    exact State.put_moved (taken.andThen (State.setStn_moved ..)) _ _ (block (by simp only [F.SEQ_STN_STAT_MISS_RUN]; omega))

theorem execRioResponseMissed_moved (i : Fin 16) (tc : Tc) (s : State) : MovedBy 0x400000800001 s (execRioResponseMissed i tc s) := by
  unfold execRioResponseMissed
  split
  · exact .same
  · have block {a : Nat} (h : a / 0x10000 = 14) : inBlock 0x400000800001 a = true := inBlock_of 14 h rfl
    refine .ite (.next (.ite (State.event_moved (.andThen ?missed (State.stnState_moved ..)) _ rfl rfl) ?missed)) .same
    exact (State.put_moved (State.bump_moved (.refl ..) _ (block (by simp only [F.SEQ_STN_CNT_MISSED]; omega))) _ _
      (block (by simp only [F.SEQ_STN_STAT_MISS_RUN]; omega))).andThen (State.setStn_moved ..)

theorem execProgramCycle_moved (x : CycleWork) (tc : Tc) (s : State) : MovedBy 0x3fffff1fffffff s (execProgramCycle x tc s) := by
  unfold execProgramCycle
  extract_lets t u v
  have begun : Moved 0x3fffff1fffffff s t := .ite (State.cycleStart_moved ..).widen (.refl ..)
  have worked : Moved 0x3fffff1fffffff s u := .foldl (begun.andThen (State.beginPhase4_moved ..)) fun _ _ h => h.andThen (State.taskDone_moved ..)
  have ended : Moved 0x3fffff1fffffff s v := worked.andThenIf (State.cycleEnd_moved ..)
  exact .ite .same (.ite (.next begun) (.ite (.next (.ite worked (worked.andThen (State.seqStopped_moved ..)))) (.next (State.putFlag_moved ended _ _ rfl))))

theorem execProgramWatchdog_moved (tc : Tc) (s : State) : MovedBy 0x3fffff1fffffff s (execProgramWatchdog tc s) :=
  .ite (.next ((State.event_moved (State.seqLeave_moved ..).widen _ rfl rfl).andThen (State.safeOutputs_moved ..))) .same

/-! Commands of the lanes and of power. -/

/-- The frame that a rebuild takes is one of the state's frames (R352). -/
theorem State.restoreFrame_mem {s : State} {e : Word} {f : Frame} (found : s.restoreFrame e = some f) : s.frames.f0 = some f ∨ s.frames.f1 = some f := by
  have area {i : Nat} {g : Frame} (h : ((s.validFrame i).filter fun x => x.placement == e) = some g) : (if i = 0 then s.frames.f0 else s.frames.f1) = some g := by
    obtain ⟨h, -⟩ := Option.filter_eq_some_iff.mp h
    unfold State.validFrame at h
    split at h
    · next x hx => split at h <;> simp_all
    · cases h
  unfold State.restoreFrame at found
  dsimp only at found
  split at found
  · next a b ha hb =>
    split at found
    · exact .inr (area (i := 1) (hb.trans found))
    · exact .inl (area (i := 0) (ha.trans found))
  · next a ha _ => exact .inl (area (i := 0) (ha.trans found))
  · exact .inr (area (i := 1) found)

theorem Frames.sized_of_restoreFrame {s : State} {e : Word} {f : Frame} (h : s.frames.Sized) (found : s.restoreFrame e = some f) : f.Sized := by
  rcases State.restoreFrame_mem found with hf | hf
  · exact h.2.1 f hf
  · exact h.2.2 f hf

/-- A finished frame goes from the one that is due to its area (R352). -/
theorem State.frameDone_moved (s : State) (i : Nat) (f : Frame) (hf : s.Inv → f.Sized) :
    Moved 0x200004000001 s (({ s with frames := { s.frames with due := none } } : State).setArea i (some f)) := by
  have only (h : s.Inv) : ∀ x ∈ some f, x.Sized := fun x hx => Option.mem_some.mp hx ▸ hf h
  unfold State.setArea
  refine .andThen (.ite (Moved.widen (State.withFrames_moved s _ fun h => ?_)) (Moved.widen (State.withFrames_moved s _ fun h => ?_))) (State.showFrames_moved _)
  · exact ⟨fun x hx => absurd hx (Option.not_mem_none x), only h, h.frames.2.2⟩
  · exact ⟨fun x hx => absurd hx (Option.not_mem_none x), h.frames.2.1, only h⟩

/-- What a rebuild takes from a frame beside the objects keeps the invariant where the state before the rebuild and the frame have their form (R354). -/
theorem Moved.takeFrame {m : Nat} {r s : State} (h : Moved m r s) (xest : Est) (xdsp : Dsp) (xthm : Thm) (xsaf : Saf) (xtim : Tim) (xrcd : Rec) (xseq : Seq)
    (hm : m ||| 0xab8400 = m) (hsaf : r.Inv → s.Inv → xsaf.Sized) (htim : r.Inv → s.Inv → xtim.Sized) (hseq : r.Inv → s.Inv → xseq.Sized) :
    Moved m r (State.withEstDspThmSafTimRcdSeq s xest xdsp xthm xsaf xtim xrcd xseq) := by
  by_cases hr : r.Inv
  · exact h.chain (State.withEstDspThmSafTimRcdSeq_moved s _ _ _ _ _ _ _ (hsaf hr) (htim hr) (hseq hr)) hm
  · refine ⟨⟨h.kept.pending, h.kept.sent, h.kept.free, fun c => absurd c hr⟩, fun i hi => State.sameAt_trans (h.same i hi) ?_, h.blocks⟩
    rw [← hm, Nat.testBit_or, Bool.or_eq_false_iff] at hi
    obtain ⟨-, hi⟩ := hi
    unfold State.sameAt
    split <;> simp [Nat.testBit] at hi <;> rfl

theorem State.rebuild_moved_of_inv (s : State) (f : Frame) (tc : Tc) (hf : s.Inv → f.Sized) : Moved 0x3fffff02efb401 s (s.rebuild f tc) := by
  unfold State.rebuild
  refine .andThen (.forUpTo (.foldl (.andThen (.andThen (.andThen (.andThen (.andThen (State.put_moved (.takeFrame (.ite (State.put_moved ?live _ _ rfl) ?live)
    _ _ _ _ _ _ _ rfl ?_ ?_ ?_) _ _ rfl) (State.invalidateWriting_moved ..)) (State.recCount_moved ..)) (State.takeRequestFrame_moved ..)) (State.withLan_moved ..))
    (State.withSaf_moved _ _ fun h => by exact h.saf)) ?_) fun _ _ _ h => h.andThen (State.sdTimeout_moved ..)) (State.sdRewrite_moved ..)
  case live =>
    refine .andThen (.forUpTo (State.wr_moved (State.wr_moved (.foldl (.refl ..) fun _ _ h => h.andThen (State.takeHeld_moved ..)) _ _ rfl) _ _ rfl)
      fun _ _ _ h => h.andThen (State.canCtrl_moved ..)) (State.takeLive_moved ..)
  · exact fun hr h => ⟨(hf hr).2, h.saf.2⟩
  · exact fun _ h => h.tim
  · exact fun hr _ => (hf hr).1
  · exact fun _ x h => (Moved.ite h (h.andThen (State.canTake_moved ..))).andThen (State.sdReceive_moved ..)
theorem execLaneBootDone_moved (l : Lane) (x : BootCheck) (tc : Tc) (s : State) : MovedBy 0x3fffff1fffffff s (execLaneBootDone l x tc s) :=
  .ite (.op (State.bootDone_moved ..)) .same

theorem execBootTimeout_moved (l : Lane) (tc : Tc) (s : State) : MovedBy 0x29f7740ff7f763 s (execBootTimeout l tc s) :=
  .opIf (State.referee_moved ..)

theorem execStandbyLoadDone_moved (l : Lane) (ids : LaneIds) (check : Word × Word) (tc : Tc) (s : State) :
    MovedBy 0x29f7740ff7f763 s (execStandbyLoadDone l ids check tc s) :=
  .ite (.ite (.next (State.put_moved ((State.withLan_moved ..).widen.andThen (State.setLane_moved ..)) _ _ rfl)) (.op (State.referee_moved ..))) .same

theorem execStandbyCheckStart_moved (tc : Tc) (s : State) : MovedBy 0x200000400001 s (execStandbyCheckStart tc s) :=
  .next (.ite ((State.withLan_moved ..).widen.andThen (State.setLane_moved ..)) (.refl ..))

theorem execStandbyCheckDone_moved (x : LaneCheck) (tc : Tc) (s : State) : MovedBy 0x29f7740ff7f763 s (execStandbyCheckDone x tc s) :=
  .ite (.ite (.next (State.put_moved ((State.withLan_moved ..).widen.andThen (State.setLane_moved ..)) _ _ rfl)) (.op (State.referee_moved ..))) .same

theorem execCheckTimeout_moved (tc : Tc) (s : State) : MovedBy 0x29f7740ff7f763 s (execCheckTimeout tc s) :=
  .opIf (State.referee_moved ..)

theorem execLaneFault_moved (x : FaultSignal) (also : Option FaultSignal) (tc : Tc) (s : State) :
    MovedBy 0x29f7740ff7f763 s (execLaneFault x also tc s) := by
  refine .ite .same ?_
  split
  · exact .next (.ite (State.referee2_moved ..).widen (State.referee_moved ..).widen)
  · exact .op (State.referee_moved ..)

theorem execLidReadbackFault_moved (x : LidReadAt) (s : State) : MovedBy 0x21b3300f763323 s (execLidReadbackFault x s) := by
  have taken := (State.takeBack_moved s x.back x.tc).widen (m := 0x21b3300f763323)
  exact .ite .same (.next (.ite ((taken.andThen (State.faultLane_moved ..)).andThen (State.safeStop_moved ..)) taken))

theorem execNewHalfReady_moved (tc : Tc) (s : State) : MovedBy 0x1a20200446001 s (execNewHalfReady tc s) := by
  unfold execNewHalfReady
  split
  · exact .opIf (State.newHalf_moved ..)
  · exact .same

theorem execRebuildComplete_moved (tc : Tc) (s : State) : MovedBy 0x3fffff1fffffff s (execRebuildComplete tc s) := by
  unfold execRebuildComplete
  split
  · refine .ite .same ?_
    split
    · rename_i f found
      exact .op (State.rebuild_moved_of_inv s f tc fun h => Frames.sized_of_restoreFrame h.frames found)
    · exact .next ((State.faultLane_moved ..).widen.andThen (State.safeStop_moved ..))
  · exact .same

theorem execRestoreTimeout_moved (tc : Tc) (s : State) : MovedBy 0x21b3300f763323 s (execRestoreTimeout tc s) :=
  .next (.ite ((State.faultLane_moved ..).widen.andThen (State.safeStop_moved ..)) (.refl ..))

theorem execRequalDone_moved (x : LaneCheck) (tc : Tc) (s : State) : MovedBy 0x200000400001 s (execRequalDone x tc s) := by
  unfold execRequalDone
  split
  · rename_i l _
    refine .ite (.next (State.event_moved (State.put_moved (State.put_moved ((State.withLan_moved ..).widen.andThen (State.setLane_moved ..)) _ _ ?_) _ _ rfl) _ rfl rfl))
      (.op (State.setLane_moved ..))
    cases l <;> rfl
  · exact .same

theorem execRequalTimeout_moved (tc : Tc) (s : State) : MovedBy 0x200000400001 s (execRequalTimeout tc s) := by
  unfold execRequalTimeout
  split
  · exact .opIf (State.setLane_moved ..)
  · exact .same

theorem execHeartbeatWrite_moved (x : Heartbeat) (s : State) : MovedBy 0x400000 s (execHeartbeatWrite x s) :=
  .op (State.heartbeat_moved ..)

theorem execPlannedSwitch_moved (tc : Tc) (s : State) : MovedBy 0x400000 s (execPlannedSwitch tc s) :=
  .opIf (State.plannedSwitch_moved ..)

theorem execYield_moved (x : OriginAt) (s : State) : MovedBy 0x29f7740ff7f763 s (execYield x s) :=
  .op (State.yield_moved ..)

theorem execMgmtFrameComplete_moved (tc : Tc) (s : State) : MovedBy 0x29f7740ff7f763 s (execMgmtFrameComplete tc s) := by
  unfold execMgmtFrameComplete
  split
  · exact .same
  · rename_i f bytes t due
    refine .ite .same (.ite (.ite (.next (.andThen (.andThen ?placed (State.setLane_moved ..)) (State.controlStep_moved ..)))
      (.next (.andThen ?placed (State.withLan_moved ..)))) (.next ?placed))
    have written := ((State.potWrite_moved s (areaBase s.frameTarget + bytes.length) (bytesLe 4 (crc32c bytes).toNat) (tc - 640)).widen (m := 0x200000004001)).andThen
      (State.potCommit_moved _ tc)
    exact (written.widen).andThen (State.frameDone_moved _ _ f fun h => by
      have same : _ = s.frames := written.same 26 rfl
      exact h.frames.1 (f, bytes, t) (same ▸ due))

theorem execAutoRestart_moved (sec : Nat) (tc : Tc) (s : State) : MovedBy 0x3fffff1fffffff s (execAutoRestart sec tc s) :=
  .ite (.next ((State.put_moved (State.withLan_moved ..).widen _ _ rfl).andThen (State.beginStart_moved ..))) .same

theorem execSupplyStart_moved (x : SupplyFound) (wakeIn : Bool) (tc : Tc) (s : State) : MovedBy 0x3fffff1fffffff s (execSupplyStart x wakeIn tc s) :=
  .ite (.next ((((State.withThm_moved ..).widen.andThen (State.takeGiven_moved ..)).andThen (State.clearStop_moved ..)).andThen (State.beginSupply_moved ..))) .same

theorem execSupplyLow_moved (vin : BitVec 16) (s : State) : MovedBy 0x10000000000001 s (execSupplyLow vin s) :=
  .ite (.next (State.event_moved (State.put_moved (.refl ..) _ _ rfl) _ rfl rfl)) .same

theorem execPowerFailDetect_moved (vin : BitVec 16) (tc : Tc) (s : State) : MovedBy 0x3fffff1fffffff s (execPowerFailDetect vin tc s) :=
  .ite (.next ((State.put_moved (.refl ..) _ _ rfl).andThen (State.powerFail_moved ..))) .same

theorem execPowerFailShutdown_moved (good : Bool) (tc : Tc) (s : State) : MovedBy 0x21b3700f763723 s (execPowerFailShutdown good tc s) := by
  refine .ite (.next (.andThen (.andThen (.andThen (.andThen (.andThen (.andThenIf ?saved (State.hoursSave_moved ..)) (State.allSafe_moved ..)) (State.silence_moved ..))
    (State.updWithdraw_moved ..)) (State.lanesOff_moved ..)) (State.withPwr_moved ..))) .same
  split
  · exact (State.finishWb_moved ..).widen
  · exact .refl ..

theorem execStandbyRequest_moved (key : BitVec 16) (s : State) : MovedBy 0x10000001000001 s (execStandbyRequest key s) :=
  .op (State.pwrCtrl_moved ..)

theorem execDeepStandbyRequest_moved (key : BitVec 16) (s : State) : MovedBy 0x10000001000001 s (execDeepStandbyRequest key s) :=
  .op (State.pwrCtrl_moved ..)

theorem execOffRequest_moved (key : BitVec 16) (s : State) : MovedBy 0x10000001000001 s (execOffRequest key s) :=
  .op (State.pwrCtrl_moved ..)

theorem execEntryComplete_moved (wakeIn : Bool) (tc : Tc) (s : State) : MovedBy 0x3fffff1fffffff s (execEntryComplete wakeIn tc s) := by
  refine .ite (.ite (.next (.andThenIf (.forUpTo ?entered fun _ _ _ h => h.andThen (State.setPair_moved ..))
      (((State.clearStop_moved ..).widen (m := 0x3fffff1fffffff)).andThen (State.beginSupply_moved ..)))) (.next (.andThenIf ?entered (State.beginWake_moved ..)))) .same
  have off := ((State.tc10End_moved s).widen (m := 0x3fffff1fffffff)).andThen (State.domainsOff_moved _ tc)
  exact (State.put_moved (State.put_moved (State.put_moved off _ _ rfl) _ _ rfl) _ _ rfl).andThen (State.withThmPwr_moved ..)

theorem execWakeInAssert_moved (t : WakeAt) (low : Bool) (tc : Tc) (s : State) : MovedBy 0x3fffff1fffffff s (execWakeInAssert t low tc s) := by
  unfold execWakeInAssert
  split
  · exact .next ((State.clearStop_moved ..).widen.andThen (State.beginSupply_moved ..))
  · exact .opIf (State.beginStart_moved ..)
  · exact .next (.getD (.refl ..) (State.wakeSeen_moved _ _ _ _))

theorem execWakeTimerExpiry_moved (t : WakeAt) (tc : Tc) (s : State) : MovedBy 0x3fffff1fffffff s (execWakeTimerExpiry t tc s) :=
  .ite (.next (.getD (.refl ..) (State.wakeSeen_moved _ _ _ _))) .same

theorem execCanWake_moved (c : Fin 2) (e : CanWakeEvent) (t : WakeAt) (tc : Tc) (s : State) : MovedBy 0x3fffff1fffffff s (execCanWake c e t tc s) := by
  unfold execCanWake
  refine .ite .same ?_
  split
  · rename_i woken
    exact .next (State.put_moved ((State.wakeSeen_moved _ _ _ _).of woken) _ _ (inBlock_of 15 (by simp only [F.CAN_WAKE_STAT_CAUSE]; omega) rfl))
  · exact .same

theorem execEthWake_moved (p : Fin 2) (t : WakeAt) (tc : Tc) (s : State) : MovedBy 0x3fffff1fffffff s (execEthWake p t tc s) := by
  unfold execEthWake
  extract_lets on fwd other t
  have sent : Moved 0x3fffff1fffffff s t := .ite (State.emit_moved ..).widen (.refl ..)
  refine .ite (.next (.ite (State.put_moved sent _ _ (inBlock_of 16 (ethTc10_block p) rfl)) sent)) (.ite ?_ (.next sent))
  split
  · rename_i woken
    exact .next (State.put_moved (sent.andThen ((State.wakeSeen_moved _ _ _ _).of woken)) _ _ rfl)
  · exact .next sent

theorem execDerturWakeEvent_moved (p : Fin 8) (endB : Bool) (t : WakeAt) (tc : Tc) (s : State) :
    MovedBy 0x3fffff1fffffff s (execDerturWakeEvent p endB t tc s) := by
  unfold execDerturWakeEvent
  split
  · rename_i woken
    refine .next (State.bump_moved (State.event_moved ((State.wakeSeen_moved _ _ _ _).of woken) _ ?_ ?_) _ rfl)
    · split
      · exact inBlock_of 4 (by simp only [Ev.DLK_WAKE_B, Nat.reduceDiv]) rfl
      · exact inBlock_of 4 (by simp only [Ev.DLK_WAKE_A, Nat.reduceDiv]) rfl
    · split
      · exact inBlock_of 4 (by simp only [Ev.DLK_WAKE_B, F.DLK_WAKE_CNTN_B]; omega) rfl
      · exact inBlock_of 4 (by simp only [Ev.DLK_WAKE_A, F.DLK_WAKE_CNTN_A]; omega) rfl
  · exact .same

theorem execThermalStopEnd_moved (tc : Tc) (s : State) : MovedBy 0x3fffff1fffffff s (execThermalStopEnd tc s) :=
  .ite .same (.ite (.op (State.beginStart_moved ..)) (.op (State.withPwr_moved ..)))

theorem execJunctionReading_moved (t1 t2 : BitVec 16) (tc : Tc) (s : State) : MovedBy 0x3fffff1fffffff s (execJunctionReading t1 t2 tc s) := by
  have read := (State.takeJunctions_moved s t1 t2).widen (m := 0x3fffff1fffffff)
  refine .ite .same (.ite ?_ (.next read))
  split
  · exact .next (read.andThen (State.thermalShutdown_moved ..))
  · exact .next (.ite ((read.andThen (State.took_moved ..)).andThen (State.thermalShutdown_moved ..)) read)

theorem execScrubComplete_moved (lost : BitVec 12) (corrected : Nat) (tc : Tc) (s : State) :
    MovedBy 0x3fffff1fffffff s (execScrubComplete lost corrected tc s) :=
  .ite .same (.next (.ite (State.beginStart_moved ..).widen (State.resume_moved ..).widen))

theorem execTamperOpen_moved (erased : Bool) (tc : Tc) (s : State) : MovedBy 0x21b3301f763323 s (execTamperOpen erased tc s) := by
  refine .ite (.next (.andThen (State.bump_moved (.ite (State.put_moved (State.put_moved (.andThen ?shut (State.withUpd_moved ..)) _ _ rfl) _ _ rfl)
    (.andThen ?shut (State.keysUnknown_moved ..))) _ rfl) (State.withPwrUpd_moved ..))) .same
  exact (((State.allSafe_moved ..).widen.andThen (State.silence_moved ..)).andThen (State.updWithdraw_moved ..)).andThen (State.lanesOff_moved ..)

theorem execCommitPoint_moved (k : Fin 64) (m : RecMedia) (tc : Tc) (s : State) : MovedBy 0x3fffff1fffffff s (execCommitPoint k m tc s) :=
  .next (.ite ((State.acted_moved ..).widen.andThen (State.commitPoint_moved ..)) (.refl ..))

end Sys2Proof.Machine
end

section
/-! Frames: the scopes of Safety.lean as sets of parts and blocks, what any command may change, and the statements that follow: the four frames and the invariant of every step. -/
namespace Sys2Proof.Machine

open Sys2Proof

/-! What a command may change, as the scopes of Safety.lean say it. -/

/-- The parts of the state, in the order of State. -/
def StatePart.all : List StatePart :=
  [.objs, .assembling, .latest, .previous, .cst, .obj, .cfg, .phb, .ports, .swp, .est, .afe, .prt, .cte, .pot, .dsp, .thm, .saf, .can, .tim, .eth, .rcd, .lan, .seq, .pwr, .upd, .frames, .sent, .freeCount]

/-- The place of a part among the bits of a set of parts. -/
def StatePart.place (p : StatePart) : Nat := StatePart.all.idxOf p

theorem StatePart.mem_all (p : StatePart) : p ∈ StatePart.all := by
  cases p <;> decide

theorem StatePart.place_lt (p : StatePart) : p.place < 32 := lt_trans (List.idxOf_lt_length_of_mem p.mem_all) (by decide)

theorem StatePart.place_inj {p q : StatePart} (h : p.place = q.place) : p = q := (List.idxOf_inj p.mem_all).mp h

theorem StatePart.same_iff (p : StatePart) (r s : State) : p.Same r s ↔ State.sameAt r s p.place := by
  cases p <;> exact Iff.rfl

/-- The number whose bits that read 1 are the listed ones. -/
def bitsOf : List Nat → Nat
  | [] => 0
  | b :: l => 2 ^ b ||| bitsOf l

theorem testBit_bitsOf (l : List Nat) (i : Nat) : (bitsOf l).testBit i = decide (i ∈ l) := by
  induction l with
  | nil => simp [bitsOf]
  | cons b l ih => simp [bitsOf, ih, Nat.testBit_two_pow, eq_comm]

/-- A scope as the set of parts and blocks that Moved takes. -/
def Scope.mask (x : Scope) : Nat := bitsOf (x.parts.map StatePart.place ++ x.blocks.map (· + 32))

theorem Scope.mask_part (x : Scope) {p : StatePart} (h : p ∉ x.parts) : x.mask.testBit p.place = false := by
  rw [Scope.mask, testBit_bitsOf, decide_eq_false_iff_not, List.mem_append, List.mem_map, List.mem_map]
  rintro (⟨q, hq, e⟩ | ⟨b, -, e⟩)
  · exact h (StatePart.place_inj e ▸ hq)
  · have := p.place_lt
    omega

theorem Scope.mask_block (x : Scope) {b : Nat} (h : b ∉ x.blocks) : x.mask.testBit (b + 32) = false := by
  rw [Scope.mask, testBit_bitsOf, decide_eq_false_iff_not, List.mem_append, List.mem_map, List.mem_map]
  rintro (⟨q, -, e⟩ | ⟨c, hc, e⟩)
  · have := q.place_lt
    omega
  · exact h (Nat.add_right_cancel e ▸ hc)

theorem Moved.within {x : Scope} {r s : State} (h : Moved x.mask r s) : Within x r s :=
  ⟨fun p hp => (p.same_iff r s).mpr (h.same _ (x.mask_part hp)), fun a ha hb => h.blocks a ha (x.mask_block hb)⟩

/-- The scope of a command that no scope names: every part and every block of the object map (R15). -/
def Scope.whole : Scope := ⟨StatePart.all, List.range 22⟩

/-- What a command may change: the scope that names it, and else everything but the commands that wait. -/
def reach (c : Instr) : Option Scope :=
  scopeTime c <|> scopeLink c <|> scopeBank c <|> scopeIsland c <|> scopeSafety c <|> scopeControl c <|> scopeService c <|> scopeSystem c <|> some Scope.whole

theorem reach_isSome (c : Instr) : (reach c).isSome := by
  simp [reach]

/-- No two scopes name one command. -/
theorem reach_of_scope {c : Instr} {x : Scope} {f : Instr → Option Scope} (h : f c = some x)
    (hf : f ∈ [scopeTime, scopeLink, scopeBank, scopeIsland, scopeSafety, scopeControl, scopeService, scopeSystem]) : reach c = some x := by
  simp only [List.mem_cons, List.not_mem_nil, or_false] at hf
  rcases hf with rfl | rfl | rfl | rfl | rfl | rfl | rfl | rfl
  all_goals cases c <;> cases h <;> rfl

/-- A command that ends in a next state has changed nothing beyond its reach, has kept the record and has kept the invariant. -/
theorem exec_moved {c : Instr} {x : Scope} (hx : reach c = some x) (s : State) : MovedBy x.mask s (exec c s) := by
  match c, hx with
  | .commitPoint k m tc, hx => cases hx; exact execCommitPoint_moved k m tc s
  | .snapshotPublication tc, hx => cases hx; exact execSnapshotPublication_moved tc s
  | .dispatchComplete tc, hx => cases hx; exact execDispatchComplete_moved tc s
  | .sweepDeadline tc, hx => cases hx; exact execSweepDeadline_moved tc s
  | .objRequestArrival path src pdu tc, hx => cases hx; exact execObjRequestArrival_moved path src pdu tc s
  | .readRange tc, hx => cases hx; exact execReadRange_moved tc s
  | .readList tc, hx => cases hx; exact execReadList_moved tc s
  | .writeList x tc, hx => cases hx; exact execWriteList_moved x tc s
  | .epochQuery tc, hx => cases hx; exact execEpochQuery_moved tc s
  | .registerWrite a v w x tc, hx => cases hx; exact execRegisterWrite_moved a v w x tc s
  | .rwsWrite a v w, hx => cases hx; exact execRwsWrite_moved a v w s
  | .pairLoRead a tc, hx => cases hx; exact execPairLoRead_moved a tc s
  | .cfgSelectWrite v, hx => cases hx; exact execCfgSelectWrite_moved v s
  | .cfgRestart v tc, hx => cases hx; exact execCfgRestart_moved v tc s
  | .cfgConfirm v tc, hx => cases hx; exact execCfgConfirm_moved v tc s
  | .cfgConfirmInv v tc, hx => cases hx; exact execCfgConfirmInv_moved v tc s
  | .confirmWindowExpiry tc, hx => cases hx; exact execConfirmWindowExpiry_moved tc s
  | .confirmationRecordWritten, hx => cases hx; exact execConfirmationRecordWritten_moved s
  | .lsSubmit, hx => cases hx; exact execLsSubmit_moved s
  | .lsDiscard, hx => cases hx; exact execLsDiscard_moved s
  | .lsChecksDone, hx => cases hx; exact execLsChecksDone_moved s
  | .referenceEvent tc, hx => cases hx; exact execReferenceEvent_moved tc s
  | .referenceMissing tc, hx => cases hx; exact execReferenceMissing_moved tc s
  | .phaseWrap tc, hx => cases hx; exact execPhaseWrap_moved tc s
  | .testWindow k tc, hx => cases hx; exact execTestWindow_moved k tc s
  | .balPause k tc, hx => cases hx; exact execBalPause_moved k tc s
  | .apertureNotice k tc, hx => cases hx; exact execApertureNotice_moved k tc s
  | .apertureBroadcast tc, hx => cases hx; exact execApertureBroadcast_moved tc s
  | .adcTrigger k tc, hx => cases hx; exact execAdcTrigger_moved k tc s
  | .ctlSample k tc, hx => cases hx; exact execCtlSample_moved k tc s
  | .trimUpdate k tc, hx => cases hx; exact execTrimUpdate_moved k tc s
  | .mark k tc, hx => cases hx; exact execMark_moved k tc s
  | .angleMessageSend tc, hx => cases hx; exact execAngleMessageSend_moved tc s
  | .angleMessageReceive payload tc, hx => cases hx; exact execAngleMessageReceive_moved payload tc s
  | .portEnable p, hx => cases hx; exact execPortEnable_moved p s
  | .portDisable p, hx => cases hx; exact execPortDisable_moved p s
  | .reenum x, hx => cases hx; exact execReenum_moved x s
  | .enumerationEnd p, hx => cases hx; exact execEnumerationEnd_moved p s
  | .transactionIssue p endB tc, hx => cases hx; exact execTransactionIssue_moved p endB tc s
  | .responseReceive p bytes lineError roundTrip tc, hx => cases hx; exact execResponseReceive_moved p bytes lineError roundTrip tc s
  | .noTarget p tag, hx => cases hx; exact execNoTarget_moved p tag s
  | .transactionTimeout p tag tc, hx => cases hx; exact execTransactionTimeout_moved p tag tc s
  | .lossOfSignal x endB, hx => cases hx; exact execLossOfSignal_moved x endB s
  | .validSignalHeld x, hx => cases hx; exact execValidSignalHeld_moved x s
  | .noSignalTimeout p, hx => cases hx; exact execNoSignalTimeout_moved p s
  | .pollDecision p fromA fromB tc, hx => cases hx; exact execPollDecision_moved p fromA fromB tc s
  | .periodicPoll x, hx => cases hx; exact execPeriodicPoll_moved x s
  | .dRemeasure p m endB tc, hx => cases hx; exact execDRemeasure_moved p m endB tc s
  | .derturWakeEvent p endB t tc, hx => cases hx; exact execDerturWakeEvent_moved p endB t tc s
  | .burstReadComplete p, hx => cases hx; exact execBurstReadComplete_moved p s
  | .burstReadTimeout x, hx => cases hx; exact execBurstReadTimeout_moved x s
  | .cellPass g tc, hx => cases hx; exact execCellPass_moved g tc s
  | .burstEvaluation p, hx => cases hx; exact execBurstEvaluation_moved p s
  | .cellRestore g, hx => cases hx; exact execCellRestore_moved g s
  | .relearnCell g, hx => cases hx; exact execRelearnCell_moved g s
  | .relearnMonitor g, hx => cases hx; exact execRelearnMonitor_moved g s
  | .relearnString g, hx => cases hx; exact execRelearnString_moved g s
  | .wbWrite tc, hx => cases hx; exact execWbWrite_moved tc s
  | .writeBackTimer tc, hx => cases hx; exact execWriteBackTimer_moved tc s
  | .writeBackComplete good tc, hx => cases hx; exact execWriteBackComplete_moved good tc s
  | .scOcCrossing n path x, hx => cases hx; exact execScOcCrossing_moved n path x s
  | .directLatchClear n path tc, hx => cases hx; exact execDirectLatchClear_moved n path tc s
  | .filteredPathExpiry n path x, hx => cases hx; exact execFilteredPathExpiry_moved n path x s
  | .islandFault x, hx => cases hx; exact execIslandFault_moved x s
  | .islandFaultCoilTimeout tc, hx => cases hx; exact execIslandFaultCoilTimeout_moved tc s
  | .breakerStatusChange n closed tc, hx => cases hx; exact execBreakerStatusChange_moved n closed tc s
  | .bfltChange n active tc, hx => cases hx; exact execBfltChange_moved n active tc s
  | .brkOpenTimer n tc, hx => cases hx; exact execBrkOpenTimer_moved n tc s
  | .brkCloseTimer n tc, hx => cases hx; exact execBrkCloseTimer_moved n tc s
  | .sequencerTick bus tc, hx => cases hx; exact execSequencerTick_moved bus tc s
  | .close n o, hx => cases hx; exact execClose_moved n o s
  | .match n o, hx => cases hx; exact execMatch_moved n o s
  | .open n o, hx => cases hx; exact execOpen_moved n o s
  | .reset n o, hx => cases hx; exact execReset_moved n o s
  | .prechargeTimeout n tc, hx => cases hx; exact execPrechargeTimeout_moved n tc s
  | .prechargeMinReached n tc, hx => cases hx; exact execPrechargeMinReached_moved n tc s
  | .contactorCloseTimer k tc, hx => cases hx; exact execContactorCloseTimer_moved k tc s
  | .contactorOpenTimer k tc, hx => cases hx; exact execContactorOpenTimer_moved k tc s
  | .dropTimer n tc, hx => cases hx; exact execDropTimer_moved n tc s
  | .coilCheckTimer k tc, hx => cases hx; exact execCoilCheckTimer_moved k tc s
  | .pullInTimer k tc, hx => cases hx; exact execPullInTimer_moved k tc s
  | .driverVerifyChange k ma high tc, hx => cases hx; exact execDriverVerifyChange_moved k ma high tc s
  | .coilSupplyMeasure v, hx => cases hx; exact execCoilSupplyMeasure_moved v s
  | .auxTrip o tc, hx => cases hx; exact execAuxTrip_moved o tc s
  | .auxReset a o tc, hx => cases hx; exact execAuxReset_moved a o tc s
  | .auxOff a o tc, hx => cases hx; exact execAuxOff_moved a o tc s
  | .auxOn a o tc, hx => cases hx; exact execAuxOn_moved a o tc s
  | .lockoutRelease strs o, hx => cases hx; exact execLockoutRelease_moved strs o s
  | .captureFreeze n samples, hx => cases hx; exact execCaptureFreeze_moved n samples s
  | .captureRearm n, hx => cases hx; exact execCaptureRearm_moved n s
  | .imdPhaseEnd x tc, hx => cases hx; exact execImdPhaseEnd_moved x tc s
  | .collapseDetect tc, hx => cases hx; exact execCollapseDetect_moved tc s
  | .removalLoopOpen tc, hx => cases hx; exact execRemovalLoopOpen_moved tc s
  | .classSEvaluation tc, hx => cases hx; exact execClassSEvaluation_moved tc s
  | .senseFrame n sync bytes tc, hx => cases hx; exact execSenseFrame_moved n sync bytes tc s
  | .streamLost n tc, hx => cases hx; exact execStreamLost_moved n tc s
  | .carrierPeriodStart n, hx => cases hx; exact execCarrierPeriodStart_moved n s
  | .trimEnable n o, hx => cases hx; exact execTrimEnable_moved n o s
  | .trimRun n o tc, hx => cases hx; exact execTrimRun_moved n o tc s
  | .trimStop n o, hx => cases hx; exact execTrimStop_moved n o s
  | .trimDisable n o, hx => cases hx; exact execTrimDisable_moved n o s
  | .directCoeffWrite l c v o, hx => cases hx; exact execDirectCoeffWrite_moved l c v o s
  | .hostPWrite v tc, hx => cases hx; exact execHostPWrite_moved v tc s
  | .hostTimeout tc, hx => cases hx; exact execHostTimeout_moved tc s
  | .housekeepingRound m tc, hx => cases hx; exact execHousekeepingRound_moved m tc s
  | .junctionReading t1 t2 tc, hx => cases hx; exact execJunctionReading_moved t1 t2 tc s
  | .thermalStopEnd tc, hx => cases hx; exact execThermalStopEnd_moved tc s
  | .sdAck key, hx => cases hx; exact execSdAck_moved key s
  | .causeWordCleared tc, hx => cases hx; exact execCauseWordCleared_moved tc s
  | .siFilterChange n chB demand tc, hx => cases hx; exact execSiFilterChange_moved n chB demand tc s
  | .darkPulse sp2 high tc, hx => cases hx; exact execDarkPulse_moved sp2 high tc s
  | .discrepancyTick tc, hx => cases hx; exact execDiscrepancyTick_moved tc s
  | .discFault n tc, hx => cases hx; exact execDiscFault_moved n tc s
  | .safReset fns o tc, hx => cases hx; exact execSafReset_moved fns o tc s
  | .testPulseStart tc, hx => cases hx; exact execTestPulseStart_moved tc s
  | .testPulseEnd readback ma tc, hx => cases hx; exact execTestPulseEnd_moved readback ma tc s
  | .testOverdue k low tc, hx => cases hx; exact execTestOverdue_moved k low tc s
  | .safeDataCopy c eth bytes tc, hx => cases hx; exact execSafeDataCopy_moved c eth bytes tc s
  | .sdWindowClose c tc, hx => cases hx; exact execSdWindowClose_moved c tc s
  | .sdTimeout c tc, hx => cases hx; exact execSdTimeout_moved c tc s
  | .sdReset conns, hx => cases hx; exact execSdReset_moved conns s
  | .sdWordWrite c v o tc, hx => cases hx; exact execSdWordWrite_moved c v o tc s
  | .sdRenewalTimeout c tc, hx => cases hx; exact execSdRenewalTimeout_moved c tc s
  | .sdRewriteTimer tc, hx => cases hx; exact execSdRewriteTimer_moved tc s
  | .sdTxSend, hx => cases hx; exact execSdTxSend_moved s
  | .laneBootDone l x tc, hx => cases hx; exact execLaneBootDone_moved l x tc s
  | .bootTimeout l tc, hx => cases hx; exact execBootTimeout_moved l tc s
  | .standbyLoadDone l ids check tc, hx => cases hx; exact execStandbyLoadDone_moved l ids check tc s
  | .standbyCheckStart tc, hx => cases hx; exact execStandbyCheckStart_moved tc s
  | .standbyCheckDone x tc, hx => cases hx; exact execStandbyCheckDone_moved x tc s
  | .checkTimeout tc, hx => cases hx; exact execCheckTimeout_moved tc s
  | .laneFault x also tc, hx => cases hx; exact execLaneFault_moved x also tc s
  | .lidReadbackFault x, hx => cases hx; exact execLidReadbackFault_moved x s
  | .newHalfReady tc, hx => cases hx; exact execNewHalfReady_moved tc s
  | .rebuildComplete tc, hx => cases hx; exact execRebuildComplete_moved tc s
  | .restoreTimeout tc, hx => cases hx; exact execRestoreTimeout_moved tc s
  | .requalDone x tc, hx => cases hx; exact execRequalDone_moved x tc s
  | .requalTimeout tc, hx => cases hx; exact execRequalTimeout_moved tc s
  | .heartbeatWrite x, hx => cases hx; exact execHeartbeatWrite_moved x s
  | .plannedSwitch tc, hx => cases hx; exact execPlannedSwitch_moved tc s
  | .yield x, hx => cases hx; exact execYield_moved x s
  | .mgmtFrameComplete tc, hx => cases hx; exact execMgmtFrameComplete_moved tc s
  | .stockpotCommit tc, hx => cases hx; exact execStockpotCommit_moved tc s
  | .autoRestart sec tc, hx => cases hx; exact execAutoRestart_moved sec tc s
  | .wakeInAssert t low tc, hx => cases hx; exact execWakeInAssert_moved t low tc s
  | .programCycle x tc, hx => cases hx; exact execProgramCycle_moved x tc s
  | .programWatchdog tc, hx => cases hx; exact execProgramWatchdog_moved tc s
  | .seqRestart, hx => cases hx; exact execSeqRestart_moved s
  | .seqTrig bits, hx => cases hx; exact execSeqTrig_moved bits s
  | .rioInFrame n bytes tc, hx => cases hx; exact execRioInFrame_moved n bytes tc s
  | .rioResponseMissed n tc, hx => cases hx; exact execRioResponseMissed_moved n tc s
  | .forceSet, hx => cases hx; exact execForceSet_moved s
  | .forceRelease, hx => cases hx; exact execForceRelease_moved s
  | .forceReleaseAll, hx => cases hx; exact execForceReleaseAll_moved s
  | .olcApply x, hx => cases hx; exact execOlcApply_moved x s
  | .canFrameReceive c f delay tc, hx => cases hx; exact execCanFrameReceive_moved c f delay tc s
  | .rxHdrRead c k, hx => cases hx; exact execRxHdrRead_moved c k s
  | .canTxDone c delay tc, hx => cases hx; exact execCanTxDone_moved c delay tc s
  | .canArbitrationLost c, hx => cases hx; exact execCanArbitrationLost_moved c s
  | .canTxError c e excepted more, hx => cases hx; exact execCanTxError_moved c e excepted more s
  | .txCancel c bufs won, hx => cases hx; exact execTxCancel_moved c bufs won s
  | .canRecover c, hx => cases hx; exact execCanRecover_moved c s
  | .busOffRecoveryDone c, hx => cases hx; exact execBusOffRecoveryDone_moved c s
  | .canReferenceDue c, hx => cases hx; exact execCanReferenceDue_moved c s
  | .canWake c e t tc, hx => cases hx; exact execCanWake_moved c e t tc s
  | .ethFrameReceive p f tc, hx => cases hx; exact execEthFrameReceive_moved p f tc s
  | .pdelayReqTimer p stamp, hx => cases hx; exact execPdelayReqTimer_moved p stamp s
  | .pdelayReqReceive p seq ingress egress, hx => cases hx; exact execPdelayReqReceive_moved p seq ingress egress s
  | .addressAgeOut mac tc, hx => cases hx; exact execAddressAgeOut_moved mac tc s
  | .ptpSyncReceive m tc, hx => cases hx; exact execPtpSyncReceive_moved m tc s
  | .syncTimeout change tc, hx => cases hx; exact execSyncTimeout_moved change tc s
  | .holdoverTimeout tc, hx => cases hx; exact execHoldoverTimeout_moved tc s
  | .timIncWrite v w tc, hx => cases hx; exact execTimIncWrite_moved v w tc s
  | .timStep v w tc, hx => cases hx; exact execTimStep_moved v w tc s
  | .timSet w tc, hx => cases hx; exact execTimSet_moved w tc s
  | .timConvert v, hx => cases hx; exact execTimConvert_moved v s
  | .tpoArm n tc, hx => cases hx; exact execTpoArm_moved n tc s
  | .tpoDisarm n, hx => cases hx; exact execTpoDisarm_moved n s
  | .tpoEdge n tc, hx => cases hx; exact execTpoEdge_moved n tc s
  | .tpoPulseEnd n tc, hx => cases hx; exact execTpoPulseEnd_moved n tc s
  | .tc10SleepRequest p, hx => cases hx; exact execTc10SleepRequest_moved p s
  | .ethWake p t tc, hx => cases hx; exact execEthWake_moved p t tc s
  | .ethLinkChange p up, hx => cases hx; exact execEthLinkChange_moved p up s
  | .currentRoundHold codes tc, hx => cases hx; exact execCurrentRoundHold_moved codes tc s
  | .roundConversionDone tc, hx => cases hx; exact execRoundConversionDone_moved tc s
  | .mainsSlot, hx => cases hx; exact execMainsSlot_moved s
  | .conversionBDone c, hx => cases hx; exact execConversionBDone_moved c s
  | .afeHousekeeping, hx => cases hx; exact execAfeHousekeeping_moved s
  | .afeSwTrig v, hx => cases hx; exact execAfeSwTrig_moved v s
  | .hoursIncrement tc, hx => cases hx; exact execHoursIncrement_moved tc s
  | .foldDue m, hx => cases hx; exact execFoldDue_moved m s
  | .recordLoad v, hx => cases hx; exact execRecordLoad_moved v s
  | .recordLoadDone error, hx => cases hx; exact execRecordLoadDone_moved error s
  | .holdStart key tc, hx => cases hx; exact execHoldStart_moved key tc s
  | .holdRelease key, hx => cases hx; exact execHoldRelease_moved key s
  | .holdTimeout tc, hx => cases hx; exact execHoldTimeout_moved tc s
  | .recordClear key signed m, hx => cases hx; exact execRecordClear_moved key signed m s
  | .supplyStart x wakeIn tc, hx => cases hx; exact execSupplyStart_moved x wakeIn tc s
  | .supplyLow vin, hx => cases hx; exact execSupplyLow_moved vin s
  | .powerFailDetect vin tc, hx => cases hx; exact execPowerFailDetect_moved vin tc s
  | .powerFailShutdown good tc, hx => cases hx; exact execPowerFailShutdown_moved good tc s
  | .standbyRequest key, hx => cases hx; exact execStandbyRequest_moved key s
  | .deepStandbyRequest key, hx => cases hx; exact execDeepStandbyRequest_moved key s
  | .offRequest key, hx => cases hx; exact execOffRequest_moved key s
  | .entryComplete wakeIn tc, hx => cases hx; exact execEntryComplete_moved wakeIn tc s
  | .wakeTimerExpiry t tc, hx => cases hx; exact execWakeTimerExpiry_moved t tc s
  | .scrubComplete lost corrected tc, hx => cases hx; exact execScrubComplete_moved lost corrected tc s
  | .sessionOpen src key signed tc, hx => cases hx; exact execSessionOpen_moved src key signed tc s
  | .sessionClose key, hx => cases hx; exact execSessionClose_moved key s
  | .sessionTimeout tc, hx => cases hx; exact execSessionTimeout_moved tc s
  | .xferStart v tc, hx => cases hx; exact execXferStart_moved v tc s
  | .xferAbort v, hx => cases hx; exact execXferAbort_moved v s
  | .xferDatagram src bytes tc, hx => cases hx; exact execXferDatagram_moved src bytes tc s
  | .xferVerifyDone x, hx => cases hx; exact execXferVerifyDone_moved x s
  | .xferTimeout tc, hx => cases hx; exact execXferTimeout_moved tc s
  | .fwActivate v, hx => cases hx; exact execFwActivate_moved v s
  | .fwConfirm v, hx => cases hx; exact execFwConfirm_moved v s
  | .tamperOpen erased tc, hx => cases hx; exact execTamperOpen_moved erased tc s
  | .canRxError c e more, hx => cases hx; exact execCanRxError_moved c e more s
  | .encoderCount e, hx => cases hx; exact execEncoderCount_moved e s
  | .filteredPathInactive n path tc, hx => cases hx; exact execFilteredPathInactive_moved n path tc s
  | .coilFault k ma limit tc, hx => cases hx; exact execCoilFault_moved k ma limit tc s
  | .collapseClear tc, hx => cases hx; exact execCollapseClear_moved tc s

/-- A step takes the front command, or finds the queue empty. -/
theorem step_cases {s t : State} (h : step s = .next t) :
    s.pending = [] ∧ t = s ∨ ∃ c rest, s.pending = c :: rest ∧ exec c { s with pending := rest } = .next t := by
  unfold step at h
  split at h
  · next e => exact .inl ⟨e, (Host.Outcome.next.inj h).symm⟩
  · next c rest e => exact .inr ⟨c, rest, e, h⟩

theorem State.Inv.withPending {s : State} (h : s.Inv) (l : List Instr) : State.Inv { s with pending := l } :=
  ⟨h.objs, h.cst, h.assembling, h.latest, h.previous, h.cfg, h.ports, h.swp, h.afe, h.prt, h.cte, h.saf, h.can, h.tim, h.eth, h.seq, h.frames⟩

/-- Settles O5: the invariant is part of what every command keeps. -/
theorem everyStepKeepsTheForm : Obligations.EveryStepKeepsTheForm := by
  intro s t inv h
  rcases step_cases h with ⟨-, rfl⟩ | ⟨c, rest, -, run⟩
  · exact inv
  · obtain ⟨x, hx⟩ := Option.isSome_iff_exists.mp (reach_isSome c)
    exact (exec_moved hx _ t run).kept.inv (inv.withPending rest)

theorem exec_within {c : Instr} {s t : State} {x : Scope} {f : Instr → Option Scope} (hx : f c = some x) (h : exec c s = .next t)
    (hf : f ∈ [scopeTime, scopeLink, scopeBank, scopeIsland, scopeSafety, scopeControl, scopeService, scopeSystem]) : Within x s t :=
  (exec_moved (reach_of_scope hx hf) s t h).within

/-- Settles O57: the reach of a command that one of the two scopes names is that scope. -/
theorem frameTimeAndLink : Obligations.FrameTimeAndLink := by
  rintro c s t x (hx | hx) h
  · exact exec_within hx h (by simp)
  · exact exec_within hx h (by simp)

/-- Settles O58, as O57 with the scopes of the front end and estimation and of the island. -/
theorem frameBankAndIsland : Obligations.FrameBankAndIsland := by
  rintro c s t x (hx | hx) h
  · exact exec_within hx h (by simp)
  · exact exec_within hx h (by simp)

/-- Settles O59, as O57 with the scopes of the safety functions and CAN and of control, dispatch, heat and the recorder. -/
theorem frameSafetyAndControl : Obligations.FrameSafetyAndControl := by
  rintro c s t x (hx | hx) h
  · exact exec_within hx h (by simp)
  · exact exec_within hx h (by simp)

/-- Settles O60, as O57 with the scopes of services, configuration and update and of the lanes and power. -/
theorem frameServiceAndSystem : Obligations.FrameServiceAndSystem := by
  rintro c s t x (hx | hx) h
  · exact exec_within hx h (by simp)
  · exact exec_within hx h (by simp)

end Sys2Proof.Machine
end

section
/-! Reset: the state after reset (R18). -/
namespace Sys2Proof.Machine

open Sys2Proof

/-- Settles O3: the listed reset values rise by address, and the arrays are built at their sizes. -/
theorem resetHasTheForm : Obligations.ResetHasTheForm where
  objs := by decide
  cst := rfl
  assembling := rfl
  latest := rfl
  previous := rfl
  cfg := ⟨rfl, rfl⟩
  ports := rfl
  swp := List.length_replicate ..
  afe := rfl
  prt := ⟨rfl, rfl⟩
  cte := ⟨rfl, rfl⟩
  saf := ⟨rfl, rfl, rfl, rfl, rfl⟩
  can := rfl
  tim := rfl
  eth := rfl
  seq := rfl
  frames := Frames.sized_reset

/-- Settles O4: each value is read from the list of reset values. -/
theorem resetValues : Obligations.ResetValues := by
  refine ⟨?_, ?_, rfl, rfl, rfl, rfl, rfl⟩
  · decide
  · decide

end Sys2Proof.Machine
end

section
/-! Accesses: single accesses (R16, R17, R97, R98, R356). -/
namespace Sys2Proof.Machine

open Sys2Proof

/-! Writes from outside the queue of the object access service (R16, R52, R345). -/

theorem exec_rwsWrite (a : BitVec 32) (v : Word) (w : Writer) (s : State) :
    exec (.rwsWrite a v w) s = s.writeFrom a.toNat w (fun s => if rwsMask a.toNat != 0 && !s.dormantAt a.toNat then s.stage a.toNat v else s) := rfl

theorem exec_registerWrite (a : BitVec 32) (v : Word) (w : Writer) (x : WriteAid) (tc : Tc) (s : State) :
    exec (.registerWrite a v w x tc) s = s.writeFrom a.toNat w (fun s => s.objWrite a.toNat v w none x tc) := rfl

section writeFrom

variable {s : State} {a : Nat} {o : Origin} {go : State → State}

theorem State.writeFrom_unmapped (hm : mapped a = false) : s.writeFrom a (.lane o) go = .fault .unmappedAddress := by
  simp [State.writeFrom, hm]

theorem State.writeFrom_refused {p : Path} (h : s.serviceUp = false ∨ s.accessStatus p s.upd.session.isSome true a ≠ stOk) :
    s.writeFrom a (.path p) go = .next s := by
  have : (s.serviceUp && s.accessStatus p s.upd.session.isSome true a == stOk) = false := by
    rcases h with h | h <;> simp [h]
  simp [State.writeFrom, this]

theorem State.writeFrom_stale (hm : mapped a = true) (hr : rwsMask a ≠ 0) (hd : s.dormantAt a = false) (he : s.currentEpoch o = false) :
    s.writeFrom a (.lane o) go = .next (s.staleTransfer 3) := by
  simp [State.writeFrom, hm, hr, hd, he]

theorem State.writeFrom_staged (hm : mapped a = true) (hr : rwsMask a ≠ 0) (hd : s.dormantAt a = false) (he : s.currentEpoch o = true)
    (hl : s.holdsLid o.lane = true) (ho : s.stagingOpen = true) : s.writeFrom a (.lane o) go = .next (go s) := by
  simp [State.writeFrom, hm, hr, hd, he, hl, ho]

theorem State.writeFrom_register (hm : mapped a = true) (hr : rwsMask a = 0) (hl : s.laneMay o a = true) :
    s.writeFrom a (.lane o) go = .next (go s) := by
  simp [State.writeFrom, hm, hr, hl]

end writeFrom

/-! The staging and a stale transfer (R98, R356). -/

theorem State.stage_room {s : State} (a : Nat) (v : Word) (h : s.cfg.staging.length < 1024) : s.stage a v = s.setStaging (stageInsert a v s.cfg.staging) := by
  simp [State.stage, h]

theorem State.stage_full {s : State} {a : Nat} (v : Word) (h : 1024 ≤ s.cfg.staging.length) (new : ∀ e ∈ s.cfg.staging, e.1 ≠ a) :
    s.stage a v = s.put F.CFG_LS_STAT_OVF 1 := by
  have : s.cfg.staging.any (fun e => e.1 == a) = false := by simpa using fun b w hw => new (b, w) hw
  simp [State.stage, this, Nat.not_lt.mpr h]

theorem execRwsWrite_lane {s : State} {a : BitVec 32} {o : Origin} (v : Word) (hm : mapped a.toNat = true) (hr : rwsMask a.toNat ≠ 0)
    (hd : s.dormantAt a.toNat = false) (he : s.currentEpoch o = true) (hl : s.holdsLid o.lane = true) (ho : s.stagingOpen = true) :
    exec (.rwsWrite a v (.lane o)) s = .next (s.stage a.toNat v) := by
  rw [exec_rwsWrite, State.writeFrom_staged hm hr hd he hl ho]
  simp [hr, hd]

theorem State.staleTransfer_sink (s : State) {k : Nat} (hk : k < 256) : (s.staleTransfer k).fld F.LAN_STALE_CNT_SINK = k := by
  unfold State.staleTransfer
  rw [State.fld_event_addr _ (by decide) (by decide), State.fld_put_same _ _ _ (by decide)]
  exact Nat.mod_eq_of_lt hk

theorem State.staleTransfer_raised (s : State) (k : Nat) : Raised Ev.LAN_STALE s (s.staleTransfer k) := by
  have other : ((s.bump F.LAN_STALE_CNT_CNT).put F.LAN_STALE_CNT_SINK k).fld Ev.LAN_STALE.cnt = s.fld Ev.LAN_STALE.cnt := by
    rw [State.fld_put_addr _ _ (by decide), State.bump_eq, State.fld_put_addr _ _ (by decide)]
  refine ⟨?_, ?_⟩
  · unfold State.staleTransfer
    rw [State.event_eq, State.fld_put_addr _ _ (by decide), State.fld_put_same _ _ _ (by decide)]
    rfl
  · unfold State.staleTransfer
    rw [State.fld_event_cnt _ _ (by decide) (by decide), other]

/-! A read of a _LO half latches the _HI half (R125). -/

theorem State.objRead_pairLo {s : State} (snap : Snapshot) (tc : Tc) {a : Nat} (h : isPairLo a = true) :
    (s.objRead snap tc a).2 = s.peek snap tc a ∧ (s.objRead snap tc a).1.obj.holding.get (a + 4) = s.peek snap tc (a + 4) ∧
      (s.objRead snap tc a).1.sent = s.sent ∧ (s.objRead snap tc a).1.objs = s.objs := by
  unfold State.objRead
  rw [if_pos h]
  refine ⟨rfl, ?_, rfl, rfl⟩
  dsimp only
  split
  · next e =>
    have : a + 4 ≠ ntFrac := by rw [beq_iff_eq.mp e]; decide
    rw [Cells.get_set_other _ _ this, Cells.get_set_same]
  · exact Cells.get_set_same ..

/-! An object without an action of its own (R17). -/

theorem State.plainWrite_row {s : State} {a : Nat} {r : ObjRow} (v sets : Word) (hr : objRowAt a = some r) :
    s.plainWrite a v sets = s.wr a (clearW1c ((s.rd a &&& ~~~(BitVec.ofNat 32 (r.maskOf .rw))) ||| (v &&& BitVec.ofNat 32 (r.maskOf .rw)))
      (v &&& ~~~sets) (r.maskOf .w1c)) := by
  simp only [State.plainWrite, hr]

/-- SEQ_CTRL has an action of its own, so an object that has none is another one (R369). -/
theorem State.ne_seqCtrl_of_writeLanes {s : State} {a : Nat} {v : Word} {lane : Bool} {o : Origin} {x : WriteAid} {tc : Tc}
    (h : s.writeLanes a v lane o x tc = none) : F.SEQ_CTRL_EN.addr ≠ a := by
  rintro rfl
  exact absurd h (by simp [State.writeLanes, F.SEQ_CTRL_EN])

/-- A lane's write of an object without an action of its own is a plain write (R16, R17). -/
theorem execRegisterWrite_plain {s : State} {a : BitVec 32} {v : Word} {o : Origin} {x : WriteAid} {tc : Tc} {r : ObjRow} (hm : mapped a.toNat = true)
    (may : s.laneMay o a.toNat = true) (hd : s.dormantAt a.toNat = false) (hr : rwsMask a.toNat = 0) (declared : s.declaredObj a.toNat = true)
    (row : objRowAt a.toNat = some r) (data : s.writeData a.toNat v tc = none) (control : s.writeControl a.toNat v o tc = none)
    (lanes : s.writeLanes a.toNat v true o x tc = none) (time : s.writeTime a.toNat v x tc = none) (system : s.writeSystem a.toNat v none x tc = none) :
    exec (.registerWrite a v (.lane o) x tc) s = .next (s.wr a.toNat (clearW1c
      ((s.rd a.toNat &&& ~~~(BitVec.ofNat 32 (r.maskOf .rw))) ||| (v &&& BitVec.ofNat 32 (r.maskOf .rw))) (v &&& ~~~(setsAt x a.toNat)) (r.maskOf .w1c))) := by
  rw [exec_registerWrite, State.writeFrom_register hm hr may]
  have plain : s.objWrite0 a.toNat v (.lane o) none x tc = s.plainWrite a.toNat v (setsAt x a.toNat) := by
    simp [State.objWrite0, State.writerOrigin, hd, hr, declared, data, control, lanes, time, system]
  have enabled (w : Word) : (s.wr a.toNat w).flag F.SEQ_CTRL_EN = s.flag F.SEQ_CTRL_EN := State.flag_wr_addr s w (State.ne_seqCtrl_of_writeLanes lanes)
  simp [State.objWrite, plain, State.plainWrite_row v _ row, enabled]

/-! SAF_EVT (R63), whose seven flags are W1C. -/

theorem safEvt_row : ∃ r, objRowAt 0xc0030 = some r ∧ r.maskOf .rw = 0 ∧ r.maskOf .w1c = 0x7F := ⟨_, rfl, rfl, rfl⟩

theorem execRegisterWrite_safEvt {s : State} {v : Word} {o : Origin} {x : WriteAid} {tc : Tc} (hl : s.holdsLid o.lane = true) (he : s.currentEpoch o = true)
    (hd : s.dormantAt 0xc0030 = false) (declared : s.declaredObj 0xc0030 = true) :
    exec (.registerWrite 0xc0030 v (.lane o) x tc) s = .next (s.wr 0xc0030 (s.rd 0xc0030 &&& ~~~(v &&& ~~~(setsAt x 0xc0030) &&& 0x7F))) := by
  obtain ⟨r, row, rw0, w1c⟩ := safEvt_row
  have may : s.laneMay o 0xc0030 = true := by simp [State.laneMay, hl, he, serviceOnly, inArray]
  refine (execRegisterWrite_plain (a := 0xc0030) (by decide) may hd (by decide) declared row rfl rfl rfl rfl rfl).trans ?_
  have kept (w : Word) : w &&& ~~~(0#32) ||| v &&& 0#32 = w := by rw [BitVec.not_zero, BitVec.and_allOnes, BitVec.and_zero, BitVec.or_zero]
  simp only [rw0, w1c, kept, clearW1c]
  rfl

/-- Settles O50: each clause is the rule above for its access. -/
theorem singleAccesses : Obligations.SingleAccesses := by
  refine ⟨?unmapped, ?pairLo, ?staged, ?full, ?stale, ?refused, ?flags, ?plain⟩
  case unmapped =>
    intro s a v o x tc hm
    rw [exec_rwsWrite, exec_registerWrite]
    exact ⟨if_pos (by simp [hm]), State.writeFrom_unmapped hm, State.writeFrom_unmapped hm⟩
  case pairLo =>
    intro s a tc hm lo
    obtain ⟨value, latched, sent, objs⟩ := State.objRead_pairLo (s := s) s.latest tc lo
    refine ⟨_, if_neg (by simp [hm]), ?_, latched, objs⟩
    rw [State.emit, sent, value]
  case staged =>
    intro s a v o hm hr hd he hl ho room
    rw [execRwsWrite_lane v hm hr hd he hl ho, State.stage_room _ _ room]
    rfl
  case full =>
    intro s a v o hm hr hd he hl ho full new
    rw [execRwsWrite_lane v hm hr hd he hl ho, State.stage_full v full new]
  case stale =>
    intro s a v o hm hr hd he
    rw [exec_rwsWrite]
    exact ⟨_, State.writeFrom_stale hm hr hd he, rfl, s.staleTransfer_raised 3, s.staleTransfer_sink (by decide)⟩
  case refused =>
    intro s a v p x tc h
    rw [exec_rwsWrite, exec_registerWrite]
    exact ⟨State.writeFrom_refused h, State.writeFrom_refused h⟩
  case flags =>
    intro s v o x tc hl he hd declared
    exact execRegisterWrite_safEvt hl he hd declared
  case plain =>
    intro s a v o x tc r hm may hd hr declared row data control lanes time system
    exact execRegisterWrite_plain hm may hd hr declared row data control lanes time system

end Sys2Proof.Machine
end

section
/-! Steps: a step takes the front command (R38); what a command leaves of an object, what an event changes, and series of operations (R15, R62). -/
namespace Sys2Proof.Machine

open Sys2Proof

-- Default arguments by tactic wait for the declarations before: begun all at once the proofs below would each hold a thread and its stack.
set_option Elab.async false

/-- Settles O1: the front command runs with itself taken out of the queue. -/
theorem stepRunsTheFrontCommand : Obligations.StepRunsTheFrontCommand := by
  intro s c rest front
  simp only [step, front]

/-- Settles O2: an empty queue has nothing to run. -/
theorem anEmptyQueueIdles : Obligations.AnEmptyQueueIdles := by
  intro s empty
  simp only [step, empty]

/-! What an operation leaves of an object, from the parts and blocks it may change. -/

theorem Moved.rd {m : Nat} {r s : State} (h : Moved m r s) {a : Nat} (b : Nat) (ha : a / 0x10000 = b)
    (hb : (decide (b < 22) && !m.testBit (b + 32)) = true := by rfl) : s.rd a = r.rd a := by
  subst ha
  simp only [Bool.and_eq_true, decide_eq_true_eq, Bool.not_eq_true'] at hb
  exact h.blocks a (by omega) hb.2

theorem Moved.fld {m : Nat} {r s : State} (h : Moved m r s) {g : Field} (b : Nat) (ha : g.addr / 0x10000 = b := by rfl)
    (hb : (decide (b < 22) && !m.testBit (b + 32)) = true := by rfl) : s.fld g = r.fld g := State.fld_of_rd (h.rd b ha hb)

theorem Moved.flag {m : Nat} {r s : State} (h : Moved m r s) {g : Field} (b : Nat) (ha : g.addr / 0x10000 = b := by rfl)
    (hb : (decide (b < 22) && !m.testBit (b + 32)) = true := by rfl) : s.flag g = r.flag g := State.flag_of_rd (h.rd b ha hb)

/-- The placement epoch stands in block 1. -/
theorem Moved.placement {m : Nat} {r s : State} (h : Moved m r s) (hb : (decide (1 < 22) && !m.testBit (1 + 32)) = true := by rfl) :
    s.placement = r.placement := h.rd 1 rfl hb

/-! An event raises its flag and counts (R62). -/

/-- Flag and counter are fields of two objects. -/
def EventFlag.apart (e : EventFlag) : Bool :=
  decide (0 < e.flag.w) && decide (e.flag.lo + e.flag.w ≤ 32) && decide (e.cnt.lo + e.cnt.w ≤ 32) && e.cnt.addr != e.flag.addr

theorem State.event_raised (s : State) (e : EventFlag) (h : e.apart = true) : Raised e s (s.event e) := by
  simp only [EventFlag.apart, Bool.and_eq_true, decide_eq_true_eq, bne_iff_ne] at h
  obtain ⟨⟨⟨pos, flag⟩, cnt⟩, ne⟩ := h
  refine ⟨?_, State.fld_event_cnt s e cnt (.inl ne)⟩
  rw [State.event_eq, State.fld_put_addr _ _ ne.symm, State.fld_put_same _ _ _ flag, Nat.mod_eq_of_lt (Nat.one_lt_two_pow pos.ne')]

theorem State.flag_putFlag_same (s : State) (f : Field) (b : Bool) (h : f.lo + f.w ≤ 32) (pos : 0 < f.w) : (s.putFlag f b).flag f = b := by
  rw [State.putFlag_eq, State.flag_put_same _ _ _ h]
  cases b
  · simp
  · simp [Nat.mod_eq_of_lt (Nat.one_lt_two_pow pos.ne')]

/-! Repeated operations. -/

theorem forUpTo_succ (n : Nat) (f : Nat → State → State) (s : State) : forUpTo (n + 1) f s = f n (forUpTo n f s) := by
  simp [forUpTo, List.range_succ]

/-- What holds before and is kept by every operation of a series holds after it. -/
theorem forUpTo_keeps {n : Nat} {f : Nat → State → State} {s : State} {P : State → Prop} (h : P s) (keep : ∀ i t, P t → P (f i t)) :
    P (forUpTo n f s) := by
  induction n with
  | zero => exact h
  | succ n ih => exact forUpTo_succ n f s ▸ keep n _ ih

end Sys2Proof.Machine
end

section
/-! Trimmers: the Stockpot's commits, the trimmer commands, direct coefficients (R292, R298, R299, R349 to R351). -/
namespace Sys2Proof.Machine

open Sys2Proof

-- Default arguments by tactic wait for the declarations before: begun all at once the proofs below would each hold a thread and its stack.
set_option Elab.async false

/-! The Stockpot (R349 to R351). -/

theorem get_storeBytes_below (c : Cells 8) {a k : Nat} (l : List Byte) (h : k < a) : (storeBytes c a l).get k = c.get k := by
  induction l generalizing c a with
  | nil => rfl
  | cons b l ih => rw [storeBytes, ih _ (Nat.lt_succ_of_lt h), Cells.get_set_other _ _ h.ne]

/-- A byte that was stored reads back. -/
theorem get_storeBytes (c : Cells 8) (a : Nat) (l : List Byte) {i : Nat} (h : i < l.length) : (storeBytes c a l).get (a + i) = l.getD i 0 := by
  induction l generalizing c a i with
  | nil => exact absurd h (Nat.not_lt_zero i)
  | cons b l ih =>
    cases i with
    | zero => rw [Nat.add_zero, storeBytes, get_storeBytes_below _ _ (Nat.lt_add_one a), Cells.get_set_same, List.getD_cons_zero]
    | succ i => rw [storeBytes, show a + (i + 1) = a + 1 + i by omega, ih _ _ (Nat.lt_of_succ_lt_succ h), List.getD_cons_succ]

theorem exec_stockpotCommit (tc : Tc) (s : State) : exec (.stockpotCommit tc) s = .next (s.potCommit tc) := rfl

theorem State.imageCopy_of_mem {s t : State} (h : t.pot.mem = s.pot.mem) (i : Nat) : t.imageCopy i = s.imageCopy i := by
  rw [State.imageCopy, State.imageCopy, h]

theorem State.showImages_eq (s : State) : s.showImages =
    (s.putFlag F.LAN_SP_STAT_IMG0 (imageUsable (s.imageCopy 0) s.placement)).putFlag F.LAN_SP_STAT_IMG1 (imageUsable (s.imageCopy 1) s.placement) := by
  have image (b : Bool) : (s.putFlag F.LAN_SP_STAT_IMG0 b).imageCopy 1 = s.imageCopy 1 := State.imageCopy_of_mem rfl 1
  have placement (b : Bool) : (s.putFlag F.LAN_SP_STAT_IMG0 b).placement = s.placement := State.rd_putFlag_other _ _ (by decide)
  rw [State.showImages, image, placement]

theorem State.showImages_flags (s : State) : s.showImages.flag F.LAN_SP_STAT_IMG0 = imageUsable (s.imageCopy 0) s.placement ∧
    s.showImages.flag F.LAN_SP_STAT_IMG1 = imageUsable (s.imageCopy 1) s.placement := by
  rw [State.showImages_eq]
  refine ⟨?_, State.flag_putFlag_same _ _ _ (by decide) (by decide)⟩
  rw [State.putFlag_eq _ F.LAN_SP_STAT_IMG1, State.flag_put_bits _ _ (by decide), State.flag_putFlag_same _ _ _ (by decide) (by decide)]

/-- F0, F1 and LAST are the bits from 6 of their object. -/
theorem State.showFrames_flag (s : State) {g : Field} (h : g.lo + g.w ≤ 6) : s.showFrames.flag g = s.flag g := by
  have shown (b c : Bool) (x : Nat) : (((s.putFlag F.LAN_SP_STAT_F0 b).putFlag F.LAN_SP_STAT_F1 c).put F.LAN_SP_STAT_LAST x).flag g = s.flag g := by
    rw [State.flag_put_bits _ _ (.inl (h.trans (by decide))), State.putFlag_eq, State.flag_put_bits _ _ (.inl (h.trans (by decide))), State.putFlag_eq,
      State.flag_put_bits _ _ (.inl (h.trans (by decide)))]
  unfold State.showFrames
  dsimp only
  split <;> exact shown ..

/-- The entries that are 2.56 µs old are stored, the others stay (R350). -/
theorem State.potCommit_pot (s : State) (tc : Tc) : (s.potCommit tc).pot =
    { mem := (s.pot.buffer.filter fun w => decide (640 ≤ (tc - w.tc).toNat)).foldl (fun c w => storeBytes c w.addr w.bytes) s.pot.mem
      buffer := s.pot.buffer.filter fun w => !decide (640 ≤ (tc - w.tc).toNat) } := by
  rw [State.potCommit]
  exact ((State.showFrames_moved _).same 14 rfl).trans ((State.showImages_moved _).same 14 rfl)

theorem State.potCommit_images (s : State) (tc : Tc) :
    (s.potCommit tc).flag F.LAN_SP_STAT_IMG0 = imageUsable ((s.potCommit tc).imageCopy 0) s.placement ∧
      (s.potCommit tc).flag F.LAN_SP_STAT_IMG1 = imageUsable ((s.potCommit tc).imageCopy 1) s.placement := by
  rw [State.imageCopy, State.imageCopy, State.potCommit_pot]
  rw [State.potCommit, State.showFrames_flag _ (by decide), State.showFrames_flag _ (by decide)]
  exact State.showImages_flags _

/-! Trimmers (R298, R299). -/

theorem State.trim_setTrim_same {s : State} (sized : s.cte.Sized) (n : Fin 8) (x : Trim) : (s.setTrim n x).trim n = x :=
  getD_setAt_same _ _ _ _ (by rw [sized.2]; exact n.isLt)

@[simp] theorem State.trim_put (s : State) (f : Field) (x n : Nat) : (s.put f x).trim n = s.trim n := rfl

@[simp] theorem State.trim_putFlag (s : State) (f : Field) (b : Bool) (n : Nat) : (s.putFlag f b).trim n = s.trim n := rfl

theorem State.trimState_put_same (s : State) (n : Nat) {x : Nat} (h : x < 4) : (s.put (F.CTE_TRIM_STAT_STATE n) x).trimState n = x := by
  rw [State.trimState, State.fld_put_same _ _ _ (by simp [F.CTE_TRIM_STAT_STATE])]
  exact Nat.mod_eq_of_lt h

@[simp] theorem State.trimState_setTrim (s : State) (n m : Nat) (x : Trim) : (s.setTrim n x).trimState m = s.trimState m := rfl

theorem State.trimState_putFlag_tripIn (s : State) (n : Nat) (b : Bool) : (s.putFlag (F.CTE_TRIM_STAT_TRIP_IN n) b).trimState n = s.trimState n :=
  State.fld_put_bits _ _ (.inl (by simp [F.CTE_TRIM_STAT_STATE, F.CTE_TRIM_STAT_TRIP_IN]))

/-- The trip input is formed of objects of the island (R298). -/
theorem Moved.tripInput {m : Nat} {r s : State} (h : Moved m r s) (n : Nat) (h7 : (decide (7 < 22) && !m.testBit (7 + 32)) = true := by rfl)
    (h8 : (decide (8 < 22) && !m.testBit (8 + 32)) = true := by rfl) : s.tripInput n = r.tripInput n := by
  have bit (i : Nat) : s.bit F.PRT_TWILL_OUT_Y i = r.bit F.PRT_TWILL_OUT_Y i :=
    congrArg (· == 1) (h.fld (g := ⟨F.PRT_TWILL_OUT_Y.addr, F.PRT_TWILL_OUT_Y.lo + i, 1⟩) 7 (show F.PRT_TWILL_OUT_Y.addr / 0x10000 = 7 by decide) h7)
  rw [State.tripInput, State.tripInput, bit, bit, h.fld 8 (by simp only [F.BRK_S_STAT_STATE]; omega) h8, h.flag 7 (by decide) h7, h.flag 7 (by decide) h7]

/-- The trip input of a trimmer that neither runs nor drives its legs is only shown (R298). -/
theorem State.trimTrip_atRest {s : State} {n : Nat} (h : s.trimState n ≠ trimRun) (g : (s.trim n).gate ≠ .pwm) :
    s.trimTrip n = s.putFlag (F.CTE_TRIM_STAT_TRIP_IN n) (s.tripInput n) := by
  simp [State.trimTrip, State.trimState_putFlag_tripIn, h, g]

theorem exec_trimEnable (n : Fin 8) (o : Origin) (s : State) : exec (.trimEnable n o) s = .next (s.trimCommand n o (·.trimEnable n)) := rfl

theorem exec_trimRun (n : Fin 8) (o : Origin) (tc : Tc) (s : State) : exec (.trimRun n o tc) s = .next (s.trimCommand n o (·.trimRunCmd n tc)) := rfl

theorem exec_trimStop (n : Fin 8) (o : Origin) (s : State) : exec (.trimStop n o) s = .next (s.trimCommand n o (·.trimStop n)) := rfl

theorem exec_trimDisable (n : Fin 8) (o : Origin) (s : State) : exec (.trimDisable n o) s = .next (s.trimCommand n o (·.trimDisable n)) := rfl

theorem State.trimCommand_present {s : State} {n : Nat} {o : Origin} (act : State → State) (live : s.cteDormant = false) (lid : s.portRefusal o = none)
    (present : s.flag (F.CTE_TRIM_STAT_PRESENT n) = true) : s.trimCommand n o act = act s := by
  simp [State.trimCommand, live, lid, present]

theorem State.trimCommand_absent {s : State} {n : Nat} {o : Origin} (act : State → State) (live : s.cteDormant = false) (lid : s.portRefusal o = none)
    (absent : s.flag (F.CTE_TRIM_STAT_PRESENT n) = false) : s.trimCommand n o act = s.refuseTrim n trNotPresent := by
  simp [State.trimCommand, live, lid, absent]

/-- Without the Lid, and not within a control step, a command of the present placement epoch is refused with 1 (R257, R299). -/
theorem State.trimCommand_noLid {s : State} {n : Nat} {o : Origin} (act : State → State) (live : s.cteDormant = false) (lid : s.holdsLid o.lane = false)
    (epoch : s.currentEpoch o = true) (still : s.lan.control = none) : s.trimCommand n o act = s.refuseTrim n 1 := by
  simp [State.trimCommand, State.portRefusal, State.noteStale, live, lid, epoch, still]

theorem State.trim_zeroNow_gate {s : State} (sized : s.cte.Sized) (n : Fin 8) : ((s.zeroNow n).trim n).gate = .zero := by
  rw [State.zeroNow, State.trim_setTrim_same sized]

/-- A trimmer in OFF is enabled: BYPASS, the zero-voltage state at once, its trip input shown (R299). -/
theorem State.trimEnable_off {s : State} {n : Fin 8} (sized : s.cte.Sized) (off : s.trimState n = trimOff) :
    s.trimEnable n = ((s.put (F.CTE_TRIM_STAT_STATE n) trimBypass).zeroNow n).putFlag (F.CTE_TRIM_STAT_TRIP_IN n) (s.tripInput n) := by
  have moved : Moved 0x20000002001 s ((s.put (F.CTE_TRIM_STAT_STATE n) trimBypass).zeroNow n) :=
    (State.put_moved (.refl ..) _ _ (inBlock_of 9 (by simp only [F.CTE_TRIM_STAT_STATE]; omega) rfl)).andThen (State.zeroNow_moved ..)
  have state : ((s.put (F.CTE_TRIM_STAT_STATE n) trimBypass).zeroNow n).trimState n = trimBypass := State.trimState_put_same s n (by decide)
  have gate := State.trim_zeroNow_gate (s := s.put (F.CTE_TRIM_STAT_STATE n) trimBypass) sized n
  rw [State.trimEnable, if_neg (by simp [off]), State.trimTrip_atRest (by rw [state]; decide) (by rw [gate]; decide), moved.tripInput]

theorem State.trimRunCmd_ready {s : State} {n : Fin 8} {tc : Tc} (bypass : s.trimState n = trimBypass) (trip : s.tripInput n = false)
    (stream : s.streamValid n tc = true) (status : s.fld (F.CTE_TRIM_STAT_STATUS n) % 4 = 1) :
    s.trimRunCmd n tc = (s.put (F.CTE_TRIM_STAT_STATE n) trimRun).setTrim n { s.trim n with shadow := some (s.compares n 0), gateNext := some .pwm } := by
  have powered : (s.fld (F.CTE_TRIM_STAT_STATUS n)).testBit 0 = true := by rw [Nat.testBit_zero, decide_eq_true_eq]; omega
  have sound : (s.fld (F.CTE_TRIM_STAT_STATUS n)).testBit 1 = false := by rw [Nat.testBit_succ, Nat.testBit_zero, decide_eq_false_iff_not]; omega
  simp [State.trimRunCmd, bypass, trip, stream, powered, sound]

theorem State.trimRunCmd_trip {s : State} {n : Fin 8} {tc : Tc} (bypass : s.trimState n = trimBypass) (trip : s.tripInput n = true) :
    s.trimRunCmd n tc = s.refuseTrim n trTrip := by
  simp [State.trimRunCmd, bypass, trip]

theorem State.trimRunCmd_wrongState {s : State} {n : Fin 8} {tc : Tc} (h : s.trimState n ≠ trimBypass) :
    s.trimRunCmd n tc = s.refuseTrim n trWrongState := by
  simp [State.trimRunCmd, h]

theorem State.trimDisable_wrongState {s : State} {n : Fin 8} (h : s.trimState n ≠ trimBypass) : s.trimDisable n = s.refuseTrim n trWrongState := by
  simp [State.trimDisable, h]

theorem State.trimDisable_open {s : State} {n : Fin 8} (bypass : s.trimState n = trimBypass)
    (string : s.strState n = ssOpen ∨ s.strState n = ssTripped ∨ s.strState n = ssLockout) :
    s.trimDisable n = (s.put (F.CTE_TRIM_STAT_STATE n) trimOff).setTrim n { s.trim n with gate := .off, gateNext := none } := by
  rcases string with h | h | h <;> simp [State.trimDisable, bypass, h]

theorem State.trimStop_running {s : State} {n : Fin 8} (sized : s.cte.Sized) (run : s.trimState n = trimRun) :
    (s.trimStop n).trimState n = trimBypass ∧ ((s.trimStop n).trim n).gateNext = some .zero ∧ (s.trimStop n).fld (F.CTE_TRIM_M_M n) = 0 := by
  have stopped : s.trimStop n = (s.toBypass n).setTrim n { (s.toBypass n).trim n with gateNext := some .zero } := by
    rw [State.trimStop, if_neg (by simp [run])]
  have sized' : (s.toBypass n).cte.Sized := ⟨sized.1, (length_setAt ..).trans sized.2⟩
  rw [stopped, State.trim_setTrim_same sized']
  refine ⟨?_, rfl, ?_⟩
  · rw [State.trimState_setTrim, State.toBypass, State.trimState, State.fld_put_addr _ _ (by simp [F.CTE_TRIM_STAT_STATE, F.CTE_TRIM_M_M])]
    exact State.trimState_put_same _ n (by decide)
  · rw [State.setTrim_fld, State.toBypass, State.fld_put_same _ _ _ (by simp [F.CTE_TRIM_M_M]), Nat.zero_mod]

/-! Direct coefficients (R25, R292). -/

theorem exec_directCoeffWrite (l : Fin 32) (c : Coeff) (v : Word) (o : Origin) (s : State) :
    exec (.directCoeffWrite l c v o) s = .next (s.directWrite l (coeffIndex c) v o) := rfl

theorem State.directWrite_allowed {s : State} {n i : Nat} {v : Word} {o : Origin} (live : s.cteDormant = false) (lid : s.portRefusal o = none)
    (en : s.flag (F.CTE_L_CFG_DWR_EN n) = true) (valid : s.flag (F.CTE_L_CFG_FMT n) = false ∨ mantissaOk v = true) :
    s.directWrite n i v o = s.wr (coeffAddr n i) v := by
  rcases valid with h | h <;> simp [State.directWrite, live, lid, en, h]

theorem State.directWrite_refused {s : State} {n i : Nat} {v : Word} {o : Origin} (live : s.cteDormant = false) (lid : s.portRefusal o = none)
    (en : s.flag (F.CTE_L_CFG_DWR_EN n) = false) : s.directWrite n i v o = s.event Ev.CTE_DWR_REJ := by
  simp [State.directWrite, live, lid, en]

theorem coeffAddr_ge (n i : Nat) : 0x91020 ≤ coeffAddr n i := by
  unfold coeffAddr
  omega

/-- Settles O42: each command is its rule above, behind the Lid gate; the Stockpot's clause reads what a commit stores and shows. -/
theorem trimmerCommands : Obligations.TrimmerCommands := by
  refine ⟨?enable, ?run, ?trip, ?stop, ?disable, ?wrongState, ?notPresent, ?noLid, ?allowed, ?refused, ?stockpot⟩
  case enable =>
    intro s n o sized live lid off present
    rw [exec_trimEnable, State.trimCommand_present _ live lid present, State.trimEnable_off sized off]
    refine ⟨_, rfl, ?_, ?_, ?_⟩
    · rw [State.trimState_putFlag_tripIn, State.zeroNow, State.trimState_setTrim, State.trimState_put_same s n (by decide)]
    · rw [State.trim_putFlag]
      exact State.trim_zeroNow_gate (s := s.put _ _) sized n
    · exact State.flag_putFlag_same _ _ _ (by simp [F.CTE_TRIM_STAT_TRIP_IN]) (by simp [F.CTE_TRIM_STAT_TRIP_IN])
  case run =>
    intro s n o tc sized live lid present bypass trip stream status
    rw [exec_trimRun, State.trimCommand_present _ live lid present, State.trimRunCmd_ready bypass trip stream status]
    refine ⟨_, rfl, State.trimState_put_same s n (by decide), ?_⟩
    rw [State.trim_setTrim_same (s := s.put _ _) sized]
    exact ⟨rfl, rfl⟩
  case trip =>
    intro s n o tc live lid present bypass trip
    rw [exec_trimRun, State.trimCommand_present _ live lid present, State.trimRunCmd_trip bypass trip, State.refuseTrim]
  case stop =>
    intro s n o sized live lid present run
    rw [exec_trimStop, State.trimCommand_present _ live lid present]
    exact ⟨_, rfl, State.trimStop_running sized run⟩
  case disable =>
    intro s n o sized live lid present bypass string
    rw [exec_trimDisable, State.trimCommand_present _ live lid present, State.trimDisable_open bypass string]
    refine ⟨_, rfl, State.trimState_put_same s n (by decide), ?_⟩
    rw [State.trim_setTrim_same (s := s.put _ _) sized]
  case wrongState =>
    intro s n o tc live lid present state
    rw [exec_trimRun, exec_trimDisable, State.trimCommand_present _ live lid present, State.trimCommand_present _ live lid present,
      State.trimRunCmd_wrongState state, State.trimDisable_wrongState state, State.refuseTrim]
    exact ⟨rfl, rfl⟩
  case notPresent =>
    intro s n o tc live lid absent
    have refused (act : State → State) := State.trimCommand_absent act live lid absent
    rw [exec_trimEnable, exec_trimRun, exec_trimStop, exec_trimDisable, refused, refused, refused, refused, State.refuseTrim]
    exact ⟨rfl, rfl, rfl, rfl⟩
  case noLid =>
    intro s n o tc live lid epoch still
    have refused (act : State → State) := State.trimCommand_noLid (n := n) act live lid epoch still
    rw [exec_trimEnable, exec_trimRun, exec_trimStop, exec_trimDisable, refused, refused, refused, refused, State.refuseTrim]
    exact ⟨rfl, rfl, rfl, rfl⟩
  case allowed =>
    intro s l c v o live lid en valid
    rw [exec_directCoeffWrite, State.directWrite_allowed live lid en valid]
  case refused =>
    intro s l c v o live lid en
    have ge := coeffAddr_ge l (coeffIndex c)
    rw [exec_directCoeffWrite, State.directWrite_refused live lid en]
    refine ⟨_, rfl, State.event_raised _ _ (by decide), State.rd_event_other _ ?_ ?_⟩
    · simp only [Ev.CTE_DWR_REJ, F.CTE_EVT_DWR_REJ]
      omega
    · simp only [Ev.CTE_DWR_REJ, F.CTE_EVT_CNT2_DWR_REJ]
      omega
  case stockpot =>
    intro s tc
    obtain ⟨img0, img1⟩ := s.potCommit_images tc
    rw [exec_stockpotCommit]
    refine ⟨_, rfl, ?_, img0, img1, ?_⟩
    · rw [State.potCommit_pot]
      simp only [← decide_not, Nat.not_le]
    · intro w only old i hi
      rw [State.potCommit_pot]
      rw [only, List.filter_cons_of_pos (by simpa using old)]
      exact get_storeBytes s.pot.mem w.addr w.bytes hi

end Sys2Proof.Machine
end

section
/-! Sweeps: from the notice of an aperture to the published snapshot (R29 to R32, R120, R159 to R174). -/
namespace Sys2Proof.Machine

open Sys2Proof

-- Default arguments by tactic wait for the declarations before: begun all at once the proofs below would each hold a thread and its stack.
set_option Elab.async false

/-! The notice of an aperture (R120, R160). -/

theorem State.noticeAt_due {s : State} {k : Fin 64} {tc : Tc} {pos : Nat} (on : s.phbOn = true) (run : s.flag F.PHB_STAT_SCHED_RUN = true)
    (acc : s.phb.accTc ≤ tc) (aperture : s.fld (F.PHB_SCHED_A_ACTION k) = 4) (next : s.unnoticed k tc = some pos)
    (due : s.ticksTo pos tc = 4000 ∨ s.ticksTo pos tc < 4000 ∧ s.phb.moveTc = some tc) : s.noticeAt k tc = some pos := by
  rcases due with h | ⟨h, moved⟩
  · simp [State.noticeAt, on, run, acc, aperture, next, h]
  · simp [State.noticeAt, on, run, acc, aperture, next, h, moved]

theorem State.noticeAt_early {s : State} {k : Fin 64} {tc : Tc} {pos : Nat} (next : s.unnoticed k tc = some pos) (early : 4000 < s.ticksTo pos tc) :
    s.noticeAt k tc = none := by
  simp [State.noticeAt, next, early.ne', early.not_gt]

/-- The notice itself: the aperture is fixed, and the front end told of it where it is not dormant (R120, R422). -/
def State.withNotice (s : State) (k p lead : Nat) (tc : Tc) : State :=
  let s := s.noticed k p lead tc
  if s.blockDormant 0x12 then s else s.withAfe { s.afe with aperture := s.afe.aperture.filter (fun t => decide (tc < t)) ++ [tc + 4000] }

theorem State.withNotice_objs (s : State) (k p lead : Nat) (tc : Tc) : (s.withNotice k p lead tc).objs = s.objs := by
  unfold State.withNotice
  dsimp only
  split <;> rfl

theorem State.withNotice_noticed (s : State) (k p lead : Nat) (tc : Tc) : (tc + 4000, lead) ∈ (s.withNotice k p lead tc).phb.noticed := by
  have noted : (tc + 4000, lead) ∈ (s.noticed k p lead tc).phb.noticed := List.mem_append_right _ (List.mem_singleton.mpr rfl)
  unfold State.withNotice
  dsimp only
  split <;> exact noted

theorem State.withNotice_aperture (s : State) (k p lead : Nat) (tc : Tc) (live : s.blockDormant 0x12 = false) :
    tc + 4000 ∈ (s.withNotice k p lead tc).afe.aperture := by
  have live' : (s.noticed k p lead tc).blockDormant 0x12 = false := live
  rw [State.withNotice, if_neg (by simp [live'])]
  exact List.mem_append_right _ (List.mem_singleton.mpr rfl)

theorem State.withNotice_sweepsOn (s : State) (k p lead : Nat) (tc : Tc) : (s.withNotice k p lead tc).sweepsOn = s.sweepsOn := by
  rw [State.sweepsOn, State.sweepsOn, State.flag_objs, State.withNotice_objs, State.flag_objs]

theorem exec_apertureNotice_none {s : State} {k : Fin 64} {tc : Tc} (h : s.noticeAt k tc = none) : exec (.apertureNotice k tc) s = .next s := by
  rw [show exec (.apertureNotice k tc) s = execApertureNotice k tc s from rfl, execApertureNotice, h]

theorem exec_apertureNotice_off {s : State} {k : Fin 64} {tc : Tc} {p : Nat} (h : s.noticeAt k tc = some p) (off : s.sweepsOn = false) :
    exec (.apertureNotice k tc) s = .next (s.withNotice k p (s.fld F.SWP_LEAD_EFF_LEAD) tc) := by
  rw [show exec (.apertureNotice k tc) s = execApertureNotice k tc s from rfl, execApertureNotice, h]
  dsimp only
  rw [if_neg (Bool.eq_false_iff.mp off)]
  change (if (s.withNotice k p (s.fld F.SWP_LEAD_EFF_LEAD) tc).sweepsOn = true then _ else _) = _
  rw [State.withNotice_sweepsOn, if_neg (Bool.eq_false_iff.mp off), State.withNotice]
  rfl

theorem exec_apertureNotice_on {s : State} {k : Fin 64} {tc : Tc} {p : Nat} (h : s.noticeAt k tc = some p) (on : s.sweepsOn = true) :
    exec (.apertureNotice k tc) s =
      .next (forUpTo 8 (fun p s => s.diagAtNotice p tc) ((s.withNotice k p s.effectiveLead tc).put F.SWP_LEAD_EFF_LEAD s.effectiveLead)) := by
  rw [show exec (.apertureNotice k tc) s = execApertureNotice k tc s from rfl, execApertureNotice, h]
  dsimp only
  rw [if_pos on]
  change (if (s.withNotice k p s.effectiveLead tc).sweepsOn = true then _ else _) = _
  rw [State.withNotice_sweepsOn, if_pos on, State.withNotice]
  rfl

/-- What diagnostics begin at a notice leaves the effective lead (R160, R188). -/
theorem State.diagAtNotice_lead (s : State) (p : Nat) (tc : Tc) : (s.diagAtNotice p tc).fld F.SWP_LEAD_EFF_LEAD = s.fld F.SWP_LEAD_EFF_LEAD := by
  have started (r : State) (d : Diag) : (r.startDiag p d tc).fld F.SWP_LEAD_EFF_LEAD = r.fld F.SWP_LEAD_EFF_LEAD := by
    rw [State.fld_objs, (State.startDiag_moved r p d tc).same 0 rfl, State.fld_objs]
  unfold State.diagAtNotice
  dsimp only
  split
  · rfl
  · split
    · rfl
    · split
      · rw [started, State.setPort_fld, State.setPort_fld]
      · split
        · rw [started, State.fld_put_addr _ _ (by simp only [F.SWP_LEAD_EFF_LEAD, F.SWP_DIAG_POS_STEP]; omega),
            State.fld_put_addr _ _ (by simp only [F.SWP_LEAD_EFF_LEAD, F.SWP_DIAG_POS_MON]; omega), State.setPort_fld]
        · rfl

theorem State.effectiveLead_lt (s : State) : s.effectiveLead < 2 ^ 12 := lt_of_le_of_lt (Nat.min_le_left _ _) (by decide)

/-- A notice while sweeps are on latches the effective lead (R160). -/
theorem exec_apertureNotice_latched {s : State} {k : Fin 64} {tc : Tc} {p : Nat} (h : s.noticeAt k tc = some p) (on : s.sweepsOn = true) :
    ∃ t, exec (.apertureNotice k tc) s = .next t ∧ t.fld F.SWP_LEAD_EFF_LEAD = s.effectiveLead ∧
      Moved 0x2000000301 (s.withNotice k p s.effectiveLead tc) t := by
  refine ⟨_, exec_apertureNotice_on h on, ?_, .forUpTo (State.put_moved (.refl ..) _ _ rfl) fun _ _ _ h => h.andThen (State.diagAtNotice_moved ..)⟩
  refine forUpTo_keeps (P := fun t => t.fld F.SWP_LEAD_EFF_LEAD = s.effectiveLead) ?_ fun i t h => (t.diagAtNotice_lead i tc).trans h
  rw [State.fld_put_same _ _ _ (by decide)]
  exact Nat.mod_eq_of_lt s.effectiveLead_lt

/-! The broadcast of a sweep (R165, R166). -/

theorem exec_apertureBroadcast {s : State} {tc hold : Tc} {lead : Nat} (on : s.phbOn = true)
    (due : s.phb.noticed.find? (fun x => x.1 == tc + BitVec.ofNat 64 x.2) = some (hold, lead)) (sweeps : s.sweepsOn = true) :
    ∃ t w, exec (.apertureBroadcast tc) s = .next t ∧ t.phb.noticed = s.phb.noticed.filter (fun x => x.1 != hold) ∧ t.swp.sweep = some w ∧
      w.epoch = nextEpoch (s.rd 0x10004) ∧ w.tc = hold ∧ w.closed = false ∧ t.assembling = { Snapshot.empty with epoch := w.epoch, tc := hold } ∧
      t.fld F.SWP_STAT_BUSY = 1 := by
  rw [show exec (.apertureBroadcast tc) s = execApertureBroadcast tc s from rfl, execApertureBroadcast, due]
  dsimp only
  have sweeps' : State.sweepsOn { s with phb := { s.phb with noticed := s.phb.noticed.filter (fun x => x.1 != hold) } } = true := sweeps
  rw [if_neg (by simp [on]), if_pos sweeps']
  have sent (u : State) (epoch : Word) : Moved 0x8000100 u (forUpTo 8 (fun p s => s.broadcastPort p tc hold lead epoch) u) :=
    .forUpTo (.refl ..) fun _ _ _ h => h.andThen (State.broadcastPort_moved ..)
  refine ⟨_, _, rfl, ?_, congrArg Swp.sweep ((sent _ _).same 9 rfl), rfl, rfl, rfl, (sent _ _).same 1 rfl, ?_⟩
  · rw [(sent _ _).same 7 rfl]
    rfl
  · rw [State.fld_objs, (sent _ _).same 0 rfl, ← State.fld_objs, State.fld_put_bits _ _ (by decide), State.fld_put_same _ _ _ (by decide)]
    rfl

/-! The pause marker (R174). -/

theorem State.balPause_swp (s : State) (tc : Tc) :
    (s.balPause tc).swp = { s.swp with pauses := tc :: s.swp.pauses.filter (fun x => decide (s.latest.tc < x)) } ∧ (s.balPause tc).objs = s.objs := by
  have sent : Moved 0x8000100 { s with swp := { s.swp with pauses := tc :: s.swp.pauses.filter (fun x => decide (s.latest.tc < x)) } } (s.balPause tc) := by
    refine .forUpTo (.refl ..) fun p t _ h => .ite ?_ h
    exact .andThenIf (h.andThenIf (State.sendAperture_moved ..)) (State.sendAperture_moved ..)
  exact ⟨sent.same 9 rfl, sent.same 0 rfl⟩

/-! The deadline of a sweep (R166). -/

theorem State.mon_setMon_same {s : State} (sized : s.swp.Sized) {p m : Nat} (h : 32 * p + m < 256) (x : Mon) : (s.setMon p m x).mon p m = x :=
  getD_setAt_same _ _ _ _ (by rw [sized]; exact h)

theorem State.mon_setMon_other (s : State) {p m q k : Nat} (h : 32 * q + k ≠ 32 * p + m) (x : Mon) : (s.setMon p m x).mon q k = s.mon q k :=
  getD_setAt_other _ _ _ h

theorem State.setMon_sized {s : State} (h : s.swp.Sized) (p m : Nat) (x : Mon) : (s.setMon p m x).swp.Sized := (length_setAt ..).trans h

/-- The monitors of string p below n: each keeps whether its block was missed. Beyond place 32 of its string a monitor has the place of one of a later string. -/
theorem missed_below {s : State} (w : Sweep) {p : Nat} (sized : s.swp.Sized) (hp : p < 8) (n : Nat) :
    (∀ m, m < n → m < 32 → ((forUpTo n (fun m s => s.setMon p m { s.mon p m with missed := !(w.read.getD p 0).getLsbD m }) s).mon p m).missed =
      !(w.read.getD p 0).getLsbD m) ∧
    (∀ q m, q < p → m < 32 → (forUpTo n (fun m s => s.setMon p m { s.mon p m with missed := !(w.read.getD p 0).getLsbD m }) s).mon q m = s.mon q m) ∧
    (forUpTo n (fun m s => s.setMon p m { s.mon p m with missed := !(w.read.getD p 0).getLsbD m }) s).swp.Sized := by
  induction n with
  | zero => exact ⟨fun m h => absurd h (Nat.not_lt_zero m), fun _ _ _ _ => rfl, sized⟩
  | succ n ih =>
    obtain ⟨own, earlier, sized'⟩ := ih
    rw [forUpTo_succ]
    refine ⟨fun m hm h32 => ?_, fun q m hq h32 => ?_, State.setMon_sized sized' ..⟩
    · rcases Nat.lt_succ_iff_lt_or_eq.mp hm with hm | rfl
      · rw [State.mon_setMon_other _ (by omega), own m hm h32]
      · rw [State.mon_setMon_same sized' (by omega)]
    · rw [State.mon_setMon_other _ (by omega), earlier q m hq h32]

theorem State.monCount_of_cfg {r s : State} (h : s.cfg = r.cfg) (p : Nat) : s.monCount p = r.monCount p := by
  rw [State.monCount, State.monCount, State.sec, State.sec, h]

theorem State.noteMissed_mons {s : State} (w : Sweep) {p : Nat} (sized : s.swp.Sized) (hp : p < 8) :
    (∀ m, m < s.monCount p → m < 32 → ((s.noteMissed w p).mon p m).missed = !(w.read.getD p 0).getLsbD m) ∧
    (∀ q m, q < p → m < 32 → (s.noteMissed w p).mon q m = s.mon q m) ∧ (s.noteMissed w p).swp.Sized :=
  missed_below w sized hp (s.monCount p)

theorem deadline_missed {s : State} (w : Sweep) (sized : s.swp.Sized) {n : Nat} (hn : n ≤ 8) :
    (∀ p m, p < n → m < s.monCount p → m < 32 → ((forUpTo n (fun p s => (s.dropReads p).noteMissed w p) s).mon p m).missed = !(w.read.getD p 0).getLsbD m) ∧
    (forUpTo n (fun p s => (s.dropReads p).noteMissed w p) s).swp.Sized ∧ (forUpTo n (fun p s => (s.dropReads p).noteMissed w p) s).cfg = s.cfg := by
  induction n with
  | zero => exact ⟨fun p m h => absurd h (Nat.not_lt_zero p), sized, rfl⟩
  | succ n ih =>
    obtain ⟨missed, sized', cfg⟩ := ih (Nat.le_of_succ_le hn)
    rw [forUpTo_succ]
    generalize forUpTo n (fun p s => (s.dropReads p).noteMissed w p) s = u at missed sized' cfg
    have swp : (u.dropReads n).swp = u.swp := (State.dropReads_moved u n).same 9 rfl
    have cfg' : (u.dropReads n).cfg = s.cfg := Eq.trans ((State.dropReads_moved u n).same 6 rfl) cfg
    obtain ⟨own, earlier, sized''⟩ := State.noteMissed_mons (s := u.dropReads n) w (p := n) (by rw [swp]; exact sized') (by omega)
    refine ⟨fun p m hp hm h32 => ?_, sized'', Eq.trans ((State.noteMissed_moved _ w n).same 6 rfl) cfg'⟩
    rcases Nat.lt_succ_iff_lt_or_eq.mp hp with hp | rfl
    · rw [earlier p m hp h32, State.mon, swp]
      exact missed p m hp hm h32
    · exact own m (by rwa [State.monCount_of_cfg cfg']) h32

theorem State.noteMissed_sweep (s : State) (w : Sweep) (p : Nat) : (s.noteMissed w p).swp.sweep = s.swp.sweep :=
  forUpTo_keeps (P := fun t => t.swp.sweep = s.swp.sweep) rfl fun _ _ h => h

theorem exec_sweepDeadline_due {s : State} {tc : Tc} {w : Sweep} (sweep : s.swp.sweep = some w) (due : w.tc.toNat + 250 * s.fld F.SWP_DEADLINE_US ≤ tc.toNat) :
    exec (.sweepDeadline tc) s =
      .next (forUpTo 8 (fun p s => (s.dropReads p).noteMissed w p) { s with swp := { s.swp with sweep := some { w with closed := true } } }) := by
  rw [show exec (.sweepDeadline tc) s = execSweepDeadline tc s from rfl, execSweepDeadline, sweep]
  exact if_neg (Bool.eq_false_iff.mp (decide_eq_false (Nat.not_lt.mpr due)))

theorem exec_sweepDeadline_early {s : State} {tc : Tc} {w : Sweep} (sweep : s.swp.sweep = some w) (early : tc.toNat < w.tc.toNat + 250 * s.fld F.SWP_DEADLINE_US) :
    exec (.sweepDeadline tc) s = .next s := by
  rw [show exec (.sweepDeadline tc) s = execSweepDeadline tc s from rfl, execSweepDeadline, sweep]
  exact if_pos (decide_eq_true early)

/-! Publication (R29 to R32). -/

theorem withField_whole (v x : Word) : withField v 0 32 x.toNat = x := by
  apply BitVec.eq_of_getLsbD_eq
  intro i hi
  rw [getLsbD_withField, if_pos (by omega)]
  rfl

/-- The switch of the latest-snapshot pointer (R29, R31). -/
theorem State.switchSnapshot_parts (s : State) (w : Sweep) (tc : Tc) :
    (s.switchSnapshot w tc).previous = s.latest ∧ (s.switchSnapshot w tc).latest.epoch = w.epoch ∧ (s.switchSnapshot w tc).latest.tc = w.tc ∧
      (s.switchSnapshot w tc).latest.phase = w.phase ∧ (s.switchSnapshot w tc).latest.aligned = w.aligned ∧
      (s.switchSnapshot w tc).assembling = Snapshot.empty ∧ (s.switchSnapshot w tc).swp.sweep = none ∧ (s.switchSnapshot w tc).rd 0x10004 = w.epoch := by
  have after (u : State) : Moved 0x138000223101 u
      ((forUpTo 8 (fun p s => if (s.port p).burstEpoch == some w.epoch then s.setPort p { s.port p with burstAligned := w.aligned } else s) u).twill 0 tc) :=
    (Moved.forUpTo (.refl ..) fun _ _ _ h => h.andThenIf (State.setPort_moved ..)).andThen (State.twill_moved ..)
  unfold State.switchSnapshot
  dsimp only
  refine ⟨?_, ?_, ?_, ?_, ?_, ?_, ?_, ?_⟩
  · rw [(after _).same 3 rfl]; rfl
  · rw [(after _).same 2 rfl]; rfl
  · rw [(after _).same 2 rfl]; rfl
  · rw [(after _).same 2 rfl]; rfl
  · rw [(after _).same 2 rfl]; rfl
  · rw [(after _).same 1 rfl]; rfl
  · rw [(after _).same 9 rfl]; rfl
  · rw [(after _).rd 1 rfl, State.rd_put_other _ _ (by decide)]
    exact (State.rd_put_same _ F.OBJ_EPOCH_LATEST _).trans (withField_whole _ _)

theorem exec_snapshotPublication {s : State} {tc : Tc} {w : Sweep} (sweep : s.swp.sweep = some w) (closed : w.closed = true) :
    exec (.snapshotPublication tc) s =
      .next ((((forUpTo 8 (fun p s => s.publishString w p tc) s).publishEst w).switchSnapshot w tc).dspPublished tc) := by
  rw [show exec (.snapshotPublication tc) s = execSnapshotPublication tc s from rfl, execSnapshotPublication, sweep]
  exact if_pos (by rw [closed, Bool.true_or])

/-- Settles O21: each clause is the rule above for its command. -/
theorem sweepSequence : Obligations.SweepSequence := by
  refine ⟨?notice, ?broadcast, ?pause, ?deadline, ?publication⟩
  case notice =>
    intro s k tc pos on run acc aperture next
    refine ⟨fun due => ?_, fun early => exec_apertureNotice_none (State.noticeAt_early next early)⟩
    have h := State.noticeAt_due on run acc aperture next due
    cases sweeps : s.sweepsOn with
    | false =>
      have lead : (s.withNotice k pos (s.fld F.SWP_LEAD_EFF_LEAD) tc).fld F.SWP_LEAD_EFF_LEAD = s.fld F.SWP_LEAD_EFF_LEAD := by
        rw [State.fld_objs, State.withNotice_objs, ← State.fld_objs]
      refine ⟨_, exec_apertureNotice_off h sweeps, ?_, s.withNotice_aperture _ _ _ _, fun en => absurd en (Bool.eq_false_iff.mp sweeps)⟩
      rw [lead]
      exact s.withNotice_noticed ..
    | true =>
      obtain ⟨t, ht, lead, moved⟩ := exec_apertureNotice_latched h sweeps
      refine ⟨t, ht, ?_, fun live => ?_, fun _ => lead⟩
      · rw [lead, moved.same 7 rfl]
        exact s.withNotice_noticed ..
      · rw [moved.same 11 rfl]
        exact s.withNotice_aperture _ _ _ _ live
  case broadcast =>
    intro s tc hold lead on due sweeps
    obtain ⟨t, w, ht, noticed, sweep, epoch, hold', closed, assembling, busy⟩ := exec_apertureBroadcast on due sweeps
    have at_ : hold = tc + BitVec.ofNat 64 lead := by simpa using List.find?_some due
    exact ⟨t, w, ht, at_, noticed, sweep, epoch, hold', closed, assembling, busy⟩
  case pause =>
    intro s k tc fires sweeps
    have paused := (s.acted (firingKey k 3) tc).balPause_swp tc
    rw [show exec (.balPause k tc) s = execBalPause k tc s from rfl, execBalPause, if_pos fires]
    exact ⟨_, congrArg _ (if_pos sweeps), paused⟩
  case deadline =>
    intro s tc w sweep sized
    refine ⟨fun due => ⟨_, exec_sweepDeadline_due sweep due, ?_, ?_, ?_⟩, exec_sweepDeadline_early sweep⟩
    · refine forUpTo_keeps (P := fun t => t.swp.sweep = some { w with closed := true }) rfl fun p t h => ?_
      rw [State.noteMissed_sweep, (State.dropReads_moved t p).same 9 rfl, h]
    · exact (Moved.forUpTo (m := 0x300) (.refl ..) fun _ _ _ h => (h.andThen (State.dropReads_moved ..)).andThen (State.noteMissed_moved ..)).same 0 rfl
    · exact (deadline_missed (s := { s with swp := { s.swp with sweep := some { w with closed := true } } }) w sized le_rfl).1
  case publication =>
    intro s tc w sweep closed
    have assembled : Moved 0x6000000603 s ((forUpTo 8 (fun p s => s.publishString w p tc) s).publishEst w) :=
      (Moved.forUpTo (.refl ..) fun _ _ _ h => h.andThen (State.publishString_moved ..)).andThen (State.publishEst_moved ..)
    refine ⟨_, exec_snapshotPublication sweep closed, ?_⟩
    generalize (forUpTo 8 (fun p s => s.publishString w p tc) s).publishEst w = u at assembled
    have told := State.dspPublished_moved (u.switchSnapshot w tc) tc
    obtain ⟨previous, epoch, at_, phase, aligned, assembling, sweep', object⟩ := u.switchSnapshot_parts w tc
    rw [told.same 3 rfl, told.same 2 rfl, told.same 1 rfl, told.same 9 rfl, told.rd 1 rfl, previous]
    exact ⟨assembled.same 2 rfl, epoch, at_, phase, aligned, assembling, sweep', object⟩

end Sys2Proof.Machine
end

section
/-! Lanes: the objects an operation may write, the safe stop, the control step, and the faults of the lanes (R341 to R361). -/
namespace Sys2Proof.Machine

open Sys2Proof

-- Default arguments by tactic wait for the declarations before: begun all at once the proofs below would each hold a thread and its stack.
set_option Elab.async false

/-! The objects of a block that an operation may write: finer than a block of Moved. -/

/-- From r to s no object of block b has changed but those at the listed addresses. -/
structure Writes (b : Nat) (l : List Nat) (r s : State) : Prop where
  rd : ∀ a, a / 0x10000 = b → a ∉ l → s.rd a = r.rd a

namespace Writes

variable {b : Nat} {k l : List Nat} {r s t : State}

theorem refl : Writes b l r r := ⟨fun _ _ _ => rfl⟩

theorem andThen (h : Writes b l r s) (g : Writes b k s t) (sub : k ⊆ l := by decide) : Writes b l r t :=
  ⟨fun a ha hl => (g.rd a ha fun hk => hl (sub hk)).trans (h.rd a ha hl)⟩

theorem ofMoved {m : Nat} (h : Moved m r s) (hb : (decide (b < 22) && !m.testBit (b + 32)) = true := by rfl) : Writes b l r s :=
  ⟨fun _ ha _ => h.rd b ha hb⟩

theorem andMoved {m : Nat} (h : Writes b l r s) (g : Moved m s t) (hb : (decide (b < 22) && !m.testBit (b + 32)) = true := by rfl) : Writes b l r t :=
  ⟨fun a ha hl => (g.rd b ha hb).trans (h.rd a ha hl)⟩

theorem wr (h : Writes b l r s) {a : Nat} (v : Word) (ha : a ∈ l) : Writes b l r (s.wr a v) :=
  ⟨fun c hc hl => (State.rd_wr_other s v fun (e : c = a) => hl (e ▸ ha)).trans (h.rd c hc hl)⟩

theorem put (h : Writes b l r s) (f : Field) (x : Nat) (hf : f.addr ∈ l := by decide) : Writes b l r (s.put f x) := h.wr _ hf

theorem putFlag (h : Writes b l r s) (f : Field) (x : Bool) (hf : f.addr ∈ l := by decide) : Writes b l r (s.putFlag f x) := h.put f _ hf

theorem bump (h : Writes b l r s) (f : Field) (hf : f.addr ∈ l := by decide) : Writes b l r (s.bump f) := h.put f _ hf

theorem event (h : Writes b l r s) (e : EventFlag) (hf : e.flag.addr ∈ l := by decide) (hc : e.cnt.addr ∈ l := by decide) : Writes b l r (s.event e) :=
  (h.put e.flag 1 hf).bump e.cnt hc

theorem ite {c : Prop} [Decidable c] (h : Writes b l r s) (g : Writes b l r t) : Writes b l r (if c then s else t) := by
  split
  · exact h
  · exact g

theorem forUpTo {n : Nat} {f : Nat → State → State} (h : Writes b l r s) (keep : ∀ i t, Writes b l r t → Writes b l r (f i t)) :
    Writes b l r (forUpTo n f s) := forUpTo_keeps h keep

theorem foldl {α : Type} {xs : List α} {f : State → α → State} (h : Writes b l r s) (keep : ∀ t x, Writes b l r t → Writes b l r (f t x)) :
    Writes b l r (xs.foldl f s) := by
  induction xs generalizing s with
  | nil => exact h
  | cons x xs ih => exact ih (keep s x h)

theorem fld (h : Writes b l r s) {g : Field} (hb : g.addr / 0x10000 = b := by decide) (hl : g.addr ∉ l := by decide) : s.fld g = r.fld g :=
  State.fld_of_rd (h.rd _ hb hl)

theorem flag (h : Writes b l r s) {g : Field} (hb : g.addr / 0x10000 = b := by decide) (hl : g.addr ∉ l := by decide) : s.flag g = r.flag g :=
  State.flag_of_rd (h.rd _ hb hl)

end Writes

/-- The objects that count a discarded transfer: LAN_EVT, LAN_EVT_CNT1, LAN_STALE_CNT (R356). -/
def staleObjs : List Nat := [0xd0014, 0xd001c, 0xd0038]

theorem State.staleTransfer_writes (s : State) (k : Nat) : Writes 13 staleObjs s (s.staleTransfer k) := ((Writes.refl.bump _).put _ _).event _

/-! What the displaced lane leaves behind (R353, R356, R357). -/

theorem State.potDiscard_writes (s : State) (l : Lane) : Writes 13 staleObjs s (s.potDiscard l) := by
  refine .foldl ?_ fun t _ h => h.andThen (t.staleTransfer_writes 1)
  exact ⟨fun _ _ _ => rfl⟩

theorem State.potDiscard_mem (s : State) (l : Lane) : (s.potDiscard l).pot.mem = s.pot.mem := by
  have counted : Moved 0x200000000001 { s with pot := { s.pot with buffer := s.pot.buffer.filter (fun w => w.lane != l) } } (s.potDiscard l) :=
    .foldl (.refl ..) fun _ _ h => h.andThen (State.staleTransfer_moved ..)
  rw [counted.same 14 rfl]

theorem State.loseFrame_writes (s : State) (inFlight : Bool) : Writes 13 staleObjs s (s.loseFrame inFlight) := by
  have counted : Writes 13 staleObjs s (if s.frames.due.isSome && !inFlight then s.staleTransfer 1 else s) := .ite (s.staleTransfer_writes 1) .refl
  exact ⟨counted.rd⟩

theorem State.dropStaged_writes (s : State) : Writes 13 staleObjs s s.dropStaged := by
  have counted : Writes 13 staleObjs s (forUpTo (bitN s.dsp.stagedD.isSome + bitN s.dsp.stagedT.isSome) (fun _ s => s.staleTransfer 2) s) :=
    .forUpTo .refl fun _ t h => h.andThen (t.staleTransfer_writes 2)
  exact counted.andMoved (m := 0x40000008001) (State.put_moved (State.withDsp_moved ..).widen _ _ rfl)

theorem State.loseWrites_writes (s : State) : Writes 13 staleObjs s s.loseWrites := by
  have copy (r : State) : Writes 13 staleObjs r r.loseCopy := by
    refine .ite (.andThen (.ofMoved (m := 0x4000000401) ?_) (State.staleTransfer_writes _ 8)) .refl
    exact State.putFlag_moved (State.withEst_moved ..).widen _ _ rfl
  have record (r : State) : Writes 13 staleObjs r r.loseRecord :=
    .ite (⟨(State.staleTransfer_writes { r with cfg := { r.cfg with confirmWriting := false } } 8).rd⟩) .refl
  have cause (r : State) : Writes 13 staleObjs r r.loseCause :=
    .ite (⟨(State.staleTransfer_writes { r with thm := { r.thm with clearing := false } } 8).rd⟩) .refl
  exact (Writes.andThen (.ite ((copy s).andThen (State.staleTransfer_writes _ 8)) (copy s)) (record _)).andThen (cause _)

theorem State.canWithdraw_writes (s : State) : Writes 13 staleObjs s s.canWithdraw := by
  refine .forUpTo .refl fun c t h => .ite h (.foldl ?_ fun u _ g => g.andThen (u.staleTransfer_writes 6))
  refine h.andMoved (m := 0x800000040001) ?_
  exact State.put_moved (State.canAbandon_moved ..) _ _ (inBlock_of 15 (by simp only [F.CAN_STAT_LID_HOLD]; omega) rfl)

theorem State.loseChange_writes (s : State) : Writes 13 staleObjs s s.loseChange := .ofMoved s.loseChange_moved

theorem State.withdraw_writes (s : State) (l : Lane) : Writes 13 staleObjs s (s.withdraw l) := by
  have halted : Writes 13 staleObjs s s.cteHalt := .ofMoved s.cteHalt_moved
  have dropped := ((halted.andThen (State.potDiscard_writes _ l)).andThen
    (State.loseFrame_writes _ (s.pot.buffer.any fun w => w.lane == l && decide (areaBase 0 ≤ w.addr)))).andThen (State.dropStaged_writes _)
  have lost := (((dropped.andMoved (State.lsWithdraw_moved _)).andThen (State.loseWrites_writes _)).andThen (State.loseChange_writes _)).andMoved
    (State.holdCoils_moved _)
  have silent := ((lost.andThen (State.canWithdraw_writes _)).andMoved (State.ethWithdraw_moved _)).andMoved (State.updWithdraw_moved _)
  exact silent.andMoved (m := 0x8000000000021) (State.put_moved (State.withObj_moved ..).widen _ _ rfl)

/-- The Stockpot loses the uncommitted entries of the lane; its bytes stay (R350). -/
theorem State.withdraw_mem (s : State) (l : Lane) : (s.withdraw l).pot.mem = s.pot.mem := by
  unfold State.withdraw
  dsimp only
  rw [State.put_pot]
  dsimp only
  rw [(State.updWithdraw_moved _).same 14 rfl, (State.ethWithdraw_moved _).same 14 rfl, (State.canWithdraw_moved _).same 14 rfl,
    (State.holdCoils_moved _).same 14 rfl, (State.loseChange_moved _).same 14 rfl, (State.loseWrites_moved _).same 14 rfl,
    (State.lsWithdraw_moved _).same 14 rfl, (State.dropStaged_moved _).same 14 rfl, (State.loseFrame_moved _ _).same 14 rfl, State.potDiscard_mem,
    (State.cteHalt_moved _).same 14 rfl]

/-! Lane states (R341). -/

theorem laneField_addr (l : Lane) : (laneField l).addr = 0xd0000 := by cases l <;> rfl

theorem laneFaultField_addr (l : Lane) : (laneFaultField l).addr = 0xd0030 := by cases l <;> rfl

@[simp] theorem otherLane_otherLane (l : Lane) : otherLane (otherLane l) = l := by cases l <;> rfl

theorem otherLane_ne (l : Lane) : otherLane l ≠ l := by cases l <;> decide

theorem lane_cases (k l : Lane) : k = l ∨ k = otherLane l := by cases k <;> cases l <;> decide

theorem State.laneState_put {s : State} {f : Field} (l : Lane) (x : Nat) (h : f.addr ≠ 0xd0000 ∨ f.lo + f.w ≤ 16) : (s.put f x).laneState l = s.laneState l := by
  rcases h with h | h
  · exact State.fld_put_addr _ _ (by rw [laneField_addr]; exact h.symm)
  · exact State.fld_put_bits _ _ (.inr (by cases l <;> simp only [laneField, F.LAN_STAT_A_STATE, F.LAN_STAT_B_STATE] <;> omega))

theorem State.laneState_setLane_same (s : State) (l : Lane) {st : Nat} (h : st < 16) : (s.setLane l st).laneState l = st := by
  have shown : (s.setLane l st).laneState l = (s.put (laneField l) st).laneState l := State.laneState_put l _ (.inr (by decide))
  rw [shown, State.laneState, State.fld_put_same _ _ _ (by cases l <;> decide)]
  cases l <;> exact Nat.mod_eq_of_lt h

theorem State.laneState_setLane_other (s : State) (l : Lane) (st : Nat) : (s.setLane l st).laneState (otherLane l) = s.laneState (otherLane l) := by
  have shown : (s.setLane l st).laneState (otherLane l) = (s.put (laneField l) st).laneState (otherLane l) := State.laneState_put _ _ (.inr (by decide))
  rw [shown]
  exact State.fld_put_bits _ _ (by cases l <;> decide)

theorem State.setLane_writes (s : State) (l : Lane) (st : Nat) : Writes 13 [0xd0000] s (s.setLane l st) := by
  have shown : Writes 13 [0xd0000] s (s.put (laneField l) st).showStandby := (Writes.refl.put _ _ (by rw [laneField_addr]; decide)).putFlag _ _
  exact ⟨shown.rd⟩

theorem Lan.putLevel_eq (x : Lan) (l : Lane) (pl : Option Nat) : ∃ a b, x.putLevel l pl = { x with levelA := a, levelB := b } := by
  cases l
  · exact ⟨pl, x.levelB, rfl⟩
  · exact ⟨x.levelA, pl, rfl⟩

/-- Setting a lane's state changes of the lanes' record the levels only. -/
theorem State.setLane_lan_eq (s : State) (l : Lane) (st : Nat) : ∃ a b, (s.setLane l st).lan = { s.lan with levelA := a, levelB := b } :=
  Lan.putLevel_eq ..

theorem State.laneState_faultLane_same (s : State) (l : Lane) (cls : Nat) : (s.faultLane l cls).laneState l = lnFaulted :=
  (State.laneState_put l _ (.inl (by rw [laneFaultField_addr]; decide))).trans (s.laneState_setLane_same l (by decide))

theorem State.laneState_faultLane_other (s : State) (l : Lane) (cls : Nat) : (s.faultLane l cls).laneState (otherLane l) = s.laneState (otherLane l) :=
  (State.laneState_put _ _ (.inl (by rw [laneFaultField_addr]; decide))).trans (s.laneState_setLane_other l _)

theorem State.fault_faultLane_same (s : State) (l : Lane) {cls : Nat} (h : cls < 256) : (s.faultLane l cls).fld (laneFaultField l) = cls := by
  rw [State.faultLane, State.fld_put_same _ _ _ (by cases l <;> decide)]
  cases l <;> exact Nat.mod_eq_of_lt h

theorem State.fault_faultLane_other (s : State) (l : Lane) (cls : Nat) : (s.faultLane l cls).fld (laneFaultField (otherLane l)) = s.fld (laneFaultField (otherLane l)) := by
  rw [State.faultLane, State.fld_put_bits _ _ (by cases l <;> decide)]
  exact (s.setLane_writes l lnFaulted).fld (by cases l <;> decide) (by cases l <;> decide)

theorem State.faultLane_writes (s : State) (l : Lane) (cls : Nat) : Writes 13 [0xd0000, 0xd0030] s (s.faultLane l cls) :=
  (Writes.refl.andThen (s.setLane_writes l lnFaulted)).put _ _ (by rw [laneFaultField_addr]; decide)

theorem State.faultLane_pwr (s : State) (l : Lane) (cls : Nat) : (s.faultLane l cls).pwr = s.pwr := rfl

/-! The safe stop (R46, R360). -/

/-- A lane is held in reset: OFF unless it is FAULTED (R360). -/
def State.laneOff (s : State) (l : Lane) : State := if s.laneState l = lnFaulted then s else s.setLane l lnOff

theorem State.laneState_laneOff {s : State} {k : Lane} (l : Lane) (h : s.laneState k = lnFaulted) : (s.laneOff l).laneState k = lnFaulted := by
  unfold State.laneOff
  split
  · exact h
  · next off =>
    rcases lane_cases k l with rfl | rfl
    · exact absurd h off
    · rw [State.laneState_setLane_other, h]

theorem State.laneOff_lan_eq (s : State) (l : Lane) : ∃ a b, (s.laneOff l).lan = { s.lan with levelA := a, levelB := b } := by
  unfold State.laneOff
  split
  · exact ⟨_, _, rfl⟩
  · exact s.setLane_lan_eq l _

theorem State.laneOff_moved (s : State) (l : Lane) : Moved 0x200000400001 s (s.laneOff l) := .ite (.refl ..) (State.setLane_moved ..)

theorem State.laneOff_writes (s : State) (l : Lane) : Writes 13 [0xd0000] s (s.laneOff l) := .ite .refl (s.setLane_writes l lnOff)

/-- The state as both lanes are taken out of service (R360). -/
def State.laneless (s : State) : State :=
  { s with
    lan := { s.lan with pins := lidPins none, back := lidPins none, clear := none, odd := none, fw := false, control := none, restoring := none, rebuilt := false, planned := false, final := false }
    obj := { s.obj with queue := [], running := false }
    frames := { s.frames with due := none } }

theorem State.lanesOff_eq (s : State) : s.lanesOff = ((s.laneless.laneOff .a).laneOff .b).cteHalt := rfl

theorem State.lanesOff_writes (s : State) : Writes 13 [0xd0000] s s.lanesOff := by
  have less : Writes 13 [0xd0000] s s.laneless := ⟨fun _ _ _ => rfl⟩
  exact ((less.andThen (State.laneOff_writes _ .a)).andThen (State.laneOff_writes _ .b)).andMoved (State.cteHalt_moved _)

theorem State.laneState_lanesOff {s : State} {l : Lane} (h : s.laneState l = lnFaulted) : s.lanesOff.laneState l = lnFaulted := by
  have less : s.laneless.laneState l = lnFaulted := h
  rw [State.lanesOff_eq, State.laneState, (State.cteHalt_moved _).fld 13 (by rw [laneField_addr])]
  exact State.laneState_laneOff .b (State.laneState_laneOff .a less)

/-- No lane holds the Lid, no control step is pending, the object service has ended. -/
theorem State.lanesOff_parts (s : State) : s.lanesOff.lan.lid = none ∧ s.lanesOff.lan.control = none ∧ s.lanesOff.obj.running = false := by
  obtain ⟨a, b, ha⟩ := s.laneless.laneOff_lan_eq .a
  obtain ⟨c, d, hb⟩ := (s.laneless.laneOff .a).laneOff_lan_eq .b
  rw [State.lanesOff_eq, (State.cteHalt_moved _).same 22 rfl, (State.cteHalt_moved _).same 5 rfl, (State.laneOff_moved _ .b).same 5 rfl,
    (State.laneOff_moved _ .a).same 5 rfl, hb, ha]
  exact ⟨rfl, rfl, rfl⟩

/-- The module before its lanes are taken out of service: the cause is noted, every output safe, rings and networks silent (R360). -/
def State.stopping (s : State) (cause cls : Nat) (tc : Tc) : State :=
  ((((s.put F.LAN_SS_CAUSE_CAUSE cause).put F.LAN_SS_CAUSE_CLASS cls).allSafe tc).silence).updWithdraw

theorem State.safeStop_eq (s : State) (cause cls : Nat) (tc : Tc) : s.safeStop cause cls tc =
    { (s.stopping cause cls tc).lanesOff with
      lan := { (s.stopping cause cls tc).lanesOff.lan with stopTc := some tc }
      pwr := { (s.stopping cause cls tc).lanesOff.pwr with state := .safeStop, request := none } } := rfl

theorem State.stopping_writes (s : State) (cause cls : Nat) (tc : Tc) : Writes 13 [] ((s.put F.LAN_SS_CAUSE_CAUSE cause).put F.LAN_SS_CAUSE_CLASS cls) (s.stopping cause cls tc) :=
  ((Writes.refl.andMoved (State.allSafe_moved ..)).andMoved (State.silence_moved _)).andMoved (State.updWithdraw_moved _)

theorem State.safeStop_parts (s : State) (cause cls : Nat) (tc : Tc) : (s.safeStop cause cls tc).pwr.state = .safeStop ∧ (s.safeStop cause cls tc).lan.lid = none ∧
    (s.safeStop cause cls tc).lan.control = none ∧ (s.safeStop cause cls tc).lan.stopTc = some tc ∧ (s.safeStop cause cls tc).obj.running = false := by
  obtain ⟨lid, control, running⟩ := (s.stopping cause cls tc).lanesOff_parts
  rw [State.safeStop_eq]
  exact ⟨rfl, lid, control, rfl, running⟩

theorem State.safeStop_after (s : State) (cause cls : Nat) (tc : Tc) :
    Writes 13 [0xd0000] ((s.put F.LAN_SS_CAUSE_CAUSE cause).put F.LAN_SS_CAUSE_CLASS cls) (s.safeStop cause cls tc) := by
  have off : Writes 13 [0xd0000] _ (s.stopping cause cls tc).lanesOff := (Writes.refl.andThen (s.stopping_writes cause cls tc)).andThen (State.lanesOff_writes _)
  exact ⟨off.rd⟩

theorem State.safeStop_writes (s : State) (cause cls : Nat) (tc : Tc) : Writes 13 [0xd0000, 0xd0044] s (s.safeStop cause cls tc) :=
  ((Writes.refl.put _ _).put _ _).andThen (s.safeStop_after cause cls tc)

theorem State.safeStop_cause (s : State) {cause cls : Nat} (tc : Tc) (hc : cause < 256) (hk : cls < 256) :
    (s.safeStop cause cls tc).fld F.LAN_SS_CAUSE_CAUSE = cause ∧ (s.safeStop cause cls tc).fld F.LAN_SS_CAUSE_CLASS = cls := by
  rw [(s.safeStop_after cause cls tc).fld, (s.safeStop_after cause cls tc).fld, State.fld_put_bits _ _ (by decide), State.fld_put_same _ _ _ (by decide),
    State.fld_put_same _ _ _ (by decide)]
  exact ⟨Nat.mod_eq_of_lt hc, Nat.mod_eq_of_lt hk⟩

/-- A FAULTED lane stays FAULTED in the safe stop (R360). -/
theorem State.laneState_safeStop {s : State} {l : Lane} (cause cls : Nat) (tc : Tc) (h : s.laneState l = lnFaulted) :
    (s.safeStop cause cls tc).laneState l = lnFaulted := by
  have before : (s.stopping cause cls tc).laneState l = lnFaulted := by
    rw [State.laneState, (s.stopping_writes cause cls tc).fld (by rw [laneField_addr]) (by simp)]
    exact (State.laneState_put l _ (.inl (by decide))).trans ((State.laneState_put l _ (.inl (by decide))).trans h)
  rw [State.safeStop_eq]
  exact State.laneState_lanesOff before

/-- A lane is FAULTED and the module stops (R341, R360): what then shows. -/
theorem State.faultedStop (s : State) (l : Lane) {cause cls : Nat} (tc : Tc) (hc : cause < 256) (hk : cls < 256) :
    ((s.faultLane l cls).safeStop cause cls tc).pwr.state = .safeStop ∧ ((s.faultLane l cls).safeStop cause cls tc).lan.lid = none ∧
      ((s.faultLane l cls).safeStop cause cls tc).fld F.LAN_SS_CAUSE_CAUSE = cause ∧ ((s.faultLane l cls).safeStop cause cls tc).fld F.LAN_SS_CAUSE_CLASS = cls ∧
      ((s.faultLane l cls).safeStop cause cls tc).laneState l = lnFaulted ∧ ((s.faultLane l cls).safeStop cause cls tc).fld (laneFaultField l) = cls := by
  obtain ⟨state, lid, -, -, -⟩ := (s.faultLane l cls).safeStop_parts cause cls tc
  obtain ⟨shown, class_⟩ := (s.faultLane l cls).safeStop_cause tc hc hk
  refine ⟨state, lid, shown, class_, State.laneState_safeStop cause cls tc (s.laneState_faultLane_same l cls), ?_⟩
  rw [((s.faultLane l cls).safeStop_writes cause cls tc).fld (by rw [laneFaultField_addr]) (by rw [laneFaultField_addr]; decide)]
  exact s.fault_faultLane_same l hk

/-! The control step (R353). -/

theorem State.bestImage_of {r s : State} (mem : s.pot.mem = r.pot.mem) (placement : s.placement = r.placement) : s.bestImage = r.bestImage := by
  unfold State.bestImage
  rw [State.imageCopy_of_mem mem, State.imageCopy_of_mem mem, placement]

/-- The lanes' record as the Lid leaves lane l (R353). -/
def Lan.displaced (x : Lan) (l : Lane) (cls : Nat) (tc : Tc) : Lan :=
  { x with
    pins := lidPins none
    back := lidPins none
    clear := some tc
    odd := none
    fw := false
    control := some (l, cls, tc)
    restoring := none
    rebuilt := false
    planned := false
    final := false
    beats := 0
    wrong := false
    watched := false }

/-- The state once lane l is displaced and the other restores (R353). -/
def State.displaced (s : State) (l : Lane) (cls : Nat) (tc : Tc) : State :=
  let s := s.writeDue (tc.toNat + 1)
  let s := s.withLan (s.lan.displaced l cls tc)
  ((s.withdraw l).setLane (otherLane l) lnRestore).put F.LAN_STAT_MGMT_PEND 1

/-- The displacement as it shows in the objects of the last takeover (R353). -/
def State.takeoverShown (s : State) (l : Lane) (cls : Nat) (tc : Tc) : State :=
  ((((s.event Ev.LAN_TAKEOVER).bump F.LAN_CNT_TAKE).put F.LAN_LAST_CLASS cls).putFlag F.LAN_LAST_FROM (l == .b)).wr64 F.LAN_LAST_TC_LO_VALUE.addr tc

theorem State.controlStep_eq (s : State) (l : Lane) (cls : Nat) (tc : Tc) : s.controlStep l cls tc =
    if ((s.displaced l cls tc).takeoverShown l cls tc).bestImage.isNone then
      (((s.displaced l cls tc).takeoverShown l cls tc).faultLane (otherLane l) 12).safeStop 2 12 tc
    else (s.displaced l cls tc).takeoverShown l cls tc := rfl

theorem State.displaced_mem (s : State) (l : Lane) (cls : Nat) (tc : Tc) : (s.displaced l cls tc).pot.mem = s.pot.mem := by
  unfold State.displaced
  dsimp only
  rw [State.put_pot, (State.setLane_moved ..).same 14 rfl, State.withdraw_mem, (State.withLan_moved ..).same 14 rfl, (State.writeDue_moved ..).same 14 rfl]

theorem State.displaced_moved (s : State) (l : Lane) (cls : Nat) (tc : Tc) : Moved 0x29e64406c7f461 s (s.displaced l cls tc) :=
  State.put_moved (((((Moved.refl ..).andThen (State.writeDue_moved ..)).andThen (State.withLan_moved ..)).andThen (State.withdraw_moved ..)).andThen
    (State.setLane_moved ..)) _ _ rfl

theorem State.displaced_lan (s : State) (l : Lane) (cls : Nat) (tc : Tc) :
    ∃ a b, (s.displaced l cls tc).lan = { s.lan.displaced l cls tc with levelA := a, levelB := b } := by
  have given : (((s.writeDue (tc.toNat + 1)).withLan ((s.writeDue (tc.toNat + 1)).lan.displaced l cls tc)).withdraw l).lan = s.lan.displaced l cls tc := by
    rw [(State.withdraw_moved ..).same 22 rfl, State.withLan, (State.writeDue_moved ..).same 22 rfl]
  unfold State.displaced
  dsimp only
  rw [State.put_lan, ← given]
  exact State.setLane_lan_eq ..

theorem State.withdraw_queue (s : State) (l : Lane) : (s.withdraw l).obj.queue = [] := by
  unfold State.withdraw
  dsimp only
  rw [State.put_obj]

theorem State.displaced_queue (s : State) (l : Lane) (cls : Nat) (tc : Tc) : (s.displaced l cls tc).obj.queue = [] := by
  unfold State.displaced
  dsimp only
  rw [State.put_obj, (State.setLane_moved ..).same 5 rfl, State.withdraw_queue]

theorem State.displaced_given (s : State) (l : Lane) (cls : Nat) (tc : Tc) :
    Writes 13 staleObjs s (((s.writeDue (tc.toNat + 1)).withLan ((s.writeDue (tc.toNat + 1)).lan.displaced l cls tc)).withdraw l) :=
  ((Writes.refl.andMoved (State.writeDue_moved ..)).andMoved (State.withLan_moved ..)).andThen (State.withdraw_writes ..)

theorem State.displaced_writes (s : State) (l : Lane) (cls : Nat) (tc : Tc) : Writes 13 (0xd0000 :: staleObjs) s (s.displaced l cls tc) :=
  ((Writes.refl.andThen (s.displaced_given l cls tc)).andThen (State.setLane_writes ..)).put _ _

theorem State.displaced_states (s : State) (l : Lane) (cls : Nat) (tc : Tc) : (s.displaced l cls tc).laneState (otherLane l) = lnRestore ∧
    (s.displaced l cls tc).laneState l = s.laneState l ∧ (s.displaced l cls tc).flag F.LAN_STAT_MGMT_PEND = true := by
  have given := s.displaced_given l cls tc
  unfold State.displaced
  dsimp only
  generalize ((s.writeDue (tc.toNat + 1)).withLan ((s.writeDue (tc.toNat + 1)).lan.displaced l cls tc)).withdraw l = u at given
  rw [State.laneState_put _ _ (.inr (by decide)), State.laneState_put _ _ (.inr (by decide)), State.laneState_setLane_same _ _ (by decide)]
  refine ⟨rfl, ?_, ?_⟩
  · have kept := u.laneState_setLane_other (otherLane l) lnRestore
    rw [otherLane_otherLane] at kept
    exact kept.trans (given.fld (by rw [laneField_addr]) (by rw [laneField_addr]; decide))
  · rw [State.flag_put_same _ _ _ (by decide)]
    rfl

theorem State.takeoverShown_writes (s : State) (l : Lane) (cls : Nat) (tc : Tc) :
    Writes 13 [0xd0014, 0xd0018, 0xd0024, 0xd0028, 0xd002c, 0xd0034] s (s.takeoverShown l cls tc) :=
  (((((Writes.refl.event _).bump _).put _ _).putFlag _ _).wr _ (by decide)).wr _ (by decide)

theorem State.takeoverShown_moved (s : State) (l : Lane) (cls : Nat) (tc : Tc) : Moved 0x200000000001 s (s.takeoverShown l cls tc) :=
  State.wr64_moved (State.putFlag_moved (State.put_moved (State.bump_moved (State.event_moved (.refl ..) _ rfl rfl) _ rfl) _ _ rfl) _ _ rfl) _ _ rfl rfl

theorem State.takeoverShown_count (s : State) (l : Lane) {cls : Nat} (tc : Tc) (hk : cls < 256) : (s.takeoverShown l cls tc).fld F.LAN_LAST_CLASS = cls ∧
    (s.takeoverShown l cls tc).fld F.LAN_CNT_TAKE = (s.fld F.LAN_CNT_TAKE + 1) % 2 ^ 16 ∧ Raised Ev.LAN_TAKEOVER s (s.takeoverShown l cls tc) := by
  have late (r : State) : Writes 13 [0xd0024, 0xd0028, 0xd002c] r (((r.put F.LAN_LAST_CLASS cls).putFlag F.LAN_LAST_FROM (l == .b)).wr64 F.LAN_LAST_TC_LO_VALUE.addr tc) :=
    (((Writes.refl.put _ _).putFlag _ _).wr _ (by decide)).wr _ (by decide)
  have clock (r : State) : Writes 13 [0xd0028, 0xd002c] r (r.wr64 F.LAN_LAST_TC_LO_VALUE.addr tc) := (Writes.refl.wr _ (by decide)).wr _ (by decide)
  obtain ⟨raised, counted⟩ := s.event_raised Ev.LAN_TAKEOVER (by decide)
  refine ⟨?_, ?_, ?_, ?_⟩
  · rw [State.takeoverShown, (clock _).fld, State.putFlag_eq, State.fld_put_bits _ _ (by decide), State.fld_put_same _ _ _ (by decide)]
    exact Nat.mod_eq_of_lt hk
  · rw [State.takeoverShown, (late _).fld, State.bump_eq, State.fld_put_same _ _ _ (by decide), State.fld_event_addr _ (by decide) (by decide)]
    rfl
  · rw [State.takeoverShown, (late _).fld, State.bump_eq, State.fld_put_addr _ _ (by decide), raised]
  · rw [State.takeoverShown, (late _).fld, State.bump_eq, State.fld_put_addr _ _ (by decide), counted]

/-- What stands after a control step that displaces lane l with a usable register image (R341, R353). -/
structure TakenOver (l : Lane) (cls : Nat) (tc : Tc) (r t : State) : Prop where
  lid : t.lan.lid = none
  fw : t.lan.fw = false
  control : t.lan.control = some (l, cls, tc)
  restores : t.laneState (otherLane l) = lnRestore
  own : t.laneState l = r.laneState l
  pending : t.flag F.LAN_STAT_MGMT_PEND = true
  lastClass : t.fld F.LAN_LAST_CLASS = cls
  count : t.fld F.LAN_CNT_TAKE = (r.fld F.LAN_CNT_TAKE + 1) % 2 ^ 16
  raised : Raised Ev.LAN_TAKEOVER r t
  queue : t.obj.queue = []
  placement : t.placement = r.placement
  faults : ∀ k, t.fld (laneFaultField k) = r.fld (laneFaultField k)

theorem State.controlStep_takenOver {s : State} (l : Lane) {cls : Nat} (tc : Tc) (hk : cls < 256) (usable : s.bestImage.isSome = true) :
    TakenOver l cls tc s (s.controlStep l cls tc) := by
  have shown := (s.displaced l cls tc).takeoverShown_moved l cls tc
  have placement : ((s.displaced l cls tc).takeoverShown l cls tc).placement = s.placement := shown.placement.trans (s.displaced_moved l cls tc).placement
  have image : ((s.displaced l cls tc).takeoverShown l cls tc).bestImage = s.bestImage :=
    State.bestImage_of ((congrArg Pot.mem (shown.same 14 rfl)).trans (s.displaced_mem l cls tc)) placement
  rw [State.controlStep_eq, image, if_neg (by rw [← Option.not_isSome, usable]; decide)]
  obtain ⟨a, b, lan⟩ := s.displaced_lan l cls tc
  obtain ⟨restores, own, pending⟩ := s.displaced_states l cls tc
  obtain ⟨lastClass, count, raised, counted⟩ := (s.displaced l cls tc).takeoverShown_count l tc hk
  have writes := (s.displaced l cls tc).takeoverShown_writes l cls tc
  have before := s.displaced_writes l cls tc
  have lan' := (shown.same 22 rfl : ((s.displaced l cls tc).takeoverShown l cls tc).lan = _).trans lan
  refine ⟨?_, ?_, ?_, ?_, ?_, ?_, lastClass, ?_, ⟨raised, ?_⟩, ?_, placement, fun k => ?_⟩
  · rw [lan']
    rfl
  · rw [lan']
    rfl
  · rw [lan']
    rfl
  · exact (writes.fld (by rw [laneField_addr]) (by rw [laneField_addr]; decide)).trans restores
  · exact (writes.fld (by rw [laneField_addr]) (by rw [laneField_addr]; decide)).trans own
  · rw [writes.flag, pending]
  · rw [count, before.fld]
  · rw [counted, before.fld]
  · rw [shown.same 5 rfl, State.displaced_queue]
  · rw [writes.fld (by rw [laneFaultField_addr]) (by rw [laneFaultField_addr]; decide), before.fld (by rw [laneFaultField_addr]) (by rw [laneFaultField_addr]; decide)]

/-! The referee (R341, R346, R348). -/

/-- The lane that loses the Lid: it requalifies after a transient class below its limit, else it is FAULTED (R341, R346). -/
def State.retired (s : State) (l : Lane) (cls : Nat) : State :=
  let s := s.put (laneFaultField l) cls
  if transient cls && s.fld F.LAN_CNT_REQUAL < s.fld F.LAN_CFG_REQUAL_MAX then (s.setLane l lnRequal).bump F.LAN_CNT_REQUAL else s.setLane l lnFaulted

theorem State.takeover_eq (s : State) (l : Lane) (cls : Nat) (tc : Tc) : s.takeover l cls tc = (s.retired l cls).controlStep l cls tc := rfl

theorem State.retired_moved (s : State) (l : Lane) (cls : Nat) : Moved 0x200000400001 s (s.retired l cls) := by
  have noted : Moved 0x200000400001 s (s.put (laneFaultField l) cls) := State.put_moved (.refl ..) _ _ (inBlock_of 13 (by rw [laneFaultField_addr]) rfl)
  exact .ite (State.bump_moved (noted.andThen (State.setLane_moved ..)) _ rfl) (noted.andThen (State.setLane_moved ..))

theorem State.retired_writes (s : State) (l : Lane) (cls : Nat) : Writes 13 [0xd0000, 0xd0030, 0xd0034] s (s.retired l cls) := by
  have noted : Writes 13 [0xd0000, 0xd0030, 0xd0034] s (s.put (laneFaultField l) cls) := Writes.refl.put _ _ (by rw [laneFaultField_addr]; decide)
  exact .ite ((noted.andThen (State.setLane_writes ..)).bump _) (noted.andThen (State.setLane_writes ..))

theorem State.retired_count (s : State) (l : Lane) (cls : Nat) : (s.retired l cls).fld F.LAN_CNT_TAKE = s.fld F.LAN_CNT_TAKE := by
  have noted : Writes 13 [0xd0000, 0xd0030] s (s.put (laneFaultField l) cls) := Writes.refl.put _ _ (by rw [laneFaultField_addr]; decide)
  unfold State.retired
  dsimp only
  split
  · rw [State.bump_eq, State.fld_put_bits _ _ (by decide), (State.setLane_writes ..).fld, noted.fld]
  · rw [(State.setLane_writes ..).fld, noted.fld]

theorem State.retired_fault (s : State) (l : Lane) {cls : Nat} (hk : cls < 256) : (s.retired l cls).fld (laneFaultField l) = cls := by
  have noted : (s.put (laneFaultField l) cls).fld (laneFaultField l) = cls := by
    rw [State.fld_put_same _ _ _ (by cases l <;> decide)]
    cases l <;> exact Nat.mod_eq_of_lt hk
  have set (st : Nat) : ((s.put (laneFaultField l) cls).setLane l st).fld (laneFaultField l) = cls :=
    ((State.setLane_writes ..).fld (by rw [laneFaultField_addr]) (by rw [laneFaultField_addr]; decide)).trans noted
  unfold State.retired
  dsimp only
  split
  · exact (State.fld_put_addr _ _ (by rw [laneFaultField_addr]; decide)).trans (set _)
  · exact set _

theorem State.retired_state (s : State) (l : Lane) (cls : Nat) : (s.retired l cls).laneState l =
    if transient cls && s.fld F.LAN_CNT_REQUAL < s.fld F.LAN_CFG_REQUAL_MAX then lnRequal else lnFaulted := by
  have noted : Writes 13 [0xd0030] s (s.put (laneFaultField l) cls) := Writes.refl.put _ _ (by rw [laneFaultField_addr]; decide)
  unfold State.retired
  dsimp only
  rw [noted.fld, noted.fld]
  split
  · exact (State.laneState_put _ _ (.inl (by decide))).trans (State.laneState_setLane_same _ _ (by decide))
  · exact State.laneState_setLane_same _ _ (by decide)

/-- A takeover with a usable register image: the control step's, with the class of the displaced lane and what becomes of it (R341). -/
theorem State.takeover_takenOver {s : State} (l : Lane) {cls : Nat} (tc : Tc) (hk : cls < 256) (usable : s.bestImage.isSome = true) :
    (s.takeover l cls tc).lan.lid = none ∧ (s.takeover l cls tc).lan.fw = false ∧ (s.takeover l cls tc).lan.control = some (l, cls, tc) ∧
      (s.takeover l cls tc).laneState (otherLane l) = lnRestore ∧ (s.takeover l cls tc).flag F.LAN_STAT_MGMT_PEND = true ∧
      (s.takeover l cls tc).fld F.LAN_LAST_CLASS = cls ∧ (s.takeover l cls tc).fld (laneFaultField l) = cls ∧
      (s.takeover l cls tc).fld F.LAN_CNT_TAKE = (s.fld F.LAN_CNT_TAKE + 1) % 2 ^ 16 ∧ Raised Ev.LAN_TAKEOVER s (s.takeover l cls tc) ∧
      (s.takeover l cls tc).obj.queue = [] ∧ (s.takeover l cls tc).placement = s.placement ∧
      (s.takeover l cls tc).laneState l = (if transient cls && s.fld F.LAN_CNT_REQUAL < s.fld F.LAN_CFG_REQUAL_MAX then lnRequal else lnFaulted) := by
  have moved := s.retired_moved l cls
  have image : (s.retired l cls).bestImage = s.bestImage := State.bestImage_of (congrArg Pot.mem (moved.same 14 rfl)) moved.placement
  obtain ⟨lid, fw, control, restores, own, pending, lastClass, count, ⟨raised, counted⟩, queue, placement, faults⟩ :=
    State.controlStep_takenOver (s := s.retired l cls) l tc hk (by rw [image]; exact usable)
  rw [State.takeover_eq]
  refine ⟨lid, fw, control, restores, pending, lastClass, ?_, ?_, ⟨raised, ?_⟩, queue, ?_, ?_⟩
  · rw [faults, s.retired_fault l hk]
  · rw [count, s.retired_count]
  · rw [counted, (s.retired_writes l cls).fld]
  · rw [placement, moved.placement]
  · rw [own, s.retired_state]

theorem moduleWide_low {cls : Nat} (h : cls ≤ 10) : moduleWide cls = false := by
  simp only [moduleWide, Bool.or_eq_false_iff, beq_eq_false_iff_ne]
  omega

theorem moduleWide_high {cls : Nat} (low : 11 ≤ cls) (high : cls ≤ 13) : moduleWide cls = true := by
  simp only [moduleWide, Bool.or_eq_true, beq_iff_eq]
  omega

theorem State.referee_wide {s : State} {l : Lane} {cls : Nat} {tc : Tc} (h : moduleWide cls = true) :
    s.referee l cls tc = (s.faultLane l cls).safeStop 2 cls tc := if_pos h

theorem State.referee_active {s : State} {l : Lane} {cls : Nat} {tc : Tc} (h : cls ≤ 10) (active : s.laneState l = lnActive) :
    s.referee l cls tc = if s.laneState (otherLane l) == lnStandby || s.laneState (otherLane l) == lnCheck then s.takeover l cls tc
      else (s.faultLane l cls).safeStop 1 cls tc := by
  have low := moduleWide_low h
  rw [moduleWide] at low
  rw [State.referee, if_neg (Bool.eq_false_iff.mp low), if_pos active]

theorem State.referee_takeover {s : State} {l : Lane} {cls : Nat} {tc : Tc} (h : cls ≤ 10) (active : s.laneState l = lnActive)
    (other : s.laneState (otherLane l) = lnStandby ∨ s.laneState (otherLane l) = lnCheck) : s.referee l cls tc = s.takeover l cls tc := by
  rw [State.referee_active h active, if_pos (by simpa using other)]

theorem State.referee_alone {s : State} {l : Lane} {cls : Nat} {tc : Tc} (h : cls ≤ 10) (active : s.laneState l = lnActive)
    (standby : s.laneState (otherLane l) ≠ lnStandby) (check : s.laneState (otherLane l) ≠ lnCheck) :
    s.referee l cls tc = (s.faultLane l cls).safeStop 1 cls tc := by
  rw [State.referee_active h active, if_neg (by simp [standby, check])]

theorem State.referee_check {s : State} {l : Lane} {cls : Nat} {tc : Tc} (h : cls ≤ 10) (check : s.laneState l = lnCheck) :
    s.referee l cls tc = (s.faultLane l 10).event Ev.LAN_STBY_LOST := by
  have low := moduleWide_low h
  rw [moduleWide] at low
  rw [State.referee, if_neg (Bool.eq_false_iff.mp low), check]
  rfl

/-- A lane that waits is FAULTED, and the module goes on with the other where that is not FAULTED (R341). -/
theorem State.referee_waiting {s : State} {l : Lane} {cls : Nat} {tc : Tc} (h : cls ≤ 10)
    (state : s.laneState l = lnStandby ∨ s.laneState l = lnBoot ∨ s.laneState l = lnRequal) (other : s.laneState (otherLane l) ≠ lnFaulted) :
    s.referee l cls tc = s.faultLane l cls := by
  have low := moduleWide_low h
  rw [moduleWide] at low
  have other' : (s.faultLane l cls).laneState (otherLane l) ≠ lnFaulted := by rwa [State.laneState_faultLane_other]
  rw [State.referee, if_neg (Bool.eq_false_iff.mp low)]
  rcases state with h | h | h <;> rw [h] <;> exact if_neg other'

theorem exec_laneFault {s : State} {l : Lane} {cls : Fin 16} (tc : Tc) (powered : s.lanesPowered = true) (takes : s.takesFault l cls = true) :
    exec (.laneFault ⟨l, cls⟩ none tc) s = .next (s.referee l cls.val tc) := by
  rw [show exec (.laneFault ⟨l, cls⟩ none tc) s = execLaneFault ⟨l, cls⟩ none tc s from rfl, execLaneFault, if_neg (by simp [powered, takes])]

theorem exec_laneFault_two {s : State} {l m : Lane} {c d : Fin 16} (tc : Tc) (powered : s.lanesPowered = true) (takes : s.takesFault l c = true)
    (also : s.takesFault m d = true) : exec (.laneFault ⟨l, c⟩ (some ⟨m, d⟩) tc) s = .next (s.referee2 l c.val m d.val tc) := by
  rw [show exec (.laneFault ⟨l, c⟩ (some ⟨m, d⟩) tc) s = execLaneFault ⟨l, c⟩ (some ⟨m, d⟩) tc s from rfl, execLaneFault, if_neg (by simp [powered, takes])]
  exact congrArg _ (if_pos also)

theorem State.takesFault_of {s : State} {l : Lane} {cls : Fin 16} (low : 1 ≤ cls.val) (high : cls.val ≤ 13) (off : s.laneState l ≠ lnOff)
    (faulted : s.laneState l ≠ lnFaulted) : s.takesFault l cls = true := by
  simp [State.takesFault, low, high, off, faulted]

/-- Two faults of one lane, neither of a class that stops the module: the lower class counts (R348). -/
theorem State.referee2_same {s : State} {l : Lane} {c d : Nat} {tc : Tc} (hc : c ≤ 10) (hd : d ≤ 10) : s.referee2 l c l d tc = s.referee l (min c d) tc := by
  rw [State.referee2, if_pos (beq_self_eq_true l), moduleWide_low hc, moduleWide_low hd]
  rfl

/-- A fault of each lane: the one that waits comes first, so that the active one stops the module without a takeover (R348). -/
theorem State.referee2_each {s : State} {l : Lane} {c d : Nat} {tc : Tc} (hc : c ≤ 10) (hd : d ≤ 10) (on : s.pwr.state ≠ .safeStop)
    (active : s.laneState l = lnActive) (standby : s.laneState (otherLane l) = lnStandby) :
    s.referee2 l c (otherLane l) d tc =
      (((s.faultLane (otherLane l) d).faultLane l c).safeStop 1 c tc).put F.LAN_SS_CAUSE_CLASS
        (min ((((s.faultLane (otherLane l) d).faultLane l c).safeStop 1 c tc).fld F.LAN_FAULT_A)
          ((((s.faultLane (otherLane l) d).faultLane l c).safeStop 1 c tc).fld F.LAN_FAULT_B)) := by
  have first : s.referee (otherLane l) d tc = s.faultLane (otherLane l) d :=
    State.referee_waiting hd (.inl standby) (by rw [otherLane_otherLane, active]; decide)
  have still : (s.faultLane (otherLane l) d).laneState l = lnActive := by
    have kept := s.laneState_faultLane_other (otherLane l) d
    rw [otherLane_otherLane] at kept
    rw [kept, active]
  have faulted := s.laneState_faultLane_same (otherLane l) d
  have second : (s.faultLane (otherLane l) d).referee l c tc = ((s.faultLane (otherLane l) d).faultLane l c).safeStop 1 c tc :=
    State.referee_alone hc still (by rw [faulted]; decide) (by rw [faulted]; decide)
  have on' : ((s.faultLane (otherLane l) d).pwr.state == .safeStop) = false := by simpa [State.faultLane_pwr] using on
  rw [State.referee2, if_neg (by simpa using otherLane_ne l), moduleWide_low hc, moduleWide_low hd, active]
  simp only [Bool.or_false, Bool.false_eq_true, if_false, decide_true, Bool.true_or, if_true]
  rw [first, on']
  simp only [Bool.false_eq_true, if_false]
  rw [second, State.recordLower, (State.safeStop_parts ..).1]
  rfl

/-! The read-back of the Lid's signals (R344) and YIELD (R346). -/

theorem passed_now (tc : Tc) {n : Nat} (h : 0 < n) : passed tc tc n = false := by
  rw [passed, decide_eq_false_iff_not, BitVec.sub_self]
  simpa using h.ne'

theorem State.takeBack_odd (s : State) (back : LidPins) (tc : Tc) :
    (s.takeBack back tc).lan.odd = if back == s.lan.pins then none else some (s.lan.odd.getD tc) := rfl

/-- A read-back is a fault where it disagrees, and has done so for n ticks (R344). -/
theorem State.heldFor_odd (s : State) (back : LidPins) (tc : Tc) {n : Nat} (h : 0 < n) :
    heldFor (s.takeBack back tc).lan.odd n tc = true ↔ back ≠ s.lan.pins ∧ ∃ t0, s.lan.odd = some t0 ∧ passed tc t0 n = true := by
  rw [State.takeBack_odd]
  by_cases same : back = s.lan.pins
  · simp [same, heldFor]
  · rw [if_neg (by simpa using same)]
    cases odd : s.lan.odd with
    | none => simp [heldFor, passed_now tc h]
    | some t0 => simp [heldFor, same]

theorem exec_lidReadbackFault {s : State} {back : LidPins} {tc : Tc} (powered : s.lanesPowered = true) :
    exec (.lidReadbackFault ⟨back, tc⟩) s = .next (if heldFor (s.takeBack back tc).lan.odd 50 tc then
      ((s.takeBack back tc).faultLane (s.takeBack back tc).lidLane 11).safeStop 2 11 tc else s.takeBack back tc) := by
  rw [show exec (.lidReadbackFault ⟨back, tc⟩) s = execLidReadbackFault ⟨back, tc⟩ s from rfl, execLidReadbackFault, if_neg (by simp [powered])]

theorem exec_yield (o : Origin) (tc : Tc) (s : State) : exec (.yield ⟨o, tc⟩) s = .next (s.yield o tc) := rfl

theorem State.yield_refused {s : State} {o : Origin} {tc : Tc} (h : s.portRefusal o ≠ none ∨ s.lan.fw = false) : s.yield o tc = s := by
  refine if_neg ?_
  rcases h with h | h
  · simp [h]
  · simp [h]

theorem State.yield_taken {s : State} {o : Origin} {tc : Tc} (lid : s.portRefusal o = none) (fw : s.lan.fw = true) : s.yield o tc = s.referee o.lane 7 tc :=
  if_pos (by simp [lid, fw])

/-- Settles O51: each clause is the referee's row for the lane's state. -/
theorem laneFaults : Obligations.LaneFaults := by
  refine ⟨?takeover, ?alone, ?waiting, ?check, ?wide, ?sameLane, ?eachLane, ?readback, ?kept, ?refused, ?yield⟩
  case takeover =>
    intro s l cls tc powered low high active other usable
    rw [exec_laneFault tc powered (State.takesFault_of low (by omega) (by rw [active]; decide) (by rw [active]; decide)), State.referee_takeover high active other]
    exact ⟨_, rfl, State.takeover_takenOver l tc (by omega) usable⟩
  case alone =>
    intro s l cls tc powered low high active standby check
    rw [exec_laneFault tc powered (State.takesFault_of low (by omega) (by rw [active]; decide) (by rw [active]; decide)), State.referee_alone high active standby check]
    obtain ⟨state, lid, cause, class_, own, fault⟩ := s.faultedStop l (cause := 1) (cls := cls) tc (by decide) (by omega)
    obtain ⟨-, -, -, stopTc, running⟩ := (s.faultLane l cls).safeStop_parts 1 cls tc
    exact ⟨_, rfl, state, lid, stopTc, running, cause, class_, own, fault⟩
  case waiting =>
    intro s l cls tc powered low high state other
    have off : s.laneState l ≠ lnOff := by rcases state with h | h | h <;> rw [h] <;> decide
    have faulted : s.laneState l ≠ lnFaulted := by rcases state with h | h | h <;> rw [h] <;> decide
    rw [exec_laneFault tc powered (State.takesFault_of low (by omega) off faulted), State.referee_waiting high state other]
  case check =>
    intro s l cls tc powered low high check
    rw [exec_laneFault tc powered (State.takesFault_of low (by omega) (by rw [check]; decide) (by rw [check]; decide)), State.referee_check high check]
    have event : Writes 13 [0xd0014, 0xd0018] (s.faultLane l 10) ((s.faultLane l 10).event Ev.LAN_STBY_LOST) := Writes.refl.event _
    obtain ⟨raised, counted⟩ := (s.faultLane l 10).event_raised Ev.LAN_STBY_LOST (by decide)
    refine ⟨_, rfl, ?_, ?_, ⟨raised, ?_⟩, rfl⟩
    · exact (event.fld (by rw [laneField_addr]) (by rw [laneField_addr]; decide)).trans (s.laneState_faultLane_same l 10)
    · exact (event.fld (by rw [laneFaultField_addr]) (by rw [laneFaultField_addr]; decide)).trans (s.fault_faultLane_same l (by decide))
    · rw [counted, (s.faultLane_writes l 10).fld]
  case wide =>
    intro s l cls tc powered low high off faulted
    rw [exec_laneFault tc powered (State.takesFault_of (by omega) high off faulted), State.referee_wide (moduleWide_high low high)]
    obtain ⟨state, lid, cause, class_, own, -⟩ := s.faultedStop l (cause := 2) (cls := cls) tc (by decide) (by omega)
    exact ⟨_, rfl, state, lid, cause, class_, own⟩
  case sameLane =>
    intro s l c d tc powered c1 c10 d1 d10 off faulted
    have takes (k : Fin 16) (low : 1 ≤ k.val) (high : k.val ≤ 10) := State.takesFault_of low (by omega) off faulted
    have lower : (if c ≤ d then c else d).val = min c.val d.val := by
      split
      · next h => exact (Nat.min_eq_left h).symm
      · next h => exact (Nat.min_eq_right (Nat.le_of_not_le h)).symm
    rw [exec_laneFault_two tc powered (takes c c1 c10) (takes d d1 d10), State.referee2_same c10 d10,
      exec_laneFault tc powered (takes _ (by omega) (by omega)), lower]
  case eachLane =>
    intro s l c d tc powered c1 c10 d1 d10 active standby
    have on : s.pwr.state ≠ .safeStop := by
      rintro h
      simp [State.lanesPowered, h] at powered
    rw [exec_laneFault_two tc powered (State.takesFault_of c1 (by omega) (by rw [active]; decide) (by rw [active]; decide))
      (State.takesFault_of (l := otherLane l) d1 (by omega) (by rw [standby]; decide) (by rw [standby]; decide)), State.referee2_each c10 d10 on active standby]
    have before : Writes 13 [0xd0000, 0xd0030] s ((s.faultLane (otherLane l) d).faultLane l c) :=
      (s.faultLane_writes (otherLane l) d).andThen (State.faultLane_writes _ l c)
    obtain ⟨state, lid, cause, -, own, fault⟩ := (s.faultLane (otherLane l) d).faultedStop l (cause := 1) (cls := c) tc (by decide) (by omega)
    have other : ((s.faultLane (otherLane l) d).faultLane l c).laneState (otherLane l) = lnFaulted :=
      (State.laneState_faultLane_other _ l c).trans (s.laneState_faultLane_same (otherLane l) d)
    have otherFault : ((s.faultLane (otherLane l) d).faultLane l c).fld (laneFaultField (otherLane l)) = d :=
      (State.fault_faultLane_other _ l c).trans (s.fault_faultLane_same (otherLane l) (by omega))
    have stopped := ((s.faultLane (otherLane l) d).faultLane l c).safeStop_writes 1 c tc
    have otherOff := State.laneState_safeStop 1 c tc other
    have otherKept := (stopped.fld (g := laneFaultField (otherLane l)) (by rw [laneFaultField_addr]) (by rw [laneFaultField_addr]; decide)).trans otherFault
    generalize ((s.faultLane (otherLane l) d).faultLane l c).safeStop 1 c tc = u at *
    have lower : min (u.fld F.LAN_FAULT_A) (u.fld F.LAN_FAULT_B) = min c.val d.val := by
      cases l
      · exact congrArg₂ min fault otherKept
      · exact (congrArg₂ min otherKept fault).trans (Nat.min_comm ..)
    refine ⟨_, rfl, state, lid, ?_, ?_, ?_, ?_, ?_⟩
    · rw [State.fld_put_addr _ _ (by decide), stopped.fld, before.fld]
    · rw [State.fld_put_bits _ _ (by decide), cause]
    · rw [State.fld_put_same _ _ _ (by decide), lower]
      exact Nat.mod_eq_of_lt (show min c.val d.val < 256 by omega)
    · rw [State.laneState_put _ _ (.inl (by decide)), own]
    · rw [State.laneState_put _ _ (.inl (by decide)), otherOff]
  case readback =>
    intro s back tc t0 powered differs odd held
    have fault := (s.heldFor_odd back tc (n := 50) (by decide)).mpr ⟨differs, t0, odd, held⟩
    rw [exec_lidReadbackFault powered, if_pos fault]
    obtain ⟨state, lid, cause, class_, own, -⟩ := (s.takeBack back tc).faultedStop (s.takeBack back tc).lidLane (cause := 2) (cls := 11) tc (by decide) (by decide)
    obtain ⟨-, -, control, stopTc, -⟩ := ((s.takeBack back tc).faultLane (s.takeBack back tc).lidLane 11).safeStop_parts 2 11 tc
    exact ⟨_, rfl, state, lid, control, stopTc, cause, class_, own⟩
  case kept =>
    intro s back tc powered agrees
    rw [exec_lidReadbackFault powered, if_neg]
    rw [s.heldFor_odd back tc (by decide)]
    rintro ⟨differs, t0, odd, held⟩
    rcases agrees with same | early
    · exact differs same
    · exact absurd held (Bool.eq_false_iff.mp (early t0 odd))
  case refused =>
    intro s o tc h
    rw [exec_yield, State.yield_refused h]
  case yield =>
    intro s o l tc lid own fw active other usable
    subst own
    rw [exec_yield, State.yield_taken lid fw, State.referee_takeover (by decide) active other]
    obtain ⟨gone, -, control, restores, -, lastClass, -, -, raised, -⟩ := State.takeover_takenOver (s := s) o.lane (cls := 7) tc (by decide) usable
    exact ⟨_, rfl, gone, control, lastClass, raised, restores⟩

end Sys2Proof.Machine
end

section
/-! Onward: what the operations after the limits of a commit point leave of sets, limits, sleep and program (R34, R104, R341, R353). -/
namespace Sys2Proof.Machine

open Sys2Proof

-- Default arguments by tactic wait for the declarations before: begun all at once the proofs below would each hold a thread and its stack.
set_option Elab.async false

/-! What is settled at a commit point and what the rest of it may still change. -/

/-- No set is submitted and none is shown (R100). -/
def State.NoSet (s : State) : Prop := s.cfg.submitted = [] ∧ s.fld F.CFG_LS_STAT_STATE = lsIdle

/-- The contributions held and whether a limit set is in force (R34). -/
def Dsp.limits (d : Dsp) : Option Contribution × Option Contribution × Bool := (d.heldD, d.heldT, d.inForce)

/-- From r to s no set is applied and no limit taken, no request to sleep arises and no program is loaded; of the objects of block 13 only those at l have changed,
of block 2 only those at k. -/
structure Onward (l k : List Nat) (r s : State) : Prop where
  lane : Writes 13 l r s
  set : Writes 2 k r s
  noSet : r.NoSet → s.NoSet
  limits : s.dsp.limits = r.dsp.limits
  awake : r.pwr.request = none → s.pwr.request = none
  prog : s.seq.prog = r.seq.prog

/-- The parts CFG, DSP, SEQ, PWR and block 2 are not of m. -/
def sparesCommit (m : Nat) : Bool := [6, 15, 23, 24, 34].all fun i => !m.testBit i

theorem Moved.spared {m : Nat} {r s : State} (h : Moved m r s) (hm : sparesCommit m = true) :
    s.cfg = r.cfg ∧ s.dsp = r.dsp ∧ s.seq = r.seq ∧ s.pwr = r.pwr ∧ Writes 2 [] r s := by
  simp only [sparesCommit, List.all_cons, List.all_nil, Bool.and_true, Bool.and_eq_true, Bool.not_eq_true'] at hm
  obtain ⟨cfg, dsp, seq, pwr, block⟩ := hm
  exact ⟨h.same 6 cfg, h.same 15 dsp, h.same 23 seq, h.same 24 pwr, .ofMoved h (by rw [block]; rfl)⟩

theorem State.NoSet.kept {r s : State} (h : r.NoSet) (submitted : s.cfg.submitted = r.cfg.submitted) (state : s.fld F.CFG_LS_STAT_STATE = r.fld F.CFG_LS_STAT_STATE) :
    s.NoSet := ⟨submitted.trans h.1, state.trans h.2⟩

/-- The program that is loaded binds no variable to an object. -/
def State.Unbound (s : State) : Prop := ∀ x ∈ s.seqVars, x.binding = none

namespace Onward

variable {l k l' k' : List Nat} {r s t : State}

theorem refl : Onward l k r r := ⟨.refl, .refl, id, rfl, id, rfl⟩

theorem andThen (h : Onward l k r s) (g : Onward l' k' s t) (sub : l' ⊆ l := by decide) (sub' : k' ⊆ k := by decide) : Onward l k r t :=
  ⟨h.lane.andThen g.lane sub, h.set.andThen g.set sub', g.noSet ∘ h.noSet, g.limits.trans h.limits, g.awake ∘ h.awake, g.prog.trans h.prog⟩

theorem trans (h : Onward l k r s) (g : Onward l k s t) : Onward l k r t := h.andThen g (List.Subset.refl _) (List.Subset.refl _)

theorem ofWrites {m : Nat} (w : Writes 13 l r s) (h : Moved m r s) (hm : sparesCommit m = true := by rfl) : Onward l k r s := by
  obtain ⟨cfg, dsp, seq, pwr, block⟩ := h.spared hm
  exact ⟨w, Writes.refl.andThen block (List.nil_subset _), fun no => no.kept (congrArg Cfg.submitted cfg) block.fld, congrArg Dsp.limits dsp,
    fun none => (congrArg Pwr.request pwr).trans none, congrArg Seq.prog seq⟩

theorem ofMoved {m : Nat} (h : Moved m r s) (hm : sparesCommit m = true := by rfl) (h13 : (decide (13 < 22) && !m.testBit (13 + 32)) = true := by rfl) :
    Onward l k r s := ofWrites (.ofMoved h h13) h hm

theorem andWrites {m : Nat} (h : Onward l k r s) (w : Writes 13 l' s t) (g : Moved m s t) (sub : l' ⊆ l := by decide) (hm : sparesCommit m = true := by rfl) :
    Onward l k r t := h.andThen (ofWrites (k := k) w g hm) sub (List.Subset.refl _)

theorem andMoved {m : Nat} (h : Onward l k r s) (g : Moved m s t) (hm : sparesCommit m = true := by rfl)
    (h13 : (decide (13 < 22) && !m.testBit (13 + 32)) = true := by rfl) : Onward l k r t :=
  h.trans (ofMoved g hm h13)

theorem ite {c : Prop} [Decidable c] (h : Onward l k r s) (g : Onward l k r t) : Onward l k r (if c then s else t) := by
  split
  · exact h
  · exact g

theorem foldl {α : Type} {xs : List α} {f : State → α → State} (h : Onward l k r s) (keep : ∀ t x, Onward l k r t → Onward l k r (f t x)) :
    Onward l k r (xs.foldl f s) := by
  induction xs generalizing s with
  | nil => exact h
  | cons x xs ih => exact ih (keep s x h)

/-- A change of other parts than objects, with its bookkeeping. -/
theorem ofObjs (objs : t.objs = s.objs) (submitted : t.cfg.submitted = s.cfg.submitted) (limits : t.dsp.limits = s.dsp.limits)
    (awake : s.pwr.request = none → t.pwr.request = none) (prog : t.seq.prog = s.seq.prog) : Onward l k s t := by
  have rd (a : Nat) : t.rd a = s.rd a := congrArg (Cells.get · a) objs
  exact ⟨⟨fun a _ _ => rd a⟩, ⟨fun a _ _ => rd a⟩, fun no => no.kept submitted (State.fld_of_rd (rd _)), limits, awake, prog⟩

theorem andObjs (h : Onward l k r s) (objs : t.objs = s.objs) (submitted : t.cfg.submitted = s.cfg.submitted) (limits : t.dsp.limits = s.dsp.limits)
    (awake : s.pwr.request = none → t.pwr.request = none) (prog : t.seq.prog = s.seq.prog) : Onward l k r t :=
  h.trans (ofObjs objs submitted limits awake prog)

theorem wr (h : Onward l k r s) (a : Nat) (v : Word) (h2 : a / 0x10000 ≠ 2 := by decide) (h13 : a / 0x10000 ≠ 13 ∨ a ∈ l := by decide) :
    Onward l k r (s.wr a v) := by
  have other {c : Nat} (ne : c ≠ a) : (s.wr a v).rd c = s.rd c := State.rd_wr_other _ _ ne
  have own : Onward l k s (s.wr a v) :=
    ⟨⟨fun c hc hl => other fun e => h13.elim (fun n => n (e ▸ hc)) fun m => hl (e ▸ m)⟩, ⟨fun c hc _ => other fun e => h2 (e ▸ hc)⟩,
      fun no => no.kept rfl (State.fld_of_rd (other fun e => h2 (e ▸ rfl))), rfl, id, rfl⟩
  exact h.trans own

theorem put (h : Onward l k r s) (f : Field) (x : Nat) (h2 : f.addr / 0x10000 ≠ 2 := by decide)
    (h13 : f.addr / 0x10000 ≠ 13 ∨ f.addr ∈ l := by decide) : Onward l k r (s.put f x) := h.wr f.addr _ h2 h13

theorem putFlag (h : Onward l k r s) (f : Field) (x : Bool) (h2 : f.addr / 0x10000 ≠ 2 := by decide)
    (h13 : f.addr / 0x10000 ≠ 13 ∨ f.addr ∈ l := by decide) : Onward l k r (s.putFlag f x) := h.put f _ h2 h13

theorem event (h : Onward l k r s) (e : EventFlag) (h2 : e.flag.addr / 0x10000 ≠ 2 := by decide) (h2' : e.cnt.addr / 0x10000 ≠ 2 := by decide)
    (h13 : e.flag.addr / 0x10000 ≠ 13 ∨ e.flag.addr ∈ l := by decide) (h13' : e.cnt.addr / 0x10000 ≠ 13 ∨ e.cnt.addr ∈ l := by decide) :
    Onward l k r (s.event e) := (h.put e.flag 1 h2 h13).put e.cnt _ h2' h13'

theorem unbound (h : Onward l k r s) (u : r.Unbound) : s.Unbound := by
  rw [State.Unbound, State.seqVars, h.prog]
  exact u

end Onward

/-! The displaced lane's work and the lanes' own operations go onward. -/

/-- The object with the state of the live sets (R98). -/
def setStateObjs : List Nat := [0x20044]

theorem State.staleTransfer_onward (s : State) (sink : Nat) : Onward staleObjs setStateObjs s (s.staleTransfer sink) :=
  .ofWrites (s.staleTransfer_writes sink) (s.staleTransfer_moved sink)

theorem State.dropStaged_onward (s : State) : Onward staleObjs setStateObjs s s.dropStaged := by
  have counted : Onward staleObjs setStateObjs s (forUpTo (bitN s.dsp.stagedD.isSome + bitN s.dsp.stagedT.isSome) (fun _ s => s.staleTransfer 2) s) :=
    forUpTo_keeps .refl fun _ t h => h.andThen (t.staleTransfer_onward 2)
  refine .put ?_ F.DSP_STAT_RUN 0
  exact counted.andObjs rfl rfl rfl id rfl

theorem State.lsWithdraw_onward (s : State) : Onward staleObjs setStateObjs s s.lsWithdraw := by
  have kept := s.lsWithdraw_moved
  refine ⟨.ofMoved kept, ?_, ?_, congrArg Dsp.limits (kept.same 15 rfl), fun none => (congrArg Pwr.request (kept.same 24 rfl)).trans none,
    congrArg Seq.prog (kept.same 23 rfl)⟩
  · have dropped : Writes 2 setStateObjs s (if s.fld F.CFG_LS_STAT_STATE != lsIdle then s.dropSubmitted else s) :=
      .ite ⟨(Writes.refl.put F.CFG_LS_STAT_STATE lsIdle).rd⟩ .refl
    exact ⟨((dropped.put F.CFG_LS_STAT_OPEN_CNT 0).put F.CFG_LS_STAT_OVF 0).rd⟩
  · rintro ⟨submitted, idle⟩
    rw [State.lsWithdraw, idle]
    refine ⟨submitted, Eq.trans ?_ idle⟩
    exact (State.fld_put_bits _ _ (by decide)).trans (State.fld_put_bits _ _ (by decide))

theorem State.loseWrites_onward (s : State) : Onward staleObjs setStateObjs s s.loseWrites := by
  have stale (r : State) := r.staleTransfer_onward 8
  have copy (r : State) : Onward staleObjs setStateObjs r r.loseCopy := by
    refine .ite (.trans (.putFlag ?_ F.EST_STAT_WB_BUSY false) (stale _)) .refl
    exact .ofObjs rfl rfl rfl id rfl
  have record (r : State) : Onward staleObjs setStateObjs r r.loseRecord := by
    refine .ite (.trans ?_ (stale _)) .refl
    exact .ofObjs rfl rfl rfl id rfl
  have cause (r : State) : Onward staleObjs setStateObjs r r.loseCause := by
    refine .ite (.trans ?_ (stale _)) .refl
    exact .ofObjs rfl rfl rfl id rfl
  exact (Onward.trans (.ite ((copy s).andThen (stale _)) (copy s)) (record _)).andThen (cause _)

theorem State.loseChange_onward (s : State) : Onward staleObjs setStateObjs s s.loseChange := by
  refine .ite (.event (.put ?_ F.SEQ_OLC_STAT_CODE 5) Ev.SEQ_OLC_DONE) .refl
  exact .ofObjs rfl rfl rfl id rfl

theorem State.withdraw_onward (s : State) (l : Lane) : Onward staleObjs setStateObjs s (s.withdraw l) := by
  have halted : Onward staleObjs setStateObjs s s.cteHalt := .ofMoved s.cteHalt_moved
  have dropped := ((halted.andWrites (State.potDiscard_writes _ l) (State.potDiscard_moved _ l)).andWrites
    (State.loseFrame_writes _ (s.pot.buffer.any fun w => w.lane == l && decide (areaBase 0 ≤ w.addr))) (State.loseFrame_moved ..)).andThen (State.dropStaged_onward _)
  have lost := (((dropped.andThen (State.lsWithdraw_onward _)).andThen (State.loseWrites_onward _)).andThen (State.loseChange_onward _)).andMoved
    (State.holdCoils_moved _)
  have silent := ((lost.andWrites (State.canWithdraw_writes _) (State.canWithdraw_moved _)).andMoved (State.ethWithdraw_moved _)).andMoved (State.updWithdraw_moved _)
  refine .put ?_ F.REC_STAT_HOLD 0
  exact silent.andObjs rfl rfl rfl id rfl

/-- The objects of block 13 that the referee may change: all but LAN_CFG and the count of commit points. -/
def refereeObjs : List Nat :=
  [0xd0000, 0xd000c, 0xd0014, 0xd0018, 0xd001c, 0xd0020, 0xd0024, 0xd0028, 0xd002c, 0xd0030, 0xd0034, 0xd0038, 0xd003c, 0xd0040, 0xd0044]

theorem State.safeStop_onward (s : State) (cause cls : Nat) (tc : Tc) : Onward refereeObjs setStateObjs s (s.safeStop cause cls tc) := by
  have moved := s.safeStop_moved cause cls tc
  have set : Writes 2 [] s (s.safeStop cause cls tc) := .ofMoved moved
  refine ⟨Writes.refl.andThen (s.safeStop_writes cause cls tc), Writes.refl.andThen set, fun no => no.kept (congrArg Cfg.submitted (moved.same 6 rfl)) set.fld,
    congrArg Dsp.limits (moved.same 15 rfl), fun _ => ?_, congrArg Seq.prog (moved.same 23 rfl)⟩
  rw [State.safeStop_eq]

theorem State.faultLane_onward (s : State) (l : Lane) (cls : Nat) : Onward refereeObjs setStateObjs s (s.faultLane l cls) :=
  Onward.refl.andWrites (s.faultLane_writes l cls) (s.faultLane_moved l cls)

theorem State.displaced_onward (s : State) (l : Lane) (cls : Nat) (tc : Tc) : Onward refereeObjs setStateObjs s (s.displaced l cls tc) := by
  have due : Onward refereeObjs setStateObjs s (s.writeDue (tc.toNat + 1)) := .ofMoved (State.writeDue_moved ..)
  have left := (due.andMoved (State.withLan_moved _ ((s.writeDue (tc.toNat + 1)).lan.displaced l cls tc))).andThen (State.withdraw_onward _ l)
  exact (left.andWrites (State.setLane_writes _ (otherLane l) lnRestore) (State.setLane_moved ..)).put F.LAN_STAT_MGMT_PEND 1

theorem State.takeoverShown_onward (s : State) (l : Lane) (cls : Nat) (tc : Tc) : Onward refereeObjs setStateObjs s (s.takeoverShown l cls tc) :=
  Onward.refl.andWrites (s.takeoverShown_writes l cls tc) (s.takeoverShown_moved l cls tc)

theorem State.controlStep_onward (s : State) (l : Lane) (cls : Nat) (tc : Tc) : Onward refereeObjs setStateObjs s (s.controlStep l cls tc) := by
  have shown := (s.displaced_onward l cls tc).trans (State.takeoverShown_onward _ l cls tc)
  rw [State.controlStep_eq]
  exact .ite ((shown.trans (State.faultLane_onward ..)).trans (State.safeStop_onward ..)) shown

theorem State.takeover_onward (s : State) (l : Lane) (cls : Nat) (tc : Tc) : Onward refereeObjs setStateObjs s (s.takeover l cls tc) := by
  have retired : Onward refereeObjs setStateObjs s (s.retired l cls) := Onward.refl.andWrites (s.retired_writes l cls) (s.retired_moved l cls)
  rw [State.takeover_eq]
  exact retired.trans (State.controlStep_onward ..)

/-- A fault of class 1 to 10 goes onward, whatever the lane's state (R341). -/
theorem State.referee_onward (s : State) (l : Lane) (cls : Nat) (tc : Tc) : Onward refereeObjs setStateObjs s (s.referee l cls tc) := by
  have stop (k cause c : Nat) : Onward refereeObjs setStateObjs s ((s.faultLane l k).safeStop cause c tc) :=
    (s.faultLane_onward l k).trans (State.safeStop_onward ..)
  have waits := s.faultLane_onward l cls
  exact .ite (stop ..) (.ite (.ite (s.takeover_onward l cls tc) (stop ..)) (.ite (stop ..)
    (.ite ((s.faultLane_onward l 10).event Ev.LAN_STBY_LOST) (.ite (.ite (stop ..) waits) .refl))))

/-- The count of misses is shown and the heartbeats begin anew (R347). -/
def State.missNoted (s : State) (n : Nat) : State := (s.withLan { s.lan with beats := 0, wrong := false }).put F.LAN_HB_MISS n

/-- The misses in a row: none after one right heartbeat since the last commit point, else one more (R347). -/
def State.missCount (s : State) : Nat := if s.lan.beats != 1 || s.lan.wrong then s.fld F.LAN_HB_MISS + 1 else 0

theorem State.watchHeartbeat_eq {s : State} {l : Lane} (tc : Tc) (lid : s.lan.lid = some l) (fw : s.lan.fw = true) : s.watchHeartbeat tc =
    if 2 ≤ s.missCount then (s.missNoted (min 2 s.missCount)).referee l 6 tc else s.missNoted (min 2 s.missCount) := by
  rw [State.watchHeartbeat, lid]
  exact if_pos fw

theorem State.watchHeartbeat_onward (s : State) (tc : Tc) : Onward refereeObjs setStateObjs s (s.watchHeartbeat tc) := by
  have noted (n : Nat) : Onward refereeObjs setStateObjs s (s.missNoted n) :=
    .put (.ofMoved (State.withLan_moved ..)) F.LAN_HB_MISS n
  cases lid : s.lan.lid with
  | none =>
    rw [State.watchHeartbeat, lid]
    exact .refl
  | some l =>
    by_cases fw : s.lan.fw = true
    · rw [s.watchHeartbeat_eq tc lid fw]
      exact .ite ((noted _).trans (State.referee_onward ..)) (noted _)
    · rw [State.watchHeartbeat, lid]
      show Onward _ _ s (if s.lan.fw = true then _ else s)
      rw [if_neg fw]
      exact .refl

theorem State.judgeHeartbeat_onward (s : State) (managed : Bool) (tc : Tc) : Onward refereeObjs setStateObjs s (s.judgeHeartbeat managed tc) := by
  have judged : Onward refereeObjs setStateObjs s
      (if s.lan.watched && !managed then s.watchHeartbeat tc else s.withLan { s.lan with beats := 0, wrong := false }) :=
    .ite (s.watchHeartbeat_onward tc) (.ofMoved (State.withLan_moved ..))
  exact judged.andObjs rfl rfl rfl id rfl

/-! The rest of a commit point of the lane in charge. -/

/-- The objects of block 13 that the lane in charge may change: its level, the stale transfers, the frames, the age of the standby test. -/
def chargeObjs : List Nat := [0xd0000, 0xd0014, 0xd001c, 0xd0020, 0xd0038, 0xd003c, 0xd0040]

theorem State.setLevel_writes (s : State) (pl : Nat) : Writes 13 [0xd0000] s (s.setLevel pl) := ⟨(Writes.refl.put F.LAN_STAT_PL pl).rd⟩

theorem State.setLevel_onward (s : State) (pl : Nat) : Onward chargeObjs setStateObjs s (s.setLevel pl) :=
  Onward.refl.andWrites (s.setLevel_writes pl) (s.setLevel_moved pl)

theorem State.agedCheck_onward (s : State) (tc : Tc) : Onward chargeObjs setStateObjs s (s.agedCheck tc) := by
  have aged : Onward chargeObjs setStateObjs s (s.put F.DSP_STAT_AGED 1) := Onward.refl.put _ _
  unfold State.agedCheck
  refine .ite .refl ?_
  dsimp only
  split
  · exact aged
  · exact aged.andObjs rfl rfl rfl id rfl

theorem State.takeConfirm_onward (s : State) : Onward chargeObjs setStateObjs s s.takeConfirm := by
  refine .ite (.putFlag ?_ F.PRT_STAT_CLOSE_BLOCK _) .refl
  exact .ofObjs rfl rfl rfl id rfl

theorem State.queueCmd_writes (s : State) (n c : Nat) (o : Origin) : Writes 13 staleObjs s (s.queueCmd n c o) := by
  have stale : Writes 13 staleObjs s (s.noteStale o 4) := .ite .refl (s.staleTransfer_writes 4)
  unfold State.queueCmd
  split
  · exact stale.andMoved (State.refuseCmd_moved ..)
  · exact .ite ⟨fun _ _ _ => rfl⟩ (.ite (.ofMoved (State.refuseCmd_moved ..)) ⟨fun _ _ _ => rfl⟩)

theorem State.autoMatch_onward (s : State) : Onward chargeObjs setStateObjs s s.autoMatch := by
  refine .ofWrites (.ite ?_ .refl) s.autoMatch_moved
  exact Writes.refl.forUpTo fun n t h => .ite (h.andThen (t.queueCmd_writes n cmdMatch t.ownOrigin)) h

theorem State.showFrames_writes (s : State) : Writes 13 [0xd003c] s s.showFrames := by
  have shown (b c : Bool) (x : Nat) : Writes 13 [0xd003c] s (((s.putFlag F.LAN_SP_STAT_F0 b).putFlag F.LAN_SP_STAT_F1 c).put F.LAN_SP_STAT_LAST x) :=
    ((Writes.refl.putFlag _ _).putFlag _ _).put _ _
  unfold State.showFrames
  dsimp only
  split <;> exact shown ..

theorem State.setArea_writes (s : State) (i : Nat) (f : Option Frame) : Writes 13 [0xd003c] s (s.setArea i f) := by
  unfold State.setArea
  split <;> exact ⟨(State.showFrames_writes _).rd⟩

theorem State.beginFrame_onward (s : State) (tc : Tc) : Onward chargeObjs setStateObjs s (s.beginFrame tc) := by
  refine .ofWrites ?_ (s.beginFrame_moved tc)
  have missed : Writes 13 chargeObjs s (s.eventIf s.frames.due.isSome Ev.LAN_FRAME_MISS) := .ite (Writes.refl.event _) .refl
  unfold State.beginFrame
  dsimp only
  refine .andMoved (.andMoved (.andThen (l := chargeObjs) (k := [0xd003c]) ?_ (State.setArea_writes ..)) (State.potWrite_moved ..)) (State.took_moved _)
  exact ⟨missed.rd⟩

theorem State.showStandbyAge_onward (s : State) (tc : Tc) : Onward chargeObjs setStateObjs s (s.showStandbyAge tc) := .ite (Onward.refl.put _ _) .refl

theorem State.sendOut_onward (s : State) (x : SeqStation) (run : Bool) (tc : Tc) : Onward chargeObjs setStateObjs s (s.sendOut x run tc) := by
  unfold State.sendOut
  dsimp only
  refine .andMoved ?_ (State.canSend_moved ..)
  exact .ofObjs rfl rfl rfl id rfl

theorem State.sendOuts_onward (s : State) (run : Bool) (tc : Tc) : Onward chargeObjs setStateObjs s (s.sendOuts run tc) :=
  .foldl .refl fun t x h => h.trans (t.sendOut_onward x run tc)

theorem State.seqCommit_onward (s : State) (tc : Tc) : Onward chargeObjs setStateObjs s (s.seqCommit tc) := by
  have counted : Onward chargeObjs setStateObjs s (s.withSeq { s.seq with commits := s.seq.commits + 1 }) := .ofObjs rfl rfl rfl id rfl
  refine .ite .refl (.ite counted (.ite (counted.event Ev.SEQ_OVERRUN) (.ite ?_ (.ite (counted.trans (State.sendOuts_onward ..)) counted))))
  exact counted.andObjs rfl rfl rfl id rfl

theorem State.commitCycle_onward (s : State) (tc : Tc) : Onward chargeObjs setStateObjs s (s.commitCycle tc) := by
  have judged := (((s.agedCheck_onward tc).trans (State.takeConfirm_onward _)).trans (State.autoMatch_onward _)).andMoved (State.showTestAges_moved _ tc)
  exact (((judged.trans (State.beginFrame_onward _ tc)).trans (State.showStandbyAge_onward _ tc)).andMoved (State.showSession_moved _ tc)).trans
    (State.seqCommit_onward _ tc)

/-- A program without bound variables has no safe value to give out. -/
theorem State.safeOutputs_eq {s : State} (tc : Tc) (unbound : s.Unbound) :
    s.safeOutputs tc = (s.put F.SEQ_STAT_SAFE_OUT 1).sendOuts false tc := by
  unfold State.safeOutputs
  rw [List.foldl_ext _ (fun s _ => s) s fun t x hx => by rw [unbound x hx], List.foldl_fixed]

theorem State.programStart_onward {s : State} (tc : Tc) (unbound : s.Unbound) :
    Onward chargeObjs setStateObjs s (s.programStart tc) := by
  have started : Onward chargeObjs setStateObjs s (s.withSeq { s.seq with started := true, commits := 0 }) := .ofObjs rfl rfl rfl id rfl
  refine .ite .refl (.ite (.put ?_ F.SEQ_STAT_STATE _) ?_)
  · exact started.andObjs rfl rfl rfl id rfl
  · rw [State.safeOutputs_eq]
    · exact (started.put F.SEQ_STAT_SAFE_OUT 1).trans (State.sendOuts_onward ..)
    · exact unbound

theorem Onward.programStart {r s : State} (h : Onward chargeObjs setStateObjs r s) (tc : Tc) (unbound : r.Unbound) :
    Onward chargeObjs setStateObjs r (s.programStart tc) := h.trans (State.programStart_onward tc (h.unbound unbound))

theorem State.readyCheck_onward {s : State} (tc : Tc) (unbound : s.Unbound) : Onward chargeObjs setStateObjs s (s.readyCheck tc) := by
  have ready : Onward chargeObjs setStateObjs s (((s.put F.PWR_STAT_READY 1).setLevel (s.fld F.LAN_CFG_PL)).wr 0x140020 0) :=
    ((Onward.refl.put _ _).trans (State.setLevel_onward ..)).wr _ _
  refine .ite .refl (.ite (.programStart (.ite ready ?_) tc unbound) .refl)
  exact ready.andObjs rfl rfl rfl id rfl

/-- What follows the judgement of the heartbeats, in the lane in charge (R38). -/
def State.chargeStep (s : State) (m : RecMedia) (tc : Tc) : State := if s.inCharge then ((s.commitCycle tc).readyCheck tc).takeSleep m tc else s

theorem State.takeSleep_none {s : State} (m : RecMedia) (tc : Tc) (none : s.pwr.request = none) : s.takeSleep m tc = s := by rw [State.takeSleep, none]

theorem State.chargeStep_eq {s : State} (m : RecMedia) (tc : Tc) (none : s.pwr.request = none) (unbound : s.Unbound) :
    s.chargeStep m tc = if s.inCharge then (s.commitCycle tc).readyCheck tc else s := by
  have cycle := s.commitCycle_onward tc
  rw [State.chargeStep, State.takeSleep_none m tc ((State.readyCheck_onward tc (cycle.unbound unbound)).awake (cycle.awake none))]

theorem State.chargeStep_onward {s : State} (m : RecMedia) (tc : Tc) (none : s.pwr.request = none) (unbound : s.Unbound) :
    Onward chargeObjs setStateObjs s (s.chargeStep m tc) := by
  have cycle := s.commitCycle_onward tc
  rw [s.chargeStep_eq m tc none unbound]
  exact .ite (cycle.trans (State.readyCheck_onward tc (cycle.unbound unbound))) .refl

/-! A commit point up to the limits: it is counted, the management step done, a passed set and the staged limits applied (R34, R104, R353). -/

/-- The state as the submitted set is looked at. -/
def State.prepared (s : State) (tc : Tc) : State :=
  if (s.bump F.LAN_COMMIT_COUNT).countRound.lan.rebuilt then (s.bump F.LAN_COMMIT_COUNT).countRound.management tc else (s.bump F.LAN_COMMIT_COUNT).countRound

/-- The lane in charge shows its level. -/
def State.levelShown (s : State) : State := if s.inCharge then s.setLevel (if s.flag F.PWR_STAT_READY then s.fld F.LAN_CFG_PL else 3) else s

/-- The state as the heartbeats are judged, from the limits on. -/
def State.toJudge (s : State) (tc : Tc) : State := s.levelShown.canCommit.trackNoRing tc

theorem State.toJudge_onward (s : State) (tc : Tc) : Onward chargeObjs setStateObjs s (s.toJudge tc) := by
  have shown : Onward chargeObjs setStateObjs s s.levelShown := .ite (s.setLevel_onward _) .refl
  have tracked (r : State) : Onward chargeObjs setStateObjs r (r.trackNoRing tc) := .ofObjs rfl rfl rfl id rfl
  exact (shown.andMoved (State.canCommit_moved _)).trans (tracked _)

/-- The objects of the live sets that the report of an abandoned set writes (R100, R101). -/
def reportObjs : List Nat := [0x20048, 0x2004c, 0x20050, 0x20060, 0x20064]

theorem State.postOutcome_writes (s : State) (c addr : Nat) : Writes 2 reportObjs s (s.postOutcome c addr) :=
  (((Writes.refl.put _ _).put _ _).put _ _).event _

theorem State.lsReport_onward (s : State) : Onward refereeObjs reportObjs s s.lsReport := by
  have moved := s.lsReport_moved
  have told : Writes 2 reportObjs s (if s.cfg.abandonedDue then s.postOutcome 0x02 0 else s) := .ite (s.postOutcome_writes 2 0) .refl
  have set : Writes 2 reportObjs s s.lsReport := ⟨(told.put F.CFG_LS_LOST_LOST_CNT _).rd⟩
  refine ⟨.ofMoved moved, set, fun no => no.kept ?_ set.fld, congrArg Dsp.limits (moved.same 15 rfl), fun none => (congrArg Pwr.request (moved.same 24 rfl)).trans none,
    congrArg Seq.prog (moved.same 23 rfl)⟩
  unfold State.lsReport
  dsimp only
  split <;> rfl

theorem State.abandonEntry_onward (s : State) (tc : Tc) : Onward refereeObjs reportObjs s (s.abandonEntry tc) := by
  have moved := s.abandonEntry_moved tc
  have set : Writes 2 [] s (s.abandonEntry tc) := .ofMoved moved
  refine ⟨.ofMoved moved, Writes.refl.andThen set, fun no => no.kept (congrArg Cfg.submitted (moved.same 6 rfl)) set.fld, congrArg Dsp.limits (moved.same 15 rfl), ?_,
    congrArg Seq.prog (moved.same 23 rfl)⟩
  intro none
  unfold State.abandonEntry
  split
  · rfl
  · exact none

theorem State.dspStart_staged (s : State) (tc : Tc) : (s.dspStart tc).dsp.stagedD = s.dsp.stagedD ∧ (s.dspStart tc).dsp.stagedT = s.dsp.stagedT ∧
    (s.dspStart tc).dsp.limits = s.dsp.limits := by
  unfold State.dspStart
  split
  · dsimp only
    split <;> exact ⟨rfl, rfl, rfl⟩
  · exact ⟨rfl, rfl, rfl⟩

theorem State.dspStart_onward (s : State) (tc : Tc) : Onward refereeObjs reportObjs s (s.dspStart tc) := by
  have moved := s.dspStart_moved tc
  have set : Writes 2 [] s (s.dspStart tc) := .ofMoved moved
  obtain ⟨-, -, limits⟩ := s.dspStart_staged tc
  exact ⟨.ofMoved moved, Writes.refl.andThen set, fun no => no.kept (congrArg Cfg.submitted (moved.same 6 rfl)) set.fld, limits,
    fun none => (congrArg Pwr.request (moved.same 24 rfl)).trans none, congrArg Seq.prog (moved.same 23 rfl)⟩

end Sys2Proof.Machine
end

section
/-! Commits: what a commit point counts, applies and judges (R34 to R38, R100 to R105, R347). -/
namespace Sys2Proof.Machine

open Sys2Proof

-- Default arguments by tactic wait for the declarations before: begun all at once the proofs below would each hold a thread and its stack.
set_option Elab.async false

/-- The lanes' record as the management step begins (R353). -/
def State.laneManaged (s : State) (tc : Tc) : State :=
  s.withLan { s.lan with restoring := none, rebuilt := false, managed := true, mgmtTc := tc, requalTc := tc }

/-- The management step up to dispatch: the lane is ACTIVE, lost sets are reported, an entry into sleep abandoned (R353). -/
def State.managementBegun (s : State) (tc : Tc) : State :=
  let s := ((((s.setLane s.activeLane lnActive).put F.LAN_STAT_MGMT_PEND 0).put F.LAN_HB_MISS 0).laneManaged tc).lsReport.abandonEntry tc
  s.putFlag F.DSP_STAT_RUN (!s.blockDormant 10)

theorem State.laneManaged_moved (s : State) (tc : Tc) : Moved 0x400000 s (s.laneManaged tc) := State.withLan_moved ..

theorem State.managementBegun_moved (s : State) (tc : Tc) : Moved 0x11a47409640363 s (s.managementBegun tc) := by
  have active : Moved 0x11a47409640363 s (s.setLane s.activeLane lnActive) := (State.setLane_moved ..).widen
  have noted := State.put_moved (State.put_moved active F.LAN_STAT_MGMT_PEND 0 rfl) F.LAN_HB_MISS 0 rfl
  exact State.putFlag_moved (((noted.andThen (State.laneManaged_moved _ tc)).andThen (State.lsReport_moved _)).andThen (State.abandonEntry_moved ..)) _ _ rfl

theorem State.managementBegun_onward (s : State) (tc : Tc) : Onward refereeObjs reportObjs s (s.managementBegun tc) := by
  have active : Onward refereeObjs reportObjs s (s.setLane s.activeLane lnActive) := Onward.refl.andWrites (State.setLane_writes ..) (State.setLane_moved ..)
  have noted := ((active.put F.LAN_STAT_MGMT_PEND 0).put F.LAN_HB_MISS 0).andMoved (State.laneManaged_moved _ tc)
  exact ((noted.trans (State.lsReport_onward _)).trans (State.abandonEntry_onward _ tc)).putFlag F.DSP_STAT_RUN _

theorem State.management_eq (s : State) (tc : Tc) : s.management tc =
    let s := ((s.managementBegun tc).dspStart tc).restartWrites tc
    let s := s.withSeq { s.seq with commits := s.fld F.SEQ_CFG_CYCLE - 1 }
    s.setLevel (s.fld F.LAN_CFG_PL) := rfl

theorem State.management_onward (s : State) (tc : Tc) : Onward refereeObjs reportObjs s (s.management tc) := by
  have begun := ((s.managementBegun_onward tc).trans (State.dspStart_onward _ tc)).andMoved (State.restartWrites_moved _ tc)
  rw [State.management_eq]
  refine .andWrites (.trans begun ?_) (State.setLevel_writes ..) (State.setLevel_moved ..)
  exact .ofObjs rfl rfl rfl id rfl

theorem State.management_staged (s : State) (tc : Tc) : (s.management tc).dsp.stagedD = s.dsp.stagedD ∧ (s.management tc).dsp.stagedT = s.dsp.stagedT := by
  have same : (s.management tc).dsp = ((s.managementBegun tc).dspStart tc).dsp := by
    rw [State.management_eq]
    exact ((State.setLevel_moved ..).same 15 rfl).trans ((State.restartWrites_moved _ tc).same 15 rfl)
  obtain ⟨d, t, -⟩ := (s.managementBegun tc).dspStart_staged tc
  have before : (s.managementBegun tc).dsp = s.dsp := (s.managementBegun_moved tc).same 15 rfl
  rw [same, d, t, before]
  exact ⟨rfl, rfl⟩

/-! A set that has passed is applied (R104, R105). -/

theorem mergeRws_none {a : Nat} (old new : Word) (h : rwsMask a = 0) : mergeRws a old new = old := by
  have all : ~~~BitVec.ofNat 32 0 = BitVec.allOnes 32 := rfl
  rw [mergeRws, h, all, BitVec.and_allOnes, BitVec.and_zero, BitVec.or_zero]

/-- A write through the open staging leaves every object without a live-set field (R98). -/
theorem State.rd_putSet (s : State) (set : List (Nat × Word)) {a : Nat} (h : rwsMask a = 0) : (s.putSet set).rd a = s.rd a := by
  unfold State.putSet
  induction set generalizing s with
  | nil => rfl
  | cons e set ih =>
    rw [List.foldl_cons, ih]
    by_cases same : a = e.1
    · subst same
      rw [State.rd_wr_same, mergeRws_none _ _ h]
    · exact State.rd_wr_other _ _ same

/-- The set is put into the objects and its consequences drawn (R105). -/
def State.setPut (s : State) (tc : Tc) : State := (s.putSet s.cfg.submitted).applied s s.cfg.submitted tc

theorem State.setPut_rd (s : State) (tc : Tc) {a : Nat} (b : Nat) (ha : a / 0x10000 = b) (h : rwsMask a = 0)
    (hb : (decide (b < 22) && !Nat.testBit 0x20000006881 (b + 32)) = true := by rfl) : (s.setPut tc).rd a = s.rd a :=
  ((State.applied_moved ..).rd b ha hb).trans (s.rd_putSet _ h)

/-- The set has left the submission, its outcome is shown (R104). -/
def State.setDone (s : State) (tc : Tc) : State :=
  let s := s.dropSubmitted
  let s := (s.put F.CFG_LS_APPLY_PH_PHASE (s.phaseAt tc).toNat).put F.CFG_LS_APPLY_EPOCH_EPOCH (s.fld F.OBJ_EPOCH_LATEST)
  (s.bump F.CFG_LS_CNT_APPLIED).postOutcome 0x01 0

theorem State.lsApply_passed {s : State} (tc : Tc) (passed : s.fld F.CFG_LS_STAT_STATE = lsPassed) : s.lsApply tc = (s.setPut tc).setDone tc := if_pos passed

theorem State.lsApply_other {s : State} (tc : Tc) (other : s.fld F.CFG_LS_STAT_STATE ≠ lsPassed) : s.lsApply tc = s := if_neg other

theorem State.setDone_moved (s : State) (tc : Tc) : Moved 0x400000041 s (s.setDone tc) :=
  (State.bump_moved (State.put_moved (State.put_moved (State.dropSubmitted_moved s).widen _ _ rfl) _ _ rfl) _ rfl).andThen (State.postOutcome_moved ..)

theorem State.postOutcome_shown (s : State) {c : Nat} (addr : Nat) (hc : c < 256) : (s.postOutcome c addr).fld F.CFG_LS_OUT_CODE = c ∧
    (s.postOutcome c addr).fld F.CFG_LS_OUT_SEQ = s.fld F.CFG_LS_STAT_SEQ := by
  have late (r : State) : Writes 2 [0x20050, 0x20060, 0x20064] r ((r.put F.CFG_LS_FAIL_ADDR_ADDR addr).event Ev.CFG_LS_DONE) := (Writes.refl.put _ _).event _
  have seq : s.fld F.CFG_LS_STAT_SEQ < 2 ^ 16 := State.fld_lt ..
  unfold State.postOutcome
  dsimp only
  rw [(late _).fld, (late _).fld, State.fld_put_same _ _ _ (by decide), State.fld_put_bits _ _ (by decide), State.fld_put_same _ _ _ (by decide)]
  exact ⟨Nat.mod_eq_of_lt hc, Nat.mod_eq_of_lt seq⟩

theorem State.setDone_shown (s : State) (tc : Tc) : (s.setDone tc).NoSet ∧ (s.setDone tc).fld F.CFG_LS_OUT_CODE = 1 ∧
    (s.setDone tc).fld F.CFG_LS_OUT_SEQ = s.fld F.CFG_LS_STAT_SEQ ∧ (s.setDone tc).fld F.CFG_LS_CNT_APPLIED = (s.fld F.CFG_LS_CNT_APPLIED + 1) % 2 ^ 16 := by
  have dropped : Writes 2 [0x20044] s s.dropSubmitted := ⟨(Writes.refl.put F.CFG_LS_STAT_STATE lsIdle).rd⟩
  have seq : s.dropSubmitted.fld F.CFG_LS_STAT_SEQ = s.fld F.CFG_LS_STAT_SEQ := State.fld_put_bits _ _ (by decide)
  have idle : s.dropSubmitted.fld F.CFG_LS_STAT_STATE = lsIdle := State.fld_put_same _ _ _ (by decide)
  have noted (x y : Nat) : Writes 2 [0x20054, 0x20058] s.dropSubmitted ((s.dropSubmitted.put F.CFG_LS_APPLY_PH_PHASE x).put F.CFG_LS_APPLY_EPOCH_EPOCH y) :=
    (Writes.refl.put _ _).put _ _
  have counted (r : State) : Writes 2 [0x2005c] r (r.bump F.CFG_LS_CNT_APPLIED) := Writes.refl.bump _
  have submitted : (s.setDone tc).cfg.submitted = [] := rfl
  have told (r : State) := r.postOutcome_shown (c := 1) 0 (by decide)
  unfold State.NoSet
  rw [submitted]
  unfold State.setDone
  dsimp only
  rw [(State.postOutcome_writes ..).fld, (told _).1, (told _).2, (State.postOutcome_writes ..).fld, (counted _).fld, (noted ..).fld, idle,
    (counted _).fld, (noted ..).fld, seq, State.bump_eq, State.fld_put_same _ _ _ (by decide), (noted ..).fld, dropped.fld]
  exact ⟨⟨rfl, rfl⟩, rfl, rfl, rfl⟩

/-- The objects of block 13 without a live-set field are as they were. -/
theorem State.lsApply_rd (s : State) (tc : Tc) {a : Nat} (ha : a / 0x10000 = 13) (h : rwsMask a = 0) : (s.lsApply tc).rd a = s.rd a := by
  by_cases passed : s.fld F.CFG_LS_STAT_STATE = lsPassed
  · rw [State.lsApply_passed tc passed, (State.setDone_moved _ tc).rd 13 ha, s.setPut_rd tc 13 ha h]
  · rw [State.lsApply_other tc passed]

/-! The staged limits are taken (R34, R305). -/

theorem State.showSop_limits (s : State) : s.showSop.dsp.limits = s.dsp.limits := by
  unfold State.showSop
  split
  · rfl
  · change (forUpTo 4 _ s).dsp.limits = s.dsp.limits
    refine congrArg Dsp.limits (forUpTo_keeps (P := fun t => t.dsp = s.dsp) rfl fun h t kept => ?_)
    exact forUpTo_keeps (P := fun u => u.dsp = s.dsp) kept fun p u kept => by
      dsimp only
      split <;> exact kept

/-- Of two contributions the staged one is taken, else the held one stays. -/
def Contribution.taken (staged held : Option Contribution) : Option Contribution := match staged with
  | some c => some c
  | none => held

/-- The state with the contributions taken and the figures shown. -/
def State.limitsTaken (s : State) : State :=
  (s.withDsp { s.dsp with
    stagedD := none
    stagedT := none
    heldD := Contribution.taken s.dsp.stagedD s.dsp.heldD
    heldT := Contribution.taken s.dsp.stagedT s.dsp.heldT }).showSop

theorem State.limitsTaken_limits (s : State) : s.limitsTaken.dsp.limits =
    (Contribution.taken s.dsp.stagedD s.dsp.heldD, Contribution.taken s.dsp.stagedT s.dsp.heldT, s.dsp.inForce) := State.showSop_limits _

theorem State.applyLimits_eq (s : State) : s.applyLimits =
    match Contribution.taken s.dsp.stagedD s.dsp.heldD, Contribution.taken s.dsp.stagedT s.dsp.heldT with
    | some d, some t => (s.limitsTaken.withDsp { s.limitsTaken.dsp with inForce := true }).applyContributions d t
    | _, _ => s.limitsTaken := rfl

theorem State.applyLimits_limits (s : State) : s.applyLimits.dsp.heldD = Contribution.taken s.dsp.stagedD s.dsp.heldD ∧
    s.applyLimits.dsp.heldT = Contribution.taken s.dsp.stagedT s.dsp.heldT ∧
    (s.dsp.stagedD.isSome = true → s.dsp.stagedT.isSome = true → s.applyLimits.dsp.inForce = true) := by
  have taken := s.limitsTaken_limits
  simp only [Dsp.limits, Prod.mk.injEq] at taken
  obtain ⟨heldD, heldT, -⟩ := taken
  have applied (d t : Contribution) : ((s.limitsTaken.withDsp { s.limitsTaken.dsp with inForce := true }).applyContributions d t).dsp =
      { s.limitsTaken.dsp with inForce := true } := (State.applyContributions_moved ..).same 15 rfl
  rw [State.applyLimits_eq]
  split
  · next d t _ _ =>
    rw [applied d t]
    exact ⟨heldD, heldT, fun _ _ => rfl⟩
  · next none =>
    refine ⟨heldD, heldT, fun someD someT => ?_⟩
    obtain ⟨d, hd⟩ := Option.isSome_iff_exists.mp someD
    obtain ⟨t, ht⟩ := Option.isSome_iff_exists.mp someT
    exact absurd (congrArg (Contribution.taken · s.dsp.heldT) ht) (none d t (by rw [hd]; rfl))

/-! What a commit point settles up to the limits. -/

theorem State.countRound_onward (s : State) : Onward refereeObjs reportObjs s s.countRound := .ofMoved s.countRound_moved

theorem State.prepared_onward (s : State) (tc : Tc) : Onward refereeObjs reportObjs (s.bump F.LAN_COMMIT_COUNT) (s.prepared tc) :=
  .ite ((State.countRound_onward _).trans (State.management_onward _ tc)) (State.countRound_onward _)

theorem State.prepared_staged (s : State) (tc : Tc) : (s.prepared tc).dsp.stagedD = s.dsp.stagedD ∧ (s.prepared tc).dsp.stagedT = s.dsp.stagedT := by
  unfold State.prepared
  split
  · exact State.management_staged _ tc
  · exact ⟨rfl, rfl⟩

theorem State.prepared_unmanaged {s : State} (tc : Tc) (rebuilt : s.lan.rebuilt = false) : s.prepared tc = (s.bump F.LAN_COMMIT_COUNT).countRound :=
  if_neg (Bool.eq_false_iff.mp rebuilt)

/-- The commit point is counted, the passed set and the staged limits are applied. -/
def State.upToLimits (s : State) (tc : Tc) : State := ((s.prepared tc).lsApply tc).applyLimits

theorem State.upToLimits_count (s : State) (tc : Tc) : (s.upToLimits tc).fld F.LAN_COMMIT_COUNT = (s.fld F.LAN_COMMIT_COUNT + 1) % 2 ^ 32 := by
  have applied : ((s.prepared tc).lsApply tc).fld F.LAN_COMMIT_COUNT = (s.prepared tc).fld F.LAN_COMMIT_COUNT := State.fld_of_rd (State.lsApply_rd _ tc rfl (by decide))
  rw [State.upToLimits, (State.applyLimits_moved _).fld 13, applied, (s.prepared_onward tc).lane.fld, State.bump_eq, State.fld_put_same _ _ _ (by decide)]
  rfl

/-- What a commit point shows of a set that had passed (R104). -/
structure SetApplied (r s : State) : Prop where
  noSet : s.NoSet
  code : s.fld F.CFG_LS_OUT_CODE = 1
  seq : s.fld F.CFG_LS_OUT_SEQ = r.fld F.CFG_LS_STAT_SEQ
  count : s.fld F.CFG_LS_CNT_APPLIED = (r.fld F.CFG_LS_CNT_APPLIED + 1) % 2 ^ 16

theorem SetApplied.kept {r s t : State} (h : SetApplied r s) (noSet : t.NoSet) (set : Writes 2 setStateObjs s t) : SetApplied r t :=
  ⟨noSet, set.fld.trans h.code, set.fld.trans h.seq, set.fld.trans h.count⟩

theorem State.lsApply_applied {s : State} (tc : Tc) (passed : s.fld F.CFG_LS_STAT_STATE = lsPassed) : SetApplied s (s.lsApply tc) := by
  obtain ⟨noSet, code, seq, count⟩ := (s.setPut tc).setDone_shown tc
  have put (g : Field) (h : g.addr / 0x10000 = 2) (none : rwsMask g.addr = 0) : (s.setPut tc).fld g = s.fld g := State.fld_of_rd (s.setPut_rd tc 2 h none)
  rw [put _ rfl (by decide)] at seq count
  rw [State.lsApply_passed tc passed]
  exact ⟨noSet, code, seq, count⟩

theorem State.upToLimits_applied {s : State} (tc : Tc) (passed : s.fld F.CFG_LS_STAT_STATE = lsPassed) : SetApplied s (s.upToLimits tc) := by
  have prepared := (s.prepared_onward tc).set
  have counted (g : Field) (h : g.addr / 0x10000 = 2) : (s.bump F.LAN_COMMIT_COUNT).fld g = s.fld g :=
    State.fld_put_addr _ _ fun e => absurd (e ▸ h) (by decide)
  have limits : Writes 2 [] ((s.prepared tc).lsApply tc) (s.upToLimits tc) := .ofMoved (State.applyLimits_moved _)
  have cfg : (s.upToLimits tc).cfg = ((s.prepared tc).lsApply tc).cfg := (State.applyLimits_moved _).same 6 rfl
  obtain ⟨noSet, code, seq, count⟩ := State.lsApply_applied tc (s := s.prepared tc) (by rw [prepared.fld, counted _ rfl, passed])
  rw [prepared.fld, counted _ rfl] at seq count
  exact SetApplied.kept ⟨noSet, code, seq, count⟩ (noSet.kept (congrArg Cfg.submitted cfg) limits.fld) (Writes.refl.andThen limits)

theorem State.upToLimits_limits (s : State) (tc : Tc) : (∀ c, s.dsp.stagedD = some c → (s.upToLimits tc).dsp.heldD = some c) ∧
    (∀ c, s.dsp.stagedT = some c → (s.upToLimits tc).dsp.heldT = some c) ∧
    (s.dsp.stagedD.isSome = true → s.dsp.stagedT.isSome = true → (s.upToLimits tc).dsp.inForce = true) := by
  have applied : ((s.prepared tc).lsApply tc).dsp = (s.prepared tc).dsp := (State.lsApply_moved ..).same 15 rfl
  obtain ⟨stagedD, stagedT⟩ := s.prepared_staged tc
  obtain ⟨heldD, heldT, inForce⟩ := ((s.prepared tc).lsApply tc).applyLimits_limits
  rw [applied, stagedD] at heldD
  rw [applied, stagedT] at heldT
  rw [applied, stagedD, stagedT] at inForce
  exact ⟨fun c staged => heldD.trans (by rw [staged]; rfl), fun c staged => heldT.trans (by rw [staged]; rfl), inForce⟩

theorem State.upToLimits_awake {s : State} (tc : Tc) (none : s.pwr.request = none) : (s.upToLimits tc).pwr.request = .none := by
  rw [State.upToLimits, (State.applyLimits_moved _).same 24 rfl, (State.lsApply_moved ..).same 24 rfl]
  exact (s.prepared_onward tc).awake none

theorem State.upToLimits_unbound {s : State} (tc : Tc) (unbound : s.Unbound) : (s.upToLimits tc).Unbound := by
  rw [State.Unbound, State.seqVars, State.upToLimits, (State.applyLimits_moved _).same 23 rfl, (State.lsApply_moved ..).same 23 rfl]
  exact (s.prepared_onward tc).unbound unbound

/-! What follows the limits leaves it. -/

/-- A commit point from the limits on. -/
def State.fromLimits (s : State) (managed : Bool) (m : RecMedia) (tc : Tc) : State := ((s.toJudge tc).judgeHeartbeat managed tc).chargeStep m tc

theorem State.commitPoint_eq (s : State) (m : RecMedia) (tc : Tc) : s.commitPoint m tc = (s.upToLimits tc).fromLimits s.lan.rebuilt m tc := rfl

theorem State.fromLimits_onward {s : State} (managed : Bool) (m : RecMedia) (tc : Tc) (none : s.pwr.request = none) (unbound : s.Unbound) :
    Onward refereeObjs setStateObjs s (s.fromLimits managed m tc) := by
  have judged := (Onward.refl.andThen (s.toJudge_onward tc)).trans (State.judgeHeartbeat_onward _ managed tc)
  exact judged.andThen (State.chargeStep_onward m tc (judged.awake none) (judged.unbound unbound))

/-! The heartbeats of a lane that was in charge before (R347). -/

/-- What a commit point of the lane in charge leaves of the lanes' record, but for the judgement of the heartbeats. -/
def Lan.pinned (x : Lan) : Option Lane × Bool × Bool × Nat × Bool := (x.lid, x.fw, x.watched, x.beats, x.wrong)

theorem State.upToLimits_lan {s : State} (tc : Tc) (rebuilt : s.lan.rebuilt = false) : (s.upToLimits tc).lan = s.lan := by
  rw [State.upToLimits, (State.applyLimits_moved _).same 22 rfl, (State.lsApply_moved ..).same 22 rfl, State.prepared_unmanaged tc rebuilt,
    (State.countRound_moved _).same 22 rfl, State.bump_lan]

theorem State.upToLimits_miss {s : State} (tc : Tc) (rebuilt : s.lan.rebuilt = false) : (s.upToLimits tc).fld F.LAN_HB_MISS = s.fld F.LAN_HB_MISS := by
  have applied : ((s.prepared tc).lsApply tc).fld F.LAN_HB_MISS = (s.prepared tc).fld F.LAN_HB_MISS := State.fld_of_rd (State.lsApply_rd _ tc rfl (by decide))
  rw [State.upToLimits, (State.applyLimits_moved _).fld 13, applied, State.prepared_unmanaged tc rebuilt, (State.countRound_moved _).fld 13]
  exact State.fld_put_addr _ _ (by decide)

theorem State.setLevel_pinned (s : State) (pl : Nat) : (s.setLevel pl).lan.pinned = s.lan.pinned := by
  obtain ⟨a, b, h⟩ := Lan.putLevel_eq s.lan (s.put F.LAN_STAT_PL pl).activeLane (some pl)
  have pinned := congrArg Lan.pinned h
  exact pinned

theorem State.toJudge_pinned (s : State) (tc : Tc) : (s.toJudge tc).lan.pinned = s.lan.pinned := by
  have shown : s.levelShown.lan.pinned = s.lan.pinned := by
    unfold State.levelShown
    split
    · exact s.setLevel_pinned _
    · rfl
  rw [State.toJudge, (State.trackNoRing_moved ..).same 22 rfl, (State.canCommit_moved _).same 22 rfl, shown]

theorem State.setArea_lan (s : State) (i : Nat) (f : Option Frame) : (s.setArea i f).lan = s.lan := by
  unfold State.setArea
  split <;> exact (State.showFrames_moved _).same 22 rfl

theorem State.beginFrame_pinned (s : State) (tc : Tc) : (s.beginFrame tc).lan.pinned = s.lan.pinned := by
  have missed : (s.eventIf s.frames.due.isSome Ev.LAN_FRAME_MISS).lan = s.lan := by
    unfold State.eventIf
    split <;> rfl
  rw [← missed]
  unfold State.beginFrame
  dsimp only
  rw [(State.took_moved _).same 22 rfl, (State.potWrite_moved ..).same 22 rfl, State.setArea_lan]
  rfl

theorem State.commitCycle_pinned (s : State) (tc : Tc) : (s.commitCycle tc).lan.pinned = s.lan.pinned := by
  unfold State.commitCycle
  dsimp only
  rw [(State.seqCommit_moved ..).same 22 rfl, (State.showSession_moved ..).same 22 rfl, (State.showStandbyAge_moved ..).same 22 rfl, State.beginFrame_pinned,
    (State.showTestAges_moved ..).same 22 rfl, (State.autoMatch_moved _).same 22 rfl, (State.takeConfirm_moved _).same 22 rfl, (State.agedCheck_moved ..).same 22 rfl]

theorem State.safeOutputs_lan {s : State} (tc : Tc) (unbound : s.Unbound) : (s.safeOutputs tc).lan = s.lan := by
  rw [State.safeOutputs_eq tc unbound, (State.sendOuts_moved ..).same 22 rfl, State.put_lan]

theorem State.programStart_lan {s : State} (tc : Tc) (unbound : s.Unbound) : (s.programStart tc).lan = s.lan := by
  unfold State.programStart
  split
  · rfl
  · dsimp only
    split
    · rfl
    · exact State.safeOutputs_lan tc unbound

theorem State.readyCheck_pinned {s : State} (tc : Tc) (unbound : s.Unbound) : (s.readyCheck tc).lan.pinned = s.lan.pinned := by
  have ready : (((s.put F.PWR_STAT_READY 1).setLevel (s.fld F.LAN_CFG_PL)).wr 0x140020 0).lan.pinned = s.lan.pinned := State.setLevel_pinned ..
  have started (r : State) (seq : r.seq = s.seq) (pinned : r.lan.pinned = s.lan.pinned) : (r.programStart tc).lan.pinned = s.lan.pinned := by
    rw [State.programStart_lan tc (by rw [State.Unbound, State.seqVars, seq]; exact unbound), pinned]
  unfold State.readyCheck
  split
  · rfl
  · split
    · dsimp only
      split
      · exact started _ rfl ready
      · exact started _ rfl ready
    · rfl

theorem State.chargeStep_pinned {s : State} (m : RecMedia) (tc : Tc) (none : s.pwr.request = none) (unbound : s.Unbound) :
    (s.chargeStep m tc).lan.pinned = s.lan.pinned := by
  rw [s.chargeStep_eq m tc none unbound]
  split
  · rw [State.readyCheck_pinned tc ((s.commitCycle_onward tc).unbound unbound), State.commitCycle_pinned]
  · rfl

/-- The heartbeats of a lane whose firmware was in charge are judged (R347). -/
structure Watched (l : Lane) (s : State) : Prop where
  lid : s.lan.lid = some l
  fw : s.lan.fw = true
  watched : s.lan.watched = true

theorem Watched.of_pinned {l : Lane} {r s : State} (h : Watched l r) (pinned : s.lan.pinned = r.lan.pinned) : Watched l s := by
  simp only [Lan.pinned, Prod.mk.injEq] at pinned
  obtain ⟨lid, fw, watched, -, -⟩ := pinned
  exact ⟨lid.trans h.lid, fw.trans h.fw, watched.trans h.watched⟩

theorem State.missCount_of {r s : State} (pinned : s.lan.pinned = r.lan.pinned) (miss : s.fld F.LAN_HB_MISS = r.fld F.LAN_HB_MISS) : s.missCount = r.missCount := by
  simp only [Lan.pinned, Prod.mk.injEq] at pinned
  obtain ⟨-, -, -, beats, wrong⟩ := pinned
  rw [State.missCount, State.missCount, beats, wrong, miss]

theorem State.missCount_right {s : State} (one : s.lan.beats = 1) (right : s.lan.wrong = false) : s.missCount = 0 := by
  rw [State.missCount, one, right]
  rfl

theorem State.missCount_missed {s : State} (h : s.lan.beats ≠ 1 ∨ s.lan.wrong = true) : s.missCount = s.fld F.LAN_HB_MISS + 1 := if_pos (by simpa using h)

/-- From the next commit point on the lane is watched where its firmware runs (R347). -/
def State.rewatched (s : State) : State := s.withLan { s.lan with watched := s.lan.fw }

theorem State.judgeHeartbeat_watched {s : State} {l : Lane} (tc : Tc) (h : Watched l s) : s.judgeHeartbeat false tc =
    (if 2 ≤ s.missCount then (s.missNoted (min 2 s.missCount)).referee l 6 tc else s.missNoted (min 2 s.missCount)).rewatched := by
  rw [← s.watchHeartbeat_eq tc h.lid h.fw, State.judgeHeartbeat, h.watched]
  rfl

theorem State.missNoted_pinned (s : State) (n : Nat) : (s.missNoted n).rewatched.lan.pinned = (s.lan.lid, s.lan.fw, s.lan.fw, 0, false) := rfl

theorem State.rewatched_lid (s : State) : s.rewatched.lan.lid = s.lan.lid := rfl

theorem State.rewatched_control (s : State) : s.rewatched.lan.control = s.lan.control := rfl

theorem State.fld_missNoted (s : State) {n : Nat} (h : n < 4) : (s.missNoted n).rewatched.fld F.LAN_HB_MISS = n := by
  have noted : (s.missNoted n).fld F.LAN_HB_MISS = n % 4 := State.fld_put_same _ _ _ (by decide)
  exact noted.trans (Nat.mod_eq_of_lt h)

theorem State.laneState_missNoted (s : State) (n : Nat) (k : Lane) : (s.missNoted n).laneState k = s.laneState k := State.laneState_put k _ (.inl (by decide))

theorem State.bestImage_missNoted (s : State) (n : Nat) : (s.missNoted n).bestImage = s.bestImage :=
  State.bestImage_of rfl (State.rd_put_other _ _ (by decide))

theorem State.toJudge_moved (s : State) (tc : Tc) : Moved 0x200001440001 s (s.toJudge tc) := by
  have shown : Moved 0x200001440001 s s.levelShown := .ite (State.setLevel_moved ..).widen (.refl ..)
  exact (shown.andThen (State.canCommit_moved _)).andThen (State.trackNoRing_moved ..)

/-- Fewer than two misses in a row: the count is shown and the lane keeps the Lid (R347). -/
theorem State.fromLimits_noted {s : State} {l : Lane} {n : Nat} (m : RecMedia) (tc : Tc) (h : Watched l s) (misses : s.missCount = n) (few : n < 2)
    (awake : s.pwr.request = none) (unbound : s.Unbound) :
    (s.fromLimits false m tc).fld F.LAN_HB_MISS = n ∧ (s.fromLimits false m tc).lan.lid = some l ∧ (s.fromLimits false m tc).lan.beats = 0 := by
  have pinned := s.toJudge_pinned tc
  have before := s.toJudge_onward tc
  have count := (State.missCount_of pinned before.lane.fld).trans misses
  have judged : (s.toJudge tc).judgeHeartbeat false tc = ((s.toJudge tc).missNoted n).rewatched := by
    rw [State.judgeHeartbeat_watched tc (h.of_pinned pinned), count, if_neg (by omega), Nat.min_eq_right (by omega)]
  have onward := (Onward.refl.andThen before).trans (State.judgeHeartbeat_onward (s.toJudge tc) false tc)
  have kept := State.chargeStep_onward m tc (onward.awake awake) (onward.unbound unbound)
  have closed := State.chargeStep_pinned m tc (onward.awake awake) (onward.unbound unbound)
  rw [judged] at kept closed
  rw [State.missNoted_pinned] at closed
  simp only [Lan.pinned, Prod.mk.injEq] at closed
  obtain ⟨lid, -, -, beats, -⟩ := closed
  rw [State.fromLimits, judged]
  exact ⟨kept.lane.fld.trans (State.fld_missNoted _ (few.trans (by decide))), lid.trans (h.of_pinned pinned).lid, beats⟩

/-- Two misses in a row of an ACTIVE lane with a standby lane and a usable register image: a takeover with class 6 (R346, R347). -/
theorem State.fromLimits_takeover {s : State} {l : Lane} (m : RecMedia) (tc : Tc) (h : Watched l s) (two : s.missCount = 2) (active : s.laneState l = lnActive)
    (standby : s.laneState (otherLane l) = lnStandby) (usable : s.bestImage.isSome = true) :
    (s.fromLimits false m tc).lan.lid = none ∧ (s.fromLimits false m tc).lan.control = some (l, 6, tc) := by
  have pinned := s.toJudge_pinned tc
  have before := s.toJudge_onward tc
  have moved := s.toJudge_moved tc
  have count := State.missCount_of pinned before.lane.fld
  have state (k : Lane) : ((s.toJudge tc).missNoted 2).laneState k = s.laneState k := by
    have shown : s.levelShown.laneState k = s.laneState k := by
      unfold State.levelShown
      split
      · exact State.laneState_put k _ (.inr (by decide))
      · rfl
    rw [State.laneState_missNoted, State.toJudge, State.laneState, (State.trackNoRing_moved ..).fld 13 (by rw [laneField_addr]), (State.canCommit_moved _).fld 13 (by rw [laneField_addr])]
    exact shown
  have image : ((s.toJudge tc).missNoted 2).bestImage = s.bestImage :=
    (State.bestImage_missNoted ..).trans (State.bestImage_of (congrArg Pot.mem (moved.same 14 rfl)) moved.placement)
  obtain ⟨lid, -, control, -⟩ := State.takeover_takenOver (s := (s.toJudge tc).missNoted 2) l (cls := 6) tc (by decide) (by rw [image]; exact usable)
  have judged : (s.toJudge tc).judgeHeartbeat false tc = (((s.toJudge tc).missNoted 2).takeover l 6 tc).rewatched := by
    rw [State.judgeHeartbeat_watched tc (h.of_pinned pinned), count, two, if_pos (Nat.le_refl 2), Nat.min_self,
      State.referee_takeover (by decide) ((state l).trans active) (.inl ((state _).trans standby))]
  have idle : (((s.toJudge tc).missNoted 2).takeover l 6 tc).rewatched.inCharge = false := by
    rw [State.inCharge, State.lidHeld, State.rewatched_lid, lid]
    rfl
  rw [State.fromLimits, judged, State.chargeStep, idle, if_neg Bool.false_ne_true, State.rewatched_lid, State.rewatched_control]
  exact ⟨lid, control⟩

/-- Without a rebuilt state and a set that has passed, a commit point up to the limits counts and takes the limits only. -/
theorem State.upToLimits_eq {s : State} (tc : Tc) (rebuilt : s.lan.rebuilt = false) (none : s.fld F.CFG_LS_STAT_STATE ≠ lsPassed) :
    s.upToLimits tc = (s.bump F.LAN_COMMIT_COUNT).countRound.applyLimits := by
  have state : (s.bump F.LAN_COMMIT_COUNT).countRound.fld F.CFG_LS_STAT_STATE = s.fld F.CFG_LS_STAT_STATE :=
    ((State.countRound_moved _).fld 2).trans (State.fld_put_addr _ _ (by decide))
  rw [State.upToLimits, State.prepared_unmanaged tc rebuilt, State.lsApply_other tc (by rw [state]; exact none)]

theorem State.laneState_upToLimits {s : State} (tc : Tc) (k : Lane) (rebuilt : s.lan.rebuilt = false) (none : s.fld F.CFG_LS_STAT_STATE ≠ lsPassed) :
    (s.upToLimits tc).laneState k = s.laneState k := by
  rw [State.upToLimits_eq tc rebuilt none, State.laneState, (State.applyLimits_moved _).fld 13 (by rw [laneField_addr]),
    (State.countRound_moved _).fld 13 (by rw [laneField_addr])]
  exact State.laneState_put k _ (.inl (by decide))

theorem State.bestImage_upToLimits {s : State} (tc : Tc) (rebuilt : s.lan.rebuilt = false) (none : s.fld F.CFG_LS_STAT_STATE ≠ lsPassed) :
    (s.upToLimits tc).bestImage = s.bestImage := by
  have moved : Moved 0x248000018001 s (s.bump F.LAN_COMMIT_COUNT).countRound.applyLimits :=
    ((State.bump_moved (.refl ..) F.LAN_COMMIT_COUNT rfl).andThen (State.countRound_moved _)).andThen (State.applyLimits_moved _)
  rw [State.upToLimits_eq tc rebuilt none]
  exact State.bestImage_of (congrArg Pot.mem (moved.same 14 rfl)) moved.placement

/-! The commit point. -/

section

variable {s : State} {l : Lane} (m : RecMedia) (tc : Tc)

theorem State.commitPoint_onward (awake : s.pwr.request = none) (unbound : s.Unbound) : Onward refereeObjs setStateObjs (s.upToLimits tc) (s.commitPoint m tc) :=
  State.fromLimits_onward s.lan.rebuilt m tc (State.upToLimits_awake tc awake) (State.upToLimits_unbound tc unbound)

theorem State.commitPoint_count (awake : s.pwr.request = none) (unbound : s.Unbound) :
    (s.commitPoint m tc).fld F.LAN_COMMIT_COUNT = (s.fld F.LAN_COMMIT_COUNT + 1) % 2 ^ 32 :=
  (State.commitPoint_onward m tc awake unbound).lane.fld.trans (s.upToLimits_count tc)

theorem State.commitPoint_applied (awake : s.pwr.request = none) (unbound : s.Unbound) (passed : s.fld F.CFG_LS_STAT_STATE = lsPassed) :
    SetApplied s (s.commitPoint m tc) :=
  (State.upToLimits_applied tc passed).kept ((State.commitPoint_onward m tc awake unbound).noSet (State.upToLimits_applied tc passed).noSet)
    (State.commitPoint_onward m tc awake unbound).set

theorem State.commitPoint_limits (awake : s.pwr.request = none) (unbound : s.Unbound) :
    (∀ c, s.dsp.stagedD = some c → (s.commitPoint m tc).dsp.heldD = some c) ∧ (∀ c, s.dsp.stagedT = some c → (s.commitPoint m tc).dsp.heldT = some c) ∧
      (s.dsp.stagedD.isSome = true → s.dsp.stagedT.isSome = true → (s.commitPoint m tc).dsp.inForce = true) := by
  have limits := (State.commitPoint_onward m tc awake unbound).limits
  simp only [Dsp.limits, Prod.mk.injEq] at limits
  obtain ⟨restD, restT, restForce⟩ := limits
  rw [restD, restT, restForce]
  exact s.upToLimits_limits tc

theorem State.missCount_upToLimits (rebuilt : s.lan.rebuilt = false) : (s.upToLimits tc).missCount = s.missCount :=
  State.missCount_of (congrArg Lan.pinned (State.upToLimits_lan tc rebuilt)) (State.upToLimits_miss tc rebuilt)

theorem State.commitPoint_noted {n : Nat} (h : Watched l s) (rebuilt : s.lan.rebuilt = false) (misses : s.missCount = n) (few : n < 2)
    (awake : s.pwr.request = none) (unbound : s.Unbound) :
    (s.commitPoint m tc).fld F.LAN_HB_MISS = n ∧ (s.commitPoint m tc).lan.lid = some l ∧ (s.commitPoint m tc).lan.beats = 0 := by
  rw [State.commitPoint_eq, rebuilt]
  exact State.fromLimits_noted m tc (h.of_pinned (congrArg Lan.pinned (State.upToLimits_lan tc rebuilt))) ((State.missCount_upToLimits tc rebuilt).trans misses) few
    (State.upToLimits_awake tc awake) (State.upToLimits_unbound tc unbound)

theorem State.commitPoint_takeover (h : Watched l s) (rebuilt : s.lan.rebuilt = false) (misses : s.missCount = 2) (other : s.fld F.CFG_LS_STAT_STATE ≠ lsPassed)
    (active : s.laneState l = lnActive) (standby : s.laneState (otherLane l) = lnStandby) (usable : s.bestImage.isSome = true) :
    (s.commitPoint m tc).lan.lid = none ∧ (s.commitPoint m tc).lan.control = some (l, 6, tc) := by
  rw [State.commitPoint_eq, rebuilt]
  refine State.fromLimits_takeover m tc (h.of_pinned (congrArg Lan.pinned (State.upToLimits_lan tc rebuilt))) ((State.missCount_upToLimits tc rebuilt).trans misses) ?_ ?_ ?_
  · rw [State.laneState_upToLimits tc l rebuilt other, active]
  · rw [State.laneState_upToLimits tc (otherLane l) rebuilt other, standby]
  · rw [State.bestImage_upToLimits tc rebuilt other, usable]

end

theorem exec_commitPoint (s : State) (k : Fin 64) (m : RecMedia) (tc : Tc) :
    exec (.commitPoint k m tc) s = .next (if s.fires k 1 tc then (s.acted (firingKey k 1) tc).commitPoint m tc else s) := rfl

/-- Settles O56: what is settled up to the limits stays through the rest; the heartbeats are judged as the commit point found them. -/
theorem commitPoints : Obligations.CommitPoints := by
  constructor
  · intro s k m tc silent
    rw [exec_commitPoint, silent, if_neg Bool.false_ne_true]
  · intro s k m tc fires awake unbound
    rw [exec_commitPoint, if_pos fires]
    have awake' : (s.acted (firingKey k 1) tc).pwr.request = none := awake
    have unbound' : (s.acted (firingKey k 1) tc).Unbound := unbound
    obtain ⟨heldD, heldT, inForce⟩ := State.commitPoint_limits m tc awake' unbound'
    refine ⟨_, rfl, State.commitPoint_count m tc awake' unbound', fun passed => ?set, heldD, heldT, inForce, fun l lid fw watched rebuilt => ?beats⟩
    case set =>
      obtain ⟨⟨submitted, idle⟩, code, seq, count⟩ := State.commitPoint_applied m tc awake' unbound' passed
      exact ⟨submitted, idle, code, seq, count⟩
    case beats =>
      have given : Watched l (s.acted (firingKey k 1) tc) := ⟨lid, fw, watched⟩
      have missed (h : s.lan.beats ≠ 1 ∨ s.lan.wrong = true) : (s.acted (firingKey k 1) tc).missCount = s.fld F.LAN_HB_MISS + 1 := State.missCount_missed h
      refine ⟨fun one right => ?_, fun h first => ?_, fun h second other active standby usable => ?_⟩
      · exact State.commitPoint_noted m tc given rebuilt (State.missCount_right one right) (by decide) awake' unbound'
      · exact State.commitPoint_noted m tc given rebuilt (by rw [missed h, first]) (by decide) awake' unbound'
      · exact State.commitPoint_takeover m tc given rebuilt (by rw [missed h, second]) other active standby usable

end Sys2Proof.Machine
end

section
/-! Check values: CRC-32C (R78). -/
namespace Sys2Proof.Machine

open Sys2Proof

-- Default arguments by tactic wait for the declarations before: begun all at once the proofs below would each hold a thread and its stack.
set_option Elab.async false

/-- One bit of a message into the CRC-32C. -/
def crc32Bit (c : BitVec 32) (x : Bool) : BitVec 32 := if c.getLsbD 0 != x then (c >>> 1) ^^^ 0x82F63B78#32 else c >>> 1

/-- Division is linear: of bits that were added to the remainder, the lowest is taken and the others move down. -/
theorem crc32Shift_xor (c d : BitVec 32) : crc32Shift (c ^^^ d) = crc32Bit c (d.getLsbD 0) ^^^ d >>> 1 := by
  unfold crc32Shift crc32Bit
  rw [BitVec.getLsbD_xor, BitVec.ushiftRight_xor_distrib]
  split
  · ac_rfl
  · rfl

/-- Added at once, the first n bits of a byte are taken as they are one by one. -/
theorem crc32Shift_iterate (c : BitVec 32) (b : Byte) (n : Nat) :
    crc32Shift^[n] (c ^^^ b.setWidth 32) = ((List.range n).map fun i => b.getLsbD i).foldl crc32Bit c ^^^ b.setWidth 32 >>> n := by
  induction n with
  | zero => rfl
  | succ n ih =>
    have bit : (b.setWidth 32 >>> n).getLsbD 0 = b.getLsbD n := by
      have below : b.getLsbD n = true → n < 32 := fun h => (BitVec.lt_of_getLsbD h).trans (by decide)
      simpa using below
    rw [Function.iterate_succ_apply', ih, crc32Shift_xor, bit, List.range_succ, List.map_append, List.foldl_append, BitVec.shiftRight_add]
    rfl

theorem crc32Byte_bits (c : BitVec 32) (b : Byte) : crc32Byte c b = ((List.range 8).map fun i => b.getLsbD i).foldl crc32Bit c := by
  have taken : b.setWidth 32 >>> 8 = 0#32 := by bv_omega
  exact (crc32Shift_iterate c b 8).trans (by rw [taken, BitVec.xor_zero])

/-- Settles O8: a byte enters as its eight bits do, and the rest are closed values. -/
theorem crc32cIsAsDefined : Obligations.Crc32cIsAsDefined := by
  refine ⟨fun l => ?_, by decide, by decide +kernel⟩
  have bytes : crc32Byte = fun c b => ((List.range 8).map fun i => b.getLsbD i).foldl crc32Bit c := funext₂ crc32Byte_bits
  rw [crc32c, bytes, ← List.foldl_flatMap]
  rfl

end Sys2Proof.Machine
end

section
/-! The open staging: distinct objects at rising addresses, at most 1,024 of them, through every operation that can reach the configuration (R98). -/
namespace Sys2Proof.Machine

open Sys2Proof

-- Default arguments by tactic wait for the declarations before: begun all at once the proofs below would each hold a thread and its stack.
set_option Elab.async false

/-! An object takes its place among rising addresses (R97). -/

section stageInsert

variable {a : Nat} {v : Word} {l : List (Nat × Word)}

theorem mem_stageInsert (rising : l.Pairwise (fun x y => x.1 < y.1)) (e : Nat × Word) : e ∈ stageInsert a v l ↔ e = (a, v) ∨ e ∈ l ∧ e.1 ≠ a := by
  induction l with
  | nil => simp [stageInsert]
  | cons f l ih =>
    obtain ⟨first, rest⟩ := List.pairwise_cons.mp rising
    unfold stageInsert
    split
    · next below =>
      have other : e ∈ f :: l → e.1 ≠ a := by
        intro he
        rcases List.mem_cons.mp he with rfl | he
        · exact below.ne'
        · exact (below.trans (first e he)).ne'
      simp only [List.mem_cons (a := e) (b := (a, v))]
      exact or_congr_right ⟨fun he => ⟨he, other he⟩, And.left⟩
    · split
      · next same =>
        have other : e ∈ l → e.1 ≠ a := fun he => by rw [same]; exact (first e he).ne'
        have own : e = f → ¬e.1 ≠ a := fun he => by simp [he, same]
        simp only [List.mem_cons]
        tauto
      · next differ =>
        have other : e = f → e.1 ≠ a := fun he => by rw [he]; exact Ne.symm differ
        simp only [List.mem_cons, ih rest]
        tauto

theorem stageInsert_rising (rising : l.Pairwise (fun x y => x.1 < y.1)) : (stageInsert a v l).Pairwise (fun x y => x.1 < y.1) := by
  induction l with
  | nil => exact List.pairwise_singleton ..
  | cons f l ih =>
    obtain ⟨first, rest⟩ := List.pairwise_cons.mp rising
    unfold stageInsert
    split
    · next below =>
      refine List.pairwise_cons.mpr ⟨fun e he => ?_, rising⟩
      rcases List.mem_cons.mp he with rfl | he
      · exact below
      · exact below.trans (first e he)
    · split
      · next same => exact List.pairwise_cons.mpr ⟨fun e he => same ▸ first e he, rest⟩
      · next notBelow differ =>
        refine List.pairwise_cons.mpr ⟨fun e he => ?_, ih rest⟩
        rcases (mem_stageInsert rest e).mp he with rfl | ⟨he, -⟩
        · exact lt_of_le_of_ne (not_lt.mp notBelow) (Ne.symm differ)
        · exact first e he

theorem length_stageInsert_le : (stageInsert a v l).length ≤ l.length + 1 := by
  induction l with
  | nil => rfl
  | cons f l ih =>
    unfold stageInsert
    split
    · rfl
    · split
      · exact Nat.le_succ _
      · exact Nat.succ_le_succ ih

/-- An object that is present is replaced. -/
theorem length_stageInsert_present (rising : l.Pairwise (fun x y => x.1 < y.1)) (present : ∃ x, (a, x) ∈ l) : (stageInsert a v l).length = l.length := by
  obtain ⟨x, hx⟩ := present
  induction l with
  | nil => exact absurd hx List.not_mem_nil
  | cons f l ih =>
    obtain ⟨first, rest⟩ := List.pairwise_cons.mp rising
    have least : f.1 ≤ a := by
      rcases List.mem_cons.mp hx with rfl | hx
      · exact le_refl _
      · exact (first _ hx).le
    unfold stageInsert
    rw [if_neg (not_lt.mpr least)]
    split
    · rfl
    · next differ =>
      have later : (a, x) ∈ l := (List.mem_cons.mp hx).resolve_left fun e => differ (congrArg Prod.fst e)
      exact congrArg Nat.succ (ih rest later)

end stageInsert

/-! What keeps the form: an operation that leaves the configuration, or the staging in it, and what is composed of such. -/

theorem Moved.form {m : Nat} {s t : State} (g : Moved m s t) (h : s.StagingForm) (hm : m.testBit 6 = false := by rfl) : t.StagingForm := by
  have cfg : t.cfg = s.cfg := g.same 6 hm
  rw [State.StagingForm, cfg]
  exact h

namespace State.StagingForm

variable {s t : State}

theorem of_staging (h : s.StagingForm) (e : t.cfg.staging = s.cfg.staging) : t.StagingForm := by
  rw [State.StagingForm, e]
  exact h

theorem of_nil (e : s.cfg.staging = []) : s.StagingForm := by
  rw [State.StagingForm, e]
  exact ⟨.nil, Nat.zero_le _⟩

section objects

variable (h : s.StagingForm)
include h

theorem put {f : Field} {x : Nat} : (s.put f x).StagingForm := h

theorem putFlag {f : Field} {b : Bool} : (s.putFlag f b).StagingForm := h

theorem bump {f : Field} : (s.bump f).StagingForm := h

theorem event {e : EventFlag} : (s.event e).StagingForm := h

theorem wr {a : Nat} {v : Word} : (s.wr a v).StagingForm := h

theorem wr64 {a : Nat} {v : BitVec 64} : (s.wr64 a v).StagingForm := h

theorem emit {o : Output} : (s.emit o).StagingForm := h

/-- A change of the configuration beside its staging. -/
theorem withCfg {c : Cfg} (e : c.staging = s.cfg.staging := by rfl) : (s.withCfg c).StagingForm := h.of_staging e

theorem ite {c : Prop} [Decidable c] (g : t.StagingForm) : (if c then s else t).StagingForm := by
  split
  · exact h
  · exact g

theorem opIf {c : Prop} [Decidable c] (g : s.StagingForm → t.StagingForm) : (if c then t else s).StagingForm := ite (g h) h

theorem foldl {α : Type} {f : State → α → State} {l : List α} (keep : ∀ t x, t.StagingForm → (f t x).StagingForm) :
    (l.foldl f s).StagingForm := List.foldlRecOn l f h fun t ht x _ => keep t x ht

theorem forUpTo {n : Nat} {f : Nat → State → State} (keep : ∀ i t, t.StagingForm → (f i t).StagingForm) :
    (Machine.forUpTo n f s).StagingForm := forUpTo_keeps h keep

end objects

end State.StagingForm

/-- The form of a result that may be missing. -/
def StagingFormIfAny (o : Option State) : Prop := ∀ t, o = some t → t.StagingForm

namespace StagingFormIfAny

variable {o p : Option State} {s : State}

theorem none : StagingFormIfAny Option.none := fun _ e => nomatch e

theorem some (h : s.StagingForm) : StagingFormIfAny (Option.some s) := fun _ e => Option.some.inj e ▸ h

theorem ite {c : Prop} [Decidable c] (h : StagingFormIfAny o) (g : StagingFormIfAny p) : StagingFormIfAny (if c then o else p) := by
  split
  · exact h
  · exact g

theorem orElse (h : StagingFormIfAny o) (g : StagingFormIfAny p) : StagingFormIfAny (o.orElse fun _ => p) := by
  cases o with
  | none => exact g
  | some t => exact h

theorem getD (h : StagingFormIfAny o) (g : s.StagingForm) : (o.getD s).StagingForm := by
  cases o with
  | none => exact g
  | some t => exact h t rfl

end StagingFormIfAny

theorem MovedO.form {m : Nat} {s : State} {o : Option State} (g : MovedO m s o) (h : s.StagingForm) (hm : m.testBit 6 = false := by rfl) :
    StagingFormIfAny o := fun t e => (g t e).form h hm

section operations

variable {s : State} (h : s.StagingForm)
include h

/-! The live set (R97 to R105). -/

theorem State.stage_form (a : Nat) (v : Word) : (s.stage a v).StagingForm := by
  obtain ⟨rising, bounded⟩ := h
  by_cases present : ∃ x, (a, x) ∈ s.cfg.staging
  · have any : s.cfg.staging.any (fun e => e.1 == a) = true := by simpa using present
    rw [State.stage, if_pos (by simp [any])]
    exact ⟨stageInsert_rising rising, (length_stageInsert_present rising present).trans_le bounded⟩
  · by_cases room : s.cfg.staging.length < 1024
    · rw [State.stage_room a v room]
      exact ⟨stageInsert_rising rising, length_stageInsert_le.trans room⟩
    · rw [State.stage_full v (not_lt.mp room) fun e he ha => present ⟨e.2, by rw [← ha]; exact he⟩]
      exact ⟨rising, bounded⟩

omit h in
theorem State.setStaging_nil_form (s : State) : (s.setStaging []).StagingForm := .of_nil rfl

omit h in
theorem State.lsDiscard_form (s : State) : s.lsDiscard.StagingForm := s.setStaging_nil_form.put

theorem State.lsSubmit_form : s.lsSubmit.StagingForm :=
  .ite (.ite ((State.postOutcome_moved ..).form (State.lsDiscard_form _)) (.ite ((State.postOutcome_moved ..).form h.bump.put) (State.setStaging_nil_form _).put)) h.bump

theorem State.lsCtrl_form (v : Word) : (s.lsCtrl v).StagingForm := by
  have discarded : (if v.getLsbD 1 then s.lsDiscard else s).StagingForm := .ite s.lsDiscard_form h
  exact .ite (State.lsSubmit_form discarded) discarded

theorem State.dropSubmitted_form : s.dropSubmitted.StagingForm := h

theorem State.lsChecked_form : s.lsChecked.StagingForm := by
  unfold State.lsChecked
  split
  · exact (State.postOutcome_moved ..).form (State.dropSubmitted_form h)
  · exact h.put

theorem State.lsApply_form (tc : Tc) : (s.lsApply tc).StagingForm := by
  have applied : ((s.putSet s.cfg.submitted).applied s s.cfg.submitted tc).StagingForm := (State.applied_moved ..).form ((s.putSet_moved _).form h)
  exact .ite ((State.postOutcome_moved ..).form (State.dropSubmitted_form applied).put.put.bump) h

omit h in
theorem State.lsWithdraw_form (s : State) : s.lsWithdraw.StagingForm := State.lsDiscard_form _

theorem State.lsReport_form : s.lsReport.StagingForm := by
  have posted : (if s.cfg.abandonedDue then s.postOutcome 0x02 0 else s).StagingForm := .ite ((s.postOutcome_moved _ _).form h) h
  exact posted.put.withCfg

omit h in
theorem State.dropLiveSet_form (s : State) : s.dropLiveSet.StagingForm := State.lsDiscard_form _

/-! Transfers (R476 to R488). -/

theorem State.putContent_form (target k : Nat) (l : List Byte) : (s.putContent target k l).StagingForm := by
  unfold State.putContent
  split
  · exact h
  · exact h
  · exact h
  · exact h

theorem State.putContent_putTarget_form (target k : Nat) (l : List Byte) (x : Nat) : ((s.putContent target k l).putTarget target k x).StagingForm :=
  (State.putTarget_moved ..).form (State.putContent_form h ..)

theorem State.startXfer_form (target k : Nat) (tc : Tc) : (s.startXfer target k tc).StagingForm :=
  .ite h.put (.ite h.put (.ite h.put ((State.withUpd_moved ..).form (State.putContent_putTarget_form h ..)).put.put.put.put))

theorem State.xferCtrl_form (v : Word) (tc : Tc) : (s.xferCtrl v tc).StagingForm := by
  unfold State.xferCtrl
  dsimp only
  split
  · exact h.opIf (State.startXfer_form · ..)
  · exact h.opIf (s.abortXfer_moved).form
  · exact h

theorem State.provision_form (plain : List Byte) : (s.provision plain).StagingForm := by
  unfold State.provision
  extract_lets key keys upd t u v
  have kept : t.StagingForm := (State.tookN_moved ..).form h
  have emptied : v.StagingForm := kept.put.put.forUpTo fun _ _ ht => State.putContent_putTarget_form ht ..
  exact (State.putContent_putTarget_form emptied ..).event

theorem State.takeXfer_form (x : Xfer) (plain : List Byte) : (s.takeXfer x plain).StagingForm :=
  .ite (State.provision_form h plain) (.ite (State.putContent_putTarget_form h ..).put.put (State.putContent_putTarget_form h ..))

/-! Confirmation and loading (R87, R92, R94). -/

theorem State.cfgConfirm_form (v : Word) (tc : Tc) : (s.cfgConfirm v tc).StagingForm :=
  .ite h (.ite (h.withCfg (c := { s.cfg with windowTc := tc })).put ((State.confirmFail_moved ..).form h))

theorem State.cfgConfirmInv_form (v : Word) (tc : Tc) : (s.cfgConfirmInv v tc).StagingForm :=
  .ite h (.ite (h.withCfg (c := { s.cfg with confirmWriting := true })).put ((State.confirmFail_moved ..).form h))

theorem State.takeConfirm_form : s.takeConfirm.StagingForm :=
  h.opIf fun h => (h.withCfg (c := { s.cfg with confirmDue := false })).putFlag

theorem State.takeImage_form (k : Nat) (fallback : Bool) : (s.takeImage k fallback).StagingForm := by
  unfold State.takeImage
  extract_lets l secs safety confirmed c t u v w
  have kept : t.StagingForm := h.withCfg (c := c)
  have shown : u.StagingForm := kept.put.put.putFlag
  have confirm : v.StagingForm := shown.putFlag.putFlag
  have values : w.StagingForm := confirm.put.put.put
  exact values.put.putFlag

theorem State.loadImage_form (x : BootCheck) : (s.loadImage x).StagingForm := by
  have failed (t : State) (k c : Nat) (ht : t.StagingForm) : (t.loadFailed k c).StagingForm := (State.loadFailed_moved ..).form ht
  unfold State.loadImage
  extract_lets p c t f d
  have primary : t.StagingForm := failed _ _ _ h
  exact .ite (State.takeImage_form h ..) (.ite (.ite (State.takeImage_form primary ..) (failed _ _ _ primary)) primary)

/-- What the entries and the program do at a load is given with the load. -/
theorem State.loadBlocks_form (live : List (Nat × Word)) {entries program : State → State} (tc : Tc) (keepEntries : ∀ t, t.StagingForm → (entries t).StagingForm)
    (keepProgram : ∀ t, t.StagingForm → (program t).StagingForm) : (s.loadBlocks live entries program tc).StagingForm := by
  unfold State.loadBlocks
  extract_lets t u v w x c y
  have values : t.StagingForm := (State.putSet_moved ..).form ((State.imageFields_moved ..).form h)
  have loaded : u.StagingForm := keepEntries _ ((State.afeStart_moved ..).form ((State.timStart_moved ..).form ((State.phbReset_moved ..).form values)))
  have started : v.StagingForm :=
    (State.showRuns_moved ..).form ((State.dspBegin_moved ..).form ((State.cteStart_moved ..).form ((State.startValues_moved ..).form loaded)))
  have begun : w.StagingForm := keepProgram _ started
  have channels : x.StagingForm := (State.ethLoad_moved ..).form (begun.forUpTo fun _ _ ht => (State.canLoad_moved ..).form ht)
  exact (State.enablePorts_moved ..).form ((State.recRun_moved ..).form (channels.withCfg (c := c)))

theorem State.distribute_form (x : BootCheck) (tc : Tc) : (s.distribute x tc).StagingForm := by
  have island : ((((s.prtLoad.prtArm x.island tc).imdStart tc).safStart tc)).StagingForm :=
    (State.safStart_moved ..).form ((State.imdStart_moved ..).form ((State.prtArm_moved ..).form ((State.prtLoad_moved ..).form h)))
  exact (State.loadBlocks_form island [] tc (fun t ht => t.estStart_moved.form ht) fun t ht => t.seqLoad_moved.form ht).putFlag

theorem State.bootDone_form (l : Lane) (x : BootCheck) (tc : Tc) : (s.bootDone l x tc).StagingForm := by
  unfold State.bootDone
  extract_lets t rcd pwr u v w
  have taken : t.StagingForm := (State.takeLid_moved s l).form h
  have running : u.StagingForm := taken.of_staging rfl
  have loaded : v.StagingForm := State.loadImage_form ((State.recStart_moved u true tc).form running) x
  have spread : w.StagingForm := .ite ((State.countStart_moved ..).form (State.distribute_form loaded x tc))
    ((State.phbReset_moved ..).form ((State.timStart_moved ..).form ((State.noImage_moved ..).form loaded)))
  exact (State.serviceOn_moved ..).form spread

/-! The lanes (R339 to R359). -/

theorem State.loseRecord_form : s.loseRecord.StagingForm :=
  h.opIf fun h => (State.staleTransfer_moved ..).form (h.withCfg (c := { s.cfg with confirmWriting := false }))

theorem State.loseWrites_form : s.loseWrites.StagingForm := by
  unfold State.loseWrites
  extract_lets t u
  have copy : t.StagingForm := (State.loseCopy_moved ..).form h
  have transfer : u.StagingForm := copy.opIf (State.staleTransfer_moved ..).form
  exact (State.loseCause_moved ..).form (State.loseRecord_form transfer)

omit h in
/-- The control step empties the staging (R101). -/
theorem State.withdraw_form (s : State) (l : Lane) : (s.withdraw l).StagingForm := by
  unfold State.withdraw
  extract_lets inFlight t u obj
  have emptied : t.StagingForm := (State.holdCoils_moved ..).form ((State.loseChange_moved ..).form (State.loseWrites_form (State.lsWithdraw_form _)))
  have withdrawn : u.StagingForm := (State.updWithdraw_moved ..).form ((State.ethWithdraw_moved ..).form ((State.canWithdraw_moved ..).form emptied))
  exact ((State.withObj_moved ..).form withdrawn).put

theorem State.safeStop_form (cause cls : Nat) (tc : Tc) : (s.safeStop cause cls tc).StagingForm := (State.safeStop_moved ..).form h

theorem State.faultLane_form (l : Lane) (cls : Nat) : (s.faultLane l cls).StagingForm := (State.faultLane_moved ..).form h

omit h in
theorem State.controlStep_form (s : State) (l : Lane) (cls : Nat) (tc : Tc) : (s.controlStep l cls tc).StagingForm := by
  unfold State.controlStep
  extract_lets n t lan u v w x
  have withdrawn : v.StagingForm := ((State.setLane_moved ..).form (State.withdraw_form u l)).put
  have counted : w.StagingForm := withdrawn.event.bump.put
  have recorded : x.StagingForm := counted.putFlag.wr64
  exact recorded.opIf fun h => State.safeStop_form (State.faultLane_form h ..) ..

omit h in
theorem State.takeover_form (s : State) (l : Lane) (cls : Nat) (tc : Tc) : (s.takeover l cls tc).StagingForm := State.controlStep_form ..

theorem State.referee_form (l : Lane) (cls : Nat) (tc : Tc) : (s.referee l cls tc).StagingForm := by
  unfold State.referee
  extract_lets n st t
  have faulted (c : Nat) : (s.faultLane l c).StagingForm := State.faultLane_form h ..
  exact .ite (State.safeStop_form (faulted _) ..) (.ite (.ite (State.takeover_form ..) (State.safeStop_form (faulted _) ..))
    (.ite (State.safeStop_form (faulted _) ..) (.ite (faulted _).event (.ite ((faulted cls).opIf (State.safeStop_form · ..)) h))))

theorem State.referee2_form (l : Lane) (c : Nat) (m : Lane) (d : Nat) (tc : Tc) : (s.referee2 l c m d tc).StagingForm := by
  unfold State.referee2
  refine .ite (.ite (State.safeStop_form (State.faultLane_form h ..) ..) (State.referee_form h ..))
    (.ite (State.safeStop_form (State.faultLane_form (State.faultLane_form h ..) ..) ..) ?_)
  split
  extract_lets t
  have first : t.StagingForm := State.referee_form h ..
  exact (State.recordLower_moved ..).form (.ite (State.faultLane_form first ..) (State.referee_form first ..))

theorem State.yield_form (o : Origin) (tc : Tc) : (s.yield o tc).StagingForm := h.opIf (State.referee_form · ..)

theorem State.watchHeartbeat_form (tc : Tc) : (s.watchHeartbeat tc).StagingForm := by
  unfold State.watchHeartbeat
  split
  · exact h.opIf fun h => .opIf ((State.withLan_moved ..).form h).put (State.referee_form · ..)
  · exact h

theorem State.management_form (tc : Tc) : (s.management tc).StagingForm := by
  unfold State.management
  extract_lets t lan u v w seq x
  have placed : t.StagingForm := ((State.setLane_moved ..).form h).put.put
  have reported : v.StagingForm := (State.abandonEntry_moved ..).form (State.lsReport_form ((State.withLan_moved t lan).form placed))
  have run : w.StagingForm := (State.restartWrites_moved ..).form ((State.dspStart_moved ..).form reported.putFlag)
  exact (State.setLevel_moved ..).form (run.of_staging rfl)

theorem State.judgeHeartbeat_form (managed : Bool) (tc : Tc) : (s.judgeHeartbeat managed tc).StagingForm := by
  unfold State.judgeHeartbeat
  extract_lets lan t
  have judged : t.StagingForm := .ite (State.watchHeartbeat_form h tc) (h.of_staging rfl)
  exact judged.of_staging rfl

/-! Starts, sleep and the resume (R452 to R469). -/

omit h in
theorem State.fresh_form (s : State) (keep : Nat → Word) : (s.fresh keep).StagingForm := .of_nil rfl

omit h in
/-- A start begins with an empty staging. -/
theorem State.startWith_form (s : State) (keep : Nat → Word) (cause : Nat) (tc : Tc) : (s.startWith keep cause tc).StagingForm := by
  unfold State.startWith
  extract_lets cool t pwr u v
  have starting : u.StagingForm := (s.fresh_form keep).of_staging rfl
  have marked : v.StagingForm := (State.invalidateWriting_moved ..).form starting.put.put
  exact (State.foundCause_moved ..).form ((State.svcNonce_moved ..).form ((State.bootChoose_moved ..).form
    ((State.showCause_moved ..).form ((State.safPowerUp_moved ..).form marked))))

omit h in
theorem State.beginStart_form (s : State) (cause : Nat) (tc : Tc) : (s.beginStart cause tc).StagingForm := State.startWith_form ..

omit h in
theorem State.beginSupply_form (s : State) (cause : Nat) (wakeIn : Bool) (tc : Tc) : (s.beginSupply cause wakeIn tc).StagingForm :=
  .ite (State.startWith_form ..).put.put (State.startWith_form ..).put.put

theorem State.cfgRestart_form (v : Word) (tc : Tc) : (s.cfgRestart v tc).StagingForm := .ite (State.beginStart_form ..) h

theorem State.beginWake_form (sources tick : Nat) (tc : Tc) : (s.beginWake sources tick tc).StagingForm := by
  unfold State.beginWake
  extract_lets deep t u v pwr w
  have shown : u.StagingForm := ((State.putSources_moved ..).form h).put.put.event
  have woken : v.StagingForm := shown.opIf fun h => h.emit.emit
  have begun : w.StagingForm := .ite (State.beginStart_form ..) (woken.of_staging rfl)
  exact begun.of_staging rfl

theorem State.wakeSeen_form (c : Nat) (x : WakeAt) (tc : Tc) : StagingFormIfAny (s.wakeSeen c x tc) :=
  .ite .none (.ite (.some (State.beginWake_form h ..)) (.ite (.some ((State.putSources_moved ..).form h)) (.ite (.some (h.of_staging rfl)) .none)))

theorem State.resumed_form (tc : Tc) : (s.resumed tc).StagingForm := h

omit h in
/-- A resume begins with an empty staging (R466). -/
theorem State.resume_form (s : State) (lost : BitVec 12) (corrected : Nat) (tc : Tc) : (s.resume lost corrected tc).StagingForm := by
  unfold State.resume
  extract_lets live other t u v w x y z shown counted
  have resumed : t.StagingForm := State.resumed_form (State.dropLiveSet_form _) tc
  have level : u.StagingForm := (State.setLevel_moved ..).form resumed.wr
  have cause : w.StagingForm := (State.showCause_moved ..).form ((State.wakeOther_moved ..).form level.put)
  have found : x.StagingForm := cause.opIf fun h => h.event
  have marked : y.StagingForm := (State.svcNonce_moved ..).form ((State.invalidateWriting_moved ..).form found.put)
  have loaded : z.StagingForm := .ite
    (State.loadBlocks_form ((State.staticFoc_moved ..).form marked) live tc (fun t ht => (t.wakeEntries_moved lost).form ht) fun t ht => t.seqResume_moved.form ht)
    ((State.phbReset_moved ..).form ((State.timStart_moved ..).form ((State.noImage_moved ..).form marked)))
  have losses : counted.StagingForm := loaded.put.put.forUpTo fun _ _ ht => ht.opIf fun ht => ht.event
  exact (State.serviceOn_moved ..).form losses

/-! Writes of objects (R16, R17, R97). -/

theorem State.enableWrite_form {a : Nat} {v : Word} {on off : State → State} (keepOn : ∀ t, t.StagingForm → (on t).StagingForm)
    (keepOff : ∀ t, t.StagingForm → (off t).StagingForm) : (s.enableWrite a v on off).StagingForm := by
  have plain : (s.plainWrite a v 0).StagingForm := (State.plainWrite_moved ..).form h
  exact .ite (keepOn _ plain) (plain.opIf (keepOff _))

theorem State.writeData_form (a : Nat) (v : Word) (tc : Tc) : StagingFormIfAny (s.writeData a v tc) :=
  .ite (.some ((State.cfgSelect_moved ..).form h)) <|
  .ite (.some (State.cfgConfirm_form h ..)) <|
  .ite (.some (State.cfgConfirmInv_form h ..)) <|
  .ite (.some (State.cfgRestart_form h ..)) <|
  .ite (.some (State.lsCtrl_form h ..)) <|
  .ite (.some ((State.dlkEnable_moved ..).form h)) <|
  .ite (.some (h.opIf (State.reenumPort_moved ..).form)) <|
  .ite (.some (State.enableWrite_form h (fun _ ht => ht.put) fun t ht => t.swpDisable_moved.form ht)) <|
  .ite (.some (State.enableWrite_form h (fun t ht => t.estEnable_moved.form ht) fun t ht => t.estDisable_moved.form ht)) <|
  .ite (.some ((State.relearnScope_moved ..).form h)) <|
  .ite (.some (h.opIf (State.triggerWb_moved ..).form)) .none

theorem State.writeLanes_form (a : Nat) (v : Word) (lane : Bool) (o : Origin) (x : WriteAid) (tc : Tc) : StagingFormIfAny (s.writeLanes a v lane o x tc) :=
  .ite (.some (.ite (h.opIf (State.yield_form · ..)) (h.opIf (State.plannedSwitch_moved ..).form))) <|
  .ite (.some (h.opIf (State.heartbeat_moved ..).form)) <|
  .ite (.some ((State.seqCtrl_moved ..).form h)) <|
  .ite (.some (h.opIf (State.olcApply_moved ..).form)) <|
  .ite (.some ((State.forceWrite_moved ..).form h)) <|
  .ite (.some ((State.seqTrig_moved ..).form h)) <|
  .ite (.some ((State.canCtrl_moved ..).form h)) <|
  .ite (.some ((State.txCancel_moved ..).form h)) .none

theorem State.writeSystem_form (a : Nat) (v : Word) (src : Option (BitVec 48)) (x : WriteAid) (tc : Tc) :
    StagingFormIfAny (s.writeSystem a v src x tc) := by
  refine .ite (.some ((State.pwrCtrl_moved ..).form h)) <|
    .ite (.some ?session) <|
    .ite (.some (State.xferCtrl_form h ..)) <|
    .ite (.some ((State.fwActivate_moved ..).form h)) <|
    .ite (.some ((State.fwConfirm_moved ..).form h)) <|
    .ite (.some h.wr) .none
  split
  · exact (State.authCtrl_moved ..).form h
  · exact (State.sessionClose_moved ..).form h

theorem State.objWrite0_form (a : Nat) (v : Word) (w : Writer) (src : Option (BitVec 48)) (x : WriteAid) (tc : Tc) :
    (s.objWrite0 a v w src x tc).StagingForm := by
  have action : StagingFormIfAny ((s.writeData a v tc).orElse fun _ => (s.writeControl a v (s.writerOrigin w) tc).orElse fun _ =>
      (s.writeLanes a v (match w with | .lane _ => true | .path _ => false) (s.writerOrigin w) x tc).orElse fun _ =>
        (s.writeTime a v x tc).orElse fun _ => s.writeSystem a v src x tc) :=
    .orElse (State.writeData_form h a v tc) <| .orElse ((State.writeControl_moved s a v _ tc).form h) <| .orElse (State.writeLanes_form h a v _ _ x tc) <|
      .orElse ((State.writeTime_moved s a v x tc).form h) <| State.writeSystem_form h a v src x tc
  exact .ite h (.ite (State.stage_form h ..) (.ite h (action.getD ((State.plainWrite_moved ..).form h))))

/-! The sequence program (R365 to R378). -/

theorem State.progWrite_form (a v : Nat) (tc : Tc) : (s.progWrite a v tc).StagingForm :=
  .ite ((State.dormantAccess_moved ..).form h) (.ite (h.opIf (State.stage_form · ..)) (h.opIf (State.objWrite0_form · ..)))

theorem State.safeOutputs_form (tc : Tc) : (s.safeOutputs tc).StagingForm := by
  unfold State.safeOutputs
  extract_lets t
  have safe : t.StagingForm := by
    refine h.foldl fun u x hu => ?_
    split
    · exact hu.opIf (State.progWrite_form · ..)
    · exact hu
  exact (State.sendOuts_moved ..).form safe.put

theorem State.seqStopped_form (tc : Tc) : (s.seqStopped tc).StagingForm := State.safeOutputs_form ((State.seqLeave_moved ..).form h) tc

theorem State.seqDisable_form (tc : Tc) : (s.seqDisable tc).StagingForm := by
  unfold State.seqDisable
  extract_lets event n t seq u again
  have counted : t.StagingForm := h.put
  have abandoned : u.StagingForm := counted.of_staging rfl
  split
  · exact abandoned.of_staging rfl
  · exact State.seqStopped_form abandoned tc

theorem State.objWrite_form (a : Nat) (v : Word) (w : Writer) (src : Option (BitVec 48)) (x : WriteAid) (tc : Tc) :
    (s.objWrite a v w src x tc).StagingForm :=
  (State.objWrite0_form h a v w src x tc).opIf (State.seqDisable_form · tc)

theorem State.outputVar_form (v : SeqVar) (tc : Tc) : (s.outputVar v tc).StagingForm := by
  unfold State.outputVar
  have written (q : Seq) : State.StagingForm { s with seq := q } := h
  split
  · exact h
  · exact .ite (.ite h ((State.varPut_moved ..).form (State.progWrite_form h ..))) (.ite h (State.progWrite_form (written _) ..))

theorem State.cycleEnd_form (time : Nat) (tc : Tc) : (s.cycleEnd time tc).StagingForm := by
  unfold State.cycleEnd
  extract_lets en t least u v seq w
  have sent : t.StagingForm := (State.sendOuts_moved ..).form (h.foldl fun _ _ ht => State.outputVar_form ht ..)
  have shown : v.StagingForm := sent.put.put.bump.put
  have kept : w.StagingForm := shown.of_staging rfl
  exact kept.opIf (State.seqDisable_form · tc)

theorem State.programStart_form (tc : Tc) : (s.programStart tc).StagingForm := by
  unfold State.programStart
  extract_lets seq t again
  have started : t.StagingForm := h.of_staging rfl
  split
  · exact h
  · split
    · exact started.of_staging rfl
    · exact State.safeOutputs_form started tc

theorem State.programOff_form (tc : Tc) : (s.programOff tc).StagingForm := .ite h (State.seqDisable_form h tc)

/-! Requests (R66 to R72). -/

theorem State.listWrite_form (r : Request) (x : WriteAid) (tc : Tc) (e : Nat × Word) : (s.listWrite r x tc e).StagingForm :=
  h.opIf (State.objWrite_form · ..)

theorem State.writeRequest_form (r : Request) (x : WriteAid) (tc : Tc) : (s.writeRequest r x tc).StagingForm := by
  have taken : s.takeRequest.StagingForm := (State.takeRequest_moved ..).form h
  refine .ite ((State.answerStatus_moved ..).form taken) ?_
  split
  · exact (State.answer_moved ..).form taken
  · exact (taken.foldl fun _ _ ht => State.listWrite_form ht ..).opIf (State.answerOk_moved ..).form

/-! Losses of supply, heat and sleep (R313, R449, R460). -/

theorem State.failNotice_form (tc : Tc) : (s.failNotice tc).StagingForm :=
  (State.dispatchOff_moved ..).form (State.programOff_form ((State.serviceOff_moved ..).form h) tc)

theorem State.powerFail_form (tc : Tc) : (s.powerFail tc).StagingForm := by
  unfold State.powerFail
  extract_lets t pwr u v w
  have shown : t.StagingForm := h.put.event.put.put
  have noted : u.StagingForm := shown.of_staging rfl
  have told : v.StagingForm := (State.finishClearing_moved ..).form ((State.abortXfer_moved ..).form ((State.networksOff_moved ..).form (State.failNotice_form noted tc)))
  have stopped : w.StagingForm := told.put.put
  exact .ite stopped ((State.triggerWb_moved ..).form ((State.estDisable_moved ..).form stopped))

theorem State.thermalShutdown_form (cause : Nat) (temp : Int) (tc : Tc) : (s.thermalShutdown cause temp tc).StagingForm := by
  unfold State.thermalShutdown
  extract_lets cool t u v w x y z
  have safe : t.StagingForm := (State.allSafe_moved ..).form ((State.giveInput_moved ..).form h)
  have told : v.StagingForm := (State.writeCause_moved ..).form (State.failNotice_form safe.put.putFlag tc)
  have saved : w.StagingForm := .ite told ((State.triggerWb_moved ..).form ((State.estDisable_moved ..).form told))
  have ended : x.StagingForm := .ite saved ((State.afeDisable_moved ..).form saved)
  have off : z.StagingForm := (State.lanesOff_moved ..).form ((State.updWithdraw_moved ..).form ((State.silence_moved ..).form ended.put.put))
  exact off.of_staging rfl

theorem State.enterSleep_form (target : Nat) (m : RecMedia) (tc : Tc) : (s.enterSleep target m tc).StagingForm := by
  unfold State.enterSleep
  extract_lets t u v w x pwr y z a
  have trimmers : t.StagingForm := h.forUpTo fun _ _ ht => .ite ht ((State.trimDisable_moved ..).form ht)
  have told : u.StagingForm := (State.canSleep_moved ..).form ((State.abortXfer_moved ..).form ((State.serviceOff_moved ..).form
    ((State.dispatchOff_moved ..).form (State.programOff_form trimmers tc))))
  have ports : w.StagingForm := .ite (told.forUpTo fun _ _ ht => (State.sleepPort_moved ..).form ht)
    ((State.sleepEth_moved ..).form (told.forUpTo fun _ _ ht => (State.sleepPort_moved ..).form ht))
  have entry : x.StagingForm := ports.put.put
  have noted : y.StagingForm := entry.of_staging rfl
  have kept : z.StagingForm := (State.recSleep_moved ..).form noted
  exact (State.hoursSave_moved ..).form (.ite kept ((State.triggerWb_moved ..).form kept))

theorem State.takeSleep_form (m : RecMedia) (tc : Tc) : (s.takeSleep m tc).StagingForm := by
  unfold State.takeSleep
  split
  · exact h
  · have taken : State.StagingForm { s with pwr := { s.pwr with request := none } } := h
    exact .ite (State.enterSleep_form taken ..) ((State.sleepRefused_moved ..).form taken)

/-! The commit point (R38). -/

theorem State.readyCheck_form (tc : Tc) : (s.readyCheck tc).StagingForm := by
  unfold State.readyCheck
  extract_lets t u lan v
  have ready : u.StagingForm := ((State.setLevel_moved ..).form h.put).wr
  have managed : v.StagingForm := .ite ready (ready.of_staging rfl)
  exact .ite h (.ite (State.programStart_form managed tc) h)

theorem State.commitSteps_form (tc : Tc) : (s.commitSteps tc).StagingForm := by
  have counted : (s.bump F.LAN_COMMIT_COUNT).countRound.StagingForm := (State.countRound_moved ..).form h.bump
  exact .opIf ((State.applyLimits_moved ..).form (State.lsApply_form (counted.opIf (State.management_form · tc)) tc)) (State.setLevel_moved ..).form

theorem State.commitCycle_form (tc : Tc) : (s.commitCycle tc).StagingForm := by
  have taken : (s.agedCheck tc).takeConfirm.StagingForm := State.takeConfirm_form ((State.agedCheck_moved ..).form h)
  have shown : (((s.agedCheck tc).takeConfirm.autoMatch).showTestAges tc).StagingForm := (State.showTestAges_moved ..).form ((State.autoMatch_moved ..).form taken)
  exact (State.seqCommit_moved ..).form ((State.showSession_moved ..).form ((State.showStandbyAge_moved ..).form ((State.beginFrame_moved ..).form shown)))

theorem State.commitPoint_form (m : RecMedia) (tc : Tc) : (s.commitPoint m tc).StagingForm := by
  have tracked : ((s.commitSteps tc).canCommit.trackNoRing tc).StagingForm :=
    (State.trackNoRing_moved ..).form ((State.canCommit_moved ..).form (State.commitSteps_form h tc))
  exact (State.judgeHeartbeat_form tracked s.lan.rebuilt tc).opIf fun judged =>
    State.takeSleep_form (State.readyCheck_form (State.commitCycle_form judged tc) tc) m tc

/-! The commands: those whose scope leaves the configuration keep it; the others follow their definitions. -/

theorem exec_form_of_reach {c : Instr} {x : Scope} {t : State} (hx : reach c = some x) (cfg : .cfg ∉ x.parts) (run : exec c s = .next t) : t.StagingForm :=
  h.of_staging (congrArg Cfg.staging ((exec_moved hx s t run).within.1 .cfg cfg))

end operations

/-- The same of a command: where it answers a next state, that state has the form. -/
def StagingFormBy (o : Host.Outcome State Fault Refusal) : Prop := ∀ t, o = .next t → t.StagingForm

namespace StagingFormBy

variable {s t : State} {o p : Host.Outcome State Fault Refusal} {c : Prop} [Decidable c]

theorem next (h : t.StagingForm) : StagingFormBy (.next t) := fun _ e => Host.Outcome.next.inj e ▸ h

theorem fault (f : Fault) : StagingFormBy (.fault f) := fun _ e => nomatch e

theorem ite (h : StagingFormBy o) (g : StagingFormBy p) : StagingFormBy (if c then o else p) := by
  split
  · exact h
  · exact g

end StagingFormBy

section commands

variable {s : State} (h : s.StagingForm)
include h

theorem State.writeFrom_form {a : Nat} {w : Writer} {go : State → State} (keep : ∀ t, t.StagingForm → (go t).StagingForm) :
    StagingFormBy (s.writeFrom a w go) := by
  unfold State.writeFrom
  split
  · exact .next (h.opIf (keep s))
  · exact .ite (.fault _) (.ite (.next (.ite h (.ite ((State.staleTransfer_moved ..).form h) (h.opIf (keep s))))) (.next (h.opIf (keep s))))

theorem execRegisterWrite_form (a : BitVec 32) (v : Word) (w : Writer) (x : WriteAid) (tc : Tc) : StagingFormBy (execRegisterWrite a v w x tc s) :=
  State.writeFrom_form h fun _ ht => State.objWrite_form ht ..

theorem execRwsWrite_form (a : BitVec 32) (v : Word) (w : Writer) : StagingFormBy (execRwsWrite a v w s) :=
  State.writeFrom_form h fun _ ht => ht.opIf (State.stage_form · ..)

theorem execXferVerifyDone_form (v : XferVerdict) : StagingFormBy (execXferVerifyDone v s) := by
  unfold execXferVerifyDone
  split
  · exact .next h
  · have taken (x : Xfer) := (State.closeXfer_moved ..).form ((State.putResultOf_moved _ x 0x01).form (State.takeXfer_form h x v.plain))
    have refused (x : Xfer) : ((s.putTarget x.target x.slot slInvalid).putResultOf x (s.xferCode x v)).StagingForm :=
      (State.putResultOf_moved ..).form ((State.putTarget_moved ..).form h)
    exact .ite (.next h) (.ite (.next (taken _).event) (.next ((State.closeXfer_moved ..).form ((refused _).opIf fun h => h.put)).event))

theorem execConfirmationRecordWritten_form : StagingFormBy (execConfirmationRecordWritten s) :=
  .ite (.next (State.StagingForm.put (State.StagingForm.put (h.withCfg
    (c := { s.cfg with confirmWriting := false, confirmDue := true, confirms := setAt s.cfg.confirms _ (some _) }))))) (.next h)

theorem execProgramCycle_form (x : CycleWork) (tc : Tc) : StagingFormBy (execProgramCycle x tc s) := by
  unfold execProgramCycle
  extract_lets t u v
  have begun : t.StagingForm := h.opIf (State.cycleStart_moved ..).form
  have worked : u.StagingForm := ((State.beginPhase4_moved ..).form begun).foldl fun _ _ ht => (State.taskDone_moved ..).form ht
  have ended : v.StagingForm := worked.opIf (State.cycleEnd_form · ..)
  exact .ite (.next h) (.ite (.next begun) (.ite (.next (.ite worked (State.seqStopped_form worked tc))) (.next ended.putFlag)))

theorem execProgramWatchdog_form (tc : Tc) : StagingFormBy (execProgramWatchdog tc s) :=
  .ite (.next (State.safeOutputs_form ((State.seqLeave_moved ..).form h).event tc)) (.next h)

theorem execStandbyLoadDone_form (l : Lane) (ids : LaneIds) (check : Word × Word) (tc : Tc) : StagingFormBy (execStandbyLoadDone l ids check tc s) :=
  .ite (.ite (.next (State.StagingForm.put ((State.setLane_moved ..).form ((State.withLan_moved ..).form h)))) (.next (State.referee_form h ..))) (.next h)

theorem execStandbyCheckDone_form (x : LaneCheck) (tc : Tc) : StagingFormBy (execStandbyCheckDone x tc s) :=
  .ite (.ite (.next (State.StagingForm.put ((State.setLane_moved ..).form ((State.withLan_moved ..).form h)))) (.next (State.referee_form h ..))) (.next h)

theorem execLaneFault_form (x : FaultSignal) (also : Option FaultSignal) (tc : Tc) : StagingFormBy (execLaneFault x also tc s) := by
  refine .ite (.next h) ?_
  split
  · exact .next (.ite (State.referee2_form h ..) (State.referee_form h ..))
  · exact .next (State.referee_form h ..)

theorem execRebuildComplete_form (tc : Tc) : StagingFormBy (execRebuildComplete tc s) := by
  unfold execRebuildComplete
  split
  · refine .ite (.next h) ?_
    split
    · next f found => exact .next ((State.rebuild_moved_of_inv s f tc fun i => Frames.sized_of_restoreFrame i.frames found).form h)
    · exact .next (State.safeStop_form (State.faultLane_form h ..) ..)
  · exact .next h

theorem State.setArea_form (i : Nat) (f : Option Frame) : (s.setArea i f).StagingForm := by
  refine (State.showFrames_moved ..).form ?_
  split
  · exact h
  · exact h

theorem execMgmtFrameComplete_form (tc : Tc) : StagingFormBy (execMgmtFrameComplete tc s) := by
  unfold execMgmtFrameComplete
  split
  · exact .next h
  · extract_lets target t frames u st l lan
    have written : t.StagingForm := (State.potCommit_moved ..).form ((State.potWrite_moved ..).form h)
    have sent (x : Frames) : State.StagingForm { t with frames := x } := written.of_staging rfl
    have placed : u.StagingForm := State.setArea_form (sent _) ..
    exact .ite (.next h) (.ite (.ite (.next (State.controlStep_form ..)) (.next (placed.of_staging rfl))) (.next placed))

theorem execAutoRestart_form (sec : Nat) (tc : Tc) : StagingFormBy (execAutoRestart sec tc s) := .ite (.next (State.beginStart_form ..)) (.next h)

theorem execSupplyStart_form (x : SupplyFound) (wakeIn : Bool) (tc : Tc) : StagingFormBy (execSupplyStart x wakeIn tc s) :=
  .ite (.next (State.beginSupply_form ..)) (.next h)

theorem execPowerFailDetect_form (vin : BitVec 16) (tc : Tc) : StagingFormBy (execPowerFailDetect vin tc s) :=
  .ite (.next (State.powerFail_form h.put tc)) (.next h)

theorem execEntryComplete_form (wakeIn : Bool) (tc : Tc) : StagingFormBy (execEntryComplete wakeIn tc s) := by
  unfold execEntryComplete
  extract_lets st found t u thm pwr w x
  have off : t.StagingForm := State.StagingForm.put (State.StagingForm.put ((State.domainsOff_moved ..).form ((State.tc10End_moved ..).form h)))
  have cleared : u.StagingForm := off.put
  have asleep : w.StagingForm := cleared.of_staging rfl
  have undriven : x.StagingForm := asleep.forUpTo fun _ _ ht => (State.setPair_moved ..).form ht
  exact .ite (.ite (.next (.ite (State.beginSupply_form ..) undriven)) (.next (asleep.opIf (State.beginWake_form · ..)))) (.next h)

theorem execWakeInAssert_form (x : WakeAt) (low : Bool) (tc : Tc) : StagingFormBy (execWakeInAssert x low tc s) := by
  unfold execWakeInAssert
  split
  · exact .next (State.beginSupply_form ..)
  · exact .next (.ite (State.beginStart_form ..) h)
  · exact .next ((State.wakeSeen_form h 1 x tc).getD h)

theorem execWakeTimerExpiry_form (x : WakeAt) (tc : Tc) : StagingFormBy (execWakeTimerExpiry x tc s) :=
  .ite (.next ((State.wakeSeen_form h 2 x tc).getD h)) (.next h)

theorem execCanWake_form (c : Fin 2) (e : CanWakeEvent) (x : WakeAt) (tc : Tc) : StagingFormBy (execCanWake c e x tc s) := by
  refine .ite (.next h) ?_
  split
  · next woken => exact .next (State.wakeSeen_form h _ x tc _ woken).put
  · exact .next h

theorem execEthWake_form (p : Fin 2) (x : WakeAt) (tc : Tc) : StagingFormBy (execEthWake p x tc s) := by
  unfold execEthWake
  extract_lets on fwd other t
  have sent : t.StagingForm := h.opIf fun h => h.emit
  refine .ite (.next (sent.opIf fun h => h.put)) (.ite ?_ (.next sent))
  split
  · next woken => exact .next (State.wakeSeen_form sent _ x tc _ woken).put
  · exact .next sent

theorem execDerturWakeEvent_form (p : Fin 8) (endB : Bool) (x : WakeAt) (tc : Tc) : StagingFormBy (execDerturWakeEvent p endB x tc s) := by
  unfold execDerturWakeEvent
  split
  · next woken => exact .next (State.wakeSeen_form h _ x tc _ woken).event.bump
  · exact .next h

theorem execScrubComplete_form (lost : BitVec 12) (corrected : Nat) (tc : Tc) : StagingFormBy (execScrubComplete lost corrected tc s) :=
  .ite (.next h) (.next (.ite (State.beginStart_form ..) (State.resume_form ..)))

theorem execThermalStopEnd_form (tc : Tc) : StagingFormBy (execThermalStopEnd tc s) := by
  have released (x : Pwr) : State.StagingForm { s with pwr := x } := h
  exact .ite (.next h) (.ite (.next (State.beginStart_form ..)) (.next (released _)))

theorem execJunctionReading_form (a b : BitVec 16) (tc : Tc) : StagingFormBy (execJunctionReading a b tc s) := by
  have read : (s.takeJunctions a b).StagingForm := (State.takeJunctions_moved ..).form h
  refine .ite (.next h) (.ite ?_ (.next read))
  split
  · exact .next (State.thermalShutdown_form read ..)
  · exact .next (read.opIf fun read => State.thermalShutdown_form ((State.took_moved ..).form read) ..)

theorem execWriteList_form (x : WriteAid) (tc : Tc) : StagingFormBy (execWriteList x tc s) := by
  unfold execWriteList
  split
  · exact .next (State.writeRequest_form h ..)
  · exact .next h

theorem exec_form (c : Instr) : StagingFormBy (exec c s) := by
  cases c
  case commitPoint k m tc => exact .next (h.opIf fun h => State.commitPoint_form ((State.acted_moved ..).form h) m tc)
  case writeList x tc => exact execWriteList_form h x tc
  case registerWrite a v w x tc => exact execRegisterWrite_form h a v w x tc
  case rwsWrite a v w => exact execRwsWrite_form h a v w
  case cfgRestart v tc => exact .next (State.cfgRestart_form h v tc)
  case cfgConfirm v tc => exact .next (State.cfgConfirm_form h v tc)
  case cfgConfirmInv v tc => exact .next (State.cfgConfirmInv_form h v tc)
  case confirmationRecordWritten => exact execConfirmationRecordWritten_form h
  case lsSubmit => exact .next (h.opIf State.lsSubmit_form)
  case lsDiscard => exact .next (.ite s.lsDiscard_form h)
  case lsChecksDone => exact .next (h.opIf State.lsChecked_form)
  case xferStart v tc => exact .next (h.opIf (State.xferCtrl_form · ..))
  case xferAbort v => exact .next (h.opIf (State.xferCtrl_form · ..))
  case xferVerifyDone v => exact execXferVerifyDone_form h v
  case programCycle x tc => exact execProgramCycle_form h x tc
  case programWatchdog tc => exact execProgramWatchdog_form h tc
  case laneBootDone l x tc => exact .ite (.next (State.bootDone_form h ..)) (.next h)
  case bootTimeout l tc => exact .next (h.opIf (State.referee_form · ..))
  case standbyLoadDone l ids check tc => exact execStandbyLoadDone_form h l ids check tc
  case standbyCheckDone x tc => exact execStandbyCheckDone_form h x tc
  case checkTimeout tc => exact .next (h.opIf (State.referee_form · ..))
  case laneFault x also tc => exact execLaneFault_form h x also tc
  case rebuildComplete tc => exact execRebuildComplete_form h tc
  case yield x => exact .next (State.yield_form h ..)
  case mgmtFrameComplete tc => exact execMgmtFrameComplete_form h tc
  case autoRestart sec tc => exact execAutoRestart_form h sec tc
  case supplyStart x wakeIn tc => exact execSupplyStart_form h x wakeIn tc
  case powerFailDetect vin tc => exact execPowerFailDetect_form h vin tc
  case entryComplete wakeIn tc => exact execEntryComplete_form h wakeIn tc
  case wakeInAssert x low tc => exact execWakeInAssert_form h x low tc
  case wakeTimerExpiry x tc => exact execWakeTimerExpiry_form h x tc
  case canWake c e x tc => exact execCanWake_form h c e x tc
  case ethWake p x tc => exact execEthWake_form h p x tc
  case derturWakeEvent p endB x tc => exact execDerturWakeEvent_form h p endB x tc
  case scrubComplete lost corrected tc => exact execScrubComplete_form h lost corrected tc
  case thermalStopEnd tc => exact execThermalStopEnd_form h tc
  case junctionReading a b tc => exact execJunctionReading_form h a b tc
  all_goals exact fun t run => exec_form_of_reach h rfl (by decide) run

end commands

/-- An RWS write of a path that passes its checks, or of the Lid holder while the staging is open, is staged (R97). -/
theorem exec_rwsWrite_staged {s : State} {a : BitVec 32} (v : Word) {w : Writer} (rws : rwsMask a.toNat ≠ 0) (live : s.dormantAt a.toNat = false)
    (reaches : (∃ p, w = .path p ∧ s.serviceUp = true ∧ s.accessStatus p s.upd.session.isSome true a.toNat = stOk) ∨
      (∃ o, w = .lane o ∧ mapped a.toNat = true ∧ s.currentEpoch o = true ∧ s.holdsLid o.lane = true ∧ s.stagingOpen = true)) :
    exec (.rwsWrite a v w) s = .next (s.stage a.toNat v) := by
  rcases reaches with ⟨p, rfl, up, ok⟩ | ⟨o, rfl, map, epoch, lid, opened⟩
  · rw [exec_rwsWrite]
    simp [State.writeFrom, up, ok, rws, live]
  · exact execRwsWrite_lane v map rws live epoch lid opened

theorem State.setStaging_overflow (s : State) (l : List (Nat × Word)) : (s.setStaging l).flag F.CFG_LS_STAT_OVF = s.flag F.CFG_LS_STAT_OVF :=
  State.flag_put_bits _ _ (by decide)

/-- Settles O10: each command keeps the form, and a write finds its object, room or neither. -/
theorem oneOpenStaging : Obligations.OneOpenStaging := by
  refine ⟨fun s t h run => ?_, fun s a v w h rws live reaches => ?_⟩
  · rcases step_cases run with ⟨-, rfl⟩ | ⟨c, rest, -, run⟩
    · exact h
    · have waiting : State.StagingForm { s with pending := rest } := h
      exact exec_form waiting c t run
  · have staged := exec_rwsWrite_staged v rws live reaches
    refine ⟨fun room => ⟨_, staged, State.stage_form h .., ?_⟩, fun new full => ⟨_, staged, ?_⟩⟩
    · have stored : s.stage a.toNat v = s.setStaging (stageInsert a.toNat v s.cfg.staging) := by
        rcases room with present | room
        · exact if_pos (by simpa using .inl present)
        · exact State.stage_room _ _ room
      rw [stored]
      exact ⟨State.setStaging_overflow .., mem_stageInsert h.1⟩
    · rw [State.stage_full v full.ge fun e he ha => new e.2 (by rw [← ha]; exact he)]
      exact ⟨rfl, State.flag_put_same _ _ _ (by decide)⟩

end Sys2Proof.Machine
end

section
/-! The live set from the submission to its checks; the choice of the image slots and the confirmation (R92 to R102). -/
namespace Sys2Proof.Machine

open Sys2Proof

-- Default arguments by tactic wait for the declarations before: begun all at once the proofs below would each hold a thread and its stack.
set_option Elab.async false

/-! The report of an outcome (R100, R102). -/

theorem State.postOutcome_raised (s : State) (c addr : Nat) : Raised Ev.CFG_LS_DONE s (s.postOutcome c addr) := by
  have told : Writes 2 [0x2004c, 0x20050] s (((s.put F.CFG_LS_OUT_SEQ (s.fld F.CFG_LS_STAT_SEQ)).put F.CFG_LS_OUT_CODE c).put F.CFG_LS_FAIL_ADDR_ADDR addr) :=
    ((Writes.refl.put _ _).put _ _).put _ _
  obtain ⟨flag, count⟩ := State.event_raised _ Ev.CFG_LS_DONE (by decide)
  exact ⟨flag, count.trans (by rw [told.fld])⟩

theorem State.postOutcome_code (s : State) (c addr : Nat) : (s.postOutcome c addr).fld F.CFG_LS_OUT_CODE = c % 2 ^ 8 := by
  have late (r : State) : Writes 2 [0x20050, 0x20060, 0x20064] r ((r.put F.CFG_LS_FAIL_ADDR_ADDR addr).event Ev.CFG_LS_DONE) := (Writes.refl.put _ _).event _
  exact (late _).fld.trans (State.fld_put_same _ _ _ (by decide))

theorem State.postOutcome_address (s : State) (c addr : Nat) : (s.postOutcome c addr).fld F.CFG_LS_FAIL_ADDR_ADDR = addr % 2 ^ 32 := by
  have late (r : State) : Writes 2 [0x20060, 0x20064] r (r.event Ev.CFG_LS_DONE) := Writes.refl.event _
  exact (late _).fld.trans (State.fld_put_same _ _ _ (by decide))

theorem Raised.ofSameCount {e : EventFlag} {r s t : State} (h : Raised e s t) (same : s.fld e.cnt = r.fld e.cnt) : Raised e r t :=
  ⟨h.1, h.2.trans (by rw [same])⟩

/-! The submission (R99, R100). -/

/-- The state in which a submission looks at the open staging: SEQ has advanced and nothing is lost. -/
def State.numbered (s : State) : State := (s.bump F.CFG_LS_STAT_SEQ).put F.CFG_LS_LOST_LOST_CNT 0

theorem State.numbered_writes (s : State) : Writes 2 [0x20044, 0x20048] s s.numbered := (Writes.refl.bump _).put _ _

theorem State.numbered_fld (s : State) {g : Field} (h : g.addr ≠ 0x20048) (k : g.lo + g.w ≤ 16) : s.numbered.fld g = s.fld g :=
  (State.fld_put_addr _ _ h).trans (State.fld_put_bits _ _ (.inl k))

theorem State.numbered_overflow (s : State) : s.numbered.flag F.CFG_LS_STAT_OVF = s.flag F.CFG_LS_STAT_OVF := by
  rw [State.flag_eq, State.flag_eq, s.numbered_fld (by decide) (by decide)]

theorem State.numbered_seq (s : State) : s.numbered.fld F.CFG_LS_STAT_SEQ = (s.fld F.CFG_LS_STAT_SEQ + 1) % 2 ^ 16 :=
  (State.fld_put_addr _ _ (by decide)).trans (State.fld_put_same _ _ _ (by decide))

theorem State.lsSubmit_idle {s : State} (idle : s.fld F.CFG_LS_STAT_STATE = lsIdle) :
    s.lsSubmit = if s.numbered.flag F.CFG_LS_STAT_OVF then s.numbered.lsDiscard.postOutcome 0x11 0
      else if s.cfg.staging.isEmpty then s.numbered.postOutcome 0x10 0
      else (({ s.numbered with cfg := { s.cfg with submitted := s.cfg.staging } } : State).setStaging []).put F.CFG_LS_STAT_STATE lsChecking :=
  if_pos idle

/-- The overflowed staging of a submission is empty, as after DISCARD; SEQ has advanced. -/
theorem State.lsDiscard_cleared (s : State) : s.lsDiscard.cfg = { s.cfg with staging := [] } ∧ s.lsDiscard.fld F.CFG_LS_STAT_OPEN_CNT = 0 ∧
    s.lsDiscard.flag F.CFG_LS_STAT_OVF = false ∧ s.lsDiscard.fld F.CFG_LS_STAT_SEQ = s.fld F.CFG_LS_STAT_SEQ := by
  refine ⟨rfl, ?_, ?_, ?_⟩
  · exact (State.fld_put_bits _ _ (by decide)).trans (State.fld_put_same _ _ _ (by decide))
  · exact State.flag_put_same _ _ _ (by decide)
  · exact (State.fld_put_bits _ _ (by decide)).trans (State.fld_put_bits _ _ (by decide))

theorem State.lsDiscard_writes (s : State) : Writes 2 [0x20044] s s.lsDiscard := ⟨((Writes.refl.put F.CFG_LS_STAT_OPEN_CNT 0).put F.CFG_LS_STAT_OVF 0).rd⟩

theorem execLsSubmit_open {s : State} (opened : s.stagingOpen = true) : exec .lsSubmit s = .next s.lsSubmit :=
  congrArg Host.Outcome.next (if_pos opened)

theorem execLsDiscard_open {s : State} (opened : s.stagingOpen = true) : exec .lsDiscard s = .next s.lsDiscard :=
  congrArg Host.Outcome.next (if_pos opened)

theorem State.lsSubmit_taken {s : State} (idle : s.fld F.CFG_LS_STAT_STATE = lsIdle) (fits : s.flag F.CFG_LS_STAT_OVF = false) (staged : s.cfg.staging ≠ []) :
    s.lsSubmit.cfg.submitted = s.cfg.staging ∧ s.lsSubmit.cfg.staging = [] ∧ s.lsSubmit.fld F.CFG_LS_STAT_STATE = lsChecking ∧
      s.lsSubmit.fld F.CFG_LS_STAT_OPEN_CNT = 0 ∧ s.lsSubmit.fld F.CFG_LS_STAT_SEQ = (s.fld F.CFG_LS_STAT_SEQ + 1) % 2 ^ 16 ∧
      s.lsSubmit.fld F.CFG_LS_LOST_LOST_CNT = 0 := by
  have taken : s.lsSubmit = (({ s.numbered with cfg := { s.cfg with submitted := s.cfg.staging } } : State).setStaging []).put F.CFG_LS_STAT_STATE lsChecking := by
    rw [State.lsSubmit_idle idle, State.numbered_overflow, fits, if_neg (by decide), if_neg (by simpa using staged)]
  have written (r : State) : Writes 2 [0x20044] r ((r.setStaging []).put F.CFG_LS_STAT_STATE lsChecking) :=
    ⟨((Writes.refl.put F.CFG_LS_STAT_OPEN_CNT 0).put F.CFG_LS_STAT_STATE lsChecking).rd⟩
  have lost : s.numbered.fld F.CFG_LS_LOST_LOST_CNT = 0 := State.fld_put_same _ _ _ (by decide)
  rw [taken]
  refine ⟨rfl, rfl, State.fld_put_same _ _ _ (by decide), ?_, ?_, ?_⟩
  · exact (State.fld_put_bits _ _ (by decide)).trans (State.fld_put_same _ _ _ (by decide))
  · exact ((State.fld_put_bits _ _ (by decide)).trans (State.fld_put_bits _ _ (by decide))).trans s.numbered_seq
  · exact (written _).fld.trans lost

theorem State.lsSubmit_overflowed {s : State} (idle : s.fld F.CFG_LS_STAT_STATE = lsIdle) (overflow : s.flag F.CFG_LS_STAT_OVF = true) :
    s.lsSubmit.cfg.staging = [] ∧ s.lsSubmit.fld F.CFG_LS_OUT_CODE = 0x11 ∧ s.lsSubmit.flag F.CFG_LS_STAT_OVF = false ∧ Raised Ev.CFG_LS_DONE s s.lsSubmit ∧
      s.lsSubmit.fld F.CFG_LS_OUT_SEQ = (s.fld F.CFG_LS_STAT_SEQ + 1) % 2 ^ 16 := by
  have discarded : s.lsSubmit = s.numbered.lsDiscard.postOutcome 0x11 0 := by
    rw [State.lsSubmit_idle idle, State.numbered_overflow, overflow, if_pos rfl]
  obtain ⟨-, -, cleared, seq⟩ := s.numbered.lsDiscard_cleared
  obtain ⟨code, number⟩ := s.numbered.lsDiscard.postOutcome_shown (c := 0x11) 0 (by decide)
  rw [discarded]
  refine ⟨rfl, code, (State.postOutcome_writes ..).flag.trans cleared, ?_, (number.trans seq).trans s.numbered_seq⟩
  exact (State.postOutcome_raised ..).ofSameCount (s.numbered.lsDiscard_writes.fld.trans s.numbered_writes.fld)

theorem State.lsSubmit_empty {s : State} (idle : s.fld F.CFG_LS_STAT_STATE = lsIdle) (fits : s.flag F.CFG_LS_STAT_OVF = false) (nothing : s.cfg.staging = []) :
    s.lsSubmit.fld F.CFG_LS_OUT_CODE = 0x10 ∧ s.lsSubmit.fld F.CFG_LS_STAT_STATE = lsIdle ∧ Raised Ev.CFG_LS_DONE s s.lsSubmit := by
  have reported : s.lsSubmit = s.numbered.postOutcome 0x10 0 := by
    rw [State.lsSubmit_idle idle, State.numbered_overflow, fits, if_neg (by decide), nothing, if_pos List.isEmpty_nil]
  rw [reported]
  refine ⟨State.postOutcome_code .., ?_, (State.postOutcome_raised ..).ofSameCount s.numbered_writes.fld⟩
  exact ((State.postOutcome_writes ..).fld.trans (s.numbered_fld (by decide) (by decide))).trans idle

/-! The checks end (R100, R102). -/

theorem State.dropSubmitted_writes (s : State) : Writes 2 [0x20044] s s.dropSubmitted := ⟨(Writes.refl.put F.CFG_LS_STAT_STATE lsIdle).rd⟩

theorem State.dropSubmitted_idle (s : State) : s.dropSubmitted.fld F.CFG_LS_STAT_STATE = lsIdle := State.fld_put_same _ _ _ (by decide)

theorem execLsChecksDone_checking {s : State} (checking : s.fld F.CFG_LS_STAT_STATE = lsChecking) : exec .lsChecksDone s = .next s.lsChecked :=
  congrArg Host.Outcome.next (if_pos checking)

theorem State.lsChecked_passed {s : State} (ok : s.checkSet s.cfg.submitted = none) : s.lsChecked = s.put F.CFG_LS_STAT_STATE lsPassed := by
  unfold State.lsChecked
  rw [ok]

theorem State.lsChecked_failed {s : State} {c a : Nat} (failed : s.checkSet s.cfg.submitted = some (c, a)) : s.lsChecked = s.dropSubmitted.postOutcome c a := by
  unfold State.lsChecked
  rw [failed]

/-! The choice of the slots and their marks (R92). -/

/-- The marks of a slot as CFG_SELECT is. -/
def State.markSlot (k : Nat) (s : State) : State :=
  (s.putFlag (F.CFG_SLOT_STAT_PRI_MARK k) (s.fld F.CFG_SELECT_PRIMARY == k)).putFlag (F.CFG_SLOT_STAT_FB_MARK k) (s.fld F.CFG_SELECT_FALLBACK == k)

theorem State.showSelect_eq (s : State) : s.showSelect = forUpTo 4 State.markSlot s := rfl

theorem State.markSlot_rd (s : State) {k a : Nat} (h : a ≠ 0x20020 + 4 * (k % 4)) : (s.markSlot k).rd a = s.rd a :=
  (State.rd_putFlag_other _ _ h).trans (State.rd_putFlag_other _ _ h)

theorem markSlots_select (s : State) (n : Nat) : (forUpTo n State.markSlot s).rd 0x20010 = s.rd 0x20010 :=
  forUpTo_keeps (P := fun t => t.rd 0x20010 = s.rd 0x20010) rfl fun _ t h => (t.markSlot_rd (by omega)).trans h

theorem State.markSlot_marks (s : State) (k : Nat) :
    (s.markSlot k).flag (F.CFG_SLOT_STAT_PRI_MARK k) = (s.fld F.CFG_SELECT_PRIMARY == k) ∧
    (s.markSlot k).flag (F.CFG_SLOT_STAT_FB_MARK k) = (s.fld F.CFG_SELECT_FALLBACK == k) := by
  have apart : (F.CFG_SLOT_STAT_PRI_MARK k).lo + (F.CFG_SLOT_STAT_PRI_MARK k).w ≤ (F.CFG_SLOT_STAT_FB_MARK k).lo := Nat.le_refl 5
  constructor
  · exact (State.flag_put_bits _ _ (.inl apart)).trans (State.flag_putFlag_same _ _ _ (by simp [F.CFG_SLOT_STAT_PRI_MARK]) (by simp [F.CFG_SLOT_STAT_PRI_MARK]))
  · exact State.flag_putFlag_same _ _ _ (by simp [F.CFG_SLOT_STAT_FB_MARK]) (by simp [F.CFG_SLOT_STAT_FB_MARK])

/-- Of the first n slots each shows whether it is the primary and whether it is the fallback. -/
theorem markSlots_marks (s : State) {n k : Nat} (h : n ≤ 4) (hk : k < n) :
    (forUpTo n State.markSlot s).flag (F.CFG_SLOT_STAT_PRI_MARK k) = (s.fld F.CFG_SELECT_PRIMARY == k) ∧
    (forUpTo n State.markSlot s).flag (F.CFG_SLOT_STAT_FB_MARK k) = (s.fld F.CFG_SELECT_FALLBACK == k) := by
  induction n with
  | zero => omega
  | succ n ih =>
    rw [forUpTo_succ]
    rcases Nat.lt_succ_iff_lt_or_eq.mp hk with earlier | rfl
    · have kept := (forUpTo n State.markSlot s).markSlot_rd (k := n) (a := 0x20020 + 4 * (k % 4)) (by omega)
      obtain ⟨primary, fallback⟩ := ih (by omega) earlier
      exact ⟨(State.flag_of_rd kept).trans primary, (State.flag_of_rd kept).trans fallback⟩
    · have select := markSlots_select s k
      obtain ⟨primary, fallback⟩ := (forUpTo k State.markSlot s).markSlot_marks k
      rw [State.fld_of_rd select] at primary fallback
      exact ⟨primary, fallback⟩

/-- A choice is stored and marked. -/
theorem State.cfgSelect_stored {s : State} {v : Word} (verified : s.fld (F.CFG_SLOT_STAT_STATE (fieldOf v 0 2)) = slVerified)
    (differ : fieldOf v 0 2 ≠ fieldOf v 4 2) (fallback : v.getLsbD 8 = true → s.fld (F.CFG_SLOT_STAT_STATE (fieldOf v 4 2)) = slVerified) :
    s.cfgSelect v = (((s.put F.CFG_SELECT_PRIMARY (fieldOf v 0 2)).put F.CFG_SELECT_FALLBACK (fieldOf v 4 2)).putFlag F.CFG_SELECT_FB_EN (v.getLsbD 8)).showSelect := by
  have taken : (s.fld (F.CFG_SLOT_STAT_STATE (fieldOf v 0 2)) != slVerified ||
      (v.getLsbD 8 && s.fld (F.CFG_SLOT_STAT_STATE (fieldOf v 4 2)) != slVerified) || fieldOf v 0 2 == fieldOf v 4 2) = false := by
    simpa [verified, differ] using fallback
  exact if_neg (by rw [taken]; decide)

theorem State.cfgSelect_discarded {s : State} {v : Word} (h : s.fld (F.CFG_SLOT_STAT_STATE (fieldOf v 0 2)) ≠ slVerified ∨ fieldOf v 0 2 = fieldOf v 4 2) :
    s.cfgSelect v = s := by
  refine if_pos ?_
  rcases h with h | h
  · simp [h]
  · simp [h]

/-- The three fields of CFG_SELECT hold what was written. -/
theorem State.fld_select (s : State) {p f : Nat} {b : Bool} (hp : p < 4) (hf : f < 4) :
    let t := ((s.put F.CFG_SELECT_PRIMARY p).put F.CFG_SELECT_FALLBACK f).putFlag F.CFG_SELECT_FB_EN b
    t.fld F.CFG_SELECT_PRIMARY = p ∧ t.fld F.CFG_SELECT_FALLBACK = f ∧ t.flag F.CFG_SELECT_FB_EN = b := by
  refine ⟨?_, ?_, State.flag_putFlag_same _ _ _ (by decide) (by decide)⟩
  · rw [State.putFlag_eq, State.fld_put_bits _ _ (by decide), State.fld_put_bits _ _ (by decide), State.fld_put_same _ _ _ (by decide)]
    exact Nat.mod_eq_of_lt hp
  · rw [State.putFlag_eq, State.fld_put_bits _ _ (by decide), State.fld_put_same _ _ _ (by decide)]
    exact Nat.mod_eq_of_lt hf

theorem State.cfgSelect_shown {s : State} {v : Word} (verified : s.fld (F.CFG_SLOT_STAT_STATE (fieldOf v 0 2)) = slVerified)
    (differ : fieldOf v 0 2 ≠ fieldOf v 4 2) (second : v.getLsbD 8 = true → s.fld (F.CFG_SLOT_STAT_STATE (fieldOf v 4 2)) = slVerified) :
    (s.cfgSelect v).fld F.CFG_SELECT_PRIMARY = fieldOf v 0 2 ∧ (s.cfgSelect v).fld F.CFG_SELECT_FALLBACK = fieldOf v 4 2 ∧
      (s.cfgSelect v).flag F.CFG_SELECT_FB_EN = v.getLsbD 8 ∧ ∀ k, k < 4 → (s.cfgSelect v).flag (F.CFG_SLOT_STAT_PRI_MARK k) = (fieldOf v 0 2 == k) ∧
        (s.cfgSelect v).flag (F.CFG_SLOT_STAT_FB_MARK k) = (fieldOf v 4 2 == k) := by
  rw [State.cfgSelect_stored verified differ second, State.showSelect_eq]
  generalize ht : ((s.put F.CFG_SELECT_PRIMARY (fieldOf v 0 2)).put F.CFG_SELECT_FALLBACK (fieldOf v 4 2)).putFlag F.CFG_SELECT_FB_EN (v.getLsbD 8) = t
  obtain ⟨primary, fallback, enabled⟩ := s.fld_select (b := v.getLsbD 8) (fieldOf_lt v 0 2) (fieldOf_lt v 4 2)
  rw [ht] at primary fallback enabled
  have kept := markSlots_select t 4
  refine ⟨(State.fld_of_rd kept).trans primary, (State.fld_of_rd kept).trans fallback, (State.flag_of_rd kept).trans enabled, fun k hk => ?_⟩
  rw [← primary, ← fallback]
  exact markSlots_marks t (Nat.le_refl 4) hk

/-! The confirmation (R94 to R96). -/

theorem State.confirmFail_closed (s : State) : s.confirmFail.fld F.CFG_STAT_CONF_WIN = 0 ∧ s.confirmFail.cfg = s.cfg ∧ Raised Ev.CFG_CONF_FAIL s s.confirmFail := by
  have closed : Writes 2 [0x20000] s (s.put F.CFG_STAT_CONF_WIN 0) := Writes.refl.put _ _
  have told (r : State) : Writes 2 [0x20060, 0x20064] r (r.event Ev.CFG_CONF_FAIL) := Writes.refl.event _
  refine ⟨(told _).fld.trans (State.fld_put_same _ _ _ (by decide)), rfl, ?_⟩
  exact (State.event_raised _ Ev.CFG_CONF_FAIL (by decide)).ofSameCount closed.fld

section confirm

variable {s : State} {v : Word} {tc : Tc}

theorem State.cfgConfirm_right (unconfirmed : s.flag F.CFG_STAT_CONFIRMED = false) (valid : s.flag F.CFG_STAT_VALID = true)
    (right : v.toNat = s.fld F.CFG_SAFETY_CV_VALUE) :
    s.cfgConfirm v tc = ({ s with cfg := { s.cfg with windowTc := tc } } : State).put F.CFG_STAT_CONF_WIN 1 := by
  simp [State.cfgConfirm, unconfirmed, valid, right]

theorem State.cfgConfirm_wrong (unconfirmed : s.flag F.CFG_STAT_CONFIRMED = false) (wrong : v.toNat ≠ s.fld F.CFG_SAFETY_CV_VALUE) :
    s.cfgConfirm v tc = s.confirmFail := by
  simp [State.cfgConfirm, unconfirmed, wrong]

theorem State.cfgConfirmInv_right (unconfirmed : s.flag F.CFG_STAT_CONFIRMED = false) (window : s.flag F.CFG_STAT_CONF_WIN = true)
    (within : (tc - s.cfg.windowTc).toNat ≤ confirmWindow) (right : (~~~v).toNat = s.fld F.CFG_SAFETY_CV_VALUE) :
    s.cfgConfirmInv v tc = ({ s with cfg := { s.cfg with confirmWriting := true } } : State).put F.CFG_STAT_CONF_WIN 0 := by
  simp only [State.cfgConfirmInv, unconfirmed, window, within, right, decide_true, beq_self_eq_true, Bool.and_true, if_true, Bool.false_eq_true, if_false]

theorem execConfirmationRecordWritten_unwritten (h : s.cfg.confirmWriting = false ∨ s.lidHeld = false) : exec .confirmationRecordWritten s = .next s := by
  refine if_neg ?_
  rcases h with h | h
  · simp [h]
  · simp [h]

end confirm

/-- The state after the flash write of the record of slot k, with safety check value v. -/
def State.confirmed (s : State) (k : Nat) (v : Word) : State :=
  (({ s with cfg := { s.cfg with confirmWriting := false, confirmDue := true, confirms := setAt s.cfg.confirms k (some v) } } : State).put
    F.CFG_STAT_CONFIRMED 1).put (F.CFG_SLOT_STAT_CONFIRMED k) 1

theorem State.confirmed_shown {s : State} {k : Nat} (v : Word) (sized : s.cfg.Sized) (hk : k < 4) :
    (s.confirmed k v).fld F.CFG_STAT_CONFIRMED = 1 ∧ (s.confirmed k v).fld (F.CFG_SLOT_STAT_CONFIRMED k) = 1 ∧
      (s.confirmed k v).cfg.confirms.getD k none = some v := by
  have elsewhere : F.CFG_STAT_CONFIRMED.addr ≠ (F.CFG_SLOT_STAT_CONFIRMED k).addr := by simp [F.CFG_STAT_CONFIRMED, F.CFG_SLOT_STAT_CONFIRMED]; omega
  refine ⟨(State.fld_put_addr _ _ elsewhere).trans (State.fld_put_same _ _ _ (by decide)), State.fld_put_same _ _ _ (by simp [F.CFG_SLOT_STAT_CONFIRMED]), ?_⟩
  exact getD_setAt_same _ _ _ _ (sized.2 ▸ hk)

theorem execConfirmationRecordWritten_written {s : State} (writing : s.cfg.confirmWriting = true) (lid : s.lidHeld = true) :
    exec .confirmationRecordWritten s = .next (s.confirmed (s.fld F.CFG_STAT_SLOT) (BitVec.ofNat 32 (s.fld F.CFG_SAFETY_CV_VALUE))) :=
  if_pos (by rw [writing, lid]; rfl)

/-- Settles O46: each command is the operation of its case, and the operation shows its outcome. -/
theorem liveSetAndConfirmation : Obligations.LiveSetAndConfirmation := by
  unfold Obligations.LiveSetAndConfirmation
  refine ⟨?taken, ?overflowed, ?empty, ?ignored, ?shut, ?discard, ?passed, ?failed, ?stored, ?discarded, ?right, ?wrong, ?complement, ?already, ?expiry, ?written,
    fun _ h => execConfirmationRecordWritten_unwritten h⟩
  case taken => exact fun s opened idle fits staged => ⟨_, execLsSubmit_open opened, State.lsSubmit_taken idle fits staged⟩
  case overflowed => exact fun s opened idle overflow => ⟨_, execLsSubmit_open opened, State.lsSubmit_overflowed idle overflow⟩
  case empty => exact fun s opened idle fits nothing => ⟨_, execLsSubmit_open opened, State.lsSubmit_empty idle fits nothing⟩
  case ignored => exact fun s opened busy => (execLsSubmit_open opened).trans (congrArg Host.Outcome.next (if_neg busy))
  case shut => exact fun s shut => ⟨congrArg Host.Outcome.next (if_neg (by simp [shut])), congrArg Host.Outcome.next (if_neg (by simp [shut]))⟩
  case discard =>
    intro s opened
    obtain ⟨cfg, count, clear, -⟩ := s.lsDiscard_cleared
    exact ⟨_, execLsDiscard_open opened, cfg, count, clear⟩
  case passed => exact fun s checking ok => (execLsChecksDone_checking checking).trans (congrArg Host.Outcome.next (State.lsChecked_passed ok))
  case failed =>
    intro s c a checking failed
    refine ⟨_, (execLsChecksDone_checking checking).trans (congrArg Host.Outcome.next (State.lsChecked_failed failed)), rfl, ?_, State.postOutcome_code ..,
      State.postOutcome_address .., (State.postOutcome_raised ..).ofSameCount s.dropSubmitted_writes.fld⟩
    exact (State.postOutcome_writes ..).fld.trans s.dropSubmitted_idle
  case stored => exact fun s v verified differ second => ⟨_, rfl, State.cfgSelect_shown verified differ second⟩
  case discarded => exact fun s v h => congrArg Host.Outcome.next (State.cfgSelect_discarded h)
  case right => exact fun s v tc unconfirmed valid right => congrArg Host.Outcome.next (State.cfgConfirm_right unconfirmed valid right)
  case wrong => exact fun s v tc unconfirmed wrong => ⟨_, congrArg Host.Outcome.next (State.cfgConfirm_wrong unconfirmed wrong), s.confirmFail_closed⟩
  case complement => exact fun s v tc unconfirmed window within right => congrArg Host.Outcome.next (State.cfgConfirmInv_right unconfirmed window within right)
  case already => exact fun s v tc done => ⟨congrArg Host.Outcome.next (if_pos done), congrArg Host.Outcome.next (if_pos done)⟩
  case expiry => exact fun s tc window late => congrArg Host.Outcome.next (if_pos (by rw [window, decide_eq_true late]; rfl))
  case written =>
    intro s sized writing lid
    obtain ⟨stat, slot, record⟩ := s.confirmed_shown (BitVec.ofNat 32 (s.fld F.CFG_SAFETY_CV_VALUE)) sized (fieldOf_lt _ 0 2 : s.fld F.CFG_STAT_SLOT < 4)
    exact ⟨_, execConfirmationRecordWritten_written writing lid, stat, slot, record, rfl, rfl⟩

end Sys2Proof.Machine
end

section
/-! The thermal shutdown against a program whose safe value is the restart key (R93, R313, R369). -/
namespace Sys2Proof.Machine

open Sys2Proof

-- Default arguments by tactic wait for the declarations before: begun all at once the proofs below would each hold a thread and its stack.
set_option Elab.async false

/-! A start with no cause set gives no input: X60 is released (R314, R453). -/

theorem State.showCause_causeSet (s : State) : s.showCause.causeSet = (s.thm.torn || fieldOf s.thm.word 24 8 == 0x5D) := by
  have mark (x : State) (b c : Bool) : (x.putFlag F.THM_STAT_SD_PEND (b || c)).causeSet = (b || c) := State.flag_putFlag_same _ _ _ (by decide) (by decide)
  unfold State.showCause
  cases torn : s.thm.torn
  · exact mark ..
  · exact mark ..

theorem State.foundCause_unset {s : State} (cause : Nat) (cool : Bool) (unset : s.causeSet = false) : s.foundCause cause cool = s :=
  if_neg (by rw [unset]; decide)

theorem State.startWith_prt {s : State} (keep : Nat → Word) (cause : Nat) (tc : Tc) (whole : s.thm.torn = false) (unmarked : fieldOf s.thm.word 24 8 ≠ 0x5D) :
    (s.startWith keep cause tc).prt = Prt.reset := by
  unfold State.startWith
  extract_lets cool t pwr u v
  have prt : v.prt = Prt.reset := (State.invalidateWriting_moved _).same 12 rfl
  have thm : v.thm = { Thm.reset with word := s.thm.word, inv := s.thm.inv } := (State.invalidateWriting_moved _).same 16 rfl
  have powered : (v.safPowerUp tc).thm = v.thm := (State.safPowerUp_moved ..).same 16 rfl
  have unset : ((v.safPowerUp tc).showCause.bootChoose.svcNonce).causeSet = false := by
    rw [State.causeSet, (State.svcNonce_moved _).flag 11, (State.bootChoose_moved _).flag 11, ← State.causeSet, State.showCause_causeSet, powered, thm]
    simpa [Thm.torn, unmarked] using whole
  rw [State.foundCause_unset _ _ unset, (State.svcNonce_moved _).same 12 rfl, (State.bootChoose_moved _).same 12 rfl, (State.showCause_moved _).same 12 rfl,
    (State.safPowerUp_moved ..).same 12 rfl, prt]

/-! The program's write of the restart key (R93, R367, R369). -/

theorem State.progWrite_restart {s : State} (tc : Tc) (awake : s.blockDormant 2 = false) (lid : s.lidHeld = true) :
    s.progWrite 0x2001c 0xA55A tc = (s.allSafe tc).beginStart 3 tc := by
  have reached : s.dormantAt 0x2001c = false := by simp [State.dormantAt, awake]
  have declared : s.declaredObj 0x2001c = true := by simp [State.declaredObj, awake]
  have direct : rwsMask 0x2001c = 0 := by decide +kernel
  have may : s.laneMay s.ownOrigin 0x2001c = true := by
    obtain ⟨l, holder⟩ := Option.isSome_iff_exists.mp lid
    simp [State.laneMay, State.holdsLid, State.ownOrigin, State.currentEpoch, holder, serviceOnly, inArray]
  have key : s.cfgRestart 0xA55A#32 tc = (s.allSafe tc).beginStart 3 tc := if_pos (by rw [lid]; rfl)
  unfold State.progWrite State.objWrite0
  simp [reached, declared, direct, may, State.writeData, key, inArray]

/-- What the program's restart rests on, but for the program: CFG awake, a lane in charge, no cause set. -/
def State.Restartable (s : State) : Prop := s.blockDormant 2 = false ∧ s.lidHeld = true ∧ s.thm.torn = false ∧ fieldOf s.thm.word 24 8 ≠ 0x5D

theorem Moved.restartable {m : Nat} {r s : State} (h : Moved m r s) (ready : r.Restartable) (dormancy : (decide (0 < 22) && !m.testBit 32) = true := by rfl)
    (lan : m.testBit 22 = false := by rfl) (thm : m.testBit 16 = false := by rfl) : s.Restartable := by
  obtain ⟨awake, lid, cause⟩ := ready
  refine ⟨?_, ?_, ?_⟩
  · rw [State.blockDormant, State.bit, h.fld 0 rfl dormancy]
    exact awake
  · rw [State.lidHeld, h.same 22 lan]
    exact lid
  · rw [h.same 16 thm]
    exact cause

/-- A variable bound to CFG_RESTART whose safe value is the restart key. -/
def restartVar : SeqVar :=
  { addr := 0, width := 32, initial := 0, binding := some { addr := 0x2001c, output := true }, output := none, input := none, safe := some 0xA55A, trigger := none }

theorem State.safeOutputs_restart {s : State} (tc : Tc) (ready : s.Restartable) (vars : s.seqVars = [restartVar]) : (s.safeOutputs tc).prt = Prt.reset := by
  obtain ⟨awake, lid, whole, unmarked⟩ := ready
  have written : s.safeOutputs tc = ((s.progWrite 0x2001c 0xA55A tc).put F.SEQ_STAT_SAFE_OUT 1).sendOuts false tc := by
    unfold State.safeOutputs
    rw [vars]
    rfl
  have safe : (s.allSafe tc).thm = s.thm := (State.allSafe_moved ..).same 16 rfl
  rw [written, (State.sendOuts_moved ..).same 12 rfl, State.put_prt, State.progWrite_restart tc awake lid]
  exact State.startWith_prt _ _ _ (by rw [safe, whole]) (by rwa [safe])

theorem State.programOff_restart {s : State} (tc : Tc) (ready : s.Restartable) (vars : s.seqVars = [restartVar]) (awake : s.blockDormant 14 = false)
    (started : s.seq.started = true) (idle : s.seq.running = false) : (s.programOff tc).prt = Prt.reset := by
  have stops : s.programOff tc = s.seqDisable tc := if_neg (by rw [awake, started]; decide)
  rw [stops]
  unfold State.seqDisable
  extract_lets event n counted seq emptied
  have quiet : emptied.evaluating = false := by
    have idle : emptied.seq.running = false := idle
    rw [State.evaluating, idle, Bool.false_and]
  have begun : Moved 0x400000800001 s emptied := (State.put_moved (.refl ..) _ _ rfl).andThen (State.withSeq_moved counted _ fun inv => inv.seq)
  rw [quiet, if_neg (by decide), State.seqStopped]
  exact State.safeOutputs_restart tc ((begun.andThen (State.seqLeave_moved ..)).restartable ready) vars

/-! The thermal shutdown, up to the program's stop and after it (R313). -/

/-- Everything open, the coolant outputs as configured, the services off; the program is stopped next. -/
def State.shutBeforeProgram (s : State) (tc : Tc) : State :=
  let cool := (s.img 12 102 1).testBit 0
  ((((s.giveInput 60 true tc).allSafe tc).put F.THM_STAT_PUMP (if cool then 100 else 0)).putFlag F.THM_STAT_CHILL cool).serviceOff

/-- What the thermal shutdown does once the program has stopped. -/
def State.shutAfterProgram (s : State) (cause : Nat) (t : Int) (tc : Tc) : State :=
  let s := s.dispatchOff.writeCause (BitVec.ofNat 32 (causeWord cause t))
  let s := if s.blockDormant 6 then s else s.estDisable.triggerWb 4 tc
  let s := if s.blockDormant 0x12 then s else s.afeDisable
  let s := (s.put F.LAN_SS_CAUSE_CAUSE 4).put F.LAN_SS_CAUSE_CLASS 0
  let s := s.silence.updWithdraw.lanesOff
  { s with lan := { s.lan with stopTc := some tc }, pwr := { s.pwr with state := .thermalStop, request := none } }

theorem State.thermalShutdown_eq (s : State) (cause : Nat) (t : Int) (tc : Tc) :
    s.thermalShutdown cause t tc = ((s.shutBeforeProgram tc).programOff tc).shutAfterProgram cause t tc := rfl

theorem State.shutAfterProgram_prt (s : State) (cause : Nat) (t : Int) (tc : Tc) : (s.shutAfterProgram cause t tc).prt = s.prt := by
  unfold State.shutAfterProgram
  extract_lets noted estimated measured caused silent lan pwr
  have toNoted : noted.prt = s.prt := ((State.writeCause_moved ..).same 12 rfl).trans ((State.dispatchOff_moved _).same 12 rfl)
  have toEstimated : Moved 0x4000000401 noted estimated := .ite (.refl ..) ((State.estDisable_moved _).andThen (State.triggerWb_moved ..))
  have toMeasured : Moved 0x4000000000801 estimated measured := .ite (.refl ..) (State.afeDisable_moved _)
  have toSilent : silent.prt = measured.prt := by
    change caused.silence.updWithdraw.lanesOff.prt = measured.prt
    rw [(State.lanesOff_moved _).same 12 rfl, (State.updWithdraw_moved _).same 12 rfl, (State.silence_moved _).same 12 rfl]
    rfl
  exact toSilent.trans ((toMeasured.same 12 rfl).trans ((toEstimated.same 12 rfl).trans toNoted))

theorem State.shutBeforeProgram_moved (s : State) (tc : Tc) : Moved 0x9b8208263021 s (s.shutBeforeProgram tc) := by
  unfold State.shutBeforeProgram
  extract_lets cool
  have safe := ((State.giveInput_moved s 60 true tc).widen (m := 0x9b8208263021)).andThen (State.allSafe_moved _ tc)
  exact (State.putFlag_moved (State.put_moved safe _ _ rfl) _ _ rfl).andThen (State.serviceOff_moved _)

/-! The counterexample. -/

/-- A program of nothing but the variable that restarts. -/
def restartProgram : SeqProgram :=
  { cycle := 1, wdt := 1, cv := 0, codeBytes := 0, imageBytes := 0, hasInit := false, cyclic := [], events := [], hasError := false, vars := [restartVar],
    rioBase := 0, stations := [] }

/-- Every block awake, lane A in charge of the running module, the program started, one hot reading of the first sensor taken. -/
def hotWithRestart : State :=
  { (State.reset.wr 0x10 0).wr 0x14 0 with
    lan := { Lan.reset with pins := lidPins (some .a), back := lidPins (some .a) }
    pwr := { Pwr.reset with state := .running }
    thm := { Thm.reset with hot1 := 1 }
    seq := { Seq.reset with started := true, prog := some restartProgram } }

/-- The second reading of 135 °C. -/
theorem hotWithRestart_reading : exec (.junctionReading 17280 0 0) hotWithRestart = .next ((hotWithRestart.takeJunctions 17280 0).thermalShutdown 1 17280 0) := by
  have hot : (hotWithRestart.takeJunctions 17280 0).hotJunction = some 17280 := by decide +kernel
  change execJunctionReading 17280 0 0 hotWithRestart = _
  simp only [execJunctionReading, hot]
  rfl

theorem hotWithRestart_restartable : (hotWithRestart.takeJunctions 17280 0).Restartable := by unfold State.Restartable; decide +kernel

/-- The program's write has restarted the module, and X60 is released. -/
theorem hotWithRestart_released : ((hotWithRestart.takeJunctions 17280 0).thermalShutdown 1 17280 0).prt.given.getLsbD 60 = false := by
  have before := State.shutBeforeProgram_moved (hotWithRestart.takeJunctions 17280 0) 0
  have seq : ((hotWithRestart.takeJunctions 17280 0).shutBeforeProgram 0).seq = hotWithRestart.seq :=
    (before.same 23 rfl).trans ((State.takeJunctions_moved ..).same 23 rfl)
  have awake : ((hotWithRestart.takeJunctions 17280 0).shutBeforeProgram 0).blockDormant 14 = false := by
    rw [State.blockDormant, State.bit, before.fld 0]
    decide +kernel
  have vars : ((hotWithRestart.takeJunctions 17280 0).shutBeforeProgram 0).seqVars = [restartVar] := by
    rw [State.seqVars, seq]
    rfl
  have restarted := State.programOff_restart 0 (before.restartable hotWithRestart_restartable) vars awake (by rw [seq]; rfl) (by rw [seq]; rfl)
  rw [State.thermalShutdown_eq, State.shutAfterProgram_prt, restarted]
  rfl

/-- Refutes O54: as the thermal shutdown stops the program (R313, R369), the safe value of a variable bound to CFG_RESTART restarts the module
(R93), and X60 is not active. -/
theorem not_startsAndShutdowns : ¬ Obligations.StartsAndShutdowns := by
  intro h
  obtain ⟨-, -, -, -, -, -, -, -, shutdown, -⟩ := h
  have hot : junctionValid 17280 = true ∧ 17280 ≤ (17280 : BitVec 16).toInt ∧ 1 ≤ hotWithRestart.thm.hot1 := by decide
  obtain ⟨t, run, -, -, active, -⟩ := shutdown hotWithRestart 17280 0 0 rfl (by decide) (by decide) (.inl hot)
  have outcome := Host.Outcome.next.inj (hotWithRestart_reading.symm.trans run)
  rw [← outcome, hotWithRestart_released] at active
  exact absurd active (by decide)

end Sys2Proof.Machine
end

section
/-! Firings: which entry acts on a tick, and what a firing leaves for the rest of the tick (R109, R117 to R119). -/
namespace Sys2Proof.Machine

open Sys2Proof

theorem schedEntry_action (s : State) (k : Fin 64) : (schedEntry s.rd k).action = s.fld (F.PHB_SCHED_A_ACTION k) := by
  rw [State.fld_eq, F.PHB_SCHED_A_ACTION, Nat.mod_eq_of_lt k.isLt]
  rfl

/-- The places of a tick's firings are ordered by action, and within one action by entry (R119). -/
theorem firingKey_inj {k j : Fin 64} {a b : Nat} (h : firingKey k a = firingKey j b) : a = b ∧ k = j := by
  unfold firingKey at h
  omega

theorem firingKey_le {k j : Fin 64} {a b : Nat} : firingKey k a ≤ firingKey j b ↔ a < b ∨ a = b ∧ k ≤ j := by
  rw [firingKey, firingKey, Fin.le_def]
  omega

theorem firingKey_lt {k j : Fin 64} {a b : Nat} : firingKey k a < firingKey j b ↔ a < b ∨ a = b ∧ k < j := by
  rw [firingKey, firingKey, Fin.lt_def]
  omega

theorem leastOf_eq_none {l : List Nat} (h : leastOf l = none) : l = [] := by
  cases l with
  | nil => rfl
  | cons a l =>
    rw [leastOf] at h
    split at h <;> cases h

theorem leastOf_eq_some {l : List Nat} {n : Nat} (h : leastOf l = some n) : n ∈ l ∧ ∀ m ∈ l, n ≤ m := by
  induction l generalizing n with
  | nil => cases h
  | cons a l ih =>
    rw [leastOf] at h
    split at h
    next rest =>
      cases h
      simp [leastOf_eq_none rest]
    next b rest =>
      obtain ⟨mem, least⟩ := ih rest
      cases h
      refine ⟨?_, fun m hm => ?_⟩
      · rcases min_choice a b with h | h <;> rw [h] <;> simp [mem]
      · rcases List.mem_cons.mp hm with rfl | hm
        · exact min_le_left ..
        · exact (min_le_right ..).trans (least m hm)

namespace State

variable {s : State} {tc : Tc}

/-- An entry has a place on a tick on which it is due; an APERTURE entry has none, its aperture has (R118, R120). -/
theorem firingKey_mem_keysAt {k : Fin 64} {a : Nat} (h4 : a ≠ 4) : firingKey k a ∈ s.keysAt tc ↔
    a ≠ 0 ∧ s.fld (F.PHB_SCHED_A_ACTION k) = a ∧ (schedEntry s.rd k).due s.phb.startCycle (s.positionAt tc) (s.phbStep tc) = true := by
  have aperture : firingKey k a ∉ if s.afe.aperture.contains tc then [apertureKey] else [] := by
    intro h
    split at h
    · exact h4 (firingKey_inj (j := 0) (List.mem_singleton.mp h)).1
    · cases h
  rw [State.keysAt, List.mem_append, or_iff_right aperture, List.mem_filterMap]
  constructor
  · rintro ⟨j, hj, h⟩
    dsimp only at h
    split at h
    next c =>
      obtain ⟨rfl, e⟩ := firingKey_inj (k := ⟨j, List.mem_range.mp hj⟩) (Option.some.inj h)
      obtain rfl : j = k.val := congrArg Fin.val e
      simp only [Bool.and_eq_true, bne_iff_ne] at c
      exact ⟨c.1.1, (schedEntry_action s k).symm, c.2⟩
    next => cases h
  · rintro ⟨h0, rfl, due⟩
    refine ⟨k, List.mem_range.mpr k.isLt, ?_⟩
    simp [schedEntry_action, h0, h4, due]

theorem turn_eq_some {n : Nat} (h : s.turn tc = some n) :
    n ∈ s.keysAt tc ∧ s.unfired tc n = true ∧ ∀ m ∈ s.keysAt tc, s.unfired tc m = true → n ≤ m := by
  obtain ⟨mem, least⟩ := leastOf_eq_some h
  obtain ⟨mem, unfired⟩ := List.mem_filter.mp mem
  exact ⟨mem, unfired, fun m hm u => least m (List.mem_filter.mpr ⟨hm, u⟩)⟩

theorem fires_spec {k : Fin 64} {a : Nat} (h : s.fires k a tc = true) :
    s.flag F.PHB_STAT_SCHED_RUN = true ∧ s.fld (F.PHB_SCHED_A_ACTION k) = a ∧ s.turn tc = some (firingKey k a) := by
  simp only [State.fires, Bool.and_eq_true, beq_iff_eq] at h
  obtain ⟨⟨⟨⟨⟨-, run⟩, -⟩, -⟩, action⟩, turn⟩ := h
  exact ⟨run, action, turn⟩

/-- What has acted on a tick leaves the tick to what comes after it (R109, R119). -/
theorem acted_unfired (n m : Nat) : (s.acted n tc).unfired tc m = decide (n < m) := if_pos rfl

end State

/-- Settles O13: the turn of a tick is the least of its places that nothing has taken or passed. -/
theorem firingsOfOneTick : Obligations.FiringsOfOneTick := by
  refine ⟨fun s k j a tc h0 h4 fires => ?_, fun s k j a b tc fires => ?_⟩
  · obtain ⟨run, action, turn⟩ := State.fires_spec fires
    obtain ⟨mem, -, first⟩ := State.turn_eq_some turn
    obtain ⟨-, -, due⟩ := (State.firingKey_mem_keysAt h4).mp mem
    refine ⟨run, action, due, fun j0 j4 dueJ unfired => firingKey_le.mp ?_⟩
    exact first _ ((State.firingKey_mem_keysAt j4).mpr ⟨j0, rfl, dueJ⟩) unfired
  · obtain ⟨-, -, turn⟩ := State.fires_spec fires
    obtain ⟨-, unfired, -⟩ := State.turn_eq_some turn
    rw [State.acted_unfired] at unfired
    exact firingKey_lt.mp (of_decide_eq_true unfired)

end Sys2Proof.Machine
end

section
/-! The phase base: reference events, a missing reference, wraps, encoder counts and marks (R108 to R116, R124). -/
namespace Sys2Proof.Machine

open Sys2Proof

-- Default arguments by tactic wait for the declarations before: begun all at once the proofs below would each hold a thread and its stack.
set_option Elab.async false

theorem Writes.rd64 {b : Nat} {l : List Nat} {r s : State} (h : Writes b l r s) {a : Nat} (lo : a / 0x10000 = b ∧ a ∉ l := by decide)
    (hi : (a + 4) / 0x10000 = b ∧ a + 4 ∉ l := by decide) : s.rd64 a = r.rd64 a := by
  rw [State.rd64, State.rd64, h.rd _ lo.1 lo.2, h.rd _ hi.1 hi.2]

theorem Writes.wr64 {b : Nat} {l : List Nat} {r s : State} (h : Writes b l r s) (a : Nat) (v : BitVec 64) (lo : a ∈ l := by decide)
    (hi : a + 4 ∈ l := by decide) : Writes b l r (s.wr64 a v) := (h.wr _ lo).wr _ hi

/-! Reference events (R111, R114, R116). -/

/-- The sources whose events are commands of their own: the carrier, the mains, and the encoder where it has completed its counts. -/
theorem exec_referenceEvent {s : State} {tc : Tc} (on : s.phbOn = true)
    (source : s.fld F.PHB_SRC_SOURCE = 1 ∨ s.fld F.PHB_SRC_SOURCE = 2 ∨ s.fld F.PHB_SRC_SOURCE = 3 ∧ s.phb.encDue = true) :
    ∃ b, exec (.referenceEvent tc) s =
      .next (State.refEvent { s with phb := { s.phb with encDue := b } } tc (tc16 tc) (s.phaseAt tc) none true) := by
  rw [show exec (.referenceEvent tc) s = execReferenceEvent tc s from rfl, execReferenceEvent, if_neg (by simp [on])]
  rcases source with h | h | ⟨h, due⟩
  · rw [h]
    exact ⟨s.phb.encDue, rfl⟩
  · rw [h]
    exact ⟨s.phb.encDue, rfl⟩
  · rw [h]
    exact ⟨false, if_pos due⟩

/-- In INTERNAL an event only enters the acquisition history. -/
theorem State.refEvent_internal {s : State} (tc : Tc) (t16 : Nat) (ph : BitVec 16) (period : Option Nat) (valid : Bool)
    (st : s.fld F.PHB_STAT_STATE = phbInternal) :
    ∃ ok p, (s.refEvent tc t16 ph period valid).phb = { s.phb with lastRef := some t16, period := p, history := ok :: s.phb.history.take 7 } ∧
      (s.refEvent tc t16 ph period valid).fld F.PHB_STAT_STATE = phbInternal ∧
      ∀ l, period = none → s.phb.lastRef = some l → ok = (s.freqOk (t16 - l) && valid) := by
  simp only [State.refEvent, st, phbInternal]
  refine ⟨_, _, rfl, (State.fld_put_addr _ _ (by decide)).trans st, ?_⟩
  rintro l rfl last
  simp [last, phbLocked, phbFlywheel]

/-- In LOCKED an event out of range loses the reference; the increment is held. -/
theorem State.refEvent_lost {s : State} (tc : Tc) (t16 : Nat) (ph : BitVec 16) (valid : Bool) {l : Nat} (st : s.fld F.PHB_STAT_STATE = phbLocked)
    (last : s.phb.lastRef = some l) (out : s.freqOk (t16 - l) = false) :
    s.refEvent tc t16 ph none valid = (({ s with phb := { s.phb with lastRef := some t16 } } : State).put F.PHB_FREQ_MHZ 0).toFlywheel := by
  simp only [State.refEvent, st, phbLocked, last, Option.getD_none, out, Bool.false_and]
  rfl

theorem State.toFlywheel_writes (s : State) : Writes 3 [0x30000, 0x30004, 0x30008] s s.toFlywheel :=
  ⟨(((Writes.refl.event Ev.PHB_LOSS).put F.PHB_STAT_STATE phbFlywheel).put F.PHB_STAT_FLYCNT 0).rd⟩

theorem State.toFlywheel_state (s : State) : s.toFlywheel.fld F.PHB_STAT_STATE = phbFlywheel ∧ s.toFlywheel.fld F.PHB_STAT_FLYCNT = 0 :=
  ⟨(State.fld_put_bits _ _ (by decide)).trans (State.fld_put_same _ _ _ (by decide)), State.fld_put_same _ _ _ (by decide)⟩

theorem State.toFlywheel_loss (s : State) : s.toFlywheel.fld Ev.PHB_LOSS.cnt = (s.fld Ev.PHB_LOSS.cnt + 1) % 2 ^ Ev.PHB_LOSS.cnt.w :=
  Eq.trans ((State.fld_put_addr _ _ (by decide)).trans (State.fld_put_addr _ _ (by decide))) (State.event_raised s Ev.PHB_LOSS (by decide)).2

/-- A lost reference shows no frequency, and the increment is held. -/
theorem State.toFlywheel_holds (s : State) : ((s.put F.PHB_FREQ_MHZ 0).toFlywheel).fld F.PHB_FREQ_MHZ = 0 ∧
    ((s.put F.PHB_FREQ_MHZ 0).toFlywheel).rd64 0x30020 = s.rd64 0x30020 := by
  constructor
  · rw [(State.toFlywheel_writes _).fld, State.fld_put_same _ _ _ (by decide), Nat.zero_mod]
  · rw [(State.toFlywheel_writes _).rd64, (Writes.refl (b := 3) (l := [0x3001c])).put .. |>.rd64]

/-! A missing reference (R112). -/

theorem State.missingBy_iff {s : State} {tc : Tc} {l : Nat}
    (source : s.fld F.PHB_SRC_SOURCE = 1 ∨ s.fld F.PHB_SRC_SOURCE = 2 ∨ s.fld F.PHB_SRC_SOURCE = 3) (last : s.phb.lastRef = some l) :
    s.missingBy tc = true ↔ 5 * 16 * 10 ^ 12 ≤ 4 * s.fld F.PHB_FMIN_MHZ * (tc16 tc - l) := by
  rcases source with h | h | h <;> simp only [State.missingBy, h, last, decide_eq_true_eq]

theorem State.refMissing_locked {s : State} (tc : Tc) (st : s.fld F.PHB_STAT_STATE = phbLocked) :
    s.refMissing tc = (s.put F.PHB_FREQ_MHZ 0).toFlywheel := by
  have st' : (s.put F.PHB_FREQ_MHZ 0).fld F.PHB_STAT_STATE = phbLocked := (State.fld_put_addr _ _ (by decide)).trans st
  simp only [State.refMissing, st', phbLocked]

/-! Wraps (R108, R114, R116, R124). -/

@[simp] theorem State.clearHistory_fld (s : State) (g : Field) : s.clearHistory.fld g = s.fld g := rfl

theorem State.toInternal_state (s : State) (tc : Tc) : (s.toInternal tc).fld F.PHB_STAT_STATE = phbInternal := by
  rw [State.toInternal, State.clearHistory_fld, State.fld_put_bits _ _ (by decide), State.fld_put_same _ _ _ (by decide)]
  rfl

/-- The wraps by a tick have been counted, up to a cycle count, and the tick latched. -/
structure State.Wrapped (tc : Tc) (n : BitVec 64) (s : State) : Prop where
  accTc : s.phb.accTc = tc
  carries : s.phb.carries = 0
  cycle : s.rd64 0x30014 = n
  latch : s.rd64 0x30028 = tc

namespace State.Wrapped

variable {tc : Tc} {n : BitVec 64} {s : State}

theorem carriesAt (h : s.Wrapped tc n) : s.carriesAt tc = 0 := by
  rw [State.carriesAt, h.carries, h.accTc, BitVec.sub_self, Nat.zero_add]
  exact Nat.div_eq_of_lt s.phb.acc.isLt

theorem wrapsAt (h : s.Wrapped tc n) : s.wrapsAt tc = false := by simp [State.wrapsAt, h.carriesAt]

/-- A change that leaves the accumulator's instant, its carries, and the cycle count and latch. -/
theorem keep {t : State} (h : s.Wrapped tc n) (accTc : t.phb.accTc = s.phb.accTc) (carries : t.phb.carries = s.phb.carries)
    {l : List Nat} (w : Writes 3 l s t) (cycle : 0x30014 ∉ l ∧ 0x30018 ∉ l := by decide) (latch : 0x30028 ∉ l ∧ 0x3002c ∉ l := by decide) :
    t.Wrapped tc n :=
  ⟨accTc.trans h.accTc, carries.trans h.carries, (w.rd64 ⟨rfl, cycle.1⟩ ⟨rfl, cycle.2⟩).trans h.cycle, (w.rd64 ⟨rfl, latch.1⟩ ⟨rfl, latch.2⟩).trans h.latch⟩

theorem put (h : s.Wrapped tc n) (f : Field) (x : Nat) (cycle : 0x30014 ∉ [f.addr] ∧ 0x30018 ∉ [f.addr] := by decide)
    (latch : 0x30028 ∉ [f.addr] ∧ 0x3002c ∉ [f.addr] := by decide) : (s.put f x).Wrapped tc n :=
  h.keep rfl rfl (Writes.refl.put f x (List.mem_singleton.mpr rfl)) cycle latch

theorem event (h : s.Wrapped tc n) (e : EventFlag) (cycle : 0x30014 ∉ [e.flag.addr, e.cnt.addr] ∧ 0x30018 ∉ [e.flag.addr, e.cnt.addr] := by decide)
    (latch : 0x30028 ∉ [e.flag.addr, e.cnt.addr] ∧ 0x3002c ∉ [e.flag.addr, e.cnt.addr] := by decide) : (s.event e).Wrapped tc n :=
  h.keep rfl rfl (Writes.refl.event e (List.mem_cons_self ..) (by simp)) cycle latch

/-- A new increment on the tick of the wrap carries no further. -/
theorem setInc (h : s.Wrapped tc n) (inc : Nat) : (s.phbSetInc tc inc).Wrapped tc n := by
  have held : ((s.phbRebase tc).phbMoved tc).Wrapped tc n := ⟨rfl, h.carriesAt, h.cycle, h.latch⟩
  exact held.keep rfl rfl ((Writes.refl (l := [0x30020, 0x30024]).wr _ (by decide)).wr _ (by decide))

theorem toRealign (h : s.Wrapped tc n) : (s.toRealign tc).Wrapped tc n := (h.setInc _).put _ _

theorem clearHistory (h : s.Wrapped tc n) : s.clearHistory.Wrapped tc n := ⟨h.accTc, h.carries, h.cycle, h.latch⟩

theorem toInternal (h : s.Wrapped tc n) : (s.toInternal tc).Wrapped tc n := (((h.setInc s.internalInc).put _ _).put _ _).clearHistory

/-- The wrap's row of the state table counts no wrap. -/
theorem wrapRow (h : s.Wrapped tc n) (changed : Bool) : (s.wrapRow tc changed).Wrapped tc n := by
  unfold State.wrapRow
  split
  · split
    · exact h
    · split
      · exact h.toRealign
      · exact h
  · have locked := (((h.setInc (incOfPeriod s.phb.period)).put F.PHB_STAT_STATE phbLocked).event Ev.PHB_LOCK).put F.PHB_STAT_FALLBACK 0
    exact ⟨locked.accTc, locked.carries, locked.cycle, locked.latch⟩
  · split
    · exact h.toRealign
    · exact h
  · split
    · exact (h.toInternal.event _).put _ _
    · have counted := h.put F.PHB_STAT_FLYCNT (min (s.phb.flywheel + 1) 7)
      exact ⟨counted.accTc, counted.carries, counted.cycle, counted.latch⟩

end State.Wrapped

/-- A wrap up to its row of the state table: it is counted and latched, and the schedule may start (R108, R123, R124). -/
def State.wrapCounted (s : State) (tc : Tc) : State :=
  let s := s.phbRebase tc
  let s := s.wr64 0x30014 (s.rd64 0x30014 + BitVec.ofNat 64 s.phb.carries)
  let s : State := { s with phb := { s.phb with carries := 0 } }
  let s := (s.wr64 0x30028 tc).schedStart tc
  { s with phb := { s.phb with offsetChanged := false } }

theorem State.wrap_eq (s : State) (tc : Tc) : ∃ changed, s.wrap tc = (s.wrapCounted tc).wrapRow tc changed := ⟨_, rfl⟩

theorem State.schedStart_keeps (s : State) (tc : Tc) : Writes 3 [0x30000] s (s.schedStart tc) ∧ (s.schedStart tc).phb.accTc = s.phb.accTc ∧
    (s.schedStart tc).phb.carries = s.phb.carries ∧ (s.schedStart tc).phb.flywheel = s.phb.flywheel ∧
    (s.schedStart tc).fld F.PHB_STAT_STATE = s.fld F.PHB_STAT_STATE := by
  unfold State.schedStart
  split
  · exact ⟨⟨(Writes.refl.put F.PHB_STAT_SCHED_RUN 1).rd⟩, rfl, rfl, rfl, State.fld_put_bits _ _ (by decide)⟩
  · exact ⟨.refl, rfl, rfl, rfl, rfl⟩

/-- The wraps counted and latched, before the schedule starts. -/
def State.wrapLatched (s : State) (tc : Tc) : State :=
  let s := s.phbRebase tc
  let s := s.wr64 0x30014 (s.rd64 0x30014 + BitVec.ofNat 64 s.phb.carries)
  ({ s with phb := { s.phb with carries := 0 } } : State).wr64 0x30028 tc

theorem State.wrapLatched_wrapped (s : State) (tc : Tc) :
    (s.wrapLatched tc).Wrapped tc (s.rd64 0x30014 + BitVec.ofNat 64 (s.carriesAt tc)) := by
  refine ⟨rfl, rfl, ?_, State.rd64_wr64 _ _ _⟩
  have latched : Writes 3 [0x30028, 0x3002c] _ (s.wrapLatched tc) := Writes.refl.wr64 0x30028 tc
  exact latched.rd64.trans (State.rd64_wr64 (s.phbRebase tc) _ _)

theorem State.wrapLatched_writes (s : State) (tc : Tc) : Writes 3 [0x30014, 0x30018, 0x30028, 0x3002c] s (s.wrapLatched tc) := by
  have counted : Writes 3 [0x30014, 0x30018, 0x30028, 0x3002c] s (s.wr64 0x30014 (s.rd64 0x30014 + BitVec.ofNat 64 (s.carriesAt tc))) :=
    Writes.refl.wr64 _ _
  exact ⟨(counted.wr64 0x30028 tc).rd⟩

theorem State.wrapCounted_spec (s : State) (tc : Tc) :
    (s.wrapCounted tc).Wrapped tc (s.rd64 0x30014 + BitVec.ofNat 64 (s.carriesAt tc)) ∧
    (s.wrapCounted tc).phb.flywheel = s.phb.flywheel ∧ (s.wrapCounted tc).fld F.PHB_STAT_STATE = s.fld F.PHB_STAT_STATE := by
  obtain ⟨writes, accTc, carries, flywheel, state⟩ := (s.wrapLatched tc).schedStart_keeps tc
  have started := (s.wrapLatched_wrapped tc).keep accTc carries writes
  exact ⟨⟨started.accTc, started.carries, started.cycle, started.latch⟩, flywheel, state.trans (s.wrapLatched_writes tc).fld⟩

theorem State.wrapRow_realign {s : State} (tc : Tc) (changed : Bool) (st : s.fld F.PHB_STAT_STATE = phbRealign) :
    (s.wrapRow tc changed).fld F.PHB_STAT_STATE = phbLocked ∧ (s.wrapRow tc changed).fld F.PHB_STAT_FALLBACK = 0 := by
  simp only [State.wrapRow, st, phbRealign]
  refine ⟨?_, State.fld_put_same _ _ _ (by decide)⟩
  exact (State.fld_put_bits _ _ (by decide)).trans ((State.fld_event_addr _ (by decide) (by decide)).trans (State.fld_put_same _ _ _ (by decide)))

theorem State.wrapRow_fallback {s : State} (tc : Tc) (changed : Bool) (st : s.fld F.PHB_STAT_STATE = phbFlywheel) (count : s.phb.flywheel = 19) :
    (s.wrapRow tc changed).fld F.PHB_STAT_STATE = phbInternal ∧ (s.wrapRow tc changed).fld F.PHB_STAT_FALLBACK = 1 := by
  simp only [State.wrapRow, st, phbFlywheel, count, if_true]
  refine ⟨?_, State.fld_put_same _ _ _ (by decide)⟩
  exact (State.fld_put_bits _ _ (by decide)).trans ((State.fld_event_addr _ (by decide) (by decide)).trans (s.toInternal_state tc))

theorem exec_phaseWrap (tc : Tc) (s : State) : exec (.phaseWrap tc) s = .next (if s.wrapsAt tc then s.wrap tc else s) := rfl

/-! The encoder (R111). -/

theorem exec_encoderCount (e : EncoderEdge) (s : State) : exec (.encoderCount e) s = execEncoderCount e s := rfl

/-- Settles O12: each command is its rule above for the state of the phase base. -/
theorem phaseBaseFollowsItsSource : Obligations.PhaseBaseFollowsItsSource := by
  refine ⟨?acquires, ?loses, ?missing, ?wraps, ?noWrap, ?down, ?up, ?restart⟩
  case acquires =>
    intro s tc l on source st last
    obtain ⟨b, run⟩ := exec_referenceEvent (tc := tc) on source
    obtain ⟨ok, p, phb, state, inRange⟩ :=
      State.refEvent_internal (s := { s with phb := { s.phb with encDue := b } }) tc (tc16 tc) (s.phaseAt tc) none true st
    refine ⟨_, run, by rw [phb]; rfl, ?_, state⟩
    rw [phb, inRange l rfl last, Bool.and_true]
    rfl
  case loses =>
    intro s tc l on source st last out
    obtain ⟨b, run⟩ := exec_referenceEvent (tc := tc) on source
    rw [State.refEvent_lost (s := { s with phb := { s.phb with encDue := b } }) tc (tc16 tc) _ _ st last out] at run
    obtain ⟨flywheel, count⟩ := State.toFlywheel_state _
    obtain ⟨freq, inc⟩ := State.toFlywheel_holds _
    exact ⟨_, run, flywheel, count, freq, (State.toFlywheel_loss _).trans (by rw [State.fld_put_addr _ _ (by decide)]; rfl), inc⟩
  case missing =>
    intro s tc l on source last
    have missing := State.missingBy_iff (tc := tc) source last
    have run : exec (.referenceMissing tc) s = if s.phbOn && s.missingBy tc then .next (s.refMissing tc) else .next s := rfl
    refine ⟨fun late st => ?_, fun early => ?_⟩
    · rw [if_pos (by rw [on, missing.mpr late]; rfl), State.refMissing_locked tc st] at run
      obtain ⟨flywheel, count⟩ := State.toFlywheel_state _
      obtain ⟨freq, inc⟩ := State.toFlywheel_holds s
      exact ⟨_, run, flywheel, count, freq, inc⟩
    · rw [run, if_neg]
      rw [on, Bool.true_and, missing]
      exact early.not_ge
  case wraps =>
    intro s tc wraps
    obtain ⟨changed, wrapped⟩ := s.wrap_eq tc
    obtain ⟨counted, flywheel, state⟩ := s.wrapCounted_spec tc
    have done := counted.wrapRow changed
    rw [exec_phaseWrap, if_pos wraps, wrapped]
    refine ⟨_, rfl, done.cycle, done.latch, done.wrapsAt, fun st => ?_, fun st count => ?_⟩
    · exact State.wrapRow_realign tc changed (state.trans st)
    · exact State.wrapRow_fallback tc changed (state.trans st) (flywheel.trans count)
  case noWrap =>
    intro s tc noWrap
    rw [exec_phaseWrap, noWrap]
    rfl
  case down =>
    intro s on
    rw [exec_encoderCount, execEncoderCount, if_neg (by simp [on])]
  case up =>
    intro s on source
    simp [exec_encoderCount, execEncoderCount, on, source]
  case restart =>
    intro s on enabled
    simp [exec_encoderCount, execEncoderCount, on, enabled]

end Sys2Proof.Machine
end

section
/-! Marks and angle messages (R118, R124, R126, R127). -/
namespace Sys2Proof.Machine

open Sys2Proof

-- Default arguments by tactic wait for the declarations before: begun all at once the proofs below would each hold a thread and its stack.
set_option Elab.async false

/-! Marks (R124). -/

theorem State.rd64_low (s : State) (a : Nat) : (s.rd64 a).extractLsb' 0 32 = s.rd a := by
  rw [State.rd64]
  refine BitVec.eq_of_getLsbD_eq fun i hi => ?_
  rw [BitVec.getLsbD_extractLsb', BitVec.getLsbD_append]
  simp [hi]

theorem State.rd64_wr_other (s : State) {a j : Nat} (v : Word) (lo : j ≠ a) (hi : j + 4 ≠ a) : (s.wr a v).rd64 j = s.rd64 j := by
  rw [State.rd64, State.rd64, State.rd_wr_other _ _ lo, State.rd_wr_other _ _ hi]

theorem exec_mark_fires {s : State} {k : Fin 64} {tc : Tc} {n : Nat} (fires : s.fires k 8 tc = true) (target : n = s.fld (F.PHB_SCHED_A_TARGET k) % 4) :
    exec (.mark k tc) s = .next (((s.acted (firingKey k 8) tc).wr64 (0x30080 + 16 * n) tc).wr (0x30088 + 16 * n) (s.rd 0x30014)) := by
  rw [show exec (.mark k tc) s = execMark k tc s from rfl, execMark, if_pos fires, ← State.rd64_low, target]
  rfl

/-! Messages sent (R126). -/

theorem natLe_bytesLe (n v : Nat) : natLe (bytesLe n v) = v % 256 ^ n := by
  induction n generalizing v with
  | zero => simp [bytesLe, natLe, Nat.mod_one]
  | succ n ih => rw [bytesLe, natLe, ih, BitVec.toNat_ofNat, pow_succ' 256, Nat.mod_mul]

theorem angleBytes_length (flags seq cycle ns period publisher : Nat) : (angleBytes flags seq cycle ns period publisher).length = 32 := rfl

theorem angleBytes_seq (flags seq cycle ns period publisher : Nat) : leAt (angleBytes flags seq cycle ns period publisher) 4 4 = seq % 2 ^ 32 :=
  natLe_bytesLe 4 seq

/-- The state that has sent an angle message. -/
def State.angleSent (s : State) (tc : Tc) : State := { s with phb := { s.phb with angleNext := s.phb.angleNext + 1, sentTc := some tc } }

theorem State.angleSent_due (s : State) (tc : Tc) : (s.angleSent tc).angleDue tc = decide (s.img 6 24 2 = 0) := by
  have interval : (s.angleSent tc).angleDue tc = decide (s.img 6 24 2 * 250000 ≤ (tc - tc).toNat) := rfl
  rw [interval, BitVec.sub_self]
  exact decide_eq_decide.mpr (by simp)

theorem exec_angleMessageSend {s : State} {tc : Tc} (on : s.phbOn = true) (fw : s.lan.fw = true) (publish : s.flag F.PHB_SRC_PUBLISH = true)
    (run : s.flag F.PHB_STAT_SCHED_RUN = true) (due : s.angleDue tc = true) (wrapped : (s.rd64 0x30028).toNat ≤ tc.toNat) :
    ∃ flags cycle ns period publisher, exec (.angleMessageSend tc) s = .next ((s.angleSent tc).emit
      (.angle (s.img 6 32 4) (s.img 6 28 2) (angleBytes flags s.phb.angleNext.toNat cycle ns period publisher))) := by
  refine ⟨_, _, _, _, _, if_pos ?_⟩
  simp [on, fw, publish, run, due, wrapped]

/-! Messages received (R127). -/

/-- A valid message is kept by its number and is a reference event. -/
theorem exec_angleMessageReceive {s : State} {payload : List Byte} {tc : Tc} (on : s.phbOn = true) (source : s.fld F.PHB_SRC_SOURCE = 4)
    (valid : s.angleOk payload = true) : ∃ t16 ph period ok, exec (.angleMessageReceive payload tc) s =
      .next (State.refEvent { s with phb := { s.phb with angleSeen := some (BitVec.ofNat 32 (leAt payload 4 4)), angleTc := some tc } } tc t16 ph period ok) :=
  ⟨_, _, _, _, if_pos ⟨on, source, valid⟩⟩

/-- Settles O14: a mark writes its three objects, a message carries the number that is then passed, and a message received is an event. -/
theorem angleMessagesAndMarks : Obligations.AngleMessagesAndMarks := by
  refine ⟨fun s k tc fires => ?mark, fun s tc on fw publish run due wrapped => ?send, fun s payload tc on source valid st => ?receive⟩
  case mark =>
    have place : s.fld (F.PHB_SCHED_A_TARGET k) % 4 < 4 := Nat.mod_lt _ (by decide)
    refine ⟨_, _, rfl, exec_mark_fires fires rfl, ?_, State.rd_wr_same _ _ _, fun a lo hi cyc => ?_⟩
    · rw [State.rd64_wr_other _ _ (by omega) (by omega), State.rd64_wr64]
    · rw [State.rd_wr_other _ _ cyc, State.rd_wr64_other _ _ lo (by omega)]
      rfl
  case send =>
    obtain ⟨flags, cycle, ns, period, publisher, sent⟩ := exec_angleMessageSend on fw publish run due wrapped
    refine ⟨_, _, sent, s.angleSent_due tc, rfl, angleBytes_length .., ?_, rfl, rfl⟩
    rw [angleBytes_seq]
    exact Nat.mod_eq_of_lt s.phb.angleNext.isLt
  case receive =>
    obtain ⟨t16, ph, period, ok, run⟩ := exec_angleMessageReceive (tc := tc) on source valid
    obtain ⟨ok', p, phb, state, -⟩ := State.refEvent_internal
      (s := { s with phb := { s.phb with angleSeen := some (BitVec.ofNat 32 (leAt payload 4 4)), angleTc := some tc } }) tc t16 ph period ok st
    exact ⟨_, ok', run, by rw [phb], by rw [phb], state⟩

end Sys2Proof.Machine
end

section
/-! Converter B: triggers, the mains slot, housekeeping, and the end of a mains conversion (R118, R426 to R431). -/
namespace Sys2Proof.Machine

open Sys2Proof

-- Default arguments by tactic wait for the declarations before: begun all at once the proofs below would each hold a thread and its stack.
set_option Elab.async false

/-! The next conversion (R429). -/

theorem State.startConversion_busy {s : State} {c : AfeWork × Nat × Bool} (busy : s.afe.conv = some c) : s.startConversion = s := by
  simp only [State.startConversion, busy]

theorem State.startConversion_mains {s : State} (on : s.afeOn = true) (idle : s.afe.conv = none) (due : s.afe.mainsDue = true) :
    s.startConversion = (s.withAfe { s.afe with conv := some (.mains, 10, s.afe.lastInput != 10), lastInput := 10 }).put F.AFE_STAT_B_BUSY 1 := by
  simp only [State.startConversion, idle, on, due, Bool.not_true, Bool.false_eq_true, if_false, if_true]
  rfl

theorem State.startConversion_housekeeping {s : State} (on : s.afeOn = true) (idle : s.afe.conv = none) (mains : s.afe.mainsDue = false)
    (group : s.afe.groupSeq = none) (groups : s.afe.groupsDue = 0) (due : s.afe.hkDue = true) (hk : s.afe.hkSeq = none) :
    s.startConversion = (s.withAfe { s.afe with
      hkDue := false, hkSeq := some (AfeSeq.start 0 hkInputs), conv := some (.housekeeping, 16, s.afe.lastInput != 16), lastInput := 16 }).put
        F.AFE_STAT_B_BUSY 1 := by
  have noGroup : lowestGroup 0 = none := by decide
  simp only [State.startConversion, on, idle, mains, group, groups, due, hk, noGroup, Bool.not_true, Bool.false_eq_true, if_false, if_true,
    Option.isNone_none, Bool.and_self]
  rfl

/-- From r to s the front end may have changed beside its registers, but not whether a mains conversion is due, and BUSY may show the change. -/
structure ShowsBusy (r s : State) : Prop where
  writes : Writes 0x12 [0x120004] r s
  mainsDue : s.afe.mainsDue = r.afe.mainsDue

theorem ShowsBusy.held (s : State) {x : Afe} (h : x.mainsDue = s.afe.mainsDue) : ShowsBusy s (s.withAfe x) := ⟨⟨fun _ _ _ => rfl⟩, h⟩

theorem ShowsBusy.shown (s : State) {x : Afe} (h : x.mainsDue = s.afe.mainsDue) (b : Nat) : ShowsBusy s ((s.withAfe x).put F.AFE_STAT_B_BUSY b) :=
  ⟨(held s h).writes.put _ _, h⟩

/-- Whatever begins, it shows in BUSY only, and a mains conversion stays due until its end. -/
theorem State.startConversion_showsBusy (s : State) : ShowsBusy s s.startConversion := by
  unfold State.startConversion
  extract_lets a go b c
  have begun {x : Afe} (h : x.mainsDue = s.afe.mainsDue) (w : AfeWork) (i : Nat) : ShowsBusy s (go x w i) :=
    .shown s (x := { x with conv := some (w, i, x.lastInput != i), lastInput := i }) h 1
  split
  · exact .held s rfl
  split
  · exact .shown s rfl 0
  split
  · exact begun rfl _ _
  have kept : b.mainsDue = s.afe.mainsDue := by
    unfold b
    split <;> rfl
  split
  · split
    · exact begun kept _ _
    · exact .held s kept
  have kept' : c.mainsDue = s.afe.mainsDue := by
    unfold c
    split <;> exact kept
  split
  · split
    · exact begun kept' _ _
    · exact .held s kept'
  · exact .shown s rfl 0

/-! Triggers (R118, R429). -/

section trigger

variable {s : State} {g : Nat} {t : Option Tc}

theorem State.triggerGroup_sameTick {tc : Tc} (h : s.afe.trigTc.getD g none = some tc) : s.triggerGroup g (some tc) = s := by
  rw [State.triggerGroup, h]
  exact if_pos (by simp)

/-- A trigger of another tick than the group's last one, or of an unknown tick (log entry 163). -/
theorem State.triggerGroup_new (on : s.afeOn = true) (new : t = none ∨ s.afe.trigTc.getD g none ≠ t) :
    (!s.afeOn || (t.isSome && s.afe.trigTc.getD g none == t)) = false := by
  rw [on]
  rcases new with rfl | new
  · rfl
  · rw [beq_eq_false_iff_ne.mpr new, Bool.and_false]
    rfl

theorem State.triggerGroup_merged (on : s.afeOn = true) (new : t = none ∨ s.afe.trigTc.getD g none ≠ t) (due : s.afe.groupsDue.getLsbD g = true) :
    s.triggerGroup g t = (s.withAfe { s.afe with trigTc := setAt s.afe.trigTc g t }).event Ev.AFE_MERGED := by
  rw [State.triggerGroup, if_neg (Bool.eq_false_iff.mp (State.triggerGroup_new on new))]
  exact if_pos due

theorem State.triggerGroup_kept {c : AfeWork × Nat × Bool} (on : s.afeOn = true) (new : t = none ∨ s.afe.trigTc.getD g none ≠ t)
    (free : s.afe.groupsDue.getLsbD g = false) (busy : s.afe.conv = some c) :
    s.triggerGroup g t = s.withAfe { s.afe with trigTc := setAt s.afe.trigTc g t, groupsDue := s.afe.groupsDue ||| BitVec.ofNat 8 (2 ^ g) } := by
  rw [State.triggerGroup, if_neg (Bool.eq_false_iff.mp (State.triggerGroup_new on new))]
  exact (if_neg (Bool.eq_false_iff.mp free)).trans (State.startConversion_busy busy)

end trigger

theorem exec_adcTrigger_fires {s : State} {k : Fin 64} {tc : Tc} (fires : s.fires k 5 tc = true) :
    exec (.adcTrigger k tc) s = .next ((s.acted (320 + k) tc).triggerGroup (s.fld (F.PHB_SCHED_A_TARGET k)) (some tc)) :=
  congrArg _ (if_pos fires)

/-- The software trigger so far: groups below n whose bit is set are due, and nothing else of the converter but the ticks of the triggers has changed. -/
structure SwTriggered (v : Word) (n : Nat) (s t : State) : Prop where
  on : t.afeOn = true
  due : ∀ i, i < 8 → t.afe.groupsDue.getLsbD i = (s.afe.groupsDue.getLsbD i || (decide (i < n) && v.getLsbD i))
  rest : ∃ d l, t.afe = { s.afe with groupsDue := d, trigTc := l }

theorem State.afeOn_event_merged (s : State) : (s.event Ev.AFE_MERGED).afeOn = s.afeOn := by
  have en : (s.event Ev.AFE_MERGED).flag F.AFE_CTRL_EN = s.flag F.AFE_CTRL_EN := State.flag_of_rd (State.rd_event_other s (by decide) (by decide))
  have dormant : (s.event Ev.AFE_MERGED).blockDormant 0x12 = s.blockDormant 0x12 := congrArg (· == 1) (State.fld_event_addr s (by decide) (by decide))
  rw [State.afeOn, State.afeOn, en, dormant]

/-- One more group of a software trigger on a busy converter. -/
theorem SwTriggered.trigger {v : Word} {g : Nat} {s t : State} {c : AfeWork × Nat × Bool} (h : SwTriggered v g s t) (busy : s.afe.conv = some c) (hg : g < 8)
    (asked : v.getLsbD g = true) : SwTriggered v (g + 1) s (t.triggerGroup g none) := by
  obtain ⟨d, l, rest⟩ := h.rest
  have oneMore (i : Nat) : (decide (i < g + 1) && v.getLsbD i) = ((decide (i < g) && v.getLsbD i) || decide (i = g)) := by
    rcases Nat.lt_trichotomy i g with hi | rfl | hi
    · simp [hi, hi.ne, Nat.lt_succ_of_lt hi]
    · simp [asked]
    · simp [hi.ne', hi.not_gt, Nat.not_lt.mpr (Nat.succ_le_of_lt hi)]
  cases due : t.afe.groupsDue.getLsbD g with
  | true =>
    rw [State.triggerGroup_merged h.on (.inl rfl) due]
    refine ⟨(State.afeOn_event_merged _).trans h.on, fun i hi => ?_, _, _, congrArg (fun a : Afe => { a with trigTc := setAt t.afe.trigTc g none }) rest⟩
    change t.afe.groupsDue.getLsbD i = _
    rw [oneMore, ← Bool.or_assoc, ← h.due i hi]
    by_cases e : i = g
    · subst e
      simp [due]
    · simp [e]
  | false =>
    have busy' : t.afe.conv = some c := (congrArg Afe.conv rest).trans busy
    rw [State.triggerGroup_kept h.on (.inl rfl) due busy']
    refine ⟨h.on, fun i hi => ?_, _, _, congrArg (fun a : Afe => { a with
      trigTc := setAt t.afe.trigTc g none, groupsDue := t.afe.groupsDue ||| BitVec.ofNat 8 (2 ^ g) }) rest⟩
    change (t.afe.groupsDue ||| BitVec.ofNat 8 (2 ^ g)).getLsbD i = _
    rw [oneMore, ← Bool.or_assoc, ← h.due i hi, BitVec.getLsbD_or, BitVec.getLsbD_ofNat, Nat.testBit_two_pow]
    simp [hi, eq_comm]

theorem State.afeSwTrig_busy {s : State} {c : AfeWork × Nat × Bool} (v : Word) (on : s.afeOn = true) (busy : s.afe.conv = some c) :
    SwTriggered v 8 s (s.afeSwTrig v none) := by
  have awake : s.blockDormant 0x12 = false := by simpa using (Bool.and_eq_true_iff.mp on).2
  rw [State.afeSwTrig, if_neg (by simp [awake])]
  have below (n : Nat) (hn : n ≤ 8) : SwTriggered v n s (forUpTo n (fun g s => if v.getLsbD g then s.triggerGroup g none else s) s) := by
    induction n with
    | zero => exact ⟨on, fun i _ => (Bool.or_false _).symm, _, _, rfl⟩
    | succ g ih =>
      have before := ih (Nat.le_of_succ_le hn)
      rw [forUpTo_succ]
      split
      next asked => exact before.trigger busy hn asked
      next unasked =>
        refine ⟨before.on, fun i hi => ?_, before.rest⟩
        rw [before.due i hi]
        by_cases e : i = g
        · subst e
          simp [unasked]
        · rw [decide_eq_decide.mpr (show i < g ↔ i < g + 1 by omega)]
  exact below 8 le_rfl

/-! The mains slot and housekeeping (R429). -/

theorem exec_mainsSlot_on {s : State} (enabled : s.flag F.AFE_MAINS_EN = true) (on : s.afeOn = true) :
    exec .mainsSlot s = .next (s.withAfe { s.afe with mainsDue := true }).startConversion :=
  congrArg Host.Outcome.next (if_pos (by rw [enabled, on]; rfl))

theorem exec_afeHousekeeping_on {s : State} (on : s.afeOn = true) :
    exec .afeHousekeeping s = .next (s.withAfe { s.afe with hkDue := true }).startConversion := congrArg Host.Outcome.next (if_pos on)

/-! The end of a mains conversion (R426, R431). -/

theorem State.mainsSample_shows (s : State) (r : AfeResult) : (s.mainsSample r).fld F.AFE_MAINS_AMP = r.amp.toNat ∧
    (s.mainsSample r).flag F.AFE_MAINS_LOCK = (r.lock && decide (1000 ≤ r.amp.toNat)) ∧ (s.mainsSample r).afe.mainsDue = false := by
  refine ⟨?_, State.flag_putFlag_same _ _ _ (by decide) (by decide), rfl⟩
  rw [State.mainsSample, State.putFlag_eq, State.fld_put_bits _ _ (by decide), State.fld_put_same _ _ _ (by decide)]
  exact Nat.mod_eq_of_lt r.amp.isLt

theorem exec_conversionBDone_mains {s : State} {r : AfeResult} {i : Nat} (conv : s.afe.conv = some (.mains, i, false)) :
    ∃ u : State, exec (.conversionBDone r) s = .next u.startConversion ∧ u.fld F.AFE_MAINS_AMP = r.amp.toNat ∧
      u.flag F.AFE_MAINS_LOCK = (r.lock && decide (1000 ≤ r.amp.toNat)) ∧ u.afe.mainsDue = false := by
  obtain ⟨amp, lock, due⟩ := (s.withAfe { s.afe with conv := none }).mainsSample_shows r
  rw [show exec (.conversionBDone r) s = execConversionBDone r s from rfl, execConversionBDone, conv]
  refine ⟨_, rfl, ?_⟩
  dsimp only
  split
  · exact ⟨amp, lock, due⟩
  · exact ⟨amp, lock, due⟩

theorem exec_conversionBDone_discarded {s : State} {r : AfeResult} {w : AfeWork} {i : Nat} (conv : s.afe.conv = some (w, i, true)) :
    exec (.conversionBDone r) s = .next (s.withAfe { s.afe with conv := none, lastInput := i }).startConversion := by
  rw [show exec (.conversionBDone r) s = execConversionBDone r s from rfl, execConversionBDone, conv]
  rfl

/-- Settles O23: a trigger is its rule above, and the converter, where it is free, begins what is due. -/
theorem converterB : Obligations.ConverterB := by
  refine ⟨?merged, ?sameTick, ?kept, ?software, ?mains, ?busy, ?housekeeping, ?ends, ?discarded⟩
  case merged =>
    intro s k tc fires on due new
    have trigger := State.triggerGroup_merged (s := s.acted (320 + k) tc) on (.inr new) due
    rw [exec_adcTrigger_fires fires, trigger]
    exact ⟨_, rfl, rfl, State.event_raised _ _ (by decide)⟩
  case sameTick =>
    intro s k tc fires same
    have trigger := State.triggerGroup_sameTick (s := s.acted (320 + k) tc) same
    rw [exec_adcTrigger_fires fires, trigger]
  case kept =>
    intro s k tc c fires on busy free new
    have trigger := State.triggerGroup_kept (s := s.acted (320 + k) tc) on (.inr new) free busy
    rw [exec_adcTrigger_fires fires, trigger]
    rfl
  case software =>
    intro s v c on busy
    obtain ⟨-, due, d, l, rest⟩ := State.afeSwTrig_busy v on busy
    refine ⟨_, rfl, BitVec.eq_of_getLsbD_eq fun i hi => ?_, by rw [rest]⟩
    rw [due i hi, BitVec.getLsbD_or, BitVec.getLsbD_extractLsb']
    simp [hi]
  case mains =>
    intro s enabled on idle
    have start := State.startConversion_mains (s := s.withAfe { s.afe with mainsDue := true }) on idle rfl
    rw [exec_mainsSlot_on enabled on, start]
    exact ⟨_, rfl, rfl, State.fld_put_same _ _ _ (by decide)⟩
  case busy =>
    intro s c on busy
    rw [exec_afeHousekeeping_on on, State.startConversion_busy (s := s.withAfe { s.afe with hkDue := true }) busy]
    rfl
  case housekeeping =>
    intro s on idle mains group groups hk
    have start := State.startConversion_housekeeping (s := s.withAfe { s.afe with hkDue := true }) on idle mains group groups rfl hk
    rw [exec_afeHousekeeping_on on, start]
    exact ⟨_, rfl, rfl, rfl, State.fld_put_same _ _ _ (by decide)⟩
  case ends =>
    intro s r i conv
    obtain ⟨u, run, amp, lock, due⟩ := exec_conversionBDone_mains (r := r) conv
    obtain ⟨writes, kept⟩ := u.startConversion_showsBusy
    refine ⟨_, run, writes.fld.trans amp, ?_, kept.trans due⟩
    rw [writes.flag, lock, Bool.and_eq_true, decide_eq_true_eq]
  case discarded =>
    intro s r conv due on
    have start := State.startConversion_mains (s := s.withAfe { s.afe with conv := none, lastInput := 10 }) on rfl due
    rw [exec_conversionBDone_discarded conv, start]
    exact ⟨_, rfl, rfl, State.fld_put_addr _ _ (by decide)⟩

end Sys2Proof.Machine
end

section
/-! Test windows, test pulses and overdue tests (R118, R328 to R330). -/
namespace Sys2Proof.Machine

open Sys2Proof

-- Default arguments by tactic wait for the declarations before: begun all at once the proofs below would each hold a thread and its stack.
set_option Elab.async false

/-! What switching a driver leaves (R245, R253, R329, R330). -/

/-- A driver is switched, and shows it. -/
def State.switchDriver (s : State) (k : Nat) (on : Bool) (tc : Tc) : State :=
  let s := (((s.enableCoil k on).putFlag (F.BRK_CON_ENERGISED k) on).put (F.BRK_CON_ECONOMY k) 0).recCountIf on (cntEnergise k)
  (({ s with prt := { s.prt with driverTc := setAt s.prt.driverTc k tc } } : State).updateVerified k).endFault k

/-- What an order to a driver can do: nothing beyond the truncation of a pulse, wait for an on-pulse, or switch the driver. -/
theorem State.energise_cases (s : State) (k : Nat) (on : Bool) (tc : Tc) :
    ∃ u, u = (if on then s else s.truncatePulse (· == k) tc) ∧
      (s.energise k on tc = u ∧ (u.flag (F.BRK_CON_USED k) = true → on = false → u.flag (F.BRK_CON_ENERGISED k) = false) ∨
        u.onPulse k = true ∧ s.energise k on tc = u.withSaf { u.saf with energiseDue := k :: u.saf.energiseDue } ∧ on = true ∨
        s.energise k on tc = u.switchDriver k on tc) := by
  refine ⟨_, rfl, ?_⟩
  unfold State.energise
  extract_lets u
  change (_ = u ∧ _) ∨ _
  split
  next idle =>
    refine .inl ⟨rfl, fun used off => ?_⟩
    rw [used, off] at idle
    simpa using idle
  next =>
    split
    next wait =>
      obtain ⟨energising, pulse⟩ := Bool.and_eq_true_iff.mp wait
      exact .inr (.inl ⟨pulse, rfl, energising⟩)
    next => exact .inr (.inr rfl)

theorem State.endFault_objs (s : State) (k : Nat) :
    (s.endFault k).objs = s.objs ∨ s.fld (F.BRK_CON_FAULT k) < 9 ∧ (s.endFault k).objs = (s.put (F.BRK_CON_FAULT k) 0).objs := by
  unfold State.endFault
  split
  · by_cases low : s.fld (F.BRK_CON_FAULT k) < 9
    · refine .inr ⟨low, ?_⟩
      change State.objs (if s.fld (F.BRK_CON_FAULT k) < 9 then _ else _) = _
      rw [if_pos low]
      rfl
    · refine .inl ?_
      change State.objs (if s.fld (F.BRK_CON_FAULT k) < 9 then _ else _) = _
      rw [if_neg low]
  · exact .inl rfl

/-- The object of the driver as the switch leaves it, before a fault of it may end. -/
def State.driverShown (s : State) (k : Nat) (on verified : Bool) : State :=
  ((s.putFlag (F.BRK_CON_ENERGISED k) on).put (F.BRK_CON_ECONOMY k) 0).putFlag (F.BRK_CON_VERIFIED k) verified

theorem State.driverShown_fault (s : State) (k j : Nat) (on verified : Bool) :
    (s.driverShown k on verified).fld (F.BRK_CON_FAULT j) = s.fld (F.BRK_CON_FAULT j) := by
  have above {f : Field} (h : f.lo + f.w ≤ 12) (r : State) (x : Nat) : (r.put f x).fld (F.BRK_CON_FAULT j) = r.fld (F.BRK_CON_FAULT j) :=
    State.fld_put_bits r x (.inr h)
  exact (above (by simp [F.BRK_CON_VERIFIED]) _ _).trans ((above (by simp [F.BRK_CON_ECONOMY]) _ _).trans (above (by simp [F.BRK_CON_ENERGISED]) _ _))

theorem State.driverShown_energised (s : State) (k : Nat) (on verified : Bool) : (s.driverShown k on verified).flag (F.BRK_CON_ENERGISED k) = on := by
  have shown : (s.putFlag (F.BRK_CON_ENERGISED k) on).flag (F.BRK_CON_ENERGISED k) = on :=
    State.flag_putFlag_same _ _ _ (by simp [F.BRK_CON_ENERGISED]) (by simp [F.BRK_CON_ENERGISED])
  rw [State.driverShown, State.putFlag_eq (_ : State) (F.BRK_CON_VERIFIED k), State.flag_put_bits _ _ (.inl (by simp [F.BRK_CON_VERIFIED, F.BRK_CON_ENERGISED])),
    State.flag_put_bits _ _ (.inl (by simp [F.BRK_CON_ECONOMY, F.BRK_CON_ENERGISED])), shown]

theorem State.driverShown_rd (s : State) {k a : Nat} (on verified : Bool) (h : a ≠ 0x80200 + 0x4 * (k % 28)) : (s.driverShown k on verified).rd a = s.rd a :=
  (State.rd_put_other _ _ h).trans ((State.rd_put_other _ _ h).trans (State.rd_put_other _ _ h))

theorem State.switchDriver_objs (s : State) (k : Nat) (on : Bool) (tc : Tc) : ∃ verified,
    (s.switchDriver k on tc).objs = (s.driverShown k on verified).objs ∨
      s.fld (F.BRK_CON_FAULT k) < 9 ∧ (s.switchDriver k on tc).objs = ((s.driverShown k on verified).put (F.BRK_CON_FAULT k) 0).objs := by
  have counted := (State.recCountIf_moved (((s.enableCoil k on).putFlag (F.BRK_CON_ENERGISED k) on).put (F.BRK_CON_ECONOMY k) 0) on (cntEnergise k)).same 0 rfl
  unfold State.switchDriver
  extract_lets u
  generalize hw : ({ u with prt := { u.prt with driverTc := setAt u.prt.driverTc k tc } } : State) = w
  have objs : w.objs = ((s.putFlag (F.BRK_CON_ENERGISED k) on).put (F.BRK_CON_ECONOMY k) 0).objs := by
    rw [← hw]
    exact counted
  have shown : (w.updateVerified k).objs = (s.driverShown k on (w.verified k (w.flag (F.BRK_CON_ENERGISED k)))).objs := by
    rw [State.updateVerified, State.putFlag_objs, objs]
    rfl
  refine ⟨w.verified k (w.flag (F.BRK_CON_ENERGISED k)), ?_⟩
  rcases State.endFault_objs (w.updateVerified k) k with h | ⟨low, h⟩
  · exact .inl (h.trans shown)
  · rw [State.put_objs, shown] at h
    rw [State.fld_objs, shown, ← State.fld_objs, State.driverShown_fault] at low
    exact .inr ⟨low, h⟩

/-! The pair and the drivers under a test fault (R329). -/

/-- From r to s drivers have been switched: of the breakers' objects only the drivers' have changed, a fault of code 9 or 10 has not, and of the safety
functions' only those of a pulse that was truncated. -/
structure DriversSwitched (r s : State) : Prop where
  breakers : ∀ a, a / 0x10000 = 8 → a < 0x80200 → s.rd a = r.rd a
  fault : ∀ j, 9 ≤ r.fld (F.BRK_CON_FAULT j) → s.fld (F.BRK_CON_FAULT j) = r.fld (F.BRK_CON_FAULT j)
  safety : Writes 12 [0xc0030, 0xc0040, 0xc0050] r s
  pulse : r.saf.pulse = none → s.saf.pulse = none

namespace DriversSwitched

variable {r s t : State}

theorem refl (r : State) : DriversSwitched r r := ⟨fun _ _ _ => rfl, fun _ _ => rfl, .refl, id⟩

theorem trans (h : DriversSwitched r s) (g : DriversSwitched s t) : DriversSwitched r t where
  breakers a ha hl := (g.breakers a ha hl).trans (h.breakers a ha hl)
  fault j hj := (g.fault j ((h.fault j hj).symm ▸ hj)).trans (h.fault j hj)
  safety := h.safety.andThen g.safety
  pulse := g.pulse ∘ h.pulse

/-- Changes beside the objects that leave the pulse. -/
theorem ofObjs (objs : s.objs = r.objs) (pulse : s.saf.pulse = r.saf.pulse) : DriversSwitched r s where
  breakers a _ _ := congrArg (Cells.get · a) objs
  fault j _ := by rw [State.fld_objs, State.fld_objs, objs]
  safety := ⟨fun a _ _ => congrArg (Cells.get · a) objs⟩
  pulse h := pulse.trans h

theorem foldl {α : Type} {l : List α} {f : State → α → State} (step : ∀ t x, DriversSwitched t (f t x)) (s : State) : DriversSwitched s (l.foldl f s) := by
  induction l generalizing s with
  | nil => exact .refl s
  | cons x l ih => exact (step s x).trans (ih (f s x))

end DriversSwitched

theorem State.switchDriver_moved (s : State) (k : Nat) (on : Bool) (tc : Tc) : Moved 0x10000201001 s (s.switchDriver k on tc) := by
  have energised := State.putFlag_moved ((State.enableCoil_moved s k on).widen (m := 0x10000201001)) (F.BRK_CON_ENERGISED k) on
    (inBlock_of 8 (by simp only [F.BRK_CON_ENERGISED]; omega) rfl)
  have economy := State.put_moved energised (F.BRK_CON_ECONOMY k) 0 (inBlock_of 8 (by simp only [F.BRK_CON_ECONOMY]; omega) rfl)
  have counted := economy.andThen (State.recCountIf_moved _ on (cntEnergise k))
  unfold State.switchDriver
  extract_lets u
  have timed := Moved.andThen (s := u) counted
    (State.withPrt_moved u { u.prt with driverTc := setAt u.prt.driverTc k tc } fun h => ⟨h.prt.1, (length_setAt ..).trans h.prt.2⟩)
  exact (timed.andThen (State.updateVerified_moved ..)).andThen (State.endFault_moved ..)

theorem State.switchDriver_switched (s : State) (k : Nat) (on : Bool) (tc : Tc) : DriversSwitched s (s.switchDriver k on tc) := by
  obtain ⟨verified, objs⟩ := s.switchDriver_objs k on tc
  have moved := s.switchDriver_moved k on tc
  refine ⟨fun a ha hl => ?_, fun j hj => ?_, .ofMoved moved, fun h => (congrArg Saf.pulse (moved.same 17 rfl)).trans h⟩
  · have ne : a ≠ 0x80200 + 0x4 * (k % 28) := by omega
    rcases objs with e | ⟨-, e⟩ <;> rw [State.rd_objs, e, ← State.rd_objs]
    · exact s.driverShown_rd on verified ne
    · exact (State.rd_put_other _ _ ne).trans (s.driverShown_rd on verified ne)
  · rcases objs with e | ⟨low, e⟩ <;> rw [State.fld_objs, e, ← State.fld_objs]
    · exact s.driverShown_fault k j on verified
    · have ne : (F.BRK_CON_FAULT j).addr ≠ (F.BRK_CON_FAULT k).addr := by
        intro same
        have : F.BRK_CON_FAULT j = F.BRK_CON_FAULT k := congrArg (fun a => (⟨a, 12, 4⟩ : Field)) same
        rw [this] at hj
        omega
      exact (State.fld_put_addr _ _ ne).trans (s.driverShown_fault k j on verified)

theorem State.truncatePulse_idle {s : State} (on : Nat → Bool) (tc : Tc) (idle : s.saf.pulse = none) : s.truncatePulse on tc = s := by
  rw [State.truncatePulse, idle]

theorem State.truncatePulse_switched (s : State) (on : Nat → Bool) (tc : Tc) : DriversSwitched s (s.truncatePulse on tc) := by
  have writes : Writes 12 [0xc0030, 0xc0040, 0xc0050] s (s.truncatePulse on tc) := by
    have ended (p : TestPulse) : Writes 12 [0xc0030, 0xc0040, 0xc0050] s (s.pulseOver p tc).dropDue := ⟨fun _ _ _ => rfl⟩
    unfold State.truncatePulse
    split
    next p _ => exact .ite (((ended p).put F.SAF_TP_STAT_ACTIVE 0).event Ev.SAF_TP_TRUNC) .refl
    next => exact .refl
  have moved := s.truncatePulse_moved on tc
  refine ⟨fun a ha _ => moved.rd 8 ha, fun j _ => moved.fld 8 (by simp only [F.BRK_CON_FAULT]; omega), writes, fun idle => ?_⟩
  rw [State.truncatePulse_idle on tc idle, idle]

theorem State.energise_switched (s : State) (k : Nat) (on : Bool) (tc : Tc) : DriversSwitched s (s.energise k on tc) := by
  obtain ⟨u, hu, cases⟩ := s.energise_cases k on tc
  have truncated : DriversSwitched s u := by
    rw [hu]
    split
    · exact .refl s
    · exact s.truncatePulse_switched _ tc
  rcases cases with ⟨e, -⟩ | ⟨-, e, -⟩ | e <;> rw [e]
  · exact truncated
  · exact truncated.trans (.ofObjs rfl rfl)
  · exact truncated.trans (u.switchDriver_switched k on tc)

/-- With no pulse in progress, an order to a driver leaves the safety functions. -/
theorem State.energise_moved_idle {s : State} (k : Nat) (on : Bool) (tc : Tc) (idle : s.saf.pulse = none) :
    Moved 0x10000201001 s (s.energise k on tc) := by
  obtain ⟨u, hu, cases⟩ := s.energise_cases k on tc
  rw [State.truncatePulse_idle _ tc idle, ite_self] at hu
  rcases cases with ⟨e, -⟩ | ⟨waits, -⟩ | e
  · rw [e, hu]
    exact .refl ..
  · rw [hu, State.onPulse, idle] at waits
    cases waits
  · rw [e, hu]
    exact s.switchDriver_moved k on tc

/-- A driver in use that is ordered off is off. -/
theorem State.energise_off {s : State} {k : Nat} (tc : Tc) (used : s.conUsed k = true) : (s.energise k false tc).flag (F.BRK_CON_ENERGISED k) = false := by
  obtain ⟨u, hu, cases⟩ := s.energise_cases k false tc
  have used' : u.flag (F.BRK_CON_USED k) = true := by
    rw [hu, if_neg Bool.false_ne_true]
    exact ((s.truncatePulse_moved _ tc).flag 8 (by simp only [F.BRK_CON_USED]; omega)).trans used
  rcases cases with ⟨e, off⟩ | ⟨-, -, energising⟩ | e
  · rw [e, off used' rfl]
  · cases energising
  · obtain ⟨verified, objs⟩ := u.switchDriver_objs k false tc
    have shown := u.driverShown_energised k false verified
    rcases objs with o | ⟨-, o⟩ <;> rw [e, State.flag_objs, o, ← State.flag_objs]
    · exact shown
    · exact (State.flag_put_bits _ _ (.inl (by simp [F.BRK_CON_ENERGISED, F.BRK_CON_FAULT]))).trans shown

/-! Breaker pairs (R234). -/

theorem State.openPair_writes (s : State) (n : Nat) (tc : Tc) : Writes 8 [(F.BRK_S_STAT_PAIR n).addr] s (s.openPair n tc) := by
  unfold State.openPair State.setPair
  split
  · exact .refl
  · have enabled : Writes 8 [(F.BRK_S_STAT_PAIR n).addr] s (s.enableBrk n (pairOpen == pairClose)) := .ofMoved (State.enableBrk_moved ..)
    unfold State.showPair
    split
    · exact enabled
    · exact ((enabled.put _ _ (List.mem_singleton.mpr rfl)).andMoved (State.setIsl_moved ..)).andMoved (State.noteBits_moved ..)

theorem State.openPair_opens {s : State} (n : Nat) (tc : Tc) (armed : s.armed = true) : (s.openPair n tc).fld (F.BRK_S_STAT_PAIR n) = pairOpen := by
  rw [State.openPair, State.setPair, if_neg (by simp [armed]), State.showPair]
  split
  next already => exact beq_iff_eq.mp already
  next =>
    rw [(State.noteBits_moved _ n tc).fld 8 (by simp only [F.BRK_S_STAT_PAIR]; omega), State.setIsl_fld,
      State.fld_put_same _ _ _ (by simp [F.BRK_S_STAT_PAIR])]
    rfl

/-! Test faults (R329). -/

/-- The fault is shown, before the string or the auxiliary driver follows. -/
def State.faultShown (s : State) (k c : Nat) : State := (s.put (F.BRK_CON_FAULT k) c).put F.SAF_STAT_TP_FAULT 1

/-- The breaker pair of the driver's string is opened. -/
def State.faultOpens (s : State) (k c : Nat) (tc : Tc) : State :=
  let s := s.faultShown k c
  (s.setIsl (k / 3) { s.isl (k / 3) with arose := true }).openPair (k / 3) tc

theorem State.testFault_string {s : State} {k : Nat} (c : Nat) (tc : Tc) (h : k < 24) : DriversSwitched (s.faultOpens k c tc) (s.testFault k c tc) := by
  have follow : s.testFault k c tc = if (s.faultOpens k c tc).flag (F.BRK_S_STAT_BST (k / 3))
      then (s.faultOpens k c tc).setIsl (k / 3) { (s.faultOpens k c tc).isl (k / 3) with dropWait := true }
      else (s.faultOpens k c tc).dropContactors (k / 3) tc := if_pos h
  rw [follow]
  split
  · exact .ofObjs rfl rfl
  · exact .foldl (fun t j => t.energise_switched j false tc) _

theorem State.testFault_aux {s : State} {k : Nat} (c : Nat) (tc : Tc) (h : 24 ≤ k) : s.testFault k c tc = (s.faultShown k c).energise k false tc :=
  if_neg (Nat.not_lt.mpr h)

theorem State.faultShown_fault (s : State) (k : Nat) {c : Nat} (h : c < 16) :
    (s.faultShown k c).fld (F.BRK_CON_FAULT k) = c ∧ (s.faultShown k c).fld F.SAF_STAT_TP_FAULT = 1 := by
  constructor
  · rw [State.faultShown, State.fld_put_addr _ _ (by simp only [F.BRK_CON_FAULT, F.SAF_STAT_TP_FAULT]; omega), State.fld_put_same _ _ _ (by simp [F.BRK_CON_FAULT])]
    exact Nat.mod_eq_of_lt h
  · exact State.fld_put_same _ _ _ (by decide)

theorem State.faultOpens_fault (s : State) (k : Nat) {c : Nat} (tc : Tc) (h : c < 16) :
    (s.faultOpens k c tc).fld (F.BRK_CON_FAULT k) = c ∧ (s.faultOpens k c tc).fld F.SAF_STAT_TP_FAULT = 1 := by
  obtain ⟨fault, shown⟩ := s.faultShown_fault k h
  unfold State.faultOpens
  extract_lets u
  constructor
  · rw [(State.openPair_writes _ (k / 3) tc).fld (by simp only [F.BRK_CON_FAULT]; omega)
      (by simp only [F.BRK_CON_FAULT, F.BRK_S_STAT_PAIR, List.mem_singleton]; omega), State.setIsl_fld, fault]
  · rw [(State.openPair_moved _ (k / 3) tc).fld 12, State.setIsl_fld, shown]

/-- A driver that holds TEST_FAIL or TEST_OVERDUE shows its code and TP_FAULT. -/
theorem State.testFault_fault (s : State) (k : Nat) {c : Nat} (tc : Tc) (h : c < 16) (held : 9 ≤ c) :
    (s.testFault k c tc).fld (F.BRK_CON_FAULT k) = c ∧ (s.testFault k c tc).fld F.SAF_STAT_TP_FAULT = 1 := by
  rcases Nat.lt_or_ge k 24 with string | aux
  · obtain ⟨fault, shown⟩ := s.faultOpens_fault k tc h
    have switched := s.testFault_string c tc string
    exact ⟨(switched.fault k (fault.symm ▸ held)).trans fault, switched.safety.fld.trans shown⟩
  · obtain ⟨fault, shown⟩ := s.faultShown_fault k h
    have switched := (s.faultShown k c).energise_switched k false tc
    rw [State.testFault_aux c tc aux]
    exact ⟨(switched.fault k (fault.symm ▸ held)).trans fault, switched.safety.fld.trans shown⟩

theorem State.testFault_pulse (s : State) (k c : Nat) (tc : Tc) (idle : s.saf.pulse = none) : (s.testFault k c tc).saf.pulse = none := by
  rcases Nat.lt_or_ge k 24 with string | aux
  · refine (s.testFault_string c tc string).pulse ?_
    unfold State.faultOpens
    exact (congrArg Saf.pulse ((State.openPair_moved _ (k / 3) tc).same 17 rfl)).trans idle
  · rw [State.testFault_aux c tc aux]
    exact (State.energise_switched _ k false tc).pulse idle

theorem State.testFault_safety (s : State) (k c : Nat) (tc : Tc) : Writes 12 [0xc0000, 0xc0030, 0xc0040, 0xc0050] s (s.testFault k c tc) := by
  have shown : Writes 12 [0xc0000, 0xc0030, 0xc0040, 0xc0050] s (s.faultShown k c) :=
    .put (.andMoved .refl (m := 0x10000000001) (State.put_moved (.refl ..) _ _ (inBlock_of 8 (by simp only [F.BRK_CON_FAULT]; omega) rfl))) _ _
  rcases Nat.lt_or_ge k 24 with string | aux
  · have opened : Writes 12 [0xc0000, 0xc0030, 0xc0040, 0xc0050] s (s.faultOpens k c tc) := by
      unfold State.faultOpens
      exact (shown.andMoved (State.setIsl_moved ..)).andMoved (State.openPair_moved _ (k / 3) tc)
    exact opened.andThen (s.testFault_string c tc string).safety
  · rw [State.testFault_aux c tc aux]
    exact shown.andThen (State.energise_switched _ k false tc).safety

/-- The breaker pair of the driver's string opens. -/
theorem State.testFault_pair {s : State} {k : Nat} (c : Nat) (tc : Tc) (string : k < 24) (armed : s.armed = true) :
    (s.testFault k c tc).fld (F.BRK_S_STAT_PAIR (k / 3)) = pairOpen := by
  have armed' : (s.faultShown k c).armed = true :=
    (State.flag_put_addr _ _ (by decide)).trans ((State.flag_put_addr _ _ (by simp only [F.PRT_STAT_ARMED, F.BRK_CON_FAULT]; omega)).trans armed)
  have opened : (s.faultOpens k c tc).fld (F.BRK_S_STAT_PAIR (k / 3)) = pairOpen := State.openPair_opens (k / 3) tc armed'
  refine (State.fld_of_rd ((s.testFault_string c tc string).breakers _ ?_ ?_)).trans opened
  all_goals
    simp only [F.BRK_S_STAT_PAIR]
    omega

/-! The end of a test pulse (R328, R330). -/

theorem State.energiseWaiting_spec {s : State} (tc : Tc) (idle : s.saf.pulse = none) :
    Moved 0x10000201001 s.dropDue (s.energiseWaiting tc) ∧ DriversSwitched s (s.energiseWaiting tc) := by
  have step (t : State) (k : Nat) : DriversSwitched t (if t.lidHeld && !(k < 24 && t.strLatched (k / 3)) then t.energise k true tc else t) := by
    split
    · exact t.energise_switched k true tc
    · exact .refl t
  have waiting : s.energiseWaiting tc = s.saf.energiseDue.foldl
    (fun t k => if t.lidHeld && !(k < 24 && t.strLatched (k / 3)) then t.energise k true tc else t) s.dropDue := rfl
  rw [waiting]
  refine ⟨Moved.foldl (.refl ..) fun t k h => ?_, .trans (s := s.dropDue) (.ofObjs rfl rfl) (.foldl step _)⟩
  have idle' : t.saf.pulse = none := (congrArg Saf.pulse (h.same 17 rfl)).trans idle
  exact h.andThenIf (t.energise_moved_idle k true tc idle')

/-- TP_FAIL is raised, and the switches that waited leave the fault and the pair. -/
theorem State.failNoticed {s : State} {k : Nat} (tc : Tc) (idle : s.saf.pulse = none) (fault : s.fld (F.BRK_CON_FAULT k) = 9) :
    ((s.event Ev.SAF_TP_FAIL).energiseWaiting tc).saf.pulse = none ∧
    ((s.event Ev.SAF_TP_FAIL).energiseWaiting tc).fld (F.BRK_CON_FAULT k) = 9 ∧
    ((s.event Ev.SAF_TP_FAIL).energiseWaiting tc).fld F.SAF_STAT_TP_FAULT = s.fld F.SAF_STAT_TP_FAULT ∧
    Raised Ev.SAF_TP_FAIL s ((s.event Ev.SAF_TP_FAIL).energiseWaiting tc) ∧
    ∀ n, ((s.event Ev.SAF_TP_FAIL).energiseWaiting tc).fld (F.BRK_S_STAT_PAIR n) = s.fld (F.BRK_S_STAT_PAIR n) := by
  obtain ⟨moved, switched⟩ := State.energiseWaiting_spec (s := s.event Ev.SAF_TP_FAIL) tc idle
  have noticed : Moved 0x100000000001 s (s.event Ev.SAF_TP_FAIL) := State.event_moved (.refl ..) _ rfl rfl
  have raised := s.event_raised Ev.SAF_TP_FAIL (by decide)
  have held : (s.event Ev.SAF_TP_FAIL).fld (F.BRK_CON_FAULT k) = 9 := (noticed.fld 8 (by simp only [F.BRK_CON_FAULT]; omega)).trans fault
  refine ⟨(congrArg Saf.pulse (moved.same 17 rfl)).trans idle, (switched.fault k held.ge).trans held, ?_, ?_, fun n => ?_⟩
  · exact (moved.fld 12).trans (State.fld_event_addr s (by decide) (by decide))
  · exact ⟨(moved.fld 12).trans raised.1, (moved.fld 12).trans raised.2⟩
  · have place : (F.BRK_S_STAT_PAIR n).addr / 0x10000 = 8 ∧ (F.BRK_S_STAT_PAIR n).addr < 0x80200 := by
      simp only [F.BRK_S_STAT_PAIR]
      omega
    exact (State.fld_of_rd (switched.breakers _ place.1 place.2)).trans (noticed.fld 8 place.1)

/-- The pulse is over and the rotation has moved on. -/
def State.pulseEnded (s : State) (p : TestPulse) (tc : Tc) : State :=
  ((s.pulseOver p tc).put F.SAF_TP_STAT_ACTIVE 0).putRotation ((switchPlace p.driver p.low + 1) % 56)

/-- The switch has passed. -/
def State.pulsePassed (s : State) (p : TestPulse) (tc : Tc) : State :=
  (s.withSaf { s.saf with passTc := setAt s.saf.passTc (switchPlace p.driver p.low) tc }).put
    (if p.low then F.SAF_TP_AGE_LS p.driver else F.SAF_TP_AGE_HS p.driver) 0

theorem exec_testPulseEnd {s : State} {ok : Bool} {ma : BitVec 16} {tc : Tc} {p : TestPulse} (pulse : s.saf.pulse = some p)
    (due : passed tc p.tc (250 * s.testPulse) = true) : exec (.testPulseEnd ok ma tc) s =
      .next (State.energiseWaiting (if ok && (p.off || decide (ma.toNat < 10)) then (s.pulseEnded p tc).pulsePassed p tc
        else ((s.pulseEnded p tc).testFault p.driver 9 tc).event Ev.SAF_TP_FAIL) tc) := by
  rw [show exec (.testPulseEnd ok ma tc) s = execTestPulseEnd ok ma tc s from rfl, execTestPulseEnd, pulse]
  dsimp only
  rw [due]
  rfl

theorem State.pulseEnded_writes (s : State) (p : TestPulse) (tc : Tc) : Writes 12 [0xc0050] s (s.pulseEnded p tc) :=
  ⟨(((Writes.refl.put F.SAF_TP_STAT_ACTIVE 0).put F.SAF_TP_STAT_DRIVER ((switchPlace p.driver p.low + 1) % 56 / 2)).put F.SAF_TP_STAT_SWITCH
    ((switchPlace p.driver p.low + 1) % 56 % 2)).rd⟩

theorem State.rotation_putRotation (s : State) {p : Nat} (h : p < 64) : (s.putRotation p).rotation = p := by
  rw [State.rotation, State.putRotation, State.fld_put_bits _ _ (by decide), State.fld_put_same _ _ _ (by decide), State.fld_put_same _ _ _ (by decide)]
  simp only [F.SAF_TP_STAT_DRIVER, F.SAF_TP_STAT_SWITCH]
  omega

theorem State.pulseEnded_shows (s : State) (p : TestPulse) (tc : Tc) : (s.pulseEnded p tc).fld F.SAF_TP_STAT_ACTIVE = 0 ∧
    (s.pulseEnded p tc).rotation = (switchPlace p.driver p.low + 1) % 56 := by
  refine ⟨?_, State.rotation_putRotation _ (by omega)⟩
  rw [State.pulseEnded, State.putRotation, State.fld_put_bits _ _ (by decide), State.fld_put_bits _ _ (by decide), State.fld_put_same _ _ _ (by decide)]
  rfl

theorem State.pulseEnded_armed (s : State) (p : TestPulse) (tc : Tc) : (s.pulseEnded p tc).armed = s.armed :=
  (State.flag_put_addr _ _ (by decide)).trans ((State.flag_put_addr _ _ (by decide)).trans (State.flag_put_addr _ _ (by decide)))

theorem State.pulsePassed_writes (s : State) (p : TestPulse) (tc : Tc) :
    Writes 12 [(if p.low then F.SAF_TP_AGE_LS p.driver else F.SAF_TP_AGE_HS p.driver).addr] s (s.pulsePassed p tc) :=
  ⟨(Writes.refl.put _ 0 (List.mem_singleton.mpr rfl)).rd⟩

theorem State.pulsePassed_stat (s : State) (p : TestPulse) (tc : Tc) : (s.pulsePassed p tc).rd 0xc0050 = s.rd 0xc0050 := by
  refine (s.pulsePassed_writes p tc).rd _ rfl ?_
  rw [List.mem_singleton]
  split
  · simp only [F.SAF_TP_AGE_LS]
    omega
  · simp only [F.SAF_TP_AGE_HS]
    omega

theorem State.pulsePassed_age (s : State) (p : TestPulse) (tc : Tc) :
    if p.low then (s.pulsePassed p tc).fld (F.SAF_TP_AGE_LS p.driver) = 0 else (s.pulsePassed p tc).fld (F.SAF_TP_AGE_HS p.driver) = 0 := by
  unfold State.pulsePassed
  cases p.low
  · exact State.fld_put_same _ _ _ (by simp [F.SAF_TP_AGE_HS])
  · exact State.fld_put_same _ _ _ (by simp [F.SAF_TP_AGE_LS])

theorem switchPlace_lt {k : Nat} (low : Bool) (h : k < 28) : switchPlace k low < 56 := by
  unfold switchPlace
  split <;> omega

/-! Windows and pulses (R328). -/

theorem exec_testWindow_fires {s : State} {k : Fin 64} {tc : Tc} (fires : s.fires k 2 tc = true) (armed : s.armed = true) :
    exec (.testWindow k tc) s = .next ((s.acted (128 + k) tc).withSaf { s.saf with
      window := some { drivers := s.coveredDrivers (s.fld (F.PHB_SCHED_A_TARGET k)), tc := tc, len := s.fld (F.PHB_SCHED_C_ARG k) } }) := by
  rw [show exec (.testWindow k tc) s = execTestWindow k tc s from rfl, execTestWindow, if_pos fires]
  exact congrArg Host.Outcome.next (if_pos armed)

/-- The next switch of the rotation is pulsed. -/
def State.pulseStarted (s : State) (p : Nat) (tc : Tc) : State :=
  ((s.withSaf { s.saf with window := none, pulse := some { driver := p / 2, low := p % 2 == 1, tc := tc, off := s.flag (F.BRK_CON_ENERGISED (p / 2)) } }).putRotation
    p).put F.SAF_TP_STAT_ACTIVE 1

theorem State.pulseStarted_shows (s : State) (p : Nat) (tc : Tc) : (s.pulseStarted p tc).fld F.SAF_TP_STAT_ACTIVE = 1 ∧
    (s.pulseStarted p tc).fld F.SAF_TP_STAT_DRIVER = p / 2 % 32 ∧ (s.pulseStarted p tc).fld F.SAF_TP_STAT_SWITCH = p % 2 := by
  refine ⟨State.fld_put_same _ _ _ (by decide), ?_, ?_⟩
  · rw [State.pulseStarted, State.putRotation, State.fld_put_bits _ _ (by decide), State.fld_put_bits _ _ (by decide), State.fld_put_same _ _ _ (by decide)]
    rfl
  · rw [State.pulseStarted, State.putRotation, State.fld_put_bits _ _ (by decide), State.fld_put_same _ _ _ (by decide)]
    exact Nat.mod_mod _ _

/-- A window in which no pulse may start now. -/
def State.noPulseNow (s : State) (w : TestWindow) (tc : Tc) : Prop :=
  w.len < s.testPulse + 10 ∨ passed tc w.tc 1250 = false ∨ 250 * w.len < (tc - w.tc).toNat + 250 * s.testPulse

theorem exec_testPulseStart_none {s : State} {tc : Tc} {w : TestWindow} (window : s.saf.window = some w) (h : s.noPulseNow w tc) :
    exec (.testPulseStart tc) s = .next s := by
  rw [show exec (.testPulseStart tc) s = execTestPulseStart tc s from rfl, execTestPulseStart, window]
  refine if_pos ?_
  rcases h with h | h | h <;> simp [h, -BitVec.toNat_sub]

theorem exec_testPulseStart_starts {s : State} {tc : Tc} {w : TestWindow} {p : Nat} (window : s.saf.window = some w) (may : ¬ s.noPulseNow w tc)
    (idle : s.saf.pulse = none) (next : s.nextSwitch w.drivers = some p) : exec (.testPulseStart tc) s = .next (s.pulseStarted p tc) := by
  simp only [State.noPulseNow, not_or, Bool.not_eq_false, Nat.not_lt] at may
  obtain ⟨long, open_, within⟩ := may
  rw [show exec (.testPulseStart tc) s = execTestPulseStart tc s from rfl, execTestPulseStart, window]
  dsimp only
  rw [if_neg (by simp [long.not_gt, open_, within.not_gt, idle, -BitVec.toNat_sub]), next]
  rfl

/-- Settles O35: windows and pulses by their rules above; a test fault shows its code and opens the pair, and what waits for the end of the pulse leaves both. -/
theorem driverTests : Obligations.DriverTests := by
  refine ⟨?window, ?start, ?noStart, ?passes, ?fails, ?overdue⟩
  case window =>
    intro s k tc fires armed
    rw [exec_testWindow_fires fires armed]
    rfl
  case start =>
    intro s tc w p window open_ idle long within next
    obtain ⟨active, driver, switch⟩ := s.pulseStarted_shows p tc
    have may : ¬ s.noPulseNow w tc := by simp [State.noPulseNow, long.not_gt, open_, within.not_gt, -BitVec.toNat_sub]
    exact ⟨_, exec_testPulseStart_starts window may idle next, rfl, active, driver, switch, rfl⟩
  case noStart =>
    intro s tc w window h
    exact exec_testPulseStart_none window h
  case passes =>
    intro s ma tc p sized pulse used due good
    obtain ⟨-, -, length, -, -⟩ := sized
    obtain ⟨active, rotation⟩ := s.pulseEnded_shows p tc
    have stat := (s.pulseEnded p tc).pulsePassed_stat p tc
    have age := (s.pulseEnded p tc).pulsePassed_age p tc
    obtain ⟨moved, -⟩ := State.energiseWaiting_spec (s := (s.pulseEnded p tc).pulsePassed p tc) tc rfl
    have keeps (f : Field) (h : f.addr / 0x10000 = 12) : (((s.pulseEnded p tc).pulsePassed p tc).energiseWaiting tc).fld f =
      ((s.pulseEnded p tc).pulsePassed p tc).fld f := moved.fld 12 h
    rw [exec_testPulseEnd pulse due, if_pos (by simpa using good)]
    refine ⟨_, rfl, ?_, ?_, ?_, ?_, ?_, ?_⟩
    · rw [moved.same 17 rfl]
      rfl
    · rw [moved.same 17 rfl]
      rfl
    · rw [keeps _ rfl, State.fld_of_rd stat, active]
    · rw [moved.same 17 rfl]
      exact getD_setAt_same _ _ _ _ (by rw [show (s.pulseEnded p tc).saf.passTc = s.saf.passTc from rfl, length]; exact switchPlace_lt p.low used)
    · rw [State.rotation, keeps _ rfl, keeps _ rfl, State.fld_of_rd (g := F.SAF_TP_STAT_DRIVER) stat,
        State.fld_of_rd (g := F.SAF_TP_STAT_SWITCH) stat, ← rotation]
      rfl
    · rw [keeps _ (by simp only [F.SAF_TP_AGE_LS]; omega), keeps _ (by simp only [F.SAF_TP_AGE_HS]; omega)]
      exact age
  case fails =>
    intro s ok ma tc p pulse used due bad
    have notGood : ¬ (ok && (p.off || decide (ma.toNat < 10))) = true := by
      rcases bad with bad | ⟨on, low⟩
      · simp [bad]
      · simp [on, low.not_gt]
    obtain ⟨fault, shown⟩ := (s.pulseEnded p tc).testFault_fault p.driver (c := 9) tc (by decide) le_rfl
    have idle : ((s.pulseEnded p tc).testFault p.driver 9 tc).saf.pulse = none := State.testFault_pulse _ _ _ tc rfl
    have before : Writes 12 [0xc0000, 0xc0030, 0xc0040, 0xc0050] s ((s.pulseEnded p tc).testFault p.driver 9 tc) :=
      (Writes.refl.andThen (s.pulseEnded_writes p tc)).andThen (State.testFault_safety _ p.driver 9 tc)
    have pair (string : p.driver < 24) (armed : s.armed = true) :
        ((s.pulseEnded p tc).testFault p.driver 9 tc).fld (F.BRK_S_STAT_PAIR (p.driver / 3)) = pairOpen :=
      State.testFault_pair 9 tc string ((s.pulseEnded_armed p tc).trans armed)
    rw [exec_testPulseEnd pulse due, if_neg notGood]
    obtain ⟨ended, fault', shown', raised, pair'⟩ := State.failNoticed tc idle fault
    exact ⟨_, rfl, ended, fault', shown'.trans shown, raised.ofSameCount before.fld, fun string armed => (pair' _).trans (pair string armed)⟩
  case overdue =>
    intro s k low tc armed used fault due
    obtain ⟨code, shown⟩ := s.testFault_fault k (c := 10) tc (by decide) (by decide)
    have run : exec (.testOverdue k low tc) s = .next (s.testFault k 10 tc) := congrArg Host.Outcome.next
      (if_pos (by rw [armed, used, decide_eq_true fault, due]; rfl))
    refine ⟨_, run, code, shown, fun string => State.testFault_pair 10 tc string armed, fun aux => ?_⟩
    have used' : (s.faultShown k 10).conUsed k = true :=
      (State.flag_put_addr _ _ (by simp only [F.BRK_CON_USED, F.SAF_STAT_TP_FAULT]; omega)).trans
        ((State.flag_put_bits _ _ (.inl (by simp [F.BRK_CON_USED, F.BRK_CON_FAULT]))).trans used)
    rw [State.testFault_aux 10 tc aux]
    exact State.energise_off tc used'

end Sys2Proof.Machine
end

section
/-! Bursts and cells: bursts handed to the estimation engine and evaluated, the epoch that a pass writes, and the restore of a cell without a valid copy (R184, R193, R194, R211, R222, R226). -/
namespace Sys2Proof.Machine

open Sys2Proof

-- Default arguments by tactic wait for the declarations before: begun all at once the proofs below would each hold a thread and its stack.
set_option Elab.async false

/-! Little-endian bytes: a read after a write (R10). -/

theorem Cells.get_setLe_outside (c : Cells 8) {a n k : Nat} (v : Nat) (h : k < a ∨ a + n ≤ k) : (c.setLe a n v).get k = c.get k := by
  induction n generalizing c a v with
  | zero => rfl
  | succ n ih => rw [Cells.setLe, ih _ _ (by omega), Cells.get_set_other _ _ (by omega)]

theorem Cells.le_setLe_same (c : Cells 8) (a n v : Nat) : (c.setLe a n v).le a n = v % 2 ^ (8 * n) := by
  induction n generalizing c a v with
  | zero => simp [Cells.le, Nat.mod_one]
  | succ n ih =>
    rw [Cells.setLe, Cells.le, ih, Cells.get_setLe_outside _ _ (.inl (Nat.lt_succ_self a)), Cells.get_set_same, BitVec.toNat_ofNat,
      Nat.mul_succ, Nat.add_comm (8 * n), Nat.pow_add]
    exact (Nat.mod_mul ..).symm

theorem Cells.le_setLe_outside (c : Cells 8) {a n k m : Nat} (v : Nat) (h : k + m ≤ a ∨ a + n ≤ k) : (c.setLe a n v).le k m = c.le k m := by
  induction m generalizing k with
  | zero => rfl
  | succ m ih => rw [Cells.le, Cells.le, ih (by omega), Cells.get_setLe_outside _ _ (by omega)]

theorem Cells.le_lt (c : Cells 8) (a n : Nat) : c.le a n < 2 ^ (8 * n) := by
  induction n generalizing a with
  | zero => exact Nat.one_pos
  | succ n ih =>
    have low := (c.get a).isLt
    have high := ih (a + 1)
    rw [Cells.le, Nat.mul_succ, Nat.add_comm (8 * n), Nat.pow_add]
    omega

/-! Fields of an entry of the cell state table (R193). -/

/-- Two fields of an entry have no byte in common. -/
def CellField.apart (f g : CellField) : Bool := decide (f.off + f.n ≤ g.off) || decide (g.off + g.n ≤ f.off)

theorem State.cell_putCell_same (s : State) (g : Nat) (f : CellField) (v : Nat) : (s.putCell g f v).cell g f = v % 2 ^ (8 * f.n) :=
  Cells.le_setLe_same ..

theorem State.cell_putCell_apart (s : State) (g : Nat) {f h : CellField} (v : Nat) (apart : f.apart h = true := by decide) :
    (s.putCell g f v).cell g h = s.cell g h := by
  simp only [CellField.apart, Bool.or_eq_true, decide_eq_true_eq] at apart
  exact Cells.le_setLe_outside _ _ (by simp only [cellAddr]; omega)

theorem State.cell_of_cst {s t : State} (h : t.cst = s.cst) (g : Nat) (f : CellField) : t.cell g f = s.cell g f := by
  rw [State.cell, State.cell, h]

/-! STAT of an entry, as a word of fields (R194). -/

/-- STAT of entry g. -/
def State.statWord (s : State) (g : Nat) : Word := BitVec.ofNat 32 (s.cell g C.STAT)

theorem State.stat_eq (s : State) (g i : Nat) : s.stat g i = (s.statWord g).getLsbD i := by
  have lt : s.cell g C.STAT < 2 ^ 32 := Cells.le_lt ..
  rw [State.stat, State.statWord, BitVec.getLsbD, BitVec.toNat_ofNat, Nat.mod_eq_of_lt lt]

theorem State.socSrc_eq (s : State) (g : Nat) : s.socSrc g = fieldOf (s.statWord g) 2 2 := rfl

theorem State.statWord_putWord (s : State) (g : Nat) (w : Word) : (s.putCell g C.STAT w.toNat).statWord g = w := by
  rw [State.statWord, State.cell_putCell_same]
  exact BitVec.eq_of_toNat_eq (by rw [BitVec.toNat_ofNat, show 2 ^ (8 * C.STAT.n) = 2 ^ 32 from rfl, Nat.mod_mod, Nat.mod_eq_of_lt w.isLt])

theorem State.statWord_putStat (s : State) (g i : Nat) (b : Bool) : (s.putStat g i b).statWord g = withField (s.statWord g) i 1 (if b then 1 else 0) :=
  State.statWord_putWord ..

theorem State.statWord_putSocSrc (s : State) (g v : Nat) : (s.putSocSrc g v).statWord g = withField (s.statWord g) 2 2 v := State.statWord_putWord ..

theorem State.stat_putStat_same (s : State) (g : Nat) {i : Nat} (b : Bool) (h : i < 32) : (s.putStat g i b).stat g i = b := by
  rw [State.stat_eq, State.statWord_putStat, getLsbD_withField, if_pos ⟨le_rfl, Nat.lt_succ_self i, h⟩]
  cases b <;> simp

theorem State.stat_putStat_other (s : State) (g : Nat) {i j : Nat} (b : Bool) (h : j ≠ i) : (s.putStat g i b).stat g j = s.stat g j := by
  rw [State.stat_eq, State.stat_eq, State.statWord_putStat, getLsbD_withField, if_neg (by omega)]

theorem State.stat_putSocSrc (s : State) (g v : Nat) {j : Nat} (h : j < 2 ∨ 4 ≤ j) : (s.putSocSrc g v).stat g j = s.stat g j := by
  rw [State.stat_eq, State.stat_eq, State.statWord_putSocSrc, getLsbD_withField, if_neg (by omega)]

theorem State.socSrc_putSocSrc (s : State) (g v : Nat) : (s.putSocSrc g v).socSrc g = v % 2 ^ 2 := by
  rw [State.socSrc_eq, State.statWord_putSocSrc, fieldOf_withField _ _ _ _ (by decide)]

theorem State.socSrc_putStat (s : State) (g : Nat) {i : Nat} (b : Bool) (h : i < 2 ∨ 4 ≤ i) : (s.putStat g i b).socSrc g = s.socSrc g := by
  rw [State.socSrc_eq, State.socSrc_eq, State.statWord_putStat, fieldOf_withField_other _ _ _ _ _ _ (by omega)]

theorem State.cell_putStat (s : State) (g i : Nat) (b : Bool) {f : CellField} (apart : C.STAT.apart f = true := by decide) :
    (s.putStat g i b).cell g f = s.cell g f := State.cell_putCell_apart s g _ apart

theorem State.cell_putSocSrc (s : State) (g v : Nat) {f : CellField} (apart : C.STAT.apart f = true := by decide) :
    (s.putSocSrc g v).cell g f = s.cell g f := State.cell_putCell_apart s g _ apart

/-! Bursts handed over (R184). -/

/-- The frozen burst of a port, as it is handed over. -/
def State.frozenBurst (s : State) (p : Nat) (e : Word) : Burst :=
  { port := p, epoch := e, tc := (s.port p).burstTc, aligned := (s.port p).burstAligned, read := (s.port p).burstRead, data := (s.port p).burstData }

theorem State.rearmBurst_disarms {s : State} {p : Nat} (place : p < s.ports.length) : ((s.rearmBurst p).port p).burstEpoch = none :=
  congrArg Port.burstEpoch (getD_setAt_same _ _ _ _ place)

/-- A hand-over of a frozen burst: it joins the queue of the engine, its port is armed again, BURST_DONE is raised, and BURST_LOST stays as it was. -/
theorem State.handOver_spec {s : State} {p : Nat} {e : Word} (place : p < s.ports.length) (frozen : (s.port p).burstEpoch = some e) :
    (s.handOver p).est.bursts = s.est.bursts ++ [s.frozenBurst p e] ∧ ((s.handOver p).port p).burstEpoch = none ∧
      Raised Ev.SWP_BURST_DONE s (s.handOver p) ∧ (s.handOver p).fld F.SWP_EVT_BURST_LOST = s.fld F.SWP_EVT_BURST_LOST ∧
      (s.handOver p).fld F.SWP_EVT_CNT2_BURST_LOST = s.fld F.SWP_EVT_CNT2_BURST_LOST := by
  have run : s.handOver p =
      (({ s with est := { s.est with bursts := s.est.bursts ++ [s.frozenBurst p e] } } : State).rearmBurst p).event Ev.SWP_BURST_DONE := by
    rw [State.handOver, frozen]
    rfl
  rw [run]
  refine ⟨rfl, State.rearmBurst_disarms (by exact place), (State.event_raised _ _ (by decide)).ofSameCount rfl, ?_, ?_⟩
  · exact (State.fld_put_addr _ _ (by decide)).trans (State.fld_put_bits _ _ (by decide))
  · exact State.fld_event_addr _ (by decide) (by decide)

theorem exec_burstReadComplete {s : State} {p : Fin 8} {e : Word} (frozen : (s.port p).burstEpoch = some e)
    (read : (s.port p).burstRead &&& ((s.port p).addressed &&& ((s.port p).reachA ||| (s.port p).reachB)) =
      (s.port p).addressed &&& ((s.port p).reachA ||| (s.port p).reachB)) :
    exec (.burstReadComplete p) s = .next (s.handOver p) :=
  congrArg Host.Outcome.next (if_pos (by simp [frozen, read]))

theorem exec_burstReadTimeout_due {s : State} {p : Fin 8} {e : Word} {tc : Tc} (frozen : (s.port p).burstEpoch = some e)
    (due : (s.port p).burstTc.toNat + 62500000 ≤ tc.toNat) :
    exec (.burstReadTimeout ⟨p, tc⟩) s = .next ((s.event Ev.SWP_BURST_LOST).handOver p) :=
  congrArg Host.Outcome.next (if_pos (by simp [frozen, due]))

theorem exec_burstReadTimeout_early {s : State} {p : Fin 8} {tc : Tc} (early : tc.toNat < (s.port p).burstTc.toNat + 62500000) :
    exec (.burstReadTimeout ⟨p, tc⟩) s = .next s :=
  congrArg Host.Outcome.next (if_neg (by simp [early]))

/-! Bursts evaluated (R211). -/

/-- A burst has left the queue of the engine. -/
def State.burstTaken (s : State) (b : Burst) : State := { s with est := { s.est with bursts := s.est.bursts.erase b } }

theorem exec_burstEvaluation {s : State} {p : Fin 8} {b : Burst} (oldest : s.est.bursts.find? (fun b => b.port == p.val) = some b) :
    exec (.burstEvaluation p) s = .next (if s.estRuns then (s.burstTaken b).evalBurst b else s.burstTaken b) := by
  rw [show exec (.burstEvaluation p) s = execBurstEvaluation p s from rfl, execBurstEvaluation, oldest]
  rfl

theorem State.evalBurst_off {s : State} (b : Burst) (off : s.flag F.EST_LEARN_CFG_STEP_EN = false) : s.evalBurst b = s :=
  if_pos (by rw [off]; rfl)

theorem State.evalBurst_unaligned {s : State} {b : Burst} (on : s.flag F.EST_LEARN_CFG_STEP_EN = true) (unaligned : b.aligned = false) :
    s.evalBurst b = (s.recordAll b.port b 5).put (F.EST_STEP_LAST b.port) 5 := by
  simp [State.evalBurst, on, unaligned]

/-! The pass of a cell (R222). -/

/-- The epoch and the snapshot word that a pass writes last, before any write-back. -/
def State.passWritten (s : State) (w : Sweep) (g : Nat) (new learned : Bool) : State :=
  (s.putCell g C.EPOCH w.epoch.toNat).putEstCell g false new learned

/-- After the other steps a pass writes epoch and snapshot word; only the write-back of an accepted measurement may follow. -/
theorem State.onePass_ends (s : State) (w : Sweep) (g : Nat) (tc : Tc) : ∃ (u : State) (new learned : Bool),
    s.onePass w g tc = (u.passWritten w g new learned).triggerWb 1 tc ∨ s.onePass w g tc = u.passWritten w g new learned :=
  ⟨_, _, _, ite_eq_or_eq ..⟩

theorem State.passWritten_epoch (s : State) (w : Sweep) (g : Nat) (new learned : Bool) : (s.passWritten w g new learned).cell g C.EPOCH = w.epoch.toNat :=
  calc (s.passWritten w g new learned).cell g C.EPOCH
    _ = (s.putCell g C.EPOCH w.epoch.toNat).cell g C.EPOCH := State.cell_of_cst ((State.putEstCell_moved ..).same 4 rfl) g _
    _ = w.epoch.toNat % 2 ^ 32 := State.cell_putCell_same ..
    _ = w.epoch.toNat := Nat.mod_eq_of_lt w.epoch.isLt

theorem State.onePass_epoch (s : State) (w : Sweep) (g : Nat) (tc : Tc) : (s.onePass w g tc).cell g C.EPOCH = w.epoch.toNat := by
  obtain ⟨u, new, learned, h | h⟩ := s.onePass_ends w g tc
  · rw [h, State.cell_of_cst ((State.triggerWb_moved ..).same 4 rfl), State.passWritten_epoch]
  · rw [h, State.passWritten_epoch]

theorem exec_cellPass {s : State} {g : Fin 4096} {w : Sweep} (tc : Tc) (sweep : s.swp.sweep = some w) (turn : s.nextPass w = some g.val) :
    exec (.cellPass g tc) s = .next (s.onePass w g tc) := by
  rw [show exec (.cellPass g tc) s = execCellPass g tc s from rfl, execCellPass, sweep]
  exact congrArg Host.Outcome.next (if_pos (by rw [turn, beq_self_eq_true]))

/-! The restore of a cell (R226, R227). -/

/-- An entry that is cleared and declared again: its next pass is its first. -/
def State.entryBegun (s : State) (g : Nat) : State :=
  let u := ((s.clearEntry g).putStat g stDeclared true).putStat g stSocInit true
  { u with est := { u.est with restored := u.est.restored.set g 1 } }

/-- An entry that begins with the default capacity and a pending SOC. -/
def State.entryDefault (s : State) (g : Nat) (lost : Bool) : State :=
  (((((s.entryBegun g).putCell g C.Q_LEARN (s.capacity (strOf g))).putCell g C.LEARN_CNT 0).putStat g stCapDefault true).putSocSrc g 3).putStat g
    stRetLost lost

theorem State.restoreCell_noCopy {s : State} (g : Nat) (lost : Bool) (noCopy : s.newestCopy = none) : s.restoreCell g lost = s.entryDefault g lost := by
  have begun : (s.entryBegun g).newestCopy = none := noCopy
  unfold State.restoreCell
  extract_lets p cap uid u e begun' copy found
  have empty : copy = [] := by
    simp only [copy]
    rw [show begun'.newestCopy = none from begun]
  have notFound : found = false := by simp [found, empty]
  clear_value found
  subst notFound
  rfl

theorem State.entryDefault_spec (s : State) (g : Nat) (lost : Bool) :
    (s.entryDefault g lost).est.restored.get g = 1 ∧ (s.entryDefault g lost).cell g C.Q_LEARN = s.capacity (strOf g) % 2 ^ 32 ∧
      (s.entryDefault g lost).cell g C.LEARN_CNT = 0 ∧ (s.entryDefault g lost).socSrc g = 3 ∧ (s.entryDefault g lost).stat g stCapDefault = true ∧
      (s.entryDefault g lost).stat g stRetLost = lost := by
  refine ⟨?_, ?_, ?_, ?_, ?_, ?_⟩
  · rw [show (s.entryDefault g lost).est.restored = (s.clearEntry g).est.restored.set g 1 from rfl, Cells.get_set_same]
  · rw [State.entryDefault, State.cell_putStat, State.cell_putSocSrc, State.cell_putStat, State.cell_putCell_apart, State.cell_putCell_same]
    rfl
  · rw [State.entryDefault, State.cell_putStat, State.cell_putSocSrc, State.cell_putStat, State.cell_putCell_same]
    rfl
  · exact (State.socSrc_putStat _ _ _ (.inr (by decide))).trans (State.socSrc_putSocSrc ..)
  · rw [State.entryDefault, State.stat_putStat_other _ _ _ (by decide), State.stat_putSocSrc _ _ _ (.inr (by decide)),
      State.stat_putStat_same _ _ _ (by decide)]
  · exact State.stat_putStat_same _ _ _ (by decide)

theorem exec_cellRestore {s : State} {g : Fin 4096} (declared : s.cellDeclared (strOf g) (monOf g) (celOf g) = true) (first : s.est.restored.get g = 0)
    (known : s.portState (strOf g) = portRing ∨ s.portState (strOf g) = portSplit ∨ s.portState (strOf g) = portFault) :
    exec (.cellRestore g) s = .next (s.restoreCell g (s.stat g stRetLost)) :=
  congrArg Host.Outcome.next (if_pos (by simpa [declared, first, or_assoc] using known))

/-- Settles O24: each clause is the rule above for its command. -/
theorem burstsAndCells : Obligations.BurstsAndCells := by
  refine ⟨?complete, ?timeout, ?early, ?off, ?unaligned, ?pass, ?restore⟩
  case complete =>
    intro s p e ports frozen read
    obtain ⟨queued, disarmed, done, -, -⟩ := State.handOver_spec (p.isLt.trans_eq ports.symm) frozen
    exact ⟨_, _, exec_burstReadComplete frozen read, queued, rfl, rfl, rfl, disarmed, done⟩
  case timeout =>
    intro s p e tc ports frozen due
    obtain ⟨flag, count⟩ := s.event_raised Ev.SWP_BURST_LOST (by decide)
    obtain ⟨queued, disarmed, done, lostFlag, lostCount⟩ := State.handOver_spec (s := s.event Ev.SWP_BURST_LOST) (p.isLt.trans_eq ports.symm) frozen
    exact ⟨_, _, exec_burstReadTimeout_due frozen due, queued, rfl, rfl, rfl, disarmed, done.ofSameCount (State.fld_event_addr _ (by decide) (by decide)),
      lostFlag.trans flag, lostCount.trans count⟩
  case early =>
    intro s p tc early
    exact exec_burstReadTimeout_early early
  case off =>
    intro s p b oldest off
    rw [exec_burstEvaluation oldest, State.evalBurst_off (s := s.burstTaken b) b off, ite_self]
    rfl
  case unaligned =>
    intro s p b oldest on runs unaligned
    have port : b.port = p.val := by simpa using List.find?_some oldest
    rw [exec_burstEvaluation oldest, if_pos runs, State.evalBurst_unaligned (s := s.burstTaken b) on unaligned, port]
    have kept : ((s.burstTaken b).recordAll p b 5).est = (s.burstTaken b).est := (State.recordAll_moved ..).same 10 rfl
    refine ⟨_, rfl, ?_, State.fld_put_same _ _ _ (by simp [F.EST_STEP_LAST])⟩
    rw [State.put_est, kept]
    rfl
  case pass =>
    intro s g tc w sweep turn
    exact ⟨_, exec_cellPass tc sweep turn, s.onePass_epoch w g tc⟩
  case restore =>
    intro s g declared first known noCopy
    rw [exec_cellRestore declared first known, State.restoreCell_noCopy g _ noCopy]
    exact ⟨_, rfl, s.entryDefault_spec g _⟩

end Sys2Proof.Machine
end

section
/-! Learning that starts over, and capacities written back (R228 to R232). -/
namespace Sys2Proof.Machine

open Sys2Proof

-- Default arguments by tactic wait for the declarations before: begun all at once the proofs below would each hold a thread and its stack.
set_option Elab.async false

/-! Bytes cut out of the table. -/

theorem Cells.get_filter_of_kept {w : Nat} (c : Cells w) {p : Nat × BitVec w → Bool} {k : Nat} (kept : ∀ v, p (k, v) = true) :
    Cells.get (c.filter p) k = c.get k := by
  induction c with
  | nil => rfl
  | cons e c ih =>
    obtain ⟨a, v⟩ := e
    by_cases stays : p (a, v) = true
    · rw [List.filter_cons_of_pos stays, Cells.get_cons, Cells.get_cons, ih]
    · have ne : a ≠ k := fun same => stays (same ▸ kept v)
      rw [List.filter_cons_of_neg stays, Cells.get_cons, if_neg ne, ih]

theorem Cells.le_cut_outside (c : Cells 8) {lo hi a n : Nat} (h : a + n ≤ lo ∨ hi ≤ a) :
    Cells.le (c.filter fun e => decide (e.1 < lo) || decide (hi ≤ e.1)) a n = c.le a n := by
  induction n generalizing a with
  | zero => rfl
  | succ n ih => rw [Cells.le, Cells.le, ih (by omega), Cells.get_filter_of_kept c fun v => by simp; omega]

/-! Fields of the other entries (R193). -/

/-- The field lies within the 512 bytes of an entry. -/
def CellField.inside (f : CellField) : Bool := decide (f.off + f.n ≤ 512)

theorem State.cell_putCell_other (s : State) {g h : Nat} {f k : CellField} (v : Nat) (ne : h ≠ g) (fin : f.inside = true := by decide)
    (kin : k.inside = true := by decide) : (s.putCell g f v).cell h k = s.cell h k := by
  simp only [CellField.inside, decide_eq_true_eq] at fin kin
  exact Cells.le_setLe_outside _ _ (by simp only [cellAddr]; omega)

theorem State.cell_putStat_other (s : State) {g h : Nat} (i : Nat) (b : Bool) {k : CellField} (ne : h ≠ g) (kin : k.inside = true := by decide) :
    (s.putStat g i b).cell h k = s.cell h k := State.cell_putCell_other s _ ne (by decide) kin

/-! Learning of a cell starts over (R228). -/

/-- Capacity, count, segment and marks of an entry whose learning starts over. -/
def State.learnReset (s : State) (g : Nat) : State :=
  ((((s.putCell g C.Q_LEARN (s.capacity (strOf g))).putCell g C.LEARN_CNT 0).putCell g C.SEG_STATE 0).putStat g stCapLearned false).putStat g stCapDefault true

/-- The point records of an entry are cleared. -/
def State.pointsCleared (s : State) (g : Nat) : State :=
  { s with cst := s.cst.filter (fun e => decide (e.1 < 0x1000000 + 512 * g + 0x80) || decide (0x1000000 + 512 * g + 0xBC ≤ e.1)) }

theorem State.relearn_declared {s : State} {g : Nat} (declared : s.stat g stDeclared = true) : s.relearn g = (s.learnReset g).pointsCleared g := if_pos declared

theorem State.relearn_undeclared {s : State} {g : Nat} (undeclared : s.stat g stDeclared = false) : s.relearn g = s :=
  if_neg (Bool.eq_false_iff.mp undeclared)

theorem State.cell_pointsCleared (s : State) (g : Nat) {f : CellField} (apart : (CellField.mk 0x80 0x3C).apart f = true := by decide) :
    (s.pointsCleared g).cell g f = s.cell g f := by
  simp only [CellField.apart, Bool.or_eq_true, decide_eq_true_eq] at apart
  exact Cells.le_cut_outside _ (by simp only [cellAddr]; omega)

theorem State.cell_pointsCleared_other (s : State) {g h : Nat} {f : CellField} (ne : h ≠ g) (inside : f.inside = true) :
    (s.pointsCleared g).cell h f = s.cell h f := by
  simp only [CellField.inside, decide_eq_true_eq] at inside
  exact Cells.le_cut_outside _ (by simp only [cellAddr]; omega)

theorem State.stat_pointsCleared (s : State) (g i : Nat) : (s.pointsCleared g).stat g i = s.stat g i :=
  congrArg (Nat.testBit · i) (s.cell_pointsCleared g)

/-- A relearn leaves the other entries. -/
theorem State.cell_relearn_other (s : State) {g h : Nat} {f : CellField} (ne : h ≠ g) (inside : f.inside = true := by decide) :
    (s.relearn g).cell h f = s.cell h f := by
  cases declared : s.stat g stDeclared with
  | false => rw [State.relearn_undeclared declared]
  | true =>
    rw [State.relearn_declared declared, State.cell_pointsCleared_other _ ne inside, State.learnReset, State.cell_putStat_other _ _ _ ne inside,
      State.cell_putStat_other _ _ _ ne inside, State.cell_putCell_other _ _ ne (by decide) inside, State.cell_putCell_other _ _ ne (by decide) inside,
      State.cell_putCell_other _ _ ne (by decide) inside]

theorem State.stat_relearn_other (s : State) {g h : Nat} (i : Nat) (ne : h ≠ g) : (s.relearn g).stat h i = s.stat h i :=
  congrArg (Nat.testBit · i) (s.cell_relearn_other ne)

theorem State.capacity_of_cfg {s t : State} (h : t.cfg = s.cfg) (n : Nat) : t.capacity n = s.capacity n := by
  rw [State.capacity, State.capacity, State.sec, State.sec, h]

/-- Entry g holds what a start over of its learning leaves: the default capacity, no learning count, no segment. -/
structure State.LearnsAnew (s : State) (g : Nat) : Prop where
  capacity : s.cell g C.Q_LEARN = s.capacity (strOf g) % 2 ^ 32
  count : s.cell g C.LEARN_CNT = 0
  segment : s.cell g C.SEG_STATE = 0
  notLearned : s.stat g stCapLearned = false
  byDefault : s.stat g stCapDefault = true

theorem State.relearn_learnsAnew {s : State} {g : Nat} (declared : s.stat g stDeclared = true) : (s.relearn g).LearnsAnew g := by
  rw [State.relearn_declared declared]
  constructor
  · rw [State.cell_pointsCleared, State.learnReset, State.cell_putStat, State.cell_putStat, State.cell_putCell_apart, State.cell_putCell_apart,
      State.cell_putCell_same]
    rfl
  · rw [State.cell_pointsCleared, State.learnReset, State.cell_putStat, State.cell_putStat, State.cell_putCell_apart, State.cell_putCell_same]
    rfl
  · rw [State.cell_pointsCleared, State.learnReset, State.cell_putStat, State.cell_putStat, State.cell_putCell_same]
    rfl
  · rw [State.stat_pointsCleared, State.learnReset, State.stat_putStat_other _ _ _ (by decide), State.stat_putStat_same _ _ _ (by decide)]
  · rw [State.stat_pointsCleared, State.learnReset, State.stat_putStat_same _ _ _ (by decide)]

/-- A relearn of any cell keeps an entry that learns anew, whether it is that entry or another. -/
theorem State.LearnsAnew.relearn {s : State} {g : Nat} (anew : s.LearnsAnew g) (k : Nat) : (s.relearn k).LearnsAnew g := by
  rcases eq_or_ne g k with rfl | other
  · cases declared : s.stat g stDeclared with
    | false => exact (State.relearn_undeclared declared).symm ▸ anew
    | true => exact State.relearn_learnsAnew declared
  · constructor
    · rw [State.cell_relearn_other s other, State.capacity_of_cfg ((s.relearn_moved k).same 6 rfl), anew.capacity]
    · rw [State.cell_relearn_other s other, anew.count]
    · rw [State.cell_relearn_other s other, anew.segment]
    · rw [State.stat_relearn_other s _ other, anew.notLearned]
    · rw [State.stat_relearn_other s _ other, anew.byDefault]

theorem State.LearnsAnew.foldl_relearn {s : State} {g : Nat} (anew : s.LearnsAnew g) (l : List Nat) (b : Nat) :
    (l.foldl (fun s c => s.relearn (b + c)) s).LearnsAnew g := by
  induction l generalizing s with
  | nil => exact anew
  | cons c l ih => exact ih (anew.relearn (b + c))

/-- A relearn of several cells starts each declared one of them over. -/
theorem State.foldl_relearn_learnsAnew {s : State} {l : List Nat} {b c : Nat} (mem : c ∈ l) (declared : s.stat (b + c) stDeclared = true) :
    (l.foldl (fun s c => s.relearn (b + c)) s).LearnsAnew (b + c) := by
  induction l generalizing s with
  | nil => exact absurd mem List.not_mem_nil
  | cons x l ih =>
    by_cases first : c = x
    · subst first
      exact (State.relearn_learnsAnew declared).foldl_relearn l b
    · have later : c ∈ l := (List.mem_cons.mp mem).resolve_left first
      exact ih later ((s.stat_relearn_other _ (by omega)).trans declared)

theorem State.relearnScope_cell {s : State} (g : Nat) (awake : s.blockDormant 6 = false) : s.relearnScope 0 g = s.relearn g :=
  if_neg (Bool.eq_false_iff.mp awake)

theorem State.relearnScope_monitor {s : State} (g : Nat) (awake : s.blockDormant 6 = false) :
    s.relearnScope 1 g = (List.range 16).foldl (fun s c => s.relearn (g / 16 * 16 + c)) s :=
  if_neg (Bool.eq_false_iff.mp awake)

theorem State.relearnScope_string {s : State} (g : Nat) (awake : s.blockDormant 6 = false) :
    s.relearnScope 2 g = (List.range 512).foldl (fun s c => s.relearn (g / 512 * 512 + c)) s :=
  if_neg (Bool.eq_false_iff.mp awake)

theorem State.relearnScope_capacity (s : State) (scope g n : Nat) : (s.relearnScope scope g).capacity n = s.capacity n :=
  State.capacity_of_cfg ((s.relearnScope_moved scope g).same 6 rfl) n

/-! A write-back starts, or waits (R230 to R232, R345). -/

/-- The copy that the next write-back goes to: the one that is not the newest valid one. -/
def State.wbTarget (s : State) : Nat := match s.newestCopy with
  | some 0 => 1
  | _ => 0

/-- In s the write-back w is in progress, begun at tc with this cause, and its copy is invalid. -/
structure State.WritesBack (s : State) (w : WriteBack) (cause : Nat) (tc : Tc) : Prop where
  inHand : s.est.wb = some w
  why : w.cause = cause
  begun : s.est.lastWb = tc
  busy : s.fld F.EST_STAT_WB_BUSY = 1
  shown : s.fld F.EST_WB_STAT_CAUSE = cause % 2 ^ 4
  invalidA : w.target = 0 → s.fld F.EST_WB_STAT_A_VALID = 0 ∧ s.est.copyA = []
  invalidB : w.target = 1 → s.fld F.EST_WB_STAT_B_VALID = 0 ∧ s.est.copyB = []

/-- The mark of EST_WB_STAT that shows a copy as valid. -/
def validMark (target : Nat) : Field := if target = 0 then F.EST_WB_STAT_A_VALID else F.EST_WB_STAT_B_VALID

/-- The marks are bits 2 and 3 of one object. -/
theorem validMark_place (target : Nat) :
    (validMark target).addr = 0x60020 ∧ (validMark target).lo + (validMark target).w ≤ 4 ∧ (validMark target).w = 1 := by
  unfold validMark
  split <;> decide

/-- The write-back is in hand, and its copy loses its bytes. -/
def State.wbInHand (s : State) (w : WriteBack) (tc : Tc) : State := { s with est := { s.est with
  wb := some w
  lastWb := tc
  copyA := if w.target = 0 then [] else s.est.copyA
  copyB := if w.target = 0 then s.est.copyB else [] } }

/-- Registers that show a write-back of this cause to this copy. -/
def State.wbShown (s : State) (w : WriteBack) : State :=
  ((s.putFlag F.EST_STAT_WB_BUSY true).put F.EST_WB_STAT_CAUSE w.cause).put (validMark w.target) 0

theorem State.startWb_begins (s : State) (cause : Nat) (tc : Tc) : ∃ w : WriteBack, w.cause = cause ∧ w.target = s.wbTarget ∧
    s.startWb cause tc = (s.wbInHand w tc).wbShown w := by
  refine ⟨⟨cause, s.wbTarget, s.copyBytes cause ((s.newestSeq + 1) % 2 ^ 32)⟩, rfl, rfl, ?_⟩
  rw [State.wbShown, validMark, apply_ite (State.put _ · 0)]
  rfl

theorem State.wbShown_busy (s : State) (w : WriteBack) : (s.wbShown w).fld F.EST_STAT_WB_BUSY = 1 := by
  obtain ⟨addr, -⟩ := validMark_place w.target
  rw [State.wbShown, State.fld_put_addr _ _ (by rw [addr]; decide), State.fld_put_addr _ _ (by decide), State.putFlag_eq,
    State.fld_put_same _ _ _ (by decide)]
  rfl

theorem State.wbShown_cause (s : State) (w : WriteBack) : (s.wbShown w).fld F.EST_WB_STAT_CAUSE = w.cause % 2 ^ 4 := by
  obtain ⟨-, low, -⟩ := validMark_place w.target
  rw [State.wbShown, State.fld_put_bits _ _ (.inr low)]
  exact State.fld_put_same _ _ _ (by decide)

theorem State.wbShown_invalid (s : State) (w : WriteBack) : (s.wbShown w).fld (validMark w.target) = 0 := by
  obtain ⟨-, low, -⟩ := validMark_place w.target
  rw [State.wbShown, State.fld_put_same _ _ _ (by omega), Nat.zero_mod]

theorem State.wbShown_writesBack (s : State) (w : WriteBack) (tc : Tc) : ((s.wbInHand w tc).wbShown w).WritesBack w w.cause tc where
  inHand := rfl
  why := rfl
  begun := rfl
  busy := State.wbShown_busy ..
  shown := State.wbShown_cause ..
  invalidA toA := by
    have invalid := (s.wbInHand w tc).wbShown_invalid w
    rw [validMark, if_pos toA] at invalid
    exact ⟨invalid, if_pos toA⟩
  invalidB toB := by
    have notA : w.target ≠ 0 := by omega
    have invalid := (s.wbInHand w tc).wbShown_invalid w
    rw [validMark, if_neg notA] at invalid
    exact ⟨invalid, if_neg notA⟩

/-- A trigger with no write-back in progress, and a lane that may write, starts one to the copy that is not the newest valid one. -/
theorem State.triggerWb_starts {s : State} {cause : Nat} (tc : Tc) (idle : s.est.wb = none) (may : s.lidHeld = true ∨ cause = 4) :
    ∃ w, (s.triggerWb cause tc).WritesBack w cause tc ∧ w.target = s.wbTarget ∧ (s.triggerWb cause tc).est.held = s.est.held := by
  have starts : s.triggerWb cause tc = s.startWb cause tc := if_pos (by simpa [idle] using may)
  obtain ⟨w, why, target, begun⟩ := s.startWb_begins cause tc
  rw [starts, begun, ← why]
  exact ⟨w, s.wbShown_writesBack w tc, target, rfl⟩

/-- A trigger other than power fail, while a write-back is in progress or no lane holds the Lid, is the only one held where none was. -/
theorem State.triggerWb_waits {s : State} {cause : Nat} (tc : Tc) (blocked : s.est.wb.isSome = true ∨ s.lidHeld = false) (notPower : cause ≠ 4)
    (noneHeld : s.est.held = []) : s.triggerWb cause tc = { s with est := { s.est with held := [cause] } } := by
  have waits : ¬ (s.est.wb.isNone && (s.lidHeld || decide (cause = 4))) = true := by
    rcases blocked with busy | noLid
    · simp [Option.isSome_iff_ne_none.mp busy]
    · simp [noLid, notPower]
  rw [State.triggerWb, if_neg waits, noneHeld]
  simp [notPower]

theorem exec_wbWrite {s : State} (tc : Tc) (awake : s.blockDormant 6 = false) : exec (.wbWrite tc) s = .next (s.triggerWb 5 tc) :=
  congrArg Host.Outcome.next (if_neg (Bool.eq_false_iff.mp awake))

theorem exec_writeBackTimer {s : State} {tc : Tc} (awake : s.blockDormant 6 = false) (due : 10 * minuteTicks ≤ (tc - s.est.lastWb).toNat) :
    exec (.writeBackTimer tc) s = .next (s.triggerWb 2 tc) :=
  congrArg Host.Outcome.next (if_pos (by rw [decide_eq_true due, awake]; rfl))

/-! A write-back is completed (R231, R232). -/

/-- The copy in hand holds what was written, and shows whether it is valid. -/
def State.copyWritten (s : State) (w : WriteBack) (good : Bool) : State :=
  let s : State := { s with est := { s.est with
    wb := none
    copyA := if w.target = 0 then (if good then w.bytes else []) else s.est.copyA
    copyB := if w.target = 0 then s.est.copyB else if good then w.bytes else [] } }
  (s.put F.EST_WB_STAT_LAST w.target).putFlag (validMark w.target) good

/-- The result of the read-back is noted: nothing after a power-fail write, else LAST_OK, and WB_FAIL where it did not hold. -/
def State.checkNoted (s : State) (checked good : Bool) : State :=
  (if checked then s.putFlag F.EST_WB_STAT_LAST_OK good else s).eventIf (checked && !good) Ev.EST_WB_FAIL

/-- The registers when a write-back is over: the newest sequence, and not busy. -/
def State.wbOver (s : State) : State := (s.put F.EST_WB_SEQ_SEQ s.newestSeq).putFlag F.EST_STAT_WB_BUSY false

theorem State.finishWb_eq (s : State) (w : WriteBack) (good : Bool) :
    s.finishWb w good = ((s.copyWritten w good).checkNoted (w.cause != 4) good).wbOver := by
  unfold State.finishWb State.copyWritten validMark
  split <;> rfl

theorem State.checkNoted_est (s : State) (checked good : Bool) : (s.checkNoted checked good).est = s.est := by
  cases checked <;> cases good <;> rfl

/-- A note of the read-back leaves the valid marks, whose bits are below LAST_OK. -/
theorem State.checkNoted_flag (s : State) (checked good : Bool) {f : Field} (mark : f.addr = F.EST_WB_STAT_LAST_OK.addr) (below : f.lo + f.w ≤ 8) :
    (s.checkNoted checked good).flag f = s.flag f := by
  have event (u : State) (c : Bool) : (u.eventIf c Ev.EST_WB_FAIL).flag f = u.flag f := by
    cases c with
    | false => rfl
    | true => exact State.flag_of_rd (State.rd_event_other _ (by rw [mark]; decide) (by rw [mark]; decide))
  rw [State.checkNoted, event]
  cases checked with
  | false => rfl
  | true => exact State.flag_put_bits _ _ (.inl below)

/-- The estimation engine when the write-back w is over. -/
theorem State.finishWb_est (s : State) (w : WriteBack) (good : Bool) : (s.finishWb w good).est = { s.est with
    wb := none
    copyA := if w.target = 0 then (if good then w.bytes else []) else s.est.copyA
    copyB := if w.target = 0 then s.est.copyB else if good then w.bytes else [] } := by
  rw [State.finishWb_eq]
  exact State.checkNoted_est ..

theorem State.finishWb_valid (s : State) (w : WriteBack) (good : Bool) : (s.finishWb w good).flag (validMark w.target) = good := by
  obtain ⟨addr, low, one⟩ := validMark_place w.target
  have written : (s.copyWritten w good).flag (validMark w.target) = good := State.flag_putFlag_same _ _ _ (by omega) (by omega)
  rw [State.finishWb_eq, State.wbOver, State.putFlag_eq, State.flag_put_addr _ _ (by rw [addr]; decide), State.flag_put_addr _ _ (by rw [addr]; decide),
    State.checkNoted_flag _ _ _ addr (by omega), written]

theorem State.finishWb_idle (s : State) (w : WriteBack) (good : Bool) : (s.finishWb w good).fld F.EST_STAT_WB_BUSY = 0 := by
  rw [State.finishWb_eq]
  exact State.fld_put_same _ _ _ (by decide)

theorem State.finishWb_lidHeld (s : State) (w : WriteBack) (good : Bool) : (s.finishWb w good).lidHeld = s.lidHeld :=
  congrArg (fun l => l.lid.isSome) ((s.finishWb_moved w good).same 22 rfl)

/-- One cause is taken from those held. -/
def State.heldTaken (s : State) (rest : List Nat) : State := { s with est := { s.est with held := rest } }

theorem exec_writeBackComplete_last {s : State} {w : WriteBack} (good : Bool) (tc : Tc) (inHand : s.est.wb = some w) (noneHeld : s.est.held = []) :
    exec (.writeBackComplete good tc) s = .next (s.finishWb w good) := by
  have held : (s.finishWb w good).est.held = [] := by rw [State.finishWb_est, noneHeld]
  rw [show exec (.writeBackComplete good tc) s = execWriteBackComplete good tc s from rfl, execWriteBackComplete, inHand]
  simp only [held]

theorem exec_writeBackComplete_next {s : State} {w : WriteBack} {c : Nat} {rest : List Nat} (good : Bool) (tc : Tc) (inHand : s.est.wb = some w)
    (waits : s.est.held = c :: rest) : exec (.writeBackComplete good tc) s = .next (((s.finishWb w good).heldTaken rest).triggerWb c tc) := by
  have held : (s.finishWb w good).est.held = c :: rest := by rw [State.finishWb_est, waits]
  rw [show exec (.writeBackComplete good tc) s = execWriteBackComplete good tc s from rfl, execWriteBackComplete, inHand]
  simp only [held]
  rfl

/-- Settles O25: a relearn starts each declared entry of its scope over and reaches no other entry; a trigger starts a write-back to the copy that is not
the newest valid one, or waits; a completed write-back leaves its bytes where the read-back held. -/
theorem relearnAndWriteBack : Obligations.RelearnAndWriteBack := by
  unfold Obligations.RelearnAndWriteBack
  refine ⟨?cell, ?monitor, ?string, ?request, ?waits, ?timer, ?complete, ?next⟩
  case cell =>
    intro s g awake declared
    have anew : (s.relearnScope 0 g).LearnsAnew g := State.relearnScope_cell g awake ▸ State.relearn_learnsAnew declared
    exact ⟨_, rfl, anew.capacity.trans (by rw [State.relearnScope_capacity]), anew.count, anew.segment, anew.notLearned, anew.byDefault⟩
  case monitor =>
    intro s g c awake low declared
    have anew : (s.relearnScope 1 g).LearnsAnew (g / 16 * 16 + c) :=
      State.relearnScope_monitor g awake ▸ State.foldl_relearn_learnsAnew (List.mem_range.mpr low) declared
    exact ⟨_, rfl, anew.capacity.trans (by rw [State.relearnScope_capacity]), anew.count⟩
  case string =>
    intro s g c awake low declared
    have anew : (s.relearnScope 2 g).LearnsAnew (g / 512 * 512 + c) :=
      State.relearnScope_string g awake ▸ State.foldl_relearn_learnsAnew (List.mem_range.mpr low) declared
    exact ⟨_, rfl, anew.capacity.trans (by rw [State.relearnScope_capacity]), anew.count⟩
  case request =>
    intro s tc awake idle lid
    obtain ⟨w, started, -, -⟩ := State.triggerWb_starts (cause := 5) tc idle (.inl lid)
    exact ⟨_, w, exec_wbWrite tc awake, started.inHand, started.why, started.begun, started.busy, started.shown, started.invalidA, started.invalidB⟩
  case waits =>
    intro s tc awake blocked noneHeld
    rw [exec_wbWrite tc awake, State.triggerWb_waits tc blocked (by decide) noneHeld]
  case timer =>
    intro s tc awake idle lid due
    obtain ⟨w, started, -, -⟩ := State.triggerWb_starts (cause := 2) tc idle (.inl lid)
    exact ⟨_, w, exec_writeBackTimer awake due, started.inHand, started.why, started.begun, started.busy⟩
  case complete =>
    intro s tc good w inHand noneHeld
    refine ⟨_, exec_writeBackComplete_last good tc inHand noneHeld, ?_, ?_, ?_, ?_, s.finishWb_idle w good⟩
    · rw [State.finishWb_est]
    · rw [State.finishWb_est]
    · rw [State.finishWb_est]
    · exact Bool.coe_iff_coe.mpr (s.finishWb_valid w good)
  case next =>
    intro s tc good w c rest inHand waits may
    have idle : ((s.finishWb w good).heldTaken rest).est.wb = none := congrArg Est.wb (s.finishWb_est w good)
    have lid : ((s.finishWb w good).heldTaken rest).lidHeld = s.lidHeld := s.finishWb_lidHeld w good
    obtain ⟨v, started, -, held⟩ := State.triggerWb_starts tc idle (lid ▸ may)
    exact ⟨_, v, exec_writeBackComplete_next good tc inHand waits, started.inHand, started.why, held⟩

end Sys2Proof.Machine
end

section
/-! Opening: what the Twill, the comparison of the channels and every order to open leave of the island (R234 to R237, R244 to R247). -/
namespace Sys2Proof.Machine

open Sys2Proof

-- Default arguments by tactic wait for the declarations before: begun all at once the proofs below would each hold a thread and its stack.
set_option Elab.async false

/-! The record of a string. -/

theorem getD_setAt {α : Type} (l : List α) (n m : Nat) (x d : α) : (setAt l n x).getD m d = if m = n ∧ n < l.length then x else l.getD m d := by
  by_cases same : m = n
  · subst same
    by_cases inside : m < l.length
    · rw [getD_setAt_same l m x d inside, if_pos ⟨rfl, inside⟩]
    · rw [if_neg fun h => inside h.2, List.getD_eq_default _ _ (by rw [length_setAt]; exact Nat.not_lt.mp inside),
        List.getD_eq_default _ _ (Nat.not_lt.mp inside)]
  · rw [getD_setAt_other l x d same, if_neg fun h => same h.1]

/-- What a new record keeps of the old one, the records keep. -/
theorem State.isl_setIsl_kept {α : Type} (f : IslandString → α) {s : State} {n : Nat} {x : IslandString} (h : f x = f (s.isl n)) (m : Nat) :
    f ((s.setIsl n x).isl m) = f (s.isl m) := by
  rw [State.isl, State.setIsl, getD_setAt]
  split
  next hit => rw [h, hit.1]
  next => rfl

theorem State.isl_setIsl_same {s : State} (sized : s.prt.Sized) (n : Fin 8) (x : IslandString) : (s.setIsl n x).isl n = x :=
  getD_setAt_same _ _ _ _ (by rw [sized.1]; exact n.isLt)

/-! What an order to open leaves. -/

/-- The paths of a string, with the instants that its latches and counts keep (R239, R240). -/
def IslandString.paths (x : IslandString) : Option Tc × Option Tc × Bool × Bool × Tc × Tc := (x.sc, x.oc, x.foc, x.didt, x.focTc, x.didtTc)

theorem IslandString.of_paths {x y : IslandString} (h : x.paths = y.paths) :
    x.sc = y.sc ∧ x.oc = y.oc ∧ x.foc = y.foc ∧ x.didt = y.didt ∧ x.focTc = y.focTc ∧ x.didtTc = y.didtTc := by simpa [IslandString.paths] using h

/-- What neither the Twill nor the comparison of the channels changes of the island: the skew of channel 2 and the insulation monitor's record (R235, R266, R267). -/
def Prt.rest (p : Prt) : BitVec 64 × List ImdPhase × Tc × Option Tc := (p.skew, p.imd, p.imdTc, p.collapseFrom)

/-- With the latches and outputs of both channels, which a clock of the Twill sets (R246). -/
def Prt.latched (p : Prt) : (BitVec 64 × List ImdPhase × Tc × Option Tc) × BitVec 20 × BitVec 20 × BitVec 20 × BitVec 20 :=
  (p.rest, p.ch1.latch, p.ch2.latch, p.ch1.out, p.ch2.out)

/-- With the instants of a difference and of an island fault, which the comparison of the channels sets (R235, R237). -/
def Prt.compared (p : Prt) : ((BitVec 64 × List ImdPhase × Tc × Option Tc) × BitVec 20 × BitVec 20 × BitVec 20 × BitVec 20) × Option Tc × Tc :=
  (p.latched, p.diffTc, p.faultTc)

/-- With the strings' records, which an order to a driver leaves. -/
def Prt.strung (p : Prt) :
    (((BitVec 64 × List ImdPhase × Tc × Option Tc) × BitVec 20 × BitVec 20 × BitVec 20 × BitVec 20) × Option Tc × Tc) × List IslandString :=
  (p.compared, p.strs)

/-- From r to s the island has only been driven towards open: the paths of its strings and f of its record stay; no breaker is enabled, no pair that is in open
drive leaves it and no driver that is off is switched on; of block 7 only the objects of l have changed, and of the breakers' objects, the drivers' aside, the
pairs' drives. -/
structure Opening {α : Type} (f : Prt → α) (l : List Nat) (r s : State) : Prop where
  paths : ∀ n, (s.isl n).paths = (r.isl n).paths
  record : f s.prt = f r.prt
  cut1 : ∀ n, r.prt.ch1.brk.getLsbD n = false → s.prt.ch1.brk.getLsbD n = false
  cut2 : ∀ n, r.prt.ch2.brk.getLsbD n = false → s.prt.ch2.brk.getLsbD n = false
  island : Writes 7 l r s
  shown : ∀ g : Field, g.addr / 0x10000 = 8 → g.addr < 0x80200 → g.lo + g.w ≤ 8 ∨ 10 ≤ g.lo → s.fld g = r.fld g
  pair : ∀ n, r.fld (F.BRK_S_STAT_PAIR n) = pairOpen → s.fld (F.BRK_S_STAT_PAIR n) = pairOpen
  used : ∀ k, s.conUsed k = r.conUsed k
  off : ∀ k, r.flag (F.BRK_CON_ENERGISED k) = false → s.flag (F.BRK_CON_ENERGISED k) = false

namespace Opening

variable {α β : Type} {f : Prt → α} {k l : List Nat} {r s t : State}

theorem refl : Opening f l r r := ⟨fun _ => rfl, rfl, fun _ => id, fun _ => id, .refl, fun _ _ _ _ => rfl, fun _ => id, fun _ => rfl, fun _ => id⟩

theorem andThen (h : Opening f l r s) (g : Opening f k s t) (sub : k ⊆ l := by decide) : Opening f l r t where
  paths n := (g.paths n).trans (h.paths n)
  record := g.record.trans h.record
  cut1 n := g.cut1 n ∘ h.cut1 n
  cut2 n := g.cut2 n ∘ h.cut2 n
  island := h.island.andThen g.island sub
  shown a block below bits := (g.shown a block below bits).trans (h.shown a block below bits)
  pair n := g.pair n ∘ h.pair n
  used k := (g.used k).trans (h.used k)
  off k := g.off k ∘ h.off k

theorem trans (h : Opening f l r s) (g : Opening f l s t) : Opening f l r t := h.andThen g (List.Subset.refl l)

/-- Less of the record is kept, too. -/
theorem map (g : α → β) (h : Opening f l r s) : Opening (g ∘ f) l r s := { h with record := congrArg g h.record }

theorem ite {c : Prop} [Decidable c] (h : Opening f l r s) (g : Opening f l r t) : Opening f l r (if c then s else t) := by
  split
  · exact h
  · exact g

theorem forUpTo {n : Nat} {op : Nat → State → State} (step : ∀ i t, Opening f l t (op i t)) (s : State) : Opening f l s (forUpTo n op s) :=
  forUpTo_keeps .refl fun i t h => h.trans (step i t)

theorem foldl {γ : Type} {xs : List γ} {op : State → γ → State} (step : ∀ t x, Opening f l t (op t x)) (s : State) : Opening f l s (xs.foldl op s) := by
  induction xs generalizing s with
  | nil => exact .refl
  | cons x xs ih => exact (step s x).trans (ih (op s x))

/-- Changes of the objects, beside the island's own record. -/
theorem ofShown (prt : s.prt = r.prt) (island : Writes 7 l r s)
    (shown : ∀ g : Field, g.addr / 0x10000 = 8 → g.addr < 0x80200 → g.lo + g.w ≤ 8 ∨ 10 ≤ g.lo → s.fld g = r.fld g)
    (pair : ∀ n, r.fld (F.BRK_S_STAT_PAIR n) = pairOpen → s.fld (F.BRK_S_STAT_PAIR n) = pairOpen) (used : ∀ k, s.conUsed k = r.conUsed k)
    (off : ∀ k, r.flag (F.BRK_CON_ENERGISED k) = false → s.flag (F.BRK_CON_ENERGISED k) = false) : Opening f l r s :=
  ⟨fun n => by rw [State.isl, prt, State.isl], congrArg f prt, fun n h => prt ▸ h, fun n h => prt ▸ h, island, shown, pair, used, off⟩

/-- Changes of the island's own record, beside the objects. -/
theorem ofRecord (objs : s.objs = r.objs) (paths : ∀ n, (s.isl n).paths = (r.isl n).paths) (record : f s.prt = f r.prt)
    (cut1 : ∀ n, r.prt.ch1.brk.getLsbD n = false → s.prt.ch1.brk.getLsbD n = false := by exact fun _ => id)
    (cut2 : ∀ n, r.prt.ch2.brk.getLsbD n = false → s.prt.ch2.brk.getLsbD n = false := by exact fun _ => id) : Opening f l r s where
  paths := paths
  record := record
  cut1 := cut1
  cut2 := cut2
  island := ⟨fun a _ _ => congrArg (Cells.get · a) objs⟩
  shown g _ _ _ := congrArg (objFld · g) objs
  pair _ h := (congrArg (objFld · _) objs).trans h
  used _ := congrArg (objFld · _ == 1) objs
  off _ h := (congrArg (objFld · _ == 1) objs).trans h

/-- An operation that reaches neither the island's record nor its objects. -/
theorem ofMoved {m : Nat} (h : Moved m r s) (h12 : m.testBit 12 = false := by rfl) (h7 : (decide (7 < 22) && !m.testBit (7 + 32)) = true := by rfl)
    (h8 : (decide (8 < 22) && !m.testBit (8 + 32)) = true := by rfl) : Opening f l r s := by
  refine .ofShown (h.same 12 h12) (.ofMoved h h7) (fun g block _ _ => h.fld 8 block h8) (fun n open_ => ?_) (fun k => ?_) (fun k off => ?_)
  · exact (h.fld 8 (by simp only [F.BRK_S_STAT_PAIR]; omega) h8).trans open_
  · exact h.flag 8 (by simp only [F.BRK_CON_USED]; omega) h8
  · exact (h.flag 8 (by simp only [F.BRK_CON_ENERGISED]; omega) h8).trans off

/-- Changes of objects of block 7. -/
theorem ofIsland (prt : s.prt = r.prt) (island : Writes 7 l r s) (other : ∀ a, a / 0x10000 ≠ 7 → s.rd a = r.rd a) : Opening f l r s := by
  refine .ofShown prt island (fun g place _ _ => State.fld_of_rd (other _ (by omega))) (fun n open_ => ?_) (fun k => ?_) (fun k off => ?_)
  · exact (State.fld_of_rd (other _ (by simp only [F.BRK_S_STAT_PAIR]; omega))).trans open_
  · exact State.flag_of_rd (other _ (by simp only [F.BRK_CON_USED]; omega))
  · exact (State.flag_of_rd (other _ (by simp only [F.BRK_CON_ENERGISED]; omega))).trans off

/-- A field of an object of block 7 is written. -/
theorem putIsland (s : State) (g : Field) (x : Nat) (block : g.addr / 0x10000 = 7 := by decide) (listed : g.addr ∈ l := by decide) :
    Opening f l s (s.put g x) :=
  .ofIsland rfl (Writes.refl.put g x listed) fun _ outside => State.rd_put_other s x fun e => outside (e ▸ block)

/-- Both halves of a 64-bit value of block 7 are written. -/
theorem wrIsland64 (s : State) (a : Nat) (v : BitVec 64) (block : a / 0x10000 = 7 ∧ (a + 4) / 0x10000 = 7) (listed : a ∈ l ∧ a + 4 ∈ l) :
    Opening f l s (s.wr64 a v) :=
  .ofIsland rfl ((Writes.refl.wr _ listed.1).wr _ listed.2) fun _ outside => State.rd_wr64_other s v (fun e => outside (e ▸ block.1)) fun e => outside (e ▸ block.2)

theorem eventIsland (s : State) (e : EventFlag) (block : e.flag.addr / 0x10000 = 7 ∧ e.cnt.addr / 0x10000 = 7 := by decide)
    (listed : e.flag.addr ∈ l ∧ e.cnt.addr ∈ l := by decide) : Opening f l s (s.event e) :=
  (putIsland s e.flag 1 block.1 listed.1).trans (putIsland _ e.cnt _ block.2 listed.2)

/-- A field of a driver's object is written, beside USED and ENERGISED. -/
theorem putDriver (s : State) (k : Nat) (g : Field) (x : Nat) (place : g.addr = 0x80200 + 0x4 * (k % 28)) (bits : 2 ≤ g.lo) : Opening f l s (s.put g x) := by
  have low {h : Field} (under : h.lo + h.w ≤ 2) : (s.put g x).fld h = s.fld h := State.fld_put_bits s x (.inl (under.trans bits))
  have other {h : Field} (before : h.addr < 0x80200) : (s.put g x).fld h = s.fld h := State.fld_put_addr s x fun e => by omega
  refine .ofShown rfl ⟨fun a block _ => State.rd_put_other s x fun e => by omega⟩ (fun h _ before _ => other before) (fun n open_ => ?_) (fun j => ?_) (fun j off => ?_)
  · exact (other (by simp only [F.BRK_S_STAT_PAIR]; omega)).trans open_
  · exact congrArg (· == 1) (low (by simp [F.BRK_CON_USED]))
  · exact (congrArg (· == 1) (low (by simp [F.BRK_CON_ENERGISED]))).trans off

/-- A driver is shown off. -/
theorem putOff (s : State) (k : Nat) : Opening f l s (s.putFlag (F.BRK_CON_ENERGISED k) false) := by
  have other {h : Field} (before : h.addr < 0x80200) : (s.putFlag (F.BRK_CON_ENERGISED k) false).fld h = s.fld h :=
    State.fld_put_addr s 0 fun e => by simp only [F.BRK_CON_ENERGISED] at e; omega
  refine .ofShown rfl ⟨fun a block _ => State.rd_put_other s 0 fun e => by simp only [F.BRK_CON_ENERGISED] at e; omega⟩ (fun h _ before _ => other before)
    (fun n open_ => ?_) (fun j => ?_) (fun j off => ?_)
  · exact (other (by simp only [F.BRK_S_STAT_PAIR]; omega)).trans open_
  · exact State.flag_put_bits s 0 (.inl (by simp [F.BRK_CON_USED, F.BRK_CON_ENERGISED]))
  · by_cases same : j % 28 = k % 28
    · have e : F.BRK_CON_ENERGISED j = F.BRK_CON_ENERGISED k := by simp only [F.BRK_CON_ENERGISED, same]
      rw [e]
      exact State.flag_putFlag_same s _ false (by simp [F.BRK_CON_ENERGISED]) (by simp [F.BRK_CON_ENERGISED])
    · exact (State.flag_put_addr s 0 (by simp only [F.BRK_CON_ENERGISED]; omega)).trans off

/-- A pair is shown in open drive. -/
theorem putOpen (s : State) (n : Nat) : Opening f l s (s.put (F.BRK_S_STAT_PAIR n) pairOpen) := by
  have beyond {h : Field} (after : 0x80200 ≤ h.addr) : (s.put (F.BRK_S_STAT_PAIR n) pairOpen).fld h = s.fld h :=
    State.fld_put_addr s _ fun e => by simp only [F.BRK_S_STAT_PAIR] at e; omega
  refine .ofShown rfl ⟨fun a block _ => State.rd_put_other s _ fun e => by simp only [F.BRK_S_STAT_PAIR] at e; omega⟩
    (fun h _ _ bits => State.fld_put_bits s _ bits) (fun m open_ => ?_) (fun j => ?_) (fun j off => ?_)
  · by_cases same : m % 8 = n % 8
    · have e : F.BRK_S_STAT_PAIR m = F.BRK_S_STAT_PAIR n := by simp only [F.BRK_S_STAT_PAIR, same]
      rw [e, State.fld_put_same s _ _ (by simp [F.BRK_S_STAT_PAIR])]
      rfl
    · exact (State.fld_put_addr s _ (by simp only [F.BRK_S_STAT_PAIR]; omega)).trans open_
  · exact congrArg (· == 1) (beyond (by simp only [F.BRK_CON_USED]; omega))
  · exact (congrArg (· == 1) (beyond (by simp only [F.BRK_CON_ENERGISED]; omega))).trans off

theorem armed (h : Opening f l r s) (spared : 0x70000 ∉ l := by decide) : s.armed = r.armed := h.island.flag (by decide) spared

end Opening

/-! The operations that open. -/

theorem State.setIsl_opening {l : List Nat} {s : State} {n : Nat} {x : IslandString} (h : x.paths = (s.isl n).paths := by rfl) : Opening Prt.compared l s (s.setIsl n x) :=
  .ofRecord rfl (State.isl_setIsl_kept IslandString.paths h) rfl

theorem State.noteBits_opening {l : List Nat} (s : State) (n : Nat) (tc : Tc) : Opening Prt.compared l s (s.noteBits n tc) :=
  .ite .refl State.setIsl_opening

theorem getLsbD_putBitV_false {w : Nat} (v : BitVec w) (i n : Nat) (h : v.getLsbD n = false) : (putBitV v i false).getLsbD n = false := by
  rw [putBitV, if_neg Bool.false_ne_true, BitVec.getLsbD_and, h, Bool.false_and]

theorem getLsbD_putBitV_same {w : Nat} (v : BitVec w) {i : Nat} (h : i < w) : (putBitV v i false).getLsbD i = false := by
  rw [putBitV, if_neg Bool.false_ne_true, BitVec.getLsbD_and, BitVec.getLsbD_not, BitVec.getLsbD_ofNat, Nat.testBit_two_pow_self]
  simp [h]

theorem State.disableBrk_opening {l : List Nat} (s : State) (n : Nat) : Opening Prt.compared l s (s.enableBrk n false) :=
  .ofRecord rfl (fun _ => rfl) rfl (fun m => getLsbD_putBitV_false s.prt.ch1.brk n m) (fun m => getLsbD_putBitV_false s.prt.ch2.brk n m)

theorem State.showPair_opening {l : List Nat} (s : State) (n : Nat) (tc : Tc) : Opening Prt.compared l s (s.showPair n pairOpen tc) := by
  have put : Opening Prt.compared l s (s.put (F.BRK_S_STAT_PAIR n) pairOpen) := .putOpen s n
  exact .ite .refl ((put.trans State.setIsl_opening).trans (State.noteBits_opening ..))

theorem State.openPair_opening {l : List Nat} (s : State) (n : Nat) (tc : Tc) : Opening Prt.compared l s (s.openPair n tc) :=
  .ite .refl ((s.disableBrk_opening n).trans (State.showPair_opening _ n tc))

theorem State.recCountIf_opening {l : List Nat} (s : State) (b : Bool) (i : Nat) : Opening Prt.strung l s (s.recCountIf b i) := .ofMoved (s.recCountIf_moved b i)

theorem State.truncatePulse_opening {l : List Nat} (s : State) (on : Nat → Bool) (tc : Tc) : Opening Prt.strung l s (s.truncatePulse on tc) :=
  .ofMoved (s.truncatePulse_moved on tc)

theorem State.endFault_opening {l : List Nat} (s : State) (k : Nat) : Opening Prt.strung l s (s.endFault k) := by
  have ended : Opening Prt.strung l s (s.withPrt { s.prt with conFaults := setAt s.prt.conFaults k 0 }) := .ofRecord rfl (fun _ => rfl) rfl
  exact .ite (.ite (ended.trans (.putDriver _ k _ 0 rfl (by simp [F.BRK_CON_FAULT]))) ended) .refl

theorem State.switchOff_opening {l : List Nat} (s : State) (k : Nat) (tc : Tc) : Opening Prt.strung l s (s.switchDriver k false tc) := by
  have coil : Opening Prt.strung l s (s.enableCoil k false) := .ofRecord rfl (fun _ => rfl) rfl
  have shown := (coil.trans (.putOff _ k)).trans (.putDriver _ k (F.BRK_CON_ECONOMY k) 0 rfl (by simp [F.BRK_CON_ECONOMY]))
  unfold State.switchDriver
  extract_lets u
  have counted : Opening Prt.strung l s u := shown.trans (State.recCountIf_opening ..)
  clear_value u
  have timed := counted.trans (.ofRecord (s := u.withPrt { u.prt with driverTc := setAt u.prt.driverTc k tc }) rfl (fun _ => rfl) rfl)
  exact (timed.trans (.putDriver _ k (F.BRK_CON_VERIFIED k) _ rfl (by simp [F.BRK_CON_VERIFIED]))).trans (State.endFault_opening ..)

theorem State.energiseOff_opening {l : List Nat} (s : State) (k : Nat) (tc : Tc) : Opening Prt.strung l s (s.energise k false tc) := by
  obtain ⟨u, truncated, cases⟩ := s.energise_cases k false tc
  have before : Opening Prt.strung l s u := by
    rw [truncated, if_neg Bool.false_ne_true]
    exact s.truncatePulse_opening _ tc
  rcases cases with ⟨e, -⟩ | ⟨-, -, energising⟩ | e
  · rw [e]
    exact before
  · cases energising
  · rw [e]
    exact before.trans (u.switchOff_opening k tc)

theorem State.dropContactors_opening {l : List Nat} (s : State) (n : Nat) (tc : Tc) : Opening Prt.strung l s (s.dropContactors n tc) :=
  .foldl (fun t k => t.energiseOff_opening k tc) s

theorem State.dropAll_opening {l : List Nat} (s : State) (tc : Tc) : Opening Prt.strung l s (s.dropAll tc) := .forUpTo (fun k t => t.energiseOff_opening k tc) s

/-- The strings' records aside. -/
theorem Opening.strung {l : List Nat} {r s : State} (h : Opening Prt.strung l r s) : Opening Prt.compared l r s := h.map Prod.fst

theorem Opening.compared {l : List Nat} {r s : State} (h : Opening Prt.compared l r s) : Opening Prt.latched l r s := h.map Prod.fst

theorem Opening.latched {l : List Nat} {r s : State} (h : Opening Prt.latched l r s) : Opening Prt.rest l r s := h.map Prod.fst

theorem Opening.rest {l : List Nat} {r s : State} (h : Opening Prt.rest l r s) :
    s.prt.skew = r.prt.skew ∧ s.prt.imd = r.prt.imd ∧ s.prt.imdTc = r.prt.imdTc ∧ s.prt.collapseFrom = r.prt.collapseFrom := by
  simpa [Prt.rest] using h.record

theorem Opening.channels {l : List Nat} {r s : State} (h : Opening Prt.latched l r s) :
    s.prt.ch1.latch = r.prt.ch1.latch ∧ s.prt.ch2.latch = r.prt.ch2.latch ∧ s.prt.ch1.out = r.prt.ch1.out ∧ s.prt.ch2.out = r.prt.ch2.out := by
  simpa [Prt.latched] using congrArg Prod.snd h.record

theorem Opening.instants {l : List Nat} {r s : State} (h : Opening Prt.compared l r s) : s.prt.diffTc = r.prt.diffTc ∧ s.prt.faultTc = r.prt.faultTc := by
  simpa [Prt.compared] using congrArg Prod.snd h.record

theorem State.trimTrips_opening {l : List Nat} (s : State) : Opening Prt.compared l s s.trimTrips := .ofMoved s.trimTrips_moved

theorem State.faultCoils_opening {l : List Nat} (s : State) (tc : Tc) : Opening Prt.compared l s (s.faultCoils tc) := .ite (s.dropAll_opening tc).strung .refl

end Sys2Proof.Machine
end

section
/-! Clock: one clock of the Twill and the comparison of the channels, and a step that every index of a series takes (R235, R237, R244 to R247). -/
namespace Sys2Proof.Machine

open Sys2Proof

-- Default arguments by tactic wait for the declarations before: begun all at once the proofs below would each hold a thread and its stack.
set_option Elab.async false

/-! Series of operations, one for each index. -/

/-- What each operation of a series brings about for its own index, and no other operation undoes, holds for every index after it. -/
theorem forUpTo_each {n : Nat} {op : Nat → State → State} {s : State} {I : State → Prop} {P : Nat → State → Prop} (init : I s)
    (keep : ∀ i t, I t → I (op i t)) (make : ∀ i t, i < n → I t → P i (op i t)) (stay : ∀ i j t, j < i → i < n → P j t → P j (op i t)) :
    ∀ j < n, P j (forUpTo n op s) := by
  induction n with
  | zero => exact fun j h => absurd h (Nat.not_lt_zero j)
  | succ n ih =>
    intro j h
    rw [forUpTo_succ]
    rcases Nat.lt_succ_iff_lt_or_eq.mp h with before | same
    · exact stay n j _ before (Nat.lt_succ_self n)
        (ih (fun i t below => make i t (below.trans (Nat.lt_succ_self n))) (fun i j t less below => stay i j t less (below.trans (Nat.lt_succ_self n))) j before)
    · rw [same]
      exact make n _ (Nat.lt_succ_self n) (forUpTo_keeps init keep)

/-- Every pair of an armed island is ordered open (R234). -/
theorem State.openPairs_open {s : State} (tc : Tc) (armed : s.armed = true) :
    ∀ n < 8, (forUpTo 8 (fun n s => s.openPair n tc) s).fld (F.BRK_S_STAT_PAIR n) = pairOpen :=
  forUpTo_each (I := fun t => t.armed = true) (P := fun n t => t.fld (F.BRK_S_STAT_PAIR n) = pairOpen) armed
    (fun i t h => ((t.openPair_opening (l := []) i tc).armed).trans h) (fun i t _ h => t.openPair_opens i tc h)
    (fun i j t _ _ => (t.openPair_opening (l := []) i tc).pair j)

theorem State.openPairs_opening {l : List Nat} (s : State) (tc : Tc) : Opening Prt.compared l s (forUpTo 8 (fun n s => s.openPair n tc) s) :=
  .forUpTo (fun n t => t.openPair_opening n tc) s

/-- Every used driver is ordered off. -/
theorem State.dropAll_off {s : State} (tc : Tc) : ∀ k < 28, s.conUsed k = true → (s.dropAll tc).flag (F.BRK_CON_ENERGISED k) = false :=
  forUpTo_each (I := fun t => ∀ k, t.conUsed k = s.conUsed k) (P := fun k t => s.conUsed k = true → t.flag (F.BRK_CON_ENERGISED k) = false) (fun _ => rfl)
    (fun i t h k => ((t.energiseOff_opening (l := []) i tc).used k).trans (h k)) (fun i _ _ h used => State.energise_off tc ((h i).trans used))
    (fun i j t _ _ h used => (t.energiseOff_opening (l := []) i tc).off j (h used))

/-! A clock of the Twill. -/

/-- The inputs as channel 1 sees them with inputs active for this clock alone. -/
def State.clockInputs (s : State) (pulse : BitVec 64) : BitVec 64 := s.twillInputs ||| pulse

/-- The latches of the channels after the clock (R246). -/
def State.clockLatch1 (s : State) (pulse : BitVec 64) : BitVec 20 := s.latchOf s.prt.ch1 (s.clockInputs pulse)
def State.clockLatch2 (s : State) (pulse : BitVec 64) : BitVec 20 := s.latchOf s.prt.ch2 (s.clockInputs pulse ^^^ s.prt.skew)

/-- The outputs on the clock, of either channel, and those that stay. -/
def State.clockNow (s : State) (pulse : BitVec 64) : BitVec 20 :=
  s.outOf (s.clockLatch1 pulse) (s.clockInputs pulse) ||| s.outOf (s.clockLatch2 pulse) (s.clockInputs pulse ^^^ s.prt.skew)
def State.clockOut1 (s : State) (pulse : BitVec 64) : BitVec 20 := s.outOf (s.clockLatch1 pulse) s.twillInputs
def State.clockOut2 (s : State) (pulse : BitVec 64) : BitVec 20 := s.outOf (s.clockLatch2 pulse) (s.twillInputs ^^^ s.prt.skew)
def State.clockOut (s : State) (pulse : BitVec 64) : BitVec 20 := s.clockOut1 pulse ||| s.clockOut2 pulse

/-- The outputs before the clock. -/
def State.outBefore (s : State) : BitVec 20 := BitVec.ofNat 20 (s.fld F.PRT_TWILL_OUT_Y)

/-- The latches, the outputs and their instants are set. -/
def State.clocked (s : State) (pulse : BitVec 64) (tc : Tc) : State :=
  let x1 := s.clockInputs pulse
  let sets := s.outputsOf (x1 &&& s.latchClass) ||| s.outputsOf ((x1 ^^^ s.prt.skew) &&& s.latchClass)
  s.withPrt { s.prt with
    ch1 := { s.prt.ch1 with latch := s.clockLatch1 pulse, out := s.clockOut1 pulse }
    ch2 := { s.prt.ch2 with latch := s.clockLatch2 pulse, out := s.clockOut2 pulse }
    latchTc := (List.range 20).foldl (fun l j => if sets.getLsbD j then setAt l j tc else l) s.prt.latchTc
    auxTc := (List.range 4).foldl (fun l a => if (s.clockNow pulse).getLsbD (16 + a) && !s.outBefore.getLsbD (16 + a) then setAt l a tc else l) s.prt.auxTc }

theorem State.clocked_channels (s : State) (pulse : BitVec 64) (tc : Tc) :
    (s.clocked pulse tc).prt.ch1.latch = s.clockLatch1 pulse ∧ (s.clocked pulse tc).prt.ch2.latch = s.clockLatch2 pulse ∧
    (s.clocked pulse tc).prt.ch1.out = s.clockOut1 pulse ∧ (s.clocked pulse tc).prt.ch2.out = s.clockOut2 pulse := ⟨rfl, rfl, rfl, rfl⟩

/-- An auxiliary driver follows its output (R245). -/
def State.auxFollows (before now : BitVec 20) (tc : Tc) (a : Nat) (s : State) : State :=
  if now.getLsbD (16 + a) && (!before.getLsbD (16 + a) || s.flag (F.BRK_CON_ENERGISED (24 + a))) then s.energise (24 + a) false tc else s

/-- The inputs and the outputs of the clock are shown, and the strings obey the outputs. -/
def State.stringsObey (s : State) (steady x : BitVec 64) (before now : BitVec 20) (tc : Tc) : State :=
  let s := (s.put F.PRT_TWILL_IN_LO_X steady.toNat).put F.PRT_TWILL_IN_HI_X (steady.toNat / 2 ^ 32)
  let s := s.put F.PRT_TWILL_OUT_Y now.toNat
  forUpTo 8 (fun n s => s.twillString n before now x tc) s

/-- Strings and auxiliary drivers obey the outputs of the clock. -/
def State.obeys (s : State) (steady x : BitVec 64) (before now : BitVec 20) (tc : Tc) : State :=
  forUpTo 4 (State.auxFollows before now tc) (s.stringsObey steady x before now tc)

/-- The outputs that stay are shown. -/
def State.outShown (s : State) (out : BitVec 20) : State :=
  (forUpTo 8 (fun n s => s.endDrop n out) (s.trimTrips.put F.PRT_TWILL_OUT_Y out.toNat)).trimTrips

/-- The state in which a clock of the Twill compares the channels. -/
def State.clockDone (s : State) (pulse : BitVec 64) (tc : Tc) : State :=
  if s.armed then ((s.clocked pulse tc).obeys s.twillInputs (s.clockInputs pulse ||| (s.clockInputs pulse ^^^ s.prt.skew)) s.outBefore (s.clockNow pulse) tc).outShown
    (s.clockOut pulse) else s

theorem State.twill_unarmed {s : State} (pulse : BitVec 64) (tc : Tc) (unarmed : s.armed = false) : s.twill pulse tc = s := if_pos (by rw [unarmed]; rfl)

theorem State.twill_armed {s : State} (pulse : BitVec 64) (tc : Tc) (armed : s.armed = true) : s.twill pulse tc = (s.clockDone pulse tc).compareChannels tc := by
  rw [State.clockDone, if_pos armed]
  exact if_neg (by rw [armed]; decide)

/-! What a clock leaves. -/

/-- The objects of block 7 that the Twill writes before it compares the channels. -/
def clockObjs : List Nat := [0x70004, 0x70010, 0x70014, 0x70018, 0x7001c]

/-- With PRT_STAT and the count of DISC. -/
def twillObjs : List Nat := [0x70000, 0x70004, 0x70008, 0x70010, 0x70014, 0x70018, 0x7001c]

theorem State.seeTrip_opening {l : List Nat} (s : State) (n : Nat) (tc : Tc) (cause : BitVec 64) (flag : 0x70004 ∈ l := by decide) (count : 0x70010 ∈ l := by decide) :
    Opening Prt.compared l s (s.seeTrip n tc cause) := by
  unfold State.seeTrip
  extract_lets x closed heldBuf u
  have noted : Opening Prt.compared l s u := State.setIsl_opening
  exact noted.trans (.ite (.eventIsland u Ev.PRT_CAP_MISSED (by decide) ⟨flag, count⟩) .refl)

theorem State.endDrop_opening {l : List Nat} (s : State) (n : Nat) (now : BitVec 20) : Opening Prt.compared l s (s.endDrop n now) :=
  .ite State.setIsl_opening .refl

theorem State.twillString_opening (s : State) (n : Nat) (before now : BitVec 20) (x : BitVec 64) (tc : Tc) :
    Opening Prt.compared clockObjs s (s.twillString n before now x tc) := by
  unfold State.twillString
  extract_lets act was st _ u v w y
  have seen : Opening Prt.compared clockObjs s u := State.setIsl_opening
  have tripped : Opening Prt.compared clockObjs u v := .ite (State.seeTrip_opening ..) .refl
  have truncated : Opening Prt.compared clockObjs w y := .ite (State.truncatePulse_opening ..).strung .refl
  have opened := ((seen.trans tripped).trans (State.openPair_opening v n tc)).trans truncated
  exact .ite .refl (.ite (.ite (opened.trans State.setIsl_opening) (opened.trans (State.dropContactors_opening ..).strung)) opened)

theorem State.auxFollows_opening {l : List Nat} (before now : BitVec 20) (tc : Tc) (a : Nat) (s : State) :
    Opening Prt.compared l s (State.auxFollows before now tc a s) := .ite (State.energiseOff_opening ..).strung .refl

theorem State.stringsObey_opening (s : State) (steady x : BitVec 64) (before now : BitVec 20) (tc : Tc) :
    Opening Prt.compared clockObjs s (s.stringsObey steady x before now tc) :=
  (((Opening.putIsland s F.PRT_TWILL_IN_LO_X _).trans (.putIsland _ F.PRT_TWILL_IN_HI_X _)).trans (.putIsland _ F.PRT_TWILL_OUT_Y _)).trans
    (.forUpTo (fun n t => t.twillString_opening n before now x tc) _)

theorem State.obeys_opening (s : State) (steady x : BitVec 64) (before now : BitVec 20) (tc : Tc) :
    Opening Prt.compared clockObjs s (s.obeys steady x before now tc) :=
  (s.stringsObey_opening steady x before now tc).trans (.forUpTo (State.auxFollows_opening before now tc) _)

theorem State.outShown_opening (s : State) (out : BitVec 20) : Opening Prt.compared clockObjs s (s.outShown out) :=
  ((s.trimTrips_opening.trans (.putIsland _ F.PRT_TWILL_OUT_Y _)).trans (.forUpTo (fun n t => t.endDrop_opening n out) _)).trans (State.trimTrips_opening _)

/-- Up to the comparison of the channels the latches, the outputs and a difference stay as the clock set them. -/
theorem State.clockDone_opening {s : State} (pulse : BitVec 64) (tc : Tc) (armed : s.armed = true) :
    Opening Prt.compared clockObjs (s.clocked pulse tc) (s.clockDone pulse tc) := by
  rw [State.clockDone, if_pos armed]
  exact (State.obeys_opening ..).trans (State.outShown_opening ..)

theorem State.clocked_opening {l : List Nat} (s : State) (pulse : BitVec 64) (tc : Tc) : Opening Prt.rest l s (s.clocked pulse tc) := .ofRecord rfl (fun _ => rfl) rfl

/-! The comparison of the channels. -/

/-- A difference begins, and is over (R235); an island fault has its instant (R237). -/
def State.differed (s : State) (tc : Tc) : State := s.withPrt { s.prt with diffTc := some tc }
def State.agreed (s : State) : State := s.withPrt { s.prt with diffTc := none }
def State.faultedAt (s : State) (tc : Tc) : State := s.withPrt { s.prt with faultTc := tc }

@[simp] theorem State.agreed_fld (s : State) (g : Field) : s.agreed.fld g = s.fld g := rfl
@[simp] theorem State.agreed_rd (s : State) (a : Nat) : s.agreed.rd a = s.rd a := rfl
@[simp] theorem State.faultedAt_fld (s : State) (tc : Tc) (g : Field) : (s.faultedAt tc).fld g = s.fld g := rfl

theorem State.differed_opening {l : List Nat} (s : State) (tc : Tc) : Opening Prt.latched l s (s.differed tc) := .ofRecord rfl (fun _ => rfl) rfl
theorem State.agreed_opening {l : List Nat} (s : State) : Opening Prt.latched l s s.agreed := .ofRecord rfl (fun _ => rfl) rfl
theorem State.faultedAt_opening {l : List Nat} (s : State) (tc : Tc) : Opening Prt.latched l s (s.faultedAt tc) := .ofRecord rfl (fun _ => rfl) rfl

/-- An island fault as it is shown, before the contactors and the trimmers follow (R237). -/
def State.islandFaultShown (s : State) (tc : Tc) : State := ((forUpTo 8 (fun n s => s.openPair n tc) s).put F.PRT_STAT_ISL_FAULT 1).faultedAt tc

theorem State.islandFault_follows {l : List Nat} (s : State) (tc : Tc) : Opening Prt.compared l (s.islandFaultShown tc) (s.islandFault tc) :=
  (State.faultCoils_opening _ tc).trans (State.trimTrips_opening _)

theorem State.islandFault_opening (s : State) (tc : Tc) : Opening Prt.latched [0x70000] s (s.islandFault tc) :=
  (((s.openPairs_opening tc).compared.trans (.putIsland _ F.PRT_STAT_ISL_FAULT 1)).trans (State.faultedAt_opening _ tc)).trans (s.islandFault_follows tc).compared

theorem State.noteAll_opening {l : List Nat} (s : State) (tc : Tc) : Opening Prt.compared l s (forUpTo 8 (fun n s => s.noteBits n tc) s) :=
  .forUpTo (fun n t => t.noteBits_opening n tc) s

theorem State.channelsAgree_follows {l : List Nat} (s : State) (short : Bool) (tc : Tc) :
    Opening Prt.compared l (s.agreed.eventIf short Ev.PRT_DISC) (s.channelsAgree short tc) := State.noteAll_opening _ tc

theorem State.channelsAgree_opening (s : State) (short : Bool) (tc : Tc) : Opening Prt.latched [0x70004, 0x70008] s (s.channelsAgree short tc) :=
  (s.agreed_opening.trans (.ite (.eventIsland _ Ev.PRT_DISC) .refl)).trans (s.channelsAgree_follows short tc).compared

theorem State.compareChannels_alike {s : State} (tc : Tc) (alike : s.prt.diffTc = none) :
    s.compareChannels tc = if s.prt.differ then forUpTo 8 (fun n s => s.noteBits n tc) (s.differed tc) else s := by
  rw [State.compareChannels, alike]
  rfl

/-- The state of a comparison once a difference that has lasted 100 clocks is an island fault (R235). -/
def State.faultedIf (s : State) (long : Bool) (tc : Tc) : State := if long && !s.flag F.PRT_STAT_ISL_FAULT then s.islandFault tc else s

theorem State.compareChannels_differed {s : State} {t : Tc} (tc : Tc) (since : s.prt.diffTc = some t) : s.compareChannels tc =
    if (s.faultedIf (passed tc t 250) tc).prt.differ then s.faultedIf (passed tc t 250) tc
    else (s.faultedIf (passed tc t 250) tc).channelsAgree (!passed tc t 250) tc := by
  rw [State.compareChannels, since]
  rfl

theorem State.compareChannels_opening (s : State) (tc : Tc) : Opening Prt.latched [0x70000, 0x70004, 0x70008] s (s.compareChannels tc) := by
  cases since : s.prt.diffTc with
  | none =>
    rw [State.compareChannels_alike tc since]
    exact .ite ((s.differed_opening tc).trans (State.noteAll_opening _ tc).compared) .refl
  | some t =>
    have faulted : Opening Prt.latched [0x70000, 0x70004, 0x70008] s (s.faultedIf (passed tc t 250) tc) :=
      .ite (Opening.refl.andThen (s.islandFault_opening tc)) .refl
    rw [State.compareChannels_differed tc since]
    exact .ite faulted (faulted.andThen (State.channelsAgree_opening ..))

/-- What a whole clock leaves of the state that its latches are set in. -/
theorem State.twill_latched {s : State} (pulse : BitVec 64) (tc : Tc) (armed : s.armed = true) :
    Opening Prt.latched twillObjs (s.clocked pulse tc) (s.twill pulse tc) := by
  rw [State.twill_armed pulse tc armed]
  exact (Opening.refl.andThen (State.clockDone_opening pulse tc armed).compared).andThen (State.compareChannels_opening ..)

/-- What a whole clock leaves. -/
theorem State.twill_opening (s : State) (pulse : BitVec 64) (tc : Tc) : Opening Prt.rest twillObjs s (s.twill pulse tc) := by
  cases armed : s.armed
  · rw [State.twill_unarmed pulse tc armed]
    exact .refl
  · exact (s.clocked_opening pulse tc).trans (State.twill_latched pulse tc armed).latched

end Sys2Proof.Machine
end

section
/-! Paths: direct and filtered paths, the comparison of the channels as commands reach it, and the removal loop (R234 to R240, R245, R261, R269). -/
namespace Sys2Proof.Machine

open Sys2Proof

-- Default arguments by tactic wait for the declarations before: begun all at once the proofs below would each hold a thread and its stack.
set_option Elab.async false

/-! Direct latches (R239). -/

/-- The latch of a direct path, and the enables of the breaker drivers by its channel (R234, R239). -/
def IslandString.latchOf (x : IslandString) : DirectPath → Option Tc
  | .sc => x.sc
  | .oc => x.oc
def Prt.enables (p : Prt) : DirectPath → BitVec 8
  | .sc => p.ch1.brk
  | .oc => p.ch2.brk

/-- The record of a string with a direct latch set, or cleared. -/
def IslandString.withLatch (x : IslandString) (o : Option Tc) : DirectPath → IslandString
  | .sc => { x with sc := o }
  | .oc => { x with oc := o }

theorem Opening.enables {α : Type} {f : Prt → α} {l : List Nat} {r s : State} (h : Opening f l r s) (path : DirectPath) {n : Nat}
    (cut : (r.prt.enables path).getLsbD n = false) : (s.prt.enables path).getLsbD n = false := by
  cases path
  case sc => exact h.cut1 n cut
  case oc => exact h.cut2 n cut

theorem State.cutPair_opening {l : List Nat} (s : State) (n : Nat) (path : DirectPath) (tc : Tc) : Opening Prt.compared l s (s.cutPair n path tc) := by
  refine .ite .refl ?_
  cases path
  case sc =>
    have cut : Opening Prt.compared l s (s.withPrt { s.prt with ch1 := { s.prt.ch1 with brk := putBitV s.prt.ch1.brk n false } }) :=
      .ofRecord rfl (fun _ => rfl) rfl (fun m => getLsbD_putBitV_false s.prt.ch1.brk n m)
    exact cut.trans (State.showPair_opening _ n tc)
  case oc =>
    have cut : Opening Prt.compared l s (s.withPrt { s.prt with ch2 := { s.prt.ch2 with brk := putBitV s.prt.ch2.brk n false } }) :=
      .ofRecord rfl (fun _ => rfl) rfl (fun _ => id) (fun m => getLsbD_putBitV_false s.prt.ch2.brk n m)
    exact cut.trans (State.showPair_opening _ n tc)

theorem State.showPair_opens (s : State) (n : Nat) (tc : Tc) : (s.showPair n pairOpen tc).fld (F.BRK_S_STAT_PAIR n) = pairOpen := by
  rw [State.showPair]
  split
  next already => exact beq_iff_eq.mp already
  next =>
    rw [(State.noteBits_moved _ n tc).fld 8 (by simp only [F.BRK_S_STAT_PAIR]; omega), State.setIsl_fld,
      State.fld_put_same _ _ _ (by simp [F.BRK_S_STAT_PAIR])]
    rfl

/-- The pair is in open drive, and the enable of the path's own channel is gone (R234, R239). -/
theorem State.cutPair_cuts {s : State} (n : Fin 8) (path : DirectPath) (tc : Tc) (armed : s.armed = true) :
    (s.cutPair n path tc).fld (F.BRK_S_STAT_PAIR n) = pairOpen ∧ ((s.cutPair n path tc).prt.enables path).getLsbD n = false := by
  unfold State.cutPair
  rw [if_neg (by rw [armed]; decide)]
  refine ⟨State.showPair_opens .., (State.showPair_opening (l := []) _ n tc).enables path ?_⟩
  cases path
  case sc => exact getLsbD_putBitV_same s.prt.ch1.brk n.isLt
  case oc => exact getLsbD_putBitV_same s.prt.ch2.brk n.isLt

/-- The objects of a string that hold its trip record (R261). -/
def recordObjs (n : Nat) : List Nat :=
  [0x70120 + 0x40 * (n % 8), 0x70124 + 0x40 * (n % 8), 0x70128 + 0x40 * (n % 8), 0x7012c + 0x40 * (n % 8), 0x70130 + 0x40 * (n % 8), 0x70134 + 0x40 * (n % 8)]

theorem State.pruneLock_opening (s : State) (n : Nat) (tc : Tc) : Opening Prt.compared (recordObjs n) s (s.pruneLock n tc) := by
  have kept : Opening Prt.compared (recordObjs n) s
      (s.setIsl n { s.isl n with direct := (s.isl n).direct.filter fun t => decide ((tc - t).toNat < s.prtBank 19 1 * minuteTicks) }) := State.setIsl_opening
  exact kept.trans (.putIsland _ (F.PRT_S_CAP_STAT_LOCK_CNT n) _ (by simp only [F.PRT_S_CAP_STAT_LOCK_CNT]; omega) (by simp [recordObjs, F.PRT_S_CAP_STAT_LOCK_CNT]))

theorem State.tripRecord_opening (s : State) (n : Nat) (at_ : Tc) (cause : BitVec 64) : Opening Prt.compared (recordObjs n) s (s.tripRecord n at_ cause) := by
  unfold State.tripRecord
  extract_lets x u v w
  have timed : Opening Prt.compared (recordObjs n) s (s.wr64 (F.PRT_S_TRIP_TC_LO_VALUE n).addr at_) :=
    .wrIsland64 s _ at_ (by simp only [F.PRT_S_TRIP_TC_LO_VALUE]; omega) ⟨by simp [recordObjs, F.PRT_S_TRIP_TC_LO_VALUE],
      by simp only [recordObjs, F.PRT_S_TRIP_TC_LO_VALUE, List.mem_cons]; omega⟩
  have caused : Opening Prt.compared (recordObjs n) s u := timed.trans
    (.wrIsland64 _ _ cause (by simp only [F.PRT_S_TRIP_CAUSE_LO_VALUE]; omega) ⟨by simp [recordObjs, F.PRT_S_TRIP_CAUSE_LO_VALUE],
      by simp only [recordObjs, F.PRT_S_TRIP_CAUSE_LO_VALUE, List.mem_cons]; omega⟩)
  have place : (F.PRT_S_TRIP_INFO_CNT n).addr / 0x10000 = 7 ∧ (F.PRT_S_TRIP_INFO_CNT n).addr ∈ recordObjs n :=
    ⟨by simp only [F.PRT_S_TRIP_INFO_CNT]; omega, by simp [recordObjs, F.PRT_S_TRIP_INFO_CNT]⟩
  have counted : Opening Prt.compared (recordObjs n) u v := (Opening.putIsland u (F.PRT_S_TRIP_INFO_BRK_TIME n) _ place.1 place.2).trans
    (.putIsland _ (F.PRT_S_TRIP_INFO_CNT n) _ place.1 place.2)
  have taken : Opening Prt.compared (recordObjs n) v w := State.setIsl_opening
  exact ((caused.trans counted).trans taken).trans (State.pruneLock_opening w n at_)

/-- The objects of block 7 that a direct trip may write. -/
def directObjs (n : Nat) : List Nat := twillObjs ++ recordObjs n

/-- An active direct path latches, cuts its channel's enable, and leaves that to what follows (R239). -/
theorem State.directTrip_opening {s : State} {n : Fin 8} {path : DirectPath} {i : BitVec 12} (tc : Tc) (armed : s.armed = true) (declared : s.declared n = true)
    (active : s.directActive n path i = true) :
    Opening Prt.rest (directObjs n) ((s.setIsl n ((s.isl n).withLatch (some tc) path)).cutPair n path tc) (s.directTrip n path i tc) := by
  unfold State.directTrip
  rw [if_neg (by rw [armed, declared, active]; decide)]
  extract_lets x was u v
  have latched : u = s.setIsl n ((s.isl n).withLatch (some tc) path) := by
    cases path <;> rfl
  have clocked : Opening Prt.rest (directObjs n) ((s.setIsl n ((s.isl n).withLatch (some tc) path)).cutPair n path tc) v :=
    latched ▸ Opening.refl.andThen (State.twill_opening _ 0 tc) (List.subset_append_left ..)
  have seen := State.seeTrip_opening v n tc (v.twillInputs &&& v.stringMask n) (l := directObjs n) (List.mem_append_left _ (by decide)) (List.mem_append_left _ (by decide))
  exact .ite (clocked.trans (seen.andThen (State.tripRecord_opening ..) (List.subset_append_right ..)).compared.latched) clocked

theorem exec_scOcCrossing (n : Fin 8) (path : DirectPath) (i : BitVec 12) (tc : Tc) (s : State) :
    exec (.scOcCrossing n path ⟨i, tc⟩) s = .next (s.directTrip n path i tc) := rfl

/-- What an active direct path shows: its latch alone is set, its channel's enable is gone, and the pair is in open drive. -/
theorem State.directTrip_shows {s : State} {n : Fin 8} {path : DirectPath} {i : BitVec 12} (tc : Tc) (sized : s.prt.Sized) (armed : s.armed = true)
    (declared : s.declared n = true) (active : s.directActive n path i = true) :
    ((s.directTrip n path i tc).isl n).paths = ((s.isl n).withLatch (some tc) path).paths ∧ ((s.directTrip n path i tc).prt.enables path).getLsbD n = false ∧
    (s.directTrip n path i tc).fld (F.BRK_S_STAT_PAIR n) = pairOpen := by
  have after := State.directTrip_opening tc armed declared active
  have latched := State.isl_setIsl_same sized n ((s.isl n).withLatch (some tc) path)
  obtain ⟨open_, cut⟩ := State.cutPair_cuts (s := s.setIsl n ((s.isl n).withLatch (some tc) path)) n path tc armed
  have kept := (State.cutPair_opening (l := []) (s.setIsl n ((s.isl n).withLatch (some tc) path)) n path tc).paths n
  rw [latched] at kept
  exact ⟨(after.paths n).trans kept, after.enables path cut, after.pair n open_⟩

theorem State.directTrip_inactive {s : State} {n : Nat} {path : DirectPath} {i : BitVec 12} (tc : Tc) (inactive : s.directActive n path i = false) :
    s.directTrip n path i tc = s := if_pos (by rw [inactive]; simp)

/-- A latch that has been set for 40 ns clears at an inactive clock (R239). -/
theorem exec_directLatchClear_old {s : State} {n : Fin 8} {path : DirectPath} {tc t : Tc} (set : (s.isl n).latchOf path = some t) (old : passed tc t 10 = true) :
    exec (.directLatchClear n path tc) s = .next ((s.setIsl n ((s.isl n).withLatch none path)).twill 0 tc) := by
  change execDirectLatchClear n path tc s = _
  cases path
  case sc =>
    have sc : (s.isl n).sc = some t := set
    simp only [execDirectLatchClear, sc, old, if_true]
    rfl
  case oc =>
    have oc : (s.isl n).oc = some t := set
    simp only [execDirectLatchClear, oc, old, if_true]
    rfl

/-- What a clock of the Twill leaves of the record of a string that was just given. -/
theorem State.twill_setIsl {s : State} (sized : s.prt.Sized) (n : Fin 8) (x : IslandString) (pulse : BitVec 64) (tc : Tc) :
    (((s.setIsl n x).twill pulse tc).isl n).paths = x.paths :=
  ((State.twill_opening _ pulse tc).paths n).trans (congrArg IslandString.paths (State.isl_setIsl_same sized n x))

/-! Filtered paths (R240). -/

/-- A filtered path's Twill input, and the last inactive clock of its raw comparator. -/
def IslandString.withInput (x : IslandString) (b : Bool) : FilteredPath → IslandString
  | .foc => { x with foc := b }
  | .didt => { x with didt := b }
def IslandString.withCount (x : IslandString) (tc : Tc) : FilteredPath → IslandString
  | .foc => { x with focTc := tc }
  | .didt => { x with didtTc := tc }

theorem State.setFiltered_live {s : State} {n : Nat} (path : FilteredPath) (b : Bool) (tc : Tc) (armed : s.armed = true) (declared : s.declared n = true) :
    s.setFiltered n path b tc = (s.setIsl n ((s.isl n).withInput b path)).twill 0 tc := by
  unfold State.setFiltered
  rw [if_neg (by rw [armed, declared]; decide)]
  cases path <;> rfl

theorem State.restartCount_eq (s : State) (n : Nat) (path : FilteredPath) (tc : Tc) : s.restartCount n path tc = s.setIsl n ((s.isl n).withCount tc path) := by
  cases path <;> rfl

/-- A filtered path that has been active for its filter length sets its input. -/
theorem exec_filteredPathExpiry_long {s : State} {n : Fin 8} {path : FilteredPath} {i : BitVec 12} {tc : Tc} (armed : s.armed = true) (declared : s.declared n = true)
    (active : s.filteredActive n path i = true) (long : s.filterLen n path ≤ s.filterCount n path tc) :
    exec (.filteredPathExpiry n path ⟨i, tc⟩) s = .next ((s.setIsl n ((s.isl n).withInput true path)).twill 0 tc) := by
  rw [← State.setFiltered_live path true tc armed declared]
  exact congrArg Host.Outcome.next (if_pos (by rw [active, decide_eq_true long]; rfl))

/-- An inactive clock ends the input and restarts the count. -/
theorem exec_filteredPathInactive {s : State} {n : Fin 8} {path : FilteredPath} {tc : Tc} (sized : s.prt.Sized) (armed : s.armed = true) (declared : s.declared n = true) :
    ∃ t, exec (.filteredPathInactive n path tc) s = .next t ∧ (t.isl n).paths = (((s.isl n).withCount tc path).withInput false path).paths := by
  have counted : (s.setIsl n ((s.isl n).withCount tc path)).prt.Sized := ⟨(length_setAt ..).trans sized.1, sized.2⟩
  refine ⟨_, rfl, ?_⟩
  rw [State.restartCount_eq, State.setFiltered_live (s := s.setIsl n ((s.isl n).withCount tc path)) path false tc armed declared, State.twill_setIsl counted,
    State.isl_setIsl_same sized]

/-! The channels differ, and agree again (R235, R237). -/

/-- From this clock channel 2 sees the inputs of `skew` otherwise. -/
def State.skewed (s : State) (skew : BitVec 64) : State := s.withPrt { s.prt with skew := skew }

/-- The channels are compared after a clock of the Twill, where the island is armed. -/
theorem exec_islandFault (s : State) (skew : BitVec 64) (tc : Tc) :
    exec (.islandFault ⟨skew, tc⟩) s = .next (((s.skewed skew).clockDone 0 tc).compareChannels tc) := by
  change execIslandFault ⟨skew, tc⟩ s = _
  cases armed : (s.skewed skew).armed
  · rw [State.clockDone, if_neg (by rw [armed]; decide)]
    exact congrArg Host.Outcome.next (if_neg (by rw [← Bool.not_eq_true] at armed; exact armed))
  · rw [← State.twill_armed 0 tc armed]
    exact congrArg Host.Outcome.next (if_pos armed)

/-- What a clock before the comparison leaves beside the latches and outputs: the skew, a difference noted before, PRT_STAT and the count of DISC. -/
theorem State.clockDone_keeps (s : State) (pulse : BitVec 64) (tc : Tc) :
    (s.clockDone pulse tc).prt.skew = s.prt.skew ∧ (s.clockDone pulse tc).prt.diffTc = s.prt.diffTc ∧
    (s.clockDone pulse tc).rd 0x70000 = s.rd 0x70000 ∧ (s.clockDone pulse tc).rd 0x70008 = s.rd 0x70008 := by
  cases armed : s.armed
  · rw [State.clockDone, if_neg (by rw [armed]; decide)]
    exact ⟨rfl, rfl, rfl, rfl⟩
  · have done := State.clockDone_opening pulse tc armed
    exact ⟨done.compared.latched.rest.1, done.instants.1, done.island.rd _ rfl (by decide), done.island.rd _ rfl (by decide)⟩

theorem Prt.differ_of_skew {p : Prt} (h : p.skew ≠ 0) : p.differ = true := by
  unfold Prt.differ
  rw [bne_iff_ne.mpr h]
  rfl

/-- A difference begins: it is noted with its instant, and nothing of the objects changes. -/
theorem State.compareChannels_begins {s : State} (tc : Tc) (alike : s.prt.diffTc = none) (differ : s.prt.differ = true) :
    (s.compareChannels tc).prt.skew = s.prt.skew ∧ (s.compareChannels tc).prt.diffTc = some tc ∧ (s.compareChannels tc).rd 0x70000 = s.rd 0x70000 := by
  rw [State.compareChannels_alike tc alike, if_pos differ]
  have noted := (s.differed tc).noteAll_opening (l := []) tc
  exact ⟨noted.compared.latched.rest.1, noted.instants.1, noted.island.rd _ rfl (by decide)⟩

/-- What an island fault shows: ISL_FAULT, its instant, and on an armed island every pair in open drive. -/
def State.FaultSeen (s : State) (armed : Bool) (tc : Tc) : Prop :=
  s.fld F.PRT_STAT_ISL_FAULT = 1 ∧ s.prt.faultTc = tc ∧ (armed = true → ∀ n < 8, s.fld (F.BRK_S_STAT_PAIR n) = pairOpen)

theorem State.islandFault_seen (s : State) (tc : Tc) : (s.islandFault tc).FaultSeen s.armed tc := by
  have follows := s.islandFault_follows (l := []) tc
  have shown (g : Field) : (s.islandFaultShown tc).fld g = ((forUpTo 8 (fun n s => s.openPair n tc) s).put F.PRT_STAT_ISL_FAULT 1).fld g := State.faultedAt_fld ..
  refine ⟨follows.island.fld.trans ?_, follows.instants.2, fun armed n h => follows.pair n ?_⟩
  · rw [shown, State.fld_put_same _ _ _ (by decide)]
    rfl
  · rw [shown, State.fld_put_addr _ _ (by simp only [F.BRK_S_STAT_PAIR, F.PRT_STAT_ISL_FAULT]; omega), State.openPairs_open tc armed n h]

/-- The agreement of the channels leaves an island fault as it is shown. -/
theorem State.FaultSeen.agree {s : State} {armed : Bool} {tc : Tc} (h : s.FaultSeen armed tc) : (s.channelsAgree false tc).FaultSeen armed tc := by
  obtain ⟨shown, since, pairs⟩ := h
  have follows := s.channelsAgree_follows (l := []) false tc
  have agreed : Opening Prt.latched [] s s.agreed := s.agreed_opening
  exact ⟨follows.island.fld.trans shown, follows.instants.2.trans since, fun on n h => follows.pair n (agreed.pair n (pairs on n h))⟩

/-- A difference of 100 clocks is an island fault. -/
theorem State.compareChannels_faults {s : State} {t : Tc} (tc : Tc) (since : s.prt.diffTc = some t) (long : passed tc t 250 = true)
    (sound : s.flag F.PRT_STAT_ISL_FAULT = false) : (s.compareChannels tc).FaultSeen s.armed tc := by
  have faulted : s.faultedIf true tc = s.islandFault tc := if_pos (by rw [sound]; rfl)
  rw [State.compareChannels_differed tc since, long, faulted]
  split
  · exact s.islandFault_seen tc
  · exact (s.islandFault_seen tc).agree

/-- A shorter difference that ends sets DISC. -/
theorem State.compareChannels_short {s : State} {t : Tc} (tc : Tc) (since : s.prt.diffTc = some t) (short : passed tc t 250 = false) (alike : s.prt.differ = false) :
    (s.compareChannels tc).prt.diffTc = none ∧ (s.compareChannels tc).rd 0x70000 = s.rd 0x70000 ∧ Raised Ev.PRT_DISC s (s.compareChannels tc) := by
  have sound : s.faultedIf false tc = s := rfl
  have follows : Opening Prt.compared [] (s.agreed.event Ev.PRT_DISC) (s.channelsAgree true tc) := s.channelsAgree_follows true tc
  rw [State.compareChannels_differed tc since, short, sound, if_neg (by rw [alike]; decide), Bool.not_false]
  obtain ⟨flag, count⟩ := s.agreed.event_raised Ev.PRT_DISC (by decide)
  refine ⟨follows.instants.1, ?_, follows.island.fld.trans flag, ?_⟩
  · rw [follows.island.rd _ rfl (by decide), State.rd_event_other _ (by decide) (by decide), State.agreed_rd]
  · rw [follows.island.fld, count, State.agreed_fld]

/-- Channels with equal latches that see the same inputs do not differ after a clock. -/
theorem State.clockDone_alike {s : State} (pulse : BitVec 64) (tc : Tc) (armed : s.armed = true) (latches : s.prt.ch1.latch = s.prt.ch2.latch)
    (noSkew : s.prt.skew = 0) : (s.clockDone pulse tc).prt.differ = false := by
  have same (x : BitVec 64) : x ^^^ s.prt.skew = x := by rw [noSkew]; exact BitVec.xor_zero
  have latch : s.clockLatch1 pulse = s.clockLatch2 pulse := by rw [State.clockLatch1, State.clockLatch2, same, State.latchOf, State.latchOf, latches]
  have out : s.clockOut1 pulse = s.clockOut2 pulse := by rw [State.clockOut1, State.clockOut2, same, latch]
  have done := State.clockDone_opening pulse tc armed
  obtain ⟨latch1, latch2, out1, out2⟩ := done.compared.channels
  obtain ⟨clock1, clock2, shown1, shown2⟩ := s.clocked_channels pulse tc
  have skew : (s.clockDone pulse tc).prt.skew = 0 := done.compared.latched.rest.1.trans noSkew
  rw [Prt.differ, skew, latch1, latch2, out1, out2, clock1, clock2, shown1, shown2, latch, out]
  simp

/-- Settles O26: a path's command gives the string's record and lets the Twill follow, which leaves the record; the comparison of the channels is one of its three
rows; an order to open is kept by all that follows. -/
theorem islandPathsAndFault : Obligations.IslandPathsAndFault := by
  refine ⟨?sc, ?oc, ?within, ?clearSc, ?clearOc, ?foc, ?didt, ?notYet, ?inactive, ?differs, ?faults, ?agrees, ?coils, ?removal⟩
  case sc =>
    intro s n i tc sized armed declared active
    obtain ⟨paths, cut, open_⟩ := State.directTrip_shows tc sized armed declared active
    obtain ⟨sc, oc, -⟩ := IslandString.of_paths paths
    exact ⟨_, exec_scOcCrossing n .sc i tc s, sc, oc, cut, open_⟩
  case oc =>
    intro s n i tc sized armed declared active
    obtain ⟨paths, cut, open_⟩ := State.directTrip_shows tc sized armed declared active
    obtain ⟨sc, oc, -⟩ := IslandString.of_paths paths
    exact ⟨_, exec_scOcCrossing n .oc i tc s, oc, sc, cut, open_⟩
  case within =>
    intro s n path i tc inactive
    rw [exec_scOcCrossing, State.directTrip_inactive tc inactive]
  case clearSc =>
    intro s n tc t sized set old
    obtain ⟨sc, oc, -⟩ := IslandString.of_paths (State.twill_setIsl sized n ((s.isl n).withLatch none .sc) 0 tc)
    exact ⟨_, exec_directLatchClear_old (path := .sc) set old, sc, oc⟩
  case clearOc =>
    intro s n tc t sized set old
    obtain ⟨sc, oc, -⟩ := IslandString.of_paths (State.twill_setIsl sized n ((s.isl n).withLatch none .oc) 0 tc)
    exact ⟨_, exec_directLatchClear_old (path := .oc) set old, oc, sc⟩
  case foc =>
    intro s n i tc sized armed declared active long
    obtain ⟨-, -, foc, didt, -⟩ := IslandString.of_paths (State.twill_setIsl sized n ((s.isl n).withInput true .foc) 0 tc)
    exact ⟨_, exec_filteredPathExpiry_long armed declared active long, foc, didt⟩
  case didt =>
    intro s n i tc sized armed declared active long
    obtain ⟨-, -, foc, didt, -⟩ := IslandString.of_paths (State.twill_setIsl sized n ((s.isl n).withInput true .didt) 0 tc)
    exact ⟨_, exec_filteredPathExpiry_long armed declared active long, didt, foc⟩
  case notYet =>
    intro s n path i tc h
    refine congrArg Host.Outcome.next (if_neg ?_)
    rcases h with inactive | early
    · rw [inactive]
      exact Bool.false_ne_true
    · rw [decide_eq_false (Nat.not_le.mpr early), Bool.and_false]
      exact Bool.false_ne_true
  case inactive =>
    intro s n tc sized armed declared
    obtain ⟨t, run, paths⟩ := exec_filteredPathInactive (path := .foc) (tc := tc) sized armed declared
    obtain ⟨u, run', paths'⟩ := exec_filteredPathInactive (path := .didt) (tc := tc) sized armed declared
    obtain ⟨-, -, foc, didt, focTc, -⟩ := IslandString.of_paths paths
    obtain ⟨-, -, foc', didt', -, didtTc⟩ := IslandString.of_paths paths'
    exact ⟨t, u, run, run', foc, focTc, didt, didt', didtTc, foc'⟩
  case differs =>
    intro s skew tc skewNonzero alike
    obtain ⟨skewed, since, stat, -⟩ := (s.skewed skew).clockDone_keeps 0 tc
    obtain ⟨skewed', noted, stat'⟩ := State.compareChannels_begins tc (since.trans alike) (Prt.differ_of_skew (skewed.symm ▸ skewNonzero))
    exact ⟨_, exec_islandFault s skew tc, skewed'.trans skewed, noted, State.flag_of_rd (stat'.trans stat)⟩
  case faults =>
    intro s skew tc t since long sound
    obtain ⟨-, since', stat, -⟩ := (s.skewed skew).clockDone_keeps 0 tc
    obtain ⟨shown, at_, pairs⟩ := State.compareChannels_faults tc (since'.trans since) long ((State.flag_of_rd stat).trans sound)
    exact ⟨_, exec_islandFault s skew tc, shown, at_, fun n h armed => pairs ((State.flag_of_rd stat).trans armed) n h⟩
  case agrees =>
    intro s tc t armed latches since short
    obtain ⟨-, since', stat, count⟩ := (s.skewed 0).clockDone_keeps 0 tc
    have alike := State.clockDone_alike (s := s.skewed 0) 0 tc armed latches rfl
    obtain ⟨ended, stat', raised⟩ := State.compareChannels_short tc (since'.trans since) short alike
    exact ⟨_, exec_islandFault s 0 tc, ended, State.flag_of_rd (stat'.trans stat), raised.ofSameCount (State.fld_of_rd count)⟩
  case coils =>
    intro s tc fault due
    have run : exec (.islandFaultCoilTimeout tc) s = .next (s.dropAll tc) := congrArg Host.Outcome.next (if_pos (by rw [fault, due]; rfl))
    exact ⟨_, run, State.dropAll_off tc⟩
  case removal =>
    intro s tc
    have follows : Opening Prt.compared [] ((forUpTo 8 (fun n s => s.openPair n tc) s).put F.PRT_STAT_REMOVE 1) _ := State.trimTrips_opening _
    refine ⟨_, rfl, follows.island.fld.trans (State.fld_put_same _ _ _ (by decide)), fun n h armed => follows.pair n ?_⟩
    exact (State.fld_put_addr _ _ (by simp only [F.BRK_S_STAT_PAIR, F.PRT_STAT_REMOVE]; omega)).trans (State.openPairs_open tc armed n h)

end Sys2Proof.Machine
end

section
/-! Breakers: the filtered status, the faults of a breaker and its timers (R245, R248, R251, R252). -/
namespace Sys2Proof.Machine

open Sys2Proof

-- Default arguments by tactic wait for the declarations before: begun all at once the proofs below would each hold a thread and its stack.
set_option Elab.async false

/-! A fault is detected (R248, R252). -/

theorem State.shown_of_opening {α : Type} {f : Prt → α} {l : List Nat} {r s : State} (h : Opening f l r s) (n : Nat) :
    s.fld (F.BRK_S_STAT_FAULT n) = r.fld (F.BRK_S_STAT_FAULT n) ∧ s.flag (F.BRK_S_STAT_BFLT n) = r.flag (F.BRK_S_STAT_BFLT n) ∧
    s.flag (F.BRK_S_STAT_BST n) = r.flag (F.BRK_S_STAT_BST n) := by
  have place : 0x80104 + 0x10 * (n % 8) < 0x80200 ∧ (0x80104 + 0x10 * (n % 8)) / 0x10000 = 8 := by omega
  refine ⟨h.shown _ place.2 place.1 ?_, congrArg (· == 1) (h.shown _ place.2 place.1 ?_), congrArg (· == 1) (h.shown _ place.2 place.1 ?_)⟩
  all_goals simp [F.BRK_S_STAT_FAULT, F.BRK_S_STAT_BFLT, F.BRK_S_STAT_BST]

/-- The fault is shown, and what follows it only opens. -/
theorem State.brkFault_opening (s : State) (n c : Nat) (tc : Tc) : Opening Prt.rest twillObjs (s.put (F.BRK_S_STAT_FAULT n) c) (s.brkFault n c tc) := by
  unfold State.brkFault
  extract_lets u _ v w
  have arose : Opening Prt.compared twillObjs u v := State.setIsl_opening
  have follows : Opening Prt.compared twillObjs v w := .ite (v.dropContactors_opening n tc).strung (.ite (v.openPair_opening n tc) .refl)
  exact (arose.trans follows).compared.latched.trans (w.twill_opening _ tc)

/-- FAULT shows the code; the filtered inputs stay. -/
theorem State.brkFault_shows (s : State) (n : Nat) {c : Nat} (tc : Tc) (h : c < 16) : (s.brkFault n c tc).fld (F.BRK_S_STAT_FAULT n) = c ∧
    (s.brkFault n c tc).flag (F.BRK_S_STAT_BFLT n) = s.flag (F.BRK_S_STAT_BFLT n) ∧ (s.brkFault n c tc).flag (F.BRK_S_STAT_BST n) = s.flag (F.BRK_S_STAT_BST n) := by
  obtain ⟨fault, bflt, bst⟩ := State.shown_of_opening (s.brkFault_opening n c tc) n
  refine ⟨fault.trans ?_, bflt.trans ?_, bst.trans ?_⟩
  · rw [State.fld_put_same _ _ _ (by simp [F.BRK_S_STAT_FAULT])]
    exact Nat.mod_eq_of_lt h
  · exact State.flag_put_bits _ _ (.inl (by simp [F.BRK_S_STAT_BFLT, F.BRK_S_STAT_FAULT]))
  · exact State.flag_put_bits _ _ (.inl (by simp [F.BRK_S_STAT_BST, F.BRK_S_STAT_FAULT]))

/-- Fault 2 returns the pair of an armed island to open drive. -/
theorem State.brkFault_pair {s : State} (n : Nat) (tc : Tc) (armed : s.armed = true) : (s.brkFault n 2 tc).fld (F.BRK_S_STAT_PAIR n) = pairOpen := by
  unfold State.brkFault
  extract_lets u _ v w
  have armed' : v.armed = true := (State.flag_put_addr s 2 (by simp only [F.PRT_STAT_ARMED, F.BRK_S_STAT_FAULT]; omega)).trans armed
  have opened : w = v.openPair n tc := rfl
  exact (w.twill_opening _ tc).pair n (opened ▸ v.openPair_opens n tc armed')

/-! The filtered status (R252). -/

/-- The record of a string changes beside its paths, and its contactors drop. -/
theorem State.setIslDrop_opening {l : List Nat} {s : State} {n : Nat} {x : IslandString} (tc : Tc) (h : x.paths = (s.isl n).paths := by rfl) :
    Opening Prt.compared l s ((s.setIsl n x).dropContactors n tc) := (State.setIsl_opening h).trans (State.dropContactors_opening ..).strung

/-- The breaker time of a string changes, and is shown (R261). -/
theorem State.setIslTime_opening {s : State} {n : Nat} {x : IslandString} (d : Nat) (h : x.paths = (s.isl n).paths := by rfl) :
    Opening Prt.compared (recordObjs n) s ((s.setIsl n x).put (F.PRT_S_TRIP_INFO_BRK_TIME n) d) :=
  (State.setIsl_opening h).trans
    (.putIsland _ _ _ (by simp only [F.PRT_S_TRIP_INFO_BRK_TIME]; omega) (by simp [recordObjs, F.PRT_S_TRIP_INFO_BRK_TIME]))

theorem State.brkOpened_opening (s : State) (n : Nat) (tc : Tc) : Opening Prt.compared (recordObjs n) s (s.brkOpened n tc) := by
  unfold State.brkOpened
  extract_lets x u _ v _ w
  have timed : Opening Prt.compared (recordObjs n) s u := by
    dsimp only [u]
    split
    · exact .ite (State.setIslTime_opening _) State.setIsl_opening
    · exact .refl
  have closed : Opening Prt.compared (recordObjs n) u v := State.setIsl_opening
  have dropped : Opening Prt.compared (recordObjs n) v w := .ite (State.setIslDrop_opening tc) .refl
  exact ((timed.trans closed).trans dropped).trans (w.faultCoils_opening tc)

/-- What a change of the status brings about in a string, before the Twill sees it. -/
def State.statusTaken (s : State) (n : Nat) (closed : Bool) (tc : Tc) : State :=
  if closed then
    (if s.strState n == ssPrecharge && (s.isl n).preStart.isNone then s.setIsl n { s.isl n with preStart := some tc } else s)
  else s.brkOpened n tc

theorem State.statusTaken_opening (s : State) (n : Nat) (closed : Bool) (tc : Tc) : Opening Prt.compared (recordObjs n) s (s.statusTaken n closed tc) :=
  .ite (.ite State.setIsl_opening .refl) (s.brkOpened_opening n tc)

/-- A change of the status is shown and taken; outside its interval it is fault 3. -/
theorem exec_breakerStatusChange {s : State} {n : Fin 8} {closed : Bool} {tc : Tc} (change : s.flag (F.BRK_S_STAT_BST n) ≠ closed) (declared : s.declared n = true) :
    ∃ u, Opening Prt.compared (recordObjs n) (s.putFlag (F.BRK_S_STAT_BST n) closed) u ∧
      exec (.breakerStatusChange n closed tc) s = .next (if s.bstExpected n tc then u.twill 0 tc else u.brkFault n 3 tc) :=
  ⟨(((s.putFlag (F.BRK_S_STAT_BST n) closed).noteBits n tc).statusTaken n closed tc), (State.noteBits_opening ..).trans (State.statusTaken_opening ..),
    if_neg (by simp [change, declared])⟩

/-! The input BFLT (R252). -/

/-- A rise of BFLT is fault 4; any other change is seen by the Twill. -/
theorem exec_bfltChange {s : State} {n : Fin 8} (active : Bool) (tc : Tc) (declared : s.declared n = true) :
    ∃ u, Opening Prt.compared [] (s.putFlag (F.BRK_S_STAT_BFLT n) active) u ∧ exec (.bfltChange n active tc) s =
      .next (if active && !s.flag (F.BRK_S_STAT_BFLT n) then u.brkFault n 4 tc else u.twill 0 tc) :=
  ⟨_, State.noteBits_opening _ n tc, if_neg (by rw [declared]; decide)⟩

/-! The timers (R245, R252). -/

theorem State.dropContactors_isl (s : State) (n : Nat) (tc : Tc) (m : Nat) : (s.dropContactors n tc).isl m = s.isl m :=
  congrArg (fun p => p.2.getD m IslandString.reset) (s.dropContactors_opening (l := []) n tc).record

/-- What waits for T_BRK_OPEN after Y(8+s) opens, and leaves the time since which the pair has its drive. -/
theorem State.dropAfter_opening {l : List Nat} (s : State) (n : Nat) (tc : Tc) :
    Opening Prt.compared l s (s.dropAfter n tc) ∧ ((s.dropAfter n tc).isl n).pairSince = (s.isl n).pairSince := by
  unfold State.dropAfter
  split
  · split
    · refine ⟨State.setIslDrop_opening tc, ?_⟩
      rw [State.dropContactors_isl]
      exact State.isl_setIsl_kept IslandString.pairSince (by rfl) n
    · exact ⟨.refl, rfl⟩
  · exact ⟨.refl, rfl⟩

/-- A breaker that reads closed T_BRK_OPEN after open drive has fault 1. -/
theorem exec_brkOpenTimer_closed {s : State} {n : Fin 8} {tc : Tc} (open_ : s.fld (F.BRK_S_STAT_PAIR n) = pairOpen)
    (due : passed tc (s.isl n).pairSince (s.tBrkOpen n) = true) (closed : s.flag (F.BRK_S_STAT_BST n) = true) :
    ∃ u : State, exec (.brkOpenTimer n tc) s = .next (u.brkFault n 1 tc) := by
  obtain ⟨opening, since⟩ := s.dropAfter_opening (l := []) n tc
  have time : (s.dropAfter n tc).tBrkOpen n = s.tBrkOpen n := by
    rw [State.tBrkOpen, State.prtStr, State.img, State.sec, (s.dropAfter_moved n tc).same 6 rfl]
    rfl
  have dropped : Opening Prt.compared [] (s.dropAfter n tc) (if ((s.dropAfter n tc).isl n).dropWait then
      ((s.dropAfter n tc).setIsl n { (s.dropAfter n tc).isl n with dropWait := false }).dropContactors n tc else s.dropAfter n tc) :=
    .ite (State.setIslDrop_opening tc) .refl
  obtain ⟨-, -, bst⟩ := State.shown_of_opening (opening.trans dropped) n
  change ∃ u : State, execBrkOpenTimer n tc s = .next (u.brkFault n 1 tc)
  rw [execBrkOpenTimer]
  extract_lets u
  rw [if_pos (by rw [opening.pair n open_, since, time, due]; rfl), if_pos (bst.trans closed)]
  exact ⟨_, rfl⟩

/-- A breaker that reads open T_BRK_CLOSE after close drive has fault 2. -/
theorem exec_brkCloseTimer_open {s : State} {n : Fin 8} {tc : Tc} (close : s.fld (F.BRK_S_STAT_PAIR n) = pairClose)
    (due : passed tc (s.isl n).pairSince (s.tBrkClose n) = true) (open_ : s.flag (F.BRK_S_STAT_BST n) = false) :
    exec (.brkCloseTimer n tc) s = .next (s.brkFault n 2 tc) :=
  congrArg Host.Outcome.next (if_pos (by rw [close, due, open_]; rfl))

/-- Settles O27: what is shown stays through all that only opens; a fault shows its code after that. -/
theorem breakerStatusAndFaults : Obligations.BreakerStatusAndFaults := by
  refine ⟨?status, ?bflt, ?openTimer, ?closeTimer⟩
  case status =>
    intro s n closed tc change declared
    obtain ⟨u, opening, run⟩ := exec_breakerStatusChange (tc := tc) change declared
    obtain ⟨-, -, bst⟩ := State.shown_of_opening opening n
    have shown : u.flag (F.BRK_S_STAT_BST n) = closed :=
      bst.trans (State.flag_putFlag_same _ _ _ (by simp [F.BRK_S_STAT_BST]) (by simp [F.BRK_S_STAT_BST]))
    obtain ⟨fault, -, bst'⟩ := u.brkFault_shows n (c := 3) tc (by decide)
    obtain ⟨-, -, bst''⟩ := State.shown_of_opening (u.twill_opening 0 tc) n
    refine ⟨_, run, ?_, fun unexpected => ?_⟩
    · split
      · exact bst''.trans shown
      · exact bst'.trans shown
    · rw [if_neg (by rw [unexpected]; decide), fault]
  case bflt =>
    intro s n tc declared
    obtain ⟨u, opening, rise⟩ := exec_bfltChange true tc declared
    obtain ⟨v, opening', fall⟩ := exec_bfltChange false tc declared
    obtain ⟨-, bflt, -⟩ := State.shown_of_opening opening n
    obtain ⟨fault, bflt', -⟩ := State.shown_of_opening opening' n
    obtain ⟨four, risen, -⟩ := u.brkFault_shows n (c := 4) tc (by decide)
    obtain ⟨-, seen, -⟩ := State.shown_of_opening (u.twill_opening 0 tc) n
    obtain ⟨fault', fallen, -⟩ := State.shown_of_opening (v.twill_opening 0 tc) n
    have shown (b : Bool) : (s.putFlag (F.BRK_S_STAT_BFLT n) b).flag (F.BRK_S_STAT_BFLT n) = b :=
      State.flag_putFlag_same _ _ _ (by simp [F.BRK_S_STAT_BFLT]) (by simp [F.BRK_S_STAT_BFLT])
    refine ⟨_, _, rise, fall, ?_, fun low => ?_, fallen.trans (bflt'.trans (shown false)), fault'.trans (fault.trans ?_)⟩
    · split
      · exact risen.trans (bflt.trans (shown true))
      · exact seen.trans (bflt.trans (shown true))
    · rw [low, Bool.not_false, Bool.and_self, if_pos rfl, four]
    · exact State.fld_put_bits _ _ (.inr (by simp [F.BRK_S_STAT_BFLT, F.BRK_S_STAT_FAULT]))
  case openTimer =>
    intro s n tc open_ due closed
    obtain ⟨u, run⟩ := exec_brkOpenTimer_closed open_ due closed
    exact ⟨_, run, (u.brkFault_shows n tc (by decide)).1⟩
  case closeTimer =>
    intro s n tc armed close due open_
    exact ⟨_, exec_brkCloseTimer_open close due open_, (s.brkFault_shows n tc (by decide)).1, State.brkFault_pair n tc armed⟩

end Sys2Proof.Machine
end

section
/-! Requests: commands to a string and to the auxiliary drivers as they arrive at the island, and their refusals (R257, R260, R263). -/
namespace Sys2Proof.Machine

open Sys2Proof

-- Default arguments by tactic wait for the declarations before: begun all at once the proofs below would each hold a thread and its stack.
set_option Elab.async false

/-! Refusals. -/

/-- BRK_REFUSE names the target and the code, and counts. -/
theorem State.refuseCmd_shows (s : State) {target c : Nat} (ht : target < 16) (hc : c < 256) : (s.refuseCmd target c).fld F.BRK_REFUSE_CODE = c ∧
    (s.refuseCmd target c).fld F.BRK_REFUSE_TARGET = target ∧ (s.refuseCmd target c).fld F.BRK_REFUSE_CNT = (s.fld F.BRK_REFUSE_CNT + 1) % 2 ^ 16 := by
  refine ⟨?_, ?_, ?_⟩
  · rw [State.refuseCmd, State.fld_put_same _ _ _ (by decide)]
    exact Nat.mod_eq_of_lt hc
  · rw [State.refuseCmd, State.fld_put_bits _ _ (by decide), State.fld_put_same _ _ _ (by decide)]
    exact Nat.mod_eq_of_lt ht
  · rw [State.refuseCmd, State.fld_put_bits _ _ (by decide), State.fld_put_bits _ _ (by decide), State.bump_eq, State.fld_put_same _ _ _ (by decide)]
    rfl

/-- The island counts a refusal of a transfer that may also be stale. -/
theorem State.noteStale_refuses (s : State) (o : Origin) {target c : Nat} (ht : target < 16) (hc : c < 256) : ((s.noteStale o 4).refuseCmd target c).prt = s.prt ∧
    ((s.noteStale o 4).refuseCmd target c).fld F.BRK_REFUSE_CODE = c ∧ ((s.noteStale o 4).refuseCmd target c).fld F.BRK_REFUSE_TARGET = target ∧
    ((s.noteStale o 4).refuseCmd target c).fld F.BRK_REFUSE_CNT = (s.fld F.BRK_REFUSE_CNT + 1) % 2 ^ 16 := by
  have moved := s.noteStale_moved o 4
  obtain ⟨code, named, count⟩ := (s.noteStale o 4).refuseCmd_shows ht hc
  exact ⟨moved.same 12 rfl, code, named, count.trans (by rw [moved.fld 8])⟩

theorem State.arrivalRefusal_blocked {s : State} (o : Origin) (blocked : s.islBlocked = true) : s.arrivalRefusal o = some rfIslFault := if_pos blocked

/-! Commands to a string (R257). -/

theorem exec_close (n : Fin 8) (o : Origin) (s : State) : exec (.close n o) s = .next (s.queueCmd n cmdClose o) := rfl

theorem exec_reset (n : Fin 8) (o : Origin) (s : State) : exec (.reset n o) s = .next (s.queueCmd n cmdReset o) := rfl

theorem exec_open (n : Fin 8) (o : Origin) (s : State) : exec (.open n o) s = .next (s.queueCmd n cmdOpen o) := rfl

/-- The firmware's check of the voltage does not forbid this MATCH (R260). -/
theorem exec_match_allowed {n : Fin 8} {o : Origin} {s : State} (allowed : s.matchChecked n = false ∨ s.matchGood n = true) :
    exec (.match n o) s = .next (s.queueCmd n cmdMatch o) := by
  refine congrArg Host.Outcome.next (if_neg ?_)
  rcases allowed with h | h <;> simp [h]

theorem exec_match_forbidden {n : Fin 8} {o : Origin} {s : State} (checked : s.matchChecked n = true) (bad : s.matchGood n = false) :
    exec (.match n o) s = .next (s.refuseCmd n rfVoltage) := congrArg Host.Outcome.next (if_pos (by rw [checked, bad]; rfl))

theorem State.queueCmd_blocked {s : State} (n c : Nat) (o : Origin) (blocked : s.islBlocked = true) :
    s.queueCmd n c o = (s.noteStale o 4).refuseCmd n rfIslFault := by
  rw [State.queueCmd, State.arrivalRefusal_blocked o blocked]

theorem State.queueCmd_open {s : State} (n : Nat) {o : Origin} (arrives : s.arrivalRefusal o = none) :
    s.queueCmd n cmdOpen o = s.setIsl n { s.isl n with openDue := some o } := by
  rw [State.queueCmd, arrives]
  rfl

theorem State.queueCmd_full {s : State} {n c : Nat} {o : Origin} (arrives : s.arrivalRefusal o = none) (waits : c ≠ cmdOpen) (full : 4 ≤ (s.isl n).queue.length) :
    s.queueCmd n c o = s.refuseCmd n rfQueueFull := by
  rw [State.queueCmd, arrives]
  exact (if_neg (by simp [waits])).trans (if_pos full)

theorem State.queueCmd_joins {s : State} {n c : Nat} {o : Origin} (arrives : s.arrivalRefusal o = none) (waits : c ≠ cmdOpen) (room : (s.isl n).queue.length < 4) :
    s.queueCmd n c o = s.setIsl n { s.isl n with queue := (s.isl n).queue ++ [(c, o)] } := by
  rw [State.queueCmd, arrives]
  exact (if_neg (by simp [waits])).trans (if_neg (Nat.not_le.mpr room))

/-- Settles O28: a command joins the queue, is noted, or is refused by the first code that applies. -/
theorem stringCommandsArrive : Obligations.StringCommandsArrive := by
  refine ⟨?joins, ?opens, ?full, ?blocked, ?voltage⟩
  case joins =>
    intro s n o arrives room
    refine ⟨?_, ?_, fun allowed => ?_⟩
    · rw [exec_close, State.queueCmd_joins arrives (by decide) room]
    · rw [exec_reset, State.queueCmd_joins arrives (by decide) room]
    · rw [exec_match_allowed allowed, State.queueCmd_joins arrives (by decide) room]
  case opens =>
    intro s n o arrives
    rw [exec_open, State.queueCmd_open n arrives]
  case full =>
    intro s n o arrives full
    obtain ⟨code, target, count⟩ := s.refuseCmd_shows (target := n) (c := rfQueueFull) (by omega) (by decide)
    exact ⟨_, (exec_close n o s).trans (congrArg _ (State.queueCmd_full arrives (by decide) full)), rfl, code, target, count⟩
  case blocked =>
    intro s n o blocked
    obtain ⟨prt, code, target, count⟩ := s.noteStale_refuses o (target := n) (c := rfIslFault) (by omega) (by decide)
    exact ⟨_, _, (exec_close n o s).trans (congrArg _ (State.queueCmd_blocked n _ o blocked)), (exec_open n o s).trans (congrArg _ (State.queueCmd_blocked n _ o blocked)),
      prt, prt, code, code, target, count⟩
  case voltage =>
    intro s n o checked bad
    obtain ⟨code, target, -⟩ := s.refuseCmd_shows (target := n) (c := rfVoltage) (by omega) (by decide)
    exact ⟨_, exec_match_forbidden checked bad, rfl, code, target⟩

end Sys2Proof.Machine
end

section
/-! Auxiliaries: the auxiliary drivers with their latches, and the release of a lockout (R244 to R246, R256, R263, R264). -/
namespace Sys2Proof.Machine

open Sys2Proof

-- Default arguments by tactic wait for the declarations before: begun all at once the proofs below would each hold a thread and its stack.
set_option Elab.async false

/-! Commands to the auxiliary drivers. -/

theorem State.auxCommand_arrives {s : State} {o : Origin} (act : State → State) (arrives : s.arrivalRefusal o = none) : s.auxCommand o act = act s := by
  rw [State.auxCommand, arrives]

theorem State.auxCommand_blocked {s : State} (o : Origin) (act : State → State) (blocked : s.islBlocked = true) :
    s.auxCommand o act = (s.noteStale o 4).refuseCmd 8 rfIslFault := by
  rw [State.auxCommand, State.arrivalRefusal_blocked o blocked]

theorem exec_auxOn (a : Fin 4) (o : Origin) (tc : Tc) (s : State) : exec (.auxOn a o tc) s = .next (s.auxCommand o (·.auxOn a tc)) := rfl

theorem exec_auxOff (a : Fin 4) (o : Origin) (tc : Tc) (s : State) : exec (.auxOff a o tc) s = .next (s.auxCommand o (·.auxOff a tc)) := rfl

theorem exec_auxReset (a : Fin 4) (o : Origin) (tc : Tc) (s : State) : exec (.auxReset a o tc) s = .next (s.auxCommand o (·.auxReset a tc)) := rfl

theorem exec_auxTrip (o : Origin) (tc : Tc) (s : State) : exec (.auxTrip o tc) s = .next (s.auxCommand o (·.auxTrip tc)) := rfl

/-! A driver is energised (R245, R256). -/

theorem State.switchDriver_energised (s : State) (k : Nat) (on : Bool) (tc : Tc) : (s.switchDriver k on tc).flag (F.BRK_CON_ENERGISED k) = on := by
  obtain ⟨verified, objs⟩ := s.switchDriver_objs k on tc
  have shown := s.driverShown_energised k on verified
  rcases objs with e | ⟨-, e⟩ <;> rw [State.flag_objs, e, ← State.flag_objs]
  · exact shown
  · exact (State.flag_put_bits _ _ (.inl (by simp [F.BRK_CON_ENERGISED, F.BRK_CON_FAULT]))).trans shown

theorem State.endFault_driverTc (s : State) (k : Nat) : (s.endFault k).prt.driverTc = s.prt.driverTc := by
  unfold State.endFault
  split
  · extract_lets
    split <;> rfl
  · rfl

theorem State.switchDriver_since {s : State} {k : Nat} (on : Bool) (tc : Tc) (inside : k < s.prt.driverTc.length) : (s.switchDriver k on tc).driverSince k = tc := by
  unfold State.switchDriver
  extract_lets u
  have counted : u.prt = (s.enableCoil k on).prt := (State.recCountIf_moved ..).same 12 rfl
  have times : u.prt.driverTc = s.prt.driverTc := by
    rw [counted]
    rfl
  rw [State.driverSince, State.endFault_driverTc]
  exact getD_setAt_same _ _ _ _ (times ▸ inside)

/-- An auxiliary driver in use, idle, that nothing holds is switched on. -/
theorem State.auxOn_free {s : State} {a : Fin 4} (tc : Tc) (idle : s.bit F.PRT_TWILL_OUT_Y (16 + a) = false) (used : s.conUsed (24 + a) = true)
    (supply : s.flag F.BRK_COIL_LOW = false) (armed : s.armed = true) (tested : s.testHeld (24 + a) = false) (pulse : s.onPulse (24 + a) = false)
    (off : s.flag (F.BRK_CON_ENERGISED (24 + a)) = false) : s.auxOn a tc = s.switchDriver (24 + a) true tc := by
  have held : s.driverHeld (24 + a) = false := by
    rw [State.driverHeld, if_neg (by omega), Nat.add_sub_cancel_left, idle]
  have ordered : s.auxOn a tc = s.energise (24 + a) true tc := by
    simp only [State.auxOn, idle, used, supply]
    rfl
  have used' : s.flag (F.BRK_CON_USED (24 + a)) = true := used
  refine ordered.trans ((if_neg ?_).trans (if_neg ?_))
  · change ¬ (!s.flag (F.BRK_CON_USED (24 + a)) || s.flag (F.BRK_CON_ENERGISED (24 + a)) == true ||
      (true && (s.driverHeld (24 + a) || !s.armed || s.testHeld (24 + a)))) = true
    rw [used', off, held, armed, tested]
    decide
  · change ¬ (true && s.onPulse (24 + a)) = true
    rw [pulse]
    decide

/-! An output latches (R244, R246). -/

theorem getLsbD_foldl_or {w : Nat} (c : Nat → Bool) (f : Nat → BitVec w) (i : Nat) (init : BitVec w) (l : List Nat) :
    (l.foldl (fun y j => if c j then y ||| f j else y) init).getLsbD i = (init.getLsbD i || l.any fun j => c j && (f j).getLsbD i) := by
  induction l generalizing init with
  | nil => simp
  | cons j l ih =>
    rw [List.foldl_cons, ih, List.any_cons]
    cases c j <;> simp [Bool.or_assoc]

theorem getLsbD_twoPow_self {w i : Nat} (h : i < w) : (BitVec.ofNat w (2 ^ i)).getLsbD i = true := by
  rw [BitVec.getLsbD_ofNat, Nat.testBit_two_pow_self, decide_eq_true h]
  rfl

/-- An output is active where its mask meets the inputs. -/
theorem State.outputsOf_bit (s : State) (x : BitVec 64) {j : Nat} (h : j < 20) : (s.outputsOf x).getLsbD j = (x &&& s.outMask j != 0) := by
  rw [State.outputsOf, getLsbD_foldl_or (fun j => x &&& s.outMask j != 0)]
  have one (i : Nat) : (BitVec.ofNat 20 (2 ^ i)).getLsbD j = decide (i = j) := by
    rw [BitVec.getLsbD_ofNat, Nat.testBit_two_pow, decide_eq_true h, Bool.true_and]
  have zero : (0 : BitVec 20).getLsbD j = false := BitVec.getLsbD_zero
  rw [zero, Bool.false_or, Bool.eq_iff_iff]
  simp only [one, List.any_eq_true, Bool.and_eq_true, decide_eq_true_eq, List.mem_range]
  exact ⟨fun ⟨_, _, meets, same⟩ => same ▸ meets, fun meets => ⟨j, h, meets, rfl⟩⟩

theorem State.clockLatch1_bit (s : State) (pulse : BitVec 64) {j : Nat} (h : j < 20) :
    (s.clockLatch1 pulse).getLsbD j = (s.prt.ch1.latch.getLsbD j || s.clockInputs pulse &&& s.latchClass &&& s.outMask j != 0) := by
  rw [State.clockLatch1, State.latchOf, BitVec.getLsbD_or, State.outputsOf_bit _ _ h]

theorem State.clockLatch2_bit (s : State) (pulse : BitVec 64) {j : Nat} (h : j < 20) :
    (s.clockLatch2 pulse).getLsbD j = (s.prt.ch2.latch.getLsbD j || (s.clockInputs pulse ^^^ s.prt.skew) &&& s.latchClass &&& s.outMask j != 0) := by
  rw [State.clockLatch2, State.latchOf, BitVec.getLsbD_or, State.outputsOf_bit _ _ h]

/-- A latch of channel 1 holds its output on the clock and after it. -/
theorem State.clockLatch1_holds {s : State} {pulse : BitVec 64} {j : Nat} (latch : (s.clockLatch1 pulse).getLsbD j = true) :
    (s.clockNow pulse).getLsbD j = true ∧ (s.clockOut pulse).getLsbD j = true := by
  simp [State.clockNow, State.clockOut, State.clockOut1, State.outOf, latch]

/-- An input of the latch class that is active on the clock latches an output that masks it. -/
theorem State.clockLatch1_pulse {s : State} {i j : Nat} (hi : i < 64) (hj : j < 20) (latching : s.latchClass.getLsbD i = true)
    (masked : (s.outMask j).getLsbD i = true) : (s.clockLatch1 (BitVec.ofNat 64 (2 ^ i))).getLsbD j = true := by
  rw [State.clockLatch1_bit _ _ hj, Bool.or_eq_true, bne_iff_ne]
  refine .inr fun unmet => ?_
  have bit := congrArg (BitVec.getLsbD · i) unmet
  simp only [State.clockInputs, BitVec.getLsbD_and, BitVec.getLsbD_or, getLsbD_twoPow_self hi, latching, masked, Bool.or_true] at bit
  simp at bit

theorem State.outShown_out (s : State) (out : BitVec 20) : (s.outShown out).fld F.PRT_TWILL_OUT_Y = out.toNat := by
  have after : Opening Prt.compared [] (s.trimTrips.put F.PRT_TWILL_OUT_Y out.toNat) (s.outShown out) :=
    (Opening.forUpTo (fun n t => t.endDrop_opening n out) _).trans (State.trimTrips_opening _)
  rw [after.island.fld, State.fld_put_same _ _ _ (by decide)]
  exact Nat.mod_eq_of_lt out.isLt

/-- After a clock OUT_Y shows the outputs that stay. -/
theorem State.twill_out {s : State} (pulse : BitVec 64) (tc : Tc) (armed : s.armed = true) :
    (s.twill pulse tc).fld F.PRT_TWILL_OUT_Y = (s.clockOut pulse).toNat := by
  rw [State.twill_armed pulse tc armed, (State.compareChannels_opening _ tc).island.fld, State.clockDone, if_pos armed, State.outShown_out]

theorem State.bit_of_fld (s : State) (f : Field) {i : Nat} (h : i < f.w) : s.bit f i = (s.fld f).testBit i := by
  have bit : s.bit f i = (fieldOf (s.rd f.addr) (f.lo + i) 1 == 1) := rfl
  have small := fieldOf_lt (s.rd f.addr) (f.lo + i) 1
  have low := testBit_fieldOf (s.rd f.addr) (f.lo + i) 1 0
  rw [bit, State.fld_eq, testBit_fieldOf, decide_eq_true h, Bool.true_and]
  rw [Nat.add_zero, decide_eq_true Nat.one_pos, Bool.true_and] at low
  rw [← low]
  interval_cases fieldOf (s.rd f.addr) (f.lo + i) 1 <;> rfl

/-- The auxiliary drivers in use whose outputs are active are off. -/
theorem State.auxFollows_off (s : State) (before now : BitVec 20) (tc : Tc) : ∀ a < 4, now.getLsbD (16 + a) = true → s.conUsed (24 + a) = true →
    (forUpTo 4 (State.auxFollows before now tc) s).flag (F.BRK_CON_ENERGISED (24 + a)) = false := by
  refine forUpTo_each (I := fun t => ∀ k, t.conUsed k = s.conUsed k)
    (P := fun a t => now.getLsbD (16 + a) = true → s.conUsed (24 + a) = true → t.flag (F.BRK_CON_ENERGISED (24 + a)) = false) (fun _ => rfl)
    (fun i t h k => ((State.auxFollows_opening (l := []) before now tc i t).used k).trans (h k)) (fun i t _ h active used => ?_)
    (fun i j t _ _ h active used => (State.auxFollows_opening (l := []) before now tc i t).off _ (h active used))
  rw [State.auxFollows]
  split
  next => exact State.energise_off tc ((h _).trans used)
  next idle =>
    simp only [active, Bool.true_and, Bool.or_eq_true, not_or, Bool.not_eq_true] at idle
    exact idle.2

/-- A clock on which an auxiliary output is active leaves its driver off. -/
theorem State.twill_auxOff {s : State} (pulse : BitVec 64) (tc : Tc) {a : Nat} (h : a < 4) (armed : s.armed = true) (used : s.conUsed (24 + a) = true)
    (active : (s.clockNow pulse).getLsbD (16 + a) = true) : (s.twill pulse tc).flag (F.BRK_CON_ENERGISED (24 + a)) = false := by
  rw [State.twill_armed pulse tc armed]
  refine (State.compareChannels_opening _ tc).off _ ?_
  rw [State.clockDone, if_pos armed]
  refine (State.outShown_opening ..).off _ (State.auxFollows_off _ _ _ tc a h active ?_)
  exact ((State.stringsObey_opening ..).used _).trans used

/-! A latch is cleared (R263). -/

/-- The state in which the Twill evaluates the outputs again after one latch was cleared in both channels. -/
def State.latchCleared (s : State) (j : Nat) : State :=
  s.withPrt { s.prt with
    ch1 := { s.prt.ch1 with latch := s.prt.ch1.latch &&& ~~~(0 ||| BitVec.ofNat 20 (2 ^ j)) }
    ch2 := { s.prt.ch2 with latch := s.prt.ch2.latch &&& ~~~(0 ||| BitVec.ofNat 20 (2 ^ j)) } }

theorem State.clearLatches_one (s : State) (j : Nat) (tc : Tc) : s.clearLatches [j] tc = (s.latchCleared j).twill 0 tc := rfl

theorem getLsbD_cleared (v : BitVec 20) (j : Nat) (h : j < 20) : (v &&& ~~~(0 ||| BitVec.ofNat 20 (2 ^ j))).getLsbD j = false := by
  rw [BitVec.getLsbD_and, BitVec.getLsbD_not, BitVec.getLsbD_or, getLsbD_twoPow_self h, Bool.or_true, Bool.not_true, Bool.and_false, Bool.and_false]

/-- A cleared latch whose inputs are not active stays clear. -/
theorem State.latchCleared_stays {s : State} {j : Nat} (tc : Tc) (h : j < 20) (noSkew : s.prt.skew = 0) (inactive : s.causeActive j = false) :
    ((s.latchCleared j).twill 0 tc).prt.latch.getLsbD j = false := by
  have cause : s.twillInputs &&& s.latchClass &&& s.outMask j = 0 := by simpa [State.causeActive] using inactive
  have inputs : (s.latchCleared j).clockInputs 0 = s.twillInputs := BitVec.or_zero
  have unskewed (x : BitVec 64) : x ^^^ (s.latchCleared j).prt.skew = x := by
    rw [show (s.latchCleared j).prt.skew = 0 from noSkew]
    exact BitVec.xor_zero
  have latch1 : ((s.latchCleared j).clockLatch1 0).getLsbD j = false := by
    rw [State.clockLatch1_bit _ _ h, inputs]
    exact Bool.or_eq_false_iff.mpr ⟨getLsbD_cleared _ j h, bne_eq_false_iff_eq.mpr cause⟩
  have latch2 : ((s.latchCleared j).clockLatch2 0).getLsbD j = false := by
    rw [State.clockLatch2_bit _ _ h, unskewed, inputs]
    exact Bool.or_eq_false_iff.mpr ⟨getLsbD_cleared _ j h, bne_eq_false_iff_eq.mpr cause⟩
  rw [Prt.latch, BitVec.getLsbD_or, Bool.or_eq_false_iff]
  cases armed : (s.latchCleared j).armed
  · rw [State.twill_unarmed 0 tc armed]
    exact ⟨getLsbD_cleared _ j h, getLsbD_cleared _ j h⟩
  · obtain ⟨kept1, kept2, -⟩ := (State.twill_latched 0 tc armed).channels
    rw [kept1, kept2]
    exact ⟨latch1, latch2⟩

/-! A lockout is released (R264). -/

theorem State.isl_setIsl_other {s : State} {n m : Nat} (x : IslandString) (h : m ≠ n) : (s.setIsl n x).isl m = s.isl m := getD_setAt_other _ _ _ h

/-- The release of one string, where it is named and declared. -/
def State.releaseString (strs : Nat) (n : Nat) (s : State) : State :=
  if strs.testBit n && s.declared n then
    (s.setIsl n { s.isl n with direct := [], release := s.strState n == ssLockout }).put (F.PRT_S_CAP_STAT_LOCK_CNT n) 0
  else s

theorem exec_lockoutRelease {s : State} (strs : BitVec 8) {o : Origin} (allowed : s.portRefusal o = none) :
    exec (.lockoutRelease strs o) s = .next (forUpTo 8 (State.releaseString strs.toNat) s) := by
  change Host.Outcome.next (s.lockRelease strs.toNat o) = _
  rw [State.lockRelease, allowed]
  rfl

/-- The count of a string is cleared, and in LOCKOUT its release is noted. -/
def State.Released (s : State) (n : Nat) (t : State) : Prop :=
  t.fld (F.PRT_S_CAP_STAT_LOCK_CNT n) = 0 ∧ (t.isl n).direct = [] ∧ (t.isl n).release = (s.strState n == ssLockout)

/-- What a release leaves: the number of records, the declarations and the states of the strings. -/
def State.ReleaseKeeps (s t : State) : Prop := t.prt.Sized ∧ ∀ m, t.declared m = s.declared m ∧ t.strState m = s.strState m

theorem State.releaseString_keeps {s t : State} (strs n : Nat) (h : s.ReleaseKeeps t) : s.ReleaseKeeps (t.releaseString strs n) := by
  obtain ⟨sized, kept⟩ := h
  unfold State.releaseString
  split
  · refine ⟨⟨(length_setAt ..).trans sized.1, sized.2⟩, fun m => ⟨(kept m).1, Eq.trans ?_ (kept m).2⟩⟩
    exact State.fld_put_addr _ _ (by simp only [F.BRK_S_STAT_STATE, F.PRT_S_CAP_STAT_LOCK_CNT]; omega)
  · exact ⟨sized, kept⟩

theorem State.releaseString_released {s t : State} {strs n : Nat} (h : n < 8) (keeps : s.ReleaseKeeps t) (named : strs.testBit n = true)
    (declared : s.declared n = true) : s.Released n (t.releaseString strs n) := by
  obtain ⟨sized, kept⟩ := keeps
  obtain ⟨declared', state⟩ := kept n
  rw [State.releaseString, if_pos (by rw [named, declared', declared]; rfl)]
  have record := State.isl_setIsl_same sized ⟨n, h⟩ { t.isl n with direct := [], release := t.strState n == ssLockout }
  refine ⟨?_, congrArg IslandString.direct record, (congrArg IslandString.release record).trans (congrArg (· == ssLockout) state)⟩
  exact State.fld_put_same _ _ _ (by simp [F.PRT_S_CAP_STAT_LOCK_CNT])

theorem State.releaseString_other {s t : State} {strs i j : Nat} (less : j < i) (hi : i < 8) (h : s.Released j t) : s.Released j (t.releaseString strs i) := by
  obtain ⟨count, direct, release⟩ := h
  unfold State.releaseString
  split
  · have record := State.isl_setIsl_other { t.isl i with direct := [], release := t.strState i == ssLockout } (Nat.ne_of_lt less) (s := t)
    refine ⟨Eq.trans ?_ count, (congrArg IslandString.direct record).trans direct, (congrArg IslandString.release record).trans release⟩
    exact State.fld_put_addr _ _ (by simp only [F.PRT_S_CAP_STAT_LOCK_CNT]; omega)
  · exact ⟨count, direct, release⟩

/-- Every string named and declared is released. -/
theorem State.releaseStrings_released {s : State} (strs : Nat) (sized : s.prt.Sized) :
    ∀ n < 8, strs.testBit n = true → s.declared n = true → s.Released n (forUpTo 8 (State.releaseString strs) s) :=
  forUpTo_each (I := s.ReleaseKeeps) (P := fun n t => strs.testBit n = true → s.declared n = true → s.Released n t) ⟨sized, fun _ => ⟨rfl, rfl⟩⟩
    (fun i _ => State.releaseString_keeps strs i) (fun _ _ h => State.releaseString_released h)
    (fun _ _ _ less h released named declared => State.releaseString_other less h (released named declared))

/-- An auxiliary output that masks input 63 latches on the clock of AUX_TRIP: it is shown, and its driver is off. -/
theorem State.auxTrip_trips {s : State} (tc : Tc) (a : Fin 4) (armed : s.armed = true) (latching : s.latchClass.getLsbD 63 = true)
    (masked : (s.outMask (16 + a)).getLsbD 63 = true) (used : s.conUsed (24 + a) = true) :
    (s.auxTrip tc).prt.latch.getLsbD (16 + a) = true ∧ (s.auxTrip tc).bit F.PRT_TWILL_OUT_Y (16 + a) = true ∧
    (s.auxTrip tc).flag (F.BRK_CON_ENERGISED (24 + a)) = false := by
  have output : 16 + a.val < 20 := by omega
  have latch := State.clockLatch1_pulse (i := 63) (by decide) output latching masked
  obtain ⟨now, out⟩ := State.clockLatch1_holds latch
  refine ⟨?_, ?_, State.twill_auxOff _ tc a.isLt armed used now⟩
  · obtain ⟨kept, -⟩ := (State.twill_latched (BitVec.ofNat 64 (2 ^ 63)) tc armed).channels
    rw [State.auxTrip, Prt.latch, BitVec.getLsbD_or, kept, (s.clocked_channels _ tc).1, latch]
    rfl
  · rw [State.auxTrip, State.bit_of_fld _ _ output, State.twill_out _ tc armed]
    exact out

theorem State.auxReset_unused {s : State} {a : Fin 4} (tc : Tc) (unused : s.conUsed (24 + a) = false) : s.auxReset a tc = s := if_pos (by rw [unused]; rfl)

theorem State.auxReset_clears {s : State} {a : Fin 4} {tc : Tc} (used : s.conUsed (24 + a) = true) (inactive : s.causeActive (16 + a) = false)
    (rested : passed tc (s.prt.auxTc.getD a 0) (25000000 * s.prtBank 16 1) = true) (later : s.prt.latchTc.getD (16 + a) 0 ≠ tc) :
    s.auxReset a tc = (s.latchCleared (16 + a)).twill 0 tc := by
  have sameClock : (s.prt.latchTc.getD (16 + a) 0 == tc && s.prt.latch.getLsbD (16 + a)) = false := by rw [beq_eq_false_iff_ne.mpr later, Bool.false_and]
  rw [← State.clearLatches_one]
  exact (if_neg (by rw [used]; decide)).trans ((if_neg (by rw [inactive]; decide)).trans ((if_neg (by rw [rested]; decide)).trans
    (if_neg (by rw [sameClock]; decide))))

/-- Settles O31: a clock of the Twill keeps the latches that it sets, and leaves a driver off that its output drops. -/
theorem auxiliaryDrivers : Obligations.AuxiliaryDrivers := by
  refine ⟨?on, ?off, ?trip, ?unused, ?reset, ?release, ?blocked⟩
  case on =>
    intro s a o tc arrives idle used supply armed tested pulse off sized
    refine ⟨s.auxOn a tc, by rw [exec_auxOn, State.auxCommand_arrives _ arrives], ?_, ?_⟩
    · rw [State.auxOn_free tc idle used supply armed tested pulse off, State.switchDriver_energised]
    · rw [State.auxOn_free tc idle used supply armed tested pulse off]
      exact State.switchDriver_since true tc (by rw [sized.2]; omega)
  case off =>
    intro s a o tc arrives used
    exact ⟨s.auxOff a tc, by rw [exec_auxOff, State.auxCommand_arrives _ arrives], State.energise_off tc used⟩
  case trip =>
    intro s o tc a arrives armed latching masked used
    exact ⟨s.auxTrip tc, by rw [exec_auxTrip, State.auxCommand_arrives _ arrives], State.auxTrip_trips tc a armed latching masked used⟩
  case unused =>
    intro s a o tc arrives unused
    rw [exec_auxReset, State.auxCommand_arrives _ arrives, State.auxReset_unused tc unused]
  case reset =>
    intro s a o tc arrives used noSkew inactive rested later
    exact ⟨_, by rw [exec_auxReset, State.auxCommand_arrives _ arrives, State.auxReset_clears used inactive rested later],
      State.latchCleared_stays tc (by omega) noSkew inactive⟩
  case release =>
    intro s strs o n allowed sized named declared
    exact ⟨_, exec_lockoutRelease strs allowed, State.releaseStrings_released strs.toNat sized n n.isLt named declared⟩
  case blocked =>
    intro s a o tc blocked
    obtain ⟨kept, code, target, -⟩ := s.noteStale_refuses o (target := 8) (c := rfIslFault) (by decide) (by decide)
    refine ⟨(s.noteStale o 4).refuseCmd 8 rfIslFault, ?_, ?_, ?_, ?_, kept, code, target⟩
    · rw [exec_auxOn, State.auxCommand_blocked o _ blocked]
    · rw [exec_auxOff, State.auxCommand_blocked o _ blocked]
    · rw [exec_auxReset, State.auxCommand_blocked o _ blocked]
    · rw [exec_auxTrip, State.auxCommand_blocked o _ blocked]

end Sys2Proof.Machine
end

section
/-! Capture: the capture buffers, the phases of the insulation monitor and the collapse of a rail (R262, R266, R267). -/
namespace Sys2Proof.Machine

open Sys2Proof

-- Default arguments by tactic wait for the declarations before: begun all at once the proofs below would each hold a thread and its stack.
set_option Elab.async false

/-! A buffer freezes (R262). -/

theorem natLe_lt (l : List Byte) : natLe l < 256 ^ l.length := by
  induction l with
  | nil => exact Nat.one_pos
  | cons b l ih =>
    rw [natLe, List.length_cons, pow_succ']
    have small := b.isLt
    omega

theorem leAt_lt (l : List Byte) (off n : Nat) : leAt l off n < 256 ^ n :=
  (natLe_lt _).trans_le (Nat.pow_le_pow_right (by decide) (List.length_take_le n _))

/-- The words of the samples are shown in the buffer of a string. -/
def State.samplesShown (s : State) (n : Nat) (samples : List Byte) : State :=
  forUpTo 32 (fun w s => s.put (F.PRT_CAP_SAMPLES n w) (leAt samples (4 * w) 4)) s

theorem State.samplesShown_fld (s : State) (n : Nat) (samples : List Byte) :
    ∀ w < 32, (s.samplesShown n samples).fld (F.PRT_CAP_SAMPLES n w) = leAt samples (4 * w) 4 := by
  refine forUpTo_each (I := fun _ => True) (P := fun w t => t.fld (F.PRT_CAP_SAMPLES n w) = leAt samples (4 * w) 4) trivial (fun _ _ _ => trivial)
    (fun w t _ _ => ?_) (fun i j t less h shown => Eq.trans ?_ shown)
  · rw [State.fld_put_same _ _ _ (by simp [F.PRT_CAP_SAMPLES])]
    exact Nat.mod_eq_of_lt (leAt_lt samples (4 * w) 4)
  · exact State.fld_put_addr _ _ (by simp only [F.PRT_CAP_SAMPLES]; omega)

theorem State.samplesShown_isl (s : State) (n : Nat) (samples : List Byte) (m : Nat) : (s.samplesShown n samples).isl m = s.isl m :=
  forUpTo_keeps (P := fun t => t.isl m = s.isl m) rfl fun _ _ h => h

theorem exec_captureFreeze {s : State} {n : Fin 8} (l : List Byte) (due : (s.isl n).capDue = true) (free : s.flag (F.PRT_S_CAP_STAT_HELD n) = false) :
    exec (.captureFreeze n l) s = .next (((s.setIsl n { s.isl n with capDue := false }).samplesShown n
      ((List.range 128).map (sampleByte (s.isl n).ring (s.isl n).capTc l))).event (Ev.PRT_HELD n)) := if_pos (by rw [due, free]; rfl)

theorem State.held_event (s : State) (n : Nat) : (s.event (Ev.PRT_HELD n)).flag (F.PRT_S_CAP_STAT_HELD n) = true := by
  have flag : (s.put (F.PRT_S_CAP_STAT_HELD n) 1).flag (F.PRT_S_CAP_STAT_HELD n) = true :=
    State.flag_putFlag_same s _ true (by simp [F.PRT_S_CAP_STAT_HELD]) (by simp [F.PRT_S_CAP_STAT_HELD])
  exact (State.flag_put_bits _ _ (.inl (by simp [Ev.PRT_HELD, F.PRT_S_CAP_STAT_HELD, F.PRT_S_CAP_STAT_HELD_CNT]))).trans flag

theorem State.held_isl (s : State) (n m : Nat) : (s.event (Ev.PRT_HELD n)).isl m = s.isl m := rfl

theorem State.held_samples (s : State) (n w : Nat) : (s.event (Ev.PRT_HELD n)).fld (F.PRT_CAP_SAMPLES n w) = s.fld (F.PRT_CAP_SAMPLES n w) := by
  have flag : (s.put (F.PRT_S_CAP_STAT_HELD n) 1).fld (F.PRT_CAP_SAMPLES n w) = s.fld (F.PRT_CAP_SAMPLES n w) :=
    State.fld_put_addr _ _ (by simp only [F.PRT_CAP_SAMPLES, F.PRT_S_CAP_STAT_HELD]; omega)
  exact (State.fld_put_addr _ _ (by simp only [Ev.PRT_HELD, F.PRT_CAP_SAMPLES, F.PRT_S_CAP_STAT_HELD_CNT]; omega)).trans flag

/-! A phase of an injector ends (R266). -/

/-- The next phase begins, and the Twill sees the result. -/
def State.nextPhase (s : State) (tc : Tc) : State := (s.withPrt { s.prt with imdTc := tc }).twill 0 tc

theorem exec_imdPhaseEnd_due {s : State} (x : ImdMeasure) {tc : Tc} (role : s.fld F.PRT_IMD_STAT_ROLE = roleInjector)
    (due : passed tc s.prt.imdTc (250000 * s.prtBank 2 2) = true) : exec (.imdPhaseEnd x tc) s = .next ((s.imdPhase x).nextPhase tc) :=
  if_pos (by rw [role, due]; rfl)

theorem exec_imdPhaseEnd_early {s : State} (x : ImdMeasure) {tc : Tc} (early : passed tc s.prt.imdTc (250000 * s.prtBank 2 2) = false) :
    exec (.imdPhaseEnd x tc) s = .next s := if_neg (by rw [early, Bool.and_false]; decide)

/-- The Twill leaves the monitor as the phase left it. -/
theorem State.nextPhase_keeps (s : State) (tc : Tc) :
    (s.nextPhase tc).prt.imd = s.prt.imd ∧ (s.nextPhase tc).prt.imdTc = tc ∧
    ∀ g : Field, g.addr = 0x70020 ∨ g.addr = 0x70024 → (s.nextPhase tc).fld g = s.fld g := by
  have opening := (s.withPrt { s.prt with imdTc := tc }).twill_opening 0 tc
  obtain ⟨-, imd, since, -⟩ := opening.rest
  refine ⟨imd, since, fun g place => opening.island.fld ?_ ?_⟩
  · omega
  · rcases place with h | h <;> rw [h] <;> decide

/-- P and N end in the next phase. -/
theorem State.imdPhase_next {s : State} (x : ImdMeasure) (phase : s.fld F.PRT_IMD_STAT_PHASE < 2) :
    (s.imdPhase x).fld F.PRT_IMD_STAT_PHASE = s.fld F.PRT_IMD_STAT_PHASE + 1 ∧ (s.imdPhase x).prt.imd.length = s.prt.imd.length + 1 := by
  unfold State.imdPhase
  extract_lets _ _ _ u
  rw [if_pos phase]
  refine ⟨?_, List.length_append⟩
  rw [State.fld_put_same _ _ _ (by decide)]
  exact Nat.mod_eq_of_lt (by change _ < 4; omega)

/-- The monitor after its phase O, before a result (R266). -/
def State.cycleEnded (s : State) : State := (s.withPrt { s.prt with imd := [] }).put F.PRT_IMD_STAT_PHASE 0

/-- Drift in phase O: the module becomes a listener without a result (R266). -/
def State.foreignSource (s : State) : State :=
  ((((s.putFlag F.PRT_IMD_STAT_FOREIGN true).event Ev.PRT_FOREIGN).put F.PRT_IMD_STAT_ROLE roleListener).put F.PRT_IMD_STAT_PHASE 3).put F.PRT_IMD_STAT_RESULT 0

theorem State.imdPhase_foreign {s : State} {x : ImdMeasure} (phase : 2 ≤ s.fld F.PRT_IMD_STAT_PHASE) (drift : 100 * s.prtBank 10 1 < x.drift) :
    s.imdPhase x = s.cycleEnded.foreignSource :=
  (if_neg (Nat.not_lt.mpr phase)).trans (if_pos (decide_eq_true drift))

theorem State.foreignSource_shows (s : State) :
    s.foreignSource.fld F.PRT_IMD_STAT_ROLE = roleListener ∧ s.foreignSource.fld F.PRT_IMD_STAT_FOREIGN = 1 ∧
    s.foreignSource.fld F.PRT_IMD_STAT_RESULT = 0 ∧ s.foreignSource.fld F.PRT_IMD_STAT_PHASE = 3 := by
  unfold State.foreignSource
  refine ⟨?_, ?_, State.fld_put_same _ _ _ (by decide), ?_⟩
  · rw [State.fld_put_bits _ _ (by decide), State.fld_put_bits _ _ (by decide)]
    exact State.fld_put_same _ _ _ (by decide)
  · rw [State.fld_put_bits _ _ (by decide), State.fld_put_bits _ _ (by decide), State.fld_put_bits _ _ (by decide), State.event_eq,
      State.fld_put_addr _ _ (by decide), State.fld_put_addr _ _ (by decide)]
    exact State.fld_put_same _ _ _ (by decide)
  · rw [State.fld_put_bits _ _ (by decide)]
    exact State.fld_put_same _ _ _ (by decide)

theorem State.imdPhase_cycle {s : State} {x : ImdMeasure} {p n : ImdPhase} (phase : 2 ≤ s.fld F.PRT_IMD_STAT_PHASE) (quiet : x.drift ≤ 100 * s.prtBank 10 1)
    (measured : s.prt.imd = [p, n]) (high : 1000 * s.prtBank 8 2 ≤ x.low.vp + x.low.vn) :
    s.imdPhase x = s.cycleEnded.imdCycle p n ⟨x.mean.vp, x.mean.vn, false, false⟩ := by
  have noDrift : decide (100 * s.prtBank 10 1 < x.drift) = false := decide_eq_false (Nat.not_lt.mpr quiet)
  have notLow : decide (railsU x.low < 1000 * s.prtBank 8 2) = false := decide_eq_false (Nat.not_lt.mpr high)
  unfold State.imdPhase
  rw [noDrift, notLow, if_neg (Nat.not_lt.mpr phase), measured]
  rfl

/-- A result leaves the island's record, and the objects of the monitor beside RESULT. -/
theorem State.putResultImd_keeps (s : State) (r : Nat) : (s.putResultImd r).prt = s.prt ∧
    ∀ g : Field, g.addr = 0x70024 ∨ g.addr = 0x70020 ∧ 4 ≤ g.lo → (s.putResultImd r).fld g = s.fld g := by
  unfold State.putResultImd
  extract_lets was u
  have events : Writes 7 [0x70004, 0x7000c] u ((u.eventIf (r == 2 && was != 2) Ev.PRT_INS_WARN).eventIf (r == 3 && was != 3) Ev.PRT_INS_FAULT) := by
    have warned : Writes 7 [0x70004, 0x7000c] u (u.eventIf (r == 2 && was != 2) Ev.PRT_INS_WARN) := .ite (Writes.refl.event _) .refl
    exact .ite (warned.event _) warned
  have counted := events.andMoved (State.recCountIf_moved _ (r == 3 && was != 3) cntInsulation)
  refine ⟨?_, fun g place => (counted.fld (by omega) ?_).trans ?_⟩
  · rw [(State.recCountIf_moved ..).same 12 rfl]
    have event (t : State) (c : Bool) (e : EventFlag) : (t.eventIf c e).prt = t.prt := by cases c <;> rfl
    rw [event, event]
    rfl
  · rcases place with h | ⟨h, -⟩ <;> rw [h] <;> decide
  · rcases place with h | ⟨-, high⟩
    · exact State.fld_put_addr _ _ (by rw [h]; decide)
    · exact State.fld_put_bits _ _ (.inr high)

/-- The state in which a cycle of positive determinant gives its result (R266). -/
def State.measured (s : State) (rp rn : Nat) : State :=
  let s := s.bump F.PRT_IMD_STAT_CYCLES
  ((s.withPrt { s.prt with discarded := 0 }).put F.PRT_IMD_R_RP rp).put F.PRT_IMD_R_RN rn

theorem insulationR_le (num den peers : Nat) : insulationR num den peers ≤ 65535 := by
  unfold insulationR
  extract_lets
  split
  · exact le_refl _
  · exact min_le_left ..

theorem State.imdCycle_stated {s : State} {p n o : ImdPhase} (good : p.low = false ∧ n.low = false ∧ o.low = false ∧ p.drift = false ∧ n.drift = false)
    (positive : p.vp * n.vn < p.vn * n.vp) : ∃ r, s.imdCycle p n o =
      (s.measured (insulationR (n.vn * (p.vp + p.vn)) (p.vn * n.vp - p.vp * n.vn) (s.prtBank 1 1))
        (insulationR (p.vp * (n.vp + n.vn)) (p.vn * n.vp - p.vp * n.vn) (s.prtBank 1 1))).putResultImd r := by
  obtain ⟨pLow, nLow, oLow, pDrift, nDrift⟩ := good
  have stated : decide (0 < ((p.vn * n.vp : Nat) - (p.vp * n.vn : Nat) : Int)) = true := decide_eq_true (by omega)
  have determinant : ((p.vn * n.vp : Nat) - (p.vp * n.vn : Nat) : Int).toNat = p.vn * n.vp - p.vp * n.vn := by omega
  unfold State.imdCycle
  rw [pLow, nLow, oLow, pDrift, nDrift]
  simp only [stated, determinant]
  exact ⟨_, rfl⟩

theorem State.measured_shows (s : State) {rp rn : Nat} (hp : rp ≤ 65535) (hn : rn ≤ 65535) :
    (s.measured rp rn).fld F.PRT_IMD_STAT_PHASE = s.fld F.PRT_IMD_STAT_PHASE ∧
    (s.measured rp rn).fld F.PRT_IMD_STAT_CYCLES = (s.fld F.PRT_IMD_STAT_CYCLES + 1) % 2 ^ 16 ∧
    (s.measured rp rn).fld F.PRT_IMD_R_RP = rp ∧ (s.measured rp rn).fld F.PRT_IMD_R_RN = rn ∧ (s.measured rp rn).prt.imd = s.prt.imd := by
  have monitor (g : Field) (place : g.addr = 0x70020) : (s.measured rp rn).fld g = (s.bump F.PRT_IMD_STAT_CYCLES).fld g :=
    (State.fld_put_addr _ _ (by rw [place]; decide)).trans (State.fld_put_addr _ _ (by rw [place]; decide))
  refine ⟨(monitor _ rfl).trans (State.fld_put_bits _ _ (by decide)), (monitor _ rfl).trans (State.fld_put_same _ _ _ (by decide)), ?_, ?_, rfl⟩
  · refine (State.fld_put_bits _ _ (by decide)).trans ((State.fld_put_same _ _ _ (by decide)).trans (Nat.mod_eq_of_lt ?_))
    exact Nat.lt_succ_of_le hp
  · exact (State.fld_put_same _ _ _ (by decide)).trans (Nat.mod_eq_of_lt (Nat.lt_succ_of_le hn))

theorem State.cycleEnded_shows (s : State) : s.cycleEnded.fld F.PRT_IMD_STAT_PHASE = 0 ∧
    s.cycleEnded.fld F.PRT_IMD_STAT_CYCLES = s.fld F.PRT_IMD_STAT_CYCLES ∧ s.cycleEnded.prt.imd = [] :=
  ⟨State.fld_put_same _ _ _ (by decide), State.fld_put_bits _ _ (by decide), rfl⟩

/-- A full cycle whose determinant is positive ends with its two resistances. -/
theorem State.imdPhase_measured {s : State} {x : ImdMeasure} {p n : ImdPhase} (phase : 2 ≤ s.fld F.PRT_IMD_STAT_PHASE) (quiet : x.drift ≤ 100 * s.prtBank 10 1)
    (measured : s.prt.imd = [p, n]) (high : 1000 * s.prtBank 8 2 ≤ x.low.vp + x.low.vn)
    (good : p.low = false ∧ n.low = false ∧ p.drift = false ∧ n.drift = false) (positive : p.vp * n.vn < p.vn * n.vp) : ∃ r, s.imdPhase x =
      (s.cycleEnded.measured (insulationR (n.vn * (p.vp + p.vn)) (p.vn * n.vp - p.vp * n.vn) (s.prtBank 1 1))
        (insulationR (p.vp * (n.vp + n.vn)) (p.vn * n.vp - p.vp * n.vn) (s.prtBank 1 1))).putResultImd r := by
  obtain ⟨pLow, nLow, drifts⟩ := good
  have bank : s.cycleEnded.prtBank 1 1 = s.prtBank 1 1 := rfl
  rw [State.imdPhase_cycle phase quiet measured high, ← bank]
  exact State.imdCycle_stated ⟨pLow, nLow, rfl, drifts⟩ positive

/-- What the end of such a cycle shows once the next one has begun. -/
theorem State.measured_ends (s : State) (tc : Tc) (r : Nat) {rp rn : Nat} (hp : rp ≤ 65535) (hn : rn ≤ 65535) :
    (((s.cycleEnded.measured rp rn).putResultImd r).nextPhase tc).fld F.PRT_IMD_STAT_PHASE = 0 ∧
    (((s.cycleEnded.measured rp rn).putResultImd r).nextPhase tc).fld F.PRT_IMD_STAT_CYCLES = (s.fld F.PRT_IMD_STAT_CYCLES + 1) % 2 ^ 16 ∧
    (((s.cycleEnded.measured rp rn).putResultImd r).nextPhase tc).fld F.PRT_IMD_R_RP = rp ∧
    (((s.cycleEnded.measured rp rn).putResultImd r).nextPhase tc).fld F.PRT_IMD_R_RN = rn ∧
    (((s.cycleEnded.measured rp rn).putResultImd r).nextPhase tc).prt.imd = [] := by
  obtain ⟨zero, counted, cleared⟩ := s.cycleEnded_shows
  obtain ⟨phase, cycles, shownP, shownN, imd⟩ := s.cycleEnded.measured_shows hp hn
  obtain ⟨record, kept⟩ := (s.cycleEnded.measured rp rn).putResultImd_keeps r
  obtain ⟨imd', -, shown⟩ := ((s.cycleEnded.measured rp rn).putResultImd r).nextPhase_keeps tc
  have through (g : Field) (place : g.addr = 0x70024 ∨ g.addr = 0x70020 ∧ 4 ≤ g.lo) := (shown g (by omega)).trans (kept g place)
  refine ⟨(through F.PRT_IMD_STAT_PHASE (by decide)).trans (phase.trans zero), ?_, (through F.PRT_IMD_R_RP (by decide)).trans shownP,
    (through F.PRT_IMD_R_RN (by decide)).trans shownN, ?_⟩
  · rw [through F.PRT_IMD_STAT_CYCLES (by decide), cycles, counted]
  · rw [imd', record, imd, cleared]

/-! A rail collapses (R267). -/

/-- COLLAPSE is shown or cleared, and the Twill sees it. -/
theorem State.collapse_shown (s : State) (b : Bool) (tc : Tc) :
    ((s.putFlag F.PRT_IMD_STAT_COLLAPSE b).twill 0 tc).flag F.PRT_IMD_STAT_COLLAPSE = b :=
  ((State.twill_opening _ 0 tc).island.flag (by decide) (by decide)).trans (State.flag_putFlag_same _ _ _ (by decide) (by decide))

theorem exec_collapseDetect {s : State} {tc : Tc} (role : s.fld F.PRT_IMD_STAT_ROLE ≠ 0) (collapsed : s.collapsed tc = true) :
    exec (.collapseDetect tc) s = .next ((s.putFlag F.PRT_IMD_STAT_COLLAPSE true).twill 0 tc) :=
  congrArg Host.Outcome.next (if_pos (by rw [collapsed, Bool.and_true]; exact bne_iff_ne.mpr role))

theorem exec_collapseDetect_none {s : State} {tc : Tc} (intact : s.collapsed tc = false) : exec (.collapseDetect tc) s = .next s :=
  congrArg Host.Outcome.next (if_neg (by rw [intact, Bool.and_false]; decide))

theorem exec_collapseClear {s : State} (tc : Tc) (good : s.prt.collapseFrom = none) :
    exec (.collapseClear tc) s = .next ((s.putFlag F.PRT_IMD_STAT_COLLAPSE false).twill 0 tc) := congrArg Host.Outcome.next (if_pos (by rw [good]; rfl))

theorem exec_collapseClear_low {s : State} {t0 : Tc} (tc : Tc) (low : s.prt.collapseFrom = some t0) : exec (.collapseClear tc) s = .next s :=
  congrArg Host.Outcome.next (if_neg (by rw [low]; exact Bool.false_ne_true))

/-- Settles O32: the Twill, which sees each result, leaves the monitor's record and its objects. -/
theorem captureAndInsulation : Obligations.CaptureAndInsulation := by
  refine ⟨?freeze, fun _ _ => rfl, ?next, fun _ x _ => exec_imdPhaseEnd_early x, ?foreign, ?cycle, ?collapses, fun _ _ => exec_collapseDetect_none, ?good,
    fun _ tc _ => exec_collapseClear_low tc⟩
  case freeze =>
    intro s n l sized due free
    refine ⟨_, exec_captureFreeze l due free, ?_, State.held_event _ n, fun w h => ?_⟩
    · rw [State.held_isl, State.samplesShown_isl, State.isl_setIsl_same sized]
    · rw [State.held_samples, State.samplesShown_fld _ n _ w h]
      rfl
  case next =>
    intro s x tc role due phase
    obtain ⟨imd, since, shown⟩ := (s.imdPhase x).nextPhase_keeps tc
    obtain ⟨next, longer⟩ := State.imdPhase_next x phase
    exact ⟨_, exec_imdPhaseEnd_due x role due, (shown F.PRT_IMD_STAT_PHASE (.inl rfl)).trans next, (congrArg List.length imd).trans longer, since⟩
  case foreign =>
    intro s x tc role due phase drift
    obtain ⟨-, -, shown⟩ := (s.imdPhase x).nextPhase_keeps tc
    obtain ⟨listener, foreign, result, rest⟩ := s.cycleEnded.foreignSource_shows
    rw [State.imdPhase_foreign phase drift] at shown
    refine ⟨_, exec_imdPhaseEnd_due x role due, ?_⟩
    rw [State.imdPhase_foreign phase drift]
    exact ⟨(shown F.PRT_IMD_STAT_ROLE (.inl rfl)).trans listener, (shown F.PRT_IMD_STAT_FOREIGN (.inl rfl)).trans foreign,
      (shown F.PRT_IMD_STAT_RESULT (.inl rfl)).trans result, (shown F.PRT_IMD_STAT_PHASE (.inl rfl)).trans rest⟩
  case cycle =>
    intro s x tc p n role due phase quiet measured high pLow nLow pDrift nDrift positive
    obtain ⟨r, ended⟩ := State.imdPhase_measured phase quiet measured high ⟨pLow, nLow, pDrift, nDrift⟩ positive
    refine ⟨_, exec_imdPhaseEnd_due x role due, ?_⟩
    rw [ended]
    exact State.measured_ends s tc r (insulationR_le ..) (insulationR_le ..)
  case collapses =>
    intro s tc t0 role low long
    exact ⟨_, exec_collapseDetect role (by rw [State.collapsed, low]; exact long), State.collapse_shown s true tc⟩
  case good =>
    intro s tc good
    exact ⟨_, exec_collapseClear tc good, State.collapse_shown s false tc⟩

end Sys2Proof.Machine
end

section
/-! Contactor timers: T_CLOSE after energising, on an island without a record of the string (R237, R255, R258). -/
namespace Sys2Proof.Machine

open Sys2Proof

-- Default arguments by tactic wait for the declarations before: begun all at once the proofs below would each hold a thread and its stack.
set_option Elab.async false

/-- A driver that is not verified closed T_CLOSE after it was energised has fault 5, and the table of its string is evaluated (R255, R258). -/
theorem exec_contactorCloseTimer_unverified {s : State} {k : Fin 28} {tc : Tc} (string : k.val < 24) (energised : s.flag (F.BRK_CON_ENERGISED k) = true)
    (due : passed tc (s.driverSince k) (s.tClose k) = true) (unverified : s.verified k true = false) :
    exec (.contactorCloseTimer k tc) s = .next ((s.conFault k 5 tc).timerString (k / 3) tc) := by
  change execContactorCloseTimer k tc s = _
  rw [execContactorCloseTimer, if_pos (by rw [energised, due]; rfl), if_neg (by rw [unverified]; decide)]
  exact congrArg Host.Outcome.next (if_pos string)

/-- The precharge driver of string 0. -/
def prechargeDriver : Fin 28 := 2

/-- An armed island that keeps no record of its strings; the channels have differed since instant 0. String 0 is in CLOSE_MN, its precharge driver is energised
and has a mirror input that reads open. Lane A holds the Lid. -/
def withoutStringRecords : State :=
  [(F.PRT_STAT_ARMED, 1), (F.BRK_S_STAT_STATE 0, ssCloseMn), (F.BRK_CON_USED 2, 1), (F.BRK_CON_ENERGISED 2, 1)].foldl (fun s e => s.put e.1 e.2)
    { State.reset with
      cfg := { Cfg.reset with sections := [(2, [1, 0, 0, 0]), (4, List.replicate 528 0 ++ [2])] }
      lan := { Lan.reset with pins := lidPins (some .a), back := lidPins (some .a) }
      prt := { Prt.reset with strs := [], diffTc := some 0 } }

theorem withoutStringRecords_hypotheses : withoutStringRecords.flag (F.BRK_CON_ENERGISED prechargeDriver) = true ∧
    passed 250 (withoutStringRecords.driverSince prechargeDriver) (withoutStringRecords.tClose prechargeDriver) = true ∧ withoutStringRecords.verified prechargeDriver true = false ∧
    withoutStringRecords.fld (F.BRK_CON_FAULT prechargeDriver) < 9 := by decide +kernel

/-- On the clock that detects fault 5 the difference becomes an island fault: every coil is de-energised, and the driver, then verified open, loses the fault.
That a fault has arisen is noted nowhere, so that the string goes on to CLOSE_PC, which energises the driver again. -/
theorem withoutStringRecords_goesOn : ((withoutStringRecords.conFault prechargeDriver 5 250).timerString (prechargeDriver.val / 3) 250).fld (F.BRK_CON_FAULT prechargeDriver) = 0 ∧
    ((withoutStringRecords.conFault prechargeDriver 5 250).timerString (prechargeDriver.val / 3) 250).flag (F.BRK_CON_ENERGISED prechargeDriver) = true := by decide +kernel

/-- Refutes O30: on a state whose island keeps no record of its strings, the fault that T_CLOSE finds ends as an island fault de-energises the driver, and the
string's table, which does not see that a fault has arisen, energises the driver again: no fault 5 stays, and the driver is not off. The first clause does not ask
for an island with its eight strings. -/
theorem not_contactorDrivers : ¬ Obligations.ContactorDrivers := by
  intro h
  obtain ⟨closeTimer, -⟩ := h
  obtain ⟨energised, due, unverified, fault⟩ := withoutStringRecords_hypotheses
  obtain ⟨t, run, shown⟩ := closeTimer withoutStringRecords prechargeDriver 250 energised due unverified fault
  have outcome := Host.Outcome.next.inj ((exec_contactorCloseTimer_unverified (by decide) energised due unverified).symm.trans run)
  obtain ⟨ended, again⟩ := withoutStringRecords_goesOn
  subst outcome
  rcases shown with five | ⟨-, off, -⟩
  · exact absurd (ended.symm.trans five) (by decide)
  · exact absurd (again.symm.trans off) (by decide)

end Sys2Proof.Machine
end
